-- ==== Sys2Proof/Word.lean ====
section
/-! DEFINITION. Words of the module and the plainest arithmetic on them (R7: bit 0 is the least significant
bit, a range [msb:lsb] includes both ends, multi-byte values are little-endian). -/

namespace Sys2Proof

/-- One byte of scratchpad, HBM, ring or fabric payload (R7). -/
abbrev Byte := BitVec 8

/-- A 32-bit lane or immediate. -/
abbrev W32 := BitVec 32

/-- A register, index register or payload word of 64 bits. -/
abbrev W64 := BitVec 64

/-- A table of like things by number (cores, contexts, dies): what is not listed has its reset value. -/
abbrev Tab (α : Type) := List (Nat × α)

/-- Bits [hi:lo] of a number (R7). -/
def bits (n hi lo : Nat) : Nat := n / 2 ^ lo % 2 ^ (hi + 1 - lo)

/-- Bit `i` of a number. -/
def bitAt (n i : Nat) : Bool := n / 2 ^ i % 2 == 1

/-- A flag as 0 or 1. -/
def b2n (b : Bool) : Nat := if b then 1 else 0

/-- Two's-complement reading of the low `w` bits of `n`. -/
def signedOf (w n : Nat) : Int :=
  if 2 ^ w ≤ 2 * (n % 2 ^ w) then (n % 2 ^ w : Int) - (2 ^ w : Int) else (n % 2 ^ w : Int)

/-- The low `w` bits of an integer, two's complement. -/
def wrapInt (w : Nat) (i : Int) : Nat := (i % (2 ^ w : Int)).toNat

/-- A field of `n` replaced: bits [lo + w - 1 : lo] become `v` modulo 2^w. -/
def putBits (n lo w v : Nat) : Nat :=
  n - bits n (lo + w - 1) lo * 2 ^ lo + v % 2 ^ w * 2 ^ lo

/-- `⌈a / b⌉`, with b = 0 giving 0. -/
def ceilDiv (a b : Nat) : Nat := (a + b - 1) / b

/-- A value held between two bounds. -/
def clampN (lo hi v : Nat) : Nat := min hi (max lo v)

end Sys2Proof
end

