-- ==== Sys2Proof/Syntax.lean ====
section
/-! DEFINITION. The commands of the module: one constructor of `Instr` for each row of spec/opcode_table.json, with
the operands the row's event has. What the outside world supplies with a command (bytes it offers, the verdict of a
physical or cryptographic check) is an operand; what the module itself holds is not. -/

namespace Sys2Proof

/-- The two transports of SPDM (R359): DOE on the PF and MCTP on the management bus. -/
inductive Transport where
  | doe | mctp
  deriving DecidableEq, Repr

/-- Whose key a token's signature verifies under (R361, R362); `nobody` when it fails. -/
inductive Signer where
  | owner (digest : Nat) | villaholt | nobody
  deriving DecidableEq, Repr

/-- A life-cycle token as it arrives (R362). -/
structure Token where
  opcode : Nat
  k : Nat
  serial : Nat
  nonce : Nat
  signer : Signer
  deriving DecidableEq, Repr

/-- A firmware image with the facts its verification asks for (R372, R373). -/
structure FwImage where
  readOk : Bool
  hdrOk : Bool
  keySlot : Nat
  pubDigest : Nat
  sigOk : Bool
  svn : Nat
  commitSvn : Bool
  bodyOk : Bool
  bodyLen : Nat
  lenOk : Bool
  major : Nat
  minor : Nat
  patch : Nat
  meas : Nat
  deriving DecidableEq, Repr

/-- What a push that a command starts meets: the image that the host's memory gives, none on a read error, and whether the flash
takes it (R375, R376). -/
structure PushIn where
  image : Option FwImage
  flashOk : Bool
  deriving DecidableEq, Repr

/-- How a posted write comes: whether the block is BUSY, and what a push that it starts meets (R436, R448). -/
structure WriteIn where
  busy : Bool
  push : PushIn
  deriving DecidableEq, Repr

/-- The clear header of an envelope, the verdicts on its wrapped key, tag and signature, and the plaintext body
(R363, R364). -/
structure Envelope where
  magic : Nat
  kind : Nat
  version : Nat
  serial : Nat
  k : Nat
  bodyLen : Nat
  keyOk : Bool
  tagOk : Bool
  sigOk : Bool
  body : List Byte
  deriving DecidableEq, Repr

/-- A piece of a weight package (R366): the envelope when the piece holds it, the decrypted bytes of the piece at
their package offsets, and the shards whose tag fails. -/
structure WpkgPiece where
  env : Option Envelope
  plain : List Byte
  badTags : List Nat
  deriving DecidableEq, Repr

/-- INFER input after decryption (R334, R368). -/
structure InferIn where
  tagOk : Bool
  data : List Byte
  deriving DecidableEq, Repr

/-- The key blob of SESSION_OPEN after unwrapping (R367). -/
structure KeyBlob where
  unwraps : Bool
  sessionId : Nat
  zeros : Bool
  serial : Nat
  deriving DecidableEq, Repr

/-- The authorisation of DEBUG_DUMP (R370). -/
structure DumpAuth where
  tok : Token
  ctx : Nat
  mask : Nat
  byte3 : Nat
  deriving DecidableEq, Repr

/-- A fabric packet as a port receives it (R284): the bytes of its header, its payload as the key that KPH names decrypts it
(as it came where it was sent in clear), its tag, and whether the tag holds under that key. -/
structure WirePkt where
  head : List Byte
  payload : List Byte
  tag : Nat
  tagOk : Bool
  deriving DecidableEq, Repr

/-- What an SPDM session has shown of a peer beside the verdict on its certificate chain (R289): its life-cycle state, its owner
key, its firmware's major version, and the generation it announced. -/
structure PeerFacts where
  lifeCycle : Nat
  ownerKey : Nat
  fwMajor : Nat
  gen : Nat
  deriving DecidableEq, Repr

/-- A membership record as it comes: its bytes, and whether the signature at their end verifies (R293). -/
structure SignedRec where
  bytes : List Byte
  sigOk : Bool
  deriving DecidableEq, Repr

/-- What makes a die stack a hard gap, and the stacks that no col tables can reach any more beside it (R223, R226). -/
structure Gapping (α : Type) where
  cause : α
  cut : List Nat
  deriving DecidableEq, Repr

/-- The outcome of decoding one codeword (R130, R131, R261). The poison pattern is state, not an operand. -/
inductive Ecc where
  | ok | ce | ue
  deriving DecidableEq, Repr

/-- A core or task slot whose command reads the scratchpad, and the outcomes of the codewords read, in order (R130). -/
structure Reading where
  unit : Nat
  ecc : List Ecc
  deriving DecidableEq, Repr

/-- What a fault shutdown is for (R457). -/
inductive ShutCause where
  | overvoltage | critical | sharedRail
  deriving DecidableEq, Repr

/-- A fast clock that demand starts (R459). -/
inductive ClockSel where
  | corePll | coreBranch (core : Nat) | ctlPll
  deriving DecidableEq, Repr

/-- An instruction of the test access port (R354, R482); the spec gives no opcodes. `extest` stands for every IEEE 1149.1
instruction that drives pins, `acTest` for the IEEE 1149.6 tests, `inner` for the internal instructions. -/
inductive JtagIr where
  | bypass | idcode | sample | extest | acTest | inner (code : Nat)
  deriving DecidableEq, Repr

/-- What the board and the parts answer during start-up (R463): straps, flash mode, link, HBM training, the
connectivity of the dies and the cores that fail the test a damaged ledger asks for (R29). -/
structure BootIn where
  mgmtMode : Bool
  mgmtAddr : Nat
  sfdpOctal : Bool
  linkWidth : Nat
  linkRate : Nat
  flitMode : Bool
  hbmFail : List Nat
  unreachable : List Nat
  testFail : List Nat
  deriving DecidableEq, Repr

/-- An HBM line returned by the array: the four codewords' outcomes and the on-die reports (R261). -/
structure LineEcc where
  cw : List Ecc
  odCe : Bool
  odUe : Bool
  deriving DecidableEq, Repr

/-- What a scrub read meets: the line's outcomes, and the rows of the on-die error log, which is read where a pass ends
(R263, R264). -/
structure ScrubRead where
  line : LineEcc
  log : List Nat
  deriving DecidableEq, Repr

/-- What the repair of a row finds: whether a noted uncorrectable error recurs, whether the bank has a spare row left, and the
codewords that cannot be corrected (R265). -/
structure RowFound where
  recurs : Bool
  spareLeft : Bool
  lost : List Nat
  deriving DecidableEq, Repr

/-- The four mesh directions and the core output (R445: 0 east, 1 west, 2 north, 3 south, 4 core). -/
inductive Dir where
  | east | west | north | south
  deriving DecidableEq, Repr

/-- Who agrees with the third core's digest (R389). -/
inductive ThirdEq where
  | checker | station | none
  deriving DecidableEq, Repr

/-- Why a stack is withdrawn (R271). -/
inductive WithdrawCause where
  | training | phy | baseDie
  deriving DecidableEq, Repr

/-- Commands of the module, one for each row of spec/opcode_table.json, in the table's order. `core` is a physical
core number, `slot` a task slot, `ctx` a context, `basin` a basin or stack, `die` a die number, `port` a Wewell port. -/
inductive Instr where
  -- power, clocks, start-up (17)
  | inputPowerRise (mv10 : Nat)
  | inputRange (mv10 : Nat)
  | powerFailShutdown
  | faultShutdown (cause : ShutCause)
  | stackRailFault (die : Nat) (hbmRail : Gapping Bool)
  | thermalThrottle (die sensor : Nat) (temp : Int)
  | hbmThermalThrottle (basin : Nat) (temp : Int)
  | refClockLost
  | refClockRestored
  | moduleReset
  | startUp (boot : BootIn)
  | startupClear
  | fastClockStart (die : Nat) (sel : ClockSel)
  | fastClockStop (die : Nat) (sel : ClockSel)
  | settingsRead
  | settingsWrite (magic version count : Nat) (entries : List (Nat × Nat))
  | ledgerRecordWritten
  | ledgerCompaction
  -- trust (13)
  | getVersion (tr : Transport)
  | getCapabilities (tr : Transport)
  | negotiateAlgorithms (tr : Transport) (offered : Bool)
  | getDigests (tr : Transport)
  | getCertificate (tr : Transport) (certSlot : Nat)
  | challenge (tr : Transport) (certSlot : Nat) (nonce : Nat)
  | getMeasurements (tr : Transport) (index : Nat)
  | keyExchange (tr : Transport)
  | finish (tr : Transport) (session : Nat) (macOk : Bool)
  | keyUpdate (tr : Transport) (session : Nat)
  | heartbeat (tr : Transport) (session : Nat)
  | endSession (tr : Transport) (session : Nat)
  | getNonce (tr : Transport) (session : Nat)
  | getTransportCert (tr : Transport) (session : Nat)
  | registerOwner (tr : Transport) (session : Nat) (tok : Token) (ownerDigest fmDigest : Nat)
  | setFmKey (tr : Transport) (session : Nat) (tok : Token) (fmSerial fmDigest : Nat)
  | returnLc (tr : Transport) (session : Nat) (tok : Token)
  | reprovision (tr : Transport) (session : Nat) (tok : Token)
  | ledgerClear (tr : Transport) (session : Nat) (tok : Token)
  | debugUnlock (tr : Transport) (session : Nat) (tok : Token)
  | lcRetire (tr : Transport) (session : Nat) (tok : Token)
  | provisioning (certDigest : Nat)
  | go (img : Option FwImage)
  | goPersist (img : Option FwImage) (flashOk : Bool)
  | pushComplete (boot : BootIn)
  | jtagInstruction (ir : JtagIr)
  -- host rings (12)
  | sqDoorbell (ctx ring value : Nat)
  | cqHead (ctx value : Nat)
  | msgHead (ctx value : Nat)
  | descriptorFetch (ctx : Nat) (desc : BitVec 512)
  | hostDmaFault (ctx : Nat) (ringFetch : Bool) (idx : Nat)
  | completionWrite (ctx : Nat)
  | messageRecordPlace (ctx : Nat)
  | interrupt (ctx : Nat) (msgRing timeUp : Bool)
  | hostNop (ctx : Nat)
  | stageImage (ctx : Nat) (env : Envelope)
  | stageWpkg (ctx : Nat) (piece : WpkgPiece)
  | loadLayout (ctx : Nat)
  | unloadLayout (ctx : Nat)
  | reloadScale (ctx : Nat)
  | infer (ctx : Nat) (inp : InferIn)
  | sessionOpen (ctx : Nat) (blob : KeyBlob)
  | sessionClose (ctx : Nat)
  | stepSync (ctx : Nat)
  | bindPeer (ctx : Nat)
  | setPorts (ctx : Nat)
  | fabRecord (ctx : Nat) (rec : SignedRec)
  | lateReport (ctx : Nat)
  | debugDump (ctx : Nat) (auth : DumpAuth)
  | retire (ctx : Nat)
  | microbatchAdmit (ctx : Nat) (timeUp : Bool)
  | microbatchComplete (ctx : Nat)
  | enable (ctx : Nat) (value : Bool)
  | apply (ctx : Nat)
  | teardown (ctx : Nat)
  | functionLevelReset (fn : Nat)
  | contextOutstandingZero (ctx : Nat)
  | ctxQuarantine (ctx : Nat)
  | contextClearComplete (ctx : Nat)
  -- registers (16)
  | registerWrite (off size : Nat) (value : W64) (how : WriteIn)
  | meshApply
  | chanWdogWrite (basin : Nat) (value : W64)
  | coreWindowAccess (write : Bool) (off : Nat) (answers : Bool)
  | coreMxSnap
  | coreVcSnap
  | coreSpSnap
  | coreChSnap
  | meshSnap
  | hbmSnap (basin : Nat)
  | fabSnap
  | tstSnap
  -- station code (07, 08)
  | codeNop (core slot : Nat)
  | mxc (core : Nat)
  | vcc (core : Nat)
  | sdc (core : Nat)
  | sendd (core slot : Nat)
  | sendt (core slot : Nat)
  | wait (core slot : Nat)
  | seti (core slot : Nat)
  | addi (core slot : Nat)
  | adj (core slot : Nat)
  | loop (core slot : Nat)
  | dropRep (core : Nat) (slot : Reading)
  | endOp (core slot : Nat) (sample : Bool)
  | arrive (core slot : Nat)
  | syncWait (core slot : Nat)
  | arriveWait (core slot : Nat)
  | post (core slot : Nat)
  | take (core slot : Nat)
  | firingComplete (core : Nat)
  -- matrix engine (02)
  | mxNop (core : Nat)
  | mma (core : Nat) (parity : Bool)
  | mxDrain (core : Nat)
  | mxClear (core : Nat)
  | mxCmdStart (core : Nat)
  | mxShadowSwap (core : Nat)
  | mxDrainStart (core : Nat)
  | mxDrainRow (core : Nat) (parity : Bool)
  | operandBeatArrive (core port src : Nat)
  -- vector chain (04)
  | vcNop (core : Nat)
  | chain (core : Nat)
  | loadc (core : Nat)
  | loadlut (core : Nat)
  | sets (core : Nat)
  | vcQuadStart (core : Nat) (parity : Bool)
  -- streamers and scratchpad (05)
  | sdNop (core unit : Nat)
  | load (core unit : Nat)
  | store (core : Nat)
  | streamerRequest (core unit : Nat)
  | lineReturn (core unit : Nat) (ecc : List Ecc)
  | ceWriteBack (core : Nat)
  | patrolScrub (core : Nat) (ecc : List Ecc)
  | remoteAccess (core : Nat) (ecc : List Ecc)
  | coreClear (core : Nat)
  -- channels (06)
  | messageInject (core ep : Nat)
  | messageArrive (core : Nat) (parity : Bool)
  | spillCopy (core ep : Nat) (ecc : List Ecc)
  | messageTake (core ep : Nat) (ecc : List Ecc)
  | entryFree (core ep : Nat)
  | creditSend (core ep : Nat) (timeUp : Bool)
  | creditArrive (core : Nat)
  | contributionArrive (core : Reading)
  | stallRead
  -- meshes (08)
  | packetInject (core : Nat)
  | packetHop (id : Nat) (dir : Dir)
  | colEntry (id : Nat)
  | packetEject (id : Nat)
  | flitReplay (core : Nat) (dir : Dir)
  | linkFailure (core : Nat) (dir : Gapping Dir)
  | hardGap (die : Nat) (reason : Gapping Nat)
  | flipComplete
  | drainMarkerPass
  | carryCopyComplete (slot : Nat) (stateOk : Bool)
  | drainSweepPass
  | congestionEcho (core : Nat) (outbound : Bool) (unit : Nat)
  | injectionWindowTick (core : Nat) (outbound : Bool) (unit : Nat)
  | controlPacket (hdr : W64) (data : List W64) (node replays : Nat)
  | engineArrive (basin : Nat)
  | enginePost (basin : Nat)
  | engineTake (basin : Nat)
  | release (core : Nat)
  | grant (core : Nat)
  -- HBM (09)
  | hbmRequest (basin caFails : Nat)
  | hbmReadComplete (basin : Nat) (ecc : LineEcc) (rowMiss : Bool)
  | lineRestoreTimeout (basin : Nat)
  | hbmWriteBack (basin : Nat)
  | hbmSumInto (basin : Nat) (ecc : LineEcc)
  | hbmScrub (basin pc : Nat) (read : ScrubRead) (forced : Bool)
  | rowRepair (basin row bank : Nat) (found : RowFound)
  | refresh (basin pc : Nat)
  | recalibration (basin ch : Nat) (forced ok : Bool)
  | selfRefreshEntry (basin : Nat)
  | selfRefreshExit (basin : Nat)
  | stackWithdraw (basin : Nat) (cause : WithdrawCause)
  | sessionRebuild (ctx : Nat)
  -- fabric (10)
  | portRetrain (port : Nat) (ok : Bool)
  | linkBlockReplay (port : Nat) (ok : Bool)
  | fabricRequest (port : Nat)
  | keyWaitTimeout (port : Nat)
  | fabMergeTimeout (port : Nat)
  | fabWrite (port : Nat) (pkt : WirePkt)
  | fabRead (port : Nat) (pkt : WirePkt)
  | fabSumInto (port : Nat) (pkt : WirePkt)
  | readData (port : Nat) (pkt : WirePkt)
  | ack (port : Nat) (pkt : WirePkt)
  | nack (port : Nat) (pkt : WirePkt)
  | ackTimer (port : Nat)
  | fabArrive (port : Nat) (pkt : WirePkt)
  | fabRelease (port : Nat) (pkt : WirePkt)
  | resendTimeout (port stream : Nat)
  | epochAheadResend (port stream : Nat)
  | fabWinTick (port stream : Nat)
  | fabKeyRenewal (port entry : Nat)
  | fabOldKeyErase (port entry : Nat)
  | mgmtSpdm (port : Nat) (pkt : WirePkt) (finished chainOk : Bool) (peer : PeerFacts)
  | record (port : Nat) (pkt : WirePkt) (sigOk : Bool)
  | mctpMembershipRecord (rec : SignedRec)
  | ctxClose (port : Nat) (pkt : WirePkt)
  | ctxCloseAck (port : Nat) (pkt : WirePkt)
  | partInfo (port : Nat) (pkt : WirePkt)
  | partInfoReq (port : Nat) (pkt : WirePkt)
  | digestXchg (port : Nat) (pkt : WirePkt)
  | digestExchangeSend (ctx : Nat)
  -- steps, scale, sections, drains (11, 03, 07)
  | stepSyncPulse
  | scaleClose (ctx : Nat)
  | sectionSwap (basin : Nat) (reserveLost : Bool)
  | drainComplete
  | drainTimeout
  -- self-healing (14)
  | idleSweepStep (basin : Nat)
  | priorityTest (basin : Nat)
  | idleTest (basin : Nat) (pass : Bool)
  | checkCompare (agrees : Bool)
  | thirdCoreResult (eq : ThirdEq)
  | checkTimeout
  | agingMonitorRead (low : List Nat)
  | dieQuiesce (die : Nat)
  | quiesceTimeout (die : Nat)
  | stationResume (core : Nat) (stateOk : Bool)
  | proofRunComplete (die : Nat) (pass checkersFound : Bool)
  | weightRefill
  | shardSweep (basin shard : Nat)
  | shardReloaded (basin shard : Nat) (data : List Byte)
  -- basin reset and dump (15)
  | basinReset
  | partialDrainComplete
  | dumpCollectComplete (hbmRetrainOk : Bool)
  | basinReady
  | dumpRecordDeliver (ctx : Nat)
  | armLapse (basin : Nat)
  -- telemetry and late rows (19, 16, 17, 18)
  | telemRead (type ctx : Nat)
  | telemSubscribe (mask eid : Nat)
  | lateRequest (ctx : Nat)
  | congestionMap (unread : List Nat)
  | powerThermal (ma100 watts joules : Nat)
  | groupCounters
  | telemetryPushTimeout
  | hostLinkTraining (width rate : Nat) (flitMode : Bool)
  | mctpEndpointIdAssign (eid : Nat)
  | corePllRelock (die : Nat)
  | basinClearComplete (basin : Nat)
  | glbAlertWrite (enableReg : Bool) (value : W64)
  deriving DecidableEq, Repr

end Sys2Proof
end

