-- ==== Sys2Proof/Config.lean ====
section
/-! DEFINITION. What one implementation or one run fixes and the spec leaves open: constants without a body. Nothing
can evaluate them, and a statement about one holds whatever it is. -/

namespace Sys2Proof

/-- The model's free values (log 8): the `i`-th value the spec does not state (a nonce, a draw of the on-die random
source, a key, a result the spec leaves open). A reader takes the low bits it needs. -/
opaque Config.freeBits : Nat → BitVec 512

/-- The col table that the supervisor computes (R226, log 9): for the set of hard gaps in force, a router and a
destination die, the output of the col. 0 east, 1 west, 2 north, 3 south; `none` where no col leads there. -/
opaque Config.colTable : List Nat → Nat → Nat → Option (Fin 4)

/-- The row and bank that the controller gives an HBM offset (R259: the controller's own choice and not visible). -/
opaque Config.rowOf : Nat → Nat

/-- Whether the store streamer refuses more source bytes while that many wait in it: the spec gives its source buffer no
size (R64, R123, log 14). -/
opaque Config.storeFull : Nat → Bool

/-- The wire form of things the spec leaves to firmware or to outside standards (SPDM bodies, certificates): the words
answered, by request code and case (log 161). -/
opaque Config.answerWords : Nat → Nat → List Nat

/-- Link credits of a Wewell port's virtual lane (0 REQ, 1 RSP, 2 MGMT): what the far end grants at training, and what the
control word that ends at a count of received units brings (R276: the amounts are the far end's; log 156). -/
opaque Config.linkCredits : Nat → Nat → Nat

/-- The 8-byte link control word after a count of sent units, with a count of received ones acknowledged (R276: its layout is
not given; log 156). -/
opaque Config.linkWord : Nat → Nat → Nat

/-- The GCM tag of a packet, by key slot and phase, nonce, additional data and payload (R284, R290: AES-256-GCM; the keys never
leave the engines; log 157). -/
opaque Config.gcmTag : Nat → Bool → Nat → List Byte → List Byte → Nat

/-- Villaholt's JEDEC manufacturer code in IDCODE (R482: named, its value not given; log 162). -/
opaque Config.jedecCode : BitVec 11

/-- Whether the supervisor puts two targets that follow one another on a row or a column into one line group (R234, log 21). -/
opaque Config.lineJoin : Nat → Nat → Bool

end Sys2Proof
end

