-- ==== Sys2Proof/Machine/State.lean ====
section
/-! DEFINITION. The state of the module: plain data, every register, queue, buffer, counter, mode and pin the spec
gives it, the queue of waiting commands, and the two fields that are the model's own (`free`, `out`).
A `Tab` lists only what differs from the reset value of its entries (`Core.init`, `Ctx.init`, ...). -/

namespace Sys2Proof.Machine

/-- Bytes of a scratchpad or of a stack: addresses rising, no zero byte listed (R156, R465: cleared means zero). -/
abbrev Mem := List Host.Cell

/-! ### Power, clocks, supervisor -/

/-- Where the module stands between power-off and service (R454, R456, R457, R462, R463, R375). -/
inductive Phase where
  | unpowered | held | recovery | ready | fault
  deriving DecidableEq, Repr

/-- The supervisor: start-up phase, tick counter (R492), running firmware (R442) and settings in force (R471). -/
structure Sup where
  phase : Phase := .held
  ticks : Nat := 0
  ticking : Bool := false
  clearing : Bool := false
  bootCount : Nat := 0
  flashOctal : Bool := false
  settings : List (Nat × Nat) := []
  settingsSeq : Nat := 0
  fwMajor : Nat := 0
  fwMinor : Nat := 0
  fwPatch : Nat := 0
  fwSvn : Nat := 0
  deriving DecidableEq, Repr

/-- Power entry and rails (R454 to R457, R451, R479). -/
structure Pwr where
  perstN : Bool := false
  mv10 : Nat := 0
  ma100 : Nat := 0
  watts : Nat := 0
  energy : Nat := 0
  inRange : Bool := true
  lostInInterval : Bool := false
  aonRail : Bool := true
  mainRails : Bool := true
  faultLatched : Bool := false
  deriving DecidableEq, Repr

/-- Reference clocks and on-demand starts (R451, R458, R459). -/
structure Clk where
  refOk : Bool := true
  pcieRefOk : Bool := true
  starts : Nat := 0
  oscTicks : Nat := 0
  deriving DecidableEq, Repr

/-- One die stack (R13, R223, R451, R455, R457, R459, R461). `DETAIL` bits [3:0] of R27 are `margin`. -/
structure Die where
  baseOk : Bool := true
  gapReason : Nat := 0
  retired : Bool := false
  railOn : Bool := true
  margin : Nat := 0
  pll : Bool := false
  coreBranch : List Nat := []
  ctlPll : Bool := false
  temps : Tab Int := []
  maxTemp : Int := 0
  throttled : Bool := false
  hbmThrottled : Bool := false
  throttledInInt : Bool := false
  suspect : Option Nat := none
  forwarding : List (Nat × Nat) := []
  retireTicks : List Nat := []
  deriving DecidableEq, Repr

/-! ### Flash, fuses, trust -/

/-- A defect ledger record (R27). -/
structure LRec where
  seq : Nat
  type : Nat
  reason : Nat
  target : Nat
  boot : Nat
  detail : Nat
  deriving DecidableEq, Repr

/-- A ledger position: copies A and B, `none` when the copy's CRC is wrong (R27 to R29). -/
structure LPos where
  a : Option LRec
  b : Option LRec
  deriving DecidableEq, Repr

/-- A settings record with a correct CRC (R471). -/
structure SRec where
  seq : Nat
  entries : List (Nat × Nat)
  deriving DecidableEq, Repr

/-- The settings flash (R469). A `none` copy has no correct CRC. `seqNext` is above every SEQ that a ledger record has carried, so
that none repeats after the ledger was emptied (R27, log 155). -/
structure Flash where
  seqNext : Nat := 0
  image : Option FwImage := none
  settingsA : Option SRec := none
  settingsB : Option SRec := none
  pair0 : List LPos := []
  pair1 : List LPos := []
  usePair1 : Bool := false
  ownerToken : Option (Nat × Nat) := none
  fmToken : Option (Nat × Nat) := none
  ledgerRepairs : Nat := 0
  ledgerSkips : Nat := 0
  deriving DecidableEq, Repr

/-- The fuses (R2, R24, R223, R354 to R358, R373). -/
structure Fuse where
  lcCount : Nat := 2
  lcRetired : Bool := false
  svn : Nat := 0
  keyDigest : List Nat := [0, 0, 0, 0]
  revoked : List Nat := []
  shipDefect : List Nat := []
  routerDefect : List Nat := []
  orderCode : Nat := 0
  serial : Nat := 1
  uds : Bool := true
  devidCert : Nat := 0
  ownerDigest : Tab Nat := [(0, 0)]
  deriving DecidableEq, Repr

/-- A secured SPDM session (R359). -/
structure Session where
  tr : Transport
  id : Nat
  established : Bool
  phase : Nat
  deriving DecidableEq, Repr

/-- A push of a firmware image in progress (R376). -/
structure Push where
  persist : Bool
  image : Option FwImage
  flashOk : Bool
  deriving DecidableEq, Repr

/-- A life-cycle transition that waits for the teardown of every context (R377). -/
inductive LcWait where
  | ret | retire
  deriving DecidableEq, Repr

/-- Keys, SPDM, life-cycle and push recovery (R353 to R377). -/
structure Trust where
  devid : Bool := false
  aliasKey : Bool := false
  kT : Option Nat := none
  measD : Nat := 0
  nonce : Option Nat := none
  sessions : List Session := []
  nextSession : Nat := 0
  debugOpen : Bool := false
  fmKey : Option Nat := none
  fmSerial : Nat := 0
  transition : Option (LcWait × Transport) := none
  bootSource : Nat := 3
  failReason : Nat := 0
  rcvAddr : Nat := 0
  rcvLen : Nat := 0
  rcvBusy : Bool := false
  rcvPhase : Nat := 0
  rcvDone : Bool := false
  rcvResult : Nat := 0
  push : Option Push := none
  deriving DecidableEq, Repr

/-! ### Register blocks -/

/-- The GLB_ block (R441 to R444), the count of lost posted writes (R436), and the voted registers by BAR0 offset of
which a copy is disturbed: `true` where no two of the three agree (R438). -/
structure Glb where
  ready : Bool := false
  alert : Nat := 0
  alertEn : Nat := 0x1F
  winSel : Nat := 0
  winStatus : Nat := 0
  voteFix : Nat := 0
  voteFail : Nat := 0
  writeLost : Nat := 0
  ledgerDamaged : Bool := false
  disturbed : List (Nat × Bool) := []
  deriving DecidableEq, Repr

/-- The TST_ block (R413 to R416). -/
structure Tst where
  idleCfg : Nat := 0x0004000A
  checkCfg : Nat := 0x004000002710
  digestCfg : Nat := 0x003C0018
  fenceCfg : Nat := 0x000103E8
  ctr : Tab Nat := []
  shadow : Tab Nat := []
  deriving DecidableEq, Repr

/-- One member of a membership record (R293). -/
structure Member where
  id : Nat
  switchDest : Nat
  plane : Nat
  deriving DecidableEq, Repr

/-- A membership record as its bytes give it (R293), with its signature's bytes; `formOk` tells whether their number is that of
COUNT and the reserved bits are zero. -/
structure MembRecord where
  magic : Nat
  domain : Nat
  epoch : Nat
  count : Nat
  members : List Member
  sig : List Byte
  formOk : Bool
  deriving DecidableEq, Repr

/-- A fabric packet (R284): the fields of its header, its payload in plain, its tag, whether it goes in clear (R291), whether its
reserved bits are zero, and, of one received, whether its tag holds under the key that KPH names. -/
structure FabPkt where
  type : Nat
  cmark : Nat
  echo : Nat
  lines : Nat
  poison : Bool
  kph : Bool
  switchDest : Nat
  dstId : Nat
  srcId : Nat
  srcPort : Nat
  dstGen : Nat
  srcGen : Nat
  anchor : Nat
  epoch : Nat
  seq : Nat
  addr : Nat
  length : Nat
  reqTag : Nat
  code : Nat
  nctr : Nat
  rsvOk : Bool
  clear : Bool
  authOk : Bool
  tag : Nat
  payload : List Byte
  deriving DecidableEq, Repr

/-! ### Contexts (12, 11, 03) -/

/-- Context states with the codes of R321. -/
inductive CtxSt where
  | free | active | stopping | quarantine | clearing
  deriving DecidableEq, Repr

/-- The staged fields of a context page, and their values in force (R324, R437, R450). -/
structure CtxCfg where
  grant : Nat := 0
  ioCfg : Nat := 0
  sessPool : Nat := 0
  fabId : Nat := 0
  sqBase : Tab Nat := []
  sqCfg : Tab Nat := []
  cqBase : Nat := 0
  cqCfg : Nat := 0
  msgBase : Nat := 0
  msgCfg : Nat := 0
  deriving DecidableEq, Repr

/-- A submission ring: head, tail, and whether its head has been reset since (R323, R326, R327). -/
structure Ring where
  head : Nat := 0
  tail : Nat := 0
  deriving DecidableEq, Repr

/-- The completion ring or the message ring: writing index, phase, the head the host released, and the records
written since the last interrupt (R323, R328, R330, R343). -/
structure OutRing where
  wr : Nat := 0
  phase : Bool := true
  head : Nat := 0
  count : Nat := 0
  unann : Nat := 0
  deriving DecidableEq, Repr

/-- A fetched command (R327, R331): its ring, its place in the ring, and its 64 bytes. -/
structure HCmd where
  ring : Nat
  idx : Nat
  desc : BitVec 512
  started : Bool
  seqNo : Nat
  deriving DecidableEq, Repr

/-- A completion record waiting for its ring entry (R329). -/
structure Comp where
  tag : Nat
  ring : Nat
  status : Nat
  r0 : Nat
  r1 : Nat
  partMap : Nat
  noIrq : Bool
  deriving DecidableEq, Repr

/-- The body of a message record: none, an EVENT unit (R346), or bytes. -/
inductive MsgBody where
  | empty
  | event (slot tslot ep tag core a0 a1 a2 : Nat)
  | bytes (b : List Byte)
  deriving DecidableEq, Repr

/-- A message record (R342). -/
structure MsgRec where
  type : Nat
  units : Nat
  step : Nat
  seq : Nat
  basins : Nat
  code : Nat
  arg : Nat
  body : MsgBody
  deriving DecidableEq, Repr

/-- A placed request of a microbatch (R334, R336). -/
structure Req where
  tag : Nat
  ring : Nat
  session : Nat
  tokens : Nat
  pos : Nat
  outAddr : Nat
  sessPos : Nat
  noIrq : Bool
  flush : Bool
  drops : Nat
  aborted : Option Nat
  inData : List Byte
  firstPage : Nat
  deriving DecidableEq, Repr

/-- A microbatch (R304, R336, R338). -/
structure Mb where
  num : Nat
  step : Nat
  reqs : List Req
  admitted : Bool
  complete : Bool
  aborted : Bool
  closed : Bool
  deriving DecidableEq, Repr

/-- A session (R339, R341, R367, R369, R411, R412). -/
structure Sess where
  id : Nat
  keyHeld : Bool
  mirror : Bool
  firstPage : Nat
  npages : Nat
  claimEnd : Nat
  closing : Option (Nat × Nat × Bool)
  lost : Bool
  rebuilding : Bool
  deriving DecidableEq, Repr

/-- A session page table entry (R340): basin, mirror basin, offsets in 64 KiB units. -/
structure Page where
  basin : Nat
  mirror : Option Nat
  off : Nat
  moff : Nat
  deriving DecidableEq, Repr

/-- An action staged for the next step boundary (R306, R307) and the command that waits for it. -/
inductive Staged where
  | openSess (tag ring id pages : Nat) (mirror : Bool) (noIrq : Bool)
  | reload (tag ring : Nat) (noIrq : Bool)
  | peer (tag ring p ep : Nat) (noIrq : Bool)
  | ports (tag ring mask : Nat) (noIrq : Bool)
  | rebuilt (id page basin off : Nat)
  | closeSess (id : Nat)
  deriving DecidableEq, Repr

/-- A station record of a layout after translation (R191 to R194). -/
structure Station where
  slot : Nat
  group : Nat
  firePerMb : Nat
  tileOwn : Nat
  lutOwn : Nat
  entry : List Nat
  windows : List Nat
  pages : List Nat
  inEp : List Nat
  outEp : List Nat
  rateIn : List Nat
  rateOut : List Nat
  scaleMap : List Nat
  wfill : List Nat
  code : List (BitVec 128)
  marks : List Nat
  deriving DecidableEq, Repr

/-- A loaded layout (R185 to R215). Lists hold translated words of the image's sections; `map` is the physical basin of
each image basin; `fired` and `idxRegs` are the firing numbers and, by task slot, the index registers of section stations that
are swapped out, by record (R198, R211, R213). -/
structure Layout where
  format : Nat
  basins : Nat
  mode : Nat
  dither : Bool
  headroom : Nat
  winL : Nat
  part : Nat
  parts : Nat
  stepMb : Nat
  mbTokens : Nat
  slots : Nat
  seed : Nat
  desig : List Nat
  digest : Nat
  imageDigest : Nat
  stations : List Station
  mcast : List (List (Nat × Nat))
  redgroup : List Nat
  syncobj : List Nat
  scaleEnt : List Nat
  groups : List Nat
  experts : List Nat
  reconv : List Nat
  sections : List Nat
  peers : List Nat
  map : List Nat
  fired : Tab Nat
  idxRegs : Tab (Tab (Tab W64))
  held : Bool
  stopped : Bool
  replace : Bool
  running : Bool
  deriving DecidableEq, Repr

/-- A verified image kept per part in the private area (R364). -/
structure Staging where
  image : List Byte
  parts : Nat
  deriving DecidableEq, Repr

/-- One shard entry of a manifest (R365), its BASINS mask translated (R187), the image basins of it that the context has
not been granted, the bytes that have arrived of its ciphertext and tag, and the basins that hold a copy that verified. -/
structure Shard where
  id : Nat
  basins : Nat
  missing : Nat
  hbmOff : Nat
  pkgOff : Nat
  length : Nat
  digest : Nat
  arrived : Nat
  good : Nat
  deriving DecidableEq, Repr

/-- A staged weight package (R365, R366). -/
structure Wpkg where
  digest : Nat
  pkgLen : Nat
  shards : List Shard
  scales : List (Nat × Int)
  deriving DecidableEq, Repr

/-- A tensor watch record (R92). -/
structure Watch where
  step : Nat
  tensor : Nat
  scale : Int
  amax : Option Int
  satNarrow : Nat
  satEsf : Nat
  invalid : Nat
  anchor : Nat
  clamped : Bool
  void : Bool
  deriving DecidableEq, Repr

/-- Late-arrival record of one source endpoint (R314). -/
structure Late where
  ep : Nat
  phases : Nat
  last : Nat
  lastTicks : Nat
  deriving DecidableEq, Repr

/-- One context: set-up page, rings, layout, microbatches, sessions, steps, scale state, fabric state. `boundary` is a step
boundary decided and not yet complete (its cause and tick), `due` the actions that it carries out, `owed` an admission that
a load or a restart makes without a request; `scaleOld`, `scale`, `scaleNext` belong to the last, this and the next step. -/
structure Ctx where
  enable : Bool := false
  st : CtxSt := .free
  applyErr : Bool := false
  gen : Nat := 0
  stg : CtxCfg := {}
  act : CtxCfg := {}
  mbCfg : Nat := 0x64
  stepCfg : Nat := 0
  stepCfgNew : Nat := 0
  ringStop : Nat := 0
  sq : Tab Ring := []
  lastRing : Nat := 7
  cq : OutRing := {}
  msg : OutRing := {}
  cmds : List HCmd := []
  cmdSeq : Nat := 0
  comps : List Comp := []
  store : List MsgRec := []
  msgSeq : Nat := 0
  msgLost : Nat := 0
  lostRun : Nat := 0
  image : Option Staging := none
  wpkg : Option Wpkg := none
  layout : Option Layout := none
  loadPending : Option (Nat × Nat × Bool) := none
  mbs : List Mb := []
  nextMb : Nat := 0
  inStep : Nat := 0
  stepNum : Nat := 0
  mbNum : Nat := 0
  advanced : Nat := 0
  heldCnt : Nat := 0
  ignored : Nat := 0
  miss : Nat := 0
  stepWait : Nat := 0
  latch : Bool := false
  forced : Bool := false
  staged : List Staged := []
  due : List Staged := []
  boundary : Option (Nat × Nat) := none
  owed : Bool := false
  sessions : List Sess := []
  pages : Tab Page := []
  peers : Tab Nat := []
  portSet : Nat := 0
  fabEpoch : Nat := 0
  record : Option MembRecord := none
  fenced : Bool := false
  quarantined : Bool := false
  fabOut : Nat := 0
  closesOwed : List Nat := []
  scaleOld : Tab Int := []
  scale : Tab Int := []
  scaleNext : Tab Int := []
  satNext : Nat := 0
  closed : Option Nat := none
  watch : List Watch := []
  satSticky : List Nat := []
  voids : List Nat := []
  amaxHist : List (Nat × Nat × Int) := []
  reloadAt : Option Nat := none
  late : List Late := []
  restarts : List Nat := []
  drops : List (Nat × Nat) := []
  lateComps : List Comp := []
  deriving DecidableEq, Repr

/-! ### Basins (01, 06, 07, 08) -/

/-- A sync object (R246 to R249): definition, phase or count, arrivals for the current phase and the next, waiting
TAKEs in order. An arrival is (source, slot, task slot). -/
structure SyncObj where
  isToken : Bool
  replica : Bool
  participants : Nat
  phase : Nat
  count : Nat
  cur : List (Nat × Nat × Nat)
  nxt : List (Nat × Nat × Nat)
  waiting : List (Nat × Nat)
  lastTick : Nat
  deriving DecidableEq, Repr

/-- One basin: grant, generation, drain limits, placement mirror (three copies, two banks), sync engine, test order. -/
structure Basin where
  ctx : Option Nat := none
  gen : Nat := 0
  resetting : Bool := false
  armed : Option Nat := none
  clearing : Bool := false
  wdog : Nat := 0
  wdogFrom : Nat := 0
  drainLimit : Nat := 0
  placeVoteFix : Nat := 0
  place : Tab (Nat × Nat × Nat) := []
  objs : Tab SyncObj := []
  syncCtr : Tab Nat := []
  sweepPos : Nat := 0
  testOrder : List Nat := []
  underTest : Option Nat := none
  wedge : Bool := false
  sectIdx : Nat := 0
  sectFrom : Nat := 0
  deriving DecidableEq, Repr

/-! ### Cores (02, 04, 05, 06, 07) -/

/-- States of a core site (R24), with the codes of R442. -/
inductive CoreSt where
  | shipDefect | retired | fenced | spare | inUse | underTest
  deriving DecidableEq, Repr

/-- What a task slot is doing, with the codes of the TASK dump unit (R424). -/
inductive SlotSt where
  | noCode | running | waitOp | queueRoom | credit | sync | stopped | afterEnd
  deriving DecidableEq, Repr

/-- A 64-lane vector with its poison (R103, R119). -/
structure Vec where
  lanes : List W32 := []
  poison : Bool := false
  deriving DecidableEq, Repr

/-- A scalar register: 32 bits, or the 16-byte stored form of an ESF-96 value (R118). -/
structure Scal where
  v : BitVec 128 := 0
  esf : Bool := false
  poison : Bool := false
  deriving DecidableEq, Repr

/-- A task slot (R195 to R198, R103, R137). `base` are the done counts at the start of the slot's firing, `syncObj` and
`syncPhase` what a SYNC operation waits for, `peers` the bindings latched at the firing's start (R214). -/
structure Slot where
  st : SlotSt := .noCode
  pc : Nat := 0
  stopEv : Nat := 0
  lost : Option Nat := none
  idx : Tab W64 := []
  firing : Nat := 0
  mb : Nat := 0
  step : Nat := 0
  done : Tab Nat := []
  base : Tab Nat := []
  retBase : Tab Nat := []
  adj : List (Nat × Nat × Nat) := []
  scal : Tab Scal := []
  const : Tab Vec := []
  t : Vec := {}
  p : List Bool := []
  takeWait : Bool := false
  syncObj : Nat := 0
  syncPhase : Nat := 0
  peers : Tab Nat := []
  deriving DecidableEq, Repr

/-- One accumulator (R55, R71, R73). -/
structure Acc where
  w : BitVec 104 := 0
  terms : Nat := 0
  sat : Bool := false
  invalid : Bool := false
  poison : Bool := false
  deriving DecidableEq, Repr

/-- An accumulator tile; accumulator (r, c) is entry 48r + c, and an unlisted one is cleared (R55). -/
structure Tile where
  owner : Option Nat := none
  anchor : Nat := 0
  poisonAll : Bool := false
  acc : Tab Acc := []
  deriving DecidableEq, Repr

/-- A 64-byte beat and where it came from: 0, 1 the load streamers, 2 + e inbound endpoint e (R38, R39). -/
structure Beat where
  data : List Byte
  poison : Bool
  src : Nat
  deriving DecidableEq, Repr

/-- A queued command with the slot that issued it and the firing it belongs to. -/
structure MxEnt where
  cmd : BitVec 256
  slot : Nat
  firing : Nat
  mb : Nat
  step : Nat
  deriving DecidableEq, Repr

/-- The running matrix command: latched scales (R51), steps and rows done, whether a B tile is in the weight registers,
whether a beat it took was poisoned and whether that has been counted and raised (R66). -/
structure MxRun where
  ent : MxEnt
  sa : Int
  sb : Int
  sd : Int
  kDone : Nat
  rows : Nat
  loaded : Bool
  poison : Bool
  told : Bool
  cleared : Bool
  deriving DecidableEq, Repr

/-- A drain pending or running (R57). -/
structure Drain where
  ent : MxEnt
  sd : Int
  row : Nat
  running : Bool
  deriving DecidableEq, Repr

/-- A row of the matrix drain queue (R57, R95). -/
structure DrainRow where
  lanes : List W32
  fmt : Nat
  poison : Bool
  deriving DecidableEq, Repr

/-- A queued vector command (R99). -/
structure VcEnt where
  cmd : BitVec 768
  slot : Nat
  firing : Nat
  mb : Nat
  step : Nat
  deriving DecidableEq, Repr

/-- One ESF-96 value (R71, R72). -/
structure Esf where
  w : BitVec 104 := 0
  anchor : Nat := 0
  terms : Nat := 0
  sat : Bool := false
  invalid : Bool := false
  poison : Bool := false
  deriving DecidableEq, Repr

/-- The reduction in hand of the running vector command (R115 to R117). -/
structure RedAcc where
  sum : Esf := {}
  best : Option (Nat × Nat) := none
  poison : Bool := false
  vecs : Nat := 0
  deriving DecidableEq, Repr

/-- The running vector command: next vector, latched drain scales per stage (R51), reduction in hand, and the beats that a
LOADC or LOADLUT has taken so far. -/
structure VcRun where
  ent : VcEnt
  vec : Nat
  scales : List Int
  red : RedAcc
  poison : Bool
  buf : List Beat
  deriving DecidableEq, Repr

/-- Output of the chain unit that the store streamer has refused: its bytes, and the command that is complete once they are
accepted, if they are its last (R102, R123). -/
structure VcOut where
  bytes : List (Byte × Bool)
  done : Option VcEnt
  deriving DecidableEq, Repr

/-- A lookup table (R103, R111). `none` is EMPTY. -/
structure Lut where
  owner : Option Nat := none
  data : Option (List Byte) := none
  poison : Bool := false
  deriving DecidableEq, Repr

/-- A queued streamer descriptor (R143, R151): whether it has begun, whether all its requests are made, whether a fault has
broken it off, and whether that fault discards bytes that fill no whole beat (R138). -/
structure SdEnt where
  d : BitVec 512
  slot : Nat
  firing : Nat
  mb : Nat
  step : Nat
  begun : Bool := false
  made : Bool := false
  broken : Bool := false
  cut : Bool := false
  deriving DecidableEq, Repr

/-- One outstanding line request (R150). `data` is none until the line has returned or the write was accepted; `ser` is the
serial number of its descriptor, `xp` marks a row fragment of a transposing block (R149). -/
structure LineReq where
  id : Nat
  space : Nat
  addr : Nat
  len : Nat
  write : Bool
  wdata : List (Byte × Bool)
  data : Option (List (Byte × Bool))
  refused : Nat
  lastOfChunk : Bool
  ser : Nat := 0
  xp : Bool := false
  deriving DecidableEq, Repr

/-- A streamer (0, 1 load, 2 store) or a port fetch unit (3 MA, 4 MB, 5 VOP, 6 SCMD): queue, the serial number of its head,
progress through the chunks of R146 of the first descriptor whose requests are not all made, outstanding lines, bytes of a
line or a block not yet in a beat, store source bytes; injection window (R240): W, the windows for which echoes are still
ignored, the flits injected and the largest echo in the window that runs. `active`, `genDone`, `faulted` are a fetch unit's, and
`tainted`: a beat of its message was poisoned or refused (R169). -/
structure Strm where
  q : List SdEnt := []
  active : Bool := false
  chunk : Nat := 0
  pos : Nat := 0
  ser : Nat := 0
  buf : List (Byte × Bool) := []
  reqs : List LineReq := []
  genDone : Bool := false
  src0 : List (Byte × Bool) := []
  src1 : List (Byte × Bool) := []
  nextId : Nat := 0
  w : Nat := 64
  echoOff : Nat := 0
  flits : Nat := 0
  winMark : Nat := 0
  fetchEp : Option Nat := none
  fetchMsg : Nat := 0
  faulted : Bool := false
  tainted : Bool := false
  deriving DecidableEq, Repr

/-- A channel message in an endpoint (R164, R165). -/
structure ChMsg where
  token : Bool
  data : Nat
  gen : Nat
  seq : Nat
  poison : Bool
  cmark : Nat
  bad : Bool := false
  deriving DecidableEq, Repr

/-- An inbound endpoint (R160, R171). `cfg` is the 64-bit entry, `taken` the messages taken and not yet freed with their
marks, `marks` those of the frees whose credit is pending (R239). -/
structure InEp where
  cfg : Nat := 0
  h : Nat := 0
  fixed : Tab ChMsg := []
  spill : Tab ChMsg := []
  taken : List (Nat × Nat) := []
  owed : List Nat := []
  pend : Nat := 0
  pendFrom : Nat := 0
  marks : List Nat := []
  feeder : Nat × Nat × Nat := (0, 0, 0)
  contribs : List (Nat × Nat) := []
  takenNow : Tab Nat := []
  deriving DecidableEq, Repr

/-- A send waiting at an outbound endpoint (R166, R167): a descriptor, a token, or a contribution's stored values. -/
structure Send where
  kind : Nat
  data : Nat
  vals : List Nat
  poison : Bool
  slot : Nat
  firing : Nat
  deriving DecidableEq, Repr

/-- An outbound endpoint (R161, R167, R168, R170). -/
structure OutEp where
  cfg : Nat := 0
  targets : List (Nat × Nat) := []
  credit : List Nat := []
  returned : List Nat := []
  retired : Nat := 0
  seq : Nat := 0
  gen : Nat := 0
  sendQ : List Send := []
  sentNow : Tab Nat := []
  held : Bool := false
  w : Nat := 64
  echoOff : Nat := 0
  flits : Nat := 0
  winMark : Nat := 0
  deriving DecidableEq, Repr

/-- A reduction round in progress at its destination (R238). -/
structure Round where
  ep : Nat
  seq : Nat
  npkt : Nat
  got : Nat
  vals : Nat
  poison : Bool
  cmark : Nat
  deriving DecidableEq, Repr

/-- A sync table entry (R247): per task slot, the next arrival phase and the last released phase. -/
structure SyncEnt where
  obj : Nat
  next : Tab Nat
  last : Tab Nat
  deriving DecidableEq, Repr

/-- A bulk packet (R218, R220). `rsvBad` stands for a reserved value in the header; `ctx`, `tslot` name the issuer, `unit` the
injection window it counts in (0 to 6 a streamer or fetch unit, 7 + e outbound endpoint e; R240), `whole` the window offsets
and lengths of the chunk or block that a SLOT access is a line of (R141), `at_` the router it is at, `inp` the input there (0 to 3
the neighbour in that direction, 4 the core or interface), `waited` the cycles without buffer space (R225), `line` whether a
multicast packet runs along its line, `mc` its target entries left (R234). -/
structure Pkt where
  id : Nat
  vc : Nat
  kind : Nat
  epoch : Bool
  dtype : Nat
  dst : Nat
  dstCore : Nat
  srcCore : Nat
  cmark : Nat
  poison : Bool
  gen : Nat
  lines : Nat
  reqId : Nat
  reqUnit : Nat
  addr : Nat
  len : Nat
  chSeq : Nat
  dstEp : Nat
  group : Nat
  defBasin : Nat
  anchor : Nat
  pkt : Nat
  npkt : Nat
  ncontrib : Nat
  cnt : Nat
  mc : List (Nat × Nat)
  ctx : Nat
  tslot : Nat
  srcSlot : Nat
  refused : Nat
  rsvBad : Bool
  data : List Byte
  pois : List Bool
  at_ : Nat
  inp : Nat := 4
  waited : Nat := 0
  line : Bool := false
  unit : Option Nat := none
  whole : List (Nat × Nat) := []
  deriving DecidableEq, Repr

/-- A check log of a sampled firing and what its digest is over (R385 to R388): `step`, `idx`, `peers` and `scale` are what the
firing starts from, `beats` the logged beats, each with its port, in arrival order. -/
structure CheckLog where
  firing : Nat
  mb : Nat
  step : Nat := 0
  idx : Tab (Tab W64) := []
  peers : Tab Nat := []
  scale : Tab Int := []
  beats : List (Nat × Beat) := []
  bytes : Nat
  msgs : List (Nat × List Byte)
  chunks : List (Nat × Nat × Nat)
  stored : List Byte
  drops : List Byte
  checker : Nat
  abandoned : Bool
  ended : Option Nat
  deriving DecidableEq, Repr

/-- What a core has run for one slot since it was last found clean (R391, R392): context, slot, first and last microbatch
and the firings. -/
structure Win where
  ctx : Nat
  slot : Nat
  first : Nat
  last : Nat
  firings : Nat
  deriving DecidableEq, Repr

/-- A core site with all that its core holds (R37). `ran` lists the slots fired since the last group record (R496). `stopAt` is the first microbatch that the station does not run (R207,
R393), `drainHeld` the DRAIN_HOLD count of R207, `echoes` the congestion marks that have arrived and wait to be acted on, by
unit (R240), `waitFrom` since when a task slot waits on a channel and `wedged` whether a wedge of the core has been raised (R179,
R180), `latched` the peer bindings of each firing begun and not complete (R214). -/
structure Core where
  st : CoreSt := .spare
  slot : Option Nat := none
  held : Bool := false
  suspect : Option Nat := none
  lastPass : Option Nat := none
  lastPrio : Option Nat := none
  lastMb : Nat := 0
  window : List Win := []
  ran : List Nat := []
  reserved : Bool := false
  holding : Bool := false
  station : Option Station := none
  slots : Tab Slot := []
  firing : Nat := 0
  begun : Nat := 0
  stopAt : Option Nat := none
  tiles : Tab Tile := []
  mxq : List MxEnt := []
  mxRot : Nat := 7
  mxRun : Option MxRun := none
  shadow : List Beat := []
  weights : List Beat := []
  ma : List Beat := []
  mb : List Beat := []
  vx : List Beat := []
  vy : List Beat := []
  drains : List Drain := []
  drainQ : List DrainRow := []
  vcq : List VcEnt := []
  vcRot : Nat := 7
  vcRun : Option VcRun := none
  vcHeld : List VcOut := []
  luts : Tab Lut := []
  sdRot : Nat := 7
  scaleTab : Tab Int := []
  strm : Tab Strm := []
  mem : Mem := []
  poisonCw : List Nat := []
  pages : List Nat := []
  bankOn : List Nat := []
  fillDigest : Tab Nat := []
  scrubPos : Nat := 0
  scrubBuf : List Byte := []
  pageCleanMb : Tab Nat := []
  wbq : List Nat := []
  inEp : Tab InEp := []
  outEp : Tab OutEp := []
  rounds : List Round := []
  sync : List SyncEnt := []
  ctr : Tab Nat := []
  shadowCtr : Tab Nat := []
  chCtr : Tab Nat := []
  chShadow : Tab Nat := []
  misdeliver : Nat := 0
  cmarkHalve : Nat := 0
  drainHeld : Nat := 0
  inj : List Pkt := []
  svc : List Pkt := []
  arr : List Pkt := []
  lastProgress : Nat := 0
  check : Option CheckLog := none
  echoes : List (Nat × Nat) := []
  waitFrom : Option Nat := none
  wedged : Bool := false
  latched : List (Nat × Tab Nat) := []
  replay : Option (List (Nat × Beat)) := none
  deriving DecidableEq, Repr

/-! ### Meshes (08) -/

/-- A site's routers and nodes (R217, R242, R252); `ctr` are the 110 counters of R445, `sctr` the sync node's MESH_INJ_E0,
MESH_INJ_E1, MESH_EJ_E0 and MESH_EJ_E1 (R231). -/
structure Router where
  ctr : Tab Nat := []
  shadow : Tab Nat := []
  peak : Nat := 0
  sctr : Tab Nat := []
  deriving DecidableEq, Repr

/-- A sync packet (R245): 0 ARRIVE, 1 POST, 2 TAKE, 3 RELEASE, 4 GRANT; `src` is the core whose node injected it, `dst` its
DST_CORE. -/
structure SyncPkt where
  type : Nat
  epoch : Bool
  obj : Nat
  home : Nat
  slot : Nat
  tslot : Nat
  val : Nat
  src : Nat
  dst : Nat := 0
  deriving DecidableEq, Repr

/-- What a drain is for (R207, R209). -/
inductive DrainFor where
  | load | unload | swap | layoutFault | fence
  deriving DecidableEq, Repr

/-- A drain of a set of basins in progress (R207, R208, R232). `cut` is the first microbatch that the set does not run:
the cut microbatch of R207 plus 1, 0 where none has begun. -/
structure DrainJob where
  ctx : Nat
  basins : List Nat
  cut : Nat
  why : DrainFor
  start : Nat
  limit : Nat
  tag : Nat
  ring : Nat
  noIrq : Bool
  sweep : Option (Nat × Nat)
  swept : Bool
  deriving DecidableEq, Repr

/-- A staged placement change (R21, R230): the context and the slots' new cores. -/
structure Change where
  ctx : Nat
  moves : List (Nat × Nat × Nat)
  deriving DecidableEq, Repr

/-- A station move whose CARRY copy is awaited (R155): slot, old core, new core, and whether it is for a test. -/
structure Move where
  slot : Nat
  from_ : Nat
  to_ : Nat
  fault : Bool
  test : Bool
  deriving DecidableEq, Repr

/-- The meshes: the table epoch (R230), the sites that FLIP has reached while a flip is under way, what is in flight, congestion
set-up, drains and moves. -/
structure Mesh where
  epoch : Bool := false
  oldBank : Bool := false
  flipping : Bool := false
  flipped : List Nat := []
  flips : Nat := 0
  net : List Pkt := []
  nextId : Nat := 0
  sync : List SyncPkt := []
  gaps0 : List Nat := []
  gaps1 : List Nat := []
  staged : List Change := []
  moves : List Move := []
  drains : List DrainJob := []
  gapDrops : Tab Nat := []
  colWait : Nat := 32
  thrStaged : Nat := 0x5A4B32
  thr : Nat := 0x5A4B32
  applyErr : Bool := false
  deriving DecidableEq, Repr

/-! ### HBM (09) -/

/-- A shard copy on hold or being restored (R404, R407): byte range and shard. -/
structure Hold where
  ctx : Nat
  shard : Nat
  lo : Nat
  len : Nat
  deriving DecidableEq, Repr

/-- One HBM3E stack and its controller. `sweeps` holds the hash of a shard copy's last sweep, by context and shard
(R404, R406). -/
structure Hbm where
  mem : Mem := []
  poisonCw : List Nat := []
  inService : Bool := false
  withdrawn : Bool := false
  selfRef : Bool := false
  resetting : Bool := false
  halfRate : Bool := false
  temp : Int := 0
  maxTemp : Int := 0
  passedThr : Bool := false
  scrubCfg : Nat := 0
  recalCfg : Nat := 0
  srCfg : Nat := 1000
  inQ : List Pkt := []
  queue : List Pkt := []
  wbq : List Nat := []
  notes : Tab (Nat × Nat × Bool) := []
  usedSpares : List Nat := []
  scrubPos : Tab Nat := []
  scrubPass : Nat := 0
  refreshing : List Nat := []
  recalTries : Tab Nat := []
  holds : List Hold := []
  sweeps : List (Nat × Nat × Nat) := []
  restores : List (Nat × Nat × Nat) := []
  ctr : Tab Nat := []
  shadow : Tab Nat := []
  deriving DecidableEq, Repr

/-! ### Fabric (10) -/

/-- A sending stream: the packets of one class from one endpoint to another through one port (R286, R287, R299). The
first `sent` of `unacked` have been sent since the stream last went back, the others wait for the window and the link; the first
`again` have been sent before; `reqs` holds the bulk requests behind each tag; `hold` is 1 while a record, 2 while the 2 µs of an
EPOCH_AHEAD are awaited, and the stream then resends from the SEQ `resume` (R295). -/
structure TxStream where
  ctx : Nat
  entry : Nat
  cls : Nat
  next : Nat
  unacked : List FabPkt
  reqs : List (Nat × List Pkt)
  sent : Nat
  again : Nat
  timeouts : Nat
  window : Nat
  ignoreTil : Nat
  hold : Nat
  resume : Nat
  deriving DecidableEq, Repr

/-- A receiving stream (R287): the next SEQ, the accepted packets not yet acknowledged in order as (SEQ, completed,
poison), the delayed ACK, the largest mark since the last answer, and the fragments of a management message (R291). -/
structure RxStream where
  src : Nat
  dst : Nat
  cls : Nat
  expected : Nat
  wait : List (Nat × Bool × Bool)
  ackDue : Option Nat
  echo : Nat
  frag : Nat
  buf : List Byte
  deriving DecidableEq, Repr

/-- An access that a port engine makes for a fabric packet, or for a GLOBAL request of its own module (`bulk`, R280):
the stream and SEQ it answers, and the lines that have come back (R285). -/
structure RxOp where
  id : Nat
  src : Nat
  dst : Nat
  seq : Nat
  kind : Nat
  tag : Nat
  len : Nat
  left : List Nat
  data : Tab (List (Byte × Bool))
  refused : Bool
  code : Nat
  bulk : Option Pkt
  deriving DecidableEq, Repr

/-- Encryption counters of the sending key of one entry at one port, one for each class (R290). -/
structure KeyUse where
  entry : Nat
  nctr : Tab Nat
  deriving DecidableEq, Repr

/-- The pairwise keys of one entry (R286, R290): the phase of the sending key, the packets sent under it and the tick at which it
began; the phase of the receiving key, whether the old one is held, and the ticks of the update and of the last packet accepted
under the old one; the CTRL counter sent next and the one accepted next. -/
structure PairKey where
  entry : Nat
  txPhase : Bool := false
  count : Nat := 0
  since : Nat := 0
  rxPhase : Bool := false
  oldHeld : Bool := false
  updated : Nat := 0
  oldUsed : Nat := 0
  ctrlTx : Nat := 0
  ctrlRx : Nat := 0
  deriving DecidableEq, Repr

/-- The link layer of a port (R276): units sent and received; the packets of the last 64 blocks sent, by first unit; the last
control word sent; the credits of the three virtual lanes. -/
structure Link where
  sent : Nat := 0
  got : Nat := 0
  kept : List (Nat × FabPkt) := []
  word : Nat := 0
  credit : Tab Nat := []
  deriving DecidableEq, Repr

/-- A Wewell port and its engine (R276, R282 to R290, R303); `ctlQ` holds the ACKs and NACKs that wait for the link, as context,
entry and packet. -/
structure Port where
  link : Link := {}
  ctlQ : List (Nat × Nat × FabPkt) := []
  up : Bool := false
  down : Bool := false
  trainFails : Nat := 0
  replayFails : Nat := 0
  ctr : Tab Nat := []
  shadow : Tab Nat := []
  inQ : List Pkt := []
  merge : List Pkt := []
  keyWait : List Pkt := []
  tx : List TxStream := []
  rx : List RxStream := []
  keys : List KeyUse := []
  planeClr : List Nat := []
  nextTag : Nat := 0
  ops : List RxOp := []
  nextOp : Nat := 0
  recSent : Tab Nat := []
  deriving DecidableEq, Repr

/-- An endpoint table entry (R282). -/
structure EpEnt where
  peer : Nat
  ctx : Nat
  valid : Bool
  keyed : Bool
  member : Bool
  plane : Nat
  switchDest : Nat
  keyIndex : Nat
  epoch : Nat
  peerGen : Nat
  deriving DecidableEq, Repr

/-- The fabric's shared tables: endpoint table (R282); pairwise keys (R290); PART_INFO received, as entry, generation, part, seed and package
digest (R291); partners' copies, as context, endpoint, shard and VERIFIED (R406). -/
structure Fab where
  table : Tab EpEnt := []
  ports : Tab Port := []
  keys : List PairKey := []
  partInfo : List (Nat × Nat × Nat × Nat × Nat) := []
  xchg : List (Nat × Nat × Nat × Bool) := []
  deriving DecidableEq, Repr

/-! ### Self-healing, resets, telemetry, ports -/

/-- A check of a sampled firing in progress (R385 to R390). -/
structure Check where
  core : Nat
  checker : Nat
  third : Option Nat
  slot : Nat
  mb : Nat
  start : Nat
  proof : Bool
  deriving DecidableEq, Repr

/-- A ledger record waiting to be written (R30), with the RETIRE command that waits for it. -/
structure LJob where
  type : Nat
  reason : Nat
  target : Nat
  detail : Nat
  cmd : Option (Nat × Nat × Nat × Bool × Nat)
  deriving DecidableEq, Repr

/-- A W-class page waiting for its refill (R403, R407). -/
structure Refill where
  core : Nat
  page : Nat
  reason : Nat
  cleanMb : Nat
  deriving DecidableEq, Repr

/-- A die path, a fall-back or the fault move of one core in progress (R379, R393, R399, R400): what is suspect and why,
the context and the first microbatch that its stations do not run, the instant of detection, how far it is, the core
found wrong, and the RETIRE command that waits for it. -/
structure DiePath where
  die : Nat
  core : Option Nat
  reason : Nat
  ctx : Option Nat
  cut : Nat
  t0 : Nat
  begun : Bool
  margin : Bool
  settling : Bool
  proof : Bool
  failed : Bool
  wrong : Option Nat
  cmd : Option (Nat × Nat × Nat × Bool × Nat)
  deriving DecidableEq, Repr

/-- Continual test and recovery in hand (14). -/
structure Heal where
  ledgerQ : List LJob := []
  checks : List Check := []
  refills : List Refill := []
  reloads : List (Nat × Nat × Nat) := []
  proofs : Tab Nat := []
  paths : List DiePath := []
  deriving DecidableEq, Repr

/-- How far a basin reset is (R421). -/
inductive RstStage where
  | waiting | partialDrain | collect | ready
  deriving DecidableEq, Repr

/-- A basin reset (R419 to R422). -/
structure Reset where
  ctx : Nat
  set : List Nat
  trigger : Nat
  slot : Nat
  dumpNo : Nat
  stage : RstStage
  cut : Nat
  cutStep : Nat
  start : Nat
  hbmFail : Bool
  sweep : Option (Nat × Nat) := none
  swept : Bool := false
  deriving DecidableEq, Repr

/-- A staged dump of one basin (R426 to R429): the stack that stages it, none where only the SUMMARY is kept; the SUMMARY
and the other records as (KIND, body); how many records have been placed; `plain` is the length of the secure plaintext. -/
structure Dump where
  ctx : Nat
  no : Nat
  basin : Nat
  home : Option Nat
  summary : List Byte
  records : List (Nat × List Byte)
  index : Nat
  secure : Bool
  ready : Bool
  blocks : Nat
  noResp : Nat
  staged : Nat
  plain : Nat
  deriving DecidableEq, Repr

/-- Basin resets and dumps (15). -/
structure Rst where
  cur : Option Reset := none
  next : List Reset := []
  dumpNo : Nat := 0
  dumps : List Dump := []
  deriving DecidableEq, Repr

/-- A telemetry record kept for TELEM_READ (R499). -/
structure TRec where
  type : Nat
  ctx : Nat
  bytes : List Byte
  deriving DecidableEq, Repr

/-- Telemetry (19). -/
structure Telem where
  latest : List TRec := []
  seq : Tab Nat := []
  mask : Nat := 0
  subEid : Nat := 0
  prev : Tab Nat := []
  push : List TRec := []
  deriving DecidableEq, Repr

/-- The PCI Express link (R317). -/
structure HostPort where
  up : Bool := false
  width : Nat := 8
  rate : Nat := 128
  flit : Bool := true
  deriving DecidableEq, Repr

/-- The management bus (R473, R481). -/
structure Mgmt where
  eid : Nat := 0
  mode : Bool := false
  addr : Nat := 0
  lastWrite : Option Nat := none
  writes : Nat := 0
  deriving DecidableEq, Repr

/-- The test access port (R482). `actsAs` is the instruction in effect. -/
structure Jtag where
  ir : JtagIr := .bypass
  actsAs : JtagIr := .bypass
  pinsDriven : Bool := false
  deriving DecidableEq, Repr

/-- What the module has sent to the world: DMA writes to host memory, MSI-X messages, answers on DOE, MCTP and JTAG,
fabric packets, telemetry pushes. The model's own record of its outputs. -/
inductive Output where
  | compRec (ctx index : Nat) (phase : Bool) (sqHead : Nat) (c : Comp)
  | msgRec (ctx unit : Nat) (phase trunc : Bool) (r : MsgRec)
  | msix (ctx vector : Nat)
  | spdm (tr : Transport) (code : Nat) (words : List Nat)
  | vendor (tr : Transport) (opcode status : Nat) (words : List Nat)
  | mctp (cmd status : Nat) (words : List Nat)
  | mctpBytes (cmd status eid : Nat) (bytes : List Byte)
  | regRead (off : Nat) (value : Nat)
  | fabric (port : Nat) (pkt : FabPkt)
  | outputs (ctx addr status : Nat) (bytes : List Byte)
  | tdo (value : Nat)
  | ctlReply (node : Nat) (addr : Nat) (values : List Nat)
  deriving DecidableEq, Repr

/-- The machine's state. `free` and `out` are the model's own fields, `pending` is the queue of waiting commands. -/
structure State where
  pending : List Instr
  free : Nat
  out : List Output
  sup : Sup
  pwr : Pwr
  clk : Clk
  dies : Tab Die
  flash : Flash
  fuse : Fuse
  trust : Trust
  glb : Glb
  tst : Tst
  ctxs : Tab Ctx
  basins : Tab Basin
  cores : Tab Core
  routers : Tab Router
  mesh : Mesh
  hbms : Tab Hbm
  fab : Fab
  heal : Heal
  rst : Rst
  telem : Telem
  hostp : HostPort
  mgmt : Mgmt
  jtag : Jtag
  deriving DecidableEq, Repr

/-- Reasons the block stops. No behaviour the spec describes ends in one; the constructor is raised by a command whose
operand names no unit of the module (a core of 9,216 or above, a context of 16 or above), which no agent can send.
SAFE: the model stops where there is nothing to act on. -/
inductive Fault where
  /-- Raised by any meaning given a core, context, basin, die, port or slot number that the module does not have. -/
  | noSuchUnit
  deriving DecidableEq, Repr

/-- Reasons a command has no meaning. -/
inductive Refusal where
  /-- Raised by an arm of `exec` whose command has no meaning yet. SAFE: the model says nothing of it. -/
  | notModelled (mnemonic : String)
  deriving DecidableEq, Repr

/-- The part's firmware image as it lies in flash when it leaves the factory (log 11): a valid image, version 1.0.0. -/
def factoryImage : FwImage :=
  { readOk := true, hdrOk := true, keySlot := 0, pubDigest := 0, sigOk := true, svn := 0, commitSvn := false,
    bodyOk := true, bodyLen := 1024, lenOk := true, major := 1, minor := 0, patch := 0, meas := 0 }

/-- The module with PERST_N low and the always-on rails up (R440, R462): every register at the reset value of its
table, no layout, no keys, empty queues; the values the spec does not give are those of log 3, 4 and 11. -/
def State.reset : State :=
  { pending := [], free := 0, out := [], sup := {}, pwr := {}, clk := {}, dies := [],
    flash := { image := some factoryImage }, fuse := {}, trust := {}, glb := {}, tst := {}, ctxs := [], basins := [],
    cores := [], routers := [], mesh := {}, hbms := [], fab := {}, heal := {}, rst := {}, telem := {}, hostp := {},
    mgmt := {}, jtag := {} }

end Sys2Proof.Machine
end

