-- ==== Sys2Proof/WellFormed.lean ====
section
/-! DEFINITION. Which commands are well formed: every operand that names a unit of the module names one that exists
(R14 core numbers, R197 task slots, R321 contexts, R11 basins, R276 ports, R326 doorbells), and every field an agent
sends fits its width. No agent of the spec sends an ill-formed command; a meaning given one that names no unit stops. -/

namespace Sys2Proof

/-- A clock request names the core PLL, the control PLL or one of a die's 144 core branches (R459). -/
def ClockSel.wf : ClockSel → Bool
  | .corePll => true
  | .coreBranch core => decide (core < 9216)
  | .ctlPll => true

/-- Well-formed commands. -/
def Instr.wf : Instr → Bool
  | .inputPowerRise _ => true
  | .inputRange _ => true
  | .powerFailShutdown => true
  | .faultShutdown _ => true
  | .stackRailFault die _ => decide (die < 64)
  | .thermalThrottle die sensor _ => decide (die < 64) && decide (sensor < 4)
  | .hbmThermalThrottle basin _ => decide (basin < 16)
  | .refClockLost => true
  | .refClockRestored => true
  | .moduleReset => true
  | .startUp _ => true
  | .startupClear => true
  | .fastClockStart die sel => decide (die < 64) && sel.wf
  | .fastClockStop die sel => decide (die < 64) && sel.wf
  | .settingsRead => true
  | .settingsWrite _ _ _ _ => true
  | .ledgerRecordWritten => true
  | .ledgerCompaction => true
  | .getVersion _ => true
  | .getCapabilities _ => true
  | .negotiateAlgorithms _ _ => true
  | .getDigests _ => true
  | .getCertificate _ _ => true
  | .challenge _ _ _ => true
  | .getMeasurements _ _ => true
  | .keyExchange _ => true
  | .finish _ _ _ => true
  | .keyUpdate _ _ => true
  | .heartbeat _ _ => true
  | .endSession _ _ => true
  | .getNonce _ _ => true
  | .getTransportCert _ _ => true
  | .registerOwner _ _ _ _ _ => true
  | .setFmKey _ _ _ _ _ => true
  | .returnLc _ _ _ => true
  | .reprovision _ _ _ => true
  | .ledgerClear _ _ _ => true
  | .debugUnlock _ _ _ => true
  | .lcRetire _ _ _ => true
  | .provisioning _ => true
  | .go _ => true
  | .goPersist _ _ => true
  | .pushComplete _ => true
  | .jtagInstruction _ => true
  | .sqDoorbell ctx ring value => decide (ctx < 16) && decide (ring < 8) && decide (value < 65536)
  | .cqHead ctx value => decide (ctx < 16) && decide (value < 65536)
  | .msgHead ctx value => decide (ctx < 16) && decide (value < 65536)
  | .descriptorFetch ctx _ => decide (ctx < 16)
  | .hostDmaFault ctx _ _ => decide (ctx < 16)
  | .completionWrite ctx => decide (ctx < 16)
  | .messageRecordPlace ctx => decide (ctx < 16)
  | .interrupt ctx _ _ => decide (ctx < 16)
  | .hostNop ctx => decide (ctx < 16)
  | .stageImage ctx _ => decide (ctx < 16)
  | .stageWpkg ctx _ => decide (ctx < 16)
  | .loadLayout ctx => decide (ctx < 16)
  | .unloadLayout ctx => decide (ctx < 16)
  | .reloadScale ctx => decide (ctx < 16)
  | .infer ctx _ => decide (ctx < 16)
  | .sessionOpen ctx _ => decide (ctx < 16)
  | .sessionClose ctx => decide (ctx < 16)
  | .stepSync ctx => decide (ctx < 16)
  | .bindPeer ctx => decide (ctx < 16)
  | .setPorts ctx => decide (ctx < 16)
  | .fabRecord ctx _ => decide (ctx < 16)
  | .lateReport ctx => decide (ctx < 16)
  | .debugDump ctx _ => decide (ctx < 16)
  | .retire ctx => decide (ctx < 16)
  | .microbatchAdmit ctx _ => decide (ctx < 16)
  | .microbatchComplete ctx => decide (ctx < 16)
  | .enable ctx _ => decide (ctx < 16)
  | .apply ctx => decide (ctx < 16)
  | .teardown ctx => decide (ctx < 16)
  | .functionLevelReset fn => decide (fn < 16)
  | .contextOutstandingZero ctx => decide (ctx < 16)
  | .ctxQuarantine ctx => decide (ctx < 16)
  | .contextClearComplete ctx => decide (ctx < 16)
  | .registerWrite _ _ _ _ => true
  | .meshApply => true
  | .chanWdogWrite basin _ => decide (basin < 16)
  | .coreWindowAccess _ _ _ => true
  | .coreMxSnap => true
  | .coreVcSnap => true
  | .coreSpSnap => true
  | .coreChSnap => true
  | .meshSnap => true
  | .hbmSnap basin => decide (basin < 16)
  | .fabSnap => true
  | .tstSnap => true
  | .codeNop core slot => decide (core < 9216) && decide (slot < 8)
  | .mxc core => decide (core < 9216)
  | .vcc core => decide (core < 9216)
  | .sdc core => decide (core < 9216)
  | .sendd core slot => decide (core < 9216) && decide (slot < 8)
  | .sendt core slot => decide (core < 9216) && decide (slot < 8)
  | .wait core slot => decide (core < 9216) && decide (slot < 8)
  | .seti core slot => decide (core < 9216) && decide (slot < 8)
  | .addi core slot => decide (core < 9216) && decide (slot < 8)
  | .adj core slot => decide (core < 9216) && decide (slot < 8)
  | .loop core slot => decide (core < 9216) && decide (slot < 8)
  | .dropRep core slot => decide (core < 9216) && decide (slot.unit < 8)
  | .endOp core slot _ => decide (core < 9216) && decide (slot < 8)
  | .arrive core slot => decide (core < 9216) && decide (slot < 8)
  | .syncWait core slot => decide (core < 9216) && decide (slot < 8)
  | .arriveWait core slot => decide (core < 9216) && decide (slot < 8)
  | .post core slot => decide (core < 9216) && decide (slot < 8)
  | .take core slot => decide (core < 9216) && decide (slot < 8)
  | .firingComplete core => decide (core < 9216)
  | .mxNop core => decide (core < 9216)
  | .mma core _ => decide (core < 9216)
  | .mxDrain core => decide (core < 9216)
  | .mxClear core => decide (core < 9216)
  | .mxCmdStart core => decide (core < 9216)
  | .mxShadowSwap core => decide (core < 9216)
  | .mxDrainStart core => decide (core < 9216)
  | .mxDrainRow core _ => decide (core < 9216)
  | .operandBeatArrive core port src => decide (core < 9216) && decide (port < 5) && decide (src < 34)
  | .vcNop core => decide (core < 9216)
  | .chain core => decide (core < 9216)
  | .loadc core => decide (core < 9216)
  | .loadlut core => decide (core < 9216)
  | .sets core => decide (core < 9216)
  | .vcQuadStart core _ => decide (core < 9216)
  | .sdNop core unit => decide (core < 9216) && decide (unit < 3)
  | .load core unit => decide (core < 9216) && decide (unit < 2)
  | .store core => decide (core < 9216)
  | .streamerRequest core unit => decide (core < 9216) && decide (unit < 7)
  | .lineReturn core unit _ => decide (core < 9216) && decide (unit < 7)
  | .ceWriteBack core => decide (core < 9216)
  | .patrolScrub core _ => decide (core < 9216)
  | .remoteAccess core _ => decide (core < 9216)
  | .coreClear core => decide (core < 9216)
  | .messageInject core ep => decide (core < 9216) && decide (ep < 32)
  | .messageArrive core _ => decide (core < 9216)
  | .spillCopy core ep _ => decide (core < 9216) && decide (ep < 32)
  | .messageTake core ep _ => decide (core < 9216) && decide (ep < 32)
  | .entryFree core ep => decide (core < 9216) && decide (ep < 32)
  | .creditSend core ep _ => decide (core < 9216) && decide (ep < 32)
  | .creditArrive core => decide (core < 9216)
  | .contributionArrive core => decide (core.unit < 9216)
  | .stallRead => true
  | .packetInject core => decide (core < 9216)
  | .packetHop _ _ => true
  | .colEntry _ => true
  | .packetEject _ => true
  | .flitReplay core _ => decide (core < 9216)
  | .linkFailure core _ => decide (core < 9216)
  | .hardGap die _ => decide (die < 64)
  | .flipComplete => true
  | .drainMarkerPass => true
  | .carryCopyComplete slot _ => decide (slot < 16384)
  | .drainSweepPass => true
  | .congestionEcho core outbound unit => decide (core < 9216) && decide (unit < if outbound then 32 else 7)
  | .injectionWindowTick core outbound unit => decide (core < 9216) && decide (unit < if outbound then 32 else 7)
  | .controlPacket _ data node _ => decide (data.length ≤ 8) && decide (node < 9216)
  | .engineArrive basin => decide (basin < 16)
  | .enginePost basin => decide (basin < 16)
  | .engineTake basin => decide (basin < 16)
  | .release core => decide (core < 9216)
  | .grant core => decide (core < 9216)
  | .hbmRequest basin caFails => decide (basin < 16) && decide (caFails ≤ 2)
  | .hbmReadComplete basin _ _ => decide (basin < 16)
  | .lineRestoreTimeout basin => decide (basin < 16)
  | .hbmWriteBack basin => decide (basin < 16)
  | .hbmSumInto basin _ => decide (basin < 16)
  | .hbmScrub basin pc _ _ => decide (basin < 16) && decide (pc < 32)
  | .rowRepair basin _ bank _ => decide (basin < 16) && decide (bank < 1024)
  | .refresh basin pc => decide (basin < 16) && decide (pc < 32)
  | .recalibration basin ch _ _ => decide (basin < 16) && decide (ch < 16)
  | .selfRefreshEntry basin => decide (basin < 16)
  | .selfRefreshExit basin => decide (basin < 16)
  | .stackWithdraw basin _ => decide (basin < 16)
  | .sessionRebuild ctx => decide (ctx < 16)
  | .portRetrain port _ => decide (port < 24)
  | .linkBlockReplay port _ => decide (port < 24)
  | .fabricRequest port => decide (port < 24)
  | .keyWaitTimeout port => decide (port < 24)
  | .fabMergeTimeout port => decide (port < 24)
  | .fabWrite port _ => decide (port < 24)
  | .fabRead port _ => decide (port < 24)
  | .fabSumInto port _ => decide (port < 24)
  | .readData port _ => decide (port < 24)
  | .ack port _ => decide (port < 24)
  | .nack port _ => decide (port < 24)
  | .ackTimer port => decide (port < 24)
  | .fabArrive port _ => decide (port < 24)
  | .fabRelease port _ => decide (port < 24)
  | .resendTimeout port _ => decide (port < 24)
  | .epochAheadResend port _ => decide (port < 24)
  | .fabWinTick port _ => decide (port < 24)
  | .fabKeyRenewal port entry => decide (port < 24) && decide (entry < 4096)
  | .fabOldKeyErase port entry => decide (port < 24) && decide (entry < 4096)
  | .mgmtSpdm port _ _ _ _ => decide (port < 24)
  | .record port _ _ => decide (port < 24)
  | .mctpMembershipRecord _ => true
  | .ctxClose port _ => decide (port < 24)
  | .ctxCloseAck port _ => decide (port < 24)
  | .partInfo port _ => decide (port < 24)
  | .partInfoReq port _ => decide (port < 24)
  | .digestXchg port _ => decide (port < 24)
  | .digestExchangeSend ctx => decide (ctx < 16)
  | .stepSyncPulse => true
  | .scaleClose ctx => decide (ctx < 16)
  | .sectionSwap basin _ => decide (basin < 16)
  | .drainComplete => true
  | .drainTimeout => true
  | .idleSweepStep basin => decide (basin < 16)
  | .priorityTest basin => decide (basin < 16)
  | .idleTest basin _ => decide (basin < 16)
  | .checkCompare _ => true
  | .thirdCoreResult _ => true
  | .checkTimeout => true
  | .agingMonitorRead low => low.all (· < 64)
  | .dieQuiesce die => decide (die < 64)
  | .quiesceTimeout die => decide (die < 64)
  | .stationResume core _ => decide (core < 9216)
  | .proofRunComplete die _ _ => decide (die < 64)
  | .weightRefill => true
  | .shardSweep basin _ => decide (basin < 16)
  | .shardReloaded basin _ _ => decide (basin < 16)
  | .basinReset => true
  | .partialDrainComplete => true
  | .dumpCollectComplete _ => true
  | .basinReady => true
  | .dumpRecordDeliver ctx => decide (ctx < 16)
  | .armLapse basin => decide (basin < 16)
  | .telemRead _ ctx => decide (ctx < 16)
  | .telemSubscribe _ _ => true
  | .lateRequest ctx => decide (ctx < 16)
  | .congestionMap unread => unread.all (· < 9216)
  | .powerThermal ma100 watts _ => decide (ma100 < 65536) && decide (watts < 65536)
  | .groupCounters => true
  | .telemetryPushTimeout => true
  | .hostLinkTraining _ _ _ => true
  | .mctpEndpointIdAssign _ => true
  | .corePllRelock die => decide (die < 64)
  | .basinClearComplete basin => decide (basin < 16)
  | .glbAlertWrite _ _ => true

end Sys2Proof
end

