-- ==== Sys2Proof/Machine/Ops.lean ====
section
/-! DEFINITION. Named operations that the meanings share: tables, memory, geometry, access to units, counters, message
records and events, suspicion, resets, alerts, and the runner of a core's commands. -/

namespace Sys2Proof.Machine

/-! ### Tables -/

/-- Entry `k` of a table, `d` where it is not listed. -/
def tabGet {α : Type} : Tab α → Nat → α → α
  | [], _, d => d
  | (j, v) :: t, k, d => if j = k then v else tabGet t k d

/-- Entry `k` of a table replaced; numbers stay strictly rising. -/
def tabSet {α : Type} : Tab α → Nat → α → Tab α
  | [], k, v => [(k, v)]
  | (j, w) :: t, k, v =>
    if k < j then (k, v) :: (j, w) :: t
    else if k = j then (k, v) :: t
    else (j, w) :: tabSet t k v

/-- Entry `k` of a table taken out. -/
def tabDel {α : Type} (t : Tab α) (k : Nat) : Tab α := t.filter (fun e => e.1 != k)

/-- Whether entry `k` is listed. -/
def tabHas {α : Type} (t : Tab α) (k : Nat) : Bool := t.any (fun e => e.1 == k)

/-- A counter of 64 bits advanced by `n` (R70, R252, R416: 64-bit counters). -/
def bump (t : Tab Nat) (i n : Nat) : Tab Nat := tabSet t i ((tabGet t i 0 + n) % 2 ^ 64)

/-- A counter kept at its greatest value yet (the high-water counter of R184). -/
def bumpMax (t : Tab Nat) (i n : Nat) : Tab Nat := tabSet t i (max (tabGet t i 0) n)

/-- The `i`-th of a list, `d` beyond its end. -/
def nth {α : Type} (l : List α) (i : Nat) (d : α) : α := l.getD i d

/-- The `i`-th of a list replaced. -/
def setNth {α : Type} : List α → Nat → α → List α
  | [], _, _ => []
  | _ :: t, 0, v => v :: t
  | h :: t, i + 1, v => h :: setNth t i v

/-- A number added to a rising list with no repeats. -/
def insertNat (n : Nat) : List Nat → List Nat
  | [] => [n]
  | m :: t => if n < m then n :: m :: t else if n = m then m :: t else m :: insertNat n t

/-- A list of numbers in rising order with no repeats. -/
def sortNat (l : List Nat) : List Nat := l.foldr insertNat []

/-- The greatest of a list and a floor. -/
def maxOf (l : List Nat) (d : Nat) : Nat := l.foldl max d

/-- The sum of a list. -/
def sumOf (l : List Nat) : Nat := l.foldl (· + ·) 0

/-- Numbers of the bits that are 1 among the low `w` bits, rising. -/
def bitList (w n : Nat) : List Nat := (List.range w).filter (fun i => bitAt n i)

/-- The mask with the bits of a list set. -/
def maskOf (l : List Nat) : Nat := (sortNat l).foldl (fun a i => a + 2 ^ i) 0

/-! ### Memory (one canonical form: addresses rising, no zero byte listed) -/

/-- The byte at `a`; a byte not listed is zero (R156, R465: cleared memory). -/
def memGet : Mem → Nat → Byte
  | [], _ => 0
  | (j, v) :: t, a => if j = a then v else memGet t a

/-- The byte at `a` replaced; writing zero takes the entry out. -/
def memSet : Mem → Nat → Byte → Mem
  | [], a, v => if v = 0 then [] else [(a, v)]
  | (j, w) :: t, a, v =>
    if a < j then (if v = 0 then (j, w) :: t.filter (fun c => c.1 != a) else (a, v) :: (j, w) :: t)
    else if a = j then (if v = 0 then t.filter (fun c => c.1 != a) else (a, v) :: t)
    else (j, w) :: memSet t a v

/-- `n` bytes from `a`. -/
def memRead (m : Mem) (a n : Nat) : List Byte := (List.range n).map (fun i => memGet m (a + i))

/-- Bytes written from `a` upwards. -/
def memWrite : Mem → Nat → List Byte → Mem
  | m, _, [] => m
  | m, a, b :: bs => memWrite (memSet m a b) (a + 1) bs

/-- Bytes `a` to `a + n - 1` cleared. -/
def memClear (m : Mem) (a n : Nat) : Mem := m.filter (fun c => decide (c.1 < a ∨ a + n ≤ c.1))

/-- Addresses above `a` rise strictly and no listed byte is zero. -/
def memWfFrom : Nat → Mem → Bool
  | _, [] => true
  | a, (j, v) :: t => decide (a ≤ j) && decide (v ≠ 0) && memWfFrom (j + 1) t

/-- The canonical form of memory. -/
def Memory.wf (m : Mem) : Bool := memWfFrom 0 m

/-- A number from little-endian bytes (R7). -/
def leNat : List Byte → Nat
  | [] => 0
  | b :: bs => b.toNat + 256 * leNat bs

/-- `n` little-endian bytes of a number (R7). -/
def leBytes : Nat → Nat → List Byte
  | 0, _ => []
  | n + 1, v => BitVec.ofNat 8 v :: leBytes n (v / 256)

/-- A list cut or zero-padded to `n` bytes. -/
def fitBytes (n : Nat) (l : List Byte) : List Byte := (l ++ List.replicate n 0).take n

/-! ### Geometry (R11 to R15) -/

/-- Core sites of the module (R14). -/
def nCores : Nat := 9216

/-- x of a physical core number (R14). -/
def coreX (k : Nat) : Nat := k % 96
/-- y of a physical core number (R14). -/
def coreY (k : Nat) : Nat := k / 96
/-- The physical core at (x, y) (R14). -/
def coreNo (x y : Nat) : Nat := y * 96 + x
/-- The die stack of a core (R15). -/
def dieOf (k : Nat) : Nat := coreY k / 12 * 8 + coreX k / 12
/-- The basin of a core (R15). -/
def basinOf (k : Nat) : Nat := coreY k / 24 * 4 + coreX k / 24
/-- The basin of a die stack (R11). -/
def basinOfDie (d : Nat) : Nat := d / 8 / 2 * 4 + d % 8 / 2
/-- The memory die of a basin: its south-west die (R12). -/
def memDie (b : Nat) : Nat := b / 4 * 2 * 8 + b % 4 * 2
/-- The sync node of a basin's engine: the south-west site of its memory die (R245; log 144). -/
def engineAt (b : Nat) : Nat := b / 4 * 24 * 96 + b % 4 * 24
/-- The partner basin (R11). -/
def partner (b : Nat) : Nat := 15 - b
/-- Hops between two cores on the grid. -/
def hopDist (a b : Nat) : Nat :=
  (max (coreX a) (coreX b) - min (coreX a) (coreX b)) + (max (coreY a) (coreY b) - min (coreY a) (coreY b))
/-- The 576 cores of a basin in ascending physical core number (R15). -/
def coresOfBasin (b : Nat) : List Nat :=
  (List.range 24).flatMap (fun r => (List.range 24).map (fun c => coreNo (b % 4 * 24 + c) (b / 4 * 24 + r)))
/-- The 144 cores of a die in ascending physical core number (R15). -/
def coresOfDie (d : Nat) : List Nat :=
  (List.range 12).flatMap (fun r => (List.range 12).map (fun c => coreNo (d % 8 * 12 + c) (d / 8 * 12 + r)))

/-! ### Access to units -/

/-- Core `k`. -/
def coreAt (s : State) (k : Nat) : Core := tabGet s.cores k {}
/-- Core `k` replaced. -/
def putCore (s : State) (k : Nat) (c : Core) : State := { s with cores := tabSet s.cores k c }
/-- Context `n`. -/
def ctxAt (s : State) (n : Nat) : Ctx := tabGet s.ctxs n {}
/-- Context `n` replaced. -/
def putCtx (s : State) (n : Nat) (c : Ctx) : State := { s with ctxs := tabSet s.ctxs n c }
/-- Basin `b`. -/
def basinAt (s : State) (b : Nat) : Basin := tabGet s.basins b {}
/-- Basin `b` replaced. -/
def putBasin (s : State) (b : Nat) (x : Basin) : State := { s with basins := tabSet s.basins b x }
/-- Die stack `d`. -/
def dieAt (s : State) (d : Nat) : Die := tabGet s.dies d {}
/-- Die stack `d` replaced. -/
def putDie (s : State) (d : Nat) (x : Die) : State := { s with dies := tabSet s.dies d x }
/-- Stack `b`. -/
def hbmAt (s : State) (b : Nat) : Hbm := tabGet s.hbms b {}
/-- Stack `b` replaced. -/
def putHbm (s : State) (b : Nat) (h : Hbm) : State := { s with hbms := tabSet s.hbms b h }
/-- Router `k`. -/
def routerAt (s : State) (k : Nat) : Router := tabGet s.routers k {}
/-- Router `k` replaced. -/
def putRouter (s : State) (k : Nat) (r : Router) : State := { s with routers := tabSet s.routers k r }
/-- Wewell port `p`. -/
def portAt (s : State) (p : Nat) : Port := tabGet s.fab.ports p {}
/-- Wewell port `p` replaced. -/
def putPort (s : State) (p : Nat) (x : Port) : State := { s with fab := { s.fab with ports := tabSet s.fab.ports p x } }
/-- A router's counter advanced (R252, R445). -/
def bumpRouter (s : State) (k i n : Nat) : State :=
  putRouter s k { routerAt s k with ctr := bump (routerAt s k).ctr i n }
/-- A port's counter advanced (R303). -/
def bumpPort (s : State) (p i n : Nat) : State := putPort s p { portAt s p with ctr := bump (portAt s p).ctr i n }
/-- A stack's counter advanced (R274). -/
def bumpHbm (s : State) (b i n : Nat) : State := putHbm s b { hbmAt s b with ctr := bump (hbmAt s b).ctr i n }
/-- A TST_ counter advanced (R416). -/
def bumpTst (s : State) (i n : Nat) : State := { s with tst := { s.tst with ctr := bump s.tst.ctr i n } }
/-- The same change made to every unit of a list. -/
def forEach {α : Type} (l : List α) (f : State → α → State) (s : State) : State := l.foldl f s
/-- A sync node's counter advanced: 0, 1 injected and 2, 3 ejected, by epoch (R231). -/
def bumpNode (s : State) (k i : Nat) : State :=
  putRouter s k { routerAt s k with sctr := bump (routerAt s k).sctr i 1 }
/-- A packet offered to the sync mesh at its source node (R231, R245). -/
def sendSync (s : State) (p : SyncPkt) : State :=
  let s1 := bumpNode s p.src (b2n p.epoch)
  { s1 with mesh := { s1.mesh with sync := s1.mesh.sync ++ [p] } }
/-- What the module sends to the world. -/
def emit (s : State) (o : Output) : State := { s with out := s.out ++ [o] }
/-- The next free value and the state that has used it (log 8). -/
def takeFree (s : State) : BitVec 512 × State := (Config.freeBits s.free, { s with free := s.free + 1 })

/-! ### Grants and states of cores (R24, R25, R32, R36) -/

/-- The basins granted to a context, ascending (R322). -/
def grantOf (s : State) (n : Nat) : List Nat := (List.range 16).filter (fun b => (basinAt s b).ctx == some n)
/-- The context that events in a basin go to: its holder, context 0 without one (R345). -/
def ownerOf (s : State) (b : Nat) : Nat := (basinAt s b).ctx.getD 0
/-- Good cores: SPARE, IN_USE or UNDER_TEST (R24). -/
def CoreSt.good : CoreSt → Bool
  | .spare => true
  | .inUse => true
  | .underTest => true
  | .shipDefect => false
  | .retired => false
  | .fenced => false
/-- Code of a core state (R442). -/
def CoreSt.code : CoreSt → Nat
  | .shipDefect => 0
  | .retired => 1
  | .fenced => 2
  | .spare => 3
  | .inUse => 4
  | .underTest => 5
/-- Good cores of some basins: every site but the listed ones that are not good. -/
def goodIn (s : State) (bs : List Nat) : Nat :=
  576 * bs.length - (s.cores.filter (fun e => bs.contains (basinOf e.1) && !e.2.st.good)).length
/-- Good cores of the whole module (R36). -/
def goodAll (s : State) : Nat := goodIn s (List.range 16)
/-- Good cores in the basins of a context (R32). -/
def goodOf (s : State) (n : Nat) : Nat := goodIn s (grantOf s n)

/-! ### Event codes (R345, R415, R432, R452, R475) -/

/-- Group base plus position in the group's list. -/
def evCode (base pos : Nat) : Nat := base + pos

abbrev evPortTokenInvalid : Nat := 0x0101
abbrev evMatrixTileFault : Nat := 0x0102
abbrev evMatrixAnchorMismatch : Nat := 0x0103
abbrev evMatrixCmdInvalid : Nat := 0x0104
abbrev evMatrixUnderrun : Nat := 0x0105
abbrev evPoisonedOperand : Nat := 0x0106
abbrev evMxParity : Nat := 0x0107
abbrev evEsfAnchorMismatch : Nat := 0x0201
abbrev evVecOperandForm : Nat := 0x0202
abbrev evVecTableInvalid : Nat := 0x0203
abbrev evVecTableEmpty : Nat := 0x0204
abbrev evVecTableFault : Nat := 0x0205
abbrev evVecParity : Nat := 0x0206
abbrev evVecCmdInvalid : Nat := 0x0207
abbrev evVecFmtMismatch : Nat := 0x0208
abbrev evVecUnderrun : Nat := 0x0209
abbrev evSpUncorrectable : Nat := 0x0301
abbrev evSpWclassWrite : Nat := 0x0302
abbrev evSpBankOff : Nat := 0x0303
abbrev evSpWindowFault : Nat := 0x0304
abbrev evSpAddrRange : Nat := 0x0305
abbrev evSpRemoteRefused : Nat := 0x0306
abbrev evStreamDescInvalid : Nat := 0x0307
abbrev evChSendInvalid : Nat := 0x0401
abbrev evChKindMismatch : Nat := 0x0402
abbrev evStaleGeneration : Nat := 0x0403
abbrev evChannelOverrun : Nat := 0x0404
abbrev evChPortMismatch : Nat := 0x0405
abbrev evChLandOverflow : Nat := 0x0406
abbrev evChParity : Nat := 0x0407
abbrev evRateMismatch : Nat := 0x0501
abbrev evStationCodeInvalid : Nat := 0x0502
abbrev evReconvThrottle : Nat := 0x0503
abbrev evDrainTimeout : Nat := 0x0504
abbrev evSectionReserveMiss : Nat := 0x0505
abbrev evPeerUnbound : Nat := 0x0506
abbrev evBasinRange : Nat := 0x0507
abbrev evPlaceVoteFail : Nat := 0x0601
abbrev evPlacementMismatch : Nat := 0x0602
abbrev evSlotUnmapped : Nat := 0x0603
abbrev evMeshHdrInvalid : Nat := 0x0604
abbrev evRedShapeMismatch : Nat := 0x0605
abbrev evSyncTableFull : Nat := 0x0606
abbrev evSyncPhaseFault : Nat := 0x0607
abbrev evSyncTokenOverflow : Nat := 0x0608
abbrev evSyncLost : Nat := 0x0609
abbrev evGapPacketLoss : Nat := 0x060A
abbrev evHbmWithdrawn : Nat := 0x0701
abbrev evHbmGrantFault : Nat := 0x0702
abbrev evHbmRange : Nat := 0x0703
abbrev evHbmUncorrectable : Nat := 0x0704
abbrev evHbmSpareExhausted : Nat := 0x0705
abbrev evHbmPhyFault : Nat := 0x0706
abbrev evHbmResetLost : Nat := 0x0707
abbrev evHbmShardHeld : Nat := 0x0708
abbrev evFabPortDown : Nat := 0x0801
abbrev evFabNoPort : Nat := 0x0802
abbrev evFabNoEntry : Nat := 0x0803
abbrev evFabUnreachable : Nat := 0x0804
abbrev evFabSumLost : Nat := 0x0805
abbrev evFabPeerRejected : Nat := 0x0806
abbrev evFabPeerGone : Nat := 0x0807
abbrev evFabPeerRemoved : Nat := 0x0808
abbrev evFabTableFull : Nat := 0x0809
abbrev evFabFenced : Nat := 0x080A
abbrev evHostDmaFault : Nat := 0x0901
abbrev evCoreRetired : Nat := 0x0A01
abbrev evDieRetired : Nat := 0x0A02
abbrev evMarginStep : Nat := 0x0A03
abbrev evCheckDisagree : Nat := 0x0A04
abbrev evWeightDigestFail : Nat := 0x0A05
abbrev evShardReloadNeeded : Nat := 0x0A06
abbrev evShardReloaded : Nat := 0x0A07
abbrev evQuiesceTimeout : Nat := 0x0A08
abbrev evSessionUnmirrored : Nat := 0x0A09
abbrev evPeerShardBad : Nat := 0x0A0A
abbrev evBasinReset : Nat := 0x0B01
abbrev evLayoutRestarted : Nat := 0x0B02
abbrev evLayoutHeld : Nat := 0x0B03
abbrev evRegVoteFail : Nat := 0x0C01
abbrev evRefClockLost : Nat := 0x0D01
abbrev evRefClockRestored : Nat := 0x0D02
abbrev evInputRange : Nat := 0x0D03
abbrev evThermalThrottle : Nat := 0x0D04
abbrev evSettingsDamaged : Nat := 0x0D05

/-! ### Message records (R342 to R346) -/

/-- Units of the records waiting in a store. -/
def storeUnits (l : List MsgRec) : Nat := sumOf (l.map (·.units))

/-- States in which the module writes nothing for a context (R350 step 1). -/
def CtxSt.closing : CtxSt → Bool
  | .stopping => true
  | .quarantine => true
  | .clearing => true
  | .free => false
  | .active => false

/-- A record enters the store of its context, 256 KiB; one that would overfill it is discarded and counted (R343);
none is written from step 1 of teardown (R350). -/
def postRec (c : Ctx) (r : MsgRec) : Ctx :=
  if c.st.closing then c
  else if 8192 < storeUnits c.store + r.units then
    { c with msgLost := (c.msgLost + 1) % 2 ^ 64, lostRun := c.lostRun + 1 }
  else { c with store := c.store ++ [{ r with step := c.stepNum }] }

/-- A record for context `n`. -/
def postMsg (s : State) (n : Nat) (r : MsgRec) : State := putCtx s n (postRec (ctxAt s n) r)

/-- A field that an event does not have: no value of the field. -/
def noFld : Nat := 2 ^ 16

/-- A field of an event body: the value the raising rule gives, or bits of a free value where the event has no such field
(R346 states none; log 39). -/
def fillFld (v : BitVec 512) (hi lo x : Nat) : Nat := if x = noFld then bits v.toNat hi lo else x

/-- An EVENT record (R344, R346): one unit of header and one of body. The slot is 0xFFFF for none. -/
def eventRec (v : BitVec 512) (code basins slot tslot ep tag core a0 a1 a2 : Nat) : MsgRec :=
  { type := 1, units := 2, step := 0, seq := 0, basins := basins, code := code, arg := 0,
    body := .event slot (fillFld v 7 0 tslot) (fillFld v 15 8 ep) (fillFld v 31 16 tag) (fillFld v 47 32 core) a0 a1 a2 }

/-- An EVENT record for context `n`; the fields it does not have take a free value. -/
def postEvent (s : State) (n code basins slot tslot ep tag core a0 a1 a2 : Nat) : State :=
  postMsg (takeFree s).2 n (eventRec (takeFree s).1 code basins slot tslot ep tag core a0 a1 a2)

/-- An event that concerns basin `b`, raised by no core (R345, R346). -/
def basinEvent (s : State) (b code a0 a1 a2 : Nat) : State :=
  postEvent s (ownerOf s b) code (2 ^ b) 0xFFFF noFld noFld noFld noFld a0 a1 a2

/-- An event for context `n` about some basins. -/
def ctxEvent (s : State) (n code basins a0 a1 a2 : Nat) : State :=
  postEvent s n code basins 0xFFFF noFld noFld noFld noFld a0 a1 a2

/-- A record with no body (R344). -/
def plainRec (type code arg basins : Nat) : MsgRec :=
  { type := type, units := 1, step := 0, seq := 0, basins := basins, code := code, arg := arg, body := .empty }

/-- A record with a body of bytes, whole units of 32 (R342). -/
def bytesRec (type code arg basins : Nat) (b : List Byte) : MsgRec :=
  { type := type, units := 1 + ceilDiv b.length 32, step := 0, seq := 0, basins := basins, code := code, arg := arg,
    body := .bytes (fitBytes (32 * ceilDiv b.length 32) b) }

/-- A completion record waits for its place in the completion ring (R328, R329). -/
def postComp (c : Ctx) (k : Comp) : Ctx := if c.st.closing then c else { c with comps := c.comps ++ [k] }

/-- A completion record of a command (R329). -/
def comp (tag ring status r0 r1 : Nat) (noIrq : Bool) : Comp :=
  { tag := tag, ring := ring, status := status, r0 := r0, r1 := r1, partMap := 0, noIrq := noIrq }

/-- A completion record for context `n`. -/
def complete (s : State) (n : Nat) (k : Comp) : State := putCtx s n (postComp (ctxAt s n) k)

/-- A failing completion record for context `n`; its results are free values (log 40). -/
def failWith (s : State) (n tag ring status : Nat) (noIrq : Bool) : State :=
  complete (takeFree s).2 n
    (comp tag ring status (bits (takeFree s).1.toNat 63 0) (bits (takeFree s).1.toNat 127 64) noIrq)

/-! ### Alerts, suspicion, resets, ledger -/

/-- The module asserts ALERT_N for a cause (R443). -/
def raiseAlert (s : State) (bit : Nat) : State := { s with glb := { s.glb with alert := s.glb.alert ||| 2 ^ bit } }

/-- A core-scope suspicion with its ledger REASON (R378); the first one stands until the core is tested. -/
def suspectCore (s : State) (k reason : Nat) : State :=
  match (coreAt s k).suspect with
  | none => putCore s k { coreAt s k with suspect := some reason }
  | some _ => s

/-- A die-scope suspicion with its ledger REASON (R378). -/
def suspectDie (s : State) (d reason : Nat) : State :=
  match (dieAt s d).suspect with
  | none => putDie s d { dieAt s d with suspect := some reason }
  | some _ => s

/-- Step 1 of a reset in one basin: every core HELD, its stack in self-refresh and the controller answering as
R269 states with what it has queued (R268, R269, R421). -/
def enterReset (s : State) (b : Nat) : State :=
  let s1 := forEach (coresOfBasin b) (fun s k => putCore s k { coreAt s k with held := true }) s
  let h := hbmAt s1 b
  let enters := !h.withdrawn && !h.selfRef
  let s2 := putHbm s1 b { h with resetting := true, inQ := h.queue ++ h.inQ, queue := [], wbq := [],
                                 selfRef := h.selfRef || enters, ctr := if enters then bump h.ctr 202 1 else h.ctr }
  putBasin s2 b { basinAt s2 b with resetting := true }

/-- The highest microbatch that a core's station has begun (R207, R393). -/
def lastBegun (c : Core) : Nat :=
  match c.station with
  | none => 0
  | some y => if c.begun = 0 ∨ y.firePerMb = 0 then 0 else (c.begun - 1) / y.firePerMb

/-- The cut of a reset: with a partial drain the highest microbatch that a station of the set has begun, else the highest
admitted (R207, R420, R428). -/
def resetCut (s : State) (n : Nat) (set : List Nat) (drain : Bool) : Nat :=
  if drain then maxOf ((s.cores.filter (fun e => set.contains (basinOf e.1) && e.2.slot.isSome)).map (fun e => lastBegun e.2)) 0
  else (ctxAt s n).nextMb - 1

/-- A trigger of a basin reset (R419). While a reset of the same context has not ended its collection the basins join
its set, stopped at once where it has begun; otherwise a reset of their own waits, with the next dump number (R433). -/
def triggerReset (s : State) (n : Nat) (set : List Nat) (trig slot : Nat) (drain : Bool) : State :=
  let new (no : Nat) : Reset :=
    { ctx := n, set := sortNat set, trigger := trig, slot := slot, dumpNo := no,
      stage := if drain then .partialDrain else .waiting, cut := resetCut s n set drain, cutStep := (ctxAt s n).stepNum,
      start := s.sup.ticks, hbmFail := false }
  match s.rst.cur with
  | none => { s with rst := { s.rst with cur := some (new (s.rst.dumpNo + 1)), dumpNo := s.rst.dumpNo + 1 } }
  | some r =>
    if r.ctx = n ∧ r.stage ≠ .ready then
      let stage := if r.stage = .partialDrain ∧ drain = false then .waiting else r.stage
      let s1 := { s with rst := { s.rst with cur := some { r with set := sortNat (r.set ++ set), stage := stage } } }
      if r.stage = .collect then forEach (set.filter (fun b => !r.set.contains b)) enterReset s1 else s1
    else
      { s with rst := { s.rst with next := s.rst.next ++ [new (s.rst.dumpNo + 1)], dumpNo := s.rst.dumpNo + 1 } }

/-- A reset of some basin of context `n` is in hand: no admission until it ends (R420, R421). -/
def resetPending (s : State) (n : Nat) : Bool :=
  (match s.rst.cur with
   | some r => r.ctx == n
   | none => false) || s.rst.next.any (fun r => r.ctx == n)

/-- A ledger record asked for (R30). -/
def askLedger (s : State) (type reason target detail : Nat) (cmd : Option (Nat × Nat × Nat × Bool × Nat)) : State :=
  { s with heal := { s.heal with ledgerQ := s.heal.ledgerQ ++
      [{ type := type, reason := reason, target := target, detail := detail, cmd := cmd }] } }

/-- The replacement flag of a context's layout (R33, R34): raised when g falls below the slot count plus 9k, and it
stays until the layout is unloaded or replaced. Its raising writes REPLACE_WARN and asserts ALERT_N. -/
def evalReplace (s : State) (n : Nat) : State :=
  match (ctxAt s n).layout with
  | none => s
  | some l =>
    let k := (grantOf s n).length
    let g := goodOf s n
    if l.replace then s
    else if g < l.slots + 9 * k then
      raiseAlert
        (postMsg (putCtx s n { ctxAt s n with layout := some { l with replace := true } }) n
          (plainRec 7 g (l.slots + k * 2 ^ 16) (maskOf (grantOf s n)))) 0
    else s

/-- The flag of every context evaluated after a change of g (R33). -/
def evalReplaceAll (s : State) : State := forEach (List.range 16) evalReplace s

/-- A core enters FENCED and holds nothing any more (R24, R25). -/
def fenceCore (s : State) (k : Nat) : State :=
  match (coreAt s k).st with
  | .shipDefect => s
  | .retired => s
  | .fenced => s
  | .spare => putCore s k { coreAt s k with st := .fenced }
  | .inUse => putCore s k { coreAt s k with st := .fenced, slot := none, station := none }
  | .underTest =>
    let b := basinAt s (basinOf k)
    putBasin (putCore s k { coreAt s k with st := .fenced }) (basinOf k) { b with underTest := b.underTest.filter (· != k) }

/-! ### Effects of a core on the rest of the module -/

/-- What a unit of a core asks of the module beside what it does to its own core. -/
inductive Ev where
  /-- An event record (R345, R346). -/
  | post (code tslot ep tag a0 a1 a2 : Nat)
  /-- A layout fault (R62): its event record and the reset of the core's basin after a partial drain (R419, R420). -/
  | fault (code tslot ep tag a0 a1 a2 : Nat)
  /-- A core-scope suspicion of this core (R378). -/
  | suspect (reason : Nat)
  /-- A packet offered to the sync mesh (R245). -/
  | sync (p : SyncPkt)
  /-- A narrowing's observation (R88, R92): tensor, exponent, saturations, invalid conversions, anchor faults. -/
  | obs (step tensor : Nat) (amax : Option Int) (satNarrow satEsf invalid anchor : Nat)
  /-- Dropped expert choices of a microbatch (R204). -/
  | drops (mb : Nat) (entries : List Nat) (full : Nat)
  /-- A page whose digest failed (R403). -/
  | refill (page reason clean : Nat)
  /-- A TST_ counter (R416). -/
  | tst (i : Nat)
  /-- A free value used (log 8). -/
  | useFree
  /-- A firing taken for checking (R385). -/
  | check (c : Check)
  deriving DecidableEq, Repr

/-- The watch record of a tensor and step updated by an observation (R88, R92). -/
def watchAdd (l : List Watch) (step tensor : Nat) (scale : Int) (amax : Option Int) (sn se iv an : Nat) : List Watch :=
  let upd (w : Watch) : Watch :=
    { w with
      amax := match amax, w.amax with
              | none, o => o
              | some a, none => some a
              | some a, some b => some (max a b)
      satNarrow := w.satNarrow + sn, satEsf := w.satEsf + se, invalid := w.invalid + iv, anchor := w.anchor + an }
  if l.any (fun w => w.step == step && w.tensor == tensor) then
    l.map (fun w => if w.step == step && w.tensor == tensor then upd w else w)
  else
    l ++ [upd { step := step, tensor := tensor, scale := scale, amax := none, satNarrow := 0, satEsf := 0,
                invalid := 0, anchor := 0, clamped := false, void := false }]

/-- What a core that recomputes a firing still has on the module: the errors of its own memory. What the firing itself reports
is the station's, and a recomputation records nothing (R91, R388; log 152). -/
def hears (c : Core) (e : Ev) : Bool :=
  c.replay.isNone ||
  (match e with
   | .post code _ _ _ _ _ _ => code == evSpUncorrectable || code == evWeightDigestFail
   | .fault _ _ _ _ _ _ _ => false
   | .suspect _ => true
   | .sync _ => false
   | .obs _ _ _ _ _ _ _ => false
   | .drops _ _ _ => false
   | .refill _ _ _ => true
   | .tst _ => true
   | .useFree => true
   | .check _ => false)

/-- One effect of core `k` on the module, where it has any. -/
def effectOf (k : Nat) (s : State) : Ev → State
  | .post code tslot ep tag a0 a1 a2 =>
    postEvent s (ownerOf s (basinOf k)) code (2 ^ basinOf k) ((coreAt s k).slot.getD 0xFFFF) tslot ep tag k a0 a1 a2
  | .fault code tslot ep tag a0 a1 a2 =>
    triggerReset
      (postEvent s (ownerOf s (basinOf k)) code (2 ^ basinOf k) ((coreAt s k).slot.getD 0xFFFF) tslot ep tag k a0 a1 a2)
      (ownerOf s (basinOf k)) [basinOf k] code ((coreAt s k).slot.getD 0xFFFF) true
  | .suspect reason => suspectCore s k reason
  | .sync p => sendSync s p
  | .obs step tensor amax sn se iv an =>
    let n := ownerOf s (basinOf k)
    let x := ctxAt s n
    let sc := if step = x.stepNum then x.scale else x.scaleOld
    putCtx s n { x with
      watch := watchAdd x.watch step tensor (tabGet sc tensor 0) amax sn se iv an,
      satSticky := if sn + se = 0 then x.satSticky else sortNat (tensor :: x.satSticky) }
  | .drops mb entries full =>
    let n := ownerOf s (basinOf k)
    putCtx s n { ctxAt s n with
      drops := (ctxAt s n).drops ++ entries.map (fun e => (mb, e)) ++ List.replicate full (mb, 2 ^ 64) }
  | .refill page reason clean =>
    if s.heal.refills.any (fun r => r.core == k && r.page == page) then s
    else
      { s with heal := { s.heal with refills := s.heal.refills ++
          [{ core := k, page := page, reason := reason, cleanMb := clean }] } }
  | .tst i => bumpTst s i 1
  | .useFree => { s with free := s.free + 1 }
  | .check c =>
    putCore { s with heal := { s.heal with checks := s.heal.checks ++ [c] } } c.checker
      { coreAt s c.checker with reserved := true }

/-- One effect of core `k` on the module. -/
def applyEv (k : Nat) (s : State) (e : Ev) : State := if hears (coreAt s k) e then effectOf k s e else s

/-- The effects of core `k`, in order. -/
def applyEvs (k : Nat) (s : State) (l : List Ev) : State := l.foldl (applyEv k) s

/-- A command of core `k`: it changes its own core, then has its effects on the module. -/
def runCore (k : Nat) (f : State → Core → Core × List Ev) (s : State) : Host.Outcome State Fault Refusal :=
  if k < nCores then
    let r := f s (coreAt s k)
    .next (applyEvs k (putCore s k r.1) r.2)
  else .fault .noSuchUnit

/-- A command of a unit of core `k`, which does nothing while the core is HELD (R156). -/
def runLive (k : Nat) (f : State → Core → Core × List Ev) (s : State) : Host.Outcome State Fault Refusal :=
  runCore k (fun s c => if c.held then (c, []) else f s c) s

/-- A command that names a unit of the module by a number below a bound. -/
def runUnit (k bound : Nat) (f : State → State) (s : State) : Host.Outcome State Fault Refusal :=
  if k < bound then .next (f s) else .fault .noSuchUnit

/-! ### A core's own parts -/

/-- A task slot of a core. -/
def slotAt (c : Core) (i : Nat) : Slot := tabGet c.slots i {}
/-- A task slot replaced. -/
def putSlot (c : Core) (i : Nat) (t : Slot) : Core := { c with slots := tabSet c.slots i t }
/-- A core counter advanced (R424). -/
def bumpCore (c : Core) (i n : Nat) : Core := { c with ctr := bump c.ctr i n }
/-- A task slot stopped by a fault, which its dump unit names (R62, R424). -/
def stopSlot (c : Core) (i code : Nat) : Core :=
  putSlot c i { slotAt c i with st := .stopped, stopEv := code }
/-- A done counter advanced; done counters count modulo 4,096 in the dump and are kept whole here (R195, R424). -/
def doneAt (t : Slot) (d : Nat) : Nat := tabGet t.done d 0
/-- One more operation of kind `d` done for a slot (R195). -/
def bumpDone (c : Core) (i d : Nat) : Core :=
  putSlot c i { slotAt c i with done := tabSet (slotAt c i).done d (doneAt (slotAt c i) d + 1) }

/-- Firing `f` lost a command, descriptor or send of task slot `i`, so that it never completes (R62, R197). -/
def loseFiring (c : Core) (i f : Nat) : Core :=
  let t := slotAt c i
  putSlot c i { t with lost := some (match t.lost with
                                     | none => f
                                     | some g => min g f) }

/-- The stamping epoch of a site's bulk router and sync node: until FLIP has reached it, the old one (R222, R230). -/
def stampOf (s : State) (k : Nat) : Bool :=
  if s.mesh.flipping ∧ s.mesh.flipped.contains k = false then !s.mesh.epoch else s.mesh.epoch

/-- The generation that messages of the core's basin carry (R171, R209). -/
def genOf (s : State) (k : Nat) : Nat := (basinAt s (basinOf k)).gen
/-- The layout that the core's station belongs to. -/
def layoutOf (s : State) (k : Nat) : Option Layout := (ctxAt s (ownerOf s (basinOf k))).layout

end Sys2Proof.Machine
end

