-- ==== Sys2Proof/Machine/Clock.lean ====
section
/-! DEFINITION. What one reference tick of 40 ns does when no command waits (log 2). -/

namespace Sys2Proof.Machine

/-- The tick counters advance while they run, and on the on-die oscillator the ticks are counted (R458, R492, R495). -/
def countTick (s : State) : State :=
  if s.sup.ticking then
    { s with sup := { s.sup with ticks := (s.sup.ticks + 1) % 2 ^ 64 },
             clk := if s.clk.refOk then s.clk else { s.clk with oscTicks := (s.clk.oscTicks + 1) % 2 ^ 32 } }
  else s

/-- The management bus accepts the oldest pushed record (R499). -/
def sendPush (s : State) : State :=
  match s.telem.push with
  | [] => s
  | r :: t => emit { s with telem := { s.telem with push := t } } (.mctpBytes 0x11 0 s.telem.subEid r.bytes)

/-- One tick. -/
def idleTick (s : State) : State := sendPush (countTick s)

end Sys2Proof.Machine
end

