-- ==== Sys2Proof/Machine/Operands.lean ====
section
/-! DEFINITION. Operand forms: element formats and their values (R48, R50, R96), operand beats (R53), the fields of a
matrix command (R59) and the geometry of a rate class (R45, R46). -/

namespace Sys2Proof.Machine

/-! ### Values and formats -/

/-- The value of an element: a NaN, an infinity, or (-1)^neg × m × 2^e. -/
inductive Fp where
  | nan
  | inf (neg : Bool)
  | fin (neg : Bool) (m : Nat) (e : Int)
  deriving DecidableEq, Repr

/-- Element formats of the module (R48, R96). -/
inductive Fmt where
  | int8 | e4m3 | e5m2 | bf16 | fp16 | int32 | fp32 | int4 | e2m1
  deriving DecidableEq, Repr

/-- Exponent bits of a floating-point format (R48); 0 for an integer format. -/
def Fmt.ebits : Fmt → Nat
  | .e4m3 => 4
  | .e5m2 => 5
  | .bf16 => 8
  | .fp16 => 5
  | .fp32 => 8
  | .e2m1 => 2
  | .int8 => 0
  | .int32 => 0
  | .int4 => 0

/-- Mantissa bits of a floating-point format (R48). -/
def Fmt.mbits : Fmt → Nat
  | .e4m3 => 3
  | .e5m2 => 2
  | .bf16 => 7
  | .fp16 => 10
  | .fp32 => 23
  | .e2m1 => 1
  | .int8 => 0
  | .int32 => 0
  | .int4 => 0

/-- Width in bits (R48). -/
def Fmt.width : Fmt → Nat
  | .int8 => 8
  | .e4m3 => 8
  | .e5m2 => 8
  | .bf16 => 16
  | .fp16 => 16
  | .int32 => 32
  | .fp32 => 32
  | .int4 => 4
  | .e2m1 => 4

/-- Integer formats. -/
def Fmt.isInt : Fmt → Bool
  | .int8 => true
  | .int32 => true
  | .int4 => true
  | .e4m3 => false
  | .e5m2 => false
  | .bf16 => false
  | .fp16 => false
  | .fp32 => false
  | .e2m1 => false

/-- Exponent bias (R48). -/
def Fmt.bias (f : Fmt) : Int := 2 ^ (f.ebits - 1) - 1

/-- The NaN a conversion gives; zero for the integer targets (R49). -/
def Fmt.nanBits : Fmt → Nat
  | .e4m3 => 0x7F
  | .e5m2 => 0x7E
  | .bf16 => 0x7FC0
  | .fp16 => 0x7E00
  | .fp32 => 0x7FC00000
  | .int8 => 0
  | .int32 => 0
  | .int4 => 0
  | .e2m1 => 0

/-- The bits of the largest finite magnitude (R48, R81). -/
def Fmt.maxBits : Fmt → Nat
  | .e4m3 => 0x7E
  | .e5m2 => 0x7B
  | .bf16 => 0x7F7F
  | .fp16 => 0x7BFF
  | .fp32 => 0x7F7FFFFF
  | .int8 => 127
  | .int32 => 0x7FFFFFFF
  | .int4 => 7
  | .e2m1 => 7

/-- Whether E all ones holds infinities and NaNs (R48); E4M3 has its NaN at S.1111.111 only, E2M1 none. -/
def Fmt.ieee : Fmt → Bool
  | .e5m2 => true
  | .bf16 => true
  | .fp16 => true
  | .fp32 => true
  | .e4m3 => false
  | .e2m1 => false
  | .int8 => false
  | .int32 => false
  | .int4 => false

/-- The value of an element (R48). Subnormal inputs are never flushed. -/
def decodeFp (f : Fmt) (n : Nat) : Fp :=
  if f.isInt then
    let v := signedOf f.width n
    .fin (decide (v < 0)) v.natAbs 0
  else
    let s := bitAt n (f.width - 1)
    let e := bits n (f.width - 2) f.mbits
    let m := n % 2 ^ f.mbits
    if f.ieee && e == 2 ^ f.ebits - 1 then (if m = 0 then .inf s else .nan)
    else if f == .e4m3 && n % 128 == 127 then .nan
    else if e = 0 then .fin s m (1 - f.bias - f.mbits)
    else .fin s (m + 2 ^ f.mbits) ((e : Int) - f.bias - f.mbits)

/-- The formats by the codes of R96 and R507. -/
def fmtOfCode : Nat → Option Fmt
  | 0 => some .int8
  | 1 => some .e4m3
  | 2 => some .e5m2
  | 3 => some .bf16
  | 4 => some .fp16
  | 5 => some .int32
  | 6 => some .fp32
  | _ => none

/-- The formats by DRAIN_FMT (R57). -/
def fmtOfDrain : Nat → Option Fmt
  | 0 => some .fp32
  | 1 => some .bf16
  | 2 => some .fp16
  | 3 => some .e4m3
  | 4 => some .e5m2
  | 5 => some .int8
  | 6 => some .int32
  | _ => none

/-! ### Format pairs and geometry (R45, R46) -/

/-- Rate classes. -/
inductive Rate where
  | full | double | mixed | quarter
  deriving DecidableEq, Repr

/-- A format pair: formats of A and B, rate class, whether OUTER is allowed (R45). -/
structure Pair where
  a : Fmt
  b : Fmt
  rate : Rate
  outer : Bool
  deriving DecidableEq, Repr

/-- The table of R45; codes 0xC to 0xF are reserved. -/
def pairOf : Nat → Option Pair
  | 0x0 => some ⟨.e4m3, .e4m3, .full, true⟩
  | 0x1 => some ⟨.e4m3, .e5m2, .full, true⟩
  | 0x2 => some ⟨.e5m2, .e4m3, .full, true⟩
  | 0x3 => some ⟨.e5m2, .e5m2, .full, true⟩
  | 0x4 => some ⟨.int8, .int8, .full, true⟩
  | 0x5 => some ⟨.e2m1, .e2m1, .double, false⟩
  | 0x6 => some ⟨.int4, .int4, .double, true⟩
  | 0x7 => some ⟨.e4m3, .e2m1, .mixed, false⟩
  | 0x8 => some ⟨.e5m2, .e2m1, .mixed, false⟩
  | 0x9 => some ⟨.int8, .int4, .mixed, false⟩
  | 0xA => some ⟨.bf16, .bf16, .quarter, true⟩
  | 0xB => some ⟨.fp16, .fp16, .quarter, true⟩
  | _ => none

/-- K extent of one B tile in WS (R46). -/
def Rate.kWs : Rate → Nat
  | .full => 48
  | .double => 96
  | .mixed => 96
  | .quarter => 24

/-- K indices consumed by one OUTER step (R46). -/
def Rate.kOuter : Rate → Nat
  | .full => 1
  | .double => 2
  | .mixed => 0
  | .quarter => 1

/-- Largest M and N (R46). -/
def Rate.dim : Rate → Nat
  | .full => 48
  | .double => 48
  | .mixed => 48
  | .quarter => 24

/-- Beats of one A row in WS, which are also its cycles (R46, R53). -/
def Rate.aBeats : Rate → Nat
  | .full => 1
  | .double => 1
  | .mixed => 2
  | .quarter => 1

/-- Beats of one B tile in WS (R53): 51 where B is MXFP4. -/
def bTileBeats (p : Pair) : Nat :=
  match p.rate with
  | .quarter => 24
  | .full => 48
  | .double => if p.b = .e2m1 then 51 else 48
  | .mixed => if p.b = .e2m1 then 51 else 48

/-! ### Elements in beats (R53) -/

/-- The bits of element `i` of width `w` in a run of bytes; a 4-bit element 2i is the low half of byte i (R53). -/
def elemBits (w : Nat) (bs : List Byte) (i : Nat) : Nat :=
  if w = 4 then (if i % 2 = 0 then (bs.getD (i / 2) 0).toNat % 16 else (bs.getD (i / 2) 0).toNat / 16)
  else if w = 8 then (bs.getD i 0).toNat
  else if w = 16 then (bs.getD (2 * i) 0).toNat + 256 * (bs.getD (2 * i + 1) 0).toNat
  else leNat ((bs.drop (4 * i)).take 4)

/-- An element with its block scale code X, 127 standing for no scale (R50, R52). -/
structure Elem where
  v : Fp
  x : Nat
  deriving DecidableEq, Repr

/-- Element K index `k` of an A row in WS, from the row's beats (R53). -/
def aElemWs (p : Pair) (beats : List Beat) (k : Nat) : Elem :=
  let b0 := (nth beats 0 ⟨[], false, 0⟩).data
  match p.rate with
  | .mixed =>
    let bt := (nth beats (k / 48) ⟨[], false, 0⟩).data
    ⟨decodeFp p.a (elemBits p.a.width bt (k % 48)), 127⟩
  | .full => ⟨decodeFp p.a (elemBits p.a.width b0 k), 127⟩
  | .quarter => ⟨decodeFp p.a (elemBits p.a.width b0 k), 127⟩
  | .double =>
    ⟨decodeFp p.a (elemBits p.a.width b0 k), if p.a = .e2m1 then (b0.getD (48 + k / 32) 0).toNat else 127⟩

/-- Element (k, n) of a B tile in WS, from the tile's beats (R53). -/
def bElemWs (p : Pair) (beats : List Beat) (k n : Nat) : Elem :=
  match p.rate with
  | .full => ⟨decodeFp p.b (elemBits p.b.width (nth beats k ⟨[], false, 0⟩).data n), 127⟩
  | .quarter => ⟨decodeFp p.b (elemBits p.b.width (nth beats k ⟨[], false, 0⟩).data n), 127⟩
  | .double | .mixed =>
    let row := ((nth beats (k / 2) ⟨[], false, 0⟩).data).drop (24 * (k % 2))
    ⟨decodeFp p.b (elemBits p.b.width row n),
      if p.b = .e2m1 then ((nth beats (48 + k / 32) ⟨[], false, 0⟩).data.getD n 0).toNat else 127⟩

/-- Element `i` of K step `j` of an OUTER beat, of either operand (R53). -/
def elemOuter (f : Fmt) (r : Rate) (b : Beat) (j i : Nat) : Elem :=
  match r with
  | .double => ⟨decodeFp f (elemBits f.width (b.data.drop (24 * j)) i), 127⟩
  | .full => ⟨decodeFp f (elemBits f.width b.data i), 127⟩
  | .quarter => ⟨decodeFp f (elemBits f.width b.data i), 127⟩
  | .mixed => ⟨decodeFp f (elemBits f.width b.data i), 127⟩

/-! ### Fields of a matrix command (R59) -/

/-- A field [hi:lo] of a command word. -/
def fld {w : Nat} (c : BitVec w) (hi lo : Nat) : Nat := bits c.toNat hi lo

def mxOpc (c : BitVec 256) : Nat := fld c 3 0
def mxMode (c : BitVec 256) : Nat := fld c 5 4
def mxFmt (c : BitVec 256) : Nat := fld c 9 6
def mxTile (c : BitVec 256) : Nat := fld c 11 10
def mxClearBit (c : BitVec 256) : Bool := bitAt c.toNat 12
def mxDrainBit (c : BitVec 256) : Bool := bitAt c.toNat 13
def mxM (c : BitVec 256) : Nat := fld c 21 16
def mxN (c : BitVec 256) : Nat := fld c 27 22
def mxK (c : BitVec 256) : Nat := fld c 47 32
def mxAnchor (c : BitVec 256) : Nat := fld c 55 48
def mxASrc (c : BitVec 256) : Nat := fld c 65 64
def mxAEp (c : BitVec 256) : Nat := fld c 70 66
def mxBSrc (c : BitVec 256) : Nat := fld c 73 72
def mxBEp (c : BitVec 256) : Nat := fld c 78 74
def mxDrainTo (c : BitVec 256) : Nat := fld c 81 80
def mxDrainEp (c : BitVec 256) : Nat := fld c 86 82
def mxDither (c : BitVec 256) : Bool := bitAt c.toNat 87
def mxDrainFmt (c : BitVec 256) : Nat := fld c 91 88
def mxTensor (c : BitVec 256) : Nat := fld c 103 92
def mxAScale (c : BitVec 256) : Nat := fld c 111 104
def mxBScale (c : BitVec 256) : Nat := fld c 119 112
def mxElemBase (c : BitVec 256) : Nat := fld c 159 128
def mxRowPitch (c : BitVec 256) : Nat := fld c 183 160
def mxDScale (c : BitVec 256) : Nat := fld c 191 184
def mxTag (c : BitVec 256) : Nat := fld c 207 192

/-- The reserved bits of a matrix command are zero (R59, R61). -/
def mxRsvZero (c : BitVec 256) : Bool :=
  fld c 15 14 == 0 && fld c 31 28 == 0 && fld c 63 56 == 0 && fld c 71 71 == 0 && fld c 79 79 == 0 &&
  fld c 127 120 == 0 && fld c 255 208 == 0

/-- Where a beat came from, as a source code: 0, 1 the load streamers, 2 + e inbound endpoint e (R39). -/
def srcOf (src ep : Nat) : Nat := if src = 2 then 2 + ep else src

def mxSrcA (c : BitVec 256) : Nat := srcOf (mxASrc c) (mxAEp c)
def mxSrcB (c : BitVec 256) : Nat := srcOf (mxBSrc c) (mxBEp c)

/-- Whether the command performs a drain (R57): an MMA with DRAIN 1, or a DRAIN. -/
def mxDrains (c : BitVec 256) : Bool := (mxOpc c == 1 && mxDrainBit c) || mxOpc c == 2

/-- DRAIN_FMT is one that DRAIN_TO allows (R57). -/
def drainFmtOk (dest fmt : Nat) : Bool :=
  match dest with
  | 0 => decide (fmt ≤ 6)
  | 1 => decide (fmt ≤ 6) || fmt == 15
  | 2 => fmt == 15
  | _ => false

/-- A matrix command is valid (R59, R61). -/
def mxValid (c : BitVec 256) : Bool :=
  mxRsvZero c && decide (mxOpc c ≤ 3) &&
  (!mxDrains c || drainFmtOk (mxDrainTo c) (mxDrainFmt c)) &&
  (mxOpc c != 2 || (decide (mxM c ≤ 48) && decide (mxN c ≤ 48))) &&
  (mxOpc c != 1 ||
    (match pairOf (mxFmt c) with
     | none => false
     | some p =>
       decide (mxMode c ≤ 1) && decide (mxM c ≤ p.rate.dim) && decide (mxN c ≤ p.rate.dim) &&
       (mxMode c == 0 || p.outer) && decide (mxASrc c ≤ 2) && decide (mxBSrc c ≤ 2) &&
       decide (mxSrcA c ≠ mxSrcB c)))

end Sys2Proof.Machine
end

