-- ==== Sys2Proof/Machine/Flags.lean ====
section
/-! DEFINITION. ESF-96 values and their flags: rounding a product (R74), adding (R75), narrowing and its counts (R80 to
R84), observations (R88), the dither, and the rounding of floating-point values. -/

namespace Sys2Proof.Machine

/-! ### ESF-96 (R71, R72, R75) -/

/-- W as an integer (R71). -/
def wInt (w : BitVec 104) : Int := w.toInt

/-- The stored form of 16 bytes as a number (R72). -/
def esfPack (v : Esf) : Nat :=
  v.w.toNat + v.anchor % 256 * 2 ^ 104 + b2n v.sat * 2 ^ 112 + b2n v.invalid * 2 ^ 113 + b2n v.poison * 2 ^ 114 +
    min v.terms 8191 * 2 ^ 115

/-- A stored form read back (R72). -/
def esfUnpack (n : Nat) : Esf :=
  { w := BitVec.ofNat 104 n, anchor := bits n 111 104, terms := bits n 127 115, sat := bitAt n 112,
    invalid := bitAt n 113, poison := bitAt n 114 }

/-- The sum of two values with equal anchors (R75). -/
def esfAdd (a b : Esf) : Esf :=
  { w := a.w + b.w, anchor := a.anchor, terms := min (a.terms + b.terms) 8191, sat := a.sat || b.sat,
    invalid := a.invalid || b.invalid, poison := a.poison || b.poison }

/-- An accumulator as an ESF-96 value under its tile's anchor (R55, R72). -/
def accEsf (anchor : Nat) (all : Bool) (a : Acc) : Esf :=
  { w := a.w, anchor := anchor, terms := a.terms, sat := a.sat, invalid := a.invalid, poison := a.poison || all }

/-- ⌊log2 n⌋ for n above zero. -/
def ilog2 (n : Nat) : Nat := Nat.log2 n

/-- m × 2^e rounded to an integer, to nearest with ties to even. -/
def roundNearest (m : Nat) (e : Int) : Nat :=
  if 0 ≤ e then m * 2 ^ e.toNat
  else
    let k := (-e).toNat
    let q := m / 2 ^ k
    let r := m % 2 ^ k
    if 2 ^ k < 2 * r ∨ (2 * r = 2 ^ k ∧ q % 2 = 1) then q + 1 else q

/-- The grid value of a product (-1)^neg × m × 2^e under an anchor, clamped to the window, and whether it was
clamped (R74). -/
def roundProduct (neg : Bool) (m : Nat) (e : Int) (anchor : Nat) : Int × Bool :=
  let q := roundNearest m (e - ((anchor : Int) - 176))
  if neg then (if 2 ^ 95 < q then (-(2 ^ 95 : Int), true) else (-(q : Int), false))
  else (if 2 ^ 95 - 1 < q then ((2 ^ 95 - 1 : Int), true) else ((q : Int), false))

/-- One product as an ESF-96 value with TERMS 1 (R49, R52, R73, R74): an invalid one is zero with INVALID set. -/
def productEsf (a b : Elem) (sa sb : Int) (anchor : Nat) : Esf :=
  match a.v, b.v with
  | .fin na ma ea, .fin nb mb eb =>
    if a.x = 255 ∨ b.x = 255 then { anchor := anchor, terms := 1, invalid := true }
    else
      let r := roundProduct (na != nb) (ma * mb) (ea + eb + ((a.x : Int) - 127) + ((b.x : Int) - 127) + sa + sb) anchor
      { w := BitVec.ofInt 104 r.1, anchor := anchor, terms := 1, sat := r.2 }
  | _, _ => { anchor := anchor, terms := 1, invalid := true }

/-- A product landed in an accumulator (R75). -/
def accAdd (a : Acc) (p : Esf) : Acc :=
  { w := a.w + p.w, terms := min (a.terms + p.terms) 8191, sat := a.sat || p.sat, invalid := a.invalid || p.invalid,
    poison := a.poison || p.poison }

/-! ### Hashed rounding (R83) -/

/-- The mixing step of R83, modulo 2^64. -/
def mix64 (z : BitVec 64) : BitVec 64 :=
  let z := (z ^^^ (z >>> 30)) * 0xBF58476D1CE4E5B9#64
  let z := (z ^^^ (z >>> 27)) * 0x94D049BB133111EB#64
  z ^^^ (z >>> 31)

/-- The 24-bit dither of an element (R83). -/
def dither (seed tensor elem step : Nat) : Nat :=
  let h := mix64 (BitVec.ofNat 64 seed ^^^ BitVec.ofNat 64 (tensor % 4096))
  let h := mix64 (h ^^^ BitVec.ofNat 64 (step % 2 ^ 32 * 2 ^ 32 + elem % 2 ^ 32))
  (h >>> 40).toNat

/-! ### Rounding to a format (R81, R84) -/

/-- The exponent of the last place that a format has at the magnitude m × 2^e. -/
def quantum (f : Fmt) (m : Nat) (e : Int) : Int :=
  if f.isInt then 0
  else max ((ilog2 m : Int) + e) (1 - f.bias) - f.mbits

/-- The magnitude m × 2^e in units of a last place 2^q: nearest with ties to even, or by the dither `u` (R81, R84). -/
def roundUnits (m : Nat) (e q : Int) (u : Option Nat) : Nat :=
  if q ≤ e then m * 2 ^ (e - q).toNat
  else
    let k := (q - e).toNat
    let lo := m / 2 ^ k
    let r := m % 2 ^ k
    match u with
    | none => if 2 ^ k < 2 * r ∨ (2 * r = 2 ^ k ∧ lo % 2 = 1) then lo + 1 else lo
    | some d => if 2 ^ 24 ≤ r * 2 ^ 24 / 2 ^ k + d then lo + 1 else lo

/-- The bits of the magnitude that is `n` last places of exponent `q` in a floating-point format. -/
def magBits (f : Fmt) (n : Nat) (q : Int) : Nat :=
  ((n : Int) + (q + f.mbits - (1 - f.bias)) * 2 ^ f.mbits).toNat

/-- The largest finite magnitude of a floating-point format as (m, e) (R48). -/
def maxMag (f : Fmt) : Nat × Int :=
  match decodeFp f f.maxBits with
  | .fin _ m e => (m, e)
  | .nan => (0, 0)
  | .inf _ => (0, 0)

/-- m1 × 2^e1 exceeds m2 × 2^e2. -/
def magLt (m2 : Nat) (e2 : Int) (m1 : Nat) (e1 : Int) : Bool :=
  if e1 ≤ e2 then decide (m2 * 2 ^ (e2 - e1).toNat < m1) else decide (m2 < m1 * 2 ^ (e1 - e2).toNat)

/-- Sign bit put on the bits of a magnitude. -/
def withSign (f : Fmt) (neg : Bool) (b : Nat) : Nat := b + b2n neg * 2 ^ (f.width - 1)

/-- A finite value rounded into a format as case 4 of R80 does, or saturated as case 3 does: the bits and whether it
saturated (R80, R81, R84). -/
def narrowFin (f : Fmt) (neg : Bool) (m : Nat) (e : Int) (u : Option Nat) : Nat × Bool :=
  if f.isInt then
    let lim : Nat := if neg then 2 ^ (f.width - 1) else 2 ^ (f.width - 1) - 1
    if magLt lim 0 m e then (wrapInt f.width (if neg then -(lim : Int) else lim), true)
    else
      let n := roundUnits m e 0 u
      (wrapInt f.width (if neg then -(n : Int) else n), false)
  else if m = 0 then (withSign f neg 0, false)
  else if magLt (maxMag f).1 (maxMag f).2 m e then (withSign f neg f.maxBits, true)
  else
    let q := quantum f m e
    (withSign f neg (magBits f (roundUnits m e q u) q), false)

/-! ### Narrowing an ESF-96 value (R80, R82, R88) -/

/-- The outcome of a narrowing: bits, poison, and which of the tensor's counts and observations it makes. -/
structure Narrowed where
  bits : Nat
  poison : Bool
  satNarrow : Nat
  satEsf : Nat
  invalid : Nat
  amax : Option Int
  deriving DecidableEq, Repr

/-- The largest finite value with a sign, in case 2 of R80 (127 or -128 for INT8). -/
def satBits (f : Fmt) (neg : Bool) : Nat :=
  match f with
  | .int8 => if neg then 128 else 127
  | .int32 => if neg then 2 ^ 31 else 2 ^ 31 - 1
  | .int4 => if neg then 8 else 7
  | .e4m3 => withSign .e4m3 neg (Fmt.maxBits .e4m3)
  | .e5m2 => withSign .e5m2 neg (Fmt.maxBits .e5m2)
  | .bf16 => withSign .bf16 neg (Fmt.maxBits .bf16)
  | .fp16 => withSign .fp16 neg (Fmt.maxBits .fp16)
  | .fp32 => withSign .fp32 neg (Fmt.maxBits .fp32)
  | .e2m1 => withSign .e2m1 neg (Fmt.maxBits .e2m1)

/-- The observation exponent of an ESF-96 value that is not zero (R88). -/
def esfExp (v : Esf) : Option Int :=
  if wInt v.w = 0 then none else some ((ilog2 (wInt v.w).natAbs : Int) + (v.anchor : Int) - 176)

/-- W lies in the window (R71). -/
def inWindow (w : BitVec 104) : Bool := decide (-(2 ^ 95 : Int) ≤ wInt w) && decide (wInt w ≤ 2 ^ 95 - 1)

/-- A narrowing of an ESF-96 value with drain scale `sd`, by the first case of R80 that applies; `u` is the dither
where hashed rounding is used. -/
def narrowEsf (f : Fmt) (v : Esf) (sd : Int) (u : Option Nat) : Narrowed :=
  let neg := decide (wInt v.w < 0)
  if v.invalid then
    { bits := f.nanBits, poison := v.poison, satNarrow := 0, satEsf := 0, invalid := 1, amax := none }
  else if v.sat || !inWindow v.w then
    { bits := satBits f neg, poison := v.poison, satNarrow := 0, satEsf := 1, invalid := 0, amax := none }
  else
    let r := narrowFin f (neg && (wInt v.w != 0)) (wInt v.w).natAbs ((v.anchor : Int) - 176 - sd) u
    { bits := r.1, poison := v.poison, satNarrow := b2n r.2, satEsf := 0, invalid := 0,
      amax := if v.poison then none else esfExp v }

/-- Hashed rounding is used (R82). `bit` is the DITHER bit, `esfTerms` the TERMS of an ESF-96 source. -/
def useDither (l : Option Layout) (bit : Bool) (tensor : Nat) (esfTerms : Option Nat) : Bool :=
  match l with
  | none => bit
  | some y => bit || y.desig.contains tensor ||
      (y.dither && (match esfTerms with
        | some t => decide (4096 < t)
        | none => false))

/-- The layout's seed (R83, R185). -/
def seedOf (l : Option Layout) : Nat :=
  match l with
  | none => 0
  | some y => y.seed

/-- The dither of an element where hashed rounding is used. -/
def ditherOf (l : Option Layout) (bit : Bool) (tensor elem step : Nat) (esfTerms : Option Nat) : Option Nat :=
  if useDither l bit tensor esfTerms then some (dither (seedOf l) tensor elem step) else none

/-- Whether a tensor's conversions record observations: tracked in a TRACKING layout, or watched (R88, R507). -/
def observed (l : Option Layout) (tensor : Nat) : Bool :=
  match l with
  | none => false
  | some y => y.scaleEnt.any (fun w => w % 4096 == tensor && (bitAt w 17 || (bitAt w 16 && y.mode == 1)))

/-! ### Floating-point values in the vector chain (round to nearest, R105) -/

/-- The bits of a finite value rounded to nearest into an IEEE-like format, an infinity where it exceeds the format. -/
def roundFp (f : Fmt) (neg : Bool) (m : Nat) (e : Int) : Nat :=
  if m = 0 then withSign f neg 0
  else
    let q := quantum f m e
    let b := magBits f (roundUnits m e q none) q
    if 2 ^ (f.width - 1) - 2 ^ f.mbits ≤ b then withSign f neg (2 ^ (f.width - 1) - 2 ^ f.mbits) else withSign f neg b

end Sys2Proof.Machine
end

