-- ==== Sys2Proof/Machine/Units.lean ====
section
/-! DEFINITION. Operations that a core's units share: the scratchpad with its codewords and sub-banks (R126 to R138),
sends (R166, R167), the check log (R386), the firing (R197) and what keeps a core from issuing. -/

namespace Sys2Proof.Machine

/-! ### Scratchpad (R126 to R138) -/

/-- Bytes of a scratchpad (R126). -/
def spSize : Nat := 0x480000

/-- The sub-bank of an address: 0 to 15 near, 16 to 47 under (R126). -/
def subBank (a : Nat) : Nat := a / 0x18000

/-- Sub-banks that `n` bytes from `a` overlap (R126). -/
def banksOf (a n : Nat) : List Nat :=
  if n = 0 then [] else (List.range (subBank (a + n - 1) - subBank a + 1)).map (· + subBank a)

/-- Every sub-bank of a range is powered (R136). -/
def banksOn (c : Core) (a n : Nat) : Bool := (banksOf a n).all (fun b => c.bankOn.contains b)

/-- The page entry that governs an address (R128). -/
def pageEntry (c : Core) (a : Nat) : Nat := nth c.pages (a / 0x10000) 0

/-- The address lies in a W-class page (R128). -/
def isW (c : Core) (a : Nat) : Bool := bitAt (pageEntry c a) 0

/-- Some byte of the range lies in a W-class page (R134). -/
def touchesW (c : Core) (a n : Nat) : Bool :=
  n != 0 && ((List.range ((a + n - 1) / 0x10000 - a / 0x10000 + 1)).any (fun i => isW c (a / 0x10000 * 0x10000 + i * 0x10000)))

/-- Bytes of a codeword at an address: 8 in A-class pages, 16 in W-class pages (R129). -/
def cwLen (c : Core) (a : Nat) : Nat := if isW c a then 16 else 8

/-- The start of the codeword that holds an address. -/
def cwOf (c : Core) (a : Nat) : Nat := a / cwLen c a * cwLen c a

/-- Starts of the codewords that a range touches, rising. -/
def cwsOf (c : Core) (a n : Nat) : List Nat := sortNat ((List.range n).map (fun i => cwOf c (a + i)))

/-- Bytes of a range, each with the poison of its codeword (R132). -/
def spPeek (c : Core) (a n : Nat) : List (Byte × Bool) :=
  (List.range n).map (fun i => (memGet c.mem (a + i), c.poisonCw.contains (cwOf c (a + i))))

/-- A read of a range: its bytes, and the poison-pattern codewords counted (R132). -/
def spRead (c : Core) (a n : Nat) : List (Byte × Bool) × Core :=
  (spPeek c a n, bumpCore c 67 ((cwsOf c a n).filter (fun w => c.poisonCw.contains w)).length)

/-- A write of bytes: partial codewords are read, modified and written (R133); a codeword that takes a poisoned byte, or
that is merged into the poison pattern, is stored with the poison pattern (R132, R148). -/
def spWrite (c : Core) (a : Nat) (bs : List (Byte × Bool)) : Core :=
  let n := bs.length
  let cws := cwsOf c a n
  let full (w : Nat) : Bool := decide (a ≤ w) && decide (w + cwLen c w ≤ a + n)
  let bad (w : Nat) : Bool :=
    ((List.range n).any (fun i => cwOf c (a + i) == w && (nth bs i (0, false)).2)) || (!full w && c.poisonCw.contains w)
  let part := cws.filter (fun w => !full w)
  bumpCore
    (bumpCore
      { c with mem := memWrite c.mem a (bs.map (·.1)),
               poisonCw := sortNat (c.poisonCw.filter (fun w => !cws.contains w) ++ cws.filter bad) }
      68 part.length)
    67 (part.filter (fun w => c.poisonCw.contains w)).length

/-- Bytes without poison. -/
def clean (l : List Byte) : List (Byte × Bool) := l.map (fun b => (b, false))

/-- Zero bytes with poison, which a refused or powered-down read delivers (R136, R141). -/
def poisonZeros (n : Nat) : List (Byte × Bool) := List.replicate n (0, true)

/-- A task slot's window entry (R137). -/
def windowOf (c : Core) (t : Nat) : Nat :=
  match c.station with
  | none => 0
  | some y => nth y.windows t 0

/-- Core-local base of a window (R137). -/
def winBase (w : Nat) : Nat := bits w 10 0 * 4096
/-- Size of a window in bytes (R137). -/
def winSize (w : Nat) : Nat := bits w 22 12 * 4096
/-- REMOTE bit of a window (R137). -/
def winRemote (w : Nat) : Bool := bitAt w 23

/-- An access of `n` bytes at window offset `o` is valid (R138). -/
def winOk (w : Nat) (o : Int) (n : Nat) : Bool := decide (0 ≤ o) && decide (o + n ≤ (winSize w : Int))

/-! ### Reads with their decoding outcomes (R130 to R133) -/

/-- One codeword's outcome: a corrected error is counted and queued for write-back; an uncorrectable one is counted and
asks for a refill of a W-class page (R130, R131, R407). -/
def eccOne (z : Core × List Ev) (we : Nat × Ecc) : Core × List Ev :=
  let c := z.1
  match we.2 with
  | .ok => z
  | .ce => (bumpCore { c with wbq := c.wbq ++ [we.1] } (if isW c we.1 then 65 else 64) 1, z.2)
  | .ue =>
    (bumpCore c 66 1,
      z.2 ++ (if isW c we.1 then [.refill (we.1 / 0x10000) 3 (tabGet c.pageCleanMb (we.1 / 0x10000) 0)] else []))

/-- The codewords of one access to a line with their outcomes; an access that finds an uncorrectable error raises
SP_UNCORRECTABLE once and makes the core suspect (R131; log 45). -/
def eccAll (c : Core) (l : List (Nat × Ecc)) (tslot tag : Nat) : Core × List Ev :=
  let z := l.foldl eccOne (c, [])
  (z.1, (if l.any (fun e => e.2 == .ue) then [.post evSpUncorrectable tslot noFld tag 0 0 0, .suspect 3] else []) ++ z.2)

/-- A read within one line with the outcomes of its codewords in order; an uncorrectable error or the poison pattern
poisons the whole beat (R131, R132). -/
def eccRead (c : Core) (a n : Nat) (ecc : List Ecc) (tslot tag : Nat) : List (Byte × Bool) × Core × List Ev :=
  let r := spRead c a n
  let z := eccAll r.2 ((cwsOf c a n).zip ecc) tslot tag
  (if ecc.contains .ue || r.1.any (·.2) then r.1.map (fun b => (b.1, true)) else r.1, z.1, z.2)

/-- A write of bytes; the codewords it covers in part are read first, with the outcomes given (R133): an uncorrectable
one is stored with the poison pattern. -/
def eccWrite (c : Core) (a : Nat) (bs : List (Byte × Bool)) (ecc : List Ecc) (tslot tag : Nat) : Core × List Ev :=
  let n := bs.length
  let part := (cwsOf c a n).filter (fun w => !(decide (a ≤ w) && decide (w + cwLen c w ≤ a + n)))
  let z := eccAll c (part.zip ecc) tslot tag
  let bad := (part.zip ecc).filterMap (fun e => if e.2 = .ue then some e.1 else none)
  let d := spWrite z.1 a bs
  ({ d with poisonCw := sortNat (d.poisonCw ++ bad) }, z.2)

/-! ### Check log (R386, R387) -/

/-- The check log changed while the firing `f` is the sampled one. -/
def logFor (c : Core) (f : Nat) (g : CheckLog → CheckLog) : Core :=
  match c.check with
  | none => c
  | some l => if l.firing = f ∧ l.abandoned = false then { c with check := some (g l) } else c

/-- A beat of a sampled firing that enters port `p`, in the log; a log above 3 MiB or a poisoned beat abandons the check
(R386). -/
def logBeat (c : Core) (f p : Nat) (b : Beat) : Core :=
  if c.replay.isSome then c
  else logFor c f (fun l => { l with beats := l.beats ++ [(p, b)], bytes := l.bytes + 64,
                                     abandoned := b.poison || decide (3145728 < l.bytes + 64) })

/-- What a slot starts its part of the sampled firing from, in the log: index registers, step, bindings and scale banks
(R388, R91). -/
def logBegin (c : Core) (i : Nat) : Core :=
  let t := slotAt c i
  logFor c t.firing (fun l => { l with idx := tabSet l.idx i t.idx, step := t.step, peers := t.peers,
                                       scale := if l.idx.isEmpty then c.scaleTab else l.scale })

/-- The first logged beat of a source for a port, and the log without it (R388). -/
def replayBeat (p src : Nat) : List (Nat × Beat) → Option (Beat × List (Nat × Beat))
  | [] => none
  | e :: l =>
    if e.1 = p ∧ e.2.src = src then some (e.2, l)
    else
      match replayBeat p src l with
      | none => none
      | some r => some (r.1, e :: r.2)

/-! ### Sends (R166, R167, R168) -/

/-- An outbound endpoint of a core. -/
def outAt (c : Core) (e : Nat) : OutEp := tabGet c.outEp e {}
/-- An outbound endpoint replaced. -/
def putOut (c : Core) (e : Nat) (x : OutEp) : Core := { c with outEp := tabSet c.outEp e x }
/-- An inbound endpoint of a core. -/
def inAt (c : Core) (e : Nat) : InEp := tabGet c.inEp e {}
/-- An inbound endpoint replaced. -/
def putIn (c : Core) (e : Nat) (x : InEp) : Core := { c with inEp := tabSet c.inEp e x }
/-- A channel counter of inbound endpoint `e`, in the order of R445. -/
def bumpIn (c : Core) (e j n : Nat) : Core := { c with chCtr := bump c.chCtr (7 * e + j) n }
/-- A channel counter of outbound endpoint `e`. -/
def bumpOut (c : Core) (e j n : Nat) : Core := { c with chCtr := bump c.chCtr (224 + 2 * e + j) n }

/-- KIND of an outbound endpoint (R161). -/
def outKind (x : OutEp) : Nat := bits x.cfg 1 0
/-- OWNER of an outbound endpoint (R161). -/
def outOwner (x : OutEp) : Nat := bits x.cfg 23 21
/-- QDEPTH of an inbound endpoint (R160). -/
def inQdepth (x : InEp) : Nat := bits x.cfg 8 0
/-- PORT of an inbound endpoint (R160). -/
def inPort (x : InEp) : Nat := bits x.cfg 11 9
/-- OWNER of an inbound endpoint (R160). -/
def inOwner (x : InEp) : Nat := bits x.cfg 14 12
/-- SPILL_4K of an inbound endpoint (R160). -/
def inSpill (x : InEp) : Nat := bits x.cfg 22 16
/-- Offset of the spill region in OWNER's window (R160). -/
def inSpillOff (x : InEp) : Nat := bits x.cfg 34 24 * 4096
/-- Offset of the landing area in OWNER's window (R160). -/
def inLandOff (x : InEp) : Nat := bits x.cfg 46 36 * 4096
/-- Bytes of a landing slot (R160). -/
def inLandSize (x : InEp) : Nat := 64 * 2 ^ bits x.cfg 50 47
/-- EXPECT_GEN (R160, R177). -/
def inExpect (x : InEp) : Nat := bits x.cfg 54 51
/-- Capacity C of an inbound endpoint (R168); a spill extension of 4 KiB holds 256 messages. -/
def inCap (x : InEp) : Nat := inQdepth x + inSpill x * 256

/-- The least credit over an endpoint's targets; 0 without targets (R168). -/
def minCredit (x : OutEp) : Nat :=
  match x.credit with
  | [] => 0
  | a :: l => l.foldl min a

/-- The sends that an endpoint has credit for; a core that recomputes a firing delivers none and needs none (R168, R388). -/
def sendRoom (c : Core) (ep : Nat) : Nat := if c.replay.isSome then 65536 else minCredit (outAt c ep)

/-- Why a send is refused (R166): the code of CH_SEND_INVALID or CH_KIND_MISMATCH. `red` is a contribution. One that is both
raises CH_SEND_INVALID alone: the model's choice (log 138). -/
def sendRefusal (x : OutEp) (tslot : Nat) (red : Bool) : Option Nat :=
  if outKind x = 0 then some evChSendInvalid
  else if outOwner x ≠ tslot then some evChSendInvalid
  else if red ≠ (outKind x == 3) then some evChKindMismatch
  else none

/-- A refused send: counted, the task slot stops, a layout fault (R166, R62). -/
def refuseSend (c : Core) (ep tslot tag code : Nat) : Core × List Ev :=
  (stopSlot (bumpCore c 76 1) tslot code, [.fault code tslot ep tag 0 0 0])

/-- A send reaches its endpoint and counts for its firing (R167, R199). -/
def queueSend (c : Core) (ep : Nat) (x : Send) : Core :=
  let o := outAt c ep
  putOut c ep { o with sendQ := o.sendQ ++ [x],
                       sentNow := tabSet o.sentNow x.firing (tabGet o.sentNow x.firing 0 + 1) }

/-! ### What keeps a core from issuing -/

/-- A reset of the context has stopped its layout's stations (R421 step 1). -/
def stopped (s : State) (n : Nat) : Bool :=
  match s.rst.cur with
  | none => false
  | some r => r.ctx == n && (r.stage == .collect || r.stage == .ready)

/-- The core runs its station, or recomputes a firing of one: it is IN_USE or a checker, not HELD, its layout is neither held
nor stopped, and no move of it is under way (R24, R156, R421, R155, R388). -/
def coreRuns (s : State) (k : Nat) (c : Core) : Bool :=
  (c.st == .inUse || c.replay.isSome) && !c.held && !c.holding && c.station.isSome &&
  (match layoutOf s k with
   | none => false
   | some l => !l.held && !l.stopped) &&
  !stopped s (ownerOf s (basinOf k))

/-! ### Firings (R197) -/

/-- FIRE_PER_MB of the core's station (R192). -/
def firesPerMb (c : Core) : Nat :=
  match c.station with
  | none => 0
  | some y => y.firePerMb

/-- ENTRY of a task slot; 0xFFFF runs no code (R192). -/
def entryOf (c : Core) (i : Nat) : Nat :=
  match c.station with
  | none => 0xFFFF
  | some y => nth y.entry i 0xFFFF

/-- The step of a microbatch: the one it was admitted in (R304, R305). -/
def stepOfMb (x : Ctx) (m : Nat) : Nat :=
  match x.mbs.find? (fun b => b.num == m) with
  | some b => b.step
  | none => x.stepNum

/-- No page of core `k` waits for a refill after an error, or the microbatch has begun already: the station is quiesced
alone (R403, R407). -/
def refillLets (s : State) (k : Nat) (c : Core) (m : Nat) : Bool :=
  !s.heal.refills.any (fun r => r.core == k && r.reason != 0) ||
  (c.begun != 0 && decide (m ≤ (c.begun - 1) / firesPerMb c))

/-- A partial drain holds back the firings of its basins past its cut (R207, R420). -/
def resetLets (s : State) (k m : Nat) : Bool :=
  match s.rst.cur with
  | none => true
  | some r => !(r.stage == .partialDrain && r.set.contains (basinOf k) && decide (r.cut < m))

/-- The microbatch of firing `f` has been admitted, and no cut stops the station before it (R197, R304, R393, R403). -/
def mayFire (s : State) (k : Nat) (c : Core) (f : Nat) : Bool :=
  c.replay.isNone && firesPerMb c != 0 && decide (f / firesPerMb c < (ctxAt s (ownerOf s (basinOf k))).nextMb) &&
  refillLets s k c (f / firesPerMb c) && resetLets s k (f / firesPerMb c) &&
  (match c.stopAt with
   | none => true
   | some m => decide (f / firesPerMb c < m))

/-- The peer bindings of a firing: those in force when its first slot began (R214). -/
def bindingsOf (c : Core) (f : Nat) (now : Tab Nat) : Tab Nat :=
  match c.latched.find? (fun e => e.1 == f) with
  | none => now
  | some e => e.2

/-- A slot begins its part of firing `f` at its ENTRY: counters' starting values are latched, with the firing's first slot its
peer bindings, and of a sampled firing what it starts from (R195, R197, R214, R388). -/
def beginFiring (s : State) (k : Nat) (c : Core) (i f : Nat) : Core :=
  let x := ctxAt s (ownerOf s (basinOf k))
  let t := slotAt c i
  let m := f / firesPerMb c
  logBegin { putSlot c i { t with
      st := .running, pc := entryOf c i, firing := f, mb := m, step := stepOfMb x m, base := t.done,
      retBase := c.outEp.map (fun e => (e.1, e.2.retired)), adj := [], peers := bindingsOf c f x.peers } with
    begun := max c.begun (f + 1),
    latched := if c.latched.any (fun e => e.1 == f) then c.latched else c.latched ++ [(f, x.peers)] } i

/-- A slot after END waits for its next firing, or begins it where the microbatch has been admitted (R197). -/
def nextFiring (s : State) (k : Nat) (c : Core) (i f : Nat) : Core :=
  if mayFire s k c f then beginFiring s k c i f
  else putSlot c i { slotAt c i with st := .afterEnd, firing := f, adj := [] }

/-- The nearest core that qualifies, by hop count, the lowest number among equals (R383, R385). -/
def nearest (k : Nat) (l : List Nat) : Option Nat :=
  l.foldl (fun best j =>
    match best with
    | none => some j
    | some b => if hopDist k j < hopDist k b then some j else best) none

/-- Whether a die has a MARGIN record in force (R27, R385). -/
def dieMargin (s : State) (d : Nat) : Bool := decide ((dieAt s d).margin ≠ 0)

/-- A checker for a firing on core `k` (R385): SPARE, granted to the context, on another compute die and on a die
without a MARGIN record, nearest by hop count; `not` lists dies that it must not lie on. -/
def chooseChecker (s : State) (k : Nat) (not : List Nat) : Option Nat :=
  nearest k (((grantOf s (ownerOf s (basinOf k))).flatMap coresOfBasin).filter (fun j =>
    (coreAt s j).st == .spare && !(coreAt s j).reserved && (coreAt s j).suspect.isNone && !(coreAt s j).held &&
    !not.contains (dieOf j) && !dieMargin s (dieOf j)))

end Sys2Proof.Machine
end

