-- ==== Sys2Proof/Machine/Station.lean ====
section
/-! DEFINITION. Station code (R195 to R204) and the SYNC operations (R247 to R249): each command runs the operation at
the code offset of a task slot, when it is the one the command names; any other leaves the core as it is (log 1). -/

namespace Sys2Proof.Machine

/-! ### Reading and leaving an operation -/

/-- CODE_LEN of the core's station (R192). -/
def codeLen (c : Core) : Nat :=
  match c.station with
  | none => 0
  | some y => y.code.length

/-- The 16-byte unit of code at an offset (R192). -/
def codeAt (c : Core) (pc : Nat) : BitVec 128 :=
  match c.station with
  | none => 0
  | some y => nth y.code pc 0

/-- `n` 16-byte units of code from an offset, as one number (R195: inline payload). -/
def codeUnits (c : Core) (pc : Nat) : Nat → Nat
  | 0 => 0
  | n + 1 => (codeAt c pc).toNat + 2 ^ 128 * codeUnits c (pc + 1) n

/-- The walk of R193 marks the offset as the start of an operation word. -/
def codeMarked (c : Core) (pc : Nat) : Bool :=
  match c.station with
  | none => false
  | some y => y.marks.contains pc

/-- 16-byte units of inline payload, by OP (R195). -/
def payUnits : Nat → Nat
  | 1 => 2
  | 2 => 6
  | 3 => 4
  | 4 => 1
  | _ => 0

def opOp (w : BitVec 128) : Nat := fld w 7 0
def opA (w : BitVec 128) : Nat := fld w 15 8
def opB (w : BitVec 128) : Nat := fld w 31 16
def opC (w : BitVec 128) : Nat := fld w 63 32
def opD (w : BitVec 128) : Nat := fld w 127 64

/-- A slot that issues at its code offset: running, or retrying an operation that waits in place. -/
def slotIssues (t : Slot) : Bool :=
  match t.st with
  | .running => true
  | .waitOp => true
  | .queueRoom => true
  | .noCode => false
  | .credit => false
  | .sync => false
  | .stopped => false
  | .afterEnd => false

/-- The operation word a slot is at, where the core runs and the slot issues (R195). -/
def opAt (s : State) (k : Nat) (c : Core) (i : Nat) : Option (BitVec 128) :=
  if coreRuns s k c && slotIssues (slotAt c i) && decide (i < 8) then some (codeAt c (slotAt c i).pc) else none

/-- A slot goes on past an operation of `n` units; ADJs pending on it are used up (R196). -/
def goOn (c : Core) (i n : Nat) : Core :=
  putSlot c i { slotAt c i with st := .running, pc := (slotAt c i).pc + n, adj := [] }

/-- STATION_CODE_INVALID at the slot's code offset, a layout fault (R200). The event's slot fields name the slot and
ARG0 the code offset (log 13). -/
def codeFault (c : Core) (i : Nat) : Core × List Ev :=
  (stopSlot c i evStationCodeInvalid, [.fault evStationCodeInvalid i noFld noFld (slotAt c i).pc 0 0])

/-- A station-built address names an image basin at or above BASINS (R187). -/
def basinFault (c : Core) (i tag b : Nat) : Core × List Ev :=
  (stopSlot c i evBasinRange, [.fault evBasinRange i noFld tag b (slotAt c i).pc 0])

/-- A reserved OP at an offset, or code that runs off its end, stops the slot (R200). -/
def opReserved (c : Core) (i : Nat) (w : BitVec 128) : Bool :=
  decide (codeLen c ≤ (slotAt c i).pc) || decide (0x0D < opOp w)

/-- The shape of a station operation with code `op`: its action `f` on the word, the fault of R200 on a reserved
operation, nothing where another operation stands at the offset. -/
def stationOp (op k i : Nat) (f : State → Core → BitVec 128 → Core × List Ev) (s : State) :
    Host.Outcome State Fault Refusal :=
  if 8 ≤ i then .fault .noSuchUnit
  else runCore k (fun s c =>
    match opAt s k c i with
    | none => (c, [])
    | some w =>
      if opReserved c i w then codeFault c i
      else if opOp w = op then f s c w
      else (c, [])) s

/-- The payload of the operation at a slot's offset with the pending ADJs applied (R195, R196). -/
def payload (c : Core) (i n : Nat) : Nat :=
  (slotAt c i).adj.foldl (fun p a =>
    putBits p a.1 a.2.1 (bits p (a.1 + a.2.1 - 1) a.1 + a.2.2)) (codeUnits c ((slotAt c i).pc + 1) n)

/-- The physical basin of an image basin number in the core's context (R187); none at or above BASINS. -/
def imgBasin (s : State) (k b : Nat) : Option Nat :=
  match layoutOf s k with
  | none => none
  | some l => if b < l.basins then (grantOf s (ownerOf s (basinOf k)))[b]? else none

/-! ### Issue into the queues (R41, R102, R151) -/

/-- The slot that the rotating order takes among those for which `p` holds (R41). -/
def rotPick (rot : Nat) (p : Nat → Bool) : Option Nat :=
  ((List.range 8).map (fun j => (rot + 1 + j) % 8)).find? p

/-- The slots ready with an operation of code `op`. -/
def readyFor (s : State) (k : Nat) (c : Core) (op i : Nat) : Bool :=
  match opAt s k c i with
  | none => false
  | some w => opOp w == op && !opReserved c i w

/-- Every ready slot waits for queue room (R41). -/
def waitRoom (s : State) (k : Nat) (c : Core) (op : Nat) : Core :=
  (List.range 8).foldl (fun d i =>
    if readyFor s k c op i then putSlot d i { slotAt d i with st := .queueRoom } else d) c

/-- NOP does nothing (R195). -/
def execCodeNop (core slot : Nat) (s : State) : Host.Outcome State Fault Refusal :=
  stationOp 0x00 core slot (fun _ c _ => (goOn c slot 1, [])) s

/-- MXC: the next slot in rotating order writes its matrix command; a full queue makes it wait and counts
CORE_MX_QFULL (R41). -/
def execMxc (core : Nat) (s : State) : Host.Outcome State Fault Refusal :=
  runCore core (fun s c =>
    match rotPick c.mxRot (readyFor s core c 0x01) with
    | none => (c, [])
    | some i =>
      if 16 ≤ c.mxq.length then (bumpCore (waitRoom s core c 0x01) 8 1, [])
      else
        let t := slotAt c i
        let e : MxEnt := { cmd := BitVec.ofNat 256 (payload c i 2), slot := i, firing := t.firing, mb := t.mb,
                           step := t.step }
        ({ goOn c i 3 with mxq := c.mxq ++ [e], mxRot := i }, [])) s

/-- VCC: as MXC for the vector command queue of 8, counted in CORE_VC_QFULL (R102). -/
def execVcc (core : Nat) (s : State) : Host.Outcome State Fault Refusal :=
  runCore core (fun s c =>
    match rotPick c.vcRot (readyFor s core c 0x02) with
    | none => (c, [])
    | some i =>
      if 8 ≤ c.vcq.length then (bumpCore (waitRoom s core c 0x02) 23 1, [])
      else
        let t := slotAt c i
        let e : VcEnt := { cmd := BitVec.ofNat 768 (payload c i 6), slot := i, firing := t.firing, mb := t.mb,
                           step := t.step }
        ({ goOn c i 7 with vcq := c.vcq ++ [e], vcRot := i }, [])) s

/-! ### Streamer descriptors (R143 to R145, R151) -/

def sdOpc (d : BitVec 512) : Nat := fld d 3 0
def sdUnit (d : BitVec 512) : Nat := fld d 5 4
def sdMode (d : BitVec 512) : Nat := fld d 7 6
def sdSpace (d : BitVec 512) : Nat := fld d 9 8
def sdPort (d : BitVec 512) : Nat := fld d 12 10
def sdFill (d : BitVec 512) : Nat := fld d 19 13
def sdDepth (d : BitVec 512) : Nat := if fld d 28 20 = 0 then 256 else fld d 28 20
def sdChunk (d : BitVec 512) : Nat := fld d 44 32
def sdRows (d : BitVec 512) : Nat := fld d 50 45
def sdCols (d : BitVec 512) : Nat := fld d 56 51
def sdAddr (d : BitVec 512) : Nat := fld d 127 64
def sdCount (d : BitVec 512) (i : Nat) : Nat := fld d (143 + 16 * i) (128 + 16 * i)
def sdStride (d : BitVec 512) (i : Nat) : Int := signedOf 32 (fld d (223 + 32 * i) (192 + 32 * i))
def sdPitch (d : BitVec 512) : Nat := fld d 343 320
def sdTag (d : BitVec 512) : Nat := fld d 367 352

/-- The descriptor moves nothing: a NOP, or a count or size of zero (R143, R144). -/
def sdEmpty (d : BitVec 512) : Bool :=
  sdOpc d == 0 || sdCount d 0 == 0 || sdCount d 1 == 0 || sdCount d 2 == 0 || sdCount d 3 == 0 ||
  (sdMode d == 0 && sdChunk d == 0) || (sdMode d != 0 && (sdRows d == 0 || sdCols d == 0))

/-- Reserved values and the match of UNIT to OPC (R143, R145). BLK_ROWS and BLK_COLS are read in the XPOSE modes alone, which is
the model's choice for values of 33 to 63 in LINEAR mode (log 137). -/
def sdFormOk (d : BitVec 512) : Bool :=
  decide (sdOpc d ≤ 2) && decide (sdUnit d ≤ 2) && decide (sdMode d ≤ 2) &&
  (sdOpc d != 1 || decide (sdUnit d ≤ 1)) && (sdOpc d != 2 || sdUnit d == 2) &&
  (sdOpc d != 2 || sdMode d == 0) &&
  (sdOpc d != 1 || (decide (sdPort d ≤ 3) && decide (1 ≤ sdFill d) && decide (sdFill d ≤ 64))) &&
  (sdOpc d != 2 || decide (sdPort d ≤ 1)) &&
  decide (fld d 28 20 ≤ 256) && (sdMode d != 0 || decide (sdChunk d ≤ 4096)) &&
  (sdMode d == 0 || (decide (sdRows d ≤ 32) && decide (sdCols d ≤ 32))) &&
  fld d 31 29 == 0 && fld d 63 57 == 0 && fld d 351 344 == 0 && fld d 511 368 == 0 &&
  (sdOpc d == 0 ||
    ((sdSpace d != 0 || bits (sdAddr d) 63 23 == 0) && ((sdSpace d != 1 && sdSpace d != 2) || bits (sdAddr d) 63 40 == 0)))

/-- The address rules: no XPOSE in the HBM and GLOBAL spaces, and multiples of 64 there (R139, R145). -/
def sdAddrOk (d : BitVec 512) : Bool :=
  decide (sdSpace d ≤ 1) ||
  (sdMode d == 0 && sdAddr d % 64 == 0 && sdChunk d % 64 == 0 &&
   (List.range 4).all (fun i => sdStride d i % 64 == 0 || decide (sdCount d i ≤ 1)))

/-- The descriptor is valid (R145). -/
def sdValid (d : BitVec 512) : Bool := sdFormOk d && (sdEmpty d || sdAddrOk d)

/-- A streamer or port fetch unit of a core. -/
def strmAt (c : Core) (u : Nat) : Strm := tabGet c.strm u {}
/-- A streamer replaced. -/
def putStrm (c : Core) (u : Nat) (x : Strm) : Core := { c with strm := tabSet c.strm u x }

/-- An invalid descriptor: discarded, counted in CORE_SD_FAULT, the slot stops (R145). -/
def sdFault (c : Core) (i tag : Nat) : Core × List Ev :=
  (stopSlot (bumpCore c 62 1) i evStreamDescInvalid, [.fault evStreamDescInvalid i noFld tag 0 0 0])

/-- What translation at issue makes of a descriptor (R187, R214): the physical basin for SLOT and HBM, the bound
endpoint for a peer alias; `none` names a basin at or above BASINS. -/
def sdTranslate (s : State) (k : Nat) (t : Slot) (d : BitVec 512) : Option (BitVec 512) :=
  let a := sdAddr d
  if sdEmpty d then some d
  else if sdSpace d = 1 ∨ sdSpace d = 2 then
    match imgBasin s k (bits a 39 36) with
    | none => none
    | some b => some (BitVec.ofNat 512 (putBits d.toNat (64 + 36) 4 b))
  else if sdSpace d = 3 ∧ 0xFFF00 ≤ bits a 63 44 ∧ bits a 63 44 ≤ 0xFFF3F then
    some (BitVec.ofNat 512 (putBits d.toNat (64 + 44) 20 (tabGet t.peers (bits a 63 44 - 0xFFF00) (bits a 63 44))))
  else some d

/-- The descriptor at a slot's offset would enter a queue that is full (R151). -/
def sdWaits (c : Core) (i : Nat) : Bool :=
  let d : BitVec 512 := BitVec.ofNat 512 (payload c i 4)
  sdFormOk d && decide (8 ≤ (strmAt c (sdUnit d)).q.length)

/-- SDC: the next slot in rotating order whose unit has room writes its streamer descriptor into that unit's queue; an invalid
one stops the slot, a full queue makes it wait and counts CORE_SD_QFULL (R145, R151, R187). -/
def execSdc (core : Nat) (s : State) : Host.Outcome State Fault Refusal :=
  runCore core (fun s c =>
    match (rotPick c.sdRot (fun i => readyFor s core c 0x03 i && !sdWaits c i)).orElse
        (fun _ => rotPick c.sdRot (readyFor s core c 0x03)) with
    | none => (c, [])
    | some i =>
      let t := slotAt c i
      let d : BitVec 512 := BitVec.ofNat 512 (payload c i 4)
      if !sdFormOk d then sdFault c i (sdTag d)
      else
        match sdTranslate s core t d with
        | none => basinFault c i (sdTag d) (bits (sdAddr d) 39 36)
        | some e =>
          if !sdValid d then sdFault c i (sdTag d)
          else
            let u := strmAt c (sdUnit d)
            if 8 ≤ u.q.length then (bumpCore (waitRoom s core c 0x03) 61 1, [])
            else
              ({ putStrm (goOn c i 5) (sdUnit d)
                  { u with q := u.q ++ [{ d := e, slot := i, firing := t.firing, mb := t.mb, step := t.step }] } with
                 sdRot := i }, [])) s

/-! ### Sends (R164, R166) -/

/-- A station send queued; a send that finds no credit holds its slot until it is injected (R168). -/
def stationSend (c : Core) (ep i n : Nat) (x : Send) : Core × List Ev :=
  match sendRefusal (outAt c ep) i false with
  | some code => refuseSend c ep i (if x.kind = 0 then bits x.data 87 72 else noFld) code
  | none =>
    let waits := decide (sendRoom c ep ≤ (outAt c ep).sendQ.length)
    let c := goOn (queueSend c ep x) i n
    (if waits then putSlot c i { slotAt c i with st := .credit } else c, [])

/-- SENDD: the descriptor message with its basin translated (R164, R166, R187). -/
def execSendd (core slot : Nat) (s : State) : Host.Outcome State Fault Refusal :=
  stationOp 0x04 core slot (fun s c w =>
    let m := payload c slot 1
    let sp := bits m 41 40
    if (sp != 1 && sp != 2) || bits m 47 42 != 0 || bits m 127 88 != 0 then
      refuseSend c (opA w % 32) slot (bits m 87 72) evChSendInvalid
    else
      match imgBasin s core (bits m 39 36) with
      | none => basinFault c slot (bits m 87 72) (bits m 39 36)
      | some b =>
        if 32 ≤ opA w then refuseSend c (opA w % 32) slot (bits m 87 72) evChSendInvalid
        else stationSend c (opA w) slot 2
          { kind := 0, data := putBits m 36 4 b, vals := [], poison := false, slot := slot,
            firing := (slotAt c slot).firing }) s

/-- SENDT: D as a token (R164, R166). -/
def execSendt (core slot : Nat) (s : State) : Host.Outcome State Fault Refusal :=
  stationOp 0x05 core slot (fun _ c w =>
    if 32 ≤ opA w then refuseSend c (opA w % 32) slot noFld evChSendInvalid
    else stationSend c (opA w) slot 1
      { kind := 1, data := opD w, vals := [], poison := false, slot := slot, firing := (slotAt c slot).firing }) s

/-! ### Waiting, index registers, loops (R195, R196) -/

/-- The counter that WAIT reads, less its value at the start of the firing (R195). -/
def waitCount (c : Core) (i a b : Nat) : Nat :=
  let t := slotAt c i
  if a = 5 then (outAt c b).retired - tabGet t.retBase b 0 else tabGet t.done a 0 - tabGet t.base a 0

/-- WAIT holds the slot until the counter has advanced by C (R195, R200). A core that recomputes a firing delivers no message, so
none of it is retired, and it waits for none (R388; log 152). -/
def execWait (core slot : Nat) (s : State) : Host.Outcome State Fault Refusal :=
  stationOp 0x06 core slot (fun _ c w =>
    if 5 < opA w ∨ (opA w = 5 ∧ 31 < opB w) then codeFault c slot
    else if opC w ≤ waitCount c slot (opA w) (opB w) ∨ (opA w = 5 ∧ c.replay.isSome) then (goOn c slot 1, [])
    else (putSlot c slot { slotAt c slot with st := .waitOp }, [])) s

/-- An index register of a slot. -/
def idxAt (t : Slot) (r : Nat) : W64 := tabGet t.idx r 0

/-- A slot's index register written. -/
def putIdx (c : Core) (i r : Nat) (v : W64) : Core := putSlot c i { slotAt c i with idx := tabSet (slotAt c i).idx r v }

/-- SETI: index register A takes D (R195). -/
def execSeti (core slot : Nat) (s : State) : Host.Outcome State Fault Refusal :=
  stationOp 0x07 core slot (fun _ c w =>
    if 3 < opA w then codeFault c slot
    else (goOn (putIdx c slot (opA w) (BitVec.ofNat 64 (opD w))) slot 1, [])) s

/-- (value + D) mod C, a C of zero meaning 2^64 (R195). -/
def addMod (v : W64) (d c : Nat) : W64 :=
  BitVec.ofNat 64 (if c = 0 then v.toNat + d else (v.toNat + d) % c)

/-- ADDI: index register A takes (value + D) mod C (R195). -/
def execAddi (core slot : Nat) (s : State) : Host.Outcome State Fault Refusal :=
  stationOp 0x08 core slot (fun _ c w =>
    if 3 < opA w then codeFault c slot
    else (goOn (putIdx c slot (opA w) (addMod (idxAt (slotAt c slot) (opA w)) (opD w) (opC w))) slot 1, [])) s

/-- The source of an ADJ (R196); none for the reserved value 7. -/
def adjSource (t : Slot) (a : Nat) : Option Nat :=
  match a with
  | 4 => some t.firing
  | 5 => some t.mb
  | 6 => some (t.step % 2 ^ 32)
  | 7 => none
  | r => some (idxAt t r).toNat

/-- The payload units of the first operation at or after an offset that is not an ADJ; none where there is none or it
has no payload (R196). -/
def nextPay (c : Core) : Nat → Nat → Option Nat
  | 0, _ => none
  | n + 1, pc =>
    if codeLen c ≤ pc then none
    else if opOp (codeAt c pc) = 0x09 then nextPay c n (pc + 1)
    else if payUnits (opOp (codeAt c pc)) = 0 then none
    else some (payUnits (opOp (codeAt c pc)))

/-- ADJ: source × C is added to a field of the payload that the next operation issues; the code is never changed
(R196). -/
def execAdj (core slot : Nat) (s : State) : Host.Outcome State Fault Refusal :=
  stationOp 0x09 core slot (fun _ c w =>
    let t := slotAt c slot
    let off := opB w % 1024
    let width := opB w / 1024 + 1
    match adjSource t (opA w % 8), nextPay c (codeLen c) (t.pc + 1) with
    | some v, some n =>
      if off + width ≤ n * 128 then
        (putSlot c slot { t with st := .running, pc := t.pc + 1, adj := t.adj ++ [(off, width, v * opC w)] }, [])
      else codeFault c slot
    | _, _ => codeFault c slot) s

/-- LOOP: the register advances; below D, execution continues at code offset C, which must be the start of an operation word
whether or not this turn goes there (R195, R200). -/
def execLoop (core slot : Nat) (s : State) : Host.Outcome State Fault Refusal :=
  stationOp 0x0A core slot (fun _ c w =>
    if 3 < opA w ∨ codeLen c ≤ opC w ∨ codeMarked c (opC w) = false then codeFault c slot
    else
      let v : W64 := idxAt (slotAt c slot) (opA w) + 1
      if opD w ≤ v.toNat then (goOn (putIdx c slot (opA w) v) slot 1, [])
      else
        let c := goOn (putIdx c slot (opA w) v) slot 1
        (putSlot c slot { slotAt c slot with pc := opC w }, [])) s

/-! ### Drop reports and END (R197, R204, R385) -/

/-- DROPREP: B drop entries of 8 bytes from window offset C go to the supervisor (R204); the window and sub-bank rules
hold for the read (R136, R138), and so do the outcomes of its codewords (R130 to R132): what they deliver is reported. -/
def execDropRep (core : Nat) (slot : Reading) (s : State) : Host.Outcome State Fault Refusal :=
  let i := slot.unit
  stationOp 0x0C core i (fun _ c w =>
    let win := windowOf c i
    let n := 8 * opB w
    let t := slotAt c i
    if !winOk win (opC w) n then
      (stopSlot (bumpCore c 72 1) i evSpWindowFault, [.fault evSpWindowFault i noFld noFld 0 0 0])
    else if !banksOn c (winBase win + opC w) n then
      (stopSlot (bumpCore c 73 1) i evSpBankOff, [.fault evSpBankOff i noFld noFld 0 0 0])
    else
      let r := eccRead c (winBase win + opC w) n slot.ecc i noFld
      let bs := r.1.map (·.1)
      let entries := (List.range (opB w)).map (fun j => leNat ((bs.drop (8 * j)).take 8))
      (goOn (logFor r.2.1 t.firing (fun l => { l with drops := l.drops ++ bs })) i 1,
        r.2.2 ++ [.drops t.mb entries 0])) s

/-- The sampling of a firing at its start, by slot `i` (R385): a checker is chosen and kept out of placement, or the firing goes
unchecked and counts TST_CHECK_ABANDONED. -/
def sampleFiring (s : State) (k : Nat) (c : Core) (i f : Nat) (proof : Bool) : Core × List Ev :=
  match chooseChecker s k [dieOf k] with
  | none => (c, [.tst 11])
  | some j =>
    let d := { c with check := some { firing := f, mb := f / firesPerMb c, bytes := 0, msgs := [], chunks := [], stored := [],
                                      drops := [], checker := j, abandoned := false, ended := none } }
    (if (slotAt c i).st = .afterEnd then d else logBegin d i,
     [.tst 7, .check { core := k, checker := j, third := none, slot := c.slot.getD 0xFFFF, mb := f / firesPerMb c,
                       start := s.sup.ticks, proof := proof }])

/-- The slot is the first of its core to come to firing `f`. -/
def firstAt (c : Core) (slot f : Nat) : Bool :=
  c.slots.all (fun t => t.1 == slot || entryOf c t.1 == 0xFFFF || decide (t.2.firing < f))

/-- A proof run of a die is under way (R400). -/
def proofRun (s : State) (d : Nat) : Bool := s.heal.paths.any (fun p => p.die == d && p.proof)

/-- END: the slot's part of its firing ends and its next firing begins at ENTRY, once that firing's microbatch has been
admitted. `sample` is the draw of the on-die random source for the firing that the core comes to; in a proof run every
firing is taken (R197, R385, R400). -/
def execEndOp (core slot : Nat) (sample : Bool) (s : State) : Host.Outcome State Fault Refusal :=
  stationOp 0x0D core slot (fun s c _ =>
    let f := (slotAt c slot).firing + 1
    let d := nextFiring s core c slot f
    let proof := proofRun s (dieOf core)
    if firstAt c slot f && c.check.isNone && (proof || (sample && decide (s.tst.checkCfg % 2 ^ 32 ≠ 0)))
    then sampleFiring s core d slot f proof
    else (d, [])) s

/-! ### SYNC (R247 to R249) -/

/-- The key of an object in a sync table: home basin and number. -/
def syncKey (home obj : Nat) : Nat := home * 256 + obj

/-- The sync table entry of an object, made if there is room for it among 64 (R247). -/
def syncEntry (c : Core) (key : Nat) : Option (SyncEnt × Core) :=
  match c.sync.find? (fun e => e.obj == key) with
  | some e => some (e, c)
  | none =>
    if 64 ≤ c.sync.length then none
    else some ({ obj := key, next := [], last := [] }, { c with sync := c.sync ++ [{ obj := key, next := [], last := [] }] })

/-- A sync table entry replaced. -/
def putSync (c : Core) (e : SyncEnt) : Core :=
  { c with sync := c.sync.map (fun x => if x.obj = e.obj then e else x) }

/-- The shape of a SYNC operation with A equal to `a`: the object is translated (R187) and entered in the table
(R247); a reserved A is invalid station code (R200). In a recomputation it completes at once and sends nothing (R388). -/
def syncOp (a k i : Nat) (f : State → Core → BitVec 128 → SyncEnt → Core × List Ev) (s : State) :
    Host.Outcome State Fault Refusal :=
  stationOp 0x0B k i (fun s c w =>
    if 4 < opA w then codeFault c i
    else if opA w ≠ a then (c, [])
    else if c.replay.isSome then (goOn c i 1, [])
    else
      match imgBasin s k (bits (opB w) 11 8) with
      | none => basinFault c i noFld (bits (opB w) 11 8)
      | some h =>
        match syncEntry c (syncKey h (bits (opB w) 7 0)) with
        | none => (stopSlot c i evSyncTableFull, [.fault evSyncTableFull i noFld noFld 0 0 0])
        | some (e, d) => f s d w e) s

/-- A sync packet of a core toward an object's engine (R245). -/
def syncPkt (s : State) (c : Core) (k i type key val : Nat) : SyncPkt :=
  { type := type, epoch := stampOf s k, obj := key % 256, home := key / 256, slot := c.slot.getD 0xFFFF, tslot := i,
    val := val, src := k, dst := engineAt (key / 256) }

/-- The slot's phase sent, then advanced, modulo 65,536 (R245, R248). -/
def arriveAt (c : Core) (i : Nat) (e : SyncEnt) : SyncEnt × Core :=
  let e' := { e with next := tabSet e.next i ((tabGet e.next i 0 + 1) % 65536) }
  (e', putSync c e')

/-- RELEASE for the slot's last arrived phase has been received (R248). -/
def syncReleased (e : SyncEnt) (i : Nat) : Bool := tabGet e.last i 0 == tabGet e.next i 0

/-- The slot held until the release of its last arrived phase (R248). -/
def syncHold (c : Core) (i : Nat) (e : SyncEnt) : Core :=
  if syncReleased e i then c
  else putSlot c i { slotAt c i with st := .sync, syncObj := e.obj, syncPhase := tabGet e.next i 0, takeWait := false }

/-- ARRIVE sends the slot's phase and advances it (R248). -/
def execArrive (core slot : Nat) (s : State) : Host.Outcome State Fault Refusal :=
  syncOp 0 core slot (fun s c _ e =>
    let r := arriveAt c slot e
    (goOn r.2 slot 1, [.sync (syncPkt s c core slot 0 e.obj (tabGet e.next slot 0))])) s

/-- WAIT holds the slot until RELEASE for its last arrived phase (R248). -/
def execSyncWait (core slot : Nat) (s : State) : Host.Outcome State Fault Refusal :=
  syncOp 1 core slot (fun _ c _ e => (syncHold (goOn c slot 1) slot e, [])) s

/-- ARRIVE_WAIT arrives and waits (R247, R248). -/
def execArriveWait (core slot : Nat) (s : State) : Host.Outcome State Fault Refusal :=
  syncOp 2 core slot (fun s c _ e =>
    let r := arriveAt c slot e
    (syncHold (goOn r.2 slot 1) slot r.1, [.sync (syncPkt s c core slot 0 e.obj (tabGet e.next slot 0))])) s

/-- POST sends C (R247, R249). -/
def execPost (core slot : Nat) (s : State) : Host.Outcome State Fault Refusal :=
  syncOp 3 core slot (fun s c w e =>
    (goOn c slot 1, [.sync (syncPkt s c core slot 1 e.obj (opC w % 65536))])) s

/-- TAKE asks for one unit and holds the slot until its GRANT (R247, R249). -/
def execTake (core slot : Nat) (s : State) : Host.Outcome State Fault Refusal :=
  syncOp 4 core slot (fun s c _ e =>
    let c := goOn c slot 1
    (putSlot c slot { slotAt c slot with st := .sync, syncObj := e.obj, takeWait := true },
      [.sync (syncPkt s c core slot 2 e.obj 1)])) s

/-! ### Firing complete (R197, R199) -/

/-- Work of firing `f` that the core still holds in any queue, engine or endpoint. -/
def firingBusy (c : Core) (f : Nat) : Bool :=
  c.mxq.any (fun e => e.firing == f) || c.vcq.any (fun e => e.firing == f) ||
  (match c.mxRun with
   | some r => r.ent.firing == f
   | none => false) ||
  (match c.vcRun with
   | some r => r.ent.firing == f
   | none => false) ||
  c.vcHeld.any (fun x => x.done.any (fun e => e.firing == f)) ||
  c.drains.any (fun d => d.ent.firing == f) ||
  c.strm.any (fun u => u.2.q.any (fun e => e.firing == f)) ||
  c.outEp.any (fun e => e.2.sendQ.any (fun x => x.firing == f))

/-- Every slot with code has ended firing `f` and has lost nothing of it; one that a fence stopped counts as ended, so that
the drain of R296 can end (R62, R197, R296; log 38). -/
def slotsEnded (c : Core) (f : Nat) : Bool :=
  (List.range 8).all (fun i =>
    let t := slotAt c i
    entryOf c i == 0xFFFF ||
    ((decide (f < t.firing) || (t.st == .stopped && t.stopEv == evFabFenced)) &&
     (match t.lost with
      | none => true
      | some g => decide (f < g))))

/-- The differences of R199 in a firing: owner, endpoint, direction, count, rate. -/
def rateFaults (c : Core) (f : Nat) : List (Nat × Nat × Nat × Nat × Nat) :=
  match c.station with
  | none => []
  | some y =>
    ((List.range 32).filterMap (fun e =>
      let x := inAt c e
      let n := tabGet x.takenNow f 0
      if inQdepth x ≠ 0 ∧ inPort x ≠ 4 ∧ n ≠ nth y.rateIn e 0 then some (inOwner x, e, 0, n, nth y.rateIn e 0)
      else none)) ++
    ((List.range 32).filterMap (fun e =>
      let x := outAt c e
      let n := tabGet x.sentNow f 0
      if outKind x ≠ 0 ∧ n ≠ nth y.rateOut e 0 then some (outOwner x, e, 1, n, nth y.rateOut e 0) else none))

/-- The counts of a firing forgotten. -/
def dropCounts (c : Core) (f : Nat) : Core :=
  { c with inEp := c.inEp.map (fun e => (e.1, { e.2 with takenNow := tabDel e.2.takenNow f })),
           outEp := c.outEp.map (fun e => (e.1, { e.2 with sentNow := tabDel e.2.sentNow f })) }

/-- A firing of a microbatch added to the window of its core (R391). -/
def addWin (w : List Win) (n slot m : Nat) : List Win :=
  match w with
  | [] => [{ ctx := n, slot := slot, first := m, last := m, firings := 1 }]
  | h :: t =>
    if h.ctx = n ∧ h.slot = slot ∧ h.last ≤ m then { h with last := m, firings := min (h.firings + 1) (2 ^ 32 - 1) } :: t
    else { ctx := n, slot := slot, first := m, last := m, firings := 1 } :: h :: t

/-- A slot noted among those a core has run since the last group record (R496). -/
def addRan (l : List Nat) (slot : Nat) : List Nat := if l.contains slot then l else l ++ [slot]

/-- FIRING_COMPLETE: every slot has ended and nothing issued in the firing is left; the rates are compared and the
firing number advances (R197, R199). The suspect window follows R391. A recomputation only ends (R388). -/
def execFiringComplete (core : Nat) (s : State) : Host.Outcome State Fault Refusal :=
  runCore core (fun s c =>
    let f := c.firing
    if c.station.isNone || firesPerMb c == 0 || decide (c.begun ≤ f) || !slotsEnded c f || firingBusy c f then (c, [])
    else
      let m := f / firesPerMb c
      let bad := if c.replay.isSome then [] else rateFaults c f
      let c0 := if c.replay.isSome then c
                else { c with lastMb := m, ran := addRan c.ran (c.slot.getD 0xFFFF),
                              window := addWin c.window (ownerOf s (basinOf core)) (c.slot.getD 0xFFFF) m }
      let c1 := dropCounts { c0 with firing := f + 1, latched := c.latched.filter (fun e => decide (f < e.1)) } f
      let c2 := logFor c1 f (fun l => { l with ended := some s.sup.ticks })
      (bad.foldl (fun d b => stopSlot d b.1 evRateMismatch) c2,
        bad.map (fun b => .fault evRateMismatch b.1 b.2.1 noFld b.2.2.1 b.2.2.2.1 b.2.2.2.2))) s

end Sys2Proof.Machine
end

