-- ==== Sys2Proof/Machine/Streamer.lean ====
section
/-! DEFINITION. Streamers, port fetch units and the scratchpad's own traffic (R139 to R157): descriptors, line requests,
returns, beats, scrubs, remote accesses and the clearing of a core. -/

namespace Sys2Proof.Machine

/-! ### Packets (R218 to R222) -/

/-- A packet with every field zero. -/
def blankPkt : Pkt :=
  { id := 0, vc := 0, kind := 0, epoch := false, dtype := 0, dst := 0, dstCore := 0, srcCore := 0, cmark := 0,
    poison := false, gen := 0, lines := 0, reqId := 0, reqUnit := 0, addr := 0, len := 0, chSeq := 0, dstEp := 0,
    group := 0, defBasin := 0, anchor := 0, pkt := 0, npkt := 0, ncontrib := 0, cnt := 0, mc := [], ctx := 0, tslot := 0,
    srcSlot := 0, refused := 0, rsvBad := false, data := [], pois := [], at_ := 0 }

/-- The response to a request: READ_DATA or WRITE_ACK to SRC_CORE with the request's number and mark (R220, R222, R239).
`code` names the refusal whose event the issuer raises. -/
def answerTo (p : Pkt) (bytes : List (Byte × Bool)) (poison : Bool) (code : Nat) : Pkt :=
  { blankPkt with
    vc := 2, kind := if p.kind = 0 then 2 else 3, dtype := 1, dst := p.srcCore, cmark := p.cmark, poison := poison,
    lines := if p.kind = 0 then ceilDiv p.len 64 else 0, reqId := p.reqId, reqUnit := p.reqUnit, len := p.len, ctx := p.ctx,
    tslot := p.tslot, srcSlot := p.srcSlot, refused := code,
    data := if p.kind = 0 then bytes.map (·.1) else [], pois := if p.kind = 0 then bytes.map (·.2) else [] }

/-- The answer of a refused request: zero bytes with poison, or an acknowledgement with POISON (R141, R256). -/
def refusePkt (p : Pkt) (code : Nat) : Pkt := answerTo p (poisonZeros p.len) true code

/-- A packet waits at its core for the ingress router. -/
def injAt (c : Core) (k : Nat) (p : Pkt) : Core := { c with inj := c.inj ++ [{ p with srcCore := k }] }

/-! ### Chunks (R146) -/

/-- Chunks or blocks of a descriptor. -/
def sdTotal (d : BitVec 512) : Nat := sdCount d 0 * sdCount d 1 * sdCount d 2 * sdCount d 3

/-- Width of the offset part of ADDR (R139). -/
def offBits (d : BitVec 512) : Nat :=
  match sdSpace d with
  | 0 => 23
  | 1 => 23
  | 2 => 36
  | _ => if bits (sdAddr d) 42 40 = 0 then 36 else if bits (sdAddr d) 42 40 = 1 then 23 else 40

/-- Offset of chunk `n` (R146). -/
def chunkOff (d : BitVec 512) (n : Nat) : Int :=
  let i0 := n % sdCount d 0
  let i1 := n / sdCount d 0 % sdCount d 1
  let i2 := n / (sdCount d 0 * sdCount d 1) % sdCount d 2
  let i3 := n / (sdCount d 0 * sdCount d 1 * sdCount d 2)
  (sdAddr d % 2 ^ offBits d : Nat) + i0 * sdStride d 0 + i1 * sdStride d 1 + i2 * sdStride d 2 + i3 * sdStride d 3

/-- Width of an element of a transposing block (R146). -/
def xw (d : BitVec 512) : Nat := if sdMode d = 1 then 1 else 2

/-- The pieces of a chunk before it is cut at lines: one for LINEAR, the row fragments of a block (R146, R149). -/
def chunkParts (d : BitVec 512) (n : Nat) : List (Int × Nat) :=
  if sdMode d = 0 then [(chunkOff d n, sdChunk d)]
  else (List.range (sdRows d)).map (fun (r : Nat) => (chunkOff d n + (r : Int) * (sdPitch d : Int), sdCols d * xw d))

/-- A window offset as a core-local address for a task slot. -/
def localAddr (c : Core) (slot : Nat) (o : Nat) : Nat := winBase (windowOf c slot) + o

/-- What stops a whole chunk before any request for it: an offset outside its range or a broken line rule, a window
fault, a store into a W-class page (R134, R138, R139, R149). -/
def chunkFault (c : Core) (e : SdEnt) (n : Nat) : Option Nat :=
  let d := e.d
  let ps := chunkParts d n
  if ps.any (fun p => decide (p.1 < 0) || decide ((2 ^ offBits d : Int) ≤ p.1)) then some evSpAddrRange
  else if sdMode d != 0 && (decide (chunkOff d n % (xw d : Int) ≠ 0) ||
      ps.any (fun p => decide (64 < p.1.toNat % 64 + p.2))) then some evSpAddrRange
  else if sdSpace d = 0 ∧ ps.any (fun p => !winOk (windowOf c e.slot) p.1 p.2) then some evSpWindowFault
  else if sdSpace d = 0 ∧ sdOpc d = 2 ∧ ps.any (fun p => touchesW c (localAddr c e.slot p.1.toNat) p.2) then
    some evSpWclassWrite
  else none

/-! ### Ends of a descriptor -/

/-- The cycle counters of a streamer (R158): 0 BUSY, 1 WAIT_PORT, 2 WAIT_DEPTH, 3 WAIT_DATA, 4 IDLE. -/
def bumpStrm (c : Core) (u j : Nat) : Core := if u < 3 then bumpCore c (31 + 5 * u + j) 1 else c

/-- The descriptor of a unit with a serial number. -/
def entOf (x : Strm) (ser : Nat) : Option SdEnt := if ser < x.ser then none else x.q[ser - x.ser]?

/-- A queue with the first descriptor whose requests are not all made changed. -/
def putGen (f : SdEnt → SdEnt) : List SdEnt → List SdEnt
  | [] => []
  | e :: l => if e.made then e :: putGen f l else f e :: l

/-- The first descriptor whose requests are not all made (R150), and its serial number. -/
def genEnt (x : Strm) : Option SdEnt := x.q.find? (fun e => !e.made)
def genSer (x : Strm) : Nat := x.ser + (x.q.takeWhile (·.made)).length

/-- A descriptor with nothing more to request: the next one's chunks follow (R150). -/
def genMade (x : Strm) (f : SdEnt → SdEnt) : Strm :=
  { x with q := putGen (fun e => { f e with begun := true, made := true }) x.q, chunk := 0, pos := 0 }

/-- The head leaves the queue; where it was not broken off, its slot's done count advances (R138, R151). -/
def sdPop (s : State) (c : Core) (u : Nat) (e : SdEnt) : Core :=
  let x := strmAt c u
  let y : Strm := { x with q := x.q.drop 1, ser := x.ser + 1, buf := [], reqs := x.reqs.filter (fun r => r.ser != x.ser) }
  if e.broken then putStrm c u y
  else { putStrm (bumpCore (bumpDone c e.slot (2 + u)) (46 + u) 1) u y with lastProgress := s.sup.ticks }

/-- The head has nothing left to request, to deliver or to be acknowledged; bytes that fill no whole beat of a descriptor that a
window or range fault broke off are discarded (R138, R151). -/
def headDone (x : Strm) (e : SdEnt) : Bool :=
  let own := x.reqs.filter (fun r => r.ser == x.ser)
  e.made &&
  (if e.cut then
     own.all (fun r => r.data.isSome) && (sdOpc e.d == 2 ||
       decide ((if sdMode e.d = 0 then sumOf (own.map (·.len)) else sumOf ((own.filter (·.lastOfChunk)).map (fun _ =>
         sdRows e.d * sdCols e.d * (if sdMode e.d = 1 then 1 else 2)))) + x.buf.length < sdFill e.d))
   else own.isEmpty && x.buf.isEmpty)

/-- Descriptors with nothing left end, in queue order: complete, or discarded after a fault (R138, R151, R62). -/
def sdEnds (s : State) (u : Nat) : Nat → Core → Core
  | 0, c => c
  | n + 1, c =>
    let x := strmAt c u
    match x.q with
    | [] => c
    | e :: _ => if headDone x e then sdEnds s u n (sdPop s c u e) else c

/-- What has nothing left ends; a fetch unit with nothing left is free for its port's next message (R151, R174). -/
def settle (s : State) (c : Core) (u : Nat) : Core :=
  let x := strmAt c u
  if 3 ≤ u then
    if x.active && x.genDone && x.reqs.isEmpty && x.buf.isEmpty then
      putStrm c u { x with active := false, fetchEp := none, chunk := 0, pos := 0, genDone := false, faulted := false, tainted := false }
    else c
  else sdEnds s u x.q.length c

/-- The event of a slot that a unit stops: a layout fault (R62), but for a fence, which drains the basins itself (R296). -/
def stopEvent (code slot ep tag : Nat) : Ev :=
  if code = evFabFenced then .post code slot ep tag 0 0 0 else .fault code slot ep tag 0 0 0

/-- A descriptor that a fault breaks off: nothing is generated past the chunk in hand. `cut` is a fault of the chunk's own
checks, which also discards bytes that fill no whole beat (R138). -/
def breakOff (x : Strm) (ser : Nat) (cut : Bool) : Strm :=
  let gen := decide (ser = genSer x)
  let q := x.q.mapIdx (fun i e =>
    if x.ser + i = ser then
      { e with broken := true, cut := e.cut || cut, begun := true, made := e.made || cut || (gen && x.pos == 0) }
    else e)
  if gen ∧ (cut ∨ x.pos = 0) then { x with q := q, chunk := 0, pos := 0 } else { x with q := q }

/-- A fault in a descriptor: its slot stops (R138, R62). -/
def sdStop (c : Core) (u ser : Nat) (cut : Bool) (code : Nat) : Core × List Ev :=
  let x := strmAt c u
  match entOf x ser with
  | none => (c, [])
  | some e =>
    if e.broken then (c, [])
    else
      (putStrm (if code = evFabFenced then stopSlot c e.slot code else loseFiring (stopSlot c e.slot code) e.slot e.firing) u
        (breakOff x ser cut), [stopEvent code e.slot noFld (sdTag e.d)])

/-- The event of a refused line: the issuing slot stops, except for a shard on hold, and a fetch goes on with poison
(R141, R174, R256). -/
def lineRefused (c : Core) (u ser code : Nat) : Core × List Ev :=
  let x := strmAt c u
  if 3 ≤ u then
    let o := inOwner (inAt c (x.fetchEp.getD 0))
    let tag := bits x.fetchMsg 87 72
    if code = evHbmShardHeld then (c, [.post code o (x.fetchEp.getD 0) tag 0 0 0])
    else if x.faulted then (c, [])
    else (putStrm (stopSlot c o code) u { x with faulted := true }, [stopEvent code o (x.fetchEp.getD 0) tag])
  else
    match entOf x ser with
    | none => (c, [])
    | some e =>
      if code = evHbmShardHeld then (c, [.post code e.slot noFld (sdTag e.d) 0 0 0]) else sdStop c u ser false code

/-! ### Start of a descriptor -/

/-- The next descriptor to begin, if its OPC is `opc`: the first whose requests are not all made (R150). -/
def sdHead (c : Core) (u opc : Nat) : Option SdEnt :=
  match genEnt (strmAt c u) with
  | none => none
  | some e => if e.begun || sdOpc e.d != opc then none else some e

/-- SD_NOP: a NOP whose turn has come moves nothing and completes behind those ahead of it (R143, R151). -/
def execSdNop (core unit : Nat) (s : State) : Host.Outcome State Fault Refusal :=
  runLive core (fun s c =>
    match sdHead c unit 0 with
    | none => (c, [])
    | some _ => (settle s (putStrm c unit (genMade (strmAt c unit) id)) unit, [])) s

/-- A LOAD or STORE begins; one that moves nothing completes behind those ahead of it (R144, R146, R150). -/
def sdStart (s : State) (c : Core) (u opc : Nat) : Core × List Ev :=
  let x := strmAt c u
  match sdHead c u opc with
  | none => (if x.q.isEmpty then bumpStrm c u 4 else c, [])
  | some e =>
    if sdEmpty e.d then (settle s (putStrm c u (genMade x id)) u, [])
    else (putStrm c u { x with q := putGen (fun e => { e with begun := true }) x.q }, [])

/-- LOAD: the head LOAD of a load streamer starts; its bytes become beats of the port it names (R144, R146, R147). -/
def execLoad (core unit : Nat) (s : State) : Host.Outcome State Fault Refusal :=
  runLive core (fun s c => sdStart s c unit 1) s

/-- STORE: the head STORE of the store streamer starts; it takes its bytes from the source it names (R144, R148). -/
def execStore (core : Nat) (s : State) : Host.Outcome State Fault Refusal :=
  runLive core (fun s c => sdStart s c 2 2) s

/-! ### Requests (R138, R139, R150, R228) -/

/-- A FIFO half (R38, R95): 0 MA, 1 MB, 2 VOP X, 3 VOP Y. -/
def fifoOf (c : Core) (p : Nat) : List Beat :=
  match p with
  | 0 => c.ma
  | 1 => c.mb
  | 2 => c.vx
  | _ => c.vy

/-- The first descriptor in the queue, or an empty one. -/
def headSd (x : Strm) : BitVec 512 :=
  match x.q with
  | [] => 0
  | e :: _ => e.d

/-- Outstanding lines (R150): those not yet delivered, and the one of which bytes are left. A row fragment that has reached
the transposer counts among its blocks (R149; log 139). -/
def linesOut (x : Strm) : Nat :=
  (x.reqs.filter (fun r => !(r.xp && r.data.isSome))).length + b2n (!x.buf.isEmpty && sdMode (headSd x) == 0)

/-- Blocks that the transposer holds or reads (R149). -/
def blocksOut (x : Strm) : Nat :=
  (x.reqs.filter (fun r => r.xp && r.lastOfChunk)).length + b2n (!x.buf.isEmpty && sdMode (headSd x) != 0)

/-- Beats requested for a port and not yet in its FIFO, over the descriptors of the streamer (R150). -/
def beatsOut (x : Strm) (p : Nat) : Nat :=
  sumOf (x.q.mapIdx (fun i e =>
    if sdPort e.d = p then
      ceilDiv (sumOf ((x.reqs.filter (fun r => r.ser == x.ser + i)).map (·.len)) + (if i = 0 then x.buf.length else 0)) (sdFill e.d)
    else 0))

/-- The packet of a line request: destination type, destination and address by space (R139, R220). The ingress router names the
port of a GLOBAL request, 31 until then (R281). -/
def linePkt (s : State) (k : Nat) (c : Core) (u slot : Nat) (write : Bool) (space addr len id : Nat)
    (bs : List (Byte × Bool)) : Pkt :=
  { blankPkt with
    vc := 0
    kind := if write then (if space = 3 ∧ bitAt addr 43 then 8 else 1) else 0
    dtype := if space = 1 then 0 else if space = 2 then 2 else 3
    dst := if space = 1 then bits addr 39 26 else if space = 2 then bits addr 39 36 else 31
    addr := if space = 1 then bits addr 25 0 else if space = 2 then bits addr 35 0 else addr
    srcCore := k, reqId := id, reqUnit := u, len := len, lines := if write then 1 else 0
    poison := bs.any (·.2), ctx := ownerOf s (basinOf k), tslot := slot, srcSlot := c.slot.getD 0xFFFF
    data := bs.map (·.1), pois := bs.map (·.2), unit := some u }

/-- A request recorded, and its packet offered to the mesh. `whole` is the chunk or block it is a line of (R141). -/
def sendLine (s : State) (k : Nat) (c : Core) (u slot : Nat) (write : Bool) (space addr len : Nat) (last : Bool)
    (bs : List (Byte × Bool)) (xp : Bool) (whole : List (Nat × Nat)) : Core :=
  let x := strmAt c u
  let r : LineReq := { id := x.nextId, space := space, addr := addr, len := len, write := write, wdata := bs, data := none,
                       refused := 0, lastOfChunk := last, ser := if 3 ≤ u then 0 else genSer x, xp := xp }
  let c := putStrm c u { x with reqs := x.reqs ++ [r], nextId := (x.nextId + 1) % 1024 }
  if space = 0 then c else injAt c k { linePkt s k c u slot write space addr len x.nextId bs with whole := whole }

/-- A request that can reach nothing: zero bytes with poison are delivered in its place (R136, R141). -/
def deadLine (c : Core) (u space addr len : Nat) (last : Bool) (code : Nat) (xp : Bool) : Core :=
  let x := strmAt c u
  let r : LineReq := { id := x.nextId, space := space, addr := addr, len := len, write := false, wdata := [],
                       data := some (poisonZeros len), refused := code, lastOfChunk := last,
                       ser := if 3 ≤ u then 0 else genSer x, xp := xp }
  putStrm c u { x with reqs := x.reqs ++ [r], nextId := (x.nextId + 1) % 1024 }

/-- A line of a recomputation: its data come from the check log when its beat is due, its bytes are zero until then (R388). -/
def replayLine (c : Core) (u space addr len : Nat) (last xp : Bool) : Core :=
  let x := strmAt c u
  let r : LineReq := { id := x.nextId, space := space, addr := addr, len := len, write := false, wdata := [],
                       data := some (clean (List.replicate len 0)), refused := 0, lastOfChunk := last, ser := genSer x, xp := xp }
  putStrm c u { x with reqs := x.reqs ++ [r], nextId := (x.nextId + 1) % 1024 }

/-- The check log covers the beats of a LOAD: all but LOCAL reads of W-class pages (R386; log 20). -/
def logged (c : Core) (e : SdEnt) : Bool := !(sdSpace e.d == 0 && isW c (localAddr c e.slot (chunkOff e.d 0).toNat))

/-- The next piece of a chunk: its offset, its length and whether it is the chunk's last. -/
def nextPiece (d : BitVec 512) (n pos : Nat) : Nat × Nat × Bool :=
  if sdMode d = 0 then
    let o := (chunkOff d n).toNat + pos
    let l := min (64 - o % 64) (sdChunk d - pos)
    (o, l, decide (sdChunk d ≤ pos + l))
  else
    ((chunkOff d n + (pos : Int) * (sdPitch d : Int)).toNat, sdCols d * xw d, decide (sdRows d ≤ pos + 1))

/-- Progress past a piece; past a chunk's last one the next chunk follows, unless it was the last or the descriptor is broken
off (R138, R146). -/
def stepPiece (c : Core) (u : Nat) (e : SdEnt) (len : Nat) (last : Bool) : Core :=
  let x := strmAt c u
  if !last then putStrm c u { x with pos := x.pos + if sdMode e.d = 0 then len else 1 }
  else if sdTotal e.d ≤ x.chunk + 1 ∨ ((genEnt x).any (·.broken)) = true then putStrm c u (genMade x id)
  else putStrm c u { x with chunk := x.chunk + 1, pos := 0 }

/-- The store streamer's source bytes (R148). -/
def srcBytes (x : Strm) (d : BitVec 512) : List (Byte × Bool) := if bitAt (sdPort d) 0 then x.src1 else x.src0

/-- Bytes taken from the store streamer's source. -/
def dropSrc (x : Strm) (d : BitVec 512) (n : Nat) : Strm :=
  if bitAt (sdPort d) 0 then { x with src1 := x.src1.drop n } else { x with src0 := x.src0.drop n }

/-- A chunk enters the log of a sampled firing (R387). -/
def logChunk (c : Core) (u : Nat) (e : SdEnt) (n : Nat) : Core :=
  logFor c e.firing (fun l => { l with
    chunks := l.chunks ++ [(u, sdSpace e.d,
      sdAddr e.d / 2 ^ offBits e.d * 2 ^ offBits e.d + (chunkOff e.d n).toNat)] })

/-- The window offsets and lengths of a chunk or block in the SLOT space (R141). -/
def wholeOf (e : SdEnt) (n : Nat) : List (Nat × Nat) :=
  if sdSpace e.d = 1 then (chunkParts e.d n).map (fun p => (p.1.toNat, p.2)) else []

/-- One line of a LOAD or STORE: its request, or, where nothing can be reached, zero bytes with poison for a read and nothing
for a write, and the slot stops (R136, R139, R141). In a recomputation what the log covers is not asked for, and nothing is
stored (R388). -/
def sdLine (s : State) (k : Nat) (c : Core) (u : Nat) (e : SdEnt) (p : Nat × Nat × Bool) (bs : List (Byte × Bool)) :
    Core × List Ev :=
  let d := e.d
  let x := strmAt c u
  let sp := sdSpace d
  let addr := if sp = 0 then localAddr c e.slot p.1 else sdAddr d / 2 ^ offBits d * 2 ^ offBits d + p.1
  let xp := sdMode d != 0
  let rd := sdOpc d == 1
  let dead (c : Core) (code : Nat) : Core × List Ev :=
    let c1 := if rd then deadLine c u sp addr p.2.1 p.2.2 code xp else c
    let r := sdStop c1 u (genSer x) false code
    (stepPiece r.1 u e p.2.1 p.2.2, r.2)
  if c.replay.isSome ∧ (!rd || logged c e) = true then
    (stepPiece (if rd then replayLine c u sp addr p.2.1 p.2.2 xp else c) u e p.2.1 p.2.2, [])
  else if sp = 0 ∧ banksOn c addr p.2.1 = false then dead (bumpCore c 73 1) evSpBankOff
  else if sp ≠ 0 ∧ 2 ^ offBits d < p.1 + p.2.1 then dead c (if sp = 2 then evHbmRange else evSpRemoteRefused)
  else (stepPiece (sendLine s k c u e.slot (!rd) sp addr p.2.1 p.2.2 bs xp (wholeOf e x.chunk)) u e p.2.1 p.2.2, [])

/-- A request of a streamer for its next piece (R138, R139, R149, R150, R228). -/
def strmRequest (s : State) (k : Nat) (c : Core) (u : Nat) (e : SdEnt) : Core × List Ev :=
  let x := strmAt c u
  let d := e.d
  match (if x.pos = 0 then chunkFault c e x.chunk else none) with
  | some code => sdStop (if code = evSpWclassWrite then c else bumpCore c 72 1) u (genSer x) true code
  | none =>
    let p := nextPiece d x.chunk x.pos
    let log (c : Core) : Core := if x.pos = 0 then logChunk c u e x.chunk else c
    if sdDepth d ≤ linesOut x then (bumpStrm c u 2, [])
    else if sdOpc d = 1 then
      if (if sdMode d = 0 then decide (16 < beatsOut x (sdPort d) + (fifoOf c (sdPort d)).length)
          else x.pos == 0 && decide (2 ≤ blocksOut x)) then (bumpStrm c u 1, [])
      else sdLine s k (log c) u e p []
    else if (srcBytes x d).length < p.2.1 then (bumpStrm c u 1, [])
    else if x.reqs.any (fun r => r.space == sdSpace d && r.addr / 64 ==
        (if sdSpace d = 0 then localAddr c e.slot p.1 else sdAddr d / 2 ^ offBits d * 2 ^ offBits d + p.1) / 64) then
      (bumpStrm c u 3, [])
    else
      let bs := (srcBytes x d).take p.2.1
      let c := logFor (log c) e.firing (fun l => { l with stored := l.stored ++ bs.map (·.1) })
      sdLine s k (putStrm c u (dropSrc x d p.2.1)) u e p bs

/-- A request of a fetch unit for the next line of the message it expands (R40, R174). -/
def fetchRequest (s : State) (k : Nat) (c : Core) (u : Nat) : Core :=
  let x := strmAt c u
  let m := x.fetchMsg
  let sp := bits m 41 40
  let w := if sp = 1 then 23 else 36
  let base := bits m 39 0
  let o := base % 2 ^ w + x.pos
  let len := min (64 - o % 64) (bits m 71 48 - x.pos)
  let last := decide (bits m 71 48 ≤ x.pos + len)
  let slot := inOwner (inAt c (x.fetchEp.getD 0))
  let c := if 2 ^ w < o + len then deadLine c u sp 0 len last (if sp = 1 then evSpRemoteRefused else evHbmRange) false
           else sendLine s k c u slot false sp (base / 2 ^ w * 2 ^ w + o) len last [] false []
  putStrm c u { strmAt c u with pos := x.pos + len, genDone := last }

/-- STREAMER_REQUEST: a streamer (0 to 2) or a port's fetch unit (3 to 6) makes its next line request, within its run
depth and the room of its port (R150, R174). -/
def execStreamerRequest (core unit : Nat) (s : State) : Host.Outcome State Fault Refusal :=
  runLive core (fun s c =>
    let x := strmAt c unit
    if 3 ≤ unit then (if !x.active || x.genDone then (c, []) else (fetchRequest s core c unit, []))
    else
      match genEnt x with
      | none => (c, [])
      | some e =>
        if !e.begun then (c, [])
        else
          let r := strmRequest s core c unit e
          (settle s r.1 unit, r.2)) s

/-! ### Returns and beats (R147 to R151) -/

/-- The columns of a block of row fragments, each element of `w` bytes (R146, R149). -/
def transposeBlock (rows cols w : Nat) (l : List (Byte × Bool)) : List (Byte × Bool) :=
  (List.range cols).flatMap (fun c => (List.range rows).flatMap (fun r =>
    (List.range w).map (fun i => nth l (r * (cols * w) + c * w + i) (0, true))))

/-- A beat from a payload, zero-padded; one poisoned byte poisons it (R147). -/
def beatOf (src : Nat) (l : List (Byte × Bool)) : Beat :=
  { data := fitBytes 64 (l.map (·.1)), poison := l.any (·.2), src := src }

/-- A block's row fragments at the head of the outstanding lines, and the lines after them, once all have returned. -/
def headBlock : List LineReq → Option (List (Byte × Bool) × List LineReq)
  | [] => none
  | r :: l =>
    match r.data with
    | none => none
    | some b =>
      if r.lastOfChunk then some (b, l)
      else
        match headBlock l with
        | none => none
        | some z => some (b ++ z.1, z.2)

/-- Lines, or whole blocks, taken from the head of the outstanding ones until the bytes fill a beat (R146, R147, R149). -/
def pullLines (d : BitVec 512) (fill : Nat) : Nat → Strm → Strm
  | 0, x => x
  | n + 1, x =>
    if fill ≤ x.buf.length then x
    else
      match x.reqs with
      | [] => x
      | r :: l =>
        if r.ser ≠ x.ser then x
        else if r.xp then
          match headBlock x.reqs with
          | none => x
          | some z => pullLines d fill n { x with buf := x.buf ++ transposeBlock (sdRows d) (sdCols d) (xw d) z.1, reqs := z.2 }
        else
          match r.data with
          | none => x
          | some b => pullLines d fill n { x with buf := x.buf ++ b, reqs := l }

/-- The next beat that a unit can deliver, and the unit after it: a whole payload, or the short last one of a descriptor or a
message (R138, R147). -/
def nextBeat (c : Core) (u : Nat) : Option (Beat × Strm) :=
  let x := strmAt c u
  let fetch := decide (3 ≤ u)
  let src := if fetch then 2 + x.fetchEp.getD 0 else u
  let fill := if fetch then 64 else sdFill (headSd x)
  let y := pullLines (headSd x) fill x.reqs.length x
  let whole := if fetch then x.genDone else x.q.head?.any (fun e => e.made && !e.cut)
  if fill = 0 then none
  else if fill ≤ y.buf.length then some (beatOf src (y.buf.take fill), { y with buf := y.buf.drop fill })
  else if whole && !y.buf.isEmpty && !y.reqs.any (fun r => r.ser == y.ser) then some (beatOf src y.buf, { y with buf := [] })
  else none

/-- A request of a unit given its data. -/
def setData (x : Strm) (id : Nat) (l : List (Byte × Bool)) : Strm :=
  { x with reqs := x.reqs.map (fun r => if r.id = id ∧ r.data.isNone then { r with data := some l } else r) }

/-- A line moved is counted by unit and space (R159). -/
def bumpLine (c : Core) (u space : Nat) : Core := if u < 3 then bumpCore c (49 + 4 * u + space) 1 else c

/-- The slot and tag that a line of a unit belongs to. -/
def unitSlot (c : Core) (u ser : Nat) : Nat × Nat :=
  let x := strmAt c u
  if 3 ≤ u then (inOwner (inAt c (x.fetchEp.getD 0)), bits x.fetchMsg 87 72)
  else
    match entOf x ser with
    | none => (0, 0)
    | some e => (e.slot, sdTag e.d)

/-- A congestion mark that a response or a credit echoes to a unit waits to be acted on (R239, R240). -/
def noteEcho (c : Core) (unit mark : Nat) : Core := if mark = 0 then c else { c with echoes := c.echoes ++ [(unit, mark)] }

/-- A response packet handed to the unit that asked; one that nothing asked for is dropped and counted (R157). A refused line
has moved nothing (R159). -/
def takeAnswer (c0 : Core) (u : Nat) (p : Pkt) : Core × List Ev :=
  let x := strmAt c0 u
  match x.reqs.find? (fun r => r.id == p.reqId && r.data.isNone) with
  | none => (bumpCore c0 63 1, [])
  | some r =>
    let c := noteEcho c0 u p.cmark
    let l := if r.write then [] else (p.data.zip p.pois).map (fun b => (b.1, b.2 || p.poison))
    let c1 := putStrm c u { setData x r.id l with winMark := max x.winMark p.cmark }
    if p.refused = 0 then (bumpLine (if r.write then bumpStrm c1 u 0 else c1) u r.space, []) else lineRefused c1 u r.ser p.refused

/-- The oldest local request served: the sub-bank's read with its decoding, or the write (R130 to R133, R151). -/
def takeLocal (c : Core) (u : Nat) (ecc : List Ecc) : Core × List Ev :=
  let x := strmAt c u
  match x.reqs.find? (fun r => r.space == 0 && r.data.isNone) with
  | none => (if x.reqs.isEmpty then c else bumpStrm c u 3, [])
  | some r =>
    let t := unitSlot c u r.ser
    if r.write then
      let z := eccWrite c r.addr r.wdata ecc t.1 t.2
      (bumpStrm (bumpLine (putStrm z.1 u (setData (strmAt z.1 u) r.id [])) u 0) u 0, z.2)
    else
      let z := eccRead c r.addr r.len ecc t.1 t.2
      (bumpLine (putStrm z.2.1 u (setData (strmAt z.2.1 u) r.id z.1)) u 0, z.2.2)

/-- LINE_RETURN: a response that has arrived, else the oldest local request, is served; accepted writes leave, and a
descriptor with nothing outstanding ends (R147, R148, R150, R151). -/
def execLineReturn (core unit : Nat) (ecc : List Ecc) (s : State) : Host.Outcome State Fault Refusal :=
  runLive core (fun s c =>
    let mine (p : Pkt) : Bool := p.reqUnit == unit && (p.kind == 2 || p.kind == 3)
    let z := match c.arr.find? mine with
             | some p => takeAnswer { c with arr := c.arr.erase p } unit p
             | none => takeLocal c unit ecc
    let d := if unit = 2 then
               putStrm z.1 2 { strmAt z.1 2 with reqs := (strmAt z.1 2).reqs.filter (fun r => r.data.isNone) }
             else z.1
    (settle s d unit, z.2)) s

/-- A beat put into a port FIFO. -/
def pushFifo (c : Core) (p : Nat) (b : Beat) : Core :=
  match p with
  | 0 => { c with ma := c.ma ++ [b] }
  | 1 => { c with mb := c.mb ++ [b] }
  | 2 => { c with vx := c.vx ++ [b] }
  | _ => { c with vy := c.vy ++ [b] }

/-- The unit that delivers from a source to a port: a load streamer, or the port's fetch unit (R38, R220). -/
def unitOfSrc (port src : Nat) : Nat :=
  if src < 2 then src else if port = 4 then 6 else if 2 ≤ port then 5 else 3 + port

/-- A unit's beats are for a port. -/
def feeds (c : Core) (u port src : Nat) : Bool :=
  let x := strmAt c u
  if src < 2 then
    match x.q with
    | [] => false
    | e :: _ => e.begun && sdPort e.d == port
  else x.fetchEp == some (src - 2) && inPort (inAt c (src - 2)) == port

/-- A beat of a sampled firing in the log, but for LOCAL reads of W-class pages (R386, log 20). -/
def logArrive (c : Core) (u : Nat) (b : Beat) : Core :=
  let x := strmAt c u
  if 3 ≤ u then logBeat c (slotAt c (inOwner (inAt c (x.fetchEp.getD 0)))).firing (inPort (inAt c (x.fetchEp.getD 0))) b
  else
    match x.q with
    | [] => c
    | e :: _ => if logged c e then logBeat c e.firing (sdPort e.d) b else c

/-- A streamer descriptor fetched at SCMD: translated, checked and queued; poison executes nothing more of the message
and stops OWNER; an invalid one stops OWNER (R145, R151, R173, R174, R187). -/
def scmdBeat (s : State) (k : Nat) (c : Core) (e : Nat) (b : Beat) (y : Strm) : Core × List Ev :=
  let o := inOwner (inAt c e)
  let d : BitVec 512 := BitVec.ofNat 512 (leNat b.data)
  let pop := putStrm c 6 y
  let drop := putStrm c 6 { y with reqs := [], buf := [], genDone := true, faulted := true }
  let t := slotAt c o
  if b.poison then
    (stopSlot drop o evPoisonedOperand, [.fault evPoisonedOperand o e (bits y.fetchMsg 87 72) 0 0 0])
  else if !sdFormOk d then sdFault pop o (sdTag d)
  else
    match sdTranslate s k t d with
    | none => basinFault pop o (sdTag d) (bits (sdAddr d) 39 36)
    | some d' =>
      if !sdValid d then sdFault pop o (sdTag d)
      else
        let u := strmAt pop (sdUnit d)
        if 8 ≤ u.q.length then (bumpCore c 61 1, [])
        else
          (putStrm (logBeat pop t.firing 4 b) (sdUnit d)
            { u with q := u.q ++ [{ d := d', slot := o, firing := t.firing, mb := t.mb, step := t.step }] }, [])

/-- The next beat of a unit for a port: a fetched descriptor goes to its streamer's queue, any other beat into the port's FIFO of
16 beats (R38, R95, R147, R151, R173). -/
def beatArrive (s : State) (k : Nat) (c : Core) (port src : Nat) : Core × List Ev :=
  let u := unitOfSrc port src
  let x := strmAt c u
  if !feeds c u port src then (c, [])
  else
    match nextBeat c u with
    | none => (if x.reqs.isEmpty then c else bumpStrm c u (if sdDepth (headSd x) ≤ linesOut x then 2 else 3), [])
    | some (b, y) =>
      if port = 4 then
        let z := scmdBeat s k c (src - 2) b y
        (settle s z.1 6, z.2)
      else if 16 ≤ (fifoOf c port).length then (bumpStrm c u 1, [])
      else
        let c := logArrive (bumpStrm (pushFifo c port b) u 0) u b
        (settle s (putStrm c u { y with tainted := y.tainted || b.poison }) u, [])

/-- A load streamer's next beat is one that the log covers. -/
def loggedHead (c : Core) (u : Nat) : Bool :=
  match (strmAt c u).q with
  | [] => false
  | e :: _ => logged c e

/-- The next logged beat of a source for a port, in place of its source (R388): of a load streamer it stands for the beat that
the streamer's own lines make up, of an endpoint it comes as the endpoint delivered it. -/
def replayArrive (s : State) (k : Nat) (c : Core) (port src : Nat) (log : List (Nat × Beat)) : Core × List Ev :=
  let u := unitOfSrc port src
  if src < 2 ∧ loggedHead c u = false then beatArrive s k c port src
  else
    match replayBeat port src log with
    | none => (c, [])
    | some (b, rest) =>
      let d := { c with replay := some rest }
      if port = 4 then
        (if 8 ≤ (strmAt c (sdUnit (BitVec.ofNat 512 (leNat b.data)))).q.length then (bumpCore c 61 1, [])
         else scmdBeat s k d (src - 2) b (strmAt c 6))
      else if 16 ≤ (fifoOf c port).length then (c, [])
      else if 2 ≤ src then (pushFifo d port b, [])
      else if !feeds c u port src then (c, [])
      else
        match nextBeat c u with
        | none => (c, [])
        | some (_, y) => (settle s (putStrm (bumpStrm (pushFifo d port b) u 0) u y) u, [])

/-- OPERAND_BEAT_ARRIVE: the next beat of a source arrives at a port; the last one ends its descriptor (R38, R95, R147, R151,
R173). In a recomputation the beats that the log covers come from the log (R388). -/
def execOperandBeatArrive (core port src : Nat) (s : State) : Host.Outcome State Fault Refusal :=
  runLive core (fun s c =>
    match c.replay with
    | none => beatArrive s core c port src
    | some log => replayArrive s core c port src log) s

/-! ### Scratchpad traffic of its own (R130, R135, R402) -/

/-- CE_WRITE_BACK: the oldest corrected codeword is written back; the stored bytes are those delivered (R130). -/
def execCeWriteBack (core : Nat) (s : State) : Host.Outcome State Fault Refusal :=
  runCore core (fun _ c => ({ c with wbq := c.wbq.drop 1 }, [])) s

/-- The next line of the patrol, at or after a position, in a powered sub-bank (R135). -/
def nextScrub (c : Core) (from_ : Nat) : Option Nat :=
  let here := subBank from_
  let cand := (if c.bankOn.contains here then [from_] else []) ++
    ((List.range 48).map (fun i => (here + 1 + i) % 48)).filterMap (fun b =>
      if c.bankOn.contains b then some (b * 0x18000) else none)
  cand.head?

/-- At a W-class page's last line its hash is compared with the fill digest (R402, R403). -/
def pageCheck (c : Core) (a : Nat) (h : List Byte) : Core × List Ev :=
  let pg := a / 0x10000
  if isW c a && a % 0x10000 == 0xFFC0 && h.length == 0x10000 then
    if sha256 h = tabGet c.fillDigest pg 0 then
      ({ c with scrubBuf := [], pageCleanMb := tabSet c.pageCleanMb pg c.lastMb }, [.tst 13])
    else
      ({ c with scrubBuf := [] },
        [.tst 13, .tst 14, .post evWeightDigestFail noFld noFld noFld 0 0 0, .refill pg 0x10 (tabGet c.pageCleanMb pg 0), .suspect 1])
  else ({ c with scrubBuf := if isW c a then h else [] }, [])

/-- PATROL_SCRUB: the next line of the powered sub-banks is read, with its outcomes, and hashed when its page is W-class
(R130, R131, R135, R402). -/
def execPatrolScrub (core : Nat) (ecc : List Ecc) (s : State) : Host.Outcome State Fault Refusal :=
  runCore core (fun _ c =>
    match nextScrub c (c.scrubPos % spSize) with
    | none => (c, [])
    | some a =>
      let z := eccRead c a 64 ecc noFld noFld
      let c1 := bumpCore { z.2.1 with scrubPos := (a + 64) % spSize } 74 1
      let h := if a % 0x10000 = 0 then [] else c1.scrubBuf
      let y := if ecc.contains .ue then ({ c1 with scrubBuf := [] }, []) else pageCheck c1 a (h ++ z.1.map (·.1))
      (y.1, z.2.2 ++ y.2)) s

/-! ### The remote service port (R140, R141, R155) -/

/-- The access touches a CARRY page (R128). -/
def touchesCarry (c : Core) (a n : Nat) : Bool :=
  n != 0 && ((List.range ((a + n - 1) / 0x10000 - a / 0x10000 + 1)).any (fun i =>
    bits (pageEntry c (a + i * 0x10000)) 2 1 == 2))

/-- The core-local address of a SLOT access (R139, R137). -/
def svcAddr (c : Core) (p : Pkt) : Nat := localAddr c (bits p.addr 25 23) (bits p.addr 22 0)

/-- The target refuses the access (R141): its chunk or block is judged whole (R134, R138). -/
def svcRefused (c : Core) (p : Pkt) : Bool :=
  let w := windowOf c (bits p.addr 25 23)
  let ps := if p.whole.isEmpty then [(bits p.addr 22 0, p.len)] else p.whole
  c.held || !winRemote w || winSize w == 0 || ps.any (fun x => !winOk w (x.1 : Nat) x.2) ||
  (p.kind != 0 && ps.any (fun x => touchesW c (winBase w + x.1) x.2))

/-- Stored ESF-96 values added into memory, 16 bytes each: a foreign anchor adds nothing and sets POISON (R75, R76,
R285). The answer says whether an anchor differed. -/
def sumInto16 (old add : Nat) : Nat × Bool :=
  let a := esfUnpack old
  let b := esfUnpack add
  if a.anchor = b.anchor then (esfPack (esfAdd a b), false) else (esfPack { a with poison := true }, true)

/-- The values of a byte list, 16 bytes each. -/
def vals16 (n : Nat) (l : List Byte) : List Nat := (List.range n).map (fun i => leNat ((l.drop (16 * i)).take 16))

/-- The poison of each byte that a packet carries: its own marks, or the packet's mark for all (R148). -/
def poisOf (p : Pkt) : List Bool :=
  if p.pois.length = p.data.length then p.pois else List.replicate p.data.length p.poison

/-- The values that a SUM_INTO adds; one with a poisoned byte carries POISON (R75, R148; log 49). -/
def sumVals (p : Pkt) : List Nat :=
  (List.range (p.data.length / 16)).map (fun i =>
    let v := leNat ((p.data.drop (16 * i)).take 16)
    if ((poisOf p).drop (16 * i)).take 16 |>.any id then esfPack { esfUnpack v with poison := true } else v)

/-- Values added one after the other into memory from an address up, each read, added and written with no other access in
between, with the outcomes of their codewords in order: a value whose codewords hold the poison pattern or an uncorrectable
error is stored with the pattern. The answer says whether an anchor differed (R75, R76, R130 to R132, R238, R285). -/
def addValues (w : Nat) : List Nat → Core → Nat → List Ecc → Core × List Ev × Bool
  | [], c, _, _ => (c, [], false)
  | v :: l, c, a, ecc =>
    let n := (cwsOf c a 16).length
    let z := eccRead c a 16 (ecc.take n) w noFld
    let r := sumInto16 (leNat (z.1.map (·.1))) v
    let bad := z.1.any (·.2)
    let y := addValues w l (spWrite z.2.1 a ((leBytes 16 r.1).map (fun b => (b, bad)))) (a + 16) (ecc.drop n)
    (y.1, z.2.2 ++ y.2.1, r.2 || y.2.2)

/-- A SUM_INTO at a SLOT target: each 16-byte value is read, added and written; values with another anchor raise one event for
their packet, which is the model's choice (R76, R285, log 131). -/
def svcSum (c : Core) (a : Nat) (p : Pkt) (ecc : List Ecc) : Core × List Ev :=
  let w := bits p.addr 25 23
  let z := addValues w (sumVals p) c a ecc
  (z.1, z.2.1 ++ (if z.2.2 then [.fault evEsfAnchorMismatch w noFld noFld 0 0 0] else []))

/-- One SLOT-space access at its target (R136, R140, R141). -/
def serve (k : Nat) (c : Core) (p : Pkt) (ecc : List Ecc) : Core × List Ev :=
  let a := svcAddr c p
  let w := bits p.addr 25 23
  if svcRefused c p then (injAt (bumpCore c 71 1) k (refusePkt p evSpRemoteRefused), [])
  else if banksOn c a p.len = false then (injAt (bumpCore c 73 1) k (refusePkt p evSpBankOff), [])
  else
    let c := bumpCore c 70 1
    if p.kind = 0 then
      let z := eccRead c a p.len ecc w noFld
      (injAt z.2.1 k (answerTo p z.1 false 0), z.2.2)
    else if p.kind = 8 then
      let z := svcSum c a p ecc
      (injAt z.1 k (answerTo p [] false 0), z.2)
    else
      let z := eccWrite c a (p.data.zip (poisOf p)) ecc w noFld
      (injAt z.1 k (answerTo p [] false 0), z.2)

/-- The access must wait for the CARRY copy of a station that moves in (R155). -/
def svcHeld (c : Core) (p : Pkt) : Bool := c.holding && !svcRefused c p && touchesCarry c (svcAddr c p) p.len

/-- REMOTE_ACCESS: the remote service port serves, holds or refuses the first access that need not wait (R140, R141,
R155). -/
def execRemoteAccess (core : Nat) (ecc : List Ecc) (s : State) : Host.Outcome State Fault Refusal :=
  runCore core (fun _ c =>
    match c.svc.find? (fun p => !svcHeld c p) with
    | none => (c, [])
    | some p => serve core { c with svc := c.svc.erase p } p ecc) s

/-! ### Clearing (R156) -/

/-- A core with everything that its stations left cleared: scratchpad zero, tiles, tables, queues, lane state, endpoints
and slots empty; its counters, its state and its place in the grid stay, and request numbers go on, so that a late response
is told from a new one (R153, R156, R157). -/
def clearedCore (c : Core) : Core :=
  { st := c.st, slot := none, held := false, suspect := c.suspect, lastPass := c.lastPass, lastPrio := c.lastPrio,
    lastMb := c.lastMb, window := c.window, ran := c.ran, reserved := false,
    ctr := c.ctr, shadowCtr := c.shadowCtr, chCtr := c.chCtr, chShadow := c.chShadow, misdeliver := c.misdeliver,
    cmarkHalve := c.cmarkHalve, strm := c.strm.map (fun u => (u.1, { nextId := u.2.nextId })), inj := c.inj.filter (fun p => p.kind == 2 || p.kind == 3 || decide (16 ≤ p.reqUnit)) }

/-- CORE_CLEAR: the supervisor clears a HELD core and it leaves HELD; a core that a basin reset holds is cleared only after its
dump (R156, R421). -/
def execCoreClear (core : Nat) (s : State) : Host.Outcome State Fault Refusal :=
  runCore core (fun s c =>
    if c.held && !(basinAt s (basinOf core)).resetting then (clearedCore c, []) else (c, [])) s

end Sys2Proof.Machine
end

