-- ==== Sys2Proof/Machine/Float.lean ====
section
/-! DEFINITION. Arithmetic of the vector lanes: exact sums and products of element values, their rounding to a lane type
(R107, R108), comparisons, shifts, and the table evaluation of R111 and R112. -/

namespace Sys2Proof.Machine

/-! ### Exact values -/

/-- An exact dyadic number i × 2^e as a value. -/
def dyFp (i e : Int) (zeroNeg : Bool) : Fp :=
  if i = 0 then .fin zeroNeg 0 0 else .fin (decide (i < 0)) i.natAbs e

/-- The signed mantissa of a finite value. -/
def sgnM (neg : Bool) (m : Nat) : Int := if neg then -(m : Int) else m

/-- The exact sum of two finite values on a common exponent. -/
def dySum (a ea b eb : Int) : Int × Int :=
  let e := min ea eb
  (a * 2 ^ (ea - e).toNat + b * 2 ^ (eb - e).toNat, e)

/-- The exact sum (R108): an exact zero sum is +0 unless both are negative zeros; infinities of unlike sign give NaN. -/
def fpAdd : Fp → Fp → Fp
  | .nan, _ => .nan
  | _, .nan => .nan
  | .inf a, .inf b => if a = b then .inf a else .nan
  | .inf a, .fin _ _ _ => .inf a
  | .fin _ _ _, .inf b => .inf b
  | .fin na ma ea, .fin nb mb eb =>
    let r := dySum (sgnM na ma) ea (sgnM nb mb) eb
    dyFp r.1 r.2 (na && nb && ma == 0 && mb == 0)

/-- The exact product (R108). -/
def fpMul : Fp → Fp → Fp
  | .nan, _ => .nan
  | _, .nan => .nan
  | .inf a, .inf b => .inf (a != b)
  | .inf a, .fin b m _ => if m = 0 then .nan else .inf (a != b)
  | .fin a m _, .inf b => if m = 0 then .nan else .inf (a != b)
  | .fin na ma ea, .fin nb mb eb => .fin (na != nb) (ma * mb) (ea + eb)

/-- The value with its sign changed. -/
def fpNeg : Fp → Fp
  | .nan => .nan
  | .inf a => .inf (!a)
  | .fin n m e => .fin (!n) m e

/-- The value times 2^k. -/
def fpScale (v : Fp) (k : Int) : Fp :=
  match v with
  | .nan => .nan
  | .inf a => .inf a
  | .fin n m e => .fin n m (e + k)

/-- v × b + z, exact (R106: one rounding follows). -/
def fpFma (v b z : Fp) : Fp := fpAdd (fpMul v b) z

/-- The bits of a value in a lane type, rounded once; every NaN is the canonical one (R108). -/
def fpBits (f : Fmt) : Fp → Nat
  | .nan => f.nanBits
  | .inf n => withSign f n (2 ^ (f.width - 1) - 2 ^ f.mbits)
  | .fin n m e => roundFp f n m e

/-! ### Lane types (R104, R106) -/

/-- The lane type of TYPE and RED_TYPE: INT32, FP32, BF16, FP16 (R99, R104). -/
def laneFmt : Nat → Fmt
  | 0 => .int32
  | 1 => .fp32
  | 2 => .bf16
  | _ => .fp16

/-- The value that a lane holds under a type (R104: 16-bit types in lane [15:0]). -/
def laneVal (f : Fmt) (v : W32) : Fp := decodeFp f (v.toNat % 2 ^ f.width)

/-- An integer saturated to 32 bits, and whether it saturated (R107). -/
def sat32 (i : Int) : W32 × Bool :=
  if i < -(2 ^ 31) then (BitVec.ofInt 32 (-(2 ^ 31)), true)
  else if 2 ^ 31 - 1 < i then (BitVec.ofInt 32 (2 ^ 31 - 1), true)
  else (BitVec.ofInt 32 i, false)

/-- v / 2^B rounded to nearest, ties to even (SHRN of R106). -/
def shrn (v : Int) (b : Nat) : Int :=
  let q := v / 2 ^ b
  let r := v % 2 ^ b
  if 2 ^ b < 2 * r ∨ (2 * r = 2 ^ b ∧ q % 2 = 1) then q + 1 else q

/-- A rank that orders the values of a type: signed integers, or −∞ < … < −0 < +0 < … < +∞ (R117). -/
def orderKey (f : Fmt) (v : Nat) : Int :=
  if f.isInt then signedOf f.width v
  else if bitAt v (f.width - 1) then -((v % 2 ^ (f.width - 1) : Nat) : Int) - 1 else ((v % 2 ^ (f.width - 1) : Nat) : Int)

/-- v COND B (R104, R108): −0 equals +0, and with a NaN only NE holds. -/
def condHolds (f : Fmt) (cond : Nat) (v b : W32) : Bool :=
  let x := laneVal f v
  let y := laneVal f b
  let zero : Fp → Bool := fun
    | .fin _ m _ => m == 0
    | .inf _ => false
    | .nan => false
  let key (w : W32) (q : Fp) : Int := if zero q then 0 else orderKey f (w.toNat % 2 ^ f.width) + (if f.isInt then 0 else 1)
  let kx := if zero x then (0 : Int) else key v x
  let ky := if zero y then (0 : Int) else key b y
  if x = .nan ∨ y = .nan then cond == 1
  else
    match cond with
    | 0 => decide (kx = ky)
    | 1 => decide (kx ≠ ky)
    | 2 => decide (kx < ky)
    | 3 => decide (kx ≤ ky)
    | 4 => decide (ky < kx)
    | 5 => decide (ky ≤ kx)
    | _ => false

/-- The result of an arithmetic or logic operation of R106 on one lane, and whether it saturated (R107). The bits above a 16-bit
result are zero, as "Conversions" has them for a CVT: the model's choice (log 135). -/
def laneOp (op ty : Nat) (v b z : W32) : W32 × Bool :=
  let f := laneFmt ty
  let fl (q : Fp) : W32 × Bool := (BitVec.ofNat 32 (fpBits f q), false)
  let x := laneVal f v
  let y := laneVal f b
  match op with
  | 0x01 => if ty = 0 then sat32 (v.toInt + b.toInt) else fl (fpAdd x y)
  | 0x02 => if ty = 0 then sat32 (v.toInt - b.toInt) else fl (fpAdd x (fpNeg y))
  | 0x03 => if ty = 0 then sat32 (v.toInt * b.toInt) else fl (fpMul x y)
  | 0x04 => if ty = 0 then sat32 (v.toInt * b.toInt + z.toInt) else fl (fpFma x y (laneVal f z))
  | 0x05 => (b, false)
  | 0x08 => (if 32 ≤ b.toNat then 0 else v <<< b.toNat, false)
  | 0x09 => (if 32 ≤ b.toNat then 0 else v >>> b.toNat, false)
  | 0x0A => (if 32 ≤ b.toNat then (if v.toInt < 0 then BitVec.ofInt 32 (-1) else 0) else BitVec.ofInt 32 (v.toInt / 2 ^ b.toNat), false)
  | 0x0B => (if 32 ≤ b.toNat then 0 else BitVec.ofInt 32 (shrn v.toInt b.toNat), false)
  | 0x0C => (v &&& b, false)
  | 0x0D => (v ||| b, false)
  | 0x0E => (v ^^^ b, false)
  | 0x0F => (~~~v, false)
  | _ => (v, false)

/-! ### Conversions (R109) -/

/-- The widening pairs of R109. -/
def widening (src dst : Fmt) : Bool :=
  match src, dst with
  | .int8, .int32 | .int8, .fp32 | .int8, .bf16 | .int8, .fp16 => true
  | .e4m3, .fp32 | .e4m3, .bf16 | .e4m3, .fp16 => true
  | .e5m2, .fp32 | .e5m2, .bf16 | .e5m2, .fp16 => true
  | .bf16, .fp32 | .fp16, .fp32 => true
  | _, _ => false

/-- The lane that a result of a format becomes: INT8 sign-extended, others zero-extended (R109). -/
def toLane (f : Fmt) (b : Nat) : W32 :=
  match f with
  | .int8 => BitVec.ofInt 32 (signedOf 8 b)
  | .e4m3 | .e5m2 | .bf16 | .fp16 | .int32 | .fp32 | .int4 | .e2m1 => BitVec.ofNat 32 b

/-- An exact widening of a lane (R109). -/
def widen (src dst : Fmt) (v : W32) : W32 :=
  if dst.isInt then toLane dst (wrapInt 32 (signedOf src.width v.toNat))
  else toLane dst (fpBits dst (laneVal src v))

/-- A narrowing of a value that is not ESF-96 (R109, R80, R81, R88). -/
def narrowVal (src dst : Fmt) (v : W32) (sd : Int) (u : Option Nat) (poison : Bool) : Narrowed :=
  match laneVal src v with
  | .nan => { bits := dst.nanBits, poison := poison, satNarrow := 0, satEsf := 0, invalid := 1, amax := none }
  | .inf n => { bits := satBits dst n, poison := poison, satNarrow := 1, satEsf := 0, invalid := 0, amax := none }
  | .fin n m e =>
    let r := narrowFin dst n m (e - sd) u
    { bits := r.1, poison := poison, satNarrow := b2n r.2, satEsf := 0, invalid := 0,
      amax := if m = 0 ∨ poison then none else some ((ilog2 m : Int) + e) }

/-! ### Lookup tables (R111, R112) -/

def lutMode (t : List Byte) : Nat := (t.getD 0 0).toNat % 4
def lutSign (t : List Byte) : Nat := bits (t.getD 0 0).toNat 3 2
def lutP (t : List Byte) : Nat := bits (t.getD 0 0).toNat 4 4
def lutMb (t : List Byte) : Nat := (t.getD 1 0).toNat
def lutK (t : List Byte) : Int := signedOf 8 (t.getD 2 0).toNat
def lutW (t : List Byte) : Int := signedOf 8 (t.getD 3 0).toNat
def lutEBase (t : List Byte) : Int := signedOf 8 (t.getD 4 0).toNat
/-- An FP32 number in a table image. -/
def lutF32 (t : List Byte) (o : Nat) : Nat := leNat ((t.drop o).take 4)
/-- Coefficient `j` of segment `i` (R111). -/
def lutCoef (t : List Byte) (i j : Nat) : Fp := decodeFp .fp32 (lutF32 t (32 + 12 * i + 4 * j))

/-- The header holds a reserved value (R111). -/
def lutInvalid (t : List Byte) : Bool :=
  bits (t.getD 0 0).toNat 7 5 != 0 || lutMode t == 3 ||
  ((t.drop 5).take 3).any (· != 0) || ((t.drop 20).take 12).any (· != 0) ||
  (lutMode t == 1 && (lutSign t == 3 || decide (8 < lutMb t) || decide (256 < (lutP t + 1) * 2 ^ lutMb t) ||
     decide (lutK t < -1) || decide (1 < lutK t))) ||
  (lutMode t == 0 &&
    (match decodeFp .fp32 (lutF32 t 8) with
     | .nan => true
     | .inf _ => true
     | .fin _ _ _ => false))

/-- FP32 rounding of an exact value, as a value again. -/
def r32 (v : Fp) : Fp := decodeFp .fp32 (fpBits .fp32 v)

/-- The quadratic of a segment at an exact offset d = i × 2^e: t1, then y0 (R112). -/
def lutQuad (t : List Byte) (seg : Nat) (d : Fp) : Fp :=
  r32 (fpFma d (r32 (fpFma d (lutCoef t seg 2) (lutCoef t seg 1))) (lutCoef t seg 0))

/-- ⌊i × 2^e⌋. -/
def dyFloor (i e : Int) : Int := if 0 ≤ e then i * 2 ^ e.toNat else i / 2 ^ (-e).toNat

/-- The table evaluation of one lane: FP32 bits and whether a clamp changed the input (R112). -/
def lutEval (t : List Byte) (v : W32) : W32 × Bool :=
  let out (q : Fp) (cl : Bool) : W32 × Bool := (BitVec.ofNat 32 (fpBits .fp32 q), cl)
  match decodeFp .fp32 v.toNat with
  | .nan => out .nan false
  | x =>
    match lutMode t with
    | 0 =>
      -- LINEAR: y = (x - X_LO) / 2^W between 0 and 256
      match decodeFp .fp32 (lutF32 t 8) with
      | .fin nl ml el =>
        let y : (Int × Int) × Bool :=
          match x with
          | .inf neg => (if neg then (0, 0) else (256, 0), true)
          | .nan => ((0, 0), false)
          | .fin nx mx ex =>
            let r := dySum (sgnM nx mx) ex (-(sgnM nl ml)) el
            let r := (r.1, r.2 - lutW t)
            if r.1 < 0 then ((0, 0), true)
            else
              let c := dySum r.1 r.2 (-256) 0
              if 0 < c.1 then ((256, 0), true) else (r, false)
        let i := min 255 (dyFloor y.1.1 y.1.2)
        let d := dySum y.1.1 y.1.2 (-i) 0
        out (lutQuad t i.toNat (dyFp d.1 d.2 false)) y.2
      | .inf _ => out .nan false
      | .nan => out .nan false
    | 1 =>
      match x with
      | .nan => out .nan false
      | .inf neg =>
        if neg ∧ lutSign t = 0 then out .nan false else lutFloat t neg (2 ^ 24 - 1) 104 true
      | .fin neg m e =>
        if m = 0 then (BitVec.ofNat 32 (lutF32 t 16), false)
        else if neg ∧ lutSign t = 0 then out .nan false
        else lutFloat t neg m e false
    | _ =>
      -- EXP2: x between -160 and 128
      let y : (Int × Int) × Bool :=
        match x with
        | .inf neg => (if neg then (-160, 0) else (128, 0), true)
        | .nan => ((0, 0), false)
        | .fin nx mx ex =>
          let lo := dySum (sgnM nx mx) ex 160 0
          let hi := dySum (sgnM nx mx) ex (-128) 0
          if lo.1 < 0 then ((-160, 0), true) else if 0 < hi.1 then ((128, 0), true) else ((sgnM nx mx, ex), false)
      let n := dyFloor y.1.1 y.1.2
      let f := dySum y.1.1 y.1.2 (-n) 0
      let i := dyFloor f.1 (f.2 + 8)
      let d := dySum f.1 (f.2 + 8) (-i) 0
      out (fpScale (lutQuad t i.toNat (dyFp d.1 d.2 false)) n) y.2
where
  /-- FLOAT: the segment of |x| = m × 2^e, the scaled quadratic and the exponent term (R112). -/
  lutFloat (t : List Byte) (neg : Bool) (m : Nat) (e : Int) (cl : Bool) : W32 × Bool :=
    let l := ilog2 m
    let e1 := (l : Int) + e - lutEBase t
    let per : Int := lutP t + 1
    let q := e1 / per
    let r := e1 - per * q
    -- f = m / 2^l - 1, exact
    let fM : Int := (m : Int) - 2 ^ l
    let j := dyFloor fM ((lutMb t : Int) - l)
    let d := dySum fM ((lutMb t : Int) - l) (-j) 0
    let i := r * 2 ^ lutMb t + j
    let y0 := lutQuad t i.toNat (dyFp d.1 d.2 false)
    let y1 := r32 (fpScale y0 (lutK t * q))
    let y := r32 (fpFma (decodeFp .fp32 (lutF32 t 12)) (dyFp q 0 false) y1)
    (BitVec.ofNat 32 (fpBits .fp32 (if lutSign t = 1 ∧ neg then fpNeg y else y)), cl)

end Sys2Proof.Machine
end

