-- ==== Sys2Proof/Machine/Matrix.lean ====
section
/-! DEFINITION. The matrix engine (R37 to R70, R506): start, shadow set, products, drains. Products land as they issue;
cycle figures are timing (log 10). -/

namespace Sys2Proof.Machine

/-! ### Tiles and faults -/

/-- An accumulator tile of a core. -/
def tileAt (c : Core) (i : Nat) : Tile := tabGet c.tiles i {}
/-- A tile replaced. -/
def putTile (c : Core) (i : Nat) (t : Tile) : Core := { c with tiles := tabSet c.tiles i t }

/-- A cleared tile: accumulators zero, flags clear, the anchor given (R44, R55, R56). -/
def clearedTile (t : Tile) (anchor : Nat) : Tile := { t with anchor := anchor, poisonAll := false, acc := [] }

/-- Accumulator (r, c) of a tile (R55). -/
def accAt (t : Tile) (r c : Nat) : Acc := tabGet t.acc (48 * r + c) {}

/-- Beats loaded for a command that does not take them go back to the front of MB (R39; log 44). -/
def giveBack (c : Core) (w : List Beat) : Core := { c with mb := w ++ c.shadow ++ c.mb, shadow := [], weights := [] }

/-- A command discarded under R43, R56 or R61 before it has issued: counted, its event with the TAG, its slot stopped, a
layout fault. It has taken no beat. -/
def mxDiscard (c : Core) (e : MxEnt) (code : Nat) : Core × List Ev :=
  (loseFiring (stopSlot (bumpCore (giveBack { c with mxRun := none } c.weights) 13 1) e.slot code) e.slot e.firing,
    [.fault code e.slot noFld (mxTag e.cmd) 0 0 0])

/-- The check of a command when its turn comes: form, tile owner, and the anchor of an MMA with CLEAR 0 (R61, R43, R56).
The order is the model's choice, and the first that fails is the one event (log 127). -/
def mxFault (c : Core) (e : MxEnt) : Option Nat :=
  if !mxValid e.cmd then some evMatrixCmdInvalid
  else if mxOpc e.cmd = 0 then none
  else if (tileAt c (mxTile e.cmd)).owner ≠ some e.slot then some evMatrixTileFault
  else if mxOpc e.cmd = 1 ∧ mxClearBit e.cmd = false ∧ mxAnchor e.cmd ≠ (tileAt c (mxTile e.cmd)).anchor then
    some evMatrixAnchorMismatch
  else none

/-- An entry of the tensor scale table in the bank of a step; entry 0 reads 0 (R51, R86). -/
def scaleEntry (c : Core) (step e : Nat) : Int := if e = 0 then 0 else tabGet c.scaleTab (256 * (step % 2) + e) 0

/-- The pair of a valid MMA; a full-class one otherwise. -/
def mxPair (cmd : BitVec 256) : Pair := (pairOf (mxFmt cmd)).getD ⟨.e4m3, .e4m3, .full, true⟩

/-- A command is complete: MX_DONE of its slot and CORE_MX_CMDS advance (R44, R70). -/
def mxComplete (s : State) (c : Core) (e : MxEnt) : Core :=
  { bumpCore (bumpDone c e.slot 0) 7 1 with lastProgress := s.sup.ticks }

/-! ### Port FIFOs and the shadow set (R39, R54) -/

/-- Beats of a FIFO from one source, and the rest (R39). -/
def takeFrom (src n : Nat) : List Beat → List Beat × List Beat
  | [] => ([], [])
  | b :: l =>
    let r := takeFrom src (if b.src = src then n - 1 else n) l
    if b.src = src ∧ n ≠ 0 then (b :: r.1, r.2) else (r.1, b :: r.2)

/-- How many beats of a FIFO come from a source. -/
def countFrom (src : Nat) (l : List Beat) : Nat := (l.filter (fun b => b.src == src)).length

/-- A WS multiplication that takes B tiles. -/
def isWs (cmd : BitVec 256) : Bool := mxOpc cmd == 1 && mxMode cmd == 0 && mxK cmd != 0

/-- B tiles a running WS command has not yet swapped in. -/
def tilesLeft (r : MxRun) : Nat := if isWs r.ent.cmd then mxK r.ent.cmd - r.kDone - b2n r.loaded else 0

/-- The command whose B tile may load into the shadow set: the running one while it has tiles to swap in; else the head
of the queue, once the running command has swapped in its last tile or is an OUTER command on another B source (R54). -/
def shadowFor (c : Core) : Option (BitVec 256) :=
  match c.mxRun with
  | some r =>
    if tilesLeft r ≠ 0 then some r.ent.cmd
    else
      match c.mxq with
      | [] => none
      | e :: _ =>
        if isWs e.cmd && mxValid e.cmd &&
           (mxMode r.ent.cmd == 0 || mxOpc r.ent.cmd != 1 || mxSrcB e.cmd != mxSrcB r.ent.cmd) then some e.cmd
        else none
  | none =>
    match c.mxq with
    | [] => none
    | e :: _ => if isWs e.cmd && mxValid e.cmd then some e.cmd else none

/-- Beats at MB move into the shadow set as far as it has room (R54). -/
def fillShadow (c : Core) : Core :=
  match shadowFor c with
  | none => c
  | some cmd =>
    let r := takeFrom (mxSrcB cmd) (bTileBeats (mxPair cmd) - c.shadow.length) c.mb
    { c with shadow := c.shadow ++ r.1, mb := r.2 }

/-! ### Start (R42, R51, R64, R65) -/

/-- A load streamer is idle: nothing queued, nothing in progress, no beat in flight (R65). -/
def strmIdle (u : Strm) : Bool := !u.active && u.q.isEmpty && u.buf.isEmpty && u.reqs.isEmpty

/-- The next row or step of a multiplication lacks a B beat: of its tile where none is loaded (WS), or of the step (OUTER)
(R46, R53, R60). -/
def lacksB (c : Core) (cmd : BitVec 256) (kDone : Nat) (loaded : Bool) : Bool :=
  decide (kDone < mxK cmd) &&
  (if mxMode cmd = 0 then
     !loaded && decide (countFrom (mxSrcB cmd) c.mb + c.shadow.length < bTileBeats (mxPair cmd))
   else countFrom (mxSrcB cmd) c.mb == 0)

/-- The next row or step of a multiplication lacks an A beat; a WS row needs one only once its tile is loaded
(R46, R53, R60). -/
def lacksA (c : Core) (cmd : BitVec 256) (kDone rows : Nat) (loaded : Bool) : Bool :=
  decide (kDone < mxK cmd) &&
  (if mxMode cmd = 0 then
     loaded && decide (rows < mxM cmd) && decide (countFrom (mxSrcA cmd) c.ma < (mxPair cmd).rate.aBeats)
   else countFrom (mxSrcA cmd) c.ma == 0)

/-- MATRIX_UNDERRUN: the command needs a beat from a load streamer that is idle with nothing for the port (R65). -/
def mxUnderrun (c : Core) (cmd : BitVec 256) (kDone rows : Nat) (loaded : Bool) : Bool :=
  mxOpc cmd == 1 && mxValid cmd &&
  ((decide (mxSrcA cmd ≤ 1) && lacksA c cmd kDone rows loaded && strmIdle (strmAt c (mxSrcA cmd))) ||
   (decide (mxSrcB cmd ≤ 1) && lacksB c cmd kDone loaded && strmIdle (strmAt c (mxSrcB cmd))))

/-- The slot of an underrun stops and its command is discarded (R65, R62). -/
def mxStopUnder (c : Core) (e : MxEnt) : Core × List Ev :=
  (loseFiring (stopSlot (giveBack c []) e.slot evMatrixUnderrun) e.slot e.firing,
    [.fault evMatrixUnderrun e.slot noFld (mxTag e.cmd) 0 0 0])

/-- A drain of the tile is pending or running (R64). -/
def tileDraining (c : Core) (t : Nat) : Bool := c.drains.any (fun d => mxTile d.ent.cmd == t)

/-- The head command must wait: an MMA or CLEAR for a drain of its tile, a DRAIN for the drain unit (R64). -/
def mxHazard (c : Core) (cmd : BitVec 256) : Bool :=
  ((mxOpc cmd == 1 || mxOpc cmd == 3) && tileDraining c (mxTile cmd)) || (mxOpc cmd == 2 && !c.drains.isEmpty)

/-- MX_CMD_START: the head command starts once the command ahead has issued and no hazard stands; its three scale
entries are latched. A head that a hazard holds counts in WAIT_DRAIN, an engine without a command in IDLE (R69, log 105). A
reserved OPC is discarded here (R42, R51, R61, R64, R65). -/
def execMxCmdStart (core : Nat) (s : State) : Host.Outcome State Fault Refusal :=
  runLive core (fun _ c =>
    match c.mxRun with
    | some r =>
      if mxUnderrun c r.ent.cmd r.kDone r.rows r.loaded then mxStopUnder { c with mxRun := none } r.ent else (c, [])
    | none =>
      match c.mxq with
      | [] => (bumpCore c 5 1, [])
      | e :: rest =>
        if 3 < mxOpc e.cmd then mxDiscard { c with mxq := rest } e evMatrixCmdInvalid
        else if mxHazard c e.cmd then (bumpCore c 1 1, [])
        else if (mxFault c e).isNone && mxUnderrun c e.cmd 0 0 false then mxStopUnder { c with mxq := rest } e
        else
          let r : MxRun :=
            { ent := e, sa := scaleEntry c e.step (mxAScale e.cmd), sb := scaleEntry c e.step (mxBScale e.cmd),
              sd := scaleEntry c e.step (mxDScale e.cmd), kDone := 0, rows := 0, loaded := false, poison := false,
              told := false, cleared := false }
          (fillShadow { c with mxq := rest, mxRun := some r }, [])) s

/-- MX_SHADOW_SWAP: the next B tile swaps in once its last beat has arrived and the rows of the tile ahead have issued
(R54). -/
def execMxShadowSwap (core : Nat) (s : State) : Host.Outcome State Fault Refusal :=
  runLive core (fun _ c =>
    match c.mxRun with
    | none => (c, [])
    | some r =>
      let n := bTileBeats (mxPair r.ent.cmd)
      let c := fillShadow c
      if isWs r.ent.cmd && mxValid r.ent.cmd && !r.loaded && tilesLeft r != 0 && decide (n ≤ c.shadow.length) then
        (fillShadow { c with weights := c.shadow.take n, shadow := c.shadow.drop n,
                             mxRun := some { r with loaded := true, rows := 0,
                                                    poison := r.poison || (c.shadow.take n).any (·.poison) } }, [])
      else (c, [])) s

/-! ### Products (R46, R47, R52, R74, R75) -/

/-- Products summed into one accumulator, and how many were invalid (R49). -/
def macInto (a : Acc) (inv : Nat) (ps : List Esf) : Acc × Nat :=
  ps.foldl (fun z p => (accAdd z.1 p, z.2 + b2n p.invalid)) (a, inv)

/-- The products of one A row of a WS command, columns below N (R46, R47). -/
def wsRow (r : MxRun) (w : List Beat) (row : Nat) (beats : List Beat) (z : Tile × Nat) : Tile × Nat :=
  let p := mxPair r.ent.cmd
  (List.range (mxN r.ent.cmd)).foldl (fun z n =>
    let ps := (List.range p.rate.kWs).map (fun k =>
      productEsf (aElemWs p beats k) (bElemWs p w k n) r.sa r.sb z.1.anchor)
    let q := macInto (accAt z.1 row n) z.2 ps
    ({ z.1 with acc := tabSet z.1.acc (48 * row + n) q.1 }, q.2)) z

/-- The products of one OUTER step: rows below M, columns below N (R46, R47). -/
def outerStep (r : MxRun) (a b : Beat) (z : Tile × Nat) : Tile × Nat :=
  let p := mxPair r.ent.cmd
  (List.range (mxM r.ent.cmd)).foldl (fun z m =>
    (List.range (mxN r.ent.cmd)).foldl (fun z n =>
      let ps := (List.range p.rate.kOuter).map (fun j =>
        productEsf (elemOuter p.a p.rate a j m) (elemOuter p.b p.rate b j n) r.sa r.sb z.1.anchor)
      let q := macInto (accAt z.1 m n) z.2 ps
      ({ z.1 with acc := tabSet z.1.acc (48 * m + n) q.1 }, q.2)) z) z

/-- Rows of a WS command issued, one for each group of A beats (R53). -/
def wsRows (r : MxRun) (w : List Beat) : Nat → Nat → List Beat → Tile × Nat → Tile × Nat
  | 0, _, _, z => z
  | n + 1, row, beats, z =>
    let k := (mxPair r.ent.cmd).rate.aBeats
    wsRows r w n (row + 1) (beats.drop k) (wsRow r w row (beats.take k) z)

/-- Steps of an OUTER command issued, one beat of each operand each (R53). -/
def outerSteps (r : MxRun) : List Beat → List Beat → Tile × Nat → Tile × Nat
  | a :: la, b :: lb, z => outerSteps r la lb (outerStep r a b z)
  | _, _, z => z

/-- A poisoned beat taken: every accumulator of the tile, once counted and once raised for the command (R66). -/
def mxPoison (c : Core) (r : MxRun) (now : Bool) : Core × List Ev :=
  if now then
    (putTile (bumpCore c 11 1) (mxTile r.ent.cmd) { tileAt c (mxTile r.ent.cmd) with poisonAll := true },
      [.post evPoisonedOperand r.ent.slot noFld (mxTag r.ent.cmd) 0 0 0])
  else (c, [])

/-- A parity error of the weight registers or the accumulator file: the tile is poisoned, the core suspect (R67). -/
def mxParity (c : Core) (tile slot tag : Nat) (bad : Bool) : Core × List Ev :=
  if bad then
    (putTile (bumpCore c 12 1) tile { tileAt c tile with poisonAll := true },
      [.post evMxParity slot noFld tag 0 0 0, .suspect 1])
  else (c, [])

/-- The issued command leaves the array: its drain waits for the drain unit, or it is complete (R42, R57). -/
def mxIssued (s : State) (c : Core) (r : MxRun) : Core :=
  let c := { c with mxRun := none, weights := [] }
  fillShadow (if mxDrainBit r.ent.cmd then { c with drains := c.drains ++ [{ ent := r.ent, sd := r.sd, row := 0, running := false }] }
              else mxComplete s c r.ent)

/-- A multiplication of which no row or step can issue counts in WAIT_B, or else in WAIT_A (R69, log 105). -/
def mmaWait (c : Core) (r : MxRun) : Core :=
  if lacksB c r.ent.cmd r.kDone r.loaded || (mxMode r.ent.cmd == 0 && !r.loaded) then bumpCore c 2 1
  else if lacksA c r.ent.cmd r.kDone r.rows r.loaded then bumpCore c 3 1
  else c

/-- The rows or steps that the beats at the ports allow: tile, counters, FIFOs, and what is left of the command
(R46, R47, R60, R69). -/
def mmaRun (s : State) (c0 : Core) (r : MxRun) : Core × List Ev :=
  let c := if mxK r.ent.cmd = 0 then c0 else mmaWait c0 r
  let cmd := r.ent.cmd
  let p := mxPair cmd
  let ti := mxTile cmd
  if mxK cmd = 0 then (mxIssued s c r, [])
  else if mxMode cmd = 0 then
    if r.loaded = false then (putTile { c with mxRun := some r } ti (tileAt c ti), [])
    else
      let n := min (mxM cmd - r.rows) (countFrom (mxSrcA cmd) c.ma / p.rate.aBeats)
      let b := takeFrom (mxSrcA cmd) (n * p.rate.aBeats) c.ma
      let z := wsRows r c.weights n r.rows b.1 (tileAt c ti, 0)
      let rows := r.rows + n
      let c := { putTile c ti z.1 with ma := b.2 }
      let c := bumpCore (bumpCore (bumpCore c 0 (n * p.rate.aBeats)) 6 (n * mxN cmd * p.rate.kWs)) 10 z.2
      let bad := b.1.any (·.poison)
      let pz := mxPoison c r (bad && !r.told)
      let r := { r with rows := rows, poison := r.poison || bad, told := r.told || bad }
      if rows < mxM cmd then ({ pz.1 with mxRun := some r }, pz.2)
      else if r.kDone + 1 < mxK cmd then
        (fillShadow { pz.1 with mxRun := some { r with kDone := r.kDone + 1, rows := 0, loaded := false }, weights := [] }, pz.2)
      else (mxIssued s pz.1 r, pz.2)
  else
    let n := min (mxK cmd - r.kDone) (min (countFrom (mxSrcA cmd) c.ma) (countFrom (mxSrcB cmd) c.mb))
    let a := takeFrom (mxSrcA cmd) n c.ma
    let b := takeFrom (mxSrcB cmd) n c.mb
    let z := outerSteps r a.1 b.1 (tileAt c ti, 0)
    let bad := a.1.any (·.poison) || b.1.any (·.poison)
    let c := { putTile c ti z.1 with ma := a.2, mb := b.2 }
    let c := bumpCore (bumpCore (bumpCore c 0 n) 6 (n * mxM cmd * mxN cmd * p.rate.kOuter)) 10 z.2
    let pz := mxPoison c r (bad && !r.told)
    let r := { r with kDone := r.kDone + n, poison := r.poison || bad, told := r.told || bad }
    if r.kDone < mxK cmd then ({ pz.1 with mxRun := some r }, pz.2) else (mxIssued s pz.1 r, pz.2)

/-- A matrix command binds MA and MB. The endpoint that it names for either, if any (R173). -/
def mxNames (cmd : BitVec 256) (p : Nat) : Option Nat :=
  if mxOpc cmd ≠ 1 then none
  else if p = 0 then (if mxASrc cmd = 2 then some (mxAEp cmd) else none)
  else (if mxBSrc cmd = 2 then some (mxBEp cmd) else none)

/-- An endpoint named for a port that is not its PORT (R173). -/
def misport (c : Core) (p : Nat) (ep : Option Nat) : Option Nat := ep.filter (fun e => inPort (inAt c e) != p)

/-- CH_PORT_MISMATCH: the command is discarded, counted in CORE_CH_MSG_FAULT, and its slot stops (R173, R62). -/
def portFault (c : Core) (slot firing tag ep : Nat) : Core × List Ev :=
  (stopSlot (bumpCore (loseFiring c slot firing) 76 1) slot evChPortMismatch, [.fault evChPortMismatch slot ep tag 0 0 0])

/-- MMA: the running multiplication is checked and clears its tile at its first step, then forms the products that its
arrived beats allow (R43, R47, R56, R60, R61, R66, R67, R173). -/
def execMma (core : Nat) (parity : Bool) (s : State) : Host.Outcome State Fault Refusal :=
  runLive core (fun s c =>
    match c.mxRun with
    | none => (c, [])
    | some r =>
      if mxOpc r.ent.cmd ≠ 1 then (c, [])
      else
        match (if r.cleared then none else mxFault c r.ent) with
        | some code => mxDiscard c r.ent code
        | none =>
        match (if r.cleared then none else (misport c 0 (mxNames r.ent.cmd 0)).or (misport c 1 (mxNames r.ent.cmd 1))) with
        | some ep => portFault (giveBack { c with mxRun := none } c.weights) r.ent.slot r.ent.firing (mxTag r.ent.cmd) ep
        | none =>
          let cmd := r.ent.cmd
          let clr := !r.cleared && mxClearBit cmd && mxM cmd != 0 && mxN cmd != 0
          let c1 := if clr then putTile c (mxTile cmd) (clearedTile (tileAt c (mxTile cmd)) (mxAnchor cmd)) else c
          let pz := mxPoison c1 r (r.poison && !r.told)
          let py := mxParity pz.1 (mxTile cmd) r.ent.slot (mxTag cmd) parity
          let m := mmaRun s py.1 { r with cleared := true, told := r.told || r.poison }
          (m.1, pz.2 ++ py.2 ++ m.2)) s

/-- NOP as the running matrix command completes and does nothing (R59). -/
def execMxNop (core : Nat) (s : State) : Host.Outcome State Fault Refusal :=
  runLive core (fun s c =>
    match c.mxRun with
    | none => (c, [])
    | some r =>
      if mxOpc r.ent.cmd ≠ 0 then (c, [])
      else if mxValid r.ent.cmd then (fillShadow (mxComplete s { c with mxRun := none } r.ent), [])
      else mxDiscard c r.ent evMatrixCmdInvalid) s

/-- CLEAR zeroes the tile and sets its anchor (R55, R59). -/
def execMxClear (core : Nat) (s : State) : Host.Outcome State Fault Refusal :=
  runLive core (fun s c =>
    match c.mxRun with
    | none => (c, [])
    | some r =>
      if mxOpc r.ent.cmd ≠ 3 then (c, [])
      else
        match mxFault c r.ent with
        | some code => mxDiscard c r.ent code
        | none =>
          let ti := mxTile r.ent.cmd
          (fillShadow (mxComplete s { putTile c ti (clearedTile (tileAt c ti) (mxAnchor r.ent.cmd)) with mxRun := none }
            r.ent), [])) s

/-- DRAIN hands its tile to the drain unit (R57, R59). -/
def execMxDrain (core : Nat) (s : State) : Host.Outcome State Fault Refusal :=
  runLive core (fun _ c =>
    match c.mxRun with
    | none => (c, [])
    | some r =>
      if mxOpc r.ent.cmd ≠ 2 then (c, [])
      else
        match mxFault c r.ent with
        | some code => mxDiscard c r.ent code
        | none =>
          (fillShadow { c with mxRun := none,
                               drains := c.drains ++ [{ ent := r.ent, sd := r.sd, row := 0, running := false }] }, [])) s

/-! ### The drain unit (R57, R58, R506) -/

/-- A drain reads no rows (R60, R506). -/
def drainEmpty (cmd : BitVec 256) : Bool := mxM cmd == 0 || mxN cmd == 0

/-- The stored form of tile element (r, c) (R72). -/
def tileEsf (t : Tile) (r c : Nat) : Esf := accEsf t.anchor t.poisonAll (accAt t r c)

/-- The head drain is done: its command completes (R57). -/
def drainDone (s : State) (c : Core) (d : Drain) : Core :=
  mxComplete s { c with drains := c.drains.drop 1 } d.ent

/-- One contribution of M × N values, row by row, from a drain with DRAIN_TO 2 (R236, R506). -/
def drainSend (c : Core) (d : Drain) : Send :=
  let cmd := d.ent.cmd
  let t := tileAt c (mxTile cmd)
  let vals := if drainEmpty cmd then [] else
    (List.range (mxM cmd)).flatMap (fun r => (List.range (mxN cmd)).map (fun n => esfPack (tileEsf t r n)))
  { kind := 2, data := t.anchor, vals := vals, poison := vals.any (fun v => bitAt v 114), slot := d.ent.slot,
    firing := d.ent.firing }

/-- The RED channel's answer to a drain: refused (R166), held without credit (R64), or sent. -/
def drainRed (s : State) (c : Core) (d : Drain) : Core × List Ev :=
  let ep := mxDrainEp d.ent.cmd
  match sendRefusal (outAt c ep) d.ent.slot true with
  | some code => refuseSend (loseFiring { c with drains := c.drains.drop 1 } d.ent.slot d.ent.firing) ep d.ent.slot (mxTag d.ent.cmd) code
  | none =>
    if sendRoom c ep ≤ (outAt c ep).sendQ.length then (bumpOut (bumpCore c 9 1) ep 1 1, [])
    else (drainDone s (queueSend c ep (drainSend c d)) d, [])

/-- MX_DRAIN_START: the first waiting drain starts once the drain unit is free; one that reads no rows ends at once
(R57, R64, R506). -/
def execMxDrainStart (core : Nat) (s : State) : Host.Outcome State Fault Refusal :=
  runLive core (fun s c =>
    match c.drains with
    | [] => (c, [])
    | d :: rest =>
      if d.running then (c, [])
      else if drainEmpty d.ent.cmd then
        (if mxDrainTo d.ent.cmd = 2 then drainRed s c d else (drainDone s c d, []))
      else ({ c with drains := { d with running := true } :: rest }, [])) s

/-- The converted elements of a row, with the counts and the observation of its tensor (R58, R80, R88). -/
def drainRow (s : State) (k : Nat) (c : Core) (d : Drain) (f : Fmt) : List Narrowed :=
  let cmd := d.ent.cmd
  let t := tileAt c (mxTile cmd)
  (List.range (mxN cmd)).map (fun n =>
    let v := tileEsf t d.row n
    narrowEsf f v d.sd
      (ditherOf (layoutOf s k) (mxDither cmd) (mxTensor cmd)
        ((mxElemBase cmd + d.row * mxRowPitch cmd + n) % 2 ^ 32) d.ent.step (some v.terms)))

/-- The observation of a list of narrowings (R88, R92). -/
def obsEv (l : Option Layout) (step tensor : Nat) (ns : List Narrowed) : Ev :=
  .obs step tensor
    (if observed l tensor then ns.foldl (fun m n =>
      match m, n.amax with
      | none, o => o
      | some a, none => some a
      | some a, some b => some (max a b)) none else none)
    (sumOf (ns.map (·.satNarrow))) (sumOf (ns.map (·.satEsf))) (sumOf (ns.map (·.invalid))) 0

/-- The rest of a drain after a row was accepted. -/
def rowDone (s : State) (c : Core) (d : Drain) : Core :=
  if d.row + 1 < mxM d.ent.cmd then { c with drains := { d with row := d.row + 1 } :: c.drains.drop 1 }
  else drainDone s c d

/-- The store streamer takes no more of a source of which bytes wait in it (R64, R123, log 14). -/
def storeRefuses (l : List (Byte × Bool)) : Bool := !l.isEmpty && Config.storeFull l.length

/-- MX_DRAIN_ROW: the drain unit offers its next row to the matrix drain queue, the store streamer or the RED channel;
a refused row is held and counted in CORE_MX_DRAIN_STALL (R57, R58, R64, R67). -/
def execMxDrainRow (core : Nat) (parity : Bool) (s : State) : Host.Outcome State Fault Refusal :=
  runLive core (fun s c0 =>
    match c0.drains with
    | [] => (c0, [])
    | d :: _ =>
      if d.running = false then (c0, [])
      else
        let cmd := d.ent.cmd
        let py := mxParity c0 (mxTile cmd) d.ent.slot (mxTag cmd) parity
        let c := py.1
        let t := tileAt c (mxTile cmd)
        let poison := (List.range (mxN cmd)).any (fun n => (tileEsf t d.row n).poison)
        if mxDrainTo cmd = 2 then
          let r := if d.row + 1 < mxM cmd then (rowDone s c d, []) else drainRed s c d
          (r.1, py.2 ++ r.2)
        else
          match fmtOfDrain (mxDrainFmt cmd) with
          | none =>
            let bs := (List.range (mxN cmd)).flatMap (fun n =>
              (leBytes 16 (esfPack (tileEsf t d.row n))).map (fun b => (b, (tileEsf t d.row n).poison)))
            let u := strmAt c 2
            if storeRefuses u.src0 then (bumpCore c 9 1, py.2)
            else (rowDone s (putStrm c 2 { u with src0 := u.src0 ++ bs }) d, py.2)
          | some f =>
            let ns := drainRow s core c d f
            let ev := obsEv (layoutOf s core) d.ent.step (mxTensor cmd) ns
            if mxDrainTo cmd = 0 then
              if 8 ≤ c.drainQ.length then (bumpCore c 9 1, py.2)
              else
                (rowDone s { c with drainQ := c.drainQ ++
                  [{ lanes := ns.map (fun n => BitVec.ofNat 32 (if f.isInt then wrapInt 32 (signedOf f.width n.bits) else n.bits)),
                     fmt := mxDrainFmt cmd, poison := poison }] } d, py.2 ++ [ev])
            else
              let bs := ns.flatMap (fun n => (leBytes (f.width / 8) n.bits).map (fun b => (b, n.poison)))
              let u := strmAt c 2
              if storeRefuses u.src0 then (bumpCore c 9 1, py.2)
              else (rowDone s (putStrm c 2 { u with src0 := u.src0 ++ bs }) d, py.2 ++ [ev])) s

end Sys2Proof.Machine
end

