-- ==== Sys2Proof/Machine/Vector.lean ====
section
/-! DEFINITION. The vector chain unit and the reduction unit (R95 to R125). -/

namespace Sys2Proof.Machine

/-! ### Fields of a vector command (R99, R100, R104) -/

def vcOpc (c : BitVec 768) : Nat := fld c 3 0
def vcXSrc (c : BitVec 768) : Nat := fld c 7 4
def vcXEp (c : BitVec 768) : Nat := fld c 12 8
def vcXFmt (c : BitVec 768) : Nat := fld c 15 13
def vcYSrc (c : BitVec 768) : Nat := fld c 19 16
def vcYEp (c : BitVec 768) : Nat := fld c 24 20
def vcYFmt (c : BitVec 768) : Nat := fld c 27 25
def vcStages (c : BitVec 768) : Nat := fld c 31 28
def vcN (c : BitVec 768) : Nat := fld c 63 32
def vcOutW (c : BitVec 768) : Nat := fld c 65 64
def vcRedEn (c : BitVec 768) : Bool := bitAt c.toNat 66
def vcRedOp (c : BitVec 768) : Nat := fld c 69 67
def vcRedPred (c : BitVec 768) : Bool := bitAt c.toNat 70
def vcRedTap (c : BitVec 768) : Nat := fld c 74 71
def vcRedType (c : BitVec 768) : Nat := fld c 76 75
def vcRedDest (c : BitVec 768) : Nat := fld c 78 77
def vcSegLen (c : BitVec 768) : Nat := fld c 95 80
def vcRedAnchor (c : BitVec 768) : Nat := fld c 103 96
def vcRedS (c : BitVec 768) : Nat := fld c 106 104
def vcRedEp (c : BitVec 768) : Nat := fld c 111 107
def vcElemBase (c : BitVec 768) : Nat := fld c 159 128
def vcPitch (c : BitVec 768) : Nat := fld c 183 160
def vcTag (c : BitVec 768) : Nat := fld c 199 184
/-- TARGET of LOADC and LOADLUT (R100). -/
def vcTarget (c : BitVec 768) : Nat := fld c 105 104
/-- Stage word `k` (R99). -/
def vcStage (c : BitVec 768) (k : Nat) : Nat := fld c (319 + 64 * k) (256 + 64 * k)

def stOp (w : Nat) : Nat := bits w 5 0
def stTy (w : Nat) : Nat := bits w 7 6
def stB (w : Nat) : Nat := bits w 11 8
def stZ (w : Nat) : Nat := bits w 15 12
def stPred (w : Nat) : Bool := bitAt w 16
def stSaveT (w : Nat) : Bool := bitAt w 17
def stCond (w : Nat) : Nat := bits w 20 18
def stImm (w : Nat) : Nat := bits w 63 32
def stTable (w : Nat) : Nat := bits w 22 21
def cvtB (w : Nat) : Bool := bitAt w 18
def cvtFrom (w : Nat) : Nat := bits w 21 19
def cvtTo (w : Nat) : Nat := bits w 24 22
def cvtDither (w : Nat) : Bool := bitAt w 25
def cvtScale (w : Nat) : Nat := bits w 39 32
def cvtTensor (w : Nat) : Nat := bits w 51 40

/-- The stage words in use (R99, R104). -/
def stagesOf (c : BitVec 768) : List Nat := (List.range (vcStages c)).map (vcStage c)

/-! ### Validity (R97, R110, R115, R120) -/

/-- Whether a stage reads B (R106, R109). -/
def readsB (w : Nat) : Bool :=
  match stOp w with
  | 0x00 => false
  | 0x0F => false
  | 0x12 => cvtB w
  | 0x13 => false
  | _ => true

/-- Whether a stage names a B that it must be able to read: every one but NOT and LUT, which are said not to read it
(R106, R120). -/
def namesB (w : Nat) : Bool := stOp w != 0x0F && stOp w != 0x13

/-- Whether a stage reads Z (R104). -/
def readsZ (w : Nat) : Bool := stOp w == 0x04

/-- A stage word's form: a known OP, a TYPE it allows, reserved bits zero, Y only where there is a Y stream
(R104, R106, R109, R120). -/
def stageOk (hasY : Bool) (w : Nat) : Bool :=
  (match stOp w with
   | 0x00 | 0x01 | 0x02 | 0x03 | 0x04 | 0x05 | 0x11 => bits w 31 21 == 0
   | 0x08 | 0x09 | 0x0A | 0x0B | 0x0C | 0x0D | 0x0E | 0x0F => bits w 31 21 == 0 && stTy w == 0
   | 0x10 => bits w 31 21 == 0 && decide (stCond w ≤ 5)
   | 0x12 => bits w 31 26 == 0 && bits w 63 52 == 0 && cvtTo w != 7
   | 0x13 => bits w 31 23 == 0 && stTy w == 1
   | _ => false) &&
  (hasY || !namesB w || stB w != 1) && (hasY || !readsZ w || stZ w != 1)

/-- A source code of X (R99). -/
def xSrcOk (n : Nat) : Bool := decide (n ≤ 3) || n == 15
/-- A source code of Y (R99). -/
def ySrcOk (n : Nat) : Bool := decide (n ≤ 2) || n == 15

/-- X carries ESF-96 values. -/
def xEsf (c : BitVec 768) : Bool := vcXSrc c != 15 && vcXFmt c == 7

/-- A CHAIN command is valid (R120). -/
def chainValid (c : BitVec 768) : Bool :=
  xSrcOk (vcXSrc c) && ySrcOk (vcYSrc c) && (vcYSrc c == 15 || vcYFmt c != 7) && decide (vcStages c ≤ 8) &&
  fld c 79 79 == 0 && fld c 127 112 == 0 && fld c 255 200 == 0 &&
  (!vcRedEn c ||
    (decide (vcRedOp c ≤ 4) && decide (vcRedTap c ≤ max (vcStages c) 1) && decide (vcRedDest c ≤ 2) &&
     (vcSegLen c == 0 || vcRedDest c != 0) && (vcRedDest c != 2 || vcOutW c == 3))) &&
  (vcXSrc c != 3 || vcN c % 64 == 0) &&
  (stagesOf c).all (stageOk (vcYSrc c != 15)) &&
  (!xEsf c ||
    (match stagesOf c with
     | [] => false
     | w :: _ => stOp w == 0x12 && cvtFrom w == 7 && !cvtB w))

/-- A stage whose ESF-96 operand has a form that R110 does not allow, as the command alone shows it. A reduction that taps the
unpacked ESF-96 input is taken for such a stage, which is the model's choice (log 134). -/
def staticForm (c : BitVec 768) : Bool :=
  (List.range (vcStages c)).any (fun k =>
    let w := vcStage c k
    stOp w == 0x12 && cvtFrom w == 7 &&
      (if cvtB w then decide (stB w < 8) else !(k == 0 && xEsf c))) ||
  (vcRedEn c && vcRedTap c == 0 && xEsf c)

/-- A command discarded with its event and its slot stopped, counted in CORE_VC_CMD_FAULT (R103, R120). -/
def vcDiscard (c : Core) (e : VcEnt) (code : Nat) (count : Bool) : Core × List Ev :=
  (loseFiring (stopSlot (bumpCore { c with vcRun := none } 24 (b2n count)) e.slot code) e.slot e.firing,
    [.fault code e.slot noFld (vcTag e.cmd) 0 0 0])

/-- A vector command is complete: VC_DONE and CORE_VC_CMDS advance (R102, R125). -/
def vcComplete (s : State) (c : Core) (e : VcEnt) : Core :=
  { bumpCore (bumpDone c e.slot 1) 22 1 with vcRun := none, lastProgress := s.sup.ticks }

/-- The head command where none runs. -/
def vcHead (c : Core) : Option (VcEnt × List VcEnt) :=
  match c.vcRun, c.vcq with
  | none, e :: rest => some (e, rest)
  | _, _ => none

/-- Output to the store streamer: behind output already held, or while the streamer refuses it, it is held (R123). -/
def vcOutput (c : Core) (bs : List (Byte × Bool)) : Core :=
  let u := strmAt c 2
  if bs = [] then c
  else if !c.vcHeld.isEmpty || storeRefuses u.src1 then { c with vcHeld := c.vcHeld ++ [{ bytes := bs, done := none }] }
  else putStrm c 2 { u with src1 := u.src1 ++ bs }

/-- Held output is offered again, oldest first, as far as the streamer takes it; with its last output a command is complete
(R102, R123). -/
def vcRelease (s : State) : List VcOut → Core → Core
  | [], c => { c with vcHeld := [] }
  | x :: l, c =>
    let u := strmAt c 2
    if storeRefuses u.src1 then { c with vcHeld := x :: l }
    else
      let c1 := putStrm c 2 { u with src1 := u.src1 ++ x.bytes }
      vcRelease s l
        (match x.done with
         | none => c1
         | some e => { bumpCore (bumpDone c1 e.slot 1) 22 1 with lastProgress := s.sup.ticks })

/-- The last vector of a command has issued: it is complete, or will be with the output that is still held (R102). -/
def vcIssued (s : State) (c : Core) (e : VcEnt) : Core :=
  match c.vcHeld.getLast? with
  | none => vcComplete s c e
  | some x =>
    if x.done.isSome then vcComplete s c e
    else { c with vcRun := none, vcHeld := c.vcHeld.dropLast ++ [{ x with done := some e }] }

/-- X and Y sources as beat sources (R39, R99). -/
def vcSrcX (c : BitVec 768) : Nat := srcOf (vcXSrc c) (vcXEp c)
def vcSrcY (c : BitVec 768) : Nat := srcOf (vcYSrc c) (vcYEp c)

/-- VEC_UNDERRUN: beats still needed from a load streamer that is idle (R121). -/
def vcUnder (c : Core) (src have_ need : Nat) : Bool :=
  decide (src ≤ 1) && decide (have_ < need) && strmIdle (strmAt c src)

/-- The poison of a command noted once: counted and raised with the TAG (R119). -/
def vcPoison (c : Core) (e : VcEnt) (now : Bool) : Core × List Ev :=
  if now then (bumpCore c 27 1, [.post evPoisonedOperand e.slot noFld (vcTag e.cmd) 0 0 0]) else (c, [])

/-! ### NOP, SETS, LOADC, LOADLUT (R99, R100) -/

/-- NOP does nothing and completes (R99). -/
def execVcNop (core : Nat) (s : State) : Host.Outcome State Fault Refusal :=
  runLive core (fun s c =>
    match vcHead c with
    | none => (c, [])
    | some (e, rest) => if vcOpc e.cmd ≠ 0 then (c, []) else (vcComplete s { c with vcq := rest } e, [])) s

/-- SETS: the scalar register takes the 32-bit value (R100). -/
def execSets (core : Nat) (s : State) : Host.Outcome State Fault Refusal :=
  runLive core (fun s c =>
    match vcHead c with
    | none => (c, [])
    | some (e, rest) =>
      if vcOpc e.cmd ≠ 4 then (c, [])
      else
        let t := slotAt c e.slot
        let v : Scal := { v := BitVec.ofNat 128 (fld e.cmd 159 128), esf := false, poison := false }
        (vcComplete s (putSlot { c with vcq := rest } e.slot { t with scal := tabSet t.scal (vcRedS e.cmd) v }) e, [])) s

/-- The load commands' beats gathered so far: those of a load in progress, or a new one at the head. -/
def loadStart (c : Core) (opc : Nat) : Option (VcRun × Core) :=
  match c.vcRun with
  | some r => if vcOpc r.ent.cmd = opc then some (r, c) else none
  | none =>
    match c.vcq with
    | [] => none
    | e :: rest =>
      if vcOpc e.cmd = opc then
        some ({ ent := e, vec := 0, scales := [], red := {}, poison := false, buf := [] }, { c with vcq := rest })
      else none

/-- A load takes the beats that have arrived, up to `n` in all (R100). -/
def loadBeats (c : Core) (r : VcRun) (n : Nat) : VcRun × Core :=
  let b := takeFrom (vcSrcX r.ent.cmd) (n - r.buf.length) c.vx
  ({ r with buf := r.buf ++ b.1, poison := r.poison || b.1.any (·.poison) },
    bumpCore { c with vx := b.2 } 15 b.1.length)

/-- LOADC: 4 beats into constant vector TARGET, lane l taking bytes 4l to 4l + 3 (R100, R119, R120, R121). -/
def execLoadc (core : Nat) (s : State) : Host.Outcome State Fault Refusal :=
  runLive core (fun s c =>
    match loadStart c 2 with
    | none => (c, [])
    | some (r, c) =>
      let cmd := r.ent.cmd
      if 2 < vcXSrc cmd then vcDiscard c r.ent evVecCmdInvalid true
      else if vcUnder c (vcSrcX cmd) (countFrom (vcSrcX cmd) c.vx + r.buf.length) 4 then
        (loseFiring (stopSlot { c with vcRun := none } r.ent.slot evVecUnderrun) r.ent.slot r.ent.firing,
          [.fault evVecUnderrun r.ent.slot noFld (vcTag cmd) 0 0 0])
      else
        let g := loadBeats c r 4
        if g.1.buf.length < 4 then ({ g.2 with vcRun := some g.1 }, [])
        else
          let bs := g.1.buf.flatMap (·.data)
          let v : Vec := { lanes := (List.range 64).map (fun l => BitVec.ofNat 32 (leNat ((bs.drop (4 * l)).take 4))),
                           poison := g.1.poison }
          let t := slotAt g.2 r.ent.slot
          let p := vcPoison (putSlot g.2 r.ent.slot { t with const := tabSet t.const (vcTarget cmd) v }) r.ent g.1.poison
          (vcComplete s p.1 r.ent, p.2)) s

/-- A lookup table of a core. -/
def lutAt (c : Core) (i : Nat) : Lut := tabGet c.luts i {}

/-- LOADLUT: 49 beats into lookup table TARGET, which its slot must own (R100, R103, R119 to R121). -/
def execLoadlut (core : Nat) (s : State) : Host.Outcome State Fault Refusal :=
  runLive core (fun s c =>
    match loadStart c 3 with
    | none => (c, [])
    | some (r, c) =>
      let cmd := r.ent.cmd
      if 2 < vcXSrc cmd then vcDiscard c r.ent evVecCmdInvalid true
      else if (lutAt c (vcTarget cmd)).owner ≠ some r.ent.slot then vcDiscard c r.ent evVecTableFault true
      else if vcUnder c (vcSrcX cmd) (countFrom (vcSrcX cmd) c.vx + r.buf.length) 49 then
        (loseFiring (stopSlot { c with vcRun := none } r.ent.slot evVecUnderrun) r.ent.slot r.ent.firing,
          [.fault evVecUnderrun r.ent.slot noFld (vcTag cmd) 0 0 0])
      else
        let g := loadBeats c r 49
        if g.1.buf.length < 49 then ({ g.2 with vcRun := some g.1 }, [])
        else
          let l : Lut := { owner := some r.ent.slot, data := some ((g.1.buf.flatMap (·.data)).take 3104),
                           poison := g.1.poison }
          let p := vcPoison { g.2 with luts := tabSet g.2.luts (vcTarget cmd) l } r.ent g.1.poison
          (vcComplete s p.1 r.ent, p.2)) s

/-! ### Lanes of a vector -/

/-- A lane's running value: 32 bits, or an ESF-96 value until stage 0 (R96). -/
inductive LaneV where
  | w (v : W32)
  | e (v : Esf)
  deriving DecidableEq, Repr

/-- What a chain carries from stage to stage of one vector, and what it counts. -/
structure ChainSt where
  lanes : List LaneV
  p : List Bool
  t : List W32
  tPoison : Bool
  poison : Bool
  sat : Nat
  clamp : Nat
  obs : List (Nat × Narrowed)
  form : Bool
  tap : Option (List LaneV × List Bool)
  deriving DecidableEq, Repr

/-- The lane's 32 bits; an ESF-96 value has none. -/
def laneW (v : LaneV) : W32 :=
  match v with
  | .w x => x
  | .e _ => 0

/-- Lane values unpacked from the beats of a vector (R96). -/
def unpack (fmt : Nat) (beats : List Beat) (l : Nat) : LaneV :=
  let bs := beats.flatMap (·.data)
  match fmt with
  | 0 => .w (BitVec.ofInt 32 (signedOf 8 (bs.getD l 0).toNat))
  | 1 | 2 => .w (BitVec.ofNat 32 (bs.getD l 0).toNat)
  | 3 | 4 => .w (BitVec.ofNat 32 (leNat ((bs.drop (2 * l)).take 2)))
  | 7 => .e (esfUnpack (leNat ((bs.drop (16 * l)).take 16)))
  | _ => .w (BitVec.ofNat 32 (leNat ((bs.drop (4 * l)).take 4)))

/-- Beats per vector of a stream format (R96). -/
def beatsPer (fmt : Nat) : Nat :=
  match fmt with
  | 0 | 1 | 2 => 1
  | 3 | 4 => 2
  | 7 => 16
  | _ => 4

/-- A scalar register of a slot. -/
def scalAt (t : Slot) (i : Nat) : Scal := tabGet t.scal i {}

/-- An operand source's lane value (R105). -/
def operand (t : Slot) (tv : List W32) (y : List W32) (base imm code l : Nat) : W32 :=
  match code with
  | 0 => BitVec.ofNat 32 imm
  | 1 => nth y l 0
  | 6 => nth tv l 0
  | 7 => BitVec.ofNat 32 (base + l)
  | c => if c ≤ 5 then nth (tabGet t.const (c - 2) {}).lanes l 0 else (scalAt t (c - 8)).v.truncate 32

/-- The source holds an ESF-96 value: a scalar register marked so (R118). -/
def srcEsf (t : Slot) (code : Nat) : Bool := decide (8 ≤ code) && (scalAt t (code - 8)).esf

/-- The source carries poison (R119). -/
def srcPoison (t : Slot) (tPoison : Bool) (code : Nat) : Bool :=
  if code = 6 then tPoison
  else if 2 ≤ code ∧ code ≤ 5 then (tabGet t.const (code - 2) {}).poison
  else if 8 ≤ code then (scalAt t (code - 8)).poison
  else false

/-- One CVT lane: the new lane and, at a narrowing point, its outcome (R109). A CVT of B with BSRC 0 converts bits [63:32] of
its stage word as they stand, D_SCALE and TENSOR_ID included (R105; the model's choice, log 133). -/
def cvtLane (lay : Option Layout) (t : Slot) (tv y : List W32) (base step : Nat) (sd : Int) (w : Nat) (poison : Bool)
    (v : LaneV) (l : Nat) : LaneV × Option Narrowed :=
  match fmtOfCode (cvtTo w) with
  | none => (v, none)
  | some dst =>
    let key (terms : Option Nat) : Option Nat :=
      ditherOf lay (cvtDither w) (cvtTensor w) ((base + l) % 2 ^ 32) step terms
    match fmtOfCode (cvtFrom w) with
    | none =>
      let x : Esf :=
        if cvtB w then esfUnpack (scalAt t (stB w - 8)).v.toNat
        else
          match v with
          | .e x => x
          | .w _ => {}
      let n := narrowEsf dst { x with poison := x.poison || poison } sd (key (some x.terms))
      (.w (toLane dst n.bits), some n)
    | some src =>
      let a := if cvtB w then operand t tv y base (stImm w) (stB w) l else laneW v
      if cvtScale w = 0 ∧ widening src dst then (.w (widen src dst a), none)
      else
        let n := narrowVal src dst a sd (key none) poison
        (.w (toLane dst n.bits), some n)

/-- A vector's active lanes (R97). -/
abbrev Active := List Bool

/-- Whether a stage reads, in an active lane, an ESF-96 value in a form that R110 does not allow. -/
def formFault (t : Slot) (w : Nat) (act : Active) (lanes : List LaneV) : Bool :=
  let cvt := stOp w == 0x12 && cvtFrom w == 7
  let esfLanes := (lanes.zip act).any (fun v =>
    match v.1 with
    | .e _ => v.2
    | .w _ => false)
  if cvt then (if cvtB w then !srcEsf t (stB w) else false)
  else esfLanes || (readsB w && srcEsf t (stB w)) || (readsZ w && srcEsf t (stZ w))

/-- The images of the tables, by number; an EMPTY one has none (R111). -/
def lutData (c : Core) (i : Nat) : List Byte := (lutAt c i).data.getD []

/-- One stage of one vector (R104 to R112). -/
def runStage (lay : Option Layout) (c : Core) (t : Slot) (y : List W32) (base step : Nat) (sd : Int) (act : Active)
    (w : Nat) (st : ChainSt) : ChainSt :=
  let form := formFault t w act st.lanes
  let poison := st.poison || (readsB w && srcPoison t st.tPoison (stB w)) || (readsZ w && srcPoison t st.tPoison (stZ w)) ||
    (stOp w == 0x13 && (lutAt c (stTable w)).poison)
  let acts (l : Nat) : Bool := nth act l false && (!stPred w || nth st.p l false)
  let fmt := laneFmt (stTy w)
  let cell (l : Nat) : LaneV × Bool × Nat × Nat × Option Narrowed :=
    let v := nth st.lanes l (.w 0)
    let p := nth st.p l false
    if nth act l false = false then (v, p, 0, 0, none)
    else
      let b := operand t st.t y base (stImm w) (stB w) l
      match stOp w with
      | 0x10 => (v, (if stPred w then p && condHolds fmt (stCond w) (laneW v) b else condHolds fmt (stCond w) (laneW v) b), 0, 0, none)
      | 0x11 => (if acts l then (if p then v else .w b) else v, p, 0, 0, none)
      | 0x12 =>
        if acts l then
          let r := cvtLane lay t st.t y base step sd w poison v l
          (r.1, p, 0, 0, r.2)
        else (v, p, 0, 0, none)
      | 0x13 =>
        if acts l then
          let r := lutEval (lutData c (stTable w)) (laneW v)
          (.w r.1, p, 0, b2n r.2, none)
        else (v, p, 0, 0, none)
      | 0x00 => (v, p, 0, 0, none)
      | op =>
        if acts l then
          let r := laneOp op (stTy w) (laneW v) b (operand t st.t y base (stImm w) (stZ w) l)
          (.w r.1, p, b2n r.2, 0, none)
        else (v, p, 0, 0, none)
  let cells := (List.range 64).map cell
  let lanes := cells.map (·.1)
  let np := cells.filterMap (fun x => x.2.2.2.2)
  { st with
    lanes := lanes, p := cells.map (·.2.1), poison := poison || np.any (·.poison),
    t := if stSaveT w then (List.range 64).map (fun l => if nth act l false then laneW (nth lanes l (.w 0)) else nth st.t l 0)
         else st.t,
    tPoison := if stSaveT w then poison || np.any (·.poison) else st.tPoison,
    sat := st.sat + sumOf (cells.map (·.2.2.1)), clamp := st.clamp + sumOf (cells.map (·.2.2.2.1)),
    obs := st.obs ++ np.map (fun n => (cvtTensor w, n)), form := st.form || form }

/-- The stages of one vector in order, with the value tapped for the reduction (R99 RED_TAP). -/
def runStages (lay : Option Layout) (c : Core) (t : Slot) (y : List W32) (base step tap : Nat) (act : Active) :
    Nat → List Nat → List Int → ChainSt → ChainSt
  | _, [], _, st => st
  | k, w :: ws, sds, st =>
    let st1 := runStage lay c t y base step (sds.headD 0) act w st
    let st2 := if tap = k + 1 then { st1 with tap := some (st1.lanes, st1.p) } else st1
    runStages lay c t y base step tap act (k + 1) ws sds.tail st2

/-! ### The reduction unit (R115 to R118) -/

/-- A lane's term of a SUM: rounded onto the grid of RED_ANCHOR, one term (R116). -/
def sumTerm (ty anchor : Nat) (v : W32) : Esf :=
  match laneVal (laneFmt ty) v with
  | .fin n m e =>
    let r := roundProduct n m e anchor
    { w := BitVec.ofInt 104 r.1, anchor := anchor, terms := 1, sat := r.2 }
  | .nan => { anchor := anchor, terms := 1, invalid := true }
  | .inf _ => { anchor := anchor, terms := 1, invalid := true }

/-- The better of two (bits, index) pairs by R117. -/
def better (op ty : Nat) (a b : Nat × Nat) : Nat × Nat :=
  let f := laneFmt ty
  let ka := orderKey f a.1
  let kb := orderKey f b.1
  let isMax := op == 1 || op == 3
  if ka = kb then (if b.2 < a.2 then b else a)
  else if (isMax && decide (ka < kb)) || (!isMax && decide (kb < ka)) then b else a

/-- A tapped vector taken into the reduction in hand; the second part counts NaN lanes excluded (R115 to R117). -/
def reduceVec (cmd : BitVec 768) (base : Nat) (act : Active) (lanes : List LaneV) (p : List Bool) (poison : Bool)
    (r : RedAcc) : RedAcc × Nat :=
  let f := laneFmt (vcRedType cmd)
  let inc := (List.range 64).filter (fun l => nth act l false && (!vcRedPred cmd || nth p l false))
  let z := inc.foldl (fun (z : RedAcc × Nat) l =>
    let v := laneW (nth lanes l (.w 0))
    if vcRedOp cmd = 0 then ({ z.1 with sum := esfAdd z.1.sum (sumTerm (vcRedType cmd) (vcRedAnchor cmd) v) }, z.2)
    else if laneVal f v = .nan then (z.1, z.2 + 1)
    else
      let x := (v.toNat % 2 ^ f.width, (base + l) % 2 ^ 32)
      ({ z.1 with best := some (match z.1.best with
                                | none => x
                                | some y => better (vcRedOp cmd) (vcRedType cmd) y x) }, z.2)) (r, 0)
  ({ z.1 with poison := z.1.poison || poison, vecs := z.1.vecs + 1 }, z.2)

/-- A new reduction segment. -/
def redNew (cmd : BitVec 768) : RedAcc := { sum := { anchor := vcRedAnchor cmd }, best := none, poison := false, vecs := 0 }

/-- The 64-bit result of MAX, MIN, ARGMAX and ARGMIN (R117). -/
def redBits (cmd : BitVec 768) (r : RedAcc) : Nat :=
  let arg := decide (3 ≤ vcRedOp cmd)
  match r.best with
  | some (b, i) => b + (if arg then i * 2 ^ 32 else 0)
  | none => (laneFmt (vcRedType cmd)).nanBits + (if arg then 0xFFFFFFFF * 2 ^ 32 else 0)

/-- A segment's result delivered: a scalar register, an endpoint or the store streamer (R115, R118, R119). A refused send
stops the slot (R166). -/
def redResult (c : Core) (e : VcEnt) (r : RedAcc) : Core × List Ev :=
  let cmd := e.cmd
  let c := bumpCore c 29 1
  let sum : Esf := { r.sum with poison := r.sum.poison || r.poison }
  match vcRedDest cmd with
  | 0 =>
    let t := slotAt c e.slot
    let v : Scal :=
      if vcRedOp cmd = 0 then { v := BitVec.ofNat 128 (esfPack sum), esf := true, poison := sum.poison }
      else { v := BitVec.ofNat 128 (if 3 ≤ vcRedOp cmd then redBits cmd r / 2 ^ 32 else redBits cmd r % 2 ^ 32),
             esf := false, poison := r.poison }
    (putSlot c e.slot { t with scal := tabSet t.scal (vcRedS cmd) v }, [])
  | 1 =>
    let red := decide (vcRedOp cmd = 0)
    match sendRefusal (outAt c (vcRedEp cmd)) e.slot red with
    | some code => refuseSend (loseFiring { c with vcRun := none } e.slot e.firing) (vcRedEp cmd) e.slot (vcTag cmd) code
    | none =>
      (queueSend c (vcRedEp cmd)
        (if red then { kind := 2, data := vcRedAnchor cmd, vals := [esfPack sum], poison := sum.poison, slot := e.slot,
                       firing := e.firing }
         else { kind := 1, data := redBits cmd r, vals := [], poison := r.poison, slot := e.slot, firing := e.firing }), [])
  | _ =>
    let bs := if vcRedOp cmd = 0 then leBytes 16 (esfPack sum) else leBytes 8 (redBits cmd r)
    (vcOutput c (bs.map (fun b => (b, sum.poison && vcRedOp cmd == 0 || r.poison))), [])

/-! ### CHAIN and its quads (R97, R99, R113) -/

/-- Vectors of a command (R97). -/
def vcVectors (cmd : BitVec 768) : Nat := ceilDiv (vcN cmd) 64

/-- The fault of a LUT stage, in the order of R111. -/
def lutFault (c : Core) (slot : Nat) (cmd : BitVec 768) : Option Nat :=
  (stagesOf cmd).findSome? (fun w =>
    if stOp w ≠ 0x13 then none
    else
      let l := lutAt c (stTable w)
      if l.owner ≠ some slot then some evVecTableFault
      else
        match l.data with
        | none => some evVecTableEmpty
        | some d => if lutInvalid d then some evVecTableInvalid else none)

/-- The vector command binds the half: X for CHAIN, LOADC and LOADLUT with a source, Y for CHAIN with one. -/
def vcBinds (cmd : BitVec 768) (p : Nat) : Bool :=
  if p = 2 then decide (1 ≤ vcOpc cmd) && decide (vcOpc cmd ≤ 3) && vcXSrc cmd != 15
  else vcOpc cmd == 1 && vcYSrc cmd != 15

/-- The endpoint that a vector command names for a half. -/
def vcNames (cmd : BitVec 768) (p : Nat) : Option Nat :=
  if !vcBinds cmd p then none
  else if p = 2 then (if vcXSrc cmd = 2 then some (vcXEp cmd) else none)
  else (if vcYSrc cmd = 2 then some (vcYEp cmd) else none)

/-- CHAIN: the head command is checked and starts, with the drain scales of its CVT stages latched; with no elements it
writes its empty result and completes. A reserved OPC is discarded here (R51, R99, R101, R110, R115, R120, R173). -/
def execChain (core : Nat) (s : State) : Host.Outcome State Fault Refusal :=
  runLive core (fun s c =>
    match vcHead c with
    | none => (c, [])
    | some (e, rest) =>
      let c := { c with vcq := rest }
      if 4 < vcOpc e.cmd then vcDiscard c e evVecCmdInvalid true
      else if vcOpc e.cmd ≠ 1 then ({ c with vcq := e :: rest }, [])
      else if !chainValid e.cmd then vcDiscard c e evVecCmdInvalid true
      else if staticForm e.cmd then vcDiscard c e evVecOperandForm true
      else
      match (misport c 2 (vcNames e.cmd 2)).or (misport c 3 (vcNames e.cmd 3)) with
      | some ep => portFault c e.slot e.firing (vcTag e.cmd) ep
      | none =>
        let run : VcRun :=
          { ent := e, vec := 0, scales := (stagesOf e.cmd).map (fun w => scaleEntry c e.step (cvtScale w)),
            red := redNew e.cmd, poison := false, buf := [] }
        if vcN e.cmd = 0 then
          if vcRedEn e.cmd then
            let r := redResult { c with vcRun := some run } e (redNew e.cmd)
            (if r.2 = [] then (vcIssued s r.1 e, r.2) else r)
          else (vcComplete s c e, [])
        else ({ c with vcRun := some run }, [])) s

/-- One vector's active lanes: all 64, those of the last vector, or the columns of a drain row (R97). -/
def activeLanes (cmd : BitVec 768) (v : Nat) (row : Option DrainRow) : Active :=
  (List.range 64).map (fun l =>
    match row with
    | some r => decide (l < r.lanes.length)
    | none => decide (64 * v + l < vcN cmd))

/-- Vectors of the next quad (R113): at most four, those left, and those whose beats the halves can hold whole. -/
def quadSize (r : VcRun) : Nat :=
  let cmd := r.ent.cmd
  let bx := if vcXSrc cmd = 15 ∨ vcXSrc cmd = 3 then 4 else 16 / beatsPer (vcXFmt cmd)
  let byy := if vcYSrc cmd = 15 then 4 else 16 / beatsPer (vcYFmt cmd)
  min (vcVectors cmd - r.vec) (min 4 (min bx byy))

/-- Output bytes of a vector: its active lanes at OUT_W (R99, R148). -/
def vecOut (cmd : BitVec 768) (act : Active) (lanes : List LaneV) (poison : Bool) : List (Byte × Bool) :=
  if vcOutW cmd = 3 then []
  else (List.range 64).flatMap (fun l =>
    if nth act l false then (leBytes (2 ^ vcOutW cmd) (laneW (nth lanes l (.w 0))).toNat).map (fun b => (b, poison)) else [])

/-- Observations of a vector's narrowings, one for each (R88, R92). -/
def vecObs (lay : Option Layout) (step : Nat) (l : List (Nat × Narrowed)) : List Ev :=
  l.map (fun x => obsEv lay step x.1 [x.2])

/-- Zero lanes, the start of a lane register. -/
def zeroLanes : List W32 := List.replicate 64 0

/-- One vector of the running command: its beats leave the FIFO, its stages run, its output goes to the store streamer
and its tapped value to the reduction unit (R97, R98, R113, R119). A drain row of another format stays at the head of the
drain queue, which is the model's choice (R120, log 136). -/
def runVector (s : State) (k : Nat) (c : Core) (r : VcRun) (parity : Bool) : (Core × List Ev) × Option VcRun :=
  let cmd := r.ent.cmd
  let e := r.ent
  let row : Option DrainRow := if vcXSrc cmd = 3 then c.drainQ.head? else none
  let badFmt : Bool :=
    match row with
    | none => false
    | some w => fmtOfDrain w.fmt != fmtOfCode (vcXFmt cmd)
  if badFmt then (vcDiscard c e evVecFmtMismatch true, none)
  else
    let x := if vcXSrc cmd ≤ 2 then takeFrom (vcSrcX cmd) (beatsPer (vcXFmt cmd)) c.vx else ([], c.vx)
    let y := if vcYSrc cmd ≤ 2 then takeFrom (vcSrcY cmd) (beatsPer (vcYFmt cmd)) c.vy else ([], c.vy)
    let c := { c with vx := x.2, vy := y.2, drainQ := if row.isSome then c.drainQ.drop 1 else c.drainQ }
    let act := activeLanes cmd r.vec row
    let base := (vcElemBase cmd + r.vec * vcPitch cmd) % 2 ^ 32
    let inPoison := x.1.any (·.poison) || y.1.any (·.poison) || parity ||
      (match row with
       | some w => w.poison
       | none => false)
    let lanes0 := (List.range 64).map (fun l =>
      match row with
      | some w => LaneV.w (nth w.lanes l 0)
      | none => if vcXSrc cmd = 15 then .w 0 else unpack (vcXFmt cmd) x.1 l)
    let ys := (List.range 64).map (fun l => if vcYSrc cmd = 15 then 0 else laneW (unpack (vcYFmt cmd) y.1 l))
    let t := slotAt c e.slot
    let p0 := if t.p = [] then List.replicate 64 false else t.p
    let st0 : ChainSt :=
      { lanes := lanes0, p := p0, t := if t.t.lanes = [] then zeroLanes else t.t.lanes, tPoison := t.t.poison,
        poison := inPoison, sat := 0, clamp := 0, obs := [], form := false, tap := none }
    let st1 := runStages (layoutOf s k) c t ys base e.step (vcRedTap cmd) act 0 (stagesOf cmd) r.scales st0
    if st1.form then (vcDiscard c e evVecOperandForm true, none)
    else
      let tap := if vcRedTap cmd = 0 then (lanes0, p0) else st1.tap.getD (st1.lanes, st1.p)
      let c1 := putSlot (bumpCore (bumpCore (bumpCore (bumpCore c 15 (max (vcStages cmd) 1)) 21 1) 25 st1.sat) 26 st1.clamp)
        e.slot { t with p := st1.p, t := { lanes := st1.t, poison := st1.tPoison } }
      let c2 := vcOutput c1 (vecOut cmd act st1.lanes st1.poison)
      let pz := vcPoison c2 e (st1.poison && !r.poison)
      let r1 := { r with vec := r.vec + 1, poison := r.poison || st1.poison }
      let ev := vecObs (layoutOf s k) e.step st1.obs ++ pz.2
      if vcRedEn cmd then
        let z := reduceVec cmd base act tap.1 tap.2 st1.poison r.red
        let c3 := bumpCore pz.1 30 z.2
        if r1.vec = vcVectors cmd ∨ (vcSegLen cmd ≠ 0 ∧ z.1.vecs = vcSegLen cmd) then
          let d := redResult c3 e z.1
          if d.2 = [] then ((d.1, ev), some { r1 with red := redNew cmd }) else ((d.1, ev ++ d.2), none)
        else ((c3, ev), some { r1 with red := z.1 })
      else ((pz.1, ev), some r1)

/-- The vectors of a quad, one after the other. -/
def runQuad (s : State) (k : Nat) (parity : Bool) : Nat → Core → VcRun → List Ev → (Core × List Ev) × Option VcRun
  | 0, c, r, ev => ((c, ev), some r)
  | n + 1, c, r, ev =>
    match runVector s k c r parity with
    | ((c1, ev1), none) => ((c1, ev ++ ev1), none)
    | ((c1, ev1), some r1) => runQuad s k parity n c1 r1 (ev ++ ev1)

/-- The beats of every vector of a quad have arrived (R113). -/
def quadReady (c : Core) (r : VcRun) (n : Nat) : Bool :=
  let cmd := r.ent.cmd
  (if vcXSrc cmd = 3 then decide (n ≤ c.drainQ.length)
   else vcXSrc cmd == 15 || decide (n * beatsPer (vcXFmt cmd) ≤ countFrom (vcSrcX cmd) c.vx)) &&
  (vcYSrc cmd == 15 || decide (n * beatsPer (vcYFmt cmd) ≤ countFrom (vcSrcY cmd) c.vy))

/-- Vectors of a quad that come from the drain queue: those there, at least one (R97, R113). -/
def quadOf (c : Core) (r : VcRun) : Nat :=
  if vcXSrc r.ent.cmd = 3 then min (quadSize r) (max 1 c.drainQ.length) else quadSize r

/-- VC_QUAD_START: output held is offered again; the next quad runs once its beats are present, while fewer than 8 vectors are
in flight; the command completes with its last output. A command that cannot issue counts in WAIT_OUT or WAIT_IN, a unit
without one in FLUSH or IDLE. `parity` is a parity error in the state the vectors read (R111, R113, R119, R121, R123,
R124, log 105). -/
def execVcQuadStart (core : Nat) (parity : Bool) (s : State) : Host.Outcome State Fault Refusal :=
  runLive core (fun s c0 =>
    let c := vcRelease s c0.vcHeld c0
    match c.vcRun with
    | none => (if c.vcq.isEmpty then bumpCore c (if c.vcHeld.isEmpty then 20 else 19) 1 else c, [])
    | some r =>
      let cmd := r.ent.cmd
      if vcOpc cmd ≠ 1 then (c, [])
      else
        let n := min (quadOf c r) (8 - c.vcHeld.length)
        match lutFault c r.ent.slot cmd with
        | some code => vcDiscard c r.ent code true
        | none =>
          if n = 0 then (bumpCore c 17 1, [])
          else if quadReady c r n then
            let par : Core × List Ev :=
              if parity then (bumpCore c 28 1, [.post evVecParity r.ent.slot noFld (vcTag cmd) 0 0 0, .suspect 1]) else (c, [])
            match runQuad s core parity n par.1 r par.2 with
            | ((c1, ev), none) => (c1, ev)
            | ((c1, ev), some r1) =>
              if r1.vec < vcVectors cmd then ({ c1 with vcRun := some r1 }, ev) else (vcIssued s c1 r1.ent, ev)
          else if (vcXSrc cmd ≤ 1 && vcUnder c (vcSrcX cmd) (countFrom (vcSrcX cmd) c.vx) (n * beatsPer (vcXFmt cmd))) ||
                  (vcYSrc cmd ≤ 1 && vcUnder c (vcSrcY cmd) (countFrom (vcSrcY cmd) c.vy) (n * beatsPer (vcYFmt cmd))) then
            (loseFiring (stopSlot { c with vcRun := none } r.ent.slot evVecUnderrun) r.ent.slot r.ent.firing,
              [.fault evVecUnderrun r.ent.slot noFld (vcTag cmd) 0 0 0])
          else (bumpCore c 18 1, [])) s

end Sys2Proof.Machine
end

