-- ==== Sys2Proof/Machine/Channel.lean ====
section
/-! DEFINITION. Channels (R160 to R184): injection under credit, arrival and order, spill, delivery into ports, frees and
credits, reduction rounds (R235 to R238) and the channel watchdog. -/

namespace Sys2Proof.Machine

/-! ### Injection (R165, R167, R168, R175, R236) -/

/-- The home basin of the core's slot (R16, R177). -/
def homeOf (c : Core) : Nat := c.slot.getD 0 / 1024 % 16

/-- GEN of a message: the generation of the sender's home basin, or the stored one of a REDUCE endpoint (R177). -/
def sendGen (s : State) (c : Core) (o : OutEp) : Nat :=
  if outKind o = 3 then o.gen else (basinAt s (homeOf c)).gen % 16

/-- The packet of a descriptor or token for one target (R165, R218, R220). -/
def msgPkt (s : State) (k : Nat) (c : Core) (o : OutEp) (x : Send) (t : Nat × Nat) : Pkt :=
  { blankPkt with
    vc := if outKind o = 2 then 5 else 0, kind := if x.kind = 0 then 4 else 5, dtype := 0, dst := t.1, srcCore := k,
    poison := x.poison, gen := sendGen s c o, lines := 1, chSeq := o.seq, dstEp := t.2, addr := 0, len := 64,
    ctx := ownerOf s (basinOf k), tslot := x.slot, srcSlot := c.slot.getD 0xFFFF,
    data := fitBytes 64 (leBytes (if x.kind = 0 then 16 else 8) x.data) }

/-- The descriptor or the token that a message packet carries from byte 0 of its first unit (R164, R218). -/
def msgWord (p : Pkt) : Nat := leNat (p.data.take (if p.kind = 5 then 8 else 16))

/-- One packet of a contribution: values 16 × `i` to 16 × `i` + 15, its last unit padded with zeros (R218, R236). -/
def redPkt (s : State) (k : Nat) (c : Core) (o : OutEp) (x : Send) (t : Nat × Nat) (npkt i : Nat) : Pkt :=
  let vs := (x.vals.drop (16 * i)).take 16
  { blankPkt with
    vc := 4, kind := 7, dtype := 0, dst := t.1, srcCore := k, poison := x.poison, gen := sendGen s c o,
    lines := ceilDiv (16 * vs.length) 64, chSeq := o.seq, dstEp := t.2, group := bits o.cfg 7 2, defBasin := bits o.cfg 11 8,
    anchor := x.data % 256, pkt := i, npkt := npkt, ncontrib := 1, len := 16 * vs.length, ctx := ownerOf s (basinOf k),
    tslot := x.slot, srcSlot := c.slot.getD 0xFFFF, data := fitBytes (64 * ceilDiv (16 * vs.length) 64) (vs.flatMap (leBytes 16)) }

/-- The packets of a send: the message with its targets, of which a multicast's ingress router makes one packet for each line
group, or the packets of one contribution (R168, R175, R234, R236). -/
def sendPkts (s : State) (k : Nat) (c : Core) (o : OutEp) (x : Send) : List Pkt :=
  if x.kind = 2 then
    let n := max 1 (ceilDiv x.vals.length 16)
    (o.targets.take 1).flatMap (fun t => (List.range n).map (redPkt s k c o x t n))
  else (o.targets.take 1).map (fun t => { msgPkt s k c o x t with mc := if outKind o = 2 then o.targets else [] })

/-- Bytes of a send in the log of a sampled firing (R387). -/
def sendBytes (x : Send) : List Byte :=
  if x.kind = 0 then leBytes 16 x.data else if x.kind = 1 then leBytes 8 x.data else x.vals.flatMap (leBytes 16)

/-- A slot held by a send goes on when none of its sends waits (R168). -/
def wakeSender (c : Core) (i : Nat) : Core :=
  let waiting := c.outEp.any (fun e => e.2.sendQ.any (fun x => x.slot == i && decide (x.kind ≤ 1)))
  if (slotAt c i).st = .credit ∧ waiting = false then putSlot c i { slotAt c i with st := .running } else c

/-- A station belongs to a set of basins: it runs there, or its slot's home is there (R19, R207, R209). -/
def inSet (bs : List Nat) (k : Nat) (c : Core) : Bool := bs.contains (basinOf k) || bs.contains (homeOf c)

/-- The core that a layout slot runs on, through the supervisor's map. -/
def coreOfSlot (s : State) (slot : Nat) : Option Nat :=
  (s.cores.find? (fun e => e.2.slot == some slot)).map (·.1)

/-- A slot's station belongs to a set of basins. -/
def slotIn (s : State) (bs : List Nat) (slot : Nat) : Bool :=
  bs.contains (slot / 1024 % 16) ||
  (match coreOfSlot s slot with
   | some k => bs.contains (basinOf k)
   | none => false)

/-- A send is held by a drain: its microbatch is past the cut, its target in the drained set, its sender outside
(R207 step 3). -/
def drainHold (s : State) (k : Nat) (c : Core) (o : OutEp) (x : Send) : Bool :=
  s.mesh.drains.any (fun d => !inSet d.basins k c && firesPerMb c != 0 && decide (d.cut ≤ x.firing / firesPerMb c) &&
    decide (d.ctx = ownerOf s (basinOf k)) && o.targets.any (fun t => slotIn s d.basins t.1)) ||
  (match s.rst.cur with
   | none => false
   | some r => r.stage == .partialDrain && decide (r.ctx = ownerOf s (basinOf k)) && !inSet r.set k c && firesPerMb c != 0 &&
       decide (r.cut < x.firing / firesPerMb c) && o.targets.any (fun t => slotIn s r.set t.1))

/-- MESSAGE_INJECT: the oldest send of an outbound endpoint takes one credit from every target and is injected with the
next CH_SEQ; without credit it waits and the cycle counts as CREDIT_STALL (R167, R168, R175). In a recomputation it only enters
the digest (R387, R388). -/
def execMessageInject (core ep : Nat) (s : State) : Host.Outcome State Fault Refusal :=
  runLive core (fun s c =>
    let o := outAt c ep
    match o.sendQ with
    | [] => (c, [])
    | x :: rest =>
      if c.replay.isNone ∧ drainHold s core c o x = true then ({ c with drainHeld := (c.drainHeld + 1) % 2 ^ 64 }, [])
      else if sendRoom c ep = 0 then (bumpOut c ep 1 1, [])
      else
        let ps := if c.replay.isSome then [] else (sendPkts s core c o x).map (fun p => { p with unit := some (7 + ep) })
        let c1 := putOut (bumpOut c ep 0 1) ep
          { o with sendQ := rest, credit := o.credit.map (· - 1), seq := (o.seq + 1) % 65536 }
        let c2 := logFor c1 x.firing (fun l => { l with msgs := l.msgs ++ [(ep, sendBytes x)] })
        (wakeSender { c2 with inj := c2.inj ++ ps, lastProgress := s.sup.ticks } x.slot, [])) s

/-! ### Arrival and spill (R171, R172, R183) -/

/-- Messages held in spill. -/
def spillCount (i : InEp) : Nat := i.spill.length

/-- A message placed in the position of R171; a spill write is a line served by the remote service port (R172). -/
def placeMsg (c : Core) (e : Nat) (m : ChMsg) : Core × List Ev :=
  let i := inAt c e
  let off := (m.seq + 65536 - i.h) % 65536
  let cap := inSpill i * 256
  let taken := if off < inQdepth i then tabHas i.fixed (m.seq % inQdepth i) else tabHas i.spill (m.seq % cap)
  if inCap i ≤ off || taken then (bumpIn c e 6 1, [.post evChannelOverrun (inOwner i) e noFld 0 0 0, .suspect 1])
  else if off < inQdepth i then (putIn c e { i with fixed := tabSet i.fixed (m.seq % inQdepth i) m }, [])
  else
    let a := localAddr c (inOwner i) (inSpillOff i + 16 * (m.seq % cap))
    let i' := { i with spill := tabSet i.spill (m.seq % cap) m }
    let c := bumpCore (spWrite c a ((leBytes 16 m.data).map (fun b => (b, m.poison)))) 70 1
    let c := bumpIn (putIn c e i') e 3 1
    ({ c with chCtr := bumpMax c.chCtr (7 * e + 4) (spillCount i') }, [])

/-- MESSAGE_ARRIVE: the next message that has reached the core enters its endpoint, after the generation check; a core
that a station moves to holds it (R171, R178). A parity error of the store entry poisons it (R183). -/
def execMessageArrive (core : Nat) (parity : Bool) (s : State) : Host.Outcome State Fault Refusal :=
  runLive core (fun _ c =>
    if c.holding then (c, [])
    else
      match c.arr.find? (fun p => p.kind == 4 || p.kind == 5) with
      | none => (c, [])
      | some p =>
        let c := { c with arr := c.arr.erase p }
        let i := inAt c p.dstEp
        if p.gen ≠ inExpect i then
          (bumpIn c p.dstEp 5 1, [.post evStaleGeneration (inOwner i) p.dstEp noFld p.gen (inExpect i) p.chSeq])
        else
          let m : ChMsg := { token := p.kind == 5, data := msgWord p, gen := p.gen, seq := p.chSeq, poison := p.poison || parity,
                             cmark := p.cmark }
          let z := placeMsg c p.dstEp m
          (z.1, z.2 ++ (if parity then [.post evChParity (inOwner i) p.dstEp noFld 0 0 0, .suspect 1] else []))) s

/-- The spilled message with the least offset. -/
def firstSpilled (i : InEp) : Option (Nat × ChMsg) :=
  i.spill.foldl (fun best e =>
    match best with
    | none => some e
    | some b => if (e.2.seq + 65536 - i.h) % 65536 < (b.2.seq + 65536 - i.h) % 65536 then some e else best) none

/-- SPILL_COPY: the first spilled message moves to its fixed entry once its offset is below QDEPTH; an uncorrectable
error of its entry poisons it, and the read is a line served by the remote service port (R171, R172). -/
def execSpillCopy (core ep : Nat) (ecc : List Ecc) (s : State) : Host.Outcome State Fault Refusal :=
  runLive core (fun _ c =>
    let i := inAt c ep
    match firstSpilled i with
    | none => (c, [])
    | some (pos, m) =>
      if inQdepth i ≤ (m.seq + 65536 - i.h) % 65536 then (c, [])
      else
        let z := eccRead c (localAddr c (inOwner i) (inSpillOff i + 16 * pos)) 16 ecc (inOwner i) noFld
        let m' : ChMsg := { m with data := leNat (z.1.map (·.1)), poison := m.poison || z.1.any (·.2) }
        (putIn (bumpCore z.2.1 70 1) ep { i with spill := tabDel i.spill pos, fixed := tabSet i.fixed (m.seq % inQdepth i) m' }, z.2.2)) s

/-! ### Delivery into ports (R173, R174) -/

/-- The running matrix command and the next one that binds the ports (R173). -/
def mxBound (c : Core) : List MxEnt :=
  (match c.mxRun with
   | none => []
   | some r => [r.ent]) ++ (c.mxq.filter (fun e => mxOpc e.cmd == 1)).take 1

/-- The running vector command and the next one that binds a half (R173). -/
def vcBound (c : Core) (p : Nat) : List VcEnt :=
  (match c.vcRun with
   | none => []
   | some r => [r.ent]) ++ (c.vcq.filter (fun e => vcBinds e.cmd p)).take 1

/-- The slot and firing of the command that names endpoint `e` for port `p`, running first. -/
def takerOf (c : Core) (e p : Nat) : Option (Nat × Nat) :=
  if p ≤ 1 then ((mxBound c).find? (fun x => mxNames x.cmd p == some e)).map (fun x => (x.slot, x.firing))
  else ((vcBound c p).find? (fun x => vcNames x.cmd p == some e)).map (fun x => (x.slot, x.firing))

/-- A command that names the endpoint for a port other than its PORT: its slot and TAG, and the core without it
(R173). -/
def portMismatch (c : Core) (e : Nat) : Option (Nat × Nat × Core) :=
  let p := inPort (inAt c e)
  match (mxBound c).find? (fun x => (p != 0 && mxNames x.cmd 0 == some e) || (p != 1 && mxNames x.cmd 1 == some e)) with
  | some x =>
    some (x.slot, mxTag x.cmd,
      loseFiring { c with mxRun := (match c.mxRun with
                                    | some r => if r.ent = x then none else some r
                                    | none => none),
                          mxq := c.mxq.erase x } x.slot x.firing)
  | none =>
    match ((vcBound c 2).find? (fun x => p != 2 && vcNames x.cmd 2 == some e)).or
          ((vcBound c 3).find? (fun x => p != 3 && vcNames x.cmd 3 == some e)) with
    | some x =>
      some (x.slot, vcTag x.cmd,
        loseFiring { c with vcRun := (match c.vcRun with
                                      | some r => if r.ent = x then none else some r
                                      | none => none),
                            vcq := c.vcq.erase x } x.slot x.firing)
    | none => none

/-- The head entry leaves its queue (R171, R184): h advances and the message counts as taken. -/
def takeHead (s : State) (c : Core) (e firing : Nat) (m : ChMsg) : Core :=
  let i := inAt c e
  { putIn (bumpIn c e 0 1) e
      { i with fixed := tabDel i.fixed (m.seq % inQdepth i), h := (i.h + 1) % 65536, taken := i.taken ++ [(m.seq, m.cmark)],
               takenNow := tabSet i.takenNow firing (tabGet i.takenNow firing 0 + 1) } with lastProgress := s.sup.ticks }

/-- The fetch unit of a port begins a message (R174): a poisoned one gives zero beats with poison. -/
def startFetch (c : Core) (u e : Nat) (m : ChMsg) : Core :=
  let len := bits m.data 71 48
  let x := strmAt c u
  if m.poison then
    putStrm c u { x with active := true, genDone := true, faulted := true, tainted := true, fetchEp := some e, fetchMsg := m.data,
                         pos := 0, buf := poisonZeros len }
  else
    putStrm c u { x with active := true, genDone := false, faulted := false, tainted := false, fetchEp := some e,
                         fetchMsg := m.data, pos := 0 }

/-- A message that its port takes: a token becomes a beat or is discarded, a descriptor goes to the fetch unit
(R40, R145, R173, R174). -/
def takeMsg (s : State) (c : Core) (e slot firing : Nat) (m : ChMsg) : Core × List Ev :=
  let i := inAt c e
  let p := inPort i
  let c1 := takeHead s c e firing m
  if m.token then
    if p = 2 ∨ p = 3 then
      let b := beatOf (2 + e) ((leBytes 8 m.data).map (fun b => (b, m.poison)))
      (logBeat (pushFifo c1 p b) firing p b, [])
    else (bumpCore c1 (if p = 4 then 62 else 14) 1, [.post evPortTokenInvalid slot e noFld 0 0 0])
  else if p = 4 ∧ m.poison then
    (stopSlot c1 (inOwner i) evPoisonedOperand,
      [.fault evPoisonedOperand (inOwner i) e (bits m.data 87 72) 0 0 0])
  else if bits m.data 71 48 = 0 then (c1, [])
  else (startFetch c1 (unitOfSrc p (2 + e)) e m, [])

/-- MESSAGE_TAKE: a port takes the head message of the endpoint, when a command bound to the port names it and the
port's fetch unit is free, and the FIFO has room for the first resulting beat (log 141); SCMD takes in queue order (R173, R174). A parity error of the entry poisons it (R183). -/
def execMessageTake (core ep : Nat) (ecc : List Ecc) (s : State) : Host.Outcome State Fault Refusal :=
  runLive core (fun s c =>
    match portMismatch c ep with
    | some (slot, tag, c') =>
      (stopSlot (bumpCore c' 76 1) slot evChPortMismatch, [.fault evChPortMismatch slot ep tag 0 0 0])
    | none =>
      let i := inAt c ep
      let p := inPort i
      let who := if p = 4 then some (inOwner i, (slotAt c (inOwner i)).firing) else takerOf c ep p
      match who with
      | none => (c, [])
      | some (slot, firing) =>
        match (if inQdepth i = 0 then none else i.fixed.find? (fun m => m.1 == i.h % inQdepth i)) with
        | none =>
          (if i.spill.any (fun m => m.2.seq == i.h) then bumpIn c ep 2 1 else if p = 4 then c else bumpIn c ep 1 1, [])
        | some (_, m) =>
          if (strmAt c (unitOfSrc p (2 + ep))).active then (c, [])
          else if (m.token || bits m.data 71 48 != 0) ∧ p ≠ 4 ∧ 16 ≤ (fifoOf c p).length then (c, [])
          else
            let bad := ecc.contains .ue
            let z := takeMsg s c ep slot firing { m with poison := m.poison || bad }
            (z.1, z.2 ++ (if bad then [.post evChParity (inOwner i) ep noFld 0 0 0, .suspect 1] else []))) s

/-! ### Frees and credits (R168, R169, R176) -/

/-- A reduction group's record in the layout (R235), by its defining basin and number. -/
def redEntry (s : State) (k group basin : Nat) : Option Nat :=
  match layoutOf s k with
  | none => none
  | some l => l.redgroup.find? (fun w => bits w 5 0 == group && bits w 9 6 == basin)

/-- The record of the group whose destination is an endpoint of this core. -/
def redDest (s : State) (k : Nat) (c : Core) (e : Nat) : Option Nat :=
  match layoutOf s k with
  | none => none
  | some l => l.redgroup.find? (fun w => some (bits w 37 24) == c.slot && bits w 42 38 == e)

/-- The core-local address of the landing slot of a round (R160, R176). -/
def landAddr (c : Core) (i : InEp) (seq : Nat) : Nat :=
  localAddr c (inOwner i) (inLandOff i + seq % inQdepth i * inLandSize i)

/-- A landing slot of empty values with the declared anchor (R238). -/
def emptyLanding (c : Core) (i : InEp) (seq anchor : Nat) : Core :=
  spWrite c (landAddr c i seq)
    (clean ((List.range (inLandSize i / 16)).flatMap (fun _ => leBytes 16 (esfPack { anchor := anchor }))))

/-- The oldest taken message may be freed: its port's fetch unit has received its last byte or, where a beat of it was poisoned
or refused, its last beat has entered the port FIFO (R169). -/
def mayFree (c : Core) (e : Nat) : Bool :=
  let i := inAt c e
  let x := strmAt c (unitOfSrc (inPort i) (2 + e))
  !i.taken.isEmpty &&
  (decide (1 < i.taken.length) || !(x.active && x.fetchEp == some e) ||
    (x.genDone && !x.faulted && !x.tainted && x.reqs.all (fun r => r.data.any (fun l => !l.any (·.2))) && !x.buf.any (·.2)))

/-- ENTRY_FREE: the oldest taken message of the endpoint is freed and its credit becomes pending; a reduction's landing
slot is set empty first (R168, R169, R176, R238). -/
def execEntryFree (core ep : Nat) (s : State) : Host.Outcome State Fault Refusal :=
  runLive core (fun s c =>
    let i := inAt c ep
    if !mayFree c ep then (c, [])
    else
      let c1 := putIn c ep { i with taken := i.taken.drop 1, pend := i.pend + 1, marks := i.marks ++ [(i.taken.headD (0, 0)).2],
                                    pendFrom := if i.pend = 0 then s.sup.ticks else i.pendFrom }
      if i.contribs.isEmpty then (c1, [])
      else (emptyLanding c1 i (i.taken.headD (0, 0)).1 (bits ((redDest s core c ep).getD 0) 23 16), [])) s

/-- A CREDIT packet (R220, R222): the sender's slot, its endpoint, the target's index, the count, the mark echoed. -/
def creditPkt (s : State) (k slot ep idx n cmark : Nat) : Pkt :=
  { blankPkt with vc := 2, kind := 6, dtype := 0, dst := slot, srcCore := k, cmark := cmark,
                  chSeq := ep + 32 * idx + 1024 * (n - 1), cnt := n, ctx := ownerOf s (basinOf k) }

/-- CREDIT_SEND: eight pending frees, or any once 32 cycles have passed, return to the sender, or to every contributor
of a reduction, with the largest mark of the messages it covers (R168, R176, R239). -/
def execCreditSend (core ep : Nat) (timeUp : Bool) (s : State) : Host.Outcome State Fault Refusal :=
  runLive core (fun s c =>
    let i := inAt c ep
    if i.pend = 0 || (i.pend < 8 && !timeUp) then (c, [])
    else
      let n := min i.pend 32
      let dests := if i.contribs.isEmpty then [i.feeder] else i.contribs.map (fun f => (f.1, f.2, 0))
      let ps := dests.map (fun f => creditPkt s core f.1 f.2.1 f.2.2 n (maxOf (i.marks.take n) 0))
      ({ putIn c ep { i with pend := i.pend - n, pendFrom := s.sup.ticks, marks := i.marks.drop n } with inj := c.inj ++ ps }, [])) s

/-- CREDIT_ARRIVE: a credit that has reached the core is added to its endpoint's count; RETIRED is the least count
returned, and its mark waits to be acted on (R168, R170, R239, R240). -/
def execCreditArrive (core : Nat) (s : State) : Host.Outcome State Fault Refusal :=
  runLive core (fun _ c =>
    if c.holding then (c, [])
    else
      match c.arr.find? (fun p => p.kind == 6) with
      | none => (c, [])
      | some p =>
        let e := bits p.chSeq 4 0
        let t := bits p.chSeq 9 5
        let n := bits p.chSeq 14 10 + 1
        let o := outAt c e
        let ret := setNth o.returned t (nth o.returned t 0 + n)
        (putOut (noteEcho { c with arr := c.arr.erase p } (7 + e) p.cmark) e
          { o with credit := setNth o.credit t (nth o.credit t 0 + n), returned := ret, winMark := max o.winMark p.cmark,
                   retired := match ret with
                              | [] => 0
                              | a :: l => l.foldl min a }, [])) s

/-! ### Reduction rounds (R176, R238) -/

/-- The round of an endpoint and CH_SEQ, new with the packet's NPKT. -/
def roundFor (c : Core) (p : Pkt) : Round :=
  (c.rounds.find? (fun r => r.ep == p.dstEp && r.seq == p.chSeq)).getD
    { ep := p.dstEp, seq := p.chSeq, npkt := p.npkt, got := 0, vals := 0, poison := false, cmark := 0 }

/-- A round replaced, or taken out. -/
def putRound (c : Core) (r : Round) (keep : Bool) : Core :=
  let l := c.rounds.filter (fun q => !(q.ep == r.ep && q.seq == r.seq))
  { c with rounds := if keep then l ++ [r] else l }

/-- Values added into the landing slot from that of packet `pkt` on, none past its end, through the remote service port: with
the outcomes of their codewords, and each line counted as served (R75, R130 to R132, R140, R238). -/
def addLanding (c : Core) (i : InEp) (seq pkt : Nat) (vs : List Nat) (ecc : List Ecc) : Core × List Ev :=
  let l := vs.take (inLandSize i / 16 - 16 * pkt)
  let z := addValues (inOwner i) l (bumpCore c 70 (ceilDiv (16 * l.length) 64)) (landAddr c i seq + 256 * pkt) ecc
  (z.1, z.2.1)

/-- A round whose contributions are all in: its descriptor message is made and enqueued, or a sum too large for its slot
writes nothing and is a layout fault (R176). -/
def roundDone (c : Core) (r : Round) (anchor : Nat) : Core × List Ev :=
  let i := inAt c r.ep
  let c1 := putRound c r false
  if inLandSize i < 16 * r.vals then
    (emptyLanding c1 i r.seq anchor, [.fault evChLandOverflow (inOwner i) r.ep noFld 0 0 0])
  else
    let addr := c.slot.getD 0 * 2 ^ 26 + inOwner i * 2 ^ 23 + (inLandOff i + r.seq % inQdepth i * inLandSize i)
    let m : ChMsg := { token := false, data := addr % 2 ^ 40 + 1 * 2 ^ 40 + 16 * r.vals * 2 ^ 48, gen := inExpect i,
                       seq := r.seq, poison := r.poison, cmark := r.cmark }
    placeMsg c1 r.ep m

/-- CONTRIBUTION_ARRIVE: a contribution packet is added into its round's landing slot; the last one completes the round.
A contribution with a foreign anchor is raised and counted with its first packet, a packet whose values disagree with its
header by itself; it counts in the watch record of the step that the context is in (R76, R130, R171, R176, R236, R238; log 46, 130). -/
def execContributionArrive (core : Reading) (s : State) : Host.Outcome State Fault Refusal :=
  let k := core.unit
  runLive k (fun s c =>
    if c.holding then (c, [])
    else
      match c.arr.find? (fun p => p.kind == 7) with
      | none => (c, [])
      | some p =>
        let c := { c with arr := c.arr.erase p }
        let i := inAt c p.dstEp
        let own := inOwner i
        let w := (redEntry s k p.group p.defBasin).getD 0
        let vs := vals16 (p.len / 16) p.data
        if p.gen ≠ inExpect i then (bumpIn c p.dstEp 5 1, [.post evStaleGeneration own p.dstEp noFld p.gen (inExpect i) p.chSeq])
        else if inQdepth i ≤ (p.chSeq + 65536 - i.h) % 65536 || tabHas i.fixed (p.chSeq % inQdepth i) then
          (bumpIn c p.dstEp 6 1, [.post evChannelOverrun own p.dstEp noFld 0 0 0, .suspect 1])
        else
          let r := roundFor c p
          if r.npkt ≠ p.npkt then
            (putRound c { r with poison := true } true, [.fault evRedShapeMismatch own p.dstEp noFld 0 0 0])
          else
            let foreign := !vs.isEmpty &&
              (p.anchor != bits w 23 16 || vs.any (fun v => bits v 111 104 != p.anchor))
            let r1 := { r with got := r.got + p.ncontrib, poison := r.poison || p.poison || foreign,
                               vals := max r.vals (if vs.isEmpty then 0 else 16 * p.pkt + vs.length),
                               cmark := max r.cmark p.cmark }
            let c1 := if foreign then (c, []) else addLanding c i p.chSeq p.pkt vs core.ecc
            let ev := c1.2 ++ if foreign && (p.pkt == 0 || p.anchor == bits w 23 16) then
                        [Ev.fault evEsfAnchorMismatch own p.dstEp noFld 0 0 0] ++
                          (if bitAt w 76 then
                             [Ev.obs (ctxAt s (ownerOf s (basinOf core.unit))).stepNum (bits w 75 64) none 0 0 0 p.ncontrib]
                           else [])
                      else []
            if i.contribs.length * r1.npkt ≤ r1.got then
              let z := roundDone c1.1 r1 (bits w 23 16)
              (z.1, ev ++ z.2)
            else (putRound c1.1 r1 true, ev)) s

/-! ### The channel watchdog (R179 to R181) -/

/-- T of a basin in ticks of 40 ns (R181). -/
def wdogTicks (s : State) (b : Nat) : Nat :=
  let v := (basinAt s b).wdog
  25 * (if v = 0 then 1000 else clampN 10 1000000 v)

/-- Endpoints of a core that a command or SCMD waits on with nothing at the head, and their feeders' cores. -/
def emptyWaits (s : State) (c : Core) : List (Nat × Nat) :=
  (List.range 32).flatMap (fun e =>
    let i := inAt c e
    if inQdepth i ≠ 0 ∧ inPort i ≠ 4 ∧ (takerOf c e (inPort i)).isSome ∧ !tabHas i.fixed (i.h % inQdepth i) then
      (if i.contribs.isEmpty then [(e, i.feeder.1)] else i.contribs.map (fun f => (e, f.1))).filterMap (fun x =>
        (coreOfSlot s x.2).map (fun k => (x.1, k)))
    else [])

/-- The outbound endpoint at which the matrix drain in hand waits for credit, if it does (R57, R64, R168). -/
def drainWaits (c : Core) : Option Nat :=
  match c.drains with
  | [] => none
  | d :: _ =>
    let ep := mxDrainEp d.ent.cmd
    if mxDrainTo d.ent.cmd = 2 ∧ (drainEmpty d.ent.cmd ∨ d.running ∧ mxM d.ent.cmd ≤ d.row + 1) ∧
        (sendRefusal (outAt c ep) d.ent.slot true).isNone ∧ minCredit (outAt c ep) ≤ (outAt c ep).sendQ.length
    then some ep else none

/-- Sends of core `k` that wait for credit, with the cores of the targets without credit; one that a drain holds is no
channel wait (R207 step 3). -/
def creditWaits (s : State) (k : Nat) (c : Core) : List (Nat × Nat × Nat) :=
  c.outEp.flatMap (fun o =>
    if (o.2.sendQ.take 1).all (drainHold s k c o.2) ∧ drainWaits c ≠ some o.1 then []
    else ((o.2.targets.zip o.2.credit).filter (fun t => t.2 == 0)).filterMap (fun t =>
      (coreOfSlot s t.1.1).map (fun k => (o.1, k, t.1.2))))

/-- A task slot of the core waits on a channel (R179). -/
def chanWait (s : State) (k : Nat) (c : Core) : Bool :=
  c.slot.isSome && !c.held && !((emptyWaits s c).isEmpty && (creditWaits s k c).isEmpty)

/-- The stall state of the cores as a read finds it: since which read each has waited on a channel (R179, R180; log 142). -/
def noteWaits (s : State) : State :=
  { s with cores := s.cores.map (fun e =>
      (e.1, { e.2 with waitFrom := if chanWait s e.1 e.2 then some (e.2.waitFrom.getD s.sup.ticks) else none })) }

/-- A core is stalled (R179): for a whole interval it has waited on a channel and has made no progress. -/
def stalled (s : State) (k : Nat) : Bool :=
  let c := coreAt s k
  match c.waitFrom with
  | none => false
  | some t =>
    chanWait s k c &&
    decide (wdogTicks s (basinOf k) ≤ s.sup.ticks - max (max t c.lastProgress) (basinAt s (basinOf k)).wdogFrom)

/-- The stalled cores that a stalled core waits on (R179). -/
def waitsOn (s : State) (l : List Nat) (k : Nat) : List Nat :=
  ((emptyWaits s (coreAt s k)).map (·.2) ++ (creditWaits s k (coreAt s k)).map (fun x => x.2.1)).filter (fun j => l.contains j)

/-- Cores reachable along the waits in at most `n` steps, the first step counted. -/
def reach (s : State) (l : List Nat) : Nat → List Nat → List Nat
  | 0, acc => acc
  | n + 1, acc => reach s l n (sortNat (acc ++ acc.flatMap (waitsOn s l)))

/-- The cores that lie on one cycle with `k`; none where `k` lies on no cycle (R180). -/
def cycleOf (s : State) (l : List Nat) (k : Nat) : List Nat :=
  let r := reach s l l.length (waitsOn s l k)
  if r.contains k then r.filter (fun j => (reach s l l.length (waitsOn s l j)).contains k) else []

/-- The channels of a cycle: sender slot, its endpoint, receiver endpoint, receiver slot, waiting side, credit,
occupancy (R180, R348). -/
def cycleChans (s : State) (cyc : List Nat) : List (Nat × Nat × Nat × Nat × Nat × Nat × Nat) :=
  let slot (k : Nat) : Nat := (coreAt s k).slot.getD 0xFFFF
  let occ (k e : Nat) : Nat := (inAt (coreAt s k) e).fixed.length + (inAt (coreAt s k) e).spill.length
  let snd := cyc.flatMap (fun k => ((creditWaits s k (coreAt s k)).filter (fun x => cyc.contains x.2.1)).map (fun x =>
    (slot k, x.1, x.2.2, slot x.2.1, 0, 0, occ x.2.1 x.2.2)))
  let rcv := cyc.flatMap (fun k => ((emptyWaits s (coreAt s k)).filter (fun x => cyc.contains x.2)).map (fun x =>
    let i := inAt (coreAt s k) x.1
    let f := if i.contribs.isEmpty then (i.feeder.2.1, i.feeder.2.2) else (((i.contribs.find? (fun f => f.1 == slot x.2)).map (·.2)).getD 0, 0)
    (slot x.2, f.1, x.1, slot k, 1, nth (outAt (coreAt s x.2) f.1).credit f.2 0, occ k x.1)))
  let both := snd.map (fun a => if rcv.any (fun b => a.1 = b.1 ∧ a.2.1 = b.2.1 ∧ a.2.2.1 = b.2.2.1 ∧ a.2.2.2.1 = b.2.2.2.1)
    then (a.1, a.2.1, a.2.2.1, a.2.2.2.1, 2, a.2.2.2.2.2.1, a.2.2.2.2.2.2) else a)
  both ++ rcv.filter (fun b => !snd.any (fun a => a.1 = b.1 ∧ a.2.1 = b.2.1 ∧ a.2.2.1 = b.2.2.1 ∧ a.2.2.2.1 = b.2.2.2.1))

/-- One entry of the CHANNEL_WEDGE record (R348). -/
def wedgeBytes (x : Nat × Nat × Nat × Nat × Nat × Nat × Nat) : List Byte :=
  leBytes 2 x.1 ++ leBytes 1 x.2.1 ++ leBytes 1 x.2.2.1 ++ leBytes 2 x.2.2.2.1 ++ leBytes 2 x.2.2.2.2.1 ++
    leBytes 4 x.2.2.2.2.2.1 ++ leBytes 4 x.2.2.2.2.2.2

/-- A wedge raised once for its cores: its record, and the reset of every basin that holds a core of the cycle (R180, R419). -/
def raiseWedge (s : State) (cyc : List Nat) : State :=
  let bs := sortNat (cyc.map basinOf)
  let n := ownerOf s (basinOf (cyc.headD 0))
  if cyc.all (fun k => (coreAt s k).wedged) then s
  else
    let ch := (cycleChans s cyc).take 64
    let s0 := forEach cyc (fun s k => putCore s k { coreAt s k with wedged := true }) s
    let s1 := forEach bs (fun s b => putBasin s b { basinAt s b with wedge := true }) s0
    let s2 := postMsg s1 n (bytesRec 4 ch.length cyc.length (maskOf bs) (ch.flatMap wedgeBytes))
    triggerReset s2 n bs 4 0xFFFF false

/-- The cycles among the stalled cores, each once, under its lowest core (R180). -/
def stallCycles (s : State) : List (List Nat) :=
  let l := (s.cores.map (·.1)).filter (stalled s)
  l.filterMap (fun k => if (cycleOf s l k).head? = some k then some (cycleOf s l k) else none)

/-- STALL_READ: the supervisor reads the cores' stall state, looks for cycles of waiting cores, and reports and resets
each one it finds (R179, R180). -/
def execStallRead (s : State) : Host.Outcome State Fault Refusal :=
  .next (forEach (stallCycles (noteWaits s)) raiseWedge (noteWaits s))

end Sys2Proof.Machine
end

