-- ==== Sys2Proof/Machine/Pages.lean ====
section
/-! DEFINITION. What the host areas of a context hold: its fields in force (R325), the session page table (R340), shard
copies (R365, R404, R405) and sessions reported lost (R412). -/

namespace Sys2Proof.Machine

/-! ### HST_IO_CFG and HST_SESS_POOL (R324, R325) -/

def ioBasin (g : CtxCfg) : Nat := bits g.ioCfg 3 0
def mbRing (g : CtxCfg) : Nat := 2 ^ bits g.ioCfg 7 4
def inUnits (g : CtxCfg) : Nat := bits g.ioCfg 15 8
def outUnits (g : CtxCfg) : Nat := bits g.ioCfg 23 16
def inOff (g : CtxCfg) : Nat := bits g.ioCfg 43 24 * 65536
def outOff (g : CtxCfg) : Nat := bits g.ioCfg 63 44 * 65536
def poolOff (g : CtxCfg) : Nat := bits g.sessPool 19 0
def poolPages (g : CtxCfg) : Nat := bits g.sessPool 39 20
def ptOff (g : CtxCfg) : Nat := bits g.sessPool 59 40 * 65536

/-- Bytes of the HBM space of a stack (R255). -/
def hbmSpace : Nat := 48000000000

/-- The pseudo-channel of an offset (R259). -/
def pcOf (a : Nat) : Nat := Nat.xor (Nat.xor (a / 256 % 32) (a / 256 / 32 % 32)) (a / 256 / 1024 % 32)

/-- The lines of a range counted by pseudo-channel, from counter `base` (R274). -/
def countLines (ctr : Tab Nat) (base a n : Nat) : Tab Nat :=
  if n = 0 then ctr
  else (List.range ((a + n - 1) / 64 - a / 64 + 1)).foldl (fun t i => bump t (base + pcOf ((a / 64 + i) * 64)) 1) ctr

/-- Bytes written into a stack; a codeword covered whole holds its correct check value, and one covered in part keeps the poison
pattern if it holds it (R132, R260). The lines count as written (R274). -/
def hbmWrite (s : State) (b a : Nat) (l : List Byte) : State :=
  let h := hbmAt s b
  putHbm s b { h with mem := memWrite h.mem a l, ctr := countLines h.ctr 32 a l.length,
                      poisonCw := h.poisonCw.filter (fun w => decide (w < a ∨ a + l.length < w + 16)) }

/-- Bytes of a stack, and whether one comes from a poison-pattern codeword. -/
def hbmRead (s : State) (b a n : Nat) : List Byte × Bool :=
  (memRead (hbmAt s b).mem a n,
    (hbmAt s b).poisonCw.any (fun w => decide (w < a + n) && decide (a < w + 16)))

/-- A read by the host port or the supervisor: its lines count as read, and its poison-pattern codewords (R261, R274). -/
def hbmFetch (s : State) (b a n : Nat) : (List Byte × Bool) × State :=
  let h := hbmAt s b
  let c := (h.poisonCw.filter (fun w => decide (w < a + n) && decide (a < w + 16))).foldl (fun t w => bump t (163 + pcOf w) 1) h.ctr
  (hbmRead s b a n, putHbm s b { h with ctr := countLines c 0 a n })

/-- Bytes copied from one stack to another by the supervisor; a poison-pattern codeword is copied as one (R132, R261). -/
def hbmCopy (s : State) (b a d o n : Nat) : State :=
  let r := hbmFetch s b a n
  let bad := (hbmAt s b).poisonCw.filterMap (fun w => if a ≤ w ∧ w + 16 ≤ a + n then some (w - a + o) else none)
  let s1 := hbmWrite r.2 d o r.1.1
  putHbm s1 d { hbmAt s1 d with poisonCw := sortNat ((hbmAt s1 d).poisonCw ++ bad) }

/-! ### The session page table (R340) -/

/-- A page table entry's 8 bytes; zero for none. -/
def pageWord (p : Option Page) : Nat :=
  match p with
  | none => 0
  | some g => g.basin + (g.mirror.getD 0) * 16 + 256 + b2n g.mirror.isSome * 512 + g.off % 2 ^ 20 * 65536

/-- A page table entry replaced, in the context and in IO_BASIN's HBM. -/
def writePage (s : State) (n page : Nat) (p : Option Page) : State :=
  let x := ctxAt s n
  let x' := { x with pages := match p with
                              | none => tabDel x.pages page
                              | some g => tabSet x.pages page g }
  hbmWrite (putCtx s n x') (ioBasin x.act) (ptOff x.act + 8 * page) (leBytes 8 (pageWord p))

/-- The pool page that a staged rebuild has taken in a basin (R411). -/
def stagedPage (b : Nat) : Staged → List Nat
  | .rebuilt _ _ c o => if c = b then [o] else []
  | .openSess _ _ _ _ _ _ => []
  | .reload _ _ _ => []
  | .peer _ _ _ _ _ => []
  | .ports _ _ _ _ => []
  | .closeSess _ => []

/-- Pool pages of a basin in use by a context's sessions, as primary or mirror or by a rebuild (R339, R411). -/
def usedPages (x : Ctx) (b : Nat) : List Nat :=
  x.pages.flatMap (fun e => (if e.2.basin = b then [e.2.off] else []) ++ (if e.2.mirror = some b then [e.2.moff] else [])) ++
    (x.due ++ x.staged).flatMap (stagedPage b)

/-- Free pool pages of a basin, lowest first (R339). -/
def freePages (x : Ctx) (b : Nat) : List Nat :=
  ((List.range (poolPages x.act)).map (· + poolOff x.act)).filter (fun o => !(usedPages x b).contains o)

/-- The session that owns a page number. -/
def sessOfPage (x : Ctx) (page : Nat) : Option Sess :=
  x.sessions.find? (fun t => decide (t.firstPage ≤ page) && decide (page < t.firstPage + t.npages))

/-! ### Lost sessions (R412) -/

/-- Sessions reported lost: their outstanding requests complete with SESSION_LOST, and one record or more lists them
(R341, R412). -/
def loseSessions (s : State) (n b : Nat) (ids : List Nat) : State :=
  if ids.isEmpty then s
  else
    let x := ctxAt s n
    let mark (t : Sess) : Sess := if ids.contains t.id then { t with lost := true, rebuilding := false } else t
    let req (r : Req) : Req := if ids.contains r.session ∧ r.aborted.isNone then { r with aborted := some 0x0D } else r
    let x' := { x with sessions := x.sessions.map mark,
                       mbs := x.mbs.map (fun m => if m.complete then m else { m with reqs := m.reqs.map req }) }
    let s1 := bumpTst (putCtx s n x') 23 ids.length
    forEach (List.range (ceilDiv ids.length 1016)) (fun s i =>
      let l := (ids.drop (1016 * i)).take 1016
      postMsg s n (bytesRec 10 l.length (b + 0xF * 16) (2 ^ b) (l.flatMap (leBytes 4)))) s1

/-! ### Shard copies (R365, R404 to R407) -/

/-- Bytes of a shard's place in a stack: offset and length. -/
def shardAt (h : Shard) : Nat × Nat := (h.hbmOff * 65536, h.length)

/-- A shard copy of context `n` that holds a byte range in basin `b`. -/
def shardOf (s : State) (n b a : Nat) : Option Shard :=
  match (ctxAt s n).wpkg with
  | none => none
  | some w => w.shards.find? (fun h => bitAt h.basins b && decide (h.hbmOff * 65536 ≤ a) && decide (a < h.hbmOff * 65536 + h.length))

/-- A copy of a shard in basin `b` is on hold (R404). -/
def onHold (s : State) (b n shard : Nat) : Bool := (hbmAt s b).holds.any (fun h => h.ctx == n && h.shard == shard)

/-- A basin holds a verified copy of a shard of a context (R366, R404). -/
def goodCopy (s : State) (n b : Nat) (h : Shard) : Bool :=
  bitAt h.good b && !onHold s b n h.id && !(hbmAt s b).withdrawn && (basinAt s b).ctx == some n

/-- A copy put on hold (R404). -/
def holdShard (s : State) (n b : Nat) (h : Shard) : State :=
  if onHold s b n h.id then s
  else putHbm s b { hbmAt s b with holds := (hbmAt s b).holds ++
    [{ ctx := n, shard := h.id, lo := h.hbmOff * 65536, len := h.length }] }

/-- The reload of a held copy asked for; without a verified copy in the module the host is asked to stage the shard
again, unless a digest partner holds one (R405). -/
def askReload (s : State) (n b : Nat) (h : Shard) : State :=
  let s1 := { s with heal := { s.heal with reloads := s.heal.reloads ++ [(n, b, h.id)] } }
  let here := (List.range 16).any (fun j => j != b && goodCopy s n j h)
  let there := s.fab.xchg.any (fun e => e.2.2.1 == h.id && e.2.2.2)
  if here || there then s1 else ctxEvent s1 n evShardReloadNeeded (2 ^ b) h.id h.basins 0

/-- A line of a shard copy written back from another verified copy of the module; kept for the time limit where there
is none (R407). -/
def restoreLine (s : State) (n b a : Nat) (h : Shard) : State :=
  match (List.range 16).find? (fun j => j != b && goodCopy s n j h && !(hbmRead s j (a / 64 * 64) 64).2) with
  | some j => hbmCopy s j (a / 64 * 64) b (a / 64 * 64) 64
  | none => putHbm s b { hbmAt s b with restores := (hbmAt s b).restores ++ [(n, h.id, a / 64 * 64)] }

/-- A line of a mirrored session page written back from its other copy (R409). -/
def repairPage (s : State) (n b a : Nat) : State :=
  let x := ctxAt s n
  match x.pages.find? (fun e => e.2.mirror.isSome &&
      ((e.2.basin == b && e.2.off == a / 65536) || (e.2.mirror == some b && e.2.moff == a / 65536))) with
  | none => s
  | some (_, g) =>
    let o := if g.basin = b ∧ g.off = a / 65536 then (g.mirror.getD 0, g.moff) else (g.basin, g.off)
    let r := hbmRead s o.1 (o.2 * 65536 + a % 65536 / 64 * 64) 64
    if r.2 then (hbmFetch s o.1 (o.2 * 65536 + a % 65536 / 64 * 64) 64).2
    else hbmCopy s o.1 (o.2 * 65536 + a % 65536 / 64 * 64) b (a / 64 * 64) 64

/-! ### A stack withdrawn (R271, R410, R411, R412) -/

/-- What a withdrawal does to one page of a context: the mirror takes over, or a mirror is missed, or the page is lost. -/
def pageAfter (b : Nat) (g : Page) : Option Page :=
  if g.basin = b then
    (match g.mirror with
     | some m => some { basin := m, mirror := none, off := g.moff, moff := 0 }
     | none => none)
  else if g.mirror = some b then some { g with mirror := none, moff := 0 }
  else some g

/-- The session pages of a context after the withdrawal of a stack (R410). -/
def withdrawPages (s : State) (n b : Nat) : State :=
  let x := ctxAt s n
  let hit := x.pages.filter (fun e => e.2.basin == b || e.2.mirror == some b)
  let lost := sortNat (hit.filterMap (fun e => if (pageAfter b e.2).isNone then (sessOfPage x e.1).map (·.id) else none))
  let reb := sortNat (hit.filterMap (fun e => (sessOfPage x e.1).map (·.id)))
  let s1 := forEach hit (fun s e =>
    match pageAfter b e.2 with
    | some g => writePage s n e.1 (some g)
    | none => s) s
  let y := ctxAt s1 n
  let s2 := putCtx s1 n { y with sessions := y.sessions.map (fun t =>
    if reb.contains t.id ∧ !lost.contains t.id then { t with rebuilding := true } else t) }
  loseSessions s2 n b lost

/-- A stack is withdrawn: it is out of service until power-on, its owner and the board are told, its queued requests are
refused and its contents count as lost (R271, R273, R410). -/
def withdrawStack (s : State) (b : Nat) : State :=
  if (hbmAt s b).withdrawn then s
  else
    let h := hbmAt s b
    let s1 := putHbm s b { h with withdrawn := true, inService := false, selfRef := false, inQ := h.queue ++ h.inQ, queue := [],
                                  wbq := [], holds := [], restores := [] }
    let s2 := raiseAlert (basinEvent s1 b evHbmWithdrawn 0 0 0) 1
    match (basinAt s b).ctx with
    | none => s2
    | some n => withdrawPages s2 n b

end Sys2Proof.Machine
end

