-- ==== Sys2Proof/Machine/Hbm.lean ====
section
/-! DEFINITION. HBM stacks (R253 to R274) and the rebuilding of session pages (R411). -/

namespace Sys2Proof.Machine

/-! ### Interleave (R259) -/

/-- The injection router of an offset: a router on the diagonal of the memory die (R259). -/
def hbmRouter (b a : Nat) : Nat := coreNo (b % 4 * 24 + pcOf a % 12) (b / 4 * 24 + pcOf a % 12)

/-- The address of line `i` of a pseudo-channel, in address order (R259, R263). -/
def pcLine (pc i : Nat) : Nat :=
  let j := i / 4
  (j * 32 + Nat.xor (Nat.xor pc (j % 32)) (j / 32 % 32)) * 256 + i % 4 * 64

/-- Lines of a pseudo-channel, the private area included (R253, R263). -/
def pcLines : Nat := 25165824

/-- A response offered at the injection router of its address. -/
def hbmAnswer (s : State) (b : Nat) (p : Pkt) (bytes : List (Byte × Bool)) (poison : Bool) (code : Nat) : State :=
  let k := hbmRouter b p.addr
  putCore s k (injAt (coreAt s k) k (answerTo p bytes poison code))

/-! ### Requests (R256, R257, R268, R269) -/

/-- Why a request is refused, in the order of the checks (R256); a controller that resets answers under R269. -/
def hbmRefusal (s : State) (b : Nat) (p : Pkt) : Option Nat :=
  let h := hbmAt s b
  if h.withdrawn then some evHbmWithdrawn
  else if (basinAt s b).ctx ≠ some p.ctx then some evHbmGrantFault
  else if hbmSpace < p.addr + p.len then some evHbmRange
  else if h.holds.any (fun x => decide (p.addr < x.lo + x.len) && decide (x.lo < p.addr + p.len)) then some evHbmShardHeld
  else none

/-- Two requests touch one line. -/
def sameLine (p q : Pkt) : Bool :=
  decide (p.addr / 64 ≤ (q.addr + q.len - 1) / 64) && decide (q.addr / 64 ≤ (p.addr + p.len - 1) / 64)

/-- Starts of the 16-byte codewords of a range. -/
def hbmCws (a n : Nat) : List Nat := if n = 0 then [] else (List.range ((a + n - 1) / 16 - a / 16 + 1)).map (fun i => (a / 16 + i) * 16)

/-- A write into the array: poisoned data, or a command that failed parity twice, stores the poison pattern in every codeword of the beat (R132, R262). -/
def hbmStore (h : Hbm) (p : Pkt) : Hbm :=
  let cws := hbmCws p.addr p.len
  { h with mem := memWrite h.mem p.addr p.data,
           poisonCw := sortNat (h.poisonCw.filter (fun w => !cws.contains w) ++
             if p.poison || p.pois.any id || p.refused != 0 then cws else []),
           wbq := h.wbq.filter (fun w => !cws.contains w),
           ctr := bump h.ctr (32 + pcOf p.addr) (ceilDiv p.len 64) }

/-- The writes of a queue that nothing ahead of them on their line holds back are performed (R257). -/
def hbmSettle (h : Hbm) : Hbm :=
  let r := h.queue.foldl (fun (z : Hbm × List Pkt) p =>
    if p.kind == 1 && !z.2.any (sameLine p) then (hbmStore z.1 p, z.2) else (z.1, z.2 ++ [p])) (h, [])
  { r.1 with queue := r.2 }

/-- A row noted for repair: correctable errors on distinct scrub passes are counted, an uncorrectable one is kept
(R261, R265). -/
def noteRowNo (h : Hbm) (r : Nat) (ue : Bool) : Hbm :=
  let n := tabGet h.notes r (0, 0, false)
  let n' : Nat × Nat × Bool :=
    if ue then (n.1, n.2.1, true)
    else if n.1 ≠ 0 ∧ n.2.1 = h.scrubPass then n else (n.1 + 1, h.scrubPass, n.2.2)
  { h with notes := tabSet h.notes r n' }

/-- The row of an address noted. -/
def noteRow (h : Hbm) (a : Nat) (ue : Bool) : Hbm := noteRowNo h (Config.rowOf a) ue

/-- One codeword's outcome at an address (R261). -/
def hbmCw (s : State) (b a : Nat) (e : Ecc) : State :=
  let h := hbmAt s b
  match e with
  | .ok => s
  | .ce => putHbm s b (noteRow { h with ctr := bump h.ctr (99 + pcOf a) 1, wbq := h.wbq ++ [a] } a false)
  | .ue =>
    let s1 := putHbm s b (noteRow { h with ctr := bump h.ctr (131 + pcOf a) 1 } a true)
    let s2 := basinEvent s1 b evHbmUncorrectable b a (pcOf a)
    let n := ownerOf s b
    match shardOf s n b a with
    | some sh => restoreLine s2 n b a sh
    | none => repairPage s2 n b a

/-- HBM_REQUEST: the next request at the controller is checked and queued; a write is acknowledged once it is in the
ordered queue. A stack in self-refresh first wakes. `caFails` is how often its command failed parity: once is retried, a second
failure is an uncorrectable error on the request's line (R254, R256, R257, R268, R269, R271). -/
def execHbmRequest (basin caFails : Nat) (s : State) : Host.Outcome State Fault Refusal :=
  runUnit basin 16 (fun s =>
    let h := hbmAt s basin
    match h.inQ with
    | [] => s
    | p :: rest =>
      if h.selfRef && !h.withdrawn && !h.resetting then s
      else
        let s1 := putHbm s basin { h with inQ := rest, ctr := if caFails = 0 then h.ctr else bump h.ctr 203 1 }
        if h.resetting && !h.withdrawn then hbmAnswer s1 basin p (poisonZeros p.len) true evHbmResetLost
        else
          match hbmRefusal s basin p with
          | some code => hbmAnswer (bumpHbm s1 basin 98 1) basin p (poisonZeros p.len) true code
          | none =>
            let h1 := hbmAt s1 basin
            let p := { p with refused := if caFails < 2 then 0 else 1 }
            let s2 := putHbm s1 basin (hbmSettle { h1 with queue := h1.queue ++ [p] })
            let s3 := if caFails < 2 then s2 else hbmCw s2 basin (p.addr / 16 * 16) .ue
            if p.kind = 1 then hbmAnswer s3 basin p [] false 0 else s3) s

/-- The first request of a kind that no earlier request of its line holds back, and the queue without it (R257). -/
def hbmNext (kind : Nat) : List Pkt → List Pkt → Option (Pkt × List Pkt)
  | _, [] => none
  | ahead, p :: rest =>
    if p.kind == kind && !ahead.any (sameLine p) then some (p, ahead ++ rest) else hbmNext kind (ahead ++ [p]) rest

/-! ### Read outcomes (R261, R265) -/

/-- The outcomes of a line's codewords and the on-die reports, counted and acted on (R261). -/
def hbmOutcomes (s : State) (b a n : Nat) (ecc : LineEcc) : State :=
  let pois := ((hbmCws a n).filter (fun w => (hbmAt s b).poisonCw.contains w)).length
  let s1 := forEach ((hbmCws a n).zip ecc.cw) (fun s we => if (hbmAt s b).poisonCw.contains we.1 then s else hbmCw s b we.1 we.2) s
  let s2 := if pois = 0 then s1 else bumpHbm s1 b (163 + pcOf a) pois
  let s3 := if ecc.odCe then bumpHbm s2 b 195 1 else s2
  if ecc.odUe then bumpHbm s3 b 196 1 else s3

/-- Pseudo-channels of the requests of a queue, each once. -/
def busyPcs (l : List Pkt) : List Nat := sortNat (l.map (fun p => pcOf p.addr))

/-- Requests that wait while their pseudo-channel is busy with another, a refresh or a repair count once for each such time in
HBM_QUEUE_STALL (R274; log 143). -/
def stallQueue (h : Hbm) (pc : Nat) : Hbm :=
  if (busyPcs h.queue).contains pc then { h with ctr := bump h.ctr (66 + pc) 1 } else h

/-- HBM_READ_COMPLETE: the next read's codewords are decoded; data is delivered, corrected, or poisoned as a whole beat
(R257, R261). -/
def execHbmReadComplete (basin : Nat) (ecc : LineEcc) (rowMiss : Bool) (s : State) : Host.Outcome State Fault Refusal :=
  runUnit basin 16 (fun s =>
    match hbmNext 0 [] (hbmAt s basin).queue with
    | none => s
    | some (p, rest) =>
      let r := hbmRead s basin p.addr p.len
      let bad := r.2 || ecc.cw.contains .ue || p.refused != 0
      let h := hbmAt s basin
      let c1 := bump h.ctr (pcOf p.addr) (ceilDiv p.len 64)
      let s1 := putHbm s basin (hbmSettle <| stallQueue (pc := pcOf p.addr) { h with queue := rest, ctr := if rowMiss then bump c1 65 1 else c1 })
      let s2 := hbmAnswer s1 basin p (r.1.map (fun x => (x, bad))) bad 0
      hbmOutcomes s2 basin p.addr p.len ecc) s

/-- LINE_RESTORE_TIMEOUT: no verified copy supplied the line in time, so the copy goes on hold and is reloaded
(R404, R405, R407). -/
def execLineRestoreTimeout (basin : Nat) (s : State) : Host.Outcome State Fault Refusal :=
  runUnit basin 16 (fun s =>
    match (hbmAt s basin).restores with
    | [] => s
    | (n, id, _) :: rest =>
      let s1 := putHbm s basin { hbmAt s basin with restores := rest }
      match (ctxAt s n).wpkg with
      | none => s1
      | some w =>
        match w.shards.find? (fun h => h.id == id) with
        | none => s1
        | some sh => if onHold s1 basin n id then s1 else askReload (holdShard s1 n basin sh) n basin sh) s

/-- HBM_WRITE_BACK: the oldest corrected codeword is written back. One that a newer write covered has left the queue
already (R262). -/
def execHbmWriteBack (basin : Nat) (s : State) : Host.Outcome State Fault Refusal :=
  runUnit basin 16 (fun s => putHbm s basin { hbmAt s basin with wbq := (hbmAt s basin).wbq.drop 1 }) s

/-- HBM_SUM_INTO: the next sum-into reads, adds and writes its values under one hold of the line, one codeword each with its own
outcome; one that reads as uncorrectable or as the poison pattern is stored with that pattern, and the write of a corrected one
takes the place of its write-back (R75, R76, R258, R261, R262). -/
def execHbmSumInto (basin : Nat) (ecc : LineEcc) (s : State) : Host.Outcome State Fault Refusal :=
  runUnit basin 16 (fun s =>
    match hbmNext 8 [] (hbmAt s basin).queue with
    | none => s
    | some (p, rest) =>
      let n := p.data.length / 16
      let old := vals16 n (memRead (hbmAt s basin).mem p.addr (16 * n))
      let new := (old.zip (sumVals p)).map (fun v => sumInto16 v.1 v.2)
      let cws := hbmCws p.addr (16 * n)
      let bad (i : Nat) : Bool := p.refused != 0 || nth ecc.cw i .ok == .ue || (hbmAt s basin).poisonCw.contains (nth cws i 0)
      let h := hbmAt (hbmOutcomes s basin p.addr (16 * n) ecc) basin
      let h1 : Hbm := { h with queue := rest, ctr := bump h.ctr 64 n, wbq := h.wbq.filter (fun w => !cws.contains w),
                               mem := memWrite h.mem p.addr (new.flatMap (fun v => leBytes 16 v.1)),
                               poisonCw := sortNat (h.poisonCw.filter (fun w => !cws.contains w) ++
                                 ((List.range cws.length).filter bad).map (fun i => nth cws i 0)) }
      let s1 := hbmAnswer (putHbm (hbmOutcomes s basin p.addr (16 * n) ecc) basin (hbmSettle (stallQueue h1 (pcOf p.addr))))
        basin p [] false 0
      if (List.range n).any (fun i => !bad i && (nth new i (0, false)).2) then
        triggerReset (basinEvent s1 basin evEsfAnchorMismatch 0 0 0) (ownerOf s basin) [basin] evEsfAnchorMismatch 0xFFFF true
      else s1) s

/-! ### Scrub, repair, refresh, recalibration, self-refresh (R263 to R268) -/

/-- A scrub pass that every pseudo-channel has ended: the pass number advances, and the rows that the on-die error log names are
noted (R264, R265). -/
def endPass (h : Hbm) (log : List Nat) : Hbm :=
  if (List.range 32).all (fun pc => decide (pcLines ≤ tabGet h.scrubPos pc 0)) then
    { log.foldl (fun h r => noteRowNo h r false) h with scrubPos := [], scrubPass := h.scrubPass + 1 }
  else h

/-- HBM_SCRUB: the next line of a pseudo-channel is read, with its outcomes, in a cycle in which no request of that
pseudo-channel waits unless it is forced; a stack in self-refresh or in a reset is not read. The on-die error log is read
where the pass ends (R263, R264, R268, R269, R273). -/
def execHbmScrub (basin pc : Nat) (read : ScrubRead) (forced : Bool) (s : State) : Host.Outcome State Fault Refusal :=
  if 32 ≤ pc then .fault .noSuchUnit
  else runUnit basin 16 (fun s =>
    let h := hbmAt s basin
    let i := tabGet h.scrubPos pc 0
    if h.withdrawn || h.selfRef || h.resetting || decide (pcLines ≤ i) ||
        (!forced && (busyPcs (h.queue ++ h.inQ)).contains pc) then s
    else
      let c := bump h.ctr 197 1
      let h1 := { h with scrubPos := tabSet h.scrubPos pc (i + 1), ctr := if forced then bump c 198 1 else c }
      let s1 := hbmOutcomes (putHbm s basin h1) basin (pcLine pc i) 64 read.line
      putHbm s1 basin (endPass (hbmAt s1 basin) read.log)) s

/-- A row's notes call for its repair: correctable errors on three passes, or an uncorrectable one that recurs when the line is
rewritten and read back (R265). -/
def repairDue (h : Hbm) (row : Nat) (recurs : Bool) : Bool :=
  let n := tabGet h.notes row (0, 0, false)
  decide (3 ≤ n.1) || (n.2.2 && recurs)

/-- The note of an uncorrectable error that did not recur taken off. -/
def clearUe (h : Hbm) (row : Nat) : Hbm :=
  let n := tabGet h.notes row (0, 0, false)
  if n.2.2 then { h with notes := if n.1 = 0 then tabDel h.notes row else tabSet h.notes row (n.1, n.2.1, false) } else h

/-- ROW_REPAIR: a row that calls for it is moved, repaired and written back with its bytes kept, the codewords that cannot be
corrected with the poison pattern; where its bank has no spare row
left it stays, and that is raised once for the bank (R265). -/
def execRowRepair (basin row bank : Nat) (found : RowFound) (s : State) : Host.Outcome State Fault Refusal :=
  runUnit basin 16 (fun s =>
    let h := hbmAt s basin
    if !repairDue h row found.recurs then putHbm s basin (clearUe h row)
    else if found.spareLeft then
      putHbm s basin { h with notes := tabDel h.notes row, ctr := bump h.ctr 199 1,
                              poisonCw := sortNat (h.poisonCw ++ found.lost.filter (fun a => a % 16 == 0 && Config.rowOf a == row)) }
    else if h.usedSpares.contains bank then s
    else basinEvent (putHbm s basin { h with usedSpares := h.usedSpares ++ [bank] }) basin evHbmSpareExhausted 0 0 0) s

/-- REFRESH: a per-bank refresh of a pseudo-channel; it decides when a request is served, not what it returns
(R266). -/
def execRefresh (basin pc : Nat) (s : State) : Host.Outcome State Fault Refusal :=
  if 32 ≤ pc then .fault .noSuchUnit
  else runUnit basin 16 (fun s => putHbm s basin { stallQueue (hbmAt s basin) pc with refreshing := [pc] }) s

/-- RECALIBRATION: a channel recalibrates; one that fails twice in a row raises HBM_PHY_FAULT and withdraws the stack
(R267, R271). -/
def execRecalibration (basin ch : Nat) (forced ok : Bool) (s : State) : Host.Outcome State Fault Refusal :=
  if 16 ≤ ch then .fault .noSuchUnit
  else runUnit basin 16 (fun s =>
    let h := hbmAt s basin
    if h.withdrawn then s
    else
      let c := bump h.ctr 200 1
      let c := if forced then bump c 201 1 else c
      if ok then putHbm s basin { h with ctr := c, recalTries := tabDel h.recalTries ch }
      else if tabGet h.recalTries ch 0 = 0 then putHbm s basin { h with ctr := c, recalTries := tabSet h.recalTries ch 1 }
      else withdrawStack (basinEvent (putHbm s basin { h with ctr := c }) basin evHbmPhyFault 0 0 0) basin) s

/-- SELF_REFRESH_ENTRY: a stack without requests enters self-refresh, where automatic entry is enabled (R268). -/
def execSelfRefreshEntry (basin : Nat) (s : State) : Host.Outcome State Fault Refusal :=
  runUnit basin 16 (fun s =>
    let h := hbmAt s basin
    if h.withdrawn || h.selfRef || h.srCfg == 0 || !h.queue.isEmpty || !h.inQ.isEmpty then s
    else putHbm s basin { h with selfRef := true, ctr := bump h.ctr 202 1 }) s

/-- SELF_REFRESH_EXIT: a request, or the hourly scrub, wakes the stack (R268). -/
def execSelfRefreshExit (basin : Nat) (s : State) : Host.Outcome State Fault Refusal :=
  runUnit basin 16 (fun s => putHbm s basin { hbmAt s basin with selfRef := false }) s

/-- STACK_WITHDRAW: a stack that cannot train, whose PHY failed or whose base die is retired is withdrawn (R270, R271). -/
def execStackWithdraw (basin : Nat) (cause : WithdrawCause) (s : State) : Host.Outcome State Fault Refusal :=
  runUnit basin 16 (fun s =>
    match cause with
    | .training => withdrawStack s basin
    | .phy => withdrawStack s basin
    | .baseDie => withdrawStack (putDie s (memDie basin) { dieAt s (memDie basin) with baseOk := false }) basin) s

/-! ### Rebuilding session pages (R411) -/

/-- Every microbatch that holds a request of a session has completed (R411 step 2). -/
def sessionIdle (x : Ctx) (id : Nat) : Bool :=
  x.mbs.all (fun m => m.complete || m.reqs.all (fun r => r.session != id || r.aborted.isSome))

/-- The basin for a new mirror: granted, in service, not a basin of the page, with the most free pool pages, the lowest
number among equals (R411). -/
def mirrorBasin (s : State) (n : Nat) (g : Page) : Option Nat :=
  let x := ctxAt s n
  ((grantOf s n).filter (fun b => b != g.basin && b != partner g.basin && !(hbmAt s b).withdrawn)).foldl (fun best b =>
    if (freePages x b).isEmpty then best
    else
      match best with
      | none => some b
      | some d => if (freePages x d).length < (freePages x b).length then some b else best) none

/-- One page copied to a new mirror, its entry staged for the next step boundary; without a free page it stays
unmirrored (R411). -/
def rebuildPage (s : State) (n id : Nat) (page : Nat) (g : Page) : State :=
  match mirrorBasin s n g with
  | none => ctxEvent s n evSessionUnmirrored (maskOf (grantOf s n)) id page 0
  | some b =>
    match freePages (ctxAt s n) b with
    | [] => s
    | o :: _ =>
      let s1 := hbmCopy s g.basin (g.off * 65536) b (o * 65536) 65536
      putCtx s1 n { ctxAt s1 n with staged := (ctxAt s1 n).staged ++ [.rebuilt id page b o] }

/-- A page of the session has a staged rebuild. -/
def pageStaged (x : Ctx) (page : Nat) : Bool :=
  (x.due ++ x.staged).any (fun e =>
    match e with
    | .rebuilt _ p _ _ => p == page
    | .openSess _ _ _ _ _ _ => false
    | .reload _ _ _ => false
    | .peer _ _ _ _ _ => false
    | .ports _ _ _ _ => false
    | .closeSess _ => false)

/-- SESSION_REBUILD: the pages of a session whose last placed microbatch has completed are copied to new mirrors; the
entries change at the next step boundary (R411). -/
def execSessionRebuild (ctx : Nat) (s : State) : Host.Outcome State Fault Refusal :=
  runUnit ctx 16 (fun s =>
    let x := ctxAt s ctx
    match x.sessions.find? (fun t => t.rebuilding && !t.lost && sessionIdle x t.id) with
    | none => s
    | some t =>
      let ps := x.pages.filter (fun e => decide (t.firstPage ≤ e.1) && decide (e.1 < t.firstPage + t.npages) &&
        e.2.mirror.isNone && !pageStaged x e.1)
      let s1 := forEach ps (fun s e => rebuildPage s ctx t.id e.1 e.2) s
      let y := ctxAt s1 ctx
      if ps.any (fun e => pageStaged y e.1) then s1
      else putCtx s1 ctx { y with sessions := y.sessions.map (fun u => if u.id = t.id then { u with rebuilding := false } else u) }) s

end Sys2Proof.Machine
end

