-- ==== Sys2Proof/Machine/Mesh.lean ====
section
/-! DEFINITION. The bulk mesh (R217 to R242): injection and translation, hops, ejection, gaps, epochs,
drain sweeps and congestion windows. -/

namespace Sys2Proof.Machine

/-! ### The placement map (R17, R18, R21, R23) -/

/-- The key of a slot's entry in a bank of a mirror. -/
def placeKey (bank : Bool) (slot : Nat) : Nat := b2n bank * 16384 + slot

/-- The majority of three copies; none where all differ (R18). -/
def vote3 (t : Nat × Nat × Nat) : Option Nat :=
  if t.1 = t.2.1 ∨ t.1 = t.2.2 then some t.1 else if t.2.1 = t.2.2 then some t.2.1 else none

/-- All three copies agree. -/
def agree3 (t : Nat × Nat × Nat) : Bool := t.1 == t.2.1 && t.1 == t.2.2

/-- A placement entry (R17). -/
def placeWord (core : Option Nat) : Nat :=
  match core with
  | none => 0
  | some k => k % 16384 + 16384

/-- A slot's entry written in one bank of every mirror. -/
def writePlace (s : State) (bank : Bool) (slot : Nat) (core : Option Nat) : State :=
  let w := placeWord core
  forEach (List.range 16) (fun s b =>
    let x := basinAt s b
    putBasin s b { x with place := if w = 0 then tabDel x.place (placeKey bank slot)
                                   else tabSet x.place (placeKey bank slot) (w, w, w) }) s

/-- A slot's entry written in both banks. -/
def writePlaces (s : State) (slot : Nat) (core : Option Nat) : State :=
  writePlace (writePlace s false slot core) true slot core

/-- What a translation finds: a core, no placement, or a vote failure (R18, R23). -/
inductive Found where
  | core (k : Nat)
  | unmapped
  | voteFail
  deriving DecidableEq, Repr

/-- The entry of a slot in basin `b`'s mirror, voted; a copy that disagrees is rewritten and counted (R18). -/
def readPlace (s : State) (b : Nat) (bank : Bool) (slot : Nat) : Found × State :=
  let x := basinAt s b
  let t := tabGet x.place (placeKey bank slot) (0, 0, 0)
  match vote3 t with
  | none => (.voteFail, s)
  | some w =>
    let s1 := if agree3 t then s
              else putBasin s b { x with place := tabSet x.place (placeKey bank slot) (w, w, w),
                                         placeVoteFix := (x.placeVoteFix + 1) % 2 ^ 64 }
    if bitAt w 14 = false then (.unmapped, s1)
    else if nCores ≤ w % 16384 then (.voteFail, s1)
    else (.core (w % 16384), s1)

/-- PLACE_VOTE_FAIL: its event, the suspicion of the core that runs the slot, and the rewriting of the entry from the
supervisor's own record (R18, R378). -/
def placeFail (s : State) (b : Nat) (bank : Bool) (slot : Nat) : State :=
  let s1 := postEvent s (ownerOf s (slot / 1024 % 16)) evPlaceVoteFail (2 ^ (slot / 1024 % 16)) slot
    noFld noFld noFld noFld b 0 0
  let k := coreOfSlot s slot
  let s2 := match k with
            | some k => suspectCore s1 k 1
            | none => s1
  let x := basinAt s2 b
  let w := placeWord k
  putBasin s2 b { x with place := if w = 0 then tabDel x.place (placeKey bank slot)
                                  else tabSet x.place (placeKey bank slot) (w, w, w) }

/-! ### Ports (R278, R281) -/

/-- Attach routers of the Wewell ports (R278). -/
def attachXY : List (Nat × Nat) :=
  [(12, 0), (0, 12), (30, 0), (41, 0), (54, 0), (65, 0), (84, 0), (95, 12)] ++
  [(95, 30), (95, 41), (95, 54), (95, 65), (95, 84), (84, 95), (65, 95), (54, 95)] ++
  [(41, 95), (30, 95), (12, 95), (0, 84), (0, 65), (0, 54), (0, 41), (0, 30)]

/-- The core whose router port `p` attaches to (R278). -/
def attachCore (p : Nat) : Nat := coreNo (nth attachXY p (0, 0)).1 (nth attachXY p (0, 0)).2

/-- The core whose router the host port attaches to (R477). -/
def hostAttach : Nat := 6

/-- The port for an endpoint and window offset out of a set (R281). -/
def choosePort (e a set : Nat) : Option Nat :=
  let ports := bitList 24 set
  if ports.isEmpty then none else ports[(e + a / 512) % ports.length]?

/-! ### Counting (R231, R232, R252) -/

/-- A packet counted as injected at its ingress router. -/
def countInj (s : State) (k : Nat) (epoch : Bool) (dstBasin : Nat) : State :=
  bumpRouter (bumpRouter s k (73 + b2n epoch) 1) k (77 + dstBasin) 1

/-- A packet counted as ejected at a router: it reached its unit, or a rule discarded it (R231). -/
def countEj (s : State) (k : Nat) (epoch : Bool) (srcBasin : Nat) : State :=
  bumpRouter (bumpRouter s k (75 + b2n epoch) 1) k (93 + srcBasin) 1

/-- A packet discarded at a router. -/
def discardAt (s : State) (k : Nat) (p : Pkt) : State :=
  countEj { s with mesh := { s.mesh with net := s.mesh.net.filter (fun q => q.id != p.id) } } k p.epoch (basinOf p.srcCore)

/-- A packet header holds a reserved value (R220). Request units of 16 and above stand for the engine of port `unit - 16`, which
R220 gives no number (log 145). -/
def hdrBad (p : Pkt) : Bool :=
  p.rsvBad || decide (5 < p.vc) || decide (8 < p.kind) || decide (3 < p.dtype) || decide (4 < p.lines) ||
  (p.dtype == 2 && decide (15 < p.dst)) || (p.dtype == 3 && decide (24 < p.dst)) || decide (3 < p.cmark) ||
  (decide (8 < p.reqUnit) && decide (p.reqUnit < 16))

/-! ### Injection (R21 to R23, R222, R281) -/

/-- Flits of a packet (R218). -/
def flitsOf (p : Pkt) : Nat := max 1 (ceilDiv p.lines 2)

/-- The neighbour of a router in a direction; none at the edge of the grid. -/
def neighbour (k : Nat) (d : Dir) : Option Nat :=
  match d with
  | .east => if coreX k < 95 then some (k + 1) else none
  | .west => if 0 < coreX k then some (k - 1) else none
  | .north => if coreY k < 95 then some (k + 96) else none
  | .south => if 0 < coreY k then some (k - 96) else none

/-- Number of an output (R445). -/
def dirNo (d : Dir) : Nat :=
  match d with
  | .east => 0
  | .west => 1
  | .north => 2
  | .south => 3

/-- The direction of an output's number. -/
def dirOf (o : Nat) : Dir := if o = 0 then .east else if o = 1 then .west else if o = 2 then .north else .south

/-- The input at which a packet that leaves by an output enters the next router. -/
def opposite (o : Nat) : Nat := if o = 0 then 1 else if o = 1 then 0 else if o = 2 then 3 else 2

/-- Flits in the buffer of a router's input and virtual channel (R241). -/
def bufUse (s : State) (k inp vc : Nat) : Nat :=
  sumOf ((s.mesh.net.filter (fun q => q.at_ == k && q.inp == inp && q.vc == vc)).map flitsOf)

/-- A router at which an interface attaches (R241, R259, R477). -/
def isAttach (k : Nat) : Bool :=
  (List.range 24).any (fun p => attachCore p == k) || k == hostAttach ||
  (decide (coreX k % 24 < 12) && coreX k % 24 == coreY k % 24)

/-- Flits that the buffer of a router's input and virtual channel holds (R241). -/
def bufferFlits (k vc : Nat) : Nat := if vc = 0 ∨ vc = 2 then (if isAttach k then 32 else 8) else 4

/-- Occupancy and size of the buffer that an output's virtual channel leads into: the input buffer of the next router
(R239, R241, R242; log 146). -/
def outUse (s : State) (k o vc : Nat) : Nat :=
  match neighbour k (dirOf o) with
  | none => 0
  | some j => bufUse s j (opposite o) vc
def outCap (k o vc : Nat) : Nat :=
  match neighbour k (dirOf o) with
  | none => 0
  | some j => bufferFlits j vc

/-- Free buffer space of an output's virtual channel (R224, R225). -/
def outFree (s : State) (k o vc : Nat) : Nat := outCap k o vc - outUse s k o vc

/-- The largest level of an output's occupancy kept until the next sample: min(15, floor(16 × occupancy)) (R242). -/
def notePeak (s : State) (k o vc : Nat) : State :=
  let lv := min 15 (16 * outUse s k o vc / max 1 (outCap k o vc))
  if (routerAt s k).peak < lv then putRouter s k { routerAt s k with peak := lv } else s

/-- A die stack is a hard gap (R223). -/
def isGap (s : State) (d : Nat) : Bool := decide ((dieAt s d).gapReason ≠ 0)

/-- A packet stamped, translated to a router and put into the mesh (R222). -/
def enterNet (s : State) (k dest : Nat) (p : Pkt) : State :=
  let q := { p with id := s.mesh.nextId, epoch := stampOf s k, srcCore := k, dstCore := dest, at_ := k, inp := 4, waited := 0 }
  let s1 := { s with mesh := { s.mesh with net := s.mesh.net ++ [q], nextId := s.mesh.nextId + 1 } }
  countInj s1 k q.epoch (basinOf dest)

/-- A packet discarded at its ingress router: it counts as injected and ejected. -/
def dropIngress (s : State) (k : Nat) : State :=
  countEj (countInj s k (stampOf s k) (basinOf k)) k (stampOf s k) (basinOf k)

/-- A packet to a slot that is not placed: discarded at its ingress router, counted and raised (R23). -/
def unmappedAt (s : State) (k slot : Nat) : State :=
  postEvent (dropIngress (bumpRouter s k 63 1) k) (ownerOf s (basinOf k)) evSlotUnmapped (2 ^ basinOf k) slot
    noFld noFld noFld k 0 0 0

/-- A GLOBAL request refused where it is issued (R281, R283). -/
def refuseHere (s : State) (k : Nat) (p : Pkt) (code : Nat) : State :=
  let c := coreAt s k
  putCore s k { c with arr := c.arr ++ [refusePkt p code] }

/-- The port of a GLOBAL request: the context's port set decides (R281). -/
def globalPort (s : State) (p : Pkt) : Option Nat :=
  choosePort (bits p.addr 63 44) (bits p.addr 43 0) (ctxAt s p.ctx).portSet

/-- The attach router of an interface: a Wewell port, or 24 the host port (R220, R222, R278, R477). -/
def attachOf (i : Nat) : Nat := if i = 24 then hostAttach else attachCore i

/-! ### Injection windows (R240) -/

/-- The window of a unit (0 to 6) or of outbound endpoint `unit - 7`: W, and the windows for which echoes are still ignored. -/
def winOf (c : Core) (unit : Nat) : Nat × Nat :=
  if unit < 7 then ((strmAt c unit).w, (strmAt c unit).echoOff) else ((outAt c (unit - 7)).w, (outAt c (unit - 7)).echoOff)

/-- A unit's window replaced. -/
def putWin (c : Core) (unit w off : Nat) : Core :=
  if unit < 7 then putStrm c unit { strmAt c unit with w := w, echoOff := off }
  else putOut c (unit - 7) { outAt c (unit - 7) with w := w, echoOff := off }

/-- The flits that a unit has injected in its running window of 64 cycles, and the largest echo in it. -/
def winUse (c : Core) (unit : Nat) : Nat × Nat :=
  if unit < 7 then ((strmAt c unit).flits, (strmAt c unit).winMark) else ((outAt c (unit - 7)).flits, (outAt c (unit - 7)).winMark)

/-- A unit's running window replaced. -/
def putUse (c : Core) (unit flits mark : Nat) : Core :=
  if unit < 7 then putStrm c unit { strmAt c unit with flits := flits, winMark := mark }
  else putOut c (unit - 7) { outAt c (unit - 7) with flits := flits, winMark := mark }

/-- A packet fits the running window of its unit; the first of a window always does, so that a packet of more flits than W is
not held for ever (R240; log 147). -/
def winRoom (c : Core) (p : Pkt) : Bool :=
  match p.unit with
  | none => true
  | some u => (winUse c u).1 == 0 || decide ((winUse c u).1 + flitsOf p ≤ (winOf c u).1)

/-- A packet's flits counted in the running window of its unit. -/
def winAdd (c : Core) (p : Pkt) : Core :=
  match p.unit with
  | none => c
  | some u => putUse c u ((winUse c u).1 + flitsOf p) (winUse c u).2

/-! ### Line groups (R234) -/

/-- The gaps of the col tables that an epoch selects (R226, R227). -/
def gapsOf (s : State) (epoch : Bool) : List Nat := if epoch then s.mesh.gaps1 else s.mesh.gaps0

/-- The third core follows on one row or one column behind the first and the second. -/
def inLine (a b c : Nat) : Bool :=
  let mono (x y z : Nat) : Bool := (decide (x ≤ y) && decide (y ≤ z)) || (decide (y ≤ x) && decide (z ≤ y))
  (coreY a == coreY b && coreY b == coreY c && mono (coreX a) (coreX b) (coreX c)) ||
  (coreX a == coreX b && coreX b == coreX c && mono (coreY a) (coreY b) (coreY c))

/-- No hard gap of the tables lies between two cores of one row or column. -/
def lineClear (gaps : List Nat) (a b : Nat) : Bool :=
  !gaps.any (fun d => decide (min (coreX a) (coreX b) / 12 ≤ d % 8) && decide (d % 8 ≤ max (coreX a) (coreX b) / 12) &&
    decide (min (coreY a) (coreY b) / 12 ≤ d / 8) && decide (d / 8 ≤ max (coreY a) (coreY b) / 12))

/-- The core that a bank of a mirror places a slot at. -/
def placedAt (s : State) (b : Nat) (bank : Bool) (slot : Nat) : Option Nat :=
  match (readPlace s b bank slot).1 with
  | .core k => some k
  | .unmapped => none
  | .voteFail => none

/-- The targets of the first line group of a list behind its first target `a`, of which `b` is the last taken: they follow on one
line with no hard gap between, and the supervisor takes them together (R234; log 21). -/
def groupTail (s : State) (k : Nat) (bank : Bool) (a : Nat) : Nat → List (Nat × Nat) → Nat
  | _, [] => 0
  | b, t :: l =>
    match placedAt s (basinOf k) bank t.1 with
    | none => 0
    | some c =>
      if inLine a b c && lineClear (gapsOf s bank) a c && Config.lineJoin b c then groupTail s k bank a c l + 1 else 0

/-- The packet of a line group: the message in unit 0 and the target entries in the units that follow (R218, R234). -/
def groupPkt (p : Pkt) (g : List (Nat × Nat)) : Pkt :=
  let e := g.flatMap (fun t => leBytes 4 (t.1 % 16384 + t.2 % 32 * 16384))
  { p with mc := g, dst := (g.headD (0, 0)).1, dstEp := (g.headD (0, 0)).2, lines := 1 + ceilDiv e.length 64,
           data := fitBytes 64 p.data ++ fitBytes (64 * ceilDiv e.length 64) e }

/-! ### PACKET_INJECT -/

/-- A packet translated and put into the mesh: the placement mirror, a core number, the interleave of HBM, or the named interface
gives its destination router; a GLOBAL request's interface is named here (R222, R281). -/
def injectPkt (s : State) (k : Nat) (p : Pkt) : State :=
  match p.dtype with
  | 0 =>
    let f := readPlace s (basinOf k) (stampOf s k) p.dst
    (match f.1 with
     | .core d => enterNet f.2 k d p
     | .unmapped => unmappedAt f.2 k p.dst
     | .voteFail => placeFail (unmappedAt f.2 k p.dst) (basinOf k) (stampOf s k) p.dst)
  | 1 => enterNet s k p.dst p
  | 2 => enterNet s k (hbmRouter p.dst p.addr) p
  | _ =>
    if p.dst = 31 then
      (match globalPort s p with
       | none => refuseHere s k p evFabNoPort
       | some q => enterNet s k (attachCore q) { p with dst := q })
    else enterNet s k (attachOf p.dst) p

/-- The packet that enters next of a waiting one, and what of it still waits: a multicast enters one line group at a time. -/
def nextGroup (s : State) (k : Nat) (p : Pkt) : Pkt × List Pkt :=
  if p.vc = 5 then
    let n := match placedAt s (basinOf k) (stampOf s k) p.dst with
             | none => 1
             | some a => groupTail s k (stampOf s k) a a (p.mc.drop 1) + 1
    let rest := p.mc.drop n
    (groupPkt p (p.mc.take n),
      if rest.isEmpty then [] else [{ p with mc := rest, dst := (rest.headD (0, 0)).1, dstEp := (rest.headD (0, 0)).2 }])
  else (p, [])

/-- A waiting list with a packet's place taken by what is left of it. -/
def putRest (p : Pkt) (rest : List Pkt) : List Pkt → List Pkt
  | [] => []
  | q :: l => if q = p then rest ++ l else q :: putRest p rest l

/-- PACKET_INJECT: the oldest packet of a router's interface that its unit's injection window lets pass enters, where the router's
injection buffer has room: it is stamped with the epoch and its destination router is written (R217, R222, R234, R240, R241). -/
def execPacketInject (core : Nat) (s : State) : Host.Outcome State Fault Refusal :=
  runUnit core nCores (fun s =>
    let c := coreAt s core
    match c.inj.find? (winRoom c) with
    | none => s
    | some p =>
      let g := nextGroup s core p
      if isGap s (dieOf core) ∨ bufferFlits core p.vc < bufUse s core 4 p.vc + flitsOf g.1 then s
      else injectPkt (putCore s core { winAdd c g.1 with inj := putRest p g.2 c.inj }) core g.1) s

/-! ### Hops (R219, R220, R224 to R227, R237, R239, R394) -/

/-- The output leads closer to the destination and not into a hard gap (R224). -/
def minimalOk (s : State) (p : Pkt) (j : Nat) : Bool :=
  decide (hopDist j p.dstCore < hopDist p.at_ p.dstCore) && (dieOf j == dieOf p.at_ || !isGap s (dieOf j))

/-- The col output at a router toward a destination: the table until the destination die, then east or west, then north
or south (R226). -/
def colOut (gaps : List Nat) (k dest : Nat) : Option Nat :=
  if dieOf k ≠ dieOf dest then (Config.colTable gaps k (dieOf dest)).map (·.val)
  else if coreX k < coreX dest then some 0
  else if coreX dest < coreX k then some 1
  else if coreY k < coreY dest then some 2
  else if coreY dest < coreY k then some 3
  else none

/-- The outputs that bring an adaptive packet closer to its destination and do not lead into a hard gap, east or west first
(R224). -/
def minimalOuts (s : State) (p : Pkt) : List Nat :=
  (List.range 4).filter (fun o =>
    match neighbour p.at_ (dirOf o) with
    | none => false
    | some j => minimalOk s p j)

/-- The output that an adaptive packet takes: the one with more free buffer space, east or west on a tie (R224). -/
def adaptiveOut (s : State) (p : Pkt) : Option Nat :=
  (minimalOuts s p).foldl (fun best o =>
    match best with
    | none => some o
    | some b => if outFree s p.at_ b p.vc < outFree s p.at_ o p.vc then some o else best) none

/-- The straight way along the line of a multicast packet (R234). -/
def lineOut (k dest : Nat) : Option Nat :=
  if coreX k < coreX dest then some 0
  else if coreX dest < coreX k then some 1
  else if coreY k < coreY dest then some 2
  else if coreY dest < coreY k then some 3
  else none

/-- The output that a packet waits for (R224, R226, R234). -/
def wantsOut (s : State) (p : Pkt) : Option Nat :=
  if p.vc = 0 ∨ p.vc = 2 then adaptiveOut s p
  else if p.line then lineOut p.at_ p.dstCore
  else colOut (gapsOf s p.epoch) p.at_ p.dstCore

/-- The congestion level of an output's virtual channel: how many thresholds its occupancy reaches (R239). -/
def markLevel (s : State) (k o vc : Nat) : Nat :=
  let occ := 100 * outUse s k o vc / max 1 (outCap k o vc)
  b2n (decide (bits s.mesh.thr 6 0 ≤ occ)) + b2n (decide (bits s.mesh.thr 14 8 ≤ occ)) + b2n (decide (bits s.mesh.thr 22 16 ≤ occ))

/-- Two contributions may merge: they wait for the same output of a router and agree in the six fields of R237. -/
def mayMerge (s : State) (p q : Pkt) : Bool :=
  p.id != q.id && q.kind == 7 && q.at_ == p.at_ && wantsOut s q == wantsOut s p && (wantsOut s p).isSome && q.group == p.group &&
  q.defBasin == p.defBasin && q.chSeq == p.chSeq && q.pkt == p.pkt && q.npkt == p.npkt && q.anchor == p.anchor

/-- Values added in pairs; what the longer list has beyond the other stands as it is (R75). -/
def addVals : List Nat → List Nat → List Nat
  | a :: l, b :: m => esfPack (esfAdd (esfUnpack a) (esfUnpack b)) :: addVals l m
  | [], m => m
  | l, [] => l

/-- The merged contribution (R75, R237). -/
def mergePkt (p q : Pkt) : Pkt :=
  let vs := addVals (vals16 (p.len / 16) p.data) (vals16 (q.len / 16) q.data)
  { p with data := fitBytes (64 * ceilDiv (16 * vs.length) 64) (vs.flatMap (leBytes 16)), len := 16 * vs.length,
           lines := ceilDiv (16 * vs.length) 64, ncontrib := p.ncontrib + q.ncontrib, poison := p.poison || q.poison,
           cmark := max p.cmark q.cmark }

/-- A packet replaced in the mesh. -/
def putPkt (s : State) (p : Pkt) : State :=
  { s with mesh := { s.mesh with net := s.mesh.net.map (fun q => if q.id = p.id then p else q) } }

/-- A contribution merged with the first other that waits with it (R237). -/
def tryMerge (s : State) (p : Pkt) : State × Pkt :=
  if p.kind ≠ 7 then (s, p)
  else
    match s.mesh.net.find? (mayMerge s p) with
    | none => (s, p)
    | some q =>
      let m := mergePkt p q
      (putPkt (bumpRouter (discardAt s p.at_ q) p.at_ 61 1) m, m)

/-- Forwarding at a router of a fenced die: the destination core becomes the one that now runs the slot (R394). -/
def forwardTo (s : State) (k dest : Nat) : Option Nat :=
  if dieOf k = dieOf dest then
    ((dieAt s (dieOf k)).forwarding.find? (fun f => f.1 == dest)).map (·.2)
  else none

/-- GAP_PACKET_LOSS to each context that owns a basin to be reset, and the resets (R227, R419). -/
def gapLoss (s : State) (d count : Nat) (sets : Nat → List Nat) : State :=
  let mask := maskOf ((List.range 16).flatMap sets)
  forEach (List.range 16) (fun s n =>
    if (sets n).isEmpty then s
    else triggerReset (ctxEvent s n evGapPacketLoss mask d count mask) n (sets n) evGapPacketLoss 0xFFFF false) s

/-- A packet whose col output leads into a new gap is discarded, and the basins it concerns are reset (R227). -/
def gapDrop (s : State) (p : Pkt) (d : Nat) : State :=
  let s1 := bumpRouter (discardAt s p.at_ p) p.at_ 65 1
  let s2 := { s1 with mesh := { s1.mesh with gapDrops := bump s1.mesh.gapDrops d 1 } }
  let bs := [basinOf p.srcCore, basinOf p.dstCore]
  gapLoss s2 d (min (tabGet s2.mesh.gapDrops d 0) (2 ^ 64 - 1)) (fun n => sortNat (bs.filter (fun b => (basinAt s b).ctx == some n)))

/-- A packet moved over a link, with its flits counted and its mark raised to the channel's level (R239, R242, R252). -/
def movePkt (s : State) (p : Pkt) (j o : Nat) : State :=
  let lv := markLevel s p.at_ o p.vc
  let s1 := notePeak
    (bumpRouter (putPkt s { p with at_ := j, inp := opposite o, waited := 0, cmark := max p.cmark lv }) p.at_ (6 * o + p.vc) (flitsOf p))
    p.at_ o p.vc
  if p.cmark < lv then bumpRouter s1 p.at_ (69 + lv) 1 else s1

/-- A head flit without buffer space at its output waits a cycle (R225, R252). -/
def stallPkt (s : State) (p : Pkt) (o : Nat) : State :=
  bumpRouter (putPkt s { p with waited := p.waited + 1 }) p.at_ (30 + 6 * o + p.vc) 1

/-- One hop of a packet whose header is sound and that has not arrived, in the direction that its router takes (R224 to R227,
R234, R241). -/
def hopPkt (s : State) (p : Pkt) (dir : Dir) : State :=
  match neighbour p.at_ dir with
  | none => s
  | some j =>
    if wantsOut s p ≠ some (dirNo dir) then s
    else if p.vc ≠ 0 ∧ p.vc ≠ 2 ∧ dieOf j ≠ dieOf p.at_ ∧ isGap s (dieOf j) then gapDrop s p (dieOf j)
    else if outFree s p.at_ (dirNo dir) p.vc < flitsOf p then stallPkt s p (dirNo dir)
    else movePkt s p j (dirNo dir)

/-- A packet whose header holds a reserved value is discarded, counted and raised, and its ingress core is suspect (R220). -/
def badHeader (s : State) (p : Pkt) : State :=
  let s1 := bumpRouter (discardAt s p.at_ p) p.at_ 64 1
  suspectCore (basinEvent s1 (basinOf p.at_) evMeshHdrInvalid 0 0 0) p.srcCore 1

/-- The routers of a col path, the first and the last included, walked for at most `fuel` hops (R226). -/
def colPath (gaps : List Nat) : Nat → Nat → Nat → List Nat
  | 0, k, _ => [k]
  | fuel + 1, k, dest =>
    match (if k = dest then none else colOut gaps k dest) with
    | none => [k]
    | some o =>
      match neighbour k (dirOf o) with
      | none => [k]
      | some j => k :: colPath gaps fuel j dest

/-- PACKET_HOP: a router checks the header, forwards at a fenced die, merges contributions where it can, and sends the packet on
by the output that it takes, or counts a cycle without buffer space there (R220, R224 to R227, R237, R252, R394). A direction
that the router does not take moves nothing. -/
def execPacketHop (id : Nat) (dir : Dir) (s : State) : Host.Outcome State Fault Refusal :=
  .next (match s.mesh.net.find? (fun p => p.id == id) with
    | none => s
    | some p =>
      if hdrBad p then badHeader s p
      else
        match (if p.mc.length ≤ 1 then forwardTo s p.at_ p.dstCore else none) with
        | some j => hopPkt (putPkt s { p with dstCore := j }) { p with dstCore := j } dir
        | none =>
          let m := tryMerge s p
          hopPkt m.1 m.2 dir)

/-- MESH_COL_WAIT; zero is taken as 32 (R225). -/
def colWaitOf (s : State) : Nat := if s.mesh.colWait = 0 then 32 else s.mesh.colWait

/-- An adaptive packet moves into the col: every minimal output is excluded, or it has waited MESH_COL_WAIT cycles without space
on any of them while its col output has space (R225). -/
def mayEnterCol (s : State) (p : Pkt) : Bool :=
  (p.vc == 0 || p.vc == 2) && p.at_ != p.dstCore &&
  ((minimalOuts s p).isEmpty ||
   (decide (colWaitOf s ≤ p.waited) && (minimalOuts s p).all (fun o => decide (outFree s p.at_ o p.vc < flitsOf p)) &&
    (match colOut (gapsOf s p.epoch) p.at_ p.dstCore with
     | none => false
     | some o => decide (flitsOf p ≤ outFree s p.at_ o (p.vc + 1)))))

/-- COL_ENTRY: an adaptive packet whose minimal outputs are excluded, or that has waited MESH_COL_WAIT cycles, moves
into the col (R225). -/
def execColEntry (id : Nat) (s : State) : Host.Outcome State Fault Refusal :=
  .next (match s.mesh.net.find? (fun p => p.id == id) with
    | none => s
    | some p =>
      if mayEnterCol s p then bumpRouter (putPkt s { p with vc := p.vc + 1, waited := 0 }) p.at_ 60 1 else s)

/-! ### Ejection (R22, R141, R251) -/

/-- A packet for another slot than the core's is discarded, counted and raised (R22). -/
def misdeliver (s : State) (k : Nat) : State :=
  let c := coreAt s k
  let s1 := putCore s k { c with misdeliver := (c.misdeliver + 1) % 2 ^ 64 }
  suspectCore (postEvent s1 (ownerOf s (basinOf k)) evPlacementMismatch (2 ^ basinOf k) (c.slot.getD 0xFFFF)
    noFld noFld noFld k 0 0 0) k 1

/-- A packet delivered to the units of a core (R22, R141, R157, R251). -/
def deliverCore (s : State) (k : Nat) (p : Pkt) : State :=
  let c := coreAt s k
  if c.held then
    (match p.kind with
     | 0 => putCore s k { c with svc := c.svc ++ [p] }
     | 1 => putCore s k { c with svc := c.svc ++ [p] }
     | 8 => putCore s k { c with svc := c.svc ++ [p] }
     | 2 => putCore s k (bumpCore c 63 1)
     | 3 => putCore s k (bumpCore c 63 1)
     | _ => putCore s k (bumpCore c 75 1))
  else if p.dtype = 0 ∧ c.slot ≠ some p.dst then misdeliver s k
  else
    (match p.kind with
     | 0 => putCore s k { c with svc := c.svc ++ [p] }
     | 1 => putCore s k { c with svc := c.svc ++ [p] }
     | 8 => putCore s k { c with svc := c.svc ++ [p] }
     | _ => putCore s k { c with arr := c.arr ++ [p] })

/-- What a multicast packet still carries once it has left a copy: the entries behind the first placed one (R234). -/
def lineRest (s : State) (p : Pkt) : Option Pkt :=
  match (p.mc.drop 1).dropWhile (fun t => (placedAt s (basinOf p.srcCore) p.epoch t.1).isNone) with
  | [] => none
  | t :: l =>
    some { p with mc := t :: l, dst := t.1, dstEp := t.2, line := true,
                  dstCore := (placedAt s (basinOf p.srcCore) p.epoch t.1).getD p.at_ }

/-- A copy left at a router of a fenced die goes on as a packet of its own to the core that runs the slot now (R234, R394). -/
def forwardCopy (s : State) (p : Pkt) (j : Nat) : State :=
  let q := { p with id := s.mesh.nextId, vc := 0, mc := [], dstCore := j, inp := 4, waited := 0, lines := 1, line := false }
  countInj { s with mesh := { s.mesh with net := s.mesh.net ++ [q], nextId := s.mesh.nextId + 1 } } p.at_ p.epoch (basinOf j)

/-- A multicast packet at a target leaves that target's copy and runs on along the line; with its last copy it is ejected
(R231, R234). -/
def leaveCopy (s : State) (p : Pkt) : State :=
  let s1 := bumpRouter s p.at_ 62 1
  let s2 := match lineRest s p with
            | none => bumpRouter (discardAt s1 p.at_ p) p.at_ (24 + p.vc) (flitsOf p)
            | some q => putPkt s1 q
  match forwardTo s p.at_ p.dstCore with
  | some j => forwardCopy s2 p j
  | none => deliverCore s2 p.at_ { p with mc := [] }

/-- PACKET_EJECT: a packet at its destination router reaches the core's unit, the stack's controller or the port's
engine; a fenced die forwards it instead, and a reserved header is discarded here too (R22, R220, R222, R231, R234, R394). -/
def execPacketEject (id : Nat) (s : State) : Host.Outcome State Fault Refusal :=
  .next (match s.mesh.net.find? (fun p => p.id == id) with
    | none => s
    | some p =>
      if p.at_ ≠ p.dstCore then s
      else if hdrBad p then badHeader s p
      else if p.vc = 5 then leaveCopy s p
      else
        match (if p.dtype ≤ 1 ∧ p.reqUnit < 16 then forwardTo s p.at_ p.dstCore else none) with
        | some j => putPkt s { p with dstCore := j }
        | none =>
          let s3 := bumpRouter (discardAt s p.at_ p) p.at_ (24 + p.vc) (flitsOf p)
          if p.dtype = 2 then putHbm s3 p.dst { hbmAt s3 p.dst with inQ := (hbmAt s3 p.dst).inQ ++ [p] }
          else if p.dtype = 3 then
            (if p.dst < 24 then putPort s3 p.dst { portAt s3 p.dst with inQ := (portAt s3 p.dst).inQ ++ [p] } else s3)
          else if 16 ≤ p.reqUnit ∧ (p.kind = 2 ∨ p.kind = 3) then
            putPort s3 (p.reqUnit - 16) { portAt s3 (p.reqUnit - 16) with inQ := (portAt s3 (p.reqUnit - 16)).inQ ++ [p] }
          else deliverCore s3 p.at_ p)

/-! ### Faults of links and dies (R13, R219, R223, R227) -/

/-- FLIT_REPLAY: a CRC error makes the sender replay a flit (R219). -/
def execFlitReplay (core : Nat) (dir : Dir) (s : State) : Host.Outcome State Fault Refusal :=
  runUnit core nCores (fun s => bumpRouter s core (66 + dirNo dir) 1) s

/-- The smallest rectangle of basins that holds a context's basins and those of its ports contains basin `b` (R227). -/
def inRectangle (s : State) (n b : Nat) : Bool :=
  let bs := grantOf s n ++ (bitList 24 (ctxAt s n).portSet).map (fun p => basinOf (attachCore p)) ++ [basinOf hostAttach]
  let xs := bs.map (· % 4)
  let ys := bs.map (· / 4)
  xs.any (fun x => decide (x ≤ b % 4)) && xs.any (fun x => decide (b % 4 ≤ x)) &&
  ys.any (fun y => decide (y ≤ b / 4)) && ys.any (fun y => decide (b / 4 ≤ y))

/-- A die's cores become FENCED and the module's good cores are counted anew (R25, R26, R33). -/
def fenceDie (s : State) (d : Nat) : State := forEach (coresOfDie d) fenceCore s

/-- A die is retired: its event, its counter and its ledger record (R26, R30, R393, R415). -/
def retireDie (s : State) (d reason : Nat) (cmd : Option (Nat × Nat × Nat × Bool × Nat)) : State :=
  let s1 := fenceDie (putDie s d { dieAt s d with retired := true }) d
  let s2 := bumpTst (basinEvent s1 (basinOfDie d) evDieRetired d reason (goodAll s1)) 19 1
  evalReplaceAll (askLedger s2 2 reason d 0 cmd)

/-- A die stack becomes a hard gap (R223, R227): routing excludes it at once, what its routers hold is lost, its die is
retired, the stack and sync engine of a memory die go with it, new col tables are staged, and the basins concerned are
reset. -/
def gapOne (s : State) (d reason : Nat) : State :=
  if isGap s d then s
  else
    let lost := s.mesh.net.filter (fun p => dieOf p.at_ == d)
    let s1 := putDie s d { dieAt s d with gapReason := reason, baseOk := false }
    let s2 := forEach lost (fun s p => discardAt s p.at_ p) s1
    let s3 := { s2 with mesh := { s2.mesh with
      gaps0 := if s2.mesh.epoch then sortNat (s2.mesh.gaps0 ++ [d]) else s2.mesh.gaps0,
      gaps1 := if s2.mesh.epoch then s2.mesh.gaps1 else sortNat (s2.mesh.gaps1 ++ [d]),
      gapDrops := bump s2.mesh.gapDrops d lost.length } }
    let s4 := retireDie s3 d reason none
    let b := basinOfDie d
    let s5 := if memDie b = d then
                withdrawStack (putBasin s4 b { basinAt s4 b with objs := [] }) b
              else s4
    let ends := lost.flatMap (fun p => [basinOf p.srcCore, basinOf p.dstCore])
    gapLoss s5 d (min lost.length (2 ^ 64 - 1)) (fun n =>
      let g := grantOf s n
      if inRectangle s n b then g else sortNat (g.filter (fun x => ends.contains x)))

/-- A hard gap and the stacks that no set of col tables can reach beside it, which are retired with BRIDGE_FAULT (R226, R227). -/
def makeGap (s : State) (d reason : Nat) (cut : List Nat) : State :=
  forEach (cut.filter (fun e => decide (e < 64))) (fun s e => gapOne s e 5) (gapOne s d reason)

/-- The die stack that a failed link retires: its own, or the west or south one of the edge it crosses (R223). -/
def linkDie (k : Nat) (dir : Dir) : Nat × Nat :=
  match neighbour k dir with
  | none => (dieOf k, 6)
  | some j => if dieOf j = dieOf k then (dieOf k, 6) else (min (dieOf k) (dieOf j), 5)

/-- LINK_FAILURE: a flit has failed 8 replays in a row; the link has failed, which is a hard fault of its die stack. with it
go the stacks that no col tables can reach any more (R219, R223, R226). -/
def execLinkFailure (core : Nat) (dir : Gapping Dir) (s : State) : Host.Outcome State Fault Refusal :=
  runUnit core nCores (fun s => makeGap s (linkDie core dir.cause).1 (linkDie core dir.cause).2 dir.cut) s

/-- HARD_GAP: a die stack becomes a hard gap with the reason found, and with it the stacks that no col tables can reach any
more (R223, R226, R227). -/
def execHardGap (die : Nat) (reason : Gapping Nat) (s : State) : Host.Outcome State Fault Refusal :=
  runUnit die 64 (fun s => makeGap s die (if reason.cause = 5 then 5 else 6) reason.cut) s

/-! ### Epochs and sweeps (R230 to R232) -/

/-- FLIP_COMPLETE: the last routers have switched, and every one has acknowledged the flip (R230). -/
def execFlipComplete (s : State) : Host.Outcome State Fault Refusal :=
  .next (if s.mesh.flipping then
    { s with mesh := { s.mesh with flipping := false, flipped := [], flips := (s.mesh.flips + 1) % 2 ^ 64 } } else s)

/-- The sum of a sync node counter over all nodes (R231). -/
def nodeSum (s : State) (i : Nat) : Nat := sumOf (s.routers.map (fun r => tabGet r.2.sctr i 0))

/-- The sum of a router counter over all routers. -/
def routerSum (s : State) (i : Nat) : Nat := sumOf (s.routers.map (fun r => tabGet r.2.ctr i 0))

/-- The old bank is retired: both banks hold the map and the tables in force, and forwarding is removed where the map
has caught up (R21, R230, R397). -/
def retireBank (s : State) : State :=
  let e := s.mesh.epoch
  let s1 := forEach (List.range 16) (fun s b =>
    let x := basinAt s b
    let cur := x.place.filter (fun p => decide (p.1 / 16384 = b2n e))
    let other := cur.map (fun p => (p.1 % 16384 + b2n (!e) * 16384, p.2))
    putBasin s b { x with place := if e then other ++ cur else cur ++ other }) s
  let g := gapsOf s e
  let s2 := { s1 with mesh := { s1.mesh with oldBank := false, gaps0 := g, gaps1 := g } }
  { s2 with dies := s2.dies.map (fun d => (d.1, { d.2 with forwarding := d.2.forwarding.filter (fun f =>
      s2.mesh.moves.any (fun m => m.from_ == f.1) ||
      s2.mesh.staged.any (fun c => c.moves.any (fun m => m.2.1 == f.1))) })) }

/-- DRAIN_MARKER_PASS: a pass after the flip finds injections and ejections of the old epoch equal, and the old bank is
retired; otherwise passes go on (R231). -/
def execDrainMarkerPass (s : State) : Host.Outcome State Fault Refusal :=
  let old := b2n (!s.mesh.epoch)
  .next (if s.mesh.oldBank && !s.mesh.flipping && routerSum s (73 + old) == routerSum s (75 + old) &&
            nodeSum s old == nodeSum s (2 + old)
         then retireBank s else s)

/-- Injections and ejections of a drained set (R232). -/
def sweepCounts (s : State) (bs : List Nat) : Nat × Nat :=
  let sum (f : Nat × Router → Nat) : Nat := sumOf (s.routers.map f)
  let inS (k : Nat) : Bool := bs.contains (basinOf k)
  let at_ (r : Nat × Router) (i : Nat) : Nat := tabGet r.2.ctr i 0
  (sum (fun r => if inS r.1 then at_ r 73 + at_ r 74 else sumOf (bs.map (fun b => at_ r (77 + b)))),
   sum (fun r => if inS r.1 then at_ r 75 + at_ r 76 else sumOf (bs.map (fun b => at_ r (93 + b)))))

/-! ### Congestion (R239, R240) -/

/-- How many injection windows a core has of a kind: one for each outbound endpoint, or for each streamer and fetch unit (R240). -/
def winCount (outbound : Bool) : Nat := if outbound then 32 else 7

/-- The number of a window: streamers and fetch units come before the outbound endpoints. -/
def winUnit (outbound : Bool) (unit : Nat) : Nat := if outbound then 7 + unit else unit

/-- CONGESTION_ECHO: the oldest echo of a unit is acted on: a mark of 2 or 3 halves its window, unless one did within the last four
windows of 64 cycles (R240; log 148). -/
def execCongestionEcho (core : Nat) (outbound : Bool) (unit : Nat) (s : State) : Host.Outcome State Fault Refusal :=
  let u := winUnit outbound unit
  if winCount outbound ≤ unit then .fault .noSuchUnit
  else runCore core (fun _ c =>
    match c.echoes.find? (fun e => e.1 == u) with
    | none => (c, [])
    | some e =>
      let w := winOf c u
      let d := { c with echoes := c.echoes.erase e }
      if e.2 < 2 ∨ w.2 ≠ 0 then (d, [])
      else ({ putWin d u (max 1 (w.1 / 2)) 4 with cmarkHalve := (c.cmarkHalve + 1) % 2 ^ 64 }, [])) s

/-- INJECTION_WINDOW_TICK: a unit's window of 64 cycles ends; without an echo above 0 in it W rises by 1, up to 64 (R240). -/
def execInjectionWindowTick (core : Nat) (outbound : Bool) (unit : Nat) (s : State) : Host.Outcome State Fault Refusal :=
  let u := winUnit outbound unit
  if winCount outbound ≤ unit then .fault .noSuchUnit
  else runCore core (fun _ c =>
    let w := winOf c u
    (putUse (putWin c u (if (winUse c u).2 = 0 then min 64 (w.1 + 1) else w.1) (w.2 - 1)) u 0 0, [])) s

end Sys2Proof.Machine
end

