-- ==== Sys2Proof/Machine/Drain.lean ====
section
/-! DEFINITION. Drains of basins (R207, R208), the advance of generations (R209) and the channels it resets (R177). -/

namespace Sys2Proof.Machine

/-! ### The cut and the start of a drain (R207) -/

/-- The first microbatch that a core's station has not begun. -/
def begunMbs (c : Core) : Nat := if c.begun = 0 ∨ firesPerMb c = 0 then 0 else (c.begun - 1) / firesPerMb c + 1

/-- Cores that run a station of a set of basins. -/
def coresIn (s : State) (bs : List Nat) : List Nat :=
  (s.cores.filter (fun e =>
    (e.2.slot.isSome || s.mesh.moves.any (fun m => m.from_ == e.1)) && inSet bs e.1 e.2)).map (·.1)

/-- The first microbatch that no station of some cores has begun (R207 step 1, R393). -/
def cutOf (s : State) (ks : List Nat) : Nat := maxOf (ks.map (fun k => begunMbs (coreAt s k))) 0

/-- Firings past a microbatch held back at some cores. -/
def stopAfter (s : State) (ks : List Nat) (m : Option Nat) : State :=
  forEach ks (fun s k => putCore s k { coreAt s k with stopAt := m }) s

/-- A slot that waits for its next firing begins it where it may (R197). -/
def wakeSlots (s : State) (k : Nat) (c : Core) : Core :=
  (List.range 8).foldl (fun d i =>
    let t := slotAt d i
    if t.st = .afterEnd ∧ entryOf d i ≠ 0xFFFF ∧ mayFire s k d t.firing then beginFiring s k d i t.firing else d) c

/-- Every core of a context whose slots wait for a firing tries again. -/
def wakeCtx (s : State) (n : Nat) : State :=
  forEach ((s.cores.filter (fun e => e.2.station.isSome && (basinAt s (basinOf e.1)).ctx == some n)).map (·.1)) (fun s k =>
    putCore s k (wakeSlots s k (coreAt s k))) s

/-- The limit of a drain in ticks of 40 ns: the least of its basins' BSN_DRAIN_LIMIT (R208, R446). -/
def drainTicks (s : State) (bs : List Nat) : Nat :=
  let lim (b : Nat) : Nat :=
    let v := (basinAt s b).drainLimit
    25 * (if v = 0 then 10000 else clampN 100 1000000 v)
  match bs with
  | [] => 250000
  | b :: l => (l.map lim).foldl min (lim b)

/-- A drain of a set of basins begins (R207 steps 1 to 3). -/
def startDrain (s : State) (n : Nat) (bs : List Nat) (why : DrainFor) (tag ring : Nat) (noIrq : Bool) : State :=
  let ks := coresIn s bs
  let m := cutOf s ks
  let s1 := stopAfter s ks (some m)
  { s1 with mesh := { s1.mesh with drains := s1.mesh.drains ++
      [{ ctx := n, basins := bs, cut := m, why := why, start := s.sup.ticks, limit := drainTicks s bs, tag := tag,
         ring := ring, noIrq := noIrq, sweep := none, swept := false }] } }

/-! ### Sections (R211, R213) -/

/-- The SECTIONS entry that holds a station record (R211). -/
def sectOf (l : Layout) (i : Nat) : Option Nat :=
  l.sections.find? (fun w => decide (bits w 47 32 ≤ i) && decide (i < bits w 47 32 + bits w 63 48))

/-- A station record is resident: it belongs to no section, or to the section that its basin holds now (R211). -/
def resident (s : State) (l : Layout) (i : Nat) : Bool :=
  match sectOf l i with
  | none => true
  | some w => bits w 15 8 == (basinAt s (bits w 3 0)).sectIdx

/-- The resident record that names a slot. -/
def recOfSlot (s : State) (l : Layout) (slot : Nat) : Option Nat :=
  (List.range l.stations.length).find? (fun i =>
    (match l.stations[i]? with
     | none => false
     | some y => y.slot == slot) && resident s l i)

/-- The first microbatch that a section station does not run before the swap: SECT_MB after the first of its run (R211,
R213); none for other stations. -/
def sectStop (s : State) (n : Nat) (c : Core) : Option Nat :=
  match (ctxAt s n).layout, c.slot with
  | some l, some slot =>
    (match recOfSlot s l slot with
     | none => none
     | some i => (sectOf l i).map (fun w => (basinAt s (bits w 3 0)).sectFrom + bits w 31 16))
  | _, _ => none

/-! ### The end of a drain (R207 steps 4 and 5) -/

/-- Nothing is left in a core's command queues, engines and streamers. -/
def unitsIdle (c : Core) : Bool :=
  c.mxq.isEmpty && c.vcq.isEmpty && c.mxRun.isNone && c.vcRun.isNone && c.vcHeld.isEmpty && c.drains.isEmpty && c.drainQ.isEmpty &&
  c.strm.all (fun u => u.2.q.isEmpty && !u.2.active)

/-- Nothing is left in a core's channels: inbound queues empty, every send injected and retired. -/
def chansIdle (c : Core) : Bool :=
  c.inEp.all (fun e => e.2.fixed.isEmpty && e.2.spill.isEmpty) && c.rounds.isEmpty &&
  c.outEp.all (fun e => e.2.sendQ.isEmpty && (outKind e.2 == 0 || e.2.retired % 65536 == e.2.seq)) &&
  c.arr.isEmpty && c.svc.isEmpty && c.inj.isEmpty

/-- A station has completed its firings before a microbatch (R197, R207). -/
def ranTo (c : Core) (m : Nat) : Bool := firesPerMb c == 0 || decide (m * firesPerMb c ≤ c.firing)

/-- A drain is complete (R207 step 5). -/
def drained (s : State) (d : DrainJob) : Bool :=
  (coresIn s d.basins).all (fun k =>
    let c := coreAt s k
    ranTo c d.cut && unitsIdle c && chansIdle c) &&
  !s.mesh.moves.any (fun m => d.basins.contains (basinOf m.from_) || d.basins.contains (basinOf m.to_)) &&
  d.swept && (sweepCounts s d.basins).1 == (sweepCounts s d.basins).2

/-- The sweep of a layout that restarts may pass: past step 1 of its reset, every station outside the set has run what it holds to
completion (R209, R421). -/
def restartSweeps (s : State) (r : Reset) : Bool :=
  (r.stage == .collect || r.stage == .ready) &&
  s.cores.all (fun e => (basinAt s (basinOf e.1)).ctx != some r.ctx || r.set.contains (basinOf e.1) || e.2.slot.isNone || unitsIdle e.2)

/-- A pass of a reset's sweep compared with the one before (R209, R232). -/
def sweepReset (s : State) (r : Reset) : Reset :=
  if restartSweeps s r then
    let n := sweepCounts s (grantOf s r.ctx)
    { r with sweep := some n, swept := r.swept || (decide (r.sweep = some n) && n.1 == n.2) }
  else r

/-- DRAIN_SWEEP_PASS: each drain's pass, and that of a layout that restarts, is compared with the one before; two equal ones with
as many ejections as injections end its sweep (R209, R232). -/
def execDrainSweepPass (s : State) : Host.Outcome State Fault Refusal :=
  let ds := s.mesh.drains.map (fun d =>
    let n := sweepCounts s d.basins
    { d with sweep := some n, swept := d.swept || (decide (d.sweep = some n) && n.1 == n.2) })
  .next { s with mesh := { s.mesh with drains := ds }, rst := { s.rst with cur := s.rst.cur.map (sweepReset s) } }

/-- A drain taken from the list. -/
def dropDrain (s : State) (d : DrainJob) : State := { s with mesh := { s.mesh with drains := s.mesh.drains.erase d } }

/-! ### Channels reset (R177, R209, R238) -/

/-- The inbound endpoint that a target names. -/
def targetEp (s : State) (t : Nat × Nat) : InEp :=
  match coreOfSlot s t.1 with
  | some k => inAt (coreAt s k) t.2
  | none => {}

/-- An outbound endpoint has an end in the set: its own slot, a target, or another contributor of its group. -/
def outTouched (s : State) (bs : List Nat) (slot : Nat) (o : OutEp) : Bool :=
  slotIn s bs slot || o.targets.any (fun t => slotIn s bs t.1 || (targetEp s t).contribs.any (fun f => slotIn s bs f.1))

/-- The outbound endpoint of a feeder. -/
def feederEp (s : State) (slot ep : Nat) : OutEp :=
  match coreOfSlot s slot with
  | some k => outAt (coreAt s k) ep
  | none => {}

/-- An inbound endpoint's channel, or its group, has an end in the set. -/
def inTouched (s : State) (bs : List Nat) (slot : Nat) (i : InEp) : Bool :=
  slotIn s bs slot ||
  (if i.contribs.isEmpty then outTouched s bs i.feeder.1 (feederEp s i.feeder.1 i.feeder.2.1)
   else i.contribs.any (fun f => slotIn s bs f.1))

/-- The generation of a reduction group's DEF_BASIN (R177). -/
def defGen (s : State) (w : Option Nat) : Nat :=
  match w with
  | none => 0
  | some w => (basinAt s (bits w 9 6)).gen % 16

/-- EXPECT_GEN of an inbound endpoint (R177). -/
def expectGen (s : State) (k : Nat) (c : Core) (e : Nat) (i : InEp) : Nat :=
  if i.contribs.isEmpty then (basinAt s (i.feeder.1 / 1024 % 16)).gen % 16 else defGen s (redDest s k c e)

/-- Every landing slot of a reduction destination set to empty values of the declared anchor (R238). -/
def emptyLandings (s : State) (k : Nat) (c : Core) (e : Nat) : Core :=
  let i := inAt c e
  if i.contribs.isEmpty then c
  else (List.range (inQdepth i)).foldl (fun d q => emptyLanding d i q (bits ((redDest s k c e).getD 0) 23 16)) c

/-- An inbound endpoint at the start of its channel, with the generation in force (R177). -/
def freshIn (s : State) (k : Nat) (c : Core) (e : Nat) : Core :=
  let i := inAt c e
  emptyLandings s k
    (putIn { c with rounds := c.rounds.filter (fun r => r.ep != e) } e
      { cfg := putBits i.cfg 51 4 (expectGen s k c e i), feeder := i.feeder, contribs := i.contribs, takenNow := i.takenNow }) e

/-- An outbound endpoint at the start of its channels: sequence 0, credit C toward every target (R168, R177). Sends that a drain
held have not been injected and go out under the new generation (R177, R207; log 140). -/
def freshOut (s : State) (k : Nat) (o : OutEp) : OutEp :=
  { cfg := o.cfg, targets := o.targets, credit := o.targets.map (fun t => inCap (targetEp s t)),
    returned := o.targets.map (fun _ => 0),
    gen := if outKind o = 3 then defGen s (redEntry s k (bits o.cfg 7 2) (bits o.cfg 11 8)) else 0,
    sentNow := o.sentNow, sendQ := o.sendQ, w := o.w, echoOff := o.echoOff, flits := o.flits, winMark := o.winMark }

/-- The messages an endpoint still holds, each raised as stale (R177, R210). -/
def staleEvents (i : InEp) (e new : Nat) : List Ev :=
  ((i.fixed ++ i.spill).map (·.2)).map (fun m => .post evStaleGeneration (inOwner i) e noFld m.gen new m.seq)

/-- The channels of one core with an end in the set are reset. -/
def resetCore (s : State) (bs : List Nat) (k : Nat) : State :=
  let c := coreAt s k
  let slot := c.slot.getD 0xFFFF
  let ins := (c.inEp.filter (fun e => inQdepth e.2 != 0 && inTouched s bs slot e.2)).map (·.1)
  let outs := (c.outEp.filter (fun e => outKind e.2 != 0 && outTouched s bs slot e.2)).map (·.1)
  let evs := ins.flatMap (fun e => staleEvents (inAt c e) e (expectGen s k c e (inAt c e)))
  let c1 := ins.foldl (fun d e =>
    let n := (inAt d e).fixed.length + (inAt d e).spill.length
    freshIn s k (if n = 0 then d else bumpIn d e 5 n) e) c
  let c2 := outs.foldl (fun d e => putOut d e (freshOut s k (outAt d e))) c1
  applyEvs k (putCore s k c2) evs

/-- Every channel of a context with an end in the set is reset (R177). -/
def resetChannels (s : State) (n : Nat) (bs : List Nat) : State :=
  forEach ((s.cores.filter (fun e => e.2.slot.isSome && (basinAt s (basinOf e.1)).ctx == some n)).map (·.1))
    (fun s k => resetCore s bs k) s

/-- The generation of each basin advances by one, modulo 16, and its channels are reset (R177, R209). -/
def advanceGens (s : State) (n : Nat) (bs : List Nat) : State :=
  resetChannels (forEach bs (fun s b => putBasin s b { basinAt s b with gen := ((basinAt s b).gen + 1) % 16 }) s) n bs

/-! ### A core that leaves its station -/

/-- A station taken off its core, which is cleared and becomes SPARE (R24, R156). -/
def vacate (s : State) (k : Nat) : State :=
  let c := coreAt s k
  match c.st with
  | .inUse => putCore s k { clearedCore c with st := .spare }
  | .spare => s
  | .underTest => s
  | .fenced => s
  | .retired => s
  | .shipDefect => s

/-- Every station of a context taken off its core. -/
def vacateCtx (s : State) (n : Nat) : State :=
  forEach ((s.cores.filter (fun e => e.2.slot.isSome && (basinAt s (basinOf e.1)).ctx == some n)).map (·.1)) vacate s

end Sys2Proof.Machine
end

