-- ==== Sys2Proof/Machine/Sync.lean ====
section
/-! DEFINITION. The sync mesh and its engines (R245 to R250), and the home's part in replica-scope barriers (R300,
R314). -/

namespace Sys2Proof.Machine

/-! ### Packets of the engines -/

/-- The 64 bits of a sync packet (R245), with the destination core given. -/
def syncWord (p : SyncPkt) (dst : Nat) : Nat :=
  p.type % 8 + b2n p.epoch * 8 + p.obj % 256 * 16 + p.home % 16 * 2 ^ 12 + p.slot % 2 ^ 14 * 2 ^ 16 +
    p.tslot % 8 * 2 ^ 30 + p.val % 65536 * 2 ^ 33 + dst % 2 ^ 14 * 2 ^ 49

/-- A sync packet read back from its 64 bits (R245). -/
def syncOfWord (w : Nat) : SyncPkt :=
  { type := bits w 2 0, epoch := bitAt w 3, obj := bits w 11 4, home := bits w 15 12, slot := bits w 29 16,
    tslot := bits w 32 30, val := bits w 48 33, src := 0, dst := bits w 62 49 }

/-- The first packet of a type for a basin's engine. -/
def syncFor (s : State) (basin type : Nat) : Option SyncPkt :=
  s.mesh.sync.find? (fun p => p.type == type && p.home == basin)

/-- A packet that leaves the sync mesh at a node: it reached its unit there, or a rule discarded it (R231). -/
def leaveSync (s : State) (k : Nat) (p : SyncPkt) : State :=
  let s1 := bumpNode s k (2 + b2n p.epoch)
  { s1 with mesh := { s1.mesh with sync := s1.mesh.sync.erase p } }

/-- A packet taken from the sync mesh at its destination. -/
def dropSync (s : State) (p : SyncPkt) : State := leaveSync s p.dst p

/-- A packet with a reserved TYPE is discarded at the node that finds it, counted and raised, and its source core is suspect
(R220, R245). -/
def badSync (s : State) (p : SyncPkt) : State :=
  suspectCore (basinEvent (bumpRouter (leaveSync s p.src p) p.src 64 1) (basinOf p.src) evMeshHdrInvalid 0 0 0) p.src 1

/-- The node at which a sync packet's col path leads into a hard gap that its tables do not know yet, and that gap (R226, R227). -/
def syncGap (s : State) (p : SyncPkt) : Option (Nat × Nat) :=
  if (List.range 64).all (fun d => !isGap s d) then none
  else
    let l := colPath (gapsOf s p.epoch) 1024 p.src p.dst
    match l.findIdx? (fun k => isGap s (dieOf k)) with
    | none => none
    | some i => some (nth l (i - 1) p.src, dieOf (nth l i p.src))

/-- A sync packet whose path leads into a new gap is discarded there, and the basins it concerns are reset (R227). -/
def gapSync (s : State) (p : SyncPkt) (k d : Nat) : State :=
  let s1 := bumpRouter (leaveSync s k p) k 65 1
  let s2 := { s1 with mesh := { s1.mesh with gapDrops := bump s1.mesh.gapDrops d 1 } }
  let bs := [basinOf p.src, basinOf p.dst]
  gapLoss s2 d (min (tabGet s2.mesh.gapDrops d 0) (2 ^ 64 - 1)) (fun n => sortNat (bs.filter (fun b => (basinAt s b).ctx == some n)))

/-- What a command of the sync mesh does with the packet that it finds, once packets with a reserved TYPE are discarded; one whose
path leads into a new gap goes no further (R226, R227, R245). -/
def onSync (s : State) (sel : State → Option SyncPkt) (f : State → SyncPkt → State) : State :=
  let s0 := forEach (s.mesh.sync.filter (fun p => decide (4 < p.type))) badSync s
  match sel s0 with
  | none => s0
  | some p =>
    match syncGap s0 p with
    | some g => gapSync s0 p g.1 g.2
    | none => f s0 p

/-- A sync engine's counter (R252): 0 ARRIVE, 1 RELEASE, 2 POST, 3 GRANT, 4 TAKE_WAIT. -/
def bumpSync (s : State) (b i n : Nat) : State := putBasin s b { basinAt s b with syncCtr := bump (basinAt s b).syncCtr i n }

/-- An object of an engine, if its layout defines it. -/
def objAt (s : State) (b o : Nat) : Option SyncObj := ((basinAt s b).objs.find? (fun e => e.1 == o)).map (·.2)

/-- An object replaced. -/
def putObj (s : State) (b o : Nat) (x : SyncObj) : State :=
  putBasin s b { basinAt s b with objs := tabSet (basinAt s b).objs o x }

/-- A layout fault raised by a sync engine: the basin that runs the station is reset, that of the engine where the packet came
from another module (R62, R248, R249). -/
def syncFault (s : State) (b code : Nat) (here : Bool) (p : SyncPkt) : State :=
  let r := if here then basinOf p.src else b
  triggerReset (postEvent s (ownerOf s r) code (2 ^ r) p.slot p.tslot noFld noFld p.src 0 0 0)
    (ownerOf s r) [r] code p.slot true

/-- A RELEASE or GRANT stamped and translated at the engine; a slot that is not placed is raised there (R23, R250). -/
def sendAnswer (s : State) (b : Nat) (p : SyncPkt) : State :=
  let e := stampOf s (engineAt b)
  let q := { p with epoch := e, src := engineAt b }
  let f := readPlace s b e p.slot
  let lost (s : State) : State :=
    postEvent (bumpRouter (bumpNode (bumpNode s (engineAt b) (b2n e)) (engineAt b) (2 + b2n e)) (engineAt b) 63 1) (ownerOf s b)
      evSlotUnmapped (2 ^ b) p.slot noFld noFld noFld (engineAt b) 0 0 0
  match f.1 with
  | .core k => sendSync f.2 { q with dst := k }
  | .unmapped => lost f.2
  | .voteFail => placeFail (lost f.2) b e p.slot

/-! ### Replica scope (R300, R314) -/

/-- The endpoint ID of a context (R450). -/
def epOf (x : Ctx) : Nat := bits x.act.fabId 19 0

/-- The endpoint bound to the peer that runs part 0 (R300, R214, R215). -/
def homeEp (x : Ctx) : Option Nat :=
  match x.layout with
  | none => none
  | some l =>
    match l.peers.find? (fun w => bits w 11 6 == 0) with
    | none => none
    | some w => (x.peers.find? (fun e => e.1 == bits w 5 0)).map (·.2)

/-- The context's module is the home of its replica-scope objects (R300). -/
def isHome (x : Ctx) : Bool :=
  match x.layout with
  | none => true
  | some l => l.part == 0

/-- The image number of a granted basin (R187). -/
def imageOf (s : State) (n b : Nat) : Nat := (grantOf s n).findIdx (· == b)

/-- An ARRIVE or RELEASE for another module, at the port of the context's set (R285, R300). Its payload carries the image
number of the home basin (log 23). -/
def fabSync (s : State) (n kind ep core slot tslot : Nat) (p : SyncPkt) : State :=
  match choosePort ep 0 (ctxAt s n).portSet with
  | none => s
  | some q =>
    let k : Pkt := { blankPkt with
      kind := kind, dtype := 3, dst := q, addr := ep * 2 ^ 44, srcCore := core, ctx := n, tslot := tslot, srcSlot := slot,
      data := leBytes 8 (syncWord { p with home := imageOf s n p.home } 0) }
    putPort s q { portAt s q with inQ := (portAt s q).inQ ++ [k] }

/-- A 32-bit count that saturates (R314). -/
def satCnt (n : Nat) : Nat := min n (2 ^ 32 - 1)

/-- A late-arrival record changed, made where the endpoint has none (R314). -/
def lateUpd (l : List Late) (ep : Nat) (f : Late → Late) : List Late :=
  if l.any (fun r => r.ep == ep) then l.map (fun r => if r.ep = ep then f r else r)
  else l ++ [f { ep := ep, phases := 0, last := 0, lastTicks := 0 }]

/-- A context's late-arrival records changed. -/
def lateCtx (s : State) (n ep : Nat) (f : Late → Late) : State :=
  putCtx s n { ctxAt s n with late := lateUpd (ctxAt s n).late ep f }

/-! ### Barriers (R248) -/

/-- RELEASE of a phase to the local slots that arrived and, from the home, to each remote endpoint once (R248, R300). -/
def releaseAll (s : State) (b o : Nat) (x : SyncObj) (own : Nat) : State :=
  let pk (slot tslot : Nat) : SyncPkt :=
    { type := 3, epoch := s.mesh.epoch, obj := o, home := b, slot := slot, tslot := tslot, val := x.phase, src := engineAt b }
  let s1 := forEach (x.cur.filter (fun a => a.1 == own)) (fun s a => bumpSync (sendAnswer s b (pk a.2.1 a.2.2)) b 1 1) s
  if !x.replica then s1
  else
    forEach (sortNat ((x.cur.filter (fun a => a.1 != own)).map (·.1))) (fun s ep =>
      fabSync s (ownerOf s b) 10 ep 0 0xFFFF 0 (pk 0 0)) s1

/-- The object after a phase has completed (R248). -/
def nextPhase (x : SyncObj) : SyncObj := { x with phase := (x.phase + 1) % 65536, cur := x.nxt, nxt := [] }

/-- A barrier that its own engine completes: any but a replica-scope one on a part other than the home (R300). -/
def ownsPhase (s : State) (b : Nat) (x : SyncObj) : Bool := !x.replica || isHome (ctxAt s (ownerOf s b))

/-- While the current phase is complete the engine releases it and advances; arrivals for the phase after it may
complete that one too (R248). -/
def completePhases (s : State) (b o own : Nat) : Nat → State
  | 0 => s
  | n + 1 =>
    match objAt s b o with
    | none => s
    | some x =>
      if x.participants ≤ x.cur.length ∧ x.participants ≠ 0 ∧ ownsPhase s b x then
        completePhases (putObj (releaseAll s b o x own) b o (nextPhase x)) b o own n
      else s

/-- The home's record of an arrival (R314): a phase counts once for an endpoint, and the completing arrival is the
endpoint's LAST, with the ticks since the arrival before it. -/
def lateArrival (s : State) (b : Nat) (x : SyncObj) (src : Nat) (next : Bool) : State :=
  let n := ownerOf s b
  if !x.replica || !isHome (ctxAt s n) then s
  else
    let l := if next then x.nxt else x.cur
    let s1 := if l.any (fun a => a.1 == src) then s else lateCtx s n src (fun r => { r with phases := satCnt (r.phases + 1) })
    if next = false ∧ x.cur.length + 1 = x.participants then
      let d := if x.cur.isEmpty then 0 else s.sup.ticks - x.lastTick
      lateCtx s1 n src (fun r => { r with last := satCnt (r.last + 1), lastTicks := satCnt (r.lastTicks + d) })
    else s1

/-- An arrival counted at an engine (R248, R300, R314). One that was counted already, or whose phase is past, changes
nothing (R288); one two or more phases ahead is a layout fault. -/
def arriveObj (s : State) (b : Nat) (p : SyncPkt) (src : Nat) : State :=
  match objAt s b p.obj with
  | none => s
  | some x =>
    let a := (src, p.slot, p.tslot)
    let d := (p.val + 65536 - x.phase) % 65536
    let own := epOf (ctxAt s (ownerOf s b))
    if x.isToken then s
    else if d = 0 then
      if x.cur.contains a then s
      else
        completePhases
          (putObj (lateArrival s b x src false) b p.obj { x with cur := x.cur ++ [a], lastTick := s.sup.ticks })
          b p.obj own 2
    else if d = 1 then
      if x.nxt.contains a then s
      else putObj (lateArrival s b x src true) b p.obj { x with nxt := x.nxt ++ [a], lastTick := s.sup.ticks }
    else if d < 32768 then syncFault s b evSyncPhaseFault (src == own) p
    else s

/-- An arrival of a slot of this module. At a part that is not the home it also becomes an ARRIVE packet to the home
(R300). -/
def localArrive (s : State) (b : Nat) (p : SyncPkt) : State :=
  let n := ownerOf s b
  let s1 := arriveObj s b p (epOf (ctxAt s n))
  match objAt s b p.obj with
  | none => s1
  | some x =>
    if x.replica && !isHome (ctxAt s n) then
      match homeEp (ctxAt s n) with
      | none => s1
      | some ep => fabSync s1 n 9 ep p.src p.slot p.tslot p
    else s1

/-- ENGINE_ARRIVE: a basin's engine counts its next arrival and releases a phase that has completed (R248, R300,
R314). -/
def execEngineArrive (basin : Nat) (s : State) : Host.Outcome State Fault Refusal :=
  runUnit basin 16 (fun s =>
    onSync s (fun s => syncFor s basin 0) (fun s p => bumpSync (localArrive (dropSync s p) basin p) basin 0 1)) s

/-! ### Tokens (R249) -/

/-- A GRANT to a slot (R249). -/
def sendGrant (s : State) (b o : Nat) (w : Nat × Nat) : State :=
  bumpSync (sendAnswer s b { type := 4, epoch := s.mesh.epoch, obj := o, home := b, slot := w.1, tslot := w.2, val := 1,
                             src := engineAt b }) b 3 1

/-- ENGINE_POST: the next POST adds to its object's count and grants waiting TAKEs in order; a count beyond 2^32 - 1 is a
layout fault (R249). -/
def execEnginePost (basin : Nat) (s : State) : Host.Outcome State Fault Refusal :=
  runUnit basin 16 (fun s =>
    onSync s (fun s => syncFor s basin 1) (fun s p =>
      let s0 := bumpSync (dropSync s p) basin 2 1
      match objAt s0 basin p.obj with
      | none => s0
      | some x =>
        if !x.isToken then s0
        else if 2 ^ 32 - 1 < x.count + p.val then syncFault s0 basin evSyncTokenOverflow true p
        else
          let n := min (x.count + p.val) x.waiting.length
          forEach (x.waiting.take n) (fun s w => sendGrant s basin p.obj w)
            (putObj s0 basin p.obj { x with count := x.count + p.val - n, waiting := x.waiting.drop n }))) s

/-- ENGINE_TAKE: the next TAKE is granted, or waits at the engine, which holds 512; beyond that it stays in the mesh
(R249). -/
def execEngineTake (basin : Nat) (s : State) : Host.Outcome State Fault Refusal :=
  runUnit basin 16 (fun s =>
    onSync s (fun s => syncFor s basin 2) (fun s p =>
      match objAt s basin p.obj with
      | none => dropSync s p
      | some x =>
        if !x.isToken then dropSync s p
        else if x.count ≠ 0 then
          sendGrant (putObj (dropSync s p) basin p.obj { x with count := x.count - 1 }) basin p.obj (p.slot, p.tslot)
        else if 512 ≤ sumOf ((basinAt s basin).objs.map (fun e => e.2.waiting.length)) then s
        else
          bumpSync (putObj (dropSync s p) basin p.obj { x with waiting := x.waiting ++ [(p.slot, p.tslot)] }) basin 4 1)) s

/-! ### Answers at the core (R248 to R250) -/

/-- The first RELEASE or GRANT that comes to a core: the one that it is translated to, or that a fenced die forwards it to
(R250, R394). -/
def answerFor (s : State) (k type : Nat) : Option SyncPkt :=
  s.mesh.sync.find? (fun p => p.type == type && (forwardTo s p.dst p.dst).getD p.dst == k)

/-- An answer taken by its core: a HELD core drops it, and one for another slot is misdelivered (R22, R250, R251). -/
def takeAnswerSync (s : State) (k : Nat) (p : SyncPkt) (f : Core → SyncPkt → Core) : State :=
  let c := coreAt s k
  if c.held then dropSync s p
  else if c.slot ≠ some p.slot then misdeliver (dropSync s p) k
  else putCore (dropSync s p) k (f c p)

/-- A slot that waits for the release goes on; the table keeps the phase after the released one (R248). -/
def releaseSlot (c : Core) (p : SyncPkt) : Core :=
  let key := syncKey p.home p.obj
  let done := (p.val + 1) % 65536
  let c1 := { c with sync := c.sync.map (fun e => if e.obj = key then { e with last := tabSet e.last p.tslot done } else e) }
  let t := slotAt c1 p.tslot
  if t.st = .sync ∧ t.takeWait = false ∧ t.syncObj = key ∧ t.syncPhase = done then
    putSlot c1 p.tslot { t with st := .running }
  else c1

/-- RELEASE: a release packet reaches the core and its waiting slot goes on (R248); a core that a station moves to holds
it until the move is done (R250). -/
def execRelease (core : Nat) (s : State) : Host.Outcome State Fault Refusal :=
  runUnit core nCores (fun s =>
    onSync s (fun s => if (coreAt s core).holding then none else answerFor s core 3)
      (fun s p => takeAnswerSync s core p releaseSlot)) s

/-- A granted slot goes on (R249). -/
def grantSlot (c : Core) (p : SyncPkt) : Core :=
  let t := slotAt c p.tslot
  if t.st = .sync ∧ t.takeWait ∧ t.syncObj = syncKey p.home p.obj then
    putSlot c p.tslot { t with st := .running, takeWait := false }
  else c

/-- GRANT: a grant packet reaches the core and its waiting slot goes on (R249, R250). -/
def execGrant (core : Nat) (s : State) : Host.Outcome State Fault Refusal :=
  runUnit core nCores (fun s =>
    onSync s (fun s => if (coreAt s core).holding then none else answerFor s core 4)
      (fun s p => takeAnswerSync s core p grantSlot)) s

end Sys2Proof.Machine
end

