-- ==== Sys2Proof/Machine/Fabric.lean ====
section
/-! DEFINITION. Wewell ports (R275 to R303): link training, GLOBAL requests, sending and receiving streams, receive
checks, operations at the target, resends and congestion windows. -/

namespace Sys2Proof.Machine

/-! ### Packets and classes (R284, R286) -/

/-- A fabric packet with every field zero. -/
def blankFab : FabPkt :=
  { type := 0, cmark := 0, echo := 0, lines := 0, poison := false, kph := false, switchDest := 0, dstId := 0, srcId := 0,
    srcPort := 0, dstGen := 0, srcGen := 0, anchor := 0, epoch := 0, seq := 0, addr := 0, length := 0, reqTag := 0, code := 0,
    nctr := 0, rsvOk := true, clear := false, authOk := true, tag := 0, payload := [] }

/-- The 48 bytes of a header (R284). -/
def hdrBytes (f : FabPkt) : List Byte :=
  leBytes 1 (f.type % 16 + f.cmark % 4 * 16 + f.echo % 4 * 64) ++ leBytes 1 (f.lines % 16 + b2n f.poison * 16 + b2n f.kph * 32) ++
    leBytes 2 f.switchDest ++ leBytes 3 (f.dstId % 2 ^ 20) ++ leBytes 3 (f.srcId % 2 ^ 20) ++ leBytes 1 (f.srcPort % 32) ++
    leBytes 1 f.dstGen ++ leBytes 1 f.srcGen ++ leBytes 1 f.anchor ++ leBytes 2 f.epoch ++ leBytes 8 f.seq ++ leBytes 8 f.addr ++
    leBytes 2 f.length ++ leBytes 2 f.reqTag ++ leBytes 1 f.code ++ leBytes 3 0 ++ leBytes 8 f.nctr

/-- The additional authenticated data of a packet: its header with the CMARK bits as zero (R284). -/
def aadOf (f : FabPkt) : List Byte := hdrBytes { f with cmark := 0 }

/-- The packet that arrives, by the bytes of its header (R284). A MGMT packet with zero tag, NCTR and KPH came in clear (R291). -/
def readHead (w : WirePkt) : FabPkt :=
  let fld (i n : Nat) : Nat := leNat ((w.head.drop i).take n)
  { type := bits (fld 0 1) 3 0, cmark := bits (fld 0 1) 5 4, echo := bits (fld 0 1) 7 6, lines := bits (fld 1 1) 3 0,
    poison := bitAt (fld 1 1) 4, kph := bitAt (fld 1 1) 5, switchDest := fld 2 2, dstId := bits (fld 4 3) 19 0,
    srcId := bits (fld 7 3) 19 0, srcPort := bits (fld 10 1) 4 0, dstGen := fld 11 1, srcGen := fld 12 1, anchor := fld 13 1,
    epoch := fld 14 2, seq := fld 16 8, addr := fld 24 8, length := fld 32 2, reqTag := fld 34 2, code := fld 36 1,
    nctr := fld 40 8,
    rsvOk := bits (fld 1 1) 7 6 == 0 && bits (fld 4 3) 23 20 == 0 && bits (fld 7 3) 23 20 == 0 && bits (fld 10 1) 7 5 == 0 &&
             fld 37 3 == 0,
    clear := bits (fld 0 1) 3 0 == 9 && w.tag == 0 && fld 40 8 == 0 && !bitAt (fld 1 1) 5,
    authOk := w.tagOk, tag := w.tag, payload := w.payload }

/-- The class of a TYPE: 0 REQ, 1 RSP, 2 MGMT, 3 CTRL (R286, R290). -/
def classOf (type : Nat) : Nat :=
  if type = 4 ∨ type = 8 then 1 else if type = 9 then 2 else if type = 5 ∨ type = 6 then 3 else 0

/-- A packet of a TYPE with a payload of whole units (R284). -/
def fabOf (type addr : Nat) (payload : List Byte) : FabPkt :=
  let n := ceilDiv payload.length 64
  { blankFab with type := type, addr := addr, lines := n, payload := fitBytes (64 * n) payload }

/-- An endpoint table entry that is not in use. -/
def noEnt : EpEnt :=
  { peer := 0, ctx := 0, valid := false, keyed := false, member := false, plane := 0, switchDest := 0, keyIndex := 0,
    epoch := 0, peerGen := 0 }

/-- An endpoint table entry (R282). -/
def entAt (s : State) (i : Nat) : EpEnt := tabGet s.fab.table i noEnt

/-- An endpoint table entry replaced, in every port engine's copy (R282). -/
def putEnt (s : State) (i : Nat) (e : EpEnt) : State := { s with fab := { s.fab with table := tabSet s.fab.table i e } }

/-- The valid entry of a context and peer (R283). -/
def entFor (s : State) (n peer : Nat) : Option Nat :=
  (s.fab.table.find? (fun e => e.2.valid && e.2.ctx == n && e.2.peer == peer)).map (·.1)

/-- The context that holds an endpoint ID of the module (R280, R292 row 2). -/
def ctxOfEp (s : State) (ep : Nat) : Option Nat :=
  if ep = 0 then none
  else (List.range 16).find? (fun n => epOf (ctxAt s n) == ep && (ctxAt s n).st != .free)

/-- PLANE_MASK of an entry as a port's own table has it, with the bits that failed streams cleared (R283, R288). -/
def planeAt (s : State) (p i : Nat) : Nat :=
  maskOf ((bitList 24 (entAt s i).plane).filter (fun q => !(q == p && ((portAt s p).planeClr.contains i || (portAt s p).down))))

/-! ### Streams (R286, R287, R290) -/

/-- A sending stream of a port. -/
def txAt (s : State) (p n i cls : Nat) : TxStream :=
  ((portAt s p).tx.find? (fun t => t.ctx == n && t.entry == i && t.cls == cls)).getD
    { ctx := n, entry := i, cls := cls, next := 0, unacked := [], reqs := [], sent := 0, again := 0, timeouts := 0, window := 256,
      ignoreTil := 0, hold := 0, resume := 0 }

/-- A sending stream replaced, made where there was none. -/
def putTx (s : State) (p : Nat) (t : TxStream) : State :=
  let x := portAt s p
  let same (u : TxStream) : Bool := u.ctx == t.ctx && u.entry == t.entry && u.cls == t.cls
  putPort s p { x with tx := if x.tx.any same then x.tx.map (fun u => if same u then t else u) else x.tx ++ [t] }

/-- A receiving stream of a port. -/
def rxAt (s : State) (p src dst cls : Nat) : RxStream :=
  ((portAt s p).rx.find? (fun r => r.src == src && r.dst == dst && r.cls == cls)).getD
    { src := src, dst := dst, cls := cls, expected := 0, wait := [], ackDue := none, echo := 0, frag := 0, buf := [] }

/-- A receiving stream replaced, made where there was none. -/
def putRx (s : State) (p : Nat) (r : RxStream) : State :=
  let x := portAt s p
  let same (u : RxStream) : Bool := u.src == r.src && u.dst == r.dst && u.cls == r.cls
  putPort s p { x with rx := if x.rx.any same then x.rx.map (fun u => if same u then r else u) else x.rx ++ [r] }

/-- The encryption counters of an entry's sending key at a port (R290). -/
def keyAt (s : State) (p i : Nat) : KeyUse := ((portAt s p).keys.find? (fun k => k.entry == i)).getD { entry := i, nctr := [] }

/-- The pairwise keys of an entry (R290). -/
def pairKey (s : State) (i : Nat) : PairKey := (s.fab.keys.find? (fun k => k.entry == i)).getD { entry := i }

/-- The pairwise keys of an entry replaced. -/
def putPair (s : State) (k : PairKey) : State :=
  { s with fab := { s.fab with keys := if s.fab.keys.any (fun u => u.entry == k.entry)
                                       then s.fab.keys.map (fun u => if u.entry = k.entry then k else u) else s.fab.keys ++ [k] } }

/-- The encryption counters of an entry at a port replaced. -/
def putKey (s : State) (p : Nat) (k : KeyUse) : State :=
  let x := portAt s p
  putPort s p { x with keys := if x.keys.any (fun u => u.entry == k.entry)
                               then x.keys.map (fun u => if u.entry = k.entry then k else u) else x.keys ++ [k] }

/-! ### The link (R276) -/

/-- The virtual lane of a class: 0 REQ, 1 RSP, 2 MGMT; CTRL goes on the RSP lane (R276, R286). -/
def laneOf (cls : Nat) : Nat := if cls = 3 then 1 else cls

/-- The link is up and has the credit for a packet of a lane; the header with the tag is one unit (R276, R284). -/
def linkRoom (s : State) (p cls lines : Nat) : Bool :=
  (portAt s p).up && decide (lines + 1 ≤ tabGet (portAt s p).link.credit (laneOf cls) 0)

/-- A packet given to the link: its units, the credit they take, the control word after every 16 units, and the last 64 blocks,
which are kept for a replay (R276). -/
def linkSend (l : Link) (lane : Nat) (g : FabPkt) : Link :=
  let u := l.sent + g.lines + 1
  { l with sent := u, credit := tabSet l.credit lane (tabGet l.credit lane 0 - (g.lines + 1)),
           word := if u / 16 = l.sent / 16 then l.word else Config.linkWord (u / 16) l.got,
           kept := (l.kept ++ [(l.sent, g)]).filter (fun e => decide (u / 16 ≤ (e.1 + e.2.lines) / 16 + 64)) }

/-- A packet taken from the link: its units, and the credits that a control word after 16 of them brings (R276). -/
def linkRx (s : State) (p lines : Nat) : State :=
  let x := portAt s p
  let u := x.link.got + lines + 1
  let more (l : Nat) : Nat := if u / 16 = x.link.got / 16 then 0 else Config.linkCredits l (u / 16)
  putPort s p { x with link := { x.link with
    got := u, credit := (List.range 3).foldl (fun c l => tabSet c l (tabGet c l 0 + more l)) x.link.credit } }

/-- The generation that a context's packets carry: its streams outlive its teardown with the old one (R298). -/
def closingCtx (x : Ctx) : Bool := x.st == .stopping || x.st == .quarantine || x.st == .clearing

/-- The generation before the one in force. -/
def oldGen (x : Ctx) : Nat := (x.gen + 255) % 256

/-- The GCM nonce of a packet: SRC_ID, SRC_PORT, class and NCTR (R290). -/
def nonceOf (f : FabPkt) : Nat := f.srcId % 2 ^ 20 * 2 ^ 76 + f.srcPort % 32 * 2 ^ 71 + classOf f.type * 2 ^ 69 + f.nctr % 2 ^ 64

/-- A packet sent: its header from the entry and the context, a fresh NCTR of its key, port and class, the pair's CTRL counter,
its tag, the link and the counters (R276, R284, R286, R290, R303). A MGMT packet to a pair that is not keyed goes in clear
(R291). -/
def sendFab (s : State) (p n i : Nat) (f : FabPkt) : State :=
  let e := entAt s i
  let x := ctxAt s n
  let cls := classOf f.type
  let k := keyAt s p i
  let q := pairKey s i
  let c := tabGet k.nctr cls 0
  let clear := !e.keyed
  let g0 : FabPkt := { f with
    kph := !clear && q.txPhase, switchDest := e.switchDest, dstId := e.peer, srcId := epOf x, srcPort := p, dstGen := e.peerGen,
    srcGen := if closingCtx x then oldGen x else x.gen, epoch := x.fabEpoch, nctr := if clear then 0 else c, clear := clear,
    seq := if cls = 3 then q.ctrlTx else f.seq }
  let g : FabPkt := { g0 with tag := if clear then 0 else Config.gcmTag e.keyIndex g0.kph (nonceOf g0) (aadOf g0) g0.payload }
  let s1 := if clear then s else putKey s p { k with nctr := tabSet k.nctr cls (c + 1) }
  let s2 := putPair s1 { q with count := if clear then q.count else q.count + 1,
                                ctrlTx := if cls = 3 then q.ctrlTx + 1 else q.ctrlTx }
  let s3 := putPort s2 p { portAt s2 p with link := linkSend (portAt s2 p).link (laneOf cls) g }
  emit (bumpPort (bumpPort s3 p 0 1) p 2 f.payload.length) (.fabric p g)

/-- Packets of a stream that may be sent: within its window and the 256 of R287, over a link that is up, and none but MGMT while
the context is fenced (R276, R296, R299). -/
def mayPump (s : State) (p : Nat) (t : TxStream) : Bool :=
  decide (t.sent < t.unacked.length) && decide (t.sent < min 256 t.window) && (!(ctxAt s t.ctx).fenced || t.cls == 2) &&
  t.hold == 0 && (portAt s p).up

/-- The next packets of a stream sent while its window has room and the link has credit; a packet that was sent before counts in
FAB_RETX, and one that finds no credit in FAB_CREDIT_STALL (R276, R287, R299, R303). -/
def pumpTx (p n i cls : Nat) : Nat → State → State
  | 0, s => s
  | k + 1, s =>
    let t := txAt s p n i cls
    let f := t.unacked.getD t.sent blankFab
    if mayPump s p t then
      if linkRoom s p cls f.lines then
        let s1 := if t.sent < t.again then bumpPort s p 7 1 else s
        pumpTx p n i cls k
          (sendFab (putTx s1 p { t with sent := t.sent + 1, again := max t.again (t.sent + 1) }) p n i f)
      else bumpPort s p (23 + laneOf cls) 1
    else s

/-- A packet numbered, kept until it is acknowledged, and sent when the window has room (R286, R287). -/
def queueTx (s : State) (p n i : Nat) (f : FabPkt) (reqs : List Pkt) : State :=
  let cls := classOf f.type
  let t := txAt s p n i cls
  let x := portAt s p
  let tag := if cls = 0 then x.nextTag else f.reqTag
  let s1 := if cls = 0 then putPort s p { x with nextTag := (x.nextTag + 1) % 65536 } else s
  let t1 := { t with next := t.next + 1, unacked := t.unacked ++ [{ f with seq := t.next, reqTag := tag }],
                     reqs := if cls = 0 then t.reqs ++ [(tag, reqs)] else t.reqs }
  pumpTx p n i cls t1.unacked.length (putTx s1 p t1)

/-- The packets of a stream from a SEQ on are sent again (R287, R290, R295). -/
def resendTx (s : State) (p : Nat) (t : TxStream) (seq : Nat) : State :=
  let back := min t.sent ((t.unacked.filter (fun f => decide (f.seq < seq))).length)
  pumpTx p t.ctx t.entry t.cls t.unacked.length (putTx s p { t with hold := 0, sent := back })

/-- The ACKs and NACKs that wait for the link are sent while it has credit; those of a fenced context are dropped (R276, R296). -/
def pumpCtl (p : Nat) : Nat → State → State
  | 0, s => s
  | k + 1, s =>
    let x := portAt s p
    match x.ctlQ with
    | [] => s
    | e :: rest =>
      if (ctxAt s e.1).fenced then pumpCtl p k (putPort s p { x with ctlQ := rest })
      else if linkRoom s p 3 0 then pumpCtl p k (sendFab (putPort s p { x with ctlQ := rest }) p e.1 e.2.1 e.2.2)
      else if x.up then bumpPort s p 24 1
      else s

/-- An ACK or NACK to the source of a stream; a fenced context sends none, and none goes where no entry says how (R284, R287,
R292, R296). -/
def sendCtl (s : State) (p n i type cls reason seq : Nat) (poison : Bool) (echo : Nat) : State :=
  if (ctxAt s n).fenced || !(entAt s i).valid then s
  else
    let x := portAt s p
    let f : FabPkt := { blankFab with type := type, code := cls + 4 * reason, addr := seq, poison := poison, echo := echo }
    pumpCtl p (x.ctlQ.length + 1) (putPort s p { x with ctlQ := x.ctlQ ++ [(n, i, f)] })

/-! ### Answers to bulk requests (R281, R286, R288) -/

/-- A request enters the count of its context (R298); a RELEASE is no request. -/
def countBulk (s : State) (q : Pkt) : State :=
  if q.kind = 10 then s else putCtx s q.ctx { ctxAt s q.ctx with fabOut := (ctxAt s q.ctx).fabOut + 1 }

/-- A request leaves the count of its context (R298). -/
def uncountBulk (s : State) (q : Pkt) : State :=
  if q.kind = 10 then s else putCtx s q.ctx { ctxAt s q.ctx with fabOut := (ctxAt s q.ctx).fabOut - 1 }

/-- The slot behind an ARRIVE that is refused raises the event, and stops where it still waits for the phase (R141, R283,
R292). -/
def refuseArrive (s : State) (q : Pkt) (code : Nat) : State :=
  let k := (coreOfSlot s q.srcSlot).getD q.srcCore
  let t := slotAt (coreAt s k) q.tslot
  if t.st = .sync ∧ t.takeWait = false then
    applyEv k (putCore s k (stopSlot (coreAt s k) q.tslot code))
      (if code = evFabFenced then .post code q.tslot noFld noFld 0 0 0 else .fault code q.tslot noFld noFld 0 0 0)
  else applyEv k s (.post code q.tslot noFld noFld 0 0 0)

/-- A bulk response injected at the port's attach router; it answers one fabric request of its context (R286, R298). An
ARRIVE has no response: refused, its slot raises the event. -/
def answerBulk (s : State) (p : Nat) (q : Pkt) (bytes : List (Byte × Bool)) (poison : Bool) (code echo : Nat) : State :=
  let s1 := uncountBulk s q
  if q.kind = 10 then s1
  else if q.kind = 9 then (if code = 0 then s1 else refuseArrive s1 q code)
  else
    let k := attachCore p
    putCore s1 k (injAt (coreAt s1 k) k { answerTo q bytes poison code with cmark := max q.cmark echo })

/-- A request refused at a port: its slot raises the event (R281, R283). -/
def refuseBulk (s : State) (p : Nat) (q : Pkt) (code : Nat) : State :=
  answerBulk s p q (poisonZeros q.len) true code 0

/-- The event of a POISON answer by the region of the address (R292: the event that R141 or R256 names, log 24). -/
def poisonCode (addr : Nat) : Nat :=
  if bits addr 42 40 = 1 then evSpRemoteRefused
  else if bits addr 42 40 = 0 ∧ hbmSpace ≤ bits addr 35 0 then evHbmRange
  else evHbmGrantFault

/-- Every bulk request behind a tag answered with zeros and poison. -/
def poisonTag (s : State) (p : Nat) (t : TxStream) (tag code : Nat) : State :=
  forEach ((t.reqs.filter (fun r => r.1 == tag)).flatMap (·.2)) (fun s q => refuseBulk s p q code) s

/-- A tag's requests taken out of a stream. -/
def dropTag (t : TxStream) (tag : Nat) : TxStream := { t with reqs := t.reqs.filter (fun r => r.1 != tag) }

/-- Every outstanding request of a stream completes with poison and the event named (R292, R294, R296). -/
def poisonTx (s : State) (p : Nat) (t : TxStream) (code : Nat) : State :=
  forEach (t.reqs.flatMap (·.2)) (fun s q => refuseBulk s p q code)
    (putTx s p { t with unacked := [], sent := 0, again := 0, reqs := [], hold := 0, timeouts := 0 })

/-! ### Accesses of a port engine to its own module (R279, R285, R187) -/

/-- Where a window offset leads in the target context: a SLOT address (dtype 0), or a stack and offset (dtype 2); none
where the access is refused (R279, R187, R292 row 10). -/
def targetOf (s : State) (n a : Nat) : Option (Nat × Nat × Nat) :=
  let g := grantOf s n
  let k := match (ctxAt s n).layout with
           | none => g.length
           | some l => l.basins
  match bits a 42 40 with
  | 0 => if bits a 39 36 < k then (g[bits a 39 36]?).map (fun b => (2, b, bits a 35 0)) else none
  | 1 => if bits a 39 36 < k then (g[bits a 39 36]?).map (fun b => (0, b * 1024 + bits a 35 26, bits a 25 0)) else none
  | 2 =>
    ((ctxAt s n).pages.find? (fun e => e.1 == bits a 39 16)).map (fun e => (2, e.2.basin, e.2.off * 65536 + bits a 15 0))
  | _ => none

/-- The anchors that a SUM_INTO's values carry. -/
def sumAnchors (l : List Byte) : List Nat := (vals16 (l.length / 16) l).map (fun v => bits v 111 104)

/-- The target refuses an operation before any access: a line of it has no target, or its SUM bit, region or anchors are not
those of its kind (R279, R285, R292 row 10). -/
def refusesOp (s : State) (n kind a len anchor : Nat) (payload : List Byte) : Bool :=
  (List.range (max 1 (ceilDiv len 64))).any (fun i => (targetOf s n (a + 64 * i)).isNone) ||
  (if kind = 3 then !bitAt a 43 || decide (1 < bits a 42 40) || (sumAnchors payload).any (· != anchor) else bitAt a 43)

/-- The bulk packet of one 64-byte line of an operation. -/
def opLine (s : State) (p n id kind a i : Nat) (bytes : List Byte) (poison : Bool) : Option Pkt :=
  (targetOf s n (a + 64 * i)).map (fun t =>
    { blankPkt with
      kind := if kind = 2 then 0 else if kind = 3 then 8 else 1, dtype := t.1, dst := t.2.1, addr := t.2.2,
      srcCore := attachCore p, reqId := 16 * id + i, reqUnit := 16 + p, len := 64, lines := if kind = 2 then 0 else 1, ctx := n,
      poison := poison, srcSlot := 0xFFFF, data := bytes, pois := bytes.map (fun _ => poison) })

/-- An operation begins: its lines are injected at the port's attach router (R285). -/
def startOp (s : State) (p n : Nat) (o : RxOp) (a : Nat) (payload : List Byte) (poison : Bool) : State :=
  let x := portAt s p
  let id := x.nextOp
  let m := ceilDiv o.len 64
  let ps := (List.range m).filterMap (fun i => opLine s p n id o.kind a i ((payload.drop (64 * i)).take 64) poison)
  let s1 := putPort s p { x with nextOp := x.nextOp + 1, ops := x.ops ++ [{ o with id := id, left := List.range m }] }
  let k := attachCore p
  putCore s1 k { coreAt s1 k with inj := (coreAt s1 k).inj ++ ps }

/-- The row of R292 that turns away a request of context `n` for an endpoint of context `m` of the module, by the counter it
advances: rows 2, 3, 6, 7 and 8. A context that names its own endpoint needs no entry: its keys, epoch and generations are its
own (R280, log 25). -/
def ownRow (s : State) (n m : Nat) : Option Nat :=
  let x := ctxAt s n
  let y := ctxAt s m
  let e := entAt s ((entFor s m (epOf x)).getD 4096)
  let sees := (entAt s ((entFor s n (epOf y)).getD 4096)).peerGen
  if y.quarantined then some 12
  else if n = m then none
  else if !e.keyed then some 13
  else if x.fabEpoch ≠ y.fabEpoch then some 17
  else if !e.member then some 16
  else if x.gen ≠ e.peerGen ∨ sees ≠ y.gen then some 18
  else none

/-- A GLOBAL request for an endpoint of the module is served inside it, with the checks of R292 but decryption and the stream's
order (R280, log 25). -/
def serveOwn (s : State) (p n m : Nat) (q : Pkt) : State :=
  let kind := if q.kind = 0 then 2 else if q.kind = 8 then 3 else 1
  let a := bits q.addr 43 0
  match ownRow s n m with
  | some r => refuseBulk (bumpPort s p r 1) p q (if r = 18 then evFabPeerGone else evFabUnreachable)
  | none =>
  if refusesOp s m kind a q.len ((sumAnchors q.data).headD 0) q.data then refuseBulk (bumpPort s p 19 1) p q (poisonCode q.addr)
  else
    startOp s p m { id := 0, src := 0, dst := 0, seq := 0, kind := kind, tag := 0, len := q.len, left := [], data := [],
                    refused := false, code := 0, bulk := some q } a q.data (q.poison || q.pois.any id)

/-! ### Requests (R283, R286) -/

/-- The bulk requests that wait to be merged become one fabric packet (R286). -/
def closeMerge (s : State) (p : Nat) : State :=
  let x := portAt s p
  match x.merge with
  | [] => s
  | q :: rest =>
    let l := q :: rest
    let s1 := putPort s p { x with merge := [] }
    match entFor s q.ctx (bits q.addr 63 44) with
    | none => forEach l (fun s q => refuseBulk s p q evFabNoEntry) s1
    | some i =>
      let n := sumOf (l.map (·.len))
      let f : FabPkt :=
        if q.kind = 0 then { blankFab with type := 2, addr := q.addr, length := n }
        else if q.kind = 8 then
          { fabOf 3 q.addr (l.flatMap (·.data)) with anchor := (sumAnchors q.data).headD 0, poison := l.any (·.poison) }
        else { fabOf 1 q.addr (l.flatMap (·.data)) with poison := l.any (fun k => k.poison || k.pois.any id) }
      queueTx s1 p q.ctx i f l

/-- A bulk request continues the one before it (R286). -/
def mayJoin (x : Port) (q : Pkt) : Bool :=
  match x.merge.head?, x.merge.getLast? with
  | some f, some l =>
    f.kind == q.kind && f.reqUnit == q.reqUnit && f.srcCore == q.srcCore && f.ctx == q.ctx && l.addr + l.len == q.addr &&
    f.addr / 512 == (q.addr + q.len - 1) / 512
  | _, _ => false

/-- A request with a keyed entry through this port enters the merge, which closes at 512 bytes; a sync packet is sent at
once (R286, R300). -/
def mergeReq (s : State) (p i : Nat) (q : Pkt) : State :=
  if q.kind = 9 then queueTx s p q.ctx i (fabOf 7 0 (fitBytes 64 q.data)) [q]
  else if q.kind = 10 then queueTx s p q.ctx i (fabOf 8 0 (fitBytes 64 q.data)) []
  else
    let s1 := if mayJoin (portAt s p) q then bumpPort s p 22 1 else closeMerge s p
    let s2 := putPort s1 p { portAt s1 p with merge := (portAt s1 p).merge ++ [q] }
    if 512 ≤ sumOf ((portAt s2 p).merge.map (·.len)) then closeMerge s2 p else s2

/-- A request whose entry is known: sent here, forwarded over the bulk mesh to the port that R281 chooses among the planes left,
refused, or kept until the pair is keyed (R283). A sync packet goes between the engines, as it came from its own. -/
def routeReq (s : State) (p i : Nat) (q : Pkt) : State :=
  let e := entAt s i
  let x := ctxAt s q.ctx
  let mask := planeAt s p i
  if bitAt mask p then
    (if e.keyed then mergeReq s p i q
     else putPort s p { portAt s p with keyWait := (portAt s p).keyWait ++ [q] })
  else
    match choosePort e.peer (bits q.addr 43 0) (maskOf ((bitList 24 mask).filter (fun j => bitAt x.portSet j))) with
    | none => refuseBulk s p q evFabUnreachable
    | some j =>
      let s1 := uncountBulk (bumpPort s p 10 1) q
      if q.kind = 9 ∨ q.kind = 10 then putPort s1 j { portAt s1 j with inQ := (portAt s1 j).inQ ++ [{ q with dst := j }] }
      else
        let c := coreAt s1 (attachCore p)
        putCore s1 (attachCore p) { c with inj := c.inj ++ [{ q with vc := 0, dtype := 3, dst := j, unit := none }] }

/-- A GLOBAL request looked up (R280, R283, R296); one of a context whose teardown has begun goes no further (R350). -/
def lookupReq (s : State) (p : Nat) (q : Pkt) : State :=
  let s1 := countBulk s q
  let ep := bits q.addr 63 44
  if (ctxAt s q.ctx).fenced then refuseBulk s1 p q evFabFenced
  else if closingCtx (ctxAt s q.ctx) then refuseBulk s1 p q evFabPeerGone
  else
    match ctxOfEp s ep with
    | some m => if epOf (ctxAt s q.ctx) = 0 then refuseBulk s1 p q evFabNoEntry else serveOwn s1 p q.ctx m q
    | none =>
      match entFor s q.ctx ep with
      | none => refuseBulk s1 p q evFabNoEntry
      | some i => routeReq s1 p i q

/-! ### Acknowledgements of accepted packets (R287) -/

/-- Acknowledgements due on a stream: those completed in order leave; a poisoned one is acknowledged by itself; the last
plain one at once where nothing of the stream is pending, else later (R287, R292). -/
def settleAcks (p n i src dst cls : Nat) : Nat → State → State
  | 0, s => s
  | k + 1, s =>
    let r := rxAt s p src dst cls
    match r.wait with
    | [] => s
    | w :: rest =>
      if !w.2.1 then s
      else if w.2.2 then
        settleAcks p n i src dst cls k
          (sendCtl (putRx s p { r with wait := rest, ackDue := none, echo := 0 }) p n i 5 cls 0 w.1 true r.echo)
      else if rest.isEmpty then
        sendCtl (putRx s p { r with wait := [], ackDue := none, echo := 0 }) p n i 5 cls 0 w.1 false r.echo
      else settleAcks p n i src dst cls k (putRx s p { r with wait := rest, ackDue := some w.1 })

/-- An accepted packet's operation has completed: it is acknowledged in order (R287). -/
def ackDone (s : State) (p src dst cls seq : Nat) (poison : Bool) : State :=
  let r := rxAt s p src dst cls
  let s1 := putRx s p { r with wait := r.wait.map (fun w => if w.1 = seq then (seq, true, poison) else w) }
  match ctxOfEp s dst with
  | none => s1
  | some n =>
    match entFor s n src with
    | none => s1
    | some i => settleAcks p n i src dst cls r.wait.length s1

/-- The end of an operation: an acknowledgement, a READ_DATA, or the bulk answer of a request of the module itself
(R285, R292). -/
def finishOp (s : State) (p : Nat) (o : RxOp) : State :=
  let bytes := (o.data.flatMap (·.2)).take o.len
  let poison := o.refused || bytes.any (·.2)
  let s2 := if o.refused then bumpPort s p 19 1 else bumpPort (bumpPort s p 1 1) p 3 (if o.kind = 2 then 0 else o.len)
  match o.bulk with
  | some q => answerBulk s2 p q bytes (o.refused || (q.kind == 0 && poison)) o.code 0
  | none =>
    if o.kind = 2 then
      match ctxOfEp s o.dst with
      | none => s2
      | some n =>
        match entFor s n o.src with
        | none => s2
        | some i =>
          let r := rxAt s2 p o.src o.dst 0
          queueTx (putRx s2 p { r with echo := 0 }) p n i
            { fabOf 4 0 (if o.refused then List.replicate o.len 0 else bytes.map (·.1)) with
              reqTag := o.tag, poison := poison, echo := r.echo } []
    else ackDone s2 p o.src o.dst 0 o.seq o.refused

/-- A bulk response for an operation of this port (R285). -/
def opAnswer (s : State) (p : Nat) (q : Pkt) : State :=
  match (portAt s p).ops.find? (fun o => o.id == q.reqId / 16) with
  | none => s
  | some o =>
    let l := (q.data.zip q.pois).map (fun b => (b.1, b.2 || q.poison))
    let o1 : RxOp := { o with left := o.left.erase (q.reqId % 16), data := tabSet o.data (q.reqId % 16) l,
                              refused := o.refused || q.refused != 0,
                              code := if o.code = 0 then q.refused else o.code }
    if o1.left.isEmpty then
      finishOp (putPort s p { portAt s p with ops := (portAt s p).ops.filter (fun y => y.id != o.id) }) p o1
    else putPort s p { portAt s p with ops := (portAt s p).ops.map (fun y => if y.id = o.id then o1 else y) }

/-- FABRIC_REQUEST: the next packet at a port engine is taken: a GLOBAL request is looked up, merged, forwarded or
refused; a bulk response completes the operation that asked for it (R280, R283, R285, R286). -/
def execFabricRequest (port : Nat) (s : State) : Host.Outcome State Fault Refusal :=
  runUnit port 24 (fun s =>
    match (portAt s port).inQ with
    | [] => s
    | q :: rest =>
      let s1 := putPort s port { portAt s port with inQ := rest }
      if q.kind = 2 ∨ q.kind = 3 then opAnswer s1 port q else lookupReq s1 port q) s

/-- KEY_WAIT_TIMEOUT: a request that has waited 50 ms for keys is refused (R283). -/
def execKeyWaitTimeout (port : Nat) (s : State) : Host.Outcome State Fault Refusal :=
  runUnit port 24 (fun s =>
    match (portAt s port).keyWait with
    | [] => s
    | q :: rest => refuseBulk (putPort s port { portAt s port with keyWait := rest }) port q evFabUnreachable) s

/-- FAB_MERGE_TIMEOUT: the merge window of 16 cycles has passed (R286). -/
def execFabMergeTimeout (port : Nat) (s : State) : Host.Outcome State Fault Refusal :=
  runUnit port 24 (fun s => closeMerge s port) s

/-! ### Receiving (R292, R295) -/

/-- LINES, LENGTH and the reserved values that a TYPE allows (R284, R292 row 1). -/
def hdrOk (f : FabPkt) : Bool :=
  f.rsvOk && decide (f.srcPort < 24) && f.payload.length == 64 * f.lines &&
  (match f.type with
   | 1 => decide (1 ≤ f.lines) && decide (f.lines ≤ 8)
   | 2 => f.lines == 0 && decide (64 ≤ f.length) && decide (f.length ≤ 512) && f.length % 64 == 0
   | 3 => decide (1 ≤ f.lines) && decide (f.lines ≤ 8)
   | 4 => decide (1 ≤ f.lines) && decide (f.lines ≤ 8)
   | 5 => f.lines == 0 && decide (f.code / 4 = 0)
   | 6 => f.lines == 0 && decide (1 ≤ f.code / 4) && decide (f.code / 4 ≤ 4)
   | 7 => f.lines == 1
   | 8 => f.lines == 1
   | 9 => decide (1 ≤ f.lines) && decide (f.lines ≤ 8) && decide (1 ≤ f.code) && decide (f.code ≤ 7)
   | _ => false)

/-- A MGMT packet that may arrive in clear: SPDM or RECORD (R291). -/
def clearMgmt (f : FabPkt) : Bool := f.type == 9 && (f.code == 1 || f.code == 2)

/-- What the receive checks leave: a state in which the packet is done with, or the context and entry it goes on to. -/
inductive Rx where
  | done (s : State)
  | go (s : State) (n i : Nat)

/-- A management message as fragments on the MGMT stream (R291). -/
def sendMgmt (s : State) (p n i code : Nat) (msg : List Byte) : State :=
  let k := max 1 (ceilDiv msg.length 504)
  forEach (List.range k) (fun s j =>
    queueTx s p n i { fabOf 9 0 (leBytes 2 j ++ leBytes 2 k ++ leBytes 4 msg.length ++ (msg.drop (504 * j)).take 504) with
      code := code } []) s

/-- A membership record by its bytes (R293). -/
def recordOf (bytes : List Byte) : MembRecord :=
  let fld (i n : Nat) : Nat := leNat ((bytes.drop i).take n)
  let n := fld 8 2
  let word (i : Nat) : Nat := fld (32 + 8 * i) 8
  { magic := fld 0 4, domain := fld 4 2, epoch := fld 6 2, count := n,
    members := (List.range n).map (fun i => { id := bits (word i) 19 0, switchDest := bits (word i) 35 20, plane := bits (word i) 59 36 }),
    sig := (bytes.drop (32 + 8 * n)).take 384,
    formOk := bytes.length == 32 + 8 * n + 384 && fld 10 22 == 0 && (List.range n).all (fun i => bits (word i) 63 60 == 0) }

/-- A membership record's bytes, with the signature it came with (R293, R295). -/
def recordBytes (r : MembRecord) : List Byte :=
  leBytes 4 r.magic ++ leBytes 2 r.domain ++ leBytes 2 r.epoch ++ leBytes 2 r.count ++ List.replicate 22 0 ++
    r.members.flatMap (fun m => leBytes 8 (m.id % 2 ^ 20 + m.switchDest % 2 ^ 16 * 2 ^ 20 + m.plane % 2 ^ 24 * 2 ^ 36)) ++
    fitBytes 384 r.sig

/-- The current record sent to a peer (R295). -/
def sendRecord (s : State) (p n i : Nat) : State :=
  match (ctxAt s n).record with
  | none => s
  | some r => sendMgmt s p n i 2 (recordBytes r)

/-- Row 6: the epochs differ or the sender is not a member (R295). -/
def epochRow (s : State) (p n i : Nat) (f : FabPkt) : Option State :=
  let x := ctxAt s n
  let e := entAt s i
  let d := (f.epoch + 65536 - x.fabEpoch) % 65536
  if d = 0 then (if e.member then none else some (bumpPort s p 16 1))
  else if d < 32768 then some (sendCtl (bumpPort s p 17 1) p n i 6 (classOf f.type) 3 f.seq false 0)
  else if e.member then
    some (sendRecord (sendCtl (bumpPort s p 17 1) p n i 6 (classOf f.type) 2 f.seq false 0) p n i)
  else
    let s1 := bumpPort s p 16 1
    if tabHas (portAt s p).recSent i ∧ s.sup.ticks < tabGet (portAt s p).recSent i 0 + 25000 then some s1
    else some (sendRecord (putPort s1 p { portAt s1 p with recSent := tabSet (portAt s1 p).recSent i s.sup.ticks }) p n i)

/-- A packet accepted under an entry's keys: the CTRL counter, and the use of the old key (R286, R290). -/
def noteKey (s : State) (i : Nat) (f : FabPkt) : State :=
  let k := pairKey s i
  let k1 : PairKey := if !f.clear && f.kph != k.rxPhase then { k with oldUsed := s.sup.ticks } else k
  let k2 : PairKey := if classOf f.type = 3 then { k1 with ctrlRx := f.seq + 1 } else k1
  if k2 = k then s else putPair s k2

/-- Row 9: the stream's order (R287). -/
def seqRow (s : State) (p n i : Nat) (f : FabPkt) : Rx :=
  let cls := classOf f.type
  let r := rxAt s p f.srcId f.dstId cls
  if cls = 3 then .go (noteKey s i f) n i
  else if f.seq < r.expected then
    .done (match (r.wait.map (·.1)).headD r.expected with
           | 0 => bumpPort s p 8 1
           | k + 1 => sendCtl (bumpPort (putRx s p { r with echo := 0 }) p 8 1) p n i 5 cls 0 k false r.echo)
  else if r.expected < f.seq then .done (sendCtl (bumpPort s p 9 1) p n i 6 cls 1 r.expected false 0)
  else
    .go (putRx (noteKey s i f) p { r with expected := f.seq + 1, echo := max r.echo f.cmark, wait := r.wait ++ [(f.seq, false, false)] }) n i

/-- A NACK whose reason is the other side's epoch: it carries that epoch, and R295 says what it does (R292). -/
def epochNack (f : FabPkt) : Bool := f.type == 6 && (f.code / 4 == 2 || f.code / 4 == 3)

/-- DST_GEN names the context: its generation, or, while its streams outlive its teardown, the old one on a packet that is no
request (R292 row 8, R298, R350). -/
def dstGenOk (x : Ctx) (f : FabPkt) : Bool :=
  f.dstGen == x.gen || (closingCtx x && classOf f.type != 0 && f.dstGen == oldGen x)

/-- The checks of R292, first row that applies. A record in a MGMT packet, and an SPDM message in clear, are judged by
their own rules in place of rows 6 to 8, also where their source has no entry (R291, R293, log 26); a NACK of an epoch passes row 6
(R295). -/
def rxCheck (s : State) (p : Nat) (f : FabPkt) : Rx :=
  if !hdrOk f then .done (bumpPort s p 11 1)
  else
    match ctxOfEp s f.dstId with
    | none => .done (bumpPort s p 12 1)
    | some n =>
      let x := ctxAt s n
      if x.quarantined then .done (bumpPort s p 12 1)
      else
        let i := (entFor s n f.srcId).getD 4096
        let e := entAt s i
        let k := pairKey s i
        let clearOk := f.clear && clearMgmt f && !e.keyed
        if !clearOk && !e.keyed then .done (bumpPort s p 13 1)
        else if !clearOk && (f.clear || !f.authOk || (f.kph != k.rxPhase && !k.oldHeld)) then .done (bumpPort s p 14 1)
        else if classOf f.type = 3 ∧ f.seq < k.ctrlRx then .done (bumpPort s p 15 1)
        else
          let own := clearOk || (f.type == 9 && f.code == 2)
          match (if own || epochNack f then none else epochRow s p n i f) with
          | some s1 => .done s1
          | none =>
            if !own && f.srcGen != e.peerGen then .done (bumpPort s p 18 1)
            else if !own && !dstGenOk x f then
              .done (sendCtl (bumpPort s p 18 1) p n i 6 (classOf f.type) 4 f.seq false 0)
            else seqRow s p n i f

/-- A packet that comes over a link: none comes while the port is not up. One whose TYPE, or a MGMT packet whose CODE, is reserved
fails row 1 (R276, R291, R292); `mine` tells the packets that a command takes. -/
def rxLink (port : Nat) (w : WirePkt) (mine : FabPkt → Bool) (act : FabPkt → State → State) (s : State) :
    Host.Outcome State Fault Refusal :=
  runUnit port 24 (fun s =>
    let f := readHead w
    if !(portAt s port).up then s
    else if mine f then act f (linkRx s port f.lines)
    else if f.type = 0 ∨ 9 < f.type ∨ (f.type = 9 ∧ (f.code = 0 ∨ 7 < f.code)) then bumpPort (linkRx s port f.lines) port 11 1
    else s) s

/-- A packet of a TYPE received and checked. -/
def rxPkt (port type : Nat) (w : WirePkt) (act : FabPkt → State → Nat → Nat → State) (s : State) :
    Host.Outcome State Fault Refusal :=
  rxLink port w (fun f => f.type == type) (fun f s =>
    match rxCheck s port f with
    | .done s1 => s1
    | .go s1 n i => act f s1 n i) s

/-- A received operation: refused before any access, or begun (R285, R292 rows 10, 11). -/
def rxOp (port kind : Nat) (f : FabPkt) (s : State) (n : Nat) : State :=
  let a := bits f.addr 43 0
  let len := if kind = 2 then f.length else 64 * f.lines
  let o : RxOp := { id := 0, src := f.srcId, dst := f.dstId, seq := f.seq, kind := kind, tag := f.reqTag, len := len, left := [],
                    data := [], refused := false, code := 0, bulk := none }
  let s1 := if kind = 2 then ackDone s port f.srcId f.dstId 0 f.seq false else s
  if refusesOp s n kind a len f.anchor f.payload then finishOp s1 port { o with refused := true, code := poisonCode f.addr }
  else startOp s1 port n o a f.payload f.poison

/-- FAB_WRITE: a WRITE is checked and stored, and acknowledged once the store completes (R285, R287, R292). -/
def execFabWrite (port : Nat) (pkt : WirePkt) (s : State) : Host.Outcome State Fault Refusal :=
  rxPkt port 1 pkt (fun f s n _ => rxOp port 1 f s n) s

/-- FAB_READ: a READ is checked, acknowledged, and answered with READ_DATA (R285, R287, R292). -/
def execFabRead (port : Nat) (pkt : WirePkt) (s : State) : Host.Outcome State Fault Refusal :=
  rxPkt port 2 pkt (fun f s n _ => rxOp port 2 f s n) s

/-- FAB_SUM_INTO: ESF-96 values are added at an HBM or SLOT target (R285, R75, R76, R292). -/
def execFabSumInto (port : Nat) (pkt : WirePkt) (s : State) : Host.Outcome State Fault Refusal :=
  rxPkt port 3 pkt (fun f s n _ => rxOp port 3 f s n) s

/-! ### Answers at the sender (R286 to R288, R292, R299) -/

/-- An echo at a sending stream: 2 or 3 halves its window, unless one did within 4 µs (R299). -/
def echoTx (s : State) (p n i cls echo : Nat) : State :=
  let t := txAt s p n i cls
  if echo < 2 ∨ s.sup.ticks < t.ignoreTil then s
  else bumpPort (putTx s p { t with window := max 1 (t.window / 2), ignoreTil := s.sup.ticks + 100 }) p 20 1

/-- Bytes of a list of bulk requests before each. -/
def sliceFor (l : List (Byte × Bool)) : List Pkt → List (Pkt × List (Byte × Bool))
  | [] => []
  | q :: rest => (q, l.take q.len) :: sliceFor (l.drop q.len) rest

/-- READ_DATA: the merged bulk reads behind its tag complete (R285, R286). -/
def execReadData (port : Nat) (pkt : WirePkt) (s : State) : Host.Outcome State Fault Refusal :=
  rxPkt port 4 pkt (fun pkt s n i =>
    let s1 := bumpPort (bumpPort (ackDone s port pkt.srcId pkt.dstId 1 pkt.seq false) port 1 1) port 3 pkt.payload.length
    let s2 := echoTx s1 port n i 0 pkt.echo
    let t := txAt s2 port n i 0
    let qs := (t.reqs.filter (fun r => r.1 == pkt.reqTag)).flatMap (·.2)
    if qs.any (fun q => q.kind != 0) then s2
    else
      forEach (sliceFor (pkt.payload.map (fun b => (b, pkt.poison))) qs) (fun s q =>
        answerBulk s port q.1 q.2 pkt.poison (if pkt.poison then poisonCode q.1.addr else 0) pkt.echo)
        (putTx s2 port (dropTag t pkt.reqTag))) s

/-- A packet acknowledged: a WRITE, SUM_INTO or ARRIVE completes its bulk requests; a READ waits for its data (R287). -/
def ackOne (port n i : Nat) (poison : Bool) (ackSeq echo : Nat) (s : State) (f : FabPkt) : State :=
  let t := txAt s port n i 0
  if classOf f.type ≠ 0 ∨ f.type = 2 then s
  else
    let bad := poison && f.seq == ackSeq
    forEach ((t.reqs.filter (fun r => r.1 == f.reqTag)).flatMap (·.2)) (fun s q =>
      answerBulk s port q [] bad (if bad then poisonCode q.addr else 0) echo) (putTx s port (dropTag t f.reqTag))

/-- ACK: the sender's packets up to the acknowledged SEQ are released (R287, R299). -/
def execAck (port : Nat) (pkt : WirePkt) (s : State) : Host.Outcome State Fault Refusal :=
  rxPkt port 5 pkt (fun pkt s n i =>
    let cls := pkt.code % 4
    let s1 := echoTx (bumpPort s port 1 1) port n i cls pkt.echo
    let t := txAt s1 port n i cls
    let got := (t.unacked.take (max t.sent t.again)).filter (fun f => decide (f.seq ≤ pkt.addr))
    let s2 := putTx s1 port { t with unacked := t.unacked.drop got.length, sent := t.sent - got.length,
                                     again := t.again - got.length,
                                     timeouts := if got.isEmpty then t.timeouts else 0 }
    pumpTx port n i cls 256 (forEach got (ackOne port n i pkt.poison pkt.addr pkt.echo) s2)) s

/-- NACK: GAP resends from the oldest unacknowledged packet; EPOCH_BEHIND waits for the record that follows, unless it has been
adopted, and then resends from the SEQ given; EPOCH_AHEAD forwards the record and resends so after 2 µs; CTX_GONE completes every
request with poison (R287, R292, R295). -/
def execNack (port : Nat) (pkt : WirePkt) (s : State) : Host.Outcome State Fault Refusal :=
  rxPkt port 6 pkt (fun pkt s n i =>
    let cls := pkt.code % 4
    let s1 := bumpPort s port 1 1
    let t := txAt s1 port n i cls
    match pkt.code / 4 with
    | 1 => resendTx s1 port t 0
    | 2 => if (ctxAt s1 n).fabEpoch = pkt.epoch then resendTx s1 port t pkt.addr
           else putTx s1 port { t with hold := 1, resume := pkt.addr }
    | 3 => sendRecord (putTx s1 port { t with hold := 2, resume := pkt.addr }) port n i
    | _ => poisonTx s1 port t evFabPeerGone) s

/-- ACK_TIMER: what waits for the link's credit goes on, and the delayed acknowledgements of a port are sent (R276, R287). -/
def execAckTimer (port : Nat) (s : State) : Host.Outcome State Fault Refusal :=
  runUnit port 24 (fun s =>
    let s0 := forEach (portAt s port).tx (fun s t => pumpTx port t.ctx t.entry t.cls t.unacked.length s)
      (pumpCtl port (portAt s port).ctlQ.length s)
    forEach ((portAt s0 port).rx.filter (fun r => r.ackDue.isSome)) (fun s r =>
      match ctxOfEp s r.dst with
      | none => s
      | some n =>
        match entFor s n r.src with
        | none => s
        | some i => sendCtl (putRx s port { r with ackDue := none, echo := 0 }) port n i 5 r.cls 0 (r.ackDue.getD 0) false r.echo) s0) s

/-! ### Replica-scope barriers (R300) -/

/-- A received sync packet in the numbers of this module: its home basin by the grant of the context (R187, log 23). -/
def rxSync (s : State) (n : Nat) (f : FabPkt) : Option (Nat × SyncPkt) :=
  let w := syncOfWord (leNat (f.payload.take 8))
  ((grantOf s n)[w.home]?).map (fun b => (b, { w with home := b }))

/-- FAB_ARRIVE: an arrival of another module is counted at the home engine, once for each participant, source endpoint
and phase (R300, R314). -/
def execFabArrive (port : Nat) (pkt : WirePkt) (s : State) : Host.Outcome State Fault Refusal :=
  rxPkt port 7 pkt (fun pkt s n _ =>
    let s1 := bumpPort (bumpPort s port 1 1) port 3 64
    let s2 := match rxSync s n pkt with
              | none => s1
              | some (b, w) =>
                (match objAt s b w.obj with
                 | none => s1
                 | some x => if x.replica && isHome (ctxAt s n) then arriveObj (bumpSync s1 b 0 1) b w pkt.srcId else s1)
    ackDone s2 port pkt.srcId pkt.dstId 0 pkt.seq false) s

/-- FAB_RELEASE: the home has released a phase; this module's engine releases its own waiting slots (R300). -/
def execFabRelease (port : Nat) (pkt : WirePkt) (s : State) : Host.Outcome State Fault Refusal :=
  rxPkt port 8 pkt (fun pkt s n _ =>
    let s1 := ackDone (bumpPort (bumpPort s port 1 1) port 3 64) port pkt.srcId pkt.dstId 1 pkt.seq false
    match rxSync s n pkt with
    | none => s1
    | some (b, w) =>
      match objAt s1 b w.obj with
      | none => s1
      | some x =>
        if x.replica && !isHome (ctxAt s1 n) && w.val == x.phase then
          putObj (releaseAll s1 b w.obj { x with replica := false } (epOf (ctxAt s1 n))) b w.obj (nextPhase x)
        else s1) s

/-! ### Timers (R287, R288, R295, R299) -/

/-- An unacknowledged packet of a failed stream: WRITE, READ and ARRIVE are issued again, a sum is lost, a management
message goes to another port of the context, an RSP packet is lost with its stream (R288, log 27). -/
def reissue (s : State) (p : Nat) (t : TxStream) (f : FabPkt) : State :=
  let qs := (t.reqs.filter (fun r => r.1 == f.reqTag)).flatMap (·.2)
  if f.type = 3 then poisonTag s p t f.reqTag evFabSumLost
  else if f.type = 9 then
    (match choosePort (entAt s t.entry).peer 0 (maskOf ((bitList 24 (planeAt s p t.entry)).filter (fun j => j != p))) with
     | none => s
     | some j => queueTx s j t.ctx t.entry f [])
  else if classOf f.type ≠ 0 then s
  else
    forEach qs (fun s q =>
      let s1 := uncountBulk s q
      putPort s1 p { portAt s1 p with inQ := (portAt s1 p).inQ ++ [q] }) s

/-- A stream fails: its plane bit is cleared in this port's table, its packets are handled by type, and the stream that follows it
numbers from 0 (R288, R290). -/
def failStream (s : State) (p : Nat) (t : TxStream) : State :=
  let tags := t.unacked.map (·.reqTag)
  let s1 := putTx s p { t with next := 0, unacked := [], sent := 0, again := 0, timeouts := 0, hold := 0,
                               reqs := t.reqs.filter (fun r => !(t.cls == 0 && tags.contains r.1)) }
  let s2 := putPort s1 p { portAt s1 p with planeClr := sortNat ((portAt s1 p).planeClr ++ [t.entry]) }
  forEach t.unacked (fun s f => reissue s p t f) s2

/-- A sending stream of a port by its place. -/
def streamNo (s : State) (p k : Nat) : Option TxStream := (portAt s p).tx[k]?

/-- RESEND_TIMEOUT: 20 µs without progress resend a stream from its oldest packet; the eighth in a row fails it
(R287, R288). -/
def execResendTimeout (port stream : Nat) (s : State) : Host.Outcome State Fault Refusal :=
  runUnit port 24 (fun s =>
    match streamNo s port stream with
    | none => s
    | some t =>
      if t.sent = 0 ∧ t.again = 0 then s
      else if 8 ≤ t.timeouts + 1 then failStream s port t
      else resendTx s port { t with timeouts := t.timeouts + 1 } 0) s

/-- EPOCH_AHEAD_RESEND: 2 µs after an EPOCH_AHEAD the stream resends (R295). -/
def execEpochAheadResend (port stream : Nat) (s : State) : Host.Outcome State Fault Refusal :=
  runUnit port 24 (fun s =>
    match streamNo s port stream with
    | none => s
    | some t => if t.hold = 2 then resendTx s port t t.resume else s) s

/-- FAB_WIN_TICK: 4 µs without an echo above 0 add 8 to a stream's window, up to 256 (R299). -/
def execFabWinTick (port stream : Nat) (s : State) : Host.Outcome State Fault Refusal :=
  runUnit port 24 (fun s =>
    match streamNo s port stream with
    | none => s
    | some t => pumpTx port t.ctx t.entry t.cls 8 (putTx s port { t with window := min 256 (t.window + 8) })) s

/-! ### Training and replay (R276, R302, R317) -/

/-- A port that goes down: its merge is chosen again, its contexts and the board are told (R276, R302). -/
def portDown (s : State) (p : Nat) : State :=
  let x := portAt s p
  let s1 := putPort s p { x with up := false, down := true, merge := [], inQ := x.merge ++ x.inQ }
  let s2 := forEach x.merge uncountBulk s1
  raiseAlert (forEach (List.range 16) (fun s n =>
    if bitAt (ctxAt s n).portSet p then ctxEvent s n evFabPortDown 0 0 0 0 else s) s2) 2

/-- The link after training: the far end grants its credits (R276). -/
def linkTrained (l : Link) : Link := { l with credit := (List.range 3).map (fun i => (i, Config.linkCredits i 0)) }

/-- PORT_RETRAIN: a port trains; three failures in a row take it down until power-on (R276). -/
def execPortRetrain (port : Nat) (ok : Bool) (s : State) : Host.Outcome State Fault Refusal :=
  runUnit port 24 (fun s =>
    let x := portAt s port
    if x.down then s
    else if ok then putPort s port { x with up := true, trainFails := 0, replayFails := 0, link := linkTrained x.link }
    else if x.trainFails + 1 < 3 then putPort s port { x with up := false, trainFails := x.trainFails + 1 }
    else portDown (putPort s port { x with trainFails := 3 }) port) s

/-- LINK_BLOCK_REPLAY: a block whose FEC decode or CRC fails is replayed from the blocks kept, and counted; 16 failed replays in a row make
the port retrain (R276). -/
def execLinkBlockReplay (port : Nat) (ok : Bool) (s : State) : Host.Outcome State Fault Refusal :=
  runUnit port 24 (fun s =>
    let s1 := bumpPort s port 6 1
    let x := portAt s1 port
    if ok then putPort s1 port { x with replayFails := 0 }
    else if x.replayFails + 1 < 16 then putPort s1 port { x with replayFails := x.replayFails + 1 }
    else putPort s1 port { x with up := false, replayFails := 0 }) s

end Sys2Proof.Machine
end

