-- ==== Sys2Proof/Machine/FabMgmt.lean ====
section
/-! DEFINITION. Fabric management (R289 to R298, R406): keys and pairs, membership records and fences, closing contexts,
PART_INFO and the digest exchange. -/

namespace Sys2Proof.Machine

/-! ### Messages to peers (R289, R291) -/

/-- The port that a context's management messages to an entry go through. -/
def mgmtPort (s : State) (n i : Nat) : Option Nat :=
  choosePort (entAt s i).peer 0 (maskOf ((bitList 24 (entAt s i).plane).filter (fun j =>
    bitAt (ctxAt s n).portSet j && !(portAt s j).down)))

/-- A management message to the peer of an entry. -/
def tellPeer (s : State) (n i code : Nat) (msg : List Byte) : State :=
  match mgmtPort s n i with
  | none => s
  | some p => sendMgmt s p n i code msg

/-- Keying starts: the side with the lower endpoint ID is the requester of the SPDM session (R289). -/
def startKeying (s : State) (n i : Nat) : State :=
  if epOf (ctxAt s n) < (entAt s i).peer then tellPeer s n i 1 ((Config.answerWords 0x201 i).flatMap (leBytes 8)) else s

/-- Entries of a context. -/
def entsOf (s : State) (n : Nat) : List Nat := (s.fab.table.filter (fun e => e.2.valid && e.2.ctx == n)).map (·.1)

/-- PART_INFO (R291): generation, part of the running layout, seed and package digest. -/
def partInfoBytes (x : Ctx) : List Byte :=
  leBytes 1 x.gen ++
    (match x.layout with
     | none => leBytes 1 0xFF ++ List.replicate 6 0 ++ leBytes 8 0
     | some l => leBytes 1 l.part ++ List.replicate 6 0 ++ leBytes 8 l.seed) ++
    (match x.wpkg with
     | none => List.replicate 32 0
     | some w => leBytes 32 w.digest)

/-- PART_INFO to every keyed peer, after a load or unload and after a change of generation (R291). -/
def tellParts (s : State) (n : Nat) : State :=
  forEach ((entsOf s n).filter (fun i => (entAt s i).keyed)) (fun s i => tellPeer s n i 5 (partInfoBytes (ctxAt s n))) s

/-! ### Fragments (R291) -/

/-- One fragment of a management message: in order it joins the message, whose last one runs the action; one out of
order, or a TOTAL that disagrees with FRAGS, discards the message (R291). -/
def takeFrag (s : State) (p n i : Nat) (f : FabPkt) (act : State → Nat → Nat → List Byte → State) : State :=
  let s1 := ackDone (bumpPort (bumpPort s p 1 1) p 3 f.payload.length) p f.srcId f.dstId 2 f.seq false
  let r := rxAt s1 p f.srcId f.dstId 2
  let frag := leNat (f.payload.take 2)
  let frags := leNat ((f.payload.drop 2).take 2)
  let total := leNat ((f.payload.drop 4).take 4)
  if frag ≠ r.frag ∨ frags ≠ max 1 (ceilDiv total 504) then bumpPort (putRx s1 p { r with frag := 0, buf := [] }) p 11 1
  else
    let buf := (if frag = 0 then [] else r.buf) ++ (f.payload.drop 8).take 504
    if frag + 1 = frags then act (putRx s1 p { r with frag := 0, buf := [] }) n i (buf.take total)
    else putRx s1 p { r with frag := frag + 1, buf := buf }

/-- A MGMT packet of a subtype received, checked and joined to its message. -/
def rxMgmt (port code : Nat) (w : WirePkt) (act : State → Nat → Nat → List Byte → State) (s : State) :
    Host.Outcome State Fault Refusal :=
  rxLink port w (fun f => f.type == 9 && f.code == code) (fun f s =>
    match rxCheck s port f with
    | .done s1 => s1
    | .go s1 n i => takeFrag s1 port n i f act) s

/-! ### Whose module this is (R354, R355, R361) -/

/-- The code of the life-cycle state (R354, R355): 0 BLANK, 1 PROVISIONED, 2 DEPLOYED, 3 RETURNED, 4 RETIRED. -/
def lcState (f : Fuse) : Nat := if f.lcRetired then 4 else if f.lcCount = 0 then 0 else (f.lcCount - 1) % 3 + 1

/-- The owner-digest slot of the deployment in force (R356). -/
def ownerSlot (f : Fuse) : Nat := (f.lcCount - 2) / 3

/-- The fused digest of the owner of the current deployment (R356, R362). -/
def ownerDigestOf (f : Fuse) : Option Nat :=
  if lcState f = 2 then (f.ownerDigest.find? (fun e => e.1 == ownerSlot f)).map (·.2) else none


/-! ### Keys (R289, R290) -/

/-- The streams of a pair, but for management, begin anew with its new keys; what was not acknowledged is handled as for a
failed stream (R288, R289, log 27). -/
def restartStreams (s : State) (n i : Nat) : State :=
  forEach (List.range 24) (fun s p =>
    let x := portAt s p
    let mine := x.tx.filter (fun t => t.ctx == n && t.entry == i && t.cls != 2)
    let e := entAt s i
    let s1 := putPort s p { x with
      tx := x.tx.filter (fun t => !(t.ctx == n && t.entry == i && t.cls != 2)),
      rx := x.rx.filter (fun r => !(r.src == e.peer && r.dst == epOf (ctxAt s n) && r.cls != 2)),
      keys := x.keys.filter (fun k => k.entry != i) }
    forEach mine (fun s t => forEach t.unacked (fun s f => reissue s p t f) s) s1)
    { s with fab := { s.fab with keys := s.fab.keys.filter (fun k => k.entry != i) ++ [{ entry := i, since := s.sup.ticks }] } }

/-- Requests that waited for the keys of an entry go on (R283). -/
def wakeKeyWait (s : State) (n i : Nat) : State :=
  forEach (List.range 24) (fun s p =>
    let x := portAt s p
    let mine (q : Pkt) : Bool := q.ctx == n && bits q.addr 63 44 == (entAt s i).peer
    forEach (x.keyWait.filter mine) (fun s q => routeReq s p i q)
      (putPort s p { x with keyWait := x.keyWait.filter (fun q => !mine q) })) s

/-- The peer of an SPDM session meets R289: its chain verifies, it is DEPLOYED, it holds the owner key of this module and runs the
same firmware major version. -/
def peerOk (s : State) (chainOk : Bool) (q : PeerFacts) : Bool :=
  chainOk && q.lifeCycle == 2 && ownerDigestOf s.fuse == some q.ownerKey && q.fwMajor == s.sup.fwMajor

/-- The peer has renewed the key it sends under: packets of both phases are accepted until the old key is erased (R290). -/
def renewRx (s : State) (i : Nat) : State :=
  let k := pairKey s i
  putPair s { k with rxPhase := !k.rxPhase, oldHeld := true, updated := s.sup.ticks, oldUsed := s.sup.ticks }

/-- MGMT_SPDM: a message of the attestation of a pair. When the session has finished and the peer meets R289, its keys
and generation are stored, requests that waited go on and PART_INFO is sent; otherwise the pair is refused. The end of a message
exchange of a pair that is keyed is the peer's key update; a message from where no entry leads is not answered (R289 to R291). -/
def execMgmtSpdm (port : Nat) (pkt : WirePkt) (finished chainOk : Bool) (peer : PeerFacts) (s : State) : Host.Outcome State Fault Refusal :=
  rxMgmt port 1 pkt (fun s n i _ =>
    if !(entAt s i).valid then s
    else if !finished then sendMgmt s port n i 1 ((Config.answerWords 0x202 i).flatMap (leBytes 8))
    else if (entAt s i).keyed then renewRx s i
    else if !peerOk s chainOk peer then ctxEvent s n evFabPeerRejected 0 0 0 0
    else
      let s1 := putEnt (restartStreams s n i) i { entAt s i with keyed := true, peerGen := peer.gen % 256, keyIndex := i }
      tellPeer (wakeKeyWait s1 n i) n i 5 (partInfoBytes (ctxAt s1 n))) s

/-- The sending key of a pair has served 2^40 packets or 24 hours, in ticks of 40 ns (R290). -/
def renewDue (s : State) (k : PairKey) : Bool :=
  decide (2 ^ 40 ≤ k.count) || decide (k.since + 24 * 3600 * 25000000 ≤ s.sup.ticks)

/-- FAB_KEY_RENEWAL: after 2^40 packets or 24 hours an SPDM key update gives a new sending key: KPH flips at every port and the
counters of the new key begin at 0; the peer holds both for packets on their way (R290). -/
def execFabKeyRenewal (port entry : Nat) (s : State) : Host.Outcome State Fault Refusal :=
  runUnit port 24 (fun s =>
    let k := pairKey s entry
    if (entAt s entry).keyed && renewDue s k then
      forEach (List.range 24) (fun s p =>
        let x := portAt s p
        if x.keys.any (fun u => u.entry == entry) then putPort s p { x with keys := x.keys.filter (fun u => u.entry != entry) } else s)
        (putPair s { k with txPhase := !k.txPhase, count := 0, since := s.sup.ticks })
    else s) s

/-- The old receiving key of a pair is due to be erased: 1 ms after its last use, or 10 ms after the update (R290). -/
def eraseDue (s : State) (k : PairKey) : Bool :=
  k.oldHeld && (decide (k.oldUsed + 25000 ≤ s.sup.ticks) || decide (k.updated + 250000 ≤ s.sup.ticks))

/-- FAB_OLD_KEY_ERASE: the old key is erased (R290). -/
def execFabOldKeyErase (port entry : Nat) (s : State) : Host.Outcome State Fault Refusal :=
  runUnit port 24 (fun s =>
    let k := pairKey s entry
    if eraseDue s k then putPair s { k with oldHeld := false } else s) s

/-! ### Membership (R293 to R297) -/

/-- Epoch `e` is newer than `c` (R294). -/
def newer (e c : Nat) : Bool := decide (1 ≤ (e + 65536 - c) % 65536) && decide ((e + 65536 - c) % 65536 ≤ 32767)

/-- A record's form and signature hold, under a registered fabric manager key (R293, R361). -/
def recordOk (s : State) (r : MembRecord) (sigOk : Bool) : Bool :=
  r.magic == 0x424D454D && decide (1 ≤ r.count) && decide (r.count ≤ 4096) && r.formOk && sigOk && s.trust.fmKey.isSome

/-- Every outstanding request of a context to an entry, or to all, completes with poison and an event (R294, R296). -/
def poisonPeer (s : State) (n : Nat) (i : Option Nat) (code : Nat) : State :=
  forEach (List.range 24) (fun s p =>
    let x := portAt s p
    let hit (j : Nat) : Bool := i.all (· == j)
    let mine (q : Pkt) : Bool := q.ctx == n && i.all (fun j => bits q.addr 63 44 == (entAt s j).peer)
    let waiting := x.merge.filter mine ++ x.keyWait.filter mine
    let s1 := putPort s p { x with merge := x.merge.filter (fun q => !mine q), keyWait := x.keyWait.filter (fun q => !mine q) }
    let s2 := forEach waiting (fun s q => refuseBulk s p q code) s1
    forEach (x.tx.filter (fun t => t.ctx == n && hit t.entry && t.cls == 0)) (fun s t => poisonTx s p t code) s2) s

/-- The cores that run stations of a context. -/
def ctxCores (s : State) (n : Nat) : List Nat :=
  (s.cores.filter (fun e => e.2.station.isSome && (basinAt s (basinOf e.1)).ctx == some n)).map (·.1)

/-- Slots of a context that wait at a replica-scope barrier whose home is gone raise FAB_PEER_REMOVED and stop (R302). -/
def homeGone (s : State) (n : Nat) : State :=
  forEach (ctxCores s n) (fun s k =>
    forEach (List.range 8) (fun s j =>
      let t := slotAt (coreAt s k) j
      let rep := match objAt s (t.syncObj / 256) (t.syncObj % 256) with
                 | none => false
                 | some x => x.replica
      if t.st = .sync ∧ t.takeWait = false ∧ rep = true then
        applyEv k (putCore s k (stopSlot (coreAt s k) j evFabPeerRemoved)) (.fault evFabPeerRemoved j noFld noFld 0 0 0)
      else s) s) s

/-- A task slot that a fence finds at its code, or waiting there, raises FAB_FENCED and stops (R296). -/
def fenceSlot (k : Nat) (s : State) (j : Nat) : State :=
  let t := slotAt (coreAt s k) j
  if t.st = .running ∨ t.st = .waitOp ∨ t.st = .queueRoom ∨ t.st = .credit ∨ t.st = .sync then
    applyEv k (putCore s k (stopSlot (coreAt s k) j evFabFenced)) (.post evFabFenced j noFld noFld 0 0 0)
  else s

/-- A context fences itself: its requests complete with poison, it issues no packet but MGMT, its task slots stop, its basins
drain, and the owner and the board are told (R296). -/
def fenceCtx (s : State) (n : Nat) : State :=
  if (ctxAt s n).fenced then s
  else
    let s0 := poisonPeer (putCtx s n { ctxAt s n with fenced := true }) n none evFabFenced
    let s1 := forEach (ctxCores s0 n) (fun s k => (List.range 8).foldl (fenceSlot k) s) s0
    let s2 := raiseAlert (ctxEvent s1 n evFabFenced (maskOf (grantOf s n)) 0 0 0) 3
    if (ctxAt s2 n).layout.isSome then startDrain s2 n (grantOf s2 n) .fence 0 0 true else s2

/-- A slot that a fence stopped begins its next firing when the layout restarts (R296). -/
def unfence (c : Core) : Core :=
  (List.range 8).foldl (fun d i =>
    let t := slotAt d i
    if t.st = .stopped ∧ t.stopEv = evFabFenced then
      putSlot d i { t with st := .afterEnd, stopEv := 0, firing := t.firing + 1, adj := [] }
    else d) c

/-- The layout of a context goes on after a drain that no reconfiguration followed: behind a forced boundary (R296,
R308). -/
def restartDrained (s : State) (n : Nat) : State :=
  let s1 := forEach (ctxCores s n) (fun s k => putCore s k { unfence (coreAt s k) with stopAt := sectStop s n (coreAt s k) }) s
  wakeCtx (putCtx s1 n { ctxAt s1 n with forced := true }) n

/-- The first entry that is not in use. -/
def freeEnt (s : State) : Option Nat := (List.range 4096).find? (fun i => !(entAt s i).valid)

/-- A listed peer's entry written or rewritten; a new one starts keying (R294 step 3). The answer tells whether there was
room. -/
def adoptMember (n : Nat) (r : MembRecord) (z : State × Bool) (m : Member) : State × Bool :=
  let s := z.1
  if m.id = epOf (ctxAt s n) then z
  else
    match entFor s n m.id with
    | some i =>
      let e := { entAt s i with plane := m.plane, switchDest := m.switchDest, epoch := r.epoch, member := true }
      (forEach (List.range 24) (fun s p => putPort s p { portAt s p with planeClr := (portAt s p).planeClr.filter (· != i) })
        (putEnt s i e), z.2)
    | none =>
      match freeEnt s with
      | none => (s, false)
      | some i =>
        (startKeying (putEnt s i { peer := m.id, ctx := n, valid := true, keyed := false, member := true, plane := m.plane,
                                   switchDest := m.switchDest, keyIndex := i, epoch := r.epoch, peerGen := 0 }) n i, z.2)

/-- A peer that is not listed (R294 step 4, R302). -/
def dropMember (s : State) (n i : Nat) : State :=
  let s1 := poisonPeer (putEnt s i { entAt s i with member := false }) n (some i) evFabPeerRemoved
  if homeEp (ctxAt s n) = some (entAt s i).peer ∧ isHome (ctxAt s n) = false then homeGone s1 n else s1

/-- Streams that waited for a record resend (R295). -/
def resendHeld (s : State) (n : Nat) : State :=
  forEach (List.range 24) (fun s p =>
    forEach ((portAt s p).tx.filter (fun t => t.ctx == n && t.hold == 1)) (fun s t => resendTx s p t t.resume) s) s

/-- A newer record adopted by a context (R294, R296). -/
def adoptRecord (s : State) (n : Nat) (r : MembRecord) : State :=
  let x := ctxAt s n
  if !r.members.any (fun m => m.id == epOf x) then fenceCtx s n
  else
    let s1 := putCtx s n { x with fabEpoch := r.epoch, record := some r, fenced := false }
    let z := r.members.foldl (adoptMember n r) (s1, true)
    let out := (entsOf z.1 n).filter (fun i => !r.members.any (fun m => m.id == (entAt z.1 i).peer))
    let s2 := forEach out (fun s i => dropMember s n i) z.1
    let s3 := if z.2 then s2 else ctxEvent s2 n evFabTableFull 0 0 0 0
    let s4 := resendHeld s3 n
    if x.fenced && !s4.mesh.drains.any (fun d => d.ctx == n && d.why == .fence) then restartDrained s4 n else s4

/-- A record judged for every context of its domain (R293, R294, R297): a bad one is counted at a port. -/
def judgeRecord (s : State) (p : Nat) (r : MembRecord) (sigOk : Bool) : State :=
  if !recordOk s r sigOk then bumpPort s p 21 1
  else
    forEach (List.range 16) (fun s n =>
      let x := ctxAt s n
      if epOf x ≠ 0 ∧ bits x.act.fabId 35 20 = r.domain ∧ newer r.epoch x.fabEpoch then adoptRecord s n r else s) s

/-- RECORD: the membership record that the message holds is judged and, if newer, adopted; the operand tells whether its
signature verifies (R293, R294). -/
def execRecord (port : Nat) (pkt : WirePkt) (sigOk : Bool) (s : State) : Host.Outcome State Fault Refusal :=
  rxMgmt port 2 pkt (fun s _ _ msg => judgeRecord s port (recordOf msg) sigOk) s

/-- MCTP_MEMBERSHIP_RECORD: a record over the management bus (R293). A bad one is counted at port 0 (log 28). -/
def execMctpMembershipRecord (rec : SignedRec) (s : State) : Host.Outcome State Fault Refusal :=
  .next (judgeRecord s 0 (recordOf rec.bytes) rec.sigOk)

/-! ### Closing contexts (R298) -/

/-- The message of CTX_CLOSE (R291). -/
def closeBytes (ep gen : Nat) : List Byte := leBytes 8 (ep % 2 ^ 20 + gen % 256 * 2 ^ 24)

/-- CTX_CLOSE: the peer's context has closed: it is acknowledged, and its entry is no longer KEYED (R298). -/
def execCtxClose (port : Nat) (pkt : WirePkt) (s : State) : Host.Outcome State Fault Refusal :=
  rxMgmt port 3 pkt (fun s n i msg =>
    if bits (leNat msg) 19 0 ≠ (entAt s i).peer then s
    else
      let s1 := sendMgmt s port n i 4 (fitBytes 8 msg)
      putEnt s1 i { entAt s1 i with keyed := false }) s

/-- CTX_CLOSE_ACK: a peer has acknowledged the closing of a context (R298). -/
def execCtxCloseAck (port : Nat) (pkt : WirePkt) (s : State) : Host.Outcome State Fault Refusal :=
  rxMgmt port 4 pkt (fun s n i _ =>
    putCtx s n { ctxAt s n with closesOwed := (ctxAt s n).closesOwed.filter (· != i) }) s

/-! ### PART_INFO and the digest exchange (R291, R406) -/

/-- PART_INFO: the peer's generation, part, seed and package digest (R289, R291). -/
def execPartInfo (port : Nat) (pkt : WirePkt) (s : State) : Host.Outcome State Fault Refusal :=
  rxMgmt port 5 pkt (fun s _ i msg =>
    let gen := leNat (msg.take 1)
    let s1 := putEnt s i { entAt s i with peerGen := gen }
    let entry := (i, gen, leNat ((msg.drop 1).take 1), leNat ((msg.drop 8).take 8), leNat ((msg.drop 16).take 32))
    { s1 with fab := { s1.fab with partInfo := s1.fab.partInfo.filter (fun e => e.1 != i) ++ [entry] } }) s

/-- PART_INFO_REQ is answered with PART_INFO (R291). -/
def execPartInfoReq (port : Nat) (pkt : WirePkt) (s : State) : Host.Outcome State Fault Refusal :=
  rxMgmt port 6 pkt (fun s n i _ => sendMgmt s port n i 5 (partInfoBytes (ctxAt s n))) s

/-- What the latest PART_INFO of an entry's peer said. -/
def partInfoOf (s : State) (i : Nat) : Option (Nat × Nat × Nat × Nat) := (s.fab.partInfo.find? (fun e => e.1 == i)).map (·.2)

/-- The PART that a context reports (R291). -/
def partOf (x : Ctx) : Nat :=
  match x.layout with
  | none => 0xFF
  | some l => l.part

/-- A digest partner: a keyed entry whose peer reports the same package and part (R406). -/
def isPartner (s : State) (n i : Nat) : Bool :=
  (entAt s i).keyed &&
  (match (ctxAt s n).wpkg, partInfoOf s i with
   | some w, some (_, part, _, dig) => dig == w.digest && part == partOf (ctxAt s n)
   | _, _ => false)

/-- The hash of a copy's last sweep (R404, R406); the manifest's where it has only been verified. -/
def lastHash (s : State) (n b : Nat) (h : Shard) : Nat :=
  (((hbmAt s b).sweeps.find? (fun e => e.1 == n && e.2.1 == h.id)).map (·.2.2)).getD h.digest

/-- Entries of a DIGEST_XCHG message (R291). -/
def xchgEntries (msg : List Byte) : List (Nat × Bool × Nat) :=
  (List.range (min (leNat (msg.take 4)) (msg.length / 40))).map (fun j =>
    let e := (msg.drop (16 + 40 * j)).take 40
    (leNat (e.take 2), bitAt (leNat ((e.drop 3).take 1)) 0, leNat ((e.drop 8).take 32)))

/-- DIGEST_XCHG: where a partner's verified copies lie; a hash that differs from the manifest raises PEER_SHARD_BAD
(R406). -/
def execDigestXchg (port : Nat) (pkt : WirePkt) (s : State) : Host.Outcome State Fault Refusal :=
  rxMgmt port 7 pkt (fun s n i msg =>
    if !isPartner s n i then s
    else
      let ep := (entAt s i).peer
      let l := xchgEntries msg
      let shards := match (ctxAt s n).wpkg with
                    | none => []
                    | some w => w.shards
      let kept := s.fab.xchg.filter (fun e => !(e.1 == n && e.2.1 == ep))
      let s1 := { s with fab := { s.fab with xchg := kept ++ l.map (fun e => (n, ep, e.1, e.2.1)) } }
      forEach (l.filter (fun e => shards.any (fun h => h.id == e.1 && h.digest != e.2.2))) (fun s e =>
        ctxEvent s n evPeerShardBad 0 ep e.1 0) s1) s

/-- Bytes of a DIGEST_XCHG message (R291, R406). -/
def xchgBytes (s : State) (n : Nat) (w : Wpkg) : List Byte :=
  let l := w.shards.flatMap (fun h => (bitList 16 h.good).map (fun b => (h, b)))
  leBytes 4 l.length ++ List.replicate 12 0 ++ l.flatMap (fun x =>
    leBytes 2 x.1.id ++ leBytes 1 (imageOf s n x.2) ++ leBytes 1 (b2n (goodCopy s n x.2 x.1)) ++ List.replicate 4 0 ++
      leBytes 32 (lastHash s n x.2 x.1))

/-- DIGEST_EXCHANGE_SEND: every XCHG_MIN minutes a DIGEST_XCHG goes to each partner (R406). -/
def execDigestExchangeSend (ctx : Nat) (s : State) : Host.Outcome State Fault Refusal :=
  runUnit ctx 16 (fun s =>
    match (ctxAt s ctx).wpkg with
    | none => s
    | some w => forEach ((entsOf s ctx).filter (isPartner s ctx)) (fun s i => tellPeer s ctx i 7 (xchgBytes s ctx w)) s) s

end Sys2Proof.Machine
end

