-- ==== Sys2Proof/Machine/Image.lean ====
section
/-! DEFINITION. The layout image (R185 to R215): reading its sections and records, and the load checks of R188 in
their order. -/

namespace Sys2Proof.Machine

/-! ### Header and section directory (R185, R186) -/

/-- A little-endian field of an image: `n` bytes from `o` (R7, R185). -/
def imgField (m : List Byte) (o n : Nat) : Nat := leNat ((m.drop o).take n)

/-- The directory as (TYPE, bytes 2-3, COUNT, OFFSET) (R186). -/
def imgDirs (m : List Byte) : List (Nat × Nat × Nat × Nat) :=
  (List.range (imgField m 22 2)).map (fun i =>
    (imgField m (128 + 16 * i) 2, imgField m (130 + 16 * i) 2, imgField m (132 + 16 * i) 4, imgField m (136 + 16 * i) 8))

/-- COUNT and OFFSET of a section; both 0 where the image has none. -/
def imgSect (m : List Byte) (t : Nat) : Nat × Nat :=
  match (imgDirs m).find? (fun d => d.1 == t) with
  | none => (0, 0)
  | some d => (d.2.2.1, d.2.2.2)

/-- Bytes of one record of a section; 0 for STATIONS, whose records vary (R186, R191, R202, R205, R211, R215, R233, R235,
R246, R507). -/
def recLen (t : Nat) : Nat :=
  match t with
  | 2 => 132
  | 3 => 16
  | 4 => 8
  | 5 => 8
  | 6 => 16
  | 7 => 16
  | 8 => 32
  | 9 => 16
  | 10 => 8
  | _ => 0

/-- The records of a section as words. -/
def imgWords (m : List Byte) (t : Nat) : List Nat :=
  (List.range (imgSect m t).1).map (fun i => imgField m ((imgSect m t).2 + i * recLen t) (recLen t))

/-! ### Station records (R191 to R194) -/

/-- Bytes from the start of a station record to the end of its last part, up to a 16-byte boundary (R191, log 29). -/
def stationLen (m : List Byte) (o : Nat) : Nat :=
  let h := imgField m o 64
  let w := if bits h 271 256 = 0 then 0 else bits h 319 288 + 16 * bits h 271 256
  let c := if bits h 63 48 = 0 then 0 else bits h 351 320 + 16 * bits h 63 48
  ceilDiv (max 1296 (max w c)) 16 * 16

/-- Offsets of the station records: each starts where the one before it ends. -/
def stationOffs (m : List Byte) : Nat → Nat → List Nat
  | 0, _ => []
  | n + 1, o => o :: stationOffs m n (o + stationLen m o)

/-- The walk of R193: the offsets where an operation word begins, and whether every payload ends within the code. -/
def codeWalk (code : List (BitVec 128)) : Nat → Nat → List Nat × Bool
  | 0, _ => ([], true)
  | n + 1, pc =>
    if code.length ≤ pc then ([], true)
    else
      let next := pc + 1 + payUnits (opOp (code.getD pc 0))
      let r := codeWalk code n next
      (pc :: r.1, r.2 && decide (next ≤ code.length))

/-- A station record read at an offset, with image basin numbers (R191, R192). -/
def readStation (m : List Byte) (o : Nat) : Station :=
  let h := imgField m o 64
  let pg := imgField m (o + 96) 36
  let code := (List.range (bits h 63 48)).map (fun i => BitVec.ofNat 128 (imgField m (o + bits h 351 320 + 16 * i) 16))
  { slot := bits h 13 0, group := bits h 31 16, firePerMb := bits h 47 32, tileOwn := bits h 79 64, lutOwn := bits h 95 80,
    entry := (List.range 8).map (fun i => bits h (143 + 16 * i) (128 + 16 * i)),
    windows := (List.range 8).map (fun i => imgField m (o + 64 + 4 * i) 4),
    pages := (List.range 72).map (fun p => bits pg (4 * p + 3) (4 * p)),
    inEp := (List.range 32).map (fun e => imgField m (o + 144 + 8 * e) 8),
    outEp := (List.range 32).map (fun e => imgField m (o + 400 + 8 * e) 8),
    rateIn := (List.range 32).map (fun e => imgField m (o + 656 + 2 * e) 2),
    rateOut := (List.range 32).map (fun e => imgField m (o + 720 + 2 * e) 2),
    scaleMap := (List.range 256).map (fun e => imgField m (o + 784 + 2 * e) 2),
    wfill := (List.range (bits h 271 256)).map (fun i => imgField m (o + bits h 319 288 + 16 * i) 16),
    code := code, marks := (codeWalk code code.length 0).1 }

/-- The records' offsets in an image. -/
def imgStations (m : List Byte) : List Nat := stationOffs m (imgSect m 1).1 (imgSect m 1).2

/-- Targets of a multicast list: slot and inbound endpoint (R233). -/
def mcastPairs (w : Nat) : List (Nat × Nat) :=
  (List.range (bits w 5 0)).map (fun i => (bits w (45 + 32 * i) (32 + 32 * i), bits w (50 + 32 * i) (46 + 32 * i)))

/-- The layout that an image describes, still with image basin numbers (R185 to R215). -/
def readLayout (m : List Byte) : Layout :=
  { format := imgField m 4 2, basins := imgField m 8 1, mode := imgField m 9 1, dither := bitAt (imgField m 10 1) 0,
    headroom := imgField m 11 1, winL := if imgField m 12 1 = 0 then 8 else imgField m 12 1, part := imgField m 13 1,
    parts := imgField m 14 1, stepMb := imgField m 16 2, mbTokens := imgField m 18 2, slots := imgField m 20 2,
    seed := imgField m 24 8,
    desig := ((List.range 16).map (fun i => imgField m (32 + 2 * i) 2)).filterMap (fun w =>
      if bitAt w 15 then some (w % 4096) else none),
    digest := imgField m 64 32, imageDigest := sha256 m, stations := (imgStations m).map (readStation m),
    mcast := (imgWords m 2).map mcastPairs, redgroup := imgWords m 3, syncobj := imgWords m 4, scaleEnt := imgWords m 5,
    groups := imgWords m 6, experts := imgWords m 7, reconv := imgWords m 8, sections := imgWords m 9, peers := imgWords m 10,
    map := [], fired := [], idxRegs := [], held := false, stopped := false, replace := false, running := false }

/-! ### Check 1: the form (R185, R186) -/

/-- A section type is allowed in this image. -/
def sectAllowed (m : List Byte) (t : Nat) : Bool :=
  decide (1 ≤ t) && decide (t ≤ 10) && (t != 9 || imgField m 4 2 == 0x0204) && (t != 10 || decide (1 < imgField m 14 1))

/-- A section lies inside the image. -/
def sectInside (m : List Byte) (d : Nat × Nat × Nat × Nat) : Bool :=
  if d.1 = 1 then
    d.2.2.2 % 16 == 0 && decide (d.2.2.2 + 1296 * d.2.2.1 ≤ m.length) &&
    (imgStations m).all (fun o => decide (o + stationLen m o ≤ m.length))
  else decide (d.2.2.2 + d.2.2.1 * recLen d.1 ≤ m.length)

/-- The image is malformed (R185, R186, check 1 of R188). -/
def formBad (m : List Byte) : Bool :=
  let ds := imgDirs m
  let ts := ds.map (·.1)
  imgField m 0 4 != 0x594C414E || !(imgField m 4 2 == 0x0600 || imgField m 4 2 == 0x0204) ||
  imgField m 22 2 == 0 || decide (32 < imgField m 22 2) || decide (m.length < 128 + 16 * imgField m 22 2) ||
  ds.any (fun d => d.2.1 != 0 || !sectAllowed m d.1) || decide ((sortNat ts).length ≠ ts.length) ||
  !ts.contains 1 || !ts.contains 5 || (imgField m 4 2 == 0x0204 && !ts.contains 9) ||
  (decide (1 < imgField m 14 1) && !ts.contains 10) || ds.any (fun d => !sectInside m d)

/-! ### Check 3: fields (R185, R191 to R194, R199, R201, R202, R205, R211, R215, R235, R246, R507) -/

/-- Distinct slots of the STATIONS section (R185). -/
def slotsOf (l : Layout) : List Nat := sortNat (l.stations.map (·.slot))

/-- A header field holds a reserved or out-of-range value (R185). -/
def headerBad (m : List Byte) (l : Layout) : Bool :=
  l.basins == 0 || decide (16 < l.basins) || decide (1 < l.mode) || decide (1 < imgField m 10 1) || decide (3 < l.headroom) ||
  decide (16 < imgField m 12 1) || l.parts == 0 || decide (64 < l.parts) || decide (l.parts ≤ l.part) ||
  imgField m 15 1 != 0 || l.stepMb == 0 || decide (4096 < l.stepMb) || l.mbTokens == 0 ||
  decide (l.slots ≠ (slotsOf l).length) || imgField m 96 32 != 0 ||
  (List.range 16).any (fun i => bits (imgField m (32 + 2 * i) 2) 14 12 != 0)

/-- An inbound endpoint is the destination of a reduction group (R160, R235). -/
def isDest (l : Layout) (slot e : Nat) : Bool := l.redgroup.any (fun w => bits w 37 24 == slot && bits w 42 38 == e)

/-- Task slots named by an enabled endpoint, a tile or a table (R193). -/
def namedSlots (y : Station) : List Nat :=
  y.inEp.filterMap (fun w => if bits w 8 0 = 0 then none else some (bits w 14 12)) ++
  y.outEp.filterMap (fun w => if bits w 1 0 = 0 then none else some (bits w 23 21)) ++
  (List.range 4).filterMap (fun t => if bitAt y.tileOwn (4 * t + 3) then some (bits y.tileOwn (4 * t + 2) (4 * t)) else none) ++
  (List.range 4).filterMap (fun t => if bitAt y.lutOwn (4 * t + 3) then some (bits y.lutOwn (4 * t + 2) (4 * t)) else none)

/-- An inbound endpoint entry holds a reserved value (R160, R199). -/
def inEpBad (l : Layout) (y : Station) (e : Nat) : Bool :=
  let w := nth y.inEp e 0
  decide (256 < bits w 8 0) || decide (4 < bits w 11 9) || bitAt w 15 || decide (64 < bits w 22 16) || bitAt w 23 ||
  bitAt w 35 || decide (10 < bits w 50 47) || bits w 63 51 != 0 ||
  (bits w 8 0 != 0 && !isDest l y.slot e && bits w 50 36 != 0) ||
  (bits w 8 0 != 0 && bits w 11 9 == 4 && nth y.rateIn e 0 != 0)

/-- An outbound endpoint entry holds a reserved value or an image basin at or above BASINS (R161, R187). -/
def outEpBad (l : Layout) (w : Nat) : Bool :=
  bits w 63 24 != 0 || (bits w 1 0 != 1 && bits w 20 16 != 0) || (decide (2 ≤ bits w 1 0) && bits w 15 12 != 0) ||
  (bits w 1 0 == 3 && decide (l.basins ≤ bits w 11 8))

/-- A station record holds a reserved or out-of-range value (R137, R128, R191 to R194). -/
def stationBad (m : List Byte) (l : Layout) (o : Nat) (y : Station) : Bool :=
  let h := imgField m o 64
  bits h 15 14 != 0 || bits h 127 96 != 0 || bits h 287 272 != 0 || bits h 511 352 != 0 || imgField m (o + 132) 12 != 0 ||
  (y.code.isEmpty && y.firePerMb != 0) || !(codeWalk y.code y.code.length 0).2 ||
  y.entry.any (fun p => p != 0xFFFF && (decide (y.code.length ≤ p) || !y.marks.contains p)) ||
  (namedSlots y).any (fun i => nth y.entry i 0xFFFF == 0xFFFF) ||
  y.windows.any (fun w => bitAt w 11 || bits w 31 24 != 0) || y.pages.any (fun p => bitAt p 3) ||
  (List.range 32).any (inEpBad l y) || y.outEp.any (outEpBad l) ||
  nth y.scaleMap 0 0 != 0 || y.scaleMap.any (fun w => bits w 14 12 != 0) ||
  y.wfill.any (fun w => bits w 31 16 != 0 || bits w 69 64 != 0 || bitAt w 87 || bits w 127 112 != 0)

/-- GROUPS and EXPERTS records (R201, R202). -/
def groupsBad (l : Layout) : Bool :=
  l.groups.any (fun w => bits w 127 33 != 0 || bits w 31 16 == 0 ||
    decide ((l.stations.filter (fun y => y.group == bits w 15 0)).length ≠ bits w 31 16)) ||
  l.experts.any (fun w => bits w 47 40 != 0 || bits w 127 96 != 0 || bits w 39 32 == 0 || decide (bits w 31 16 < bits w 39 32) ||
    bits w 63 48 == 0)

/-- LONG_SLOTS of a RECONV record, six of 16 bits (R205). -/
def longSlots (w : Nat) : List Nat := (List.range 6).map (fun i => bits w (175 + 16 * i) (160 + 16 * i))

/-- The RECONV records break R205; `due` slots are still owed by continuations of the last list. -/
def reconvBad : List Nat → Nat → Bool
  | [], due => due != 0
  | w :: t, due =>
    let used := if due = 0 then bits w 71 64 else due
    (longSlots w).any (fun x => decide (16384 ≤ x)) || ((longSlots w).drop used).any (· != 0) ||
    (if due = 0 then
      bits w 63 32 == 0 || bits w 71 64 == 0 || decide (16 < bits w 71 64) || bits w 31 19 != 0 || bits w 95 72 != 0
     else bits w 159 0 != 0) ||
    reconvBad t (used - 6)

/-- REDGROUP, SYNCOBJ, SCALE, SECTIONS, PEERS and MCAST records (R211, R215, R233, R235, R246, R300, R507). -/
def recordsBad (m : List Byte) (l : Layout) : Bool :=
  l.redgroup.any (fun w => bits w 15 10 != 0 || bits w 47 43 != 0 || bits w 127 77 != 0 || decide (l.basins ≤ bits w 9 6)) ||
  l.syncobj.any (fun w => bitAt w 15 || bits w 63 32 != 0 || decide (1 < bits w 13 12) || decide (l.basins ≤ bits w 11 8) ||
    (bits w 13 12 == 0 && (bits w 31 16 == 0 || decide (64 < bits w 31 16))) || (bits w 13 12 == 1 && bitAt w 14)) ||
  l.scaleEnt.any (fun w => bits w 15 12 != 0 || bits w 23 18 != 0 || bits w 63 27 != 0 ||
    (l.mode == 1 && bitAt w 16 && bits w 26 24 == 7)) ||
  decide ((sortNat (l.scaleEnt.map (· % 4096))).length ≠ l.scaleEnt.length) ||
  l.sections.any (fun w => bits w 7 4 != 0 || bits w 127 64 != 0 || bits w 31 16 == 0 || decide (l.basins ≤ bits w 3 0) ||
    decide (l.stations.length < bits w 47 32 + bits w 63 48)) ||
  l.peers.any (fun w => bits w 63 12 != 0) ||
  (imgWords m 2).any (fun w => bits w 31 6 != 0 || (List.range 32).any (fun i => bits w (63 + 32 * i) (51 + 32 * i) != 0 ||
    (decide (bits w 5 0 ≤ i) && bits w (63 + 32 * i) (32 + 32 * i) != 0)))

/-! ### The host areas of a context (R325, R335) -/

/-- The regions of R325 as (basin, offset, length). -/
def areasOf (g : CtxCfg) (bs : List Nat) (tokens : Nat) : List (Nat × Nat × Nat) :=
  [(ioBasin g, inOff g, mbRing g * tokens * (16 + 16 * inUnits g)), (ioBasin g, outOff g, mbRing g * tokens * 16 * outUnits g),
   (ioBasin g, ptOff g, 8 * poolPages g * bs.length)] ++ bs.map (fun b => (b, poolOff g * 65536, poolPages g * 65536))

/-- Two regions share a byte. -/
def areasMeet (a b : Nat × Nat × Nat) : Bool :=
  a.1 == b.1 && a.2.2 != 0 && b.2.2 != 0 && decide (a.2.1 < b.2.1 + b.2.2) && decide (b.2.1 < a.2.1 + a.2.2)

/-- No two regions of a list meet. -/
def areasApart : List (Nat × Nat × Nat) → Bool
  | [] => true
  | a :: t => !t.any (areasMeet a) && areasApart t

/-- The areas satisfy R325 under a grant. -/
def areasOk (g : CtxCfg) (bs : List Nat) (tokens : Nat) : Bool :=
  let l := areasOf g bs tokens
  l.all (fun a => a.2.2 == 0 || (bs.contains a.1 && decide (a.2.1 + a.2.2 ≤ hbmSpace))) && areasApart l &&
  decide (poolPages g * bs.length ≤ 2 ^ 24)

/-- Check 3 of R188. -/
def fieldsBad (s : State) (n : Nat) (m : List Byte) (l : Layout) : Bool :=
  headerBad m l || recordsBad m l || groupsBad l || reconvBad l.reconv 0 ||
  ((imgStations m).zip l.stations).any (fun p => stationBad m l p.1 p.2) ||
  !areasOk (ctxAt s n).act (grantOf s n) l.mbTokens

/-! ### Checks 5 to 9, 11, 12 -/

/-- The exponent that a package gives a tensor: the last entry in manifest order (R507). -/
def pkgScale (w : Wpkg) (t : Nat) : Option Int := (w.scales.reverse.find? (fun e => e.1 == t)).map (·.2)

/-- Check 5 (R188, R507). -/
def wpkgBad (s : State) (n : Nat) (l : Layout) : Bool :=
  match (ctxAt s n).wpkg with
  | none => true
  | some w => w.digest != l.digest || l.scaleEnt.any (fun e => (pkgScale w (e % 4096)).isNone)

/-- Slots of the LONG_SLOTS lists, as many as HOPS calls for (R205). -/
def reconvSlots : List Nat → Nat → List Nat
  | [], _ => []
  | w :: t, due =>
    let used := if due = 0 then bits w 71 64 else due
    (if due = 0 then [bits w 13 0] else []) ++ (longSlots w).take used ++ reconvSlots t (used - 6)

/-- Every slot that the image names (R16). -/
def allSlots (l : Layout) : List Nat :=
  l.stations.flatMap (fun y => y.slot :: y.outEp.filterMap (fun w => if bits w 1 0 = 1 then some (bits w 15 2) else none)) ++
  l.mcast.flatMap (fun p => p.map (·.1)) ++ l.redgroup.map (fun w => bits w 37 24) ++ reconvSlots l.reconv 0

/-- A slot number is invalid (R16). -/
def slotBad (l : Layout) (x : Nat) : Bool := decide (576 ≤ x % 1024) || decide (l.basins ≤ x / 1024)

/-- Check 8: page classes and fill destinations (R128, R194). -/
def pagesBad (y : Station) : Bool :=
  y.pages.any (fun p => ((bits p 2 1 == 1 || bits p 2 1 == 3) && !bitAt p 0) || (bits p 2 1 == 2 && bitAt p 0)) ||
  y.wfill.any (fun w => bits w 111 88 != 0 &&
    (List.range (ceilDiv (bits w 86 64 % 65536 + bits w 111 88) 65536)).any (fun i =>
      bits (nth y.pages (bits w 86 64 / 65536 + i) 0) 2 1 != 1))

/-- A region of a task window lies inside the window, on CLASS 0 pages with INIT CARRY (R162). -/
def regionOk (y : Station) (owner off len : Nat) : Bool :=
  let w := nth y.windows owner 0
  decide (off + len ≤ winSize w) &&
  (List.range (ceilDiv ((winBase w + off) % 65536 + len) 65536)).all (fun i =>
    nth y.pages ((winBase w + off) / 65536 + i) 0 % 8 == 4)

/-- Check 12: a spill region or landing area breaks R162. -/
def spillBad (l : Layout) (y : Station) : Bool :=
  (List.range 32).any (fun e =>
    let w := nth y.inEp e 0
    bits w 8 0 != 0 &&
    ((bits w 22 16 != 0 && !regionOk y (bits w 14 12) (bits w 34 24 * 4096) (bits w 22 16 * 4096)) ||
     (isDest l y.slot e && !regionOk y (bits w 14 12) (bits w 46 36 * 4096) (bits w 8 0 * 64 * 2 ^ bits w 50 47))))

/-! ### Check 13: channels (R162, R192, R233, R235) -/

/-- Two records that name one slot belong to different sections of one basin (R192, R212). -/
def shareOk (l : Layout) (i j : Nat) : Bool :=
  match sectOf l i, sectOf l j with
  | some a, some b => bits a 3 0 == bits b 3 0 && bits a 15 8 != bits b 15 8
  | _, _ => false

/-- The records with their numbers. -/
def numbered (l : Layout) : List (Nat × Station) := (List.range l.stations.length).zip l.stations

/-- Two stations can be resident at one time: they do not belong to different sections of one basin (R211). -/
def together (l : Layout) (i j : Nat) : Bool :=
  match sectOf l i, sectOf l j with
  | some a, some b => bits a 3 0 != bits b 3 0 || bits a 15 8 == bits b 15 8
  | _, _ => true

/-- The targets of an outbound endpoint entry (R161, R168). -/
def entryTargets (l : Layout) (w : Nat) : List (Nat × Nat) :=
  match bits w 1 0 with
  | 1 => [(bits w 15 2, bits w 20 16)]
  | 2 => nth l.mcast (bits w 11 2) []
  | 3 =>
    (match l.redgroup.find? (fun g => bits g 5 0 == bits w 7 2 && bits g 9 6 == bits w 11 8) with
     | none => []
     | some g => [(bits g 37 24, bits g 42 38)])
  | _ => []

/-- Every outbound endpoint that can feed an inbound endpoint of record `i`: record, endpoint, kind and place of the target
in its list. -/
def feedersOf (l : Layout) (i slot e : Nat) : List (Nat × Nat × Nat × Nat) :=
  (numbered l).flatMap (fun p =>
    if together l p.1 i then
      (List.range 32).flatMap (fun o =>
        let w := nth p.2.outEp o 0
        let ts := entryTargets l w
        (List.range ts.length).filterMap (fun q => if nth ts q (0, 0) = (slot, e) then some (p.1, o, bits w 1 0, q) else none))
    else [])

/-- An endpoint named as a target is enabled on some record of the slot. -/
def targetOk (l : Layout) (t : Nat × Nat) : Bool := l.stations.any (fun y => y.slot == t.1 && bits (nth y.inEp t.2 0) 8 0 != 0)

/-- A target of record `i` lies on stations of other sections of its basin alone (R212). -/
def joinsSections (l : Layout) (i : Nat) (t : Nat × Nat) : Bool :=
  let js := (numbered l).filter (fun q => q.2.slot == t.1)
  !js.isEmpty && !js.any (fun q => together l i q.1)

/-- An inbound endpoint is fed by a channel from another section of its basin: check 14 judges it (R188, R212). -/
def crossFed (l : Layout) (slot e : Nat) : Bool :=
  (numbered l).any (fun p => p.2.outEp.any (fun w =>
    bits w 1 0 != 3 && (entryTargets l w).contains (slot, e) && joinsSections l p.1 (slot, e)))

/-- The feeders of an enabled inbound endpoint break R162: neither exactly one channel nor exactly one group. -/
def feedBad (l : Layout) (i : Nat) (y : Station) (e : Nat) : Bool :=
  let f := feedersOf l i y.slot e
  let ch := (f.filter (fun x => x.2.2.1 != 3)).length
  let gr := (l.redgroup.filter (fun w => bits w 37 24 == y.slot && bits w 42 38 == e)).length
  bits (nth y.inEp e 0) 8 0 != 0 && ch + gr != 1 && !(ch + gr == 0 && crossFed l y.slot e)

/-- A reduction group breaks R162 or R235. -/
def redBad (l : Layout) (g : Nat) : Bool :=
  let n := sumOf (l.stations.map (fun y =>
    (y.outEp.filter (fun w => bits w 1 0 == 3 && bits w 7 2 == bits g 5 0 && bits w 11 8 == bits g 9 6)).length))
  bits g 63 48 == 0 || bits g 63 48 != n ||
  l.stations.any (fun y => y.slot == bits g 37 24 &&
    (let w := nth y.inEp (bits g 42 38) 0
     bits w 8 0 != 0 && (bits w 22 16 != 0 || !winRemote (nth y.windows (bits w 14 12) 0))))

/-- Check 13 of R188. -/
def channelsBad (l : Layout) : Bool :=
  let ns := numbered l
  ns.any (fun p => ns.any (fun q => decide (p.1 < q.1) && p.2.slot == q.2.slot && !shareOk l p.1 q.1)) ||
  l.mcast.any (fun ts => ts.isEmpty || decide (32 < ts.length) || decide (ts.eraseDups.length ≠ ts.length) ||
    ts.any (fun t => !targetOk l t)) ||
  l.stations.any (fun y => y.outEp.any (fun w =>
    bits w 1 0 != 0 && ((entryTargets l w).isEmpty || (entryTargets l w).any (fun t => !targetOk l t)))) ||
  l.redgroup.any (fun g => redBad l g || !targetOk l (bits g 37 24, bits g 42 38)) ||
  decide ((l.redgroup.map (fun g => g % 1024)).eraseDups.length ≠ l.redgroup.length) ||
  ns.any (fun p => (List.range 32).any (feedBad l p.1 p.2))

/-! ### Check 14: sections (R212) -/

/-- RESERVE pages of a station. -/
def reservePages (y : Station) : List Nat := (List.range 72).filter (fun p => bits (nth y.pages p 0) 2 1 == 3)

/-- Bytes of a station record in the RESERVE pages (R212). -/
def reserveLen (y : Station) : Nat := ceilDiv (1296 + 16 * y.wfill.length + 16 * y.code.length) 64 * 64

/-- Check 14 of R188. -/
def sectionsBad (l : Layout) : Bool :=
  l.format == 0x0204 &&
  (l.parts != 1 || l.stations.any (fun y => y.pages.any (fun p => bits p 2 1 == 1)) ||
   (numbered l).any (fun p => p.2.outEp.any (fun w => (entryTargets l w).any (joinsSections l p.1))) ||
   (List.range 16).any (fun b =>
     let os := (l.sections.filter (fun w => bits w 3 0 == b)).map (fun w => bits w 15 8)
     sortNat os != List.range os.length) ||
   (slotsOf l).any (fun x =>
     let ys := ((numbered l).filter (fun p => p.2.slot == x && (sectOf l p.1).isSome)).map (·.2)
     match ys with
     | [] => false
     | y :: t => t.any (fun z => reservePages z != reservePages y) ||
                 decide (65536 * (reservePages y).length < sumOf (ys.map reserveLen))))

/-! ### Check 15: placement (R19, R201) -/

/-- Placement in hand: cores still free, and slots placed. -/
structure Placing where
  free : List Nat
  done : List (Nat × Nat)
  deriving DecidableEq, Repr

/-- A slot number with its home basin translated (R187). -/
def physSlot (bs : List Nat) (x : Nat) : Nat := nth bs (x / 1024) 0 * 1024 + x % 1024

/-- The first free core of the first basin that has one. -/
def firstFree (free : List Nat) (bs : List Nat) : Option Nat := bs.findSome? (fun b => free.find? (fun k => basinOf k == b))

/-- The slots of a group. -/
def groupSlots (l : Layout) (g : Nat) : List Nat := sortNat ((l.stations.filter (fun z => z.group == g)).map (·.slot))

/-- The group of a slot where its stations are to lie in one basin, with the number of its slots (R201). -/
def affinityOf (l : Layout) (slot : Nat) : Option (Nat × Nat) :=
  match l.stations.find? (fun y => y.slot == slot) with
  | none => none
  | some y =>
    if l.groups.any (fun w => bits w 15 0 == y.group && bitAt w 32) then some (y.group, (groupSlots l y.group).length) else none

/-- One slot placed, by its image and its physical number: on the lowest free core of its home basin, else of the other granted
basins in order. The first slot of a group with AFFINITY takes the whole group to one basin that has room for it (R19, R201,
log 12). -/
def placeOne (l : Layout) (bs : List Nat) (z : Option Placing) (x : Nat × Nat) : Option Placing :=
  match z with
  | none => none
  | some z =>
    if z.done.any (fun e => e.1 == x.2) then some z
    else
      let home := x.2 / 1024
      let pref := home :: bs.filter (· != home)
      let inB (b : Nat) : List Nat := z.free.filter (fun k => basinOf k == b)
      let one := (firstFree z.free pref).map (fun k => { free := z.free.filter (· != k), done := z.done ++ [(x.2, k)] : Placing })
      match affinityOf l x.1 with
      | none => one
      | some (g, cnt) =>
        match pref.find? (fun b => decide (cnt ≤ (inB b).length)) with
        | none => one
        | some b =>
          let ks := (inB b).take cnt
          some { free := z.free.filter (fun k => !ks.contains k), done := z.done ++ ((groupSlots l g).map (physSlot bs)).zip ks }

/-- Cores that a load of a context may use: good, holding no station of another context and not HELD (R19, R24, R156). -/
def loadCores (s : State) (n : Nat) : List Nat :=
  (grantOf s n).flatMap (fun b => (coresOfBasin b).filter (fun k =>
    ((coreAt s k).st == .spare || (coreAt s k).st == .inUse) && !(coreAt s k).held && !(coreAt s k).reserved))

/-- The placement of every slot of an image: (physical slot, core) (R19, R187). -/
def placeAll (s : State) (n : Nat) (l : Layout) : Option (List (Nat × Nat)) :=
  let bs := grantOf s n
  (((slotsOf l).map (fun x => (x, physSlot bs x))).foldl (placeOne l bs)
    (some { free := loadCores s n, done := [] })).map (·.done)

/-! ### The load checks in order (R188) -/

/-- The load status of an image: 0 when it passes, else the number of the first check that fails (R188). -/
def loadCheck (s : State) (n : Nat) (m : List Byte) : Nat :=
  if formBad m then 1
  else if imgField m 6 2 ≠ s.sup.fwMajor then 2
  else
    let l := readLayout m
    if fieldsBad s n m l then 3
    else if l.basins ≠ (grantOf s n).length then 4
    else if wpkgBad s n l then 5
    else if (allSlots l).any (slotBad l) then 6
    else if goodOf s n < l.slots + 27 * (grantOf s n).length then 7
    else if l.stations.any pagesBad then 8
    else if l.stations.any (fun y => y.windows.any (fun w => decide (1152 < bits w 10 0 + bits w 22 12))) then 9
    else if l.stations.any (fun y => decide (4096 < y.code.length)) then 10
    else if l.stations.any (fun y => decide (1024 < sumOf (y.inEp.map (fun w => bits w 8 0)))) then 11
    else if l.stations.any (spillBad l) then 12
    else if channelsBad l then 13
    else if sectionsBad l then 14
    else if (placeAll s n l).isNone then 15
    else 0

end Sys2Proof.Machine
end

