-- ==== Sys2Proof/Machine/Layout.lean ====
section
/-! DEFINITION. Loading, restarting and unloading a layout (R85, R153, R177, R187, R189, R209, R213): translation,
setting up stations and channels, drains that end, and section swaps. -/

namespace Sys2Proof.Machine

/-! ### Translation (R187) -/

/-- The physical basin of an image basin number under a grant. -/
def physBasin (bs : List Nat) (i : Nat) : Nat := nth bs i 0

/-- An outbound endpoint entry translated: the slot of a UNICAST, the defining basin of a REDUCE. -/
def transOut (bs : List Nat) (w : Nat) : Nat :=
  match bits w 1 0 with
  | 1 => putBits w 2 14 (physSlot bs (bits w 15 2))
  | 3 => putBits w 8 4 (physBasin bs (bits w 11 8))
  | _ => w

/-- A RECONV record translated: its slots, those of a continuation in LONG_SLOTS only. -/
def transReconv (bs : List Nat) (w : Nat) : Nat :=
  (List.range 6).foldl (fun v i => putBits v (160 + 16 * i) 14 (physSlot bs (bits v (173 + 16 * i) (160 + 16 * i))))
    (if bits w 63 32 = 0 then w else putBits w 0 14 (physSlot bs (bits w 13 0)))

/-- A layout with the basin numbers of its grant (R187). -/
def translate (bs : List Nat) (l : Layout) : Layout :=
  { l with
    stations := l.stations.map (fun y => { y with slot := physSlot bs y.slot, outEp := y.outEp.map (transOut bs) }),
    mcast := l.mcast.map (fun p => p.map (fun t => (physSlot bs t.1, t.2))),
    redgroup := l.redgroup.map (fun w => putBits (putBits w 6 4 (physBasin bs (bits w 9 6))) 24 14 (physSlot bs (bits w 37 24))),
    syncobj := l.syncobj.map (fun w => putBits w 8 4 (physBasin bs (bits w 11 8))),
    reconv := l.reconv.map (transReconv bs),
    sections := l.sections.map (fun w => putBits w 0 4 (physBasin bs (bits w 3 0))), map := bs }

/-! ### What a station's core holds (R51, R85, R128, R136, R153, R194) -/

/-- The scale state of the bank that the current step does not read: the last step's while that step is open, then the next
step's (R86). -/
def otherScale (x : Ctx) : Tab Int :=
  if x.stepNum = 0 then x.scaleNext
  else
    match x.closed with
    | none => x.scaleOld
    | some c => if c + 1 < x.stepNum then x.scaleOld else x.scaleNext

/-- The two banks of a core's tensor scale table for a station: bank n mod 2 for the current step, the other for the last step
or the next (R85, R86, R94). -/
def scaleBanks (x : Ctx) (y : Station) : Tab Int :=
  (List.range 2).flatMap (fun b =>
    let st := if x.stepNum % 2 = b then x.scale else otherScale x
    (List.range 256).filterMap (fun e =>
      let w := nth y.scaleMap e 0
      let v := tabGet st (w % 4096) 0
      if e ≠ 0 ∧ bitAt w 15 ∧ v ≠ 0 then some (256 * b + e, v) else none))

/-- A page lies in a window of the station, or is a RESERVE page (R136, R153). -/
def pageUsed (y : Station) (p : Nat) : Bool :=
  bits (nth y.pages p 0) 2 1 == 3 ||
  y.windows.any (fun w => winSize w != 0 && decide (winBase w < (p + 1) * 65536) && decide (p * 65536 < winBase w + winSize w))

/-- Sub-banks powered for a station (R136). -/
def stationBanks (y : Station) : List Nat :=
  sortNat (y.windows.flatMap (fun w => banksOf (winBase w) (winSize w)) ++
    (reservePages y).flatMap (fun p => banksOf (p * 65536) 65536))

/-- The stack that a fill of a shard reads from: the basin's own copy, else another verified one (R194, R404, R405). -/
def fillFrom (s : State) (n b : Nat) (h : Shard) : Option Nat :=
  if goodCopy s n b h then some b else (List.range 16).find? (fun j => goodCopy s n j h)

/-- The package's entry for a shard. -/
def shardNo (s : State) (n id : Nat) : Option Shard :=
  match (ctxAt s n).wpkg with
  | none => none
  | some w => w.shards.find? (fun h => h.id == id)

/-- The bytes that a weight fill entry copies, none where no verified copy can be read (R194). -/
def fillBytes (s : State) (n b w : Nat) : Option (List Byte) :=
  match shardNo s n (bits w 15 0) with
  | none => none
  | some h =>
    match fillFrom s n b h with
    | none => none
    | some j => some (memRead (hbmAt s j).mem (h.hbmOff * 65536 + bits w 63 32 * 64) (bits w 111 88))

/-- Scratchpad with a station's weight fills done, in list order (R194). -/
def fillMem (s : State) (n b : Nat) (y : Station) (m : Mem) : Mem :=
  y.wfill.foldl (fun m w =>
    match fillBytes s n b w with
    | none => m
    | some l => memWrite m (bits w 86 64) l) m

/-- Pages whose fill waits for a copy on hold (R404). -/
def waitPages (s : State) (n b : Nat) (y : Station) : List Nat :=
  sortNat (y.wfill.flatMap (fun w =>
    if (shardNo s n (bits w 15 0)).isSome ∧ (fillBytes s n b w).isNone then
      (List.range (ceilDiv (bits w 86 64 % 65536 + bits w 111 88) 65536)).map (fun i => bits w 86 64 / 65536 + i)
    else []))

/-- Bytes of the records that a slot's RESERVE pages hold: every section station of the slot in ORDER, each from a
64-byte boundary (R128, R212, log 30). -/
def reserveBytes (s : State) (n : Nat) (l : Layout) (slot : Nat) : List Byte :=
  match (ctxAt s n).image with
  | none => []
  | some g =>
    let os := imgStations g.image
    (List.range 256).flatMap (fun ord =>
      (numbered l).flatMap (fun p =>
        if p.2.slot = slot ∧ (sectOf l p.1).map (fun w => bits w 15 8) = some ord then
          let o := nth os p.1 0
          let h := imgField g.image o 64
          fitBytes (reserveLen p.2) ((g.image.drop o).take 1296 ++
            (g.image.drop (o + bits h 319 288)).take (16 * bits h 271 256) ++
            (g.image.drop (o + bits h 351 320)).take (16 * bits h 63 48))
        else []))

/-- Scratchpad with the RESERVE pages of a sectioned layout written, in address order. -/
def reserveMem (s : State) (n : Nat) (l : Layout) (y : Station) (m : Mem) : Mem :=
  if l.format ≠ 0x0204 then m
  else
    let bs := reserveBytes s n l y.slot
    ((List.range (reservePages y).length).zip (reservePages y)).foldl (fun m p =>
      memWrite m (p.2 * 65536) ((bs.drop (65536 * p.1)).take 65536)) m

/-- W-class pages that a station uses (R128, R153). -/
def wPages (y : Station) : List Nat := (List.range 72).filter (fun p => bitAt (nth y.pages p 0) 0 && pageUsed y p)

/-- Fill digests of the W-class pages (R402). -/
def digestsOf (y : Station) (m : Mem) : Tab Nat := (wPages y).map (fun p => (p, sha256 (memRead m (p * 65536) 65536)))

/-- The microbatch of firing `f` (R197). -/
def firstMb (y : Station) (f : Nat) : Nat := f / y.firePerMb

/-- The W-class part of a scratchpad that a restart keeps (R422). -/
def keepW (c : Core) : Mem := c.mem.filter (fun e => isW c e.1)

/-- The owner named in a 4-bit entry of TILE_OWN or LUT_OWN (R192). -/
def ownEntry (w i : Nat) : Option Nat := if bitAt w (4 * i + 3) then some (bits w (4 * i + 2) (4 * i)) else none

/-- The inbound endpoints of a record with their feeders (R160, R162, R177). -/
def setupIn (l : Layout) (i : Nat) (y : Station) : Tab InEp :=
  (List.range 32).filterMap (fun e =>
    let w := nth y.inEp e 0
    if bits w 8 0 = 0 then none
    else
      let f := feedersOf l i y.slot e
      let named (x : Nat × Nat × Nat × Nat) : Nat := ((l.stations[x.1]?).map (·.slot)).getD 0
      let ch := f.find? (fun x => x.2.2.1 != 3)
      let red := (f.filter (fun x => x.2.2.1 == 3)).map (fun x => (named x, x.2.1))
      let base : InEp := { cfg := w, contribs := red }
      match ch with
      | none => some (e, base)
      | some x =>
        let fd := (named x, x.2.1, x.2.2.2)
        some (e, { base with feeder := fd }))

/-- The outbound endpoints of a record with their targets (R161, R168). -/
def setupOut (l : Layout) (y : Station) : Tab OutEp :=
  (List.range 32).filterMap (fun e =>
    let w := nth y.outEp e 0
    if bits w 1 0 = 0 then none else some (e, { cfg := w, targets := entryTargets l w }))

/-- A task slot of a station that begins at firing `f` (R197, R198). -/
def freshSlot (y : Station) (f i : Nat) : Slot :=
  if nth y.entry i 0xFFFF = 0xFFFF then {} else { st := .afterEnd, firing := f }

/-- A core set up for a station before its first firing `f`: pages initialised, entries written, tiles and lane state
cleared, code copied (R44, R103, R153, R160, R161, R194). -/
def stationCore (s : State) (n k i : Nat) (l : Layout) (y : Station) (f : Nat) (keep : Bool) (old : Core) : Core :=
  let c := clearedCore old
  let m := reserveMem s n l y (fillMem s n (basinOf k) y [])
  { c with
    st := .inUse, slot := some y.slot, station := some y,
    slots := (List.range 8).map (fun j => (j, freshSlot y f j)), firing := f, begun := f,
    tiles := (List.range 4).filterMap (fun j => (ownEntry y.tileOwn j).map (fun o => (j, { owner := some o }))),
    luts := (List.range 4).filterMap (fun j => (ownEntry y.lutOwn j).map (fun o => (j, { owner := some o }))),
    scaleTab := scaleBanks (ctxAt s n) y, mem := if keep then keepW old else m,
    poisonCw := if keep then old.poisonCw.filter (isW old) else [], pages := y.pages, bankOn := stationBanks y,
    fillDigest := if keep then old.fillDigest else digestsOf y m, scrubPos := if keep then old.scrubPos else 0,
    pageCleanMb := if keep then old.pageCleanMb else (wPages y).map (fun p => (p, firstMb y f)),
    wbq := [], inEp := setupIn l i y, outEp := setupOut l y, lastProgress := s.sup.ticks }

/-- A station set up on a core; fills that wait for a copy on hold are asked for (R153, R404). -/
def setStation (s : State) (n k i : Nat) (l : Layout) (y : Station) (f : Nat) (keep : Bool) : State :=
  let c := stationCore s n k i l y f keep (coreAt s k)
  let s1 := putCore s k { c with stopAt := sectStop s n c }
  let w := if keep then [] else waitPages s n (basinOf k) y
  let asked : List Refill := w.map (fun p => { core := k, page := p, reason := 0, cleanMb := firstMb y f })
  { s1 with heal := { s1.heal with refills := s1.heal.refills.filter (fun r => r.core != k) ++ asked } }

/-! ### The placement map (R17, R20) -/

/-- No slot of some home basins is placed any more. -/
def clearPlaces (s : State) (bs : List Nat) : State :=
  forEach (List.range 16) (fun s b =>
    putBasin s b { basinAt s b with place := (basinAt s b).place.filter (fun e => !bs.contains (e.1 % 16384 / 1024)) }) s

/-! ### Sync objects (R246, R250) -/

/-- A sync object as its layout defines it (R246). -/
def defObj (w : Nat) : SyncObj :=
  { isToken := bits w 13 12 == 1, replica := bitAt w 14, participants := if bits w 13 12 = 1 then 0 else bits w 31 16,
    phase := 0, count := if bits w 13 12 = 1 then bits w 31 16 else 0, cur := [], nxt := [], waiting := [], lastTick := 0 }

/-- The objects of a basin's engine at their definitions. -/
def defObjs (l : Layout) (b : Nat) : Tab SyncObj :=
  (l.syncobj.filter (fun w => bits w 11 8 == b)).foldl (fun t w => tabSet t (w % 256) (defObj w)) []

/-- The engines of some basins hold the objects that the context's layout defines (R250, R422). -/
def defineObjs (s : State) (n : Nat) (bs : List Nat) : State :=
  forEach bs (fun s b =>
    putBasin s b { basinAt s b with objs := match (ctxAt s n).layout with
                                            | none => []
                                            | some l => defObjs l b }) s

/-! ### Requests that a layout's end completes (R329, R331, R332) -/

/-- The completion record of a request (R331, R338). -/
def reqComp (mb : Nat) (r : Req) (status : Nat) : Comp :=
  comp r.tag r.ring status mb (r.pos % 65536 + r.tokens % 65536 * 65536 + min r.drops 65535 * 2 ^ 32) r.noIrq

/-- CLAIM_END of a session lowered by a request that completes with neither OK nor POISONED, if no later request of the
session has been taken (R369). -/
def lowerClaim (r : Req) (status : Nat) (l : List Sess) : List Sess :=
  if status = 0 ∨ status = 6 then l
  else l.map (fun t => if t.id = r.session ∧ t.claimEnd = r.sessPos + r.tokens then { t with claimEnd := r.sessPos } else t)

/-- Some requests complete with a status, CLAIM_END lowered from the last one back (R369). -/
def endReqs (x : Ctx) (l : List (Nat × Req)) (status : Nat) : Ctx :=
  let y := l.foldl (fun x p => postComp x (reqComp p.1 p.2 (p.2.aborted.getD status))) x
  { y with sessions := l.reverse.foldl (fun t p => lowerClaim p.2 (p.2.aborted.getD status) t) y.sessions }

/-- Every request that is still outstanding completes with a status, and a LOAD_LAYOUT that waits for its admission; the
microbatches in hand count as aborted (R332, R352). -/
def abortReqs (s : State) (n status : Nat) : State :=
  let x := ctxAt s n
  let live := x.mbs.filter (fun m => !m.complete)
  let y := endReqs x (live.flatMap (fun m => m.reqs.map (fun r => (m.num, r)))) status
  let s1 := putCtx s n { y with loadPending := none, mbs := (y.mbs.filter (fun m => m.admitted)).map (fun m =>
    if m.complete then m else { m with reqs := [], complete := true, aborted := true }) }
  match y.loadPending with
  | none => s1
  | some (t, r, q) => failWith s1 n t r status q

/-- Staged reloads end with the layout (R332); a boundary in progress is given up, and what it had not done waits for the
next (R433). -/
def abortReloads (s : State) (n : Nat) : State :=
  let x := ctxAt s n
  let keep : Staged → Bool
    | .reload _ _ _ => false
    | .openSess _ _ _ _ _ _ => true
    | .peer _ _ _ _ _ => true
    | .ports _ _ _ _ => true
    | .rebuilt _ _ _ _ => true
    | .closeSess _ => false
  let l := x.due ++ x.staged
  forEach l (fun s a =>
    match a with
    | .reload t r q => failWith s n t r 5 q
    | .openSess _ _ _ _ _ _ => s
    | .peer _ _ _ _ _ => s
    | .ports _ _ _ _ => s
    | .rebuilt _ _ _ _ => s
    | .closeSess _ => s) (putCtx s n { x with staged := l.filter keep, due := [], boundary := none })

/-! ### Loading and unloading (R189, R209) -/

/-- The scale state that a package gives a layout (R87, R507). A package staged later may give no entry for a tensor that the
layout lists: its exponent is then 0 (log 132). -/
def pkgState (x : Ctx) (l : Layout) : Tab Int :=
  match x.wpkg with
  | none => []
  | some w => l.scaleEnt.foldl (fun t e => tabSet t (e % 4096) ((pkgScale w (e % 4096)).getD 0)) []

/-- A context at the start of a layout: numbers, counters, scale state and records from zero (R92, R304, R313, R314). -/
def ctxForLayout (x : Ctx) (l : Layout) (tag ring : Nat) (noIrq : Bool) : Ctx :=
  { x with
    layout := some l, loadPending := some (tag, ring, noIrq), mbs := [], nextMb := 0, inStep := 0, stepNum := 0, mbNum := 0,
    advanced := 0, heldCnt := 0, ignored := 0, miss := 0, stepWait := 0, latch := false, forced := true, owed := true,
    scaleOld := pkgState x l, scale := pkgState x l, scaleNext := pkgState x l, closed := none, watch := [], satSticky := [], voids := [], amaxHist := [],
    satNext := 0, reloadAt := none, late := [], restarts := [], drops := [], stepCfg := x.stepCfgNew }

/-- The station records that are resident, with their cores by the placement map (R211). -/
def residentOn (s : State) (l : Layout) (place : List (Nat × Nat)) : List (Nat × Nat × Station) :=
  (numbered l).filterMap (fun p =>
    match place.find? (fun e => e.1 == p.2.slot) with
    | none => none
    | some e => if resident s l p.1 then some (e.2, p.1, p.2) else none)

/-- A core taken for a slot whose section does not run yet: it is IN_USE and holds the slot's RESERVE pages (R19, R24, R211,
R212). -/
def reserveCore (s : State) (n : Nat) (l : Layout) (slot : Nat) (old : Core) : Core :=
  let c := clearedCore old
  match l.stations.find? (fun y => y.slot == slot) with
  | none => { c with st := .inUse, slot := some slot }
  | some y =>
    let m := reserveMem s n l y []
    { c with
      st := .inUse, slot := some slot, mem := m, pages := (List.range 72).map (fun p =>
        if bits (nth y.pages p 0) 2 1 = 3 then nth y.pages p 0 else 0),
      bankOn := sortNat ((reservePages y).flatMap (fun p => banksOf (p * 65536) 65536)),
      fillDigest := (reservePages y).map (fun p => (p, sha256 (memRead m (p * 65536) 65536))),
      lastProgress := s.sup.ticks }

/-- The cores that a placement takes but on which no station is resident yet (R19, R211). -/
def reserveCores (s : State) (n : Nat) (l : Layout) (place : List (Nat × Nat)) : State :=
  forEach (place.filter (fun p => !(residentOn s l place).any (fun r => r.1 == p.2)))
    (fun s p => putCore s p.2 (reserveCore s n l p.1 (coreAt s p.2))) s

/-- A layout that passed its checks is loaded: stations placed, channels and sync objects set up, scale state written
(R85, R153, R168, R187, R189, R209). -/
def installLayout (s : State) (n : Nat) (m : List Byte) (place : List (Nat × Nat)) (tag ring : Nat) (noIrq : Bool) : State :=
  let bs := grantOf s n
  let l := translate bs (readLayout m)
  let s1 := clearPlaces (vacateCtx (abortReloads (abortReqs s n 5) n) n) bs
  let s2 := advanceGens (forEach bs (fun s b => putBasin s b { basinAt s b with sectIdx := 0, sectFrom := 0 }) s1) n bs
  let s3 := putCtx s2 n (ctxForLayout (ctxAt s2 n) l tag ring noIrq)
  let s4 := forEach place (fun s p => writePlaces s p.1 (some p.2)) s3
  let s5 := forEach (residentOn s4 l place) (fun s r => setStation s n r.1 r.2.1 l r.2.2 0 false) (reserveCores s4 n l place)
  tellParts (evalReplaceAll (defineObjs (resetChannels s5 n bs) n bs)) n

/-- A layout is unloaded after its drain (R33, R209, R331). -/
def finishUnload (s : State) (n tag ring : Nat) (noIrq : Bool) : State :=
  let bs := grantOf s n
  let s1 := clearPlaces (vacateCtx (abortReloads (abortReqs s n 5) n) n) bs
  let s2 := defineObjs (putCtx s1 n { ctxAt s1 n with layout := none, loadPending := none, mbs := [] }) n bs
  tellParts (complete (advanceGens s2 n bs) n (comp tag ring 0 0 0 noIrq)) n

/-- A load whose drain, if any, is done: the placement is judged on the cores as they now are (R188, R189, R216). -/
def finishLoad (s : State) (n tag ring : Nat) (noIrq : Bool) : State :=
  match (ctxAt s n).image with
  | none => failWith s n tag ring 0x0101 noIrq
  | some g =>
    match loadCheck s n g.image with
    | 0 =>
      (match placeAll s n (readLayout g.image) with
       | none => failWith s n tag ring 0x010F noIrq
       | some place => installLayout s n g.image place tag ring noIrq)
    | c + 1 =>
      let s1 := failWith s n tag ring (0x0100 + c + 1) noIrq
      if (ctxAt s1 n).layout.isSome then restartDrained s1 n else s1

/-! ### Section swaps (R211, R213, R216) -/

/-- The number of sections in a basin's schedule. -/
def sectCount (l : Layout) (b : Nat) : Nat := (l.sections.filter (fun w => bits w 3 0 == b)).length

/-- Every station of the section in hand has run its SECT_MB microbatches (R213). -/
def swapDue (s : State) (n b : Nat) (l : Layout) : Bool :=
  decide (1 < sectCount l b) &&
  (match l.sections.find? (fun w => bits w 3 0 == b && bits w 15 8 == (basinAt s b).sectIdx) with
   | none => false
   | some w =>
     let cut := (basinAt s b).sectFrom + bits w 31 16
     decide (cut ≤ (ctxAt s n).nextMb) &&
     (numbered l).all (fun p => !(decide (bits w 47 32 ≤ p.1) && decide (p.1 < bits w 47 32 + bits w 63 48)) ||
       (match coreOfSlot s p.2.slot with
        | none => false
        | some k => ranTo (coreAt s k) cut)))

/-- SECTION_SWAP: after SECT_MB microbatches the basin's drain begins; a step boundary in progress and a re-placement that is
pending go first (R213, R216). The drain carries whether the reserve was lost. -/
def execSectionSwap (basin : Nat) (reserveLost : Bool) (s : State) : Host.Outcome State Fault Refusal :=
  runUnit basin 16 (fun s =>
    match (basinAt s basin).ctx with
    | none => s
    | some n =>
      match (ctxAt s n).layout with
      | none => s
      | some l =>
        if swapDue s n basin l && (ctxAt s n).boundary.isNone && !s.mesh.drains.any (fun d => d.basins.contains basin) && s.mesh.staged.isEmpty &&
           s.mesh.moves.isEmpty
        then startDrain s n [basin] .swap (b2n reserveLost) 0 true else s) s

/-- What is kept of a basin's section stations while they are swapped out: their firing numbers and index registers (R197, R198,
R211). -/
def saveSection (s : State) (l : Layout) (b : Nat) : Layout :=
  (numbered l).foldl (fun l p =>
    match sectOf l p.1, coreOfSlot s p.2.slot with
    | some w, some k =>
      if bits w 3 0 = b ∧ resident s l p.1 then
        { l with fired := tabSet l.fired p.1 (coreAt s k).firing,
                 idxRegs := tabSet l.idxRegs p.1 ((coreAt s k).slots.map (fun t => (t.1, t.2.idx))) }
      else l
    | _, _ => l) l

/-- An address of a page that a station clears: INIT ZERO (R128, R213). -/
def isZeroPage (y : Station) (a : Nat) : Bool := bits (nth y.pages (a / 65536) 0) 2 1 == 0

/-- A station of the next section takes its core: its ZERO pages are cleared and every other page stays, and its index registers
are those it was swapped out with (R198, R213). -/
def swapIn (s : State) (n k i : Nat) (l : Layout) (y : Station) : State :=
  let old := coreAt s k
  let s1 := setStation s n k i l y (tabGet l.fired i 0) false
  let c := coreAt s1 k
  putCore s1 k { c with
    mem := old.mem.filter (fun e => !isZeroPage y e.1), poisonCw := old.poisonCw.filter (fun a => !isZeroPage y a),
    fillDigest := old.fillDigest,
    slots := c.slots.map (fun t => (t.1, { t.2 with idx := tabGet (tabGet l.idxRegs i []) t.1 [] })) }

/-- The first microbatch of a section's next run: the one its firing stations have come to. -/
def sectStart (l : Layout) (w : Nat) : Nat :=
  ((numbered l).filterMap (fun p =>
    if bits w 47 32 ≤ p.1 ∧ p.1 < bits w 47 32 + bits w 63 48 ∧ p.2.firePerMb ≠ 0 then
      some (tabGet l.fired p.1 0 / p.2.firePerMb) else none)).headD 0

/-- A swap whose drain is done: the generation advances and the next section's stations take the basin's slots (R209,
R213). -/
def finishSwap (s : State) (n b : Nat) (lost : Bool) : State :=
  match (ctxAt s n).layout with
  | none => s
  | some l0 =>
    let l := saveSection s l0 b
    let next := ((basinAt s b).sectIdx + 1) % max 1 (sectCount l b)
    let w := (l.sections.find? (fun w => bits w 3 0 == b && bits w 15 8 == next)).getD 0
    let s1 := advanceGens (putCtx s n { ctxAt s n with layout := some l }) n [b]
    let s2 := putBasin s1 b { basinAt s1 b with sectIdx := next, sectFrom := sectStart l w }
    let s3 := forEach (numbered l) (fun s p =>
      if bits w 47 32 ≤ p.1 ∧ p.1 < bits w 47 32 + bits w 63 48 then
        match coreOfSlot s p.2.slot with
        | none => s
        | some k => swapIn s n k p.1 l p.2
      else s) s2
    let ks := (s3.cores.filter (fun e => e.2.station.isSome && (basinAt s3 (basinOf e.1)).ctx == some n)).map (·.1)
    let s4 := forEach ks (fun s k => putCore s k { coreAt s k with stopAt := sectStop s n (coreAt s k) }) (resetChannels s3 n [b])
    wakeCtx (if lost then basinEvent s4 b evSectionReserveMiss 0 0 0 else s4) n

/-! ### Drains that end (R207 to R209, R216, R296) -/

/-- What follows a complete drain (R209, R216, R296). -/
def afterDrain (s : State) (d : DrainJob) : State :=
  match d.why with
  | .load => finishLoad s d.ctx d.tag d.ring d.noIrq
  | .unload => finishUnload s d.ctx d.tag d.ring d.noIrq
  | .swap => finishSwap s d.ctx (d.basins.headD 0) (d.tag == 1)
  | .layoutFault => s
  | .fence => if (ctxAt s d.ctx).fenced then s else restartDrained s d.ctx

/-- DRAIN_COMPLETE: the first drain that is complete ends, and what waits for it proceeds (R207, R209). -/
def execDrainComplete (s : State) : Host.Outcome State Fault Refusal :=
  .next (match s.mesh.drains.find? (drained s) with
    | none => s
    | some d => afterDrain (dropDrain s d) d)

/-- The command that waits for a drain ends with ABORTED (R332). -/
def abortDrain (s : State) (d : DrainJob) : State :=
  match d.why with
  | .load => failWith s d.ctx d.tag d.ring 5 d.noIrq
  | .unload => failWith s d.ctx d.tag d.ring 5 d.noIrq
  | .swap => s
  | .layoutFault => s
  | .fence => s

/-- DRAIN_TIMEOUT: a drain past its limit raises DRAIN_TIMEOUT and its basins are dumped and reset (R208, R419). -/
def execDrainTimeout (s : State) : Host.Outcome State Fault Refusal :=
  .next (match s.mesh.drains.find? (fun d => decide (d.limit ≤ s.sup.ticks - d.start) && !drained s d) with
    | none => s
    | some d =>
      triggerReset (ctxEvent (abortDrain (dropDrain s d) d) d.ctx evDrainTimeout (maskOf d.basins) 0 0 0)
        d.ctx d.basins evDrainTimeout 0xFFFF false)

end Sys2Proof.Machine
end

