-- ==== Sys2Proof/Machine/Ctxs.lean ====
section
/-! DEFINITION. Contexts (R321 to R325, R349, R350, R450): ENABLE, APPLY, teardown, quarantine and clearing; the life-cycle
transitions that wait for them (R355, R356). -/

namespace Sys2Proof.Machine

/-! ### Rings in force (R324) -/

/-- Entries or units of a ring by its CFG; 0 for a disabled one (R324). -/
def ringSize (cfg : Nat) : Nat := if bits cfg 4 0 = 0 then 0 else 2 ^ bits cfg 4 0

/-- CFG of submission ring `i` in force. -/
def sqCfgOf (x : Ctx) (i : Nat) : Nat := tabGet x.act.sqCfg i 0

/-- Submission ring `i`. -/
def sqAt (x : Ctx) (i : Nat) : Ring := tabGet x.sq i {}

/-- Submission ring `i` replaced. -/
def putSq (x : Ctx) (i : Nat) (r : Ring) : Ctx := { x with sq := tabSet x.sq i r }

/-- The host link serves rings: up, at 32 GT/s or above, in Flit mode, with the module READY (R317). -/
def ringsUp (s : State) : Bool := s.glb.ready && s.hostp.up && s.hostp.flit && decide (32 ≤ s.hostp.rate)

/-! ### Clearing a basin (R156, R350, R465) -/

/-- A core cleared and without a station, SPARE if it is good; what it ran for its context no longer counts (R24,
R156). -/
def freedCore (c : Core) : Core :=
  let d := { clearedCore c with window := [], ran := [] }
  match c.st with
  | .inUse => { d with st := .spare }
  | .underTest => { d with st := .spare }
  | .spare => d
  | .fenced => d
  | .retired => d
  | .shipDefect => d

/-- The listed cores of a basin. -/
def listedIn (s : State) (b : Nat) : List Nat := (s.cores.filter (fun e => basinOf e.1 == b)).map (·.1)

/-- Every core of a basin HELD (R156). -/
def holdBasin (s : State) (b : Nat) : State :=
  forEach (coresOfBasin b) (fun s k => putCore s k { coreAt s k with held := true }) s

/-- The scratchpads and the whole HBM space of a basin cleared, and what its context kept in them (R156, R350, R465). -/
def clearBasin (s : State) (b : Nat) : State :=
  let s1 := forEach (listedIn s b) (fun s k => putCore s k (freedCore (coreAt s k))) s
  let h := hbmAt s1 b
  let s2 := putHbm s1 b { h with mem := [], poisonCw := [], holds := [], restores := [], sweeps := [] }
  let x := basinAt s2 b
  putBasin s2 b { x with ctx := none, clearing := false, resetting := false, armed := none, objs := [], wedge := false,
                         sectIdx := 0, sectFrom := 0, testOrder := x.testOrder, underTest := none }

/-- BASIN_CLEAR_COMPLETE: the clear of a basin that an APPLY removed completes, and it may be granted again (R322). -/
def execBasinClearComplete (basin : Nat) (s : State) : Host.Outcome State Fault Refusal :=
  runUnit basin 16 (fun s => if (basinAt s basin).clearing then clearBasin s basin else s) s

/-! ### ENABLE and APPLY (R322, R323, R325, R450) -/

/-- ENABLE: bit 0 of HST_CTX_CTRL takes a value (R322, R324). -/
def execEnable (ctx : Nat) (value : Bool) (s : State) : Host.Outcome State Fault Refusal :=
  runUnit ctx 16 (fun s => putCtx s ctx { ctxAt s ctx with enable := value }) s

/-- A staged ring CFG is refused: a reserved SIZE_LOG2 (R324). -/
def sizeBad (cfg : Nat) : Bool := bits cfg 4 0 != 0 && (decide (bits cfg 4 0 < 6) || decide (16 < bits cfg 4 0))

/-- The staged endpoint ID and domain satisfy R450. -/
def fabIdOk (s : State) (n : Nat) : Bool :=
  let x := ctxAt s n
  let ep := bits x.stg.fabId 19 0
  !(decide (0xFFF00 ≤ ep) && decide (ep ≤ 0xFFFFF)) &&
  (List.range 16).all (fun m => m == n || ep == 0 || epOf (ctxAt s m) != ep) && !(x.quarantined && ep == epOf x && ep != 0) &&
  (x.layout.isNone || bits x.stg.fabId 35 0 == bits x.act.fabId 35 0)

/-- The staged grant satisfies R322. -/
def grantOk (s : State) (n : Nat) : Bool :=
  let x := ctxAt s n
  let new := bitList 16 x.stg.grant
  new.all (fun b => (basinAt s b).ctx == some n || ((basinAt s b).ctx == none && !(basinAt s b).clearing)) &&
  (match x.layout with
   | none => true
   | some l => l.map.all (fun b => new.contains b))

/-- Every check of an APPLY (R322, R324, R325, R450). -/
def applyOk (s : State) (n : Nat) : Bool :=
  let x := ctxAt s n
  (x.st == .free || x.st == .active) && s.glb.ready && grantOk s n && fabIdOk s n &&
  areasOk x.stg (bitList 16 x.stg.grant) (match x.layout with
                                         | none => 0
                                         | some l => l.mbTokens) &&
  (x.layout.isNone || (x.stg.ioCfg == x.act.ioCfg && x.stg.sessPool == x.act.sessPool)) &&
  decide (bits x.stg.ioCfg 7 4 ≤ 6) &&
  !(List.range 8).any (fun i => sizeBad (tabGet x.stg.sqCfg i 0)) && !sizeBad x.stg.cqCfg && !sizeBad x.stg.msgCfg

/-- A submission ring after an APPLY: reset where its BASE or CFG has changed (R323). -/
def applySq (x : Ctx) (i : Nat) : Ctx :=
  if tabGet x.stg.sqBase i 0 ≠ tabGet x.act.sqBase i 0 ∨ tabGet x.stg.sqCfg i 0 ≠ tabGet x.act.sqCfg i 0 then
    { putSq x i {} with ringStop := if bitAt x.ringStop i then x.ringStop - 2 ^ i else x.ringStop }
  else x

/-- A context with every staged field in force (R323, R437). -/
def applyFields (x : Ctx) : Ctx :=
  let x1 := (List.range 8).foldl applySq x
  let cq := x.stg.cqBase ≠ x.act.cqBase ∨ x.stg.cqCfg ≠ x.act.cqCfg
  let mg := x.stg.msgBase ≠ x.act.msgBase ∨ x.stg.msgCfg ≠ x.act.msgCfg
  { x1 with act := x.stg, cq := if cq then {} else x.cq, msg := if mg then {} else x.msg }

/-- The fabric entries of a context taken out, with the streams and keys that used them (R282, R350, R450). -/
def dropEntries (s : State) (n : Nat) : State :=
  let es := entsOf s n
  let ep := epOf (ctxAt s n)
  let s1 := { s with fab := { s.fab with table := s.fab.table.filter (fun e => !es.contains e.1),
                                         partInfo := s.fab.partInfo.filter (fun e => !es.contains e.1),
                                         keys := s.fab.keys.filter (fun k => !es.contains k.entry),
                                         xchg := s.fab.xchg.filter (fun e => e.1 != n) } }
  forEach (List.range 24) (fun s p =>
    let x := portAt s p
    putPort s p { x with tx := x.tx.filter (fun t => t.ctx != n), rx := x.rx.filter (fun r => r.dst != ep),
                         keys := x.keys.filter (fun k => !es.contains k.entry),
                         ctlQ := x.ctlQ.filter (fun e => e.1 != n), planeClr := x.planeClr.filter (fun i => !es.contains i) }) s1

/-- Basins that an APPLY takes from a context are HELD and being cleared (R322). -/
def releaseBasins (s : State) (bs : List Nat) : State :=
  forEach bs (fun s b => let s1 := holdBasin s b
                         putBasin s1 b { basinAt s1 b with ctx := none, clearing := true, armed := none }) s

/-- A successful APPLY (R187, R322, R323, R325, R450). -/
def applyNow (s : State) (n : Nat) : State :=
  let x := ctxAt s n
  let old := grantOf s n
  let new := bitList 16 x.stg.grant
  let s0 := if bits x.stg.fabId 35 0 = bits x.act.fabId 35 0 then s
            else let s1 := dropEntries s n
                 putCtx s1 n { ctxAt s1 n with fabEpoch := 0, record := none }
  let y := applyFields (ctxAt s0 n)
  let y1 := if x.st = .free ∧ new ≠ [] then { y with st := .active, msgSeq := 0 } else y
  let y2 := if old ≠ new ∧ x.layout.isNone then { y1 with image := none, wpkg := none } else y1
  let s1 := releaseBasins (putCtx s0 n y2) (old.filter (fun b => !new.contains b))
  evalReplaceAll (forEach (new.filter (fun b => !old.contains b)) (fun s b =>
    putBasin s b { basinAt s b with ctx := some n }) s1)

/-- APPLY: the staged fields of a context page are checked and take effect together, or APPLY_ERR is set (R322, R437,
R450). -/
def execApply (ctx : Nat) (s : State) : Host.Outcome State Fault Refusal :=
  runUnit ctx 16 (fun s =>
    if applyOk s ctx then applyNow s ctx else putCtx s ctx { ctxAt s ctx with applyErr := true }) s

/-! ### Teardown (R298, R349, R350) -/

/-- The next basin reset that waits begins (R433). -/
def nextReset (s : State) : State :=
  match s.rst.next with
  | [] => { s with rst := { s.rst with cur := none } }
  | r :: t => { s with rst := { s.rst with cur := some r, next := t } }

/-- A context's resets and dumps given up. -/
def dropResets (s : State) (n : Nat) : State :=
  let s1 := { s with rst := { s.rst with next := s.rst.next.filter (fun r => r.ctx != n),
                                         dumps := s.rst.dumps.filter (fun d => d.ctx != n) } }
  match s1.rst.cur with
  | none => s1
  | some r => if r.ctx = n then nextReset s1 else s1

/-- A slot's home basin is granted to a context. -/
def slotOfCtx (s : State) (n slot : Nat) : Bool := (basinAt s (slot / 1024)).ctx == some n

/-- What the module had in hand for a context is dropped: drains, staged moves, checks, refills, reloads. -/
def dropWork (s : State) (n : Nat) : State :=
  let inCtx (k : Nat) : Bool := (basinAt s (basinOf k)).ctx == some n
  let s1 := { s with
    mesh := { s.mesh with drains := s.mesh.drains.filter (fun d => d.ctx != n),
                          staged := s.mesh.staged.filter (fun c => c.ctx != n),
                          moves := s.mesh.moves.filter (fun m => !slotOfCtx s n m.slot) },
    heal := { s.heal with checks := s.heal.checks.filter (fun c => !inCtx c.core),
                          refills := s.heal.refills.filter (fun r => !inCtx r.core),
                          reloads := s.heal.reloads.filter (fun r => r.1 != n) } }
  dropResets s1 n

/-- Step 1 and 2 of teardown: issue stops, the generation advances, the cores are HELD, commands and records are dropped,
CTX_CLOSE goes to every keyed peer, and behind it PART_INFO with the new generation (R291, R298, R350). -/
def teardownCtx (s : State) (n : Nat) : State :=
  let x := ctxAt s n
  match x.st with
  | .active =>
    let peers := (entsOf s n).filter (fun i => (entAt s i).keyed)
    let y := { x with
      st := .stopping, gen := (x.gen + 1) % 256, cmds := [], comps := [], store := [], lostRun := 0, staged := [], due := [],
      boundary := none, mbs := [], lateComps := [], loadPending := none,
      sessions := x.sessions.map (fun t => { t with closing := none }),
      closesOwed := peers }
    let s1 := forEach (grantOf s n) holdBasin (dropWork (putCtx s n y) n)
    tellParts (forEach peers (fun s i => tellPeer s n i 3 (closeBytes (epOf x) x.gen)) s1) n
  | .free => s
  | .stopping => s
  | .quarantine => s
  | .clearing => s

/-- TEARDOWN: a write of 1 to TEARDOWN; ignored unless the context is ACTIVE (R324, R350). -/
def execTeardown (ctx : Nat) (s : State) : Host.Outcome State Fault Refusal :=
  runUnit ctx 16 (fun s => teardownCtx s ctx) s

/-- FUNCTION_LEVEL_RESET: teardown of the function's context; one of the PF tears down all 16 (R349). -/
def execFunctionLevelReset (fn : Nat) (s : State) : Host.Outcome State Fault Refusal :=
  runUnit fn 16 (fun s => if fn = 0 then forEach (List.range 16) teardownCtx s else teardownCtx s fn) s

/-- Nothing of a context is outstanding, every packet of its streams has been acknowledged or has failed, and every peer has
acknowledged CTX_CLOSE (R298, R350). -/
def allAnswered (s : State) (n : Nat) : Bool :=
  (ctxAt s n).fabOut == 0 && (ctxAt s n).closesOwed.isEmpty &&
  (List.range 24).all (fun p => (portAt s p).tx.all (fun t => t.ctx != n || t.unacked.isEmpty))

/-- The life-cycle count that the transport pair serves (R357). -/
def transportK (f : Fuse) : Option Nat :=
  match lcState f with
  | 1 => some (f.lcCount + 1)
  | 2 => some f.lcCount
  | _ => none

/-- The key engine regenerates the transport pair for the state reached, or erases it (R357). -/
def rekey (s : State) : State := { s with trust := { s.trust with kT := transportK s.fuse } }

/-- The erasures of RETURN and RETIRE: private areas, fabric keys, owner tokens (R356). -/
def eraseOwner (s : State) : State :=
  let s1 := { s with
    flash := { s.flash with ownerToken := none, fmToken := none },
    trust := { s.trust with fmKey := none, fmSerial := 0 }, rst := { s.rst with dumps := [] } }
  forEach (List.range 24) (fun s p => putPort s p { portAt s p with keys := [] }) { s1 with fab := { s1.fab with keys := [] } }

/-- A life-cycle transition that waited for every context to be FREE is carried out and answered (R356, R377). -/
def finishLc (s : State) : State :=
  match s.trust.transition with
  | none => s
  | some (w, tr) =>
    if !(List.range 16).all (fun n => (ctxAt s n).st == .free) then s
    else
      let s1 := eraseOwner s
      let s2 := { s1 with
        trust := { s1.trust with transition := none },
        fuse := match w with
                | .ret => { s1.fuse with lcCount := s1.fuse.lcCount + 1 }
                | .retire => { s1.fuse with lcRetired := true } }
      emit (rekey s2) (.vendor tr (match w with
                                   | .ret => 5
                                   | .retire => 9) 0 [])

/-- The context becomes FREE, its page at reset values but for the generation, its basins ungranted (R350, R440). -/
def freeCtx (s : State) (n : Nat) : State :=
  let x := ctxAt s n
  finishLc (putCtx (dropEntries s n) n { gen := x.gen })

/-- CONTEXT_OUTSTANDING_ZERO: the count has reached zero and every CTX_CLOSE is acknowledged: clearing begins, or a
quarantine lifts (R350). -/
def execContextOutstandingZero (ctx : Nat) (s : State) : Host.Outcome State Fault Refusal :=
  runUnit ctx 16 (fun s =>
    let x := ctxAt s ctx
    if !allAnswered s ctx then s
    else
      match x.st with
      | .stopping => putCtx s ctx { x with st := .clearing }
      | .clearing => putCtx s ctx { x with quarantined := false }
      | .quarantine => freeCtx s ctx
      | .free => s
      | .active => s) s

/-- CTX_QUARANTINE: step 2 is not done within 10 ms: the endpoint ID is quarantined and clearing begins (R298, R350). -/
def execCtxQuarantine (ctx : Nat) (s : State) : Host.Outcome State Fault Refusal :=
  runUnit ctx 16 (fun s =>
    let x := ctxAt s ctx
    if x.st = .stopping ∧ allAnswered s ctx = false then putCtx s ctx { x with st := .clearing, quarantined := true } else s) s

/-- What a context kept is cleared: its basins, its staging, its session keys (R350 step 5). -/
def clearCtx (s : State) (n : Nat) : State :=
  let bs := grantOf s n
  let s1 := forEach bs clearBasin (clearPlaces s bs)
  evalReplaceAll (putCtx s1 n { ctxAt s1 n with layout := none, image := none, wpkg := none, sessions := [], pages := [],
                                                scale := [], scaleNext := [] })

/-- CONTEXT_CLEAR_COMPLETE: the clear is complete; the context becomes FREE, or waits for its quarantine to lift (R350). -/
def execContextClearComplete (ctx : Nat) (s : State) : Host.Outcome State Fault Refusal :=
  runUnit ctx 16 (fun s =>
    match (ctxAt s ctx).st with
    | .clearing =>
      let s1 := clearCtx s ctx
      if (ctxAt s1 ctx).quarantined then putCtx s1 ctx { ctxAt s1 ctx with st := .quarantine } else freeCtx s1 ctx
    | .free => s
    | .active => s
    | .stopping => s
    | .quarantine => s) s

end Sys2Proof.Machine
end

