-- ==== Sys2Proof/Machine/Trust.lean ====
section
/-! DEFINITION. The SPDM responder (R359, R360), life-cycle tokens and transitions (R355, R356, R361, R362), and the start
of a pushed image (R375, R376). Signatures, certificates and the wire form of SPDM bodies are operands or `Config`
constants. -/

namespace Sys2Proof.Machine

/-! ### SPDM (R359, R360) -/

/-- The responder answers: the module runs its firmware and has an identity (R354, R375). -/
def spdmUp (s : State) : Bool := s.sup.phase == .ready && lcState s.fuse != 0

/-- An SPDM response, where the responder answers. -/
def answer (s : State) (tr : Transport) (code : Nat) (words : List Nat) : State :=
  if spdmUp s then emit s (.spdm tr code words) else s

/-- An SPDM ERROR response with its error code. -/
def answerError (s : State) (tr : Transport) (code : Nat) : State := answer s tr 0x7F [code]

/-- GET_VERSION: only version 1.3 is offered (R359). -/
def execGetVersion (tr : Transport) (s : State) : Host.Outcome State Fault Refusal := .next (answer s tr 0x04 [0x13])

/-- GET_CAPABILITIES: CTExponent 14 and the capabilities of R359. -/
def execGetCapabilities (tr : Transport) (s : State) : Host.Outcome State Fault Refusal :=
  .next (answer s tr 0x61 (14 :: Config.answerWords 0x61 0))

/-- NEGOTIATE_ALGORITHMS: the one set of algorithms of R359 is chosen where the request offers it. -/
def execNegotiateAlgorithms (tr : Transport) (offered : Bool) (s : State) : Host.Outcome State Fault Refusal :=
  .next (if offered then answer s tr 0x63 (Config.answerWords 0x63 0) else answerError s tr 1)

/-- GET_DIGESTS: the digest of certificate slot 0, which is the only one populated (R358). -/
def execGetDigests (tr : Transport) (s : State) : Host.Outcome State Fault Refusal :=
  .next (answer s tr 0x01 (1 :: Config.answerWords 0x01 s.trust.measD))

/-- The characters of a text. -/
def textOf (t : String) : List Nat := t.toList.map Char.toNat

/-- The subject's OU of the DeviceID certificate: the ordering code and the revision, as in "N6416-B rev A1" (R2, R358). -/
def devidOu (f : Fuse) : List Nat := textOf "N6416-" ++ [0x41 + f.orderCode % 4] ++ textOf " rev A1"

/-- The subject's serialNumber of the DeviceID certificate: the module serial in 16 upper-case hexadecimal digits (R358). -/
def devidSerial (f : Fuse) : List Nat :=
  (List.range 16).map (fun i => let d := f.serial / 16 ^ (15 - i) % 16
                                if d < 10 then 0x30 + d else 0x37 + d)

/-- What the spec states of the chain of slot 0, before the DER of its certificates: the DeviceID's CN, serialNumber and OU, and
the alias's firmware version, SVN and D (R2, R358). -/
def chainWords (s : State) : List Nat :=
  textOf "Narioly N6416 DeviceID" ++ devidSerial s.fuse ++ devidOu s.fuse ++
    [s.sup.fwMajor, s.sup.fwMinor, s.sup.fwPatch, s.sup.fwSvn, s.trust.measD]

/-- GET_CERTIFICATE: the chain root, DeviceID, alias of slot 0; no other slot is populated (R358). -/
def execGetCertificate (tr : Transport) (certSlot : Nat) (s : State) : Host.Outcome State Fault Refusal :=
  .next (if certSlot = 0 then answer s tr 0x02 (chainWords s ++ Config.answerWords 0x02 s.trust.measD) else answerError s tr 1)

/-- CHALLENGE: a response signed by the alias key, over the requester's nonce and a fresh one of the module (R359). -/
def execChallenge (tr : Transport) (certSlot : Nat) (nonce : Nat) (s : State) : Host.Outcome State Fault Refusal :=
  .next (if !spdmUp s then s
    else if certSlot = 0 then
      let r := takeFree s
      answer r.2 tr 0x03 (nonce :: r.1.toNat :: Config.answerWords 0x03 s.trust.measD)
    else answerError s tr 1)

/-- A measurement block (R360); zero where its content does not exist. -/
def measBlock (s : State) (i : Nat) : List Nat :=
  let f := s.fuse
  if i = 1 then Config.answerWords 0x60 1
  else if i = 2 then [s.trust.measD]
  else if i = 3 then [s.sup.fwMajor, s.sup.fwMinor, s.sup.fwPatch, s.sup.fwSvn, f.svn]
  else if i = 4 then [lcState f, f.lcCount, b2n s.trust.debugOpen, f.orderCode, 0xA1]
  else if i = 5 then [(ownerDigestOf f).getD 0]
  else if i = 6 then [s.trust.fmKey.getD 0]
  else if 0x10 ≤ i ∧ i < 0x20 then
    (match (ctxAt s (i - 0x10)).layout with
     | none => [0]
     | some l => [if l.running then l.imageDigest else 0])
  else if 0x20 ≤ i ∧ i < 0x30 then
    (match (ctxAt s (i - 0x20)).wpkg with
     | none => [0]
     | some w => [w.digest])
  else [0]

/-- GET_MEASUREMENTS: one block, or with index 0xFF every block; index 0 gives their number (R360). -/
def execGetMeasurements (tr : Transport) (index : Nat) (s : State) : Host.Outcome State Fault Refusal :=
  .next (if !spdmUp s then s
    else
      let r := takeFree s
      let all := (List.range 6).map (· + 1) ++ (List.range 32).map (· + 0x10)
      let ws := if index = 0 then [all.length] else if index = 0xFF then all.flatMap (measBlock s) else measBlock s index
      answer r.2 tr 0x60 (r.1.toNat :: ws))

/-- Sessions of a transport. -/
def sessionsOn (s : State) (tr : Transport) : List Session := s.trust.sessions.filter (fun x => x.tr == tr)

/-- A secured session of a transport that is established. -/
def inSession (s : State) (tr : Transport) (id : Nat) : Bool :=
  s.trust.sessions.any (fun x => x.tr == tr && x.id == id && x.established)

/-- KEY_EXCHANGE: a session begins, at most four on a transport (R359). -/
def execKeyExchange (tr : Transport) (s : State) : Host.Outcome State Fault Refusal :=
  .next (if !spdmUp s then s
    else if 4 ≤ (sessionsOn s tr).length then answerError s tr 0x0A
    else
      let r := takeFree s
      let id := s.trust.nextSession
      let x : Session := { tr := tr, id := id, established := false, phase := 0 }
      answer { r.2 with trust := { r.2.trust with sessions := r.2.trust.sessions ++ [x], nextSession := (id + 1) % 65536 } }
        tr 0x64 [id, r.1.toNat])

/-- FINISH: the session is established, or ended when the requester's MAC fails (R359). -/
def execFinish (tr : Transport) (session : Nat) (macOk : Bool) (s : State) : Host.Outcome State Fault Refusal :=
  .next (if !spdmUp s then s
    else if !(sessionsOn s tr).any (fun x => x.id == session && !x.established) then answerError s tr 1
    else if macOk then
      answer { s with trust := { s.trust with sessions := s.trust.sessions.map (fun x =>
        if x.tr = tr ∧ x.id = session then { x with established := true } else x) } } tr 0x65 []
    else
      answerError { s with trust := { s.trust with sessions := s.trust.sessions.filter (fun x =>
        !(x.tr == tr && x.id == session)) } } tr 6)

/-- KEY_UPDATE: the session's keys take their next phase (R359). -/
def execKeyUpdate (tr : Transport) (session : Nat) (s : State) : Host.Outcome State Fault Refusal :=
  .next (if !inSession s tr session then answerError s tr 1
    else
      answer { s with trust := { s.trust with sessions := s.trust.sessions.map (fun x =>
        if x.tr = tr ∧ x.id = session then { x with phase := x.phase + 1 } else x) } } tr 0x69 [])

/-- HEARTBEAT: acknowledged in an established session (R359). -/
def execHeartbeat (tr : Transport) (session : Nat) (s : State) : Host.Outcome State Fault Refusal :=
  .next (if inSession s tr session then answer s tr 0x68 [] else answerError s tr 1)

/-- END_SESSION: the session is closed (R359). -/
def execEndSession (tr : Transport) (session : Nat) (s : State) : Host.Outcome State Fault Refusal :=
  .next (if !inSession s tr session then answerError s tr 1
    else
      answer { s with trust := { s.trust with sessions := s.trust.sessions.filter (fun x =>
        !(x.tr == tr && x.id == session)) } } tr 0x6C [])

/-! ### Vendor commands and tokens (R361, R362) -/

/-- A vendor-defined response (R362). -/
def vendor (s : State) (tr : Transport) (op status : Nat) (words : List Nat) : State := emit s (.vendor tr op status words)

/-- A vendor command is taken: only inside a secured session; while a transition is in hand it is answered with 0x05
(R361, R377). -/
def vendorCmd (tr : Transport) (session op : Nat) (f : State → State) (s : State) : Host.Outcome State Fault Refusal :=
  .next (if !spdmUp s then s
    else if !inSession s tr session then answerError s tr 1
    else if s.trust.transition.isSome then vendor s tr op 5 []
    else f s)

/-- GET_NONCE: a fresh nonce takes the place of the one before (R361). -/
def execGetNonce (tr : Transport) (session : Nat) (s : State) : Host.Outcome State Fault Refusal :=
  vendorCmd tr session 1 (fun s =>
    let r := takeFree s
    let v := r.1.toNat % 2 ^ 256
    vendor { r.2 with trust := { r.2.trust with nonce := some v } } tr 1 0 [v]) s

/-- GET_TRANSPORT_CERT: the transport certificate for k_T in PROVISIONED and DEPLOYED (R357, R361). -/
def execGetTransportCert (tr : Transport) (session : Nat) (s : State) : Host.Outcome State Fault Refusal :=
  vendorCmd tr session 2 (fun s =>
    match s.trust.kT with
    | none => vendor s tr 2 1 []
    | some k => vendor s tr 2 0 (s.fuse.serial :: k :: Config.answerWords 0x302 k)) s

/-- The status of a token: 0 accepted, 1 bad state, 2 bad binding, 3 bad nonce, 4 bad signature (R362). -/
def tokenStatus (s : State) (t : Token) (op : Nat) (stateOk signerOk : Bool) : Nat :=
  if t.opcode ≠ op ∨ stateOk = false then 1
  else if t.serial ≠ s.fuse.serial ∨ t.k ≠ s.fuse.lcCount then 2
  else if s.trust.nonce ≠ some t.nonce then 3
  else if signerOk = false then 4
  else 0

/-- The nonce that a token names is consumed (R361, R362). -/
def useNonce (s : State) (t : Token) : State :=
  if s.trust.nonce = some t.nonce then { s with trust := { s.trust with nonce := none } } else s

/-- Signed by the owner of the current deployment (R362). -/
def byOwner (s : State) (t : Token) : Bool :=
  match t.signer with
  | .owner d => ownerDigestOf s.fuse == some d
  | .villaholt => false
  | .nobody => false

/-- Signed by the Villaholt service key (R356). -/
def byVillaholt (t : Token) : Bool :=
  match t.signer with
  | .villaholt => true
  | .owner _ => false
  | .nobody => false

/-- A token command: the token is checked, its nonce is consumed, and the command runs or is refused (R362). -/
def tokenCmd (tr : Transport) (session op : Nat) (t : Token) (stateOk signerOk : State → Bool) (f : State → State) (s : State) :
    Host.Outcome State Fault Refusal :=
  vendorCmd tr session op (fun s =>
    match tokenStatus s t op (stateOk s) (signerOk s) with
    | 0 => f (useNonce s t)
    | c + 1 => vendor (useNonce s t) tr op (c + 1) []) s

/-- REGISTER_OWNER: the owner digest is fused, the token kept, and the module enters DEPLOYED (R356, R361). -/
def execRegisterOwner (tr : Transport) (session : Nat) (tok : Token) (ownerDigest fmDigest : Nat) (s : State) :
    Host.Outcome State Fault Refusal :=
  tokenCmd tr session 3 tok (fun s => lcState s.fuse == 1) (fun _ => decide (tok.signer = .owner ownerDigest)) (fun s =>
    let s1 := { s with
      fuse := { s.fuse with ownerDigest := tabSet s.fuse.ownerDigest ((s.fuse.lcCount - 1) / 3) ownerDigest,
                            lcCount := s.fuse.lcCount + 1 },
      flash := { s.flash with ownerToken := some (ownerDigest, fmDigest) },
      trust := { s.trust with fmKey := some fmDigest, fmSerial := 0 } }
    vendor (rekey s1) tr 3 0 []) s

/-- SET_FM_KEY: a fabric manager key with a higher serial is taken and kept (R361, R362). One whose serial is not higher is
refused with a status that the spec does not state. -/
def execSetFmKey (tr : Transport) (session : Nat) (tok : Token) (fmSerial fmDigest : Nat) (s : State) :
    Host.Outcome State Fault Refusal :=
  tokenCmd tr session 4 tok (fun s => lcState s.fuse == 2) (fun s => byOwner s tok) (fun s =>
    if s.trust.fmSerial < fmSerial then
      vendor { s with flash := { s.flash with fmToken := some (fmSerial, fmDigest) },
                      trust := { s.trust with fmKey := some fmDigest, fmSerial := fmSerial } } tr 4 0 []
    else
      let r := takeFree s
      vendor r.2 tr 4 (1 + r.1.toNat % 255) []) s

/-- A transition begins: every context is torn down first; where all are FREE it is carried out at once (R356, R377). -/
def startLc (s : State) (tr : Transport) (w : LcWait) : State :=
  finishLc (forEach (List.range 16) teardownCtx { s with trust := { s.trust with transition := some (w, tr) } })

/-- RETURN (R356). -/
def execReturnLc (tr : Transport) (session : Nat) (tok : Token) (s : State) : Host.Outcome State Fault Refusal :=
  tokenCmd tr session 5 tok (fun s => lcState s.fuse == 2 && decide (s.fuse.lcCount < 32)) (fun s => byOwner s tok)
    (fun s => startLc s tr .ret) s

/-- REPROVISION: JTAG internal access closes and the module enters PROVISIONED (R356). -/
def execReprovision (tr : Transport) (session : Nat) (tok : Token) (s : State) : Host.Outcome State Fault Refusal :=
  tokenCmd tr session 6 tok (fun s => lcState s.fuse == 3) (fun _ => byVillaholt tok) (fun s =>
    let s1 := { s with fuse := { s.fuse with lcCount := s.fuse.lcCount + 1 }, trust := { s.trust with debugOpen := false } }
    vendor (rekey s1) tr 6 0 []) s

/-- The positions of the sector pair in use (R29, R31). -/
def ledgerPair (f : Flash) : List LPos := if f.usePair1 then f.pair1 else f.pair0

/-- The record at a position that counts: one whose CRC is correct in either copy (R28). -/
def posRec (p : LPos) : Option LRec :=
  match p.a with
  | some r => some r
  | none => p.b

/-- The SEQ of the next record: above the highest of the pair and above every one before (R27, R31). -/
def nextSeq (f : Flash) : Nat := max f.seqNext (maxOf (((ledgerPair f).filterMap posRec).map (fun r => r.seq + 1)) 0)

/-- LEDGER_CLEAR: the ledger is emptied and retired cores return to SPARE; SEQ goes on (R24, R27, R361). -/
def execLedgerClear (tr : Transport) (session : Nat) (tok : Token) (s : State) : Host.Outcome State Fault Refusal :=
  tokenCmd tr session 7 tok (fun s => lcState s.fuse == 3) (fun _ => byVillaholt tok) (fun s =>
    let s1 := { s with
      flash := { s.flash with pair0 := [], pair1 := [], usePair1 := false, seqNext := nextSeq s.flash },
      dies := s.dies.map (fun d => (d.1, if d.2.gapReason = 0 then { d.2 with retired := false } else d.2)),
      cores := s.cores.map (fun c => (c.1, if c.2.st = .retired ∧ (dieAt s (dieOf c.1)).gapReason = 0
                                           then { c.2 with st := .spare } else c.2)) }
    vendor s1 tr 7 0 []) s

/-- DEBUG_UNLOCK: JTAG internal instructions open until the next power-on (R354, R361). -/
def execDebugUnlock (tr : Transport) (session : Nat) (tok : Token) (s : State) : Host.Outcome State Fault Refusal :=
  tokenCmd tr session 8 tok (fun s => lcState s.fuse == 1 || lcState s.fuse == 3) (fun _ => byVillaholt tok) (fun s =>
    vendor { s with trust := { s.trust with debugOpen := true } } tr 8 0 []) s

/-- The vendor command RETIRE: signed by the owner in DEPLOYED, by Villaholt in PROVISIONED and RETURNED (R356). -/
def execLcRetire (tr : Transport) (session : Nat) (tok : Token) (s : State) : Host.Outcome State Fault Refusal :=
  tokenCmd tr session 9 tok (fun s => lcState s.fuse == 1 || lcState s.fuse == 2 || lcState s.fuse == 3)
    (fun s => if lcState s.fuse = 2 then byOwner s tok else byVillaholt tok) (fun s => startLc s tr .retire) s

/-- PROVISIONING: the test engine fuses the UDS and the DeviceID certificate's digest and burns bit 0 (R356, R357). -/
def execProvisioning (certDigest : Nat) (s : State) : Host.Outcome State Fault Refusal :=
  .next (if lcState s.fuse = 0 then
    rekey { s with fuse := { s.fuse with uds := true, lcCount := 1, devidCert := certDigest },
                   trust := { s.trust with devid := true, aliasKey := true } } else s)

/-! ### Images and pushes (R372 to R376) -/

/-- The first check of R373 that an image fails, 0 where it passes all. `flash` is the source. -/
def verifyImage (f : Fuse) (flash : Bool) (i : FwImage) : Nat :=
  if flash ∧ i.readOk = false then 1
  else if i.hdrOk = false then 2
  else if f.revoked.contains i.keySlot then 3
  else if f.keyDigest[i.keySlot]? ≠ some i.pubDigest then 4
  else if i.sigOk = false then 5
  else if i.svn < f.svn then 6
  else if i.bodyOk = false then 7
  else if i.bodyLen = 0 ∨ 15728640 < i.bodyLen ∨ i.lenOk = false then 8
  else 0

/-- The fuse counter after a verified image with COMMIT_SVN (R374). -/
def burnSvn (f : Fuse) (i : FwImage) : Fuse := if i.commitSvn ∧ f.svn < i.svn then { f with svn := i.svn } else f

/-- A push begins: ignored while one runs; with no length it ends at once with RESULT 0x08 (R375, R376, R377). -/
def startPush (s : State) (persist : Bool) (img : Option FwImage) (flashOk : Bool) : State :=
  if s.trust.rcvBusy then s
  else if s.trust.rcvLen = 0 then
    { s with trust := { s.trust with rcvPhase := 5, rcvDone := true, rcvResult := 8 } }
  else
    { s with trust := { s.trust with rcvBusy := true, rcvPhase := 1, rcvResult := 0,
                                     push := some { persist := persist, image := img, flashOk := flashOk } } }

/-- The PF serves the SEC_ block: in recovery, or READY (R375). -/
def secUp (s : State) : Bool := s.sup.phase == .recovery || s.sup.phase == .ready

/-- GO: a write of GO without PERSIST (R375, R376). -/
def execGo (img : Option FwImage) (s : State) : Host.Outcome State Fault Refusal :=
  .next (if secUp s then startPush s false img true else s)

/-- GO with PERSIST (R375, R376). -/
def execGoPersist (img : Option FwImage) (flashOk : Bool) (s : State) : Host.Outcome State Fault Refusal :=
  .next (if secUp s then startPush s true img flashOk else s)

end Sys2Proof.Machine
end

