-- ==== Sys2Proof/Machine/HostRing.lean ====
section
/-! DEFINITION. Rings and doorbells (R319, R320, R326 to R330, R342, R343): fetching, completion records, message records,
interrupts; the choice of the command that starts next. -/

namespace Sys2Proof.Machine

/-! ### Descriptors (R331) -/

/-- OPC of a fetched command. -/
def cmdOpc (h : HCmd) : Nat := fld h.desc 7 0
/-- FENCE. -/
def cmdFence (h : HCmd) : Bool := bitAt h.desc.toNat 8
/-- NO_IRQ. -/
def cmdNoIrq (h : HCmd) : Bool := bitAt h.desc.toNat 9
/-- CMD_TAG. -/
def cmdTag (h : HCmd) : Nat := fld h.desc 31 16
/-- `n` little-endian bytes of the descriptor from byte `i`. -/
def cmdField (h : HCmd) (i n : Nat) : Nat := fld h.desc (8 * (i + n) - 1) (8 * i)

/-! ### Doorbells (R326) -/

/-- SQ_DOORBELL: the tail of a submission ring; ignored for a disabled ring and for a reserved offset (R326). -/
def execSqDoorbell (ctx ring value : Nat) (s : State) : Host.Outcome State Fault Refusal :=
  runUnit ctx 16 (fun s =>
    let x := ctxAt s ctx
    if ring < 8 ∧ ringSize (sqCfgOf x ring) ≠ 0 then
      putCtx s ctx (putSq x ring { sqAt x ring with tail := value % 65536 })
    else s) s

/-- Entries not yet released after the host's head moves to `h` (log 31: a head equal to the index releases all). -/
def heldBack (r : OutRing) (size h : Nat) : Nat := (r.wr + size - h % size) % size

/-- CQ_HEAD: completion entries released to the module (R326, R328). -/
def execCqHead (ctx value : Nat) (s : State) : Host.Outcome State Fault Refusal :=
  runUnit ctx 16 (fun s =>
    let x := ctxAt s ctx
    let n := ringSize x.act.cqCfg
    if n = 0 then s
    else putCtx s ctx { x with cq := { x.cq with head := value % 65536, count := heldBack x.cq n (value % 65536) } }) s

/-- MSG_HEAD: message units released to the module (R326, R343). -/
def execMsgHead (ctx value : Nat) (s : State) : Host.Outcome State Fault Refusal :=
  runUnit ctx 16 (fun s =>
    let x := ctxAt s ctx
    if ringSize x.act.msgCfg = 0 then s else putCtx s ctx { x with msg := { x.msg with head := value % 65536 } }) s

/-! ### Fetching (R320, R327) -/

/-- A submission ring has a descriptor to fetch (R320, R322, R327). -/
def ringPending (x : Ctx) (i : Nat) : Bool :=
  let n := ringSize (sqCfgOf x i)
  n != 0 && !bitAt x.ringStop i && (sqAt x i).head != (sqAt x i).tail % max 1 n

/-- The ring that is fetched from next, in rotating order; none while the context's rings are not served. -/
def fetchRing (s : State) (n : Nat) : Option Nat :=
  let x := ctxAt s n
  if ringsUp s ∧ x.st = .active ∧ x.enable = true then rotPick x.lastRing (ringPending x) else none

/-- DESCRIPTOR_FETCH: the next descriptor is fetched; a reserved OPC completes with CMD_INVALID (R327, R331). -/
def execDescriptorFetch (ctx : Nat) (desc : BitVec 512) (s : State) : Host.Outcome State Fault Refusal :=
  runUnit ctx 16 (fun s =>
    match fetchRing s ctx with
    | none => s
    | some i =>
      let x := ctxAt s ctx
      let r := sqAt x i
      let bad := decide (0x0F < fld desc 7 0)
      let h : HCmd := { ring := i, idx := r.head, desc := desc, started := bad, seqNo := x.cmdSeq }
      let y := { putSq x i { r with head := (r.head + 1) % ringSize (sqCfgOf x i) } with
        lastRing := i, cmds := x.cmds ++ [h], cmdSeq := x.cmdSeq + 1 }
      putCtx s ctx (if bad then postComp y (comp (cmdTag h) i 2 0 0 (cmdNoIrq h)) else y)) s

/-! ### Which command starts next (R327, R411) -/

/-- The session that an INFER or SESSION_CLOSE names (R331, R334). -/
def cmdSession (h : HCmd) : Nat := cmdField h 8 4

/-- An INFER that waits for the rebuild of its session (R411). -/
def parked (x : Ctx) (h : HCmd) : Bool :=
  !h.started && cmdOpc h == 6 && x.sessions.any (fun t => t.id == cmdSession h && t.rebuilding)

/-- The commands of the same ring fetched before. -/
def before (x : Ctx) (h : HCmd) : List HCmd := x.cmds.filter (fun g => g.ring == h.ring && decide (g.seqNo < h.seqNo))

/-- A command may start: every earlier one of its ring has started, and with FENCE has completed (R327). -/
def startable (x : Ctx) (h : HCmd) : Bool :=
  !h.started && (before x h).all (fun g => g.started || parked x g) && (!cmdFence h || (before x h).isEmpty)

/-- The command of an OPC that starts next, in fetch order. -/
def nextCmd (x : Ctx) (opc : Nat) : Option HCmd :=
  x.cmds.find? (fun h => cmdOpc h == opc && startable x h && !parked x h)

/-- A command marked as started. -/
def startCmd (s : State) (n : Nat) (h : HCmd) : State :=
  putCtx s n { ctxAt s n with
    cmds := (ctxAt s n).cmds.map (fun g => if g.seqNo = h.seqNo then { g with started := true } else g) }

/-- A command started and completed (R328, R329). -/
def endCmd (s : State) (n : Nat) (h : HCmd) (status r0 r1 : Nat) : State :=
  complete (startCmd s n h) n (comp (cmdTag h) h.ring status r0 r1 (cmdNoIrq h))

/-- A command started and completed with a failing status: RESULT0 and RESULT1, which R331 gives for a command that does its
work, are free values (log 40). -/
def failCmd (s : State) (n : Nat) (h : HCmd) (status : Nat) : State :=
  failWith (startCmd s n h) n (cmdTag h) h.ring status (cmdNoIrq h)

/-- The status of the lowest failed part, 0 where none failed. -/
def partStatus (bad : List (Nat × Nat)) : Nat := (bad.map (·.2)).headD 0

/-- A command with parts started and completed: with failed parts, PART_FAILED, PART_MAP and the lowest part's status in
bits [15:0] of RESULT0 (R333). `bad` lists parts in ascending order with their status. -/
def endParts (s : State) (n : Nat) (h : HCmd) (bad : List (Nat × Nat)) (r0 : Nat) : State :=
  if bad.isEmpty then endCmd s n h 0 r0 0
  else
    let v := takeFree (startCmd s n h)
    complete v.2 n
      { comp (cmdTag h) h.ring 1 (bits v.1.toNat 63 16 * 65536 + partStatus bad) (bits v.1.toNat 127 64) (cmdNoIrq h) with
        partMap := maskOf (bad.map (·.1)) }

/-- A host command: the oldest fetched command of an OPC that may start. -/
def hostCmd (n opc : Nat) (f : State → HCmd → State) (s : State) : Host.Outcome State Fault Refusal :=
  runUnit n 16 (fun s =>
    match nextCmd (ctxAt s n) opc with
    | none => s
    | some h => f s h) s

/-- HOST_NOP: completes at once (R331). -/
def execHostNop (ctx : Nat) (s : State) : Host.Outcome State Fault Refusal :=
  hostCmd ctx 0 (fun s h => endCmd s ctx h 0 0 0) s

/-- Commands that read host memory: STAGE_IMAGE, STAGE_WPKG, INFER, SESSION_OPEN, FAB_RECORD, DEBUG_DUMP (R331). -/
def readsHost (opc : Nat) : Bool := [1, 2, 6, 7, 0xC, 0xE].contains opc

/-- HOST_DMA_FAULT: a failed fetch stops its ring and raises HOST_DMA_FAULT; a failed read of a command ends it with
HOST_DMA_ERR (R320). `idx` is the ring, or the command's place among the fetched ones. -/
def execHostDmaFault (ctx : Nat) (ringFetch : Bool) (idx : Nat) (s : State) : Host.Outcome State Fault Refusal :=
  runUnit ctx 16 (fun s =>
    let x := ctxAt s ctx
    if ringFetch then
      (if fetchRing s ctx = some idx then
         ctxEvent (putCtx s ctx { x with ringStop := x.ringStop ||| 2 ^ idx }) 0 evHostDmaFault 0 0 0 0
       else s)
    else
      match x.cmds[idx]? with
      | none => s
      | some h => if readsHost (cmdOpc h) ∧ startable x h ∧ parked x h = false then failCmd s ctx h 3 else s) s

/-! ### Completion records (R328, R329) -/

/-- The fetched command that a completion record ends is forgotten. -/
def forgetCmd (l : List HCmd) (k : Comp) : List HCmd :=
  match l.find? (fun h => h.started && h.ring == k.ring && cmdTag h == k.tag) with
  | none => l
  | some h => l.erase h

/-- A completion or message ring after `k` entries: the index moves on and the phase flips where it wraps (R328). -/
def advanceRing (r : OutRing) (size k : Nat) : OutRing :=
  { r with wr := (r.wr + k) % size, phase := if r.wr + k < size then r.phase else !r.phase }

/-- COMPLETION_WRITE: the oldest waiting record is written into an entry the host has released (R328, R329). -/
def execCompletionWrite (ctx : Nat) (s : State) : Host.Outcome State Fault Refusal :=
  runUnit ctx 16 (fun s =>
    let x := ctxAt s ctx
    let n := ringSize x.act.cqCfg
    match x.comps with
    | [] => s
    | k :: rest =>
      if ringsUp s ∧ x.st = .active ∧ x.cq.count < n then
        let q := advanceRing x.cq n 1
        let y := { x with
          comps := rest, cmds := forgetCmd x.cmds k,
          cq := { q with count := x.cq.count + 1, unann := x.cq.unann + b2n (!k.noIrq) } }
        emit (putCtx s ctx y) (.compRec ctx x.cq.wr x.cq.phase (sqAt x k.ring).head k)
      else s) s

/-! ### Message records (R316, R342, R343) -/

/-- Free units of a message ring of `n` units (R343). -/
def msgFree (r : OutRing) (n : Nat) : Nat := n - 1 - (r.wr + n - r.head % n) % n

/-- The body of a record of `l` units (R343). -/
def cutBody (b : MsgBody) (l : Nat) : MsgBody :=
  match b with
  | .empty => .empty
  | .event slot tslot ep tag core a0 a1 a2 => .event slot tslot ep tag core a0 a1 a2
  | .bytes w => .bytes (w.take (32 * (l - 1)))

/-- The SKIP record of some units; its SEQ, which no SKIP advances, is a free value (R342, R344; log 43). -/
def skipRec (v : BitVec 512) (x : Ctx) (units : Nat) : MsgRec :=
  { plainRec 0 0 0 0 with units := units, step := x.stepNum, seq := bits v.toNat 31 0 }

/-- A record written at the module's index, after a SKIP where it does not fit before the end; none while the ring has no
room (R343). -/
def placeRec (s : State) (n : Nat) (m : MsgRec) (size : Nat) : Option State :=
  let x := ctxAt s n
  let l := min m.units (min 128 (size / 2))
  let cut := decide (l < m.units)
  let rest := size - x.msg.wr
  let out (s : State) (r : OutRing) : State :=
    let q := advanceRing r size l
    emit (putCtx s n { ctxAt s n with msg := { q with unann := r.unann + 1 }, msgSeq := (x.msgSeq + 1) % 2 ^ 32 })
      (.msgRec n r.wr r.phase cut { m with units := l, seq := x.msgSeq, body := cutBody m.body l })
  if l ≤ rest then
    (if msgFree x.msg size < l then none else some (out s x.msg))
  else if msgFree x.msg size < rest + l then none
  else some (out (emit (takeFree s).2 (.msgRec n x.msg.wr x.msg.phase false (skipRec (takeFree s).1 x rest))) { x.msg with wr := 0, phase := !x.msg.phase })

/-- The record that is placed next: MSG_OVERFLOW after discards, else the oldest waiting one (R343). -/
def nextRec (x : Ctx) : Option MsgRec :=
  match x.store with
  | [] => none
  | m :: _ => if x.lostRun = 0 then some m else some { plainRec 8 x.lostRun 0 0 with step := x.stepNum }

/-- The store after a record has been placed; a LATE_ARRIVAL record that a LATE_REPORT asked for completes it (R316). -/
def placedRec (x : Ctx) : Ctx :=
  if x.lostRun ≠ 0 then { x with lostRun := 0 }
  else
    match x.store, x.lateComps with
    | m :: t, k :: ks => if m.type = 6 ∧ m.seq = 1 then postComp { x with store := t, lateComps := ks } k else { x with store := t }
    | _ :: t, [] => { x with store := t }
    | [], _ => x

/-- MESSAGE_RECORD_PLACE: the oldest waiting record is placed where there is room (R343). -/
def execMessageRecordPlace (ctx : Nat) (s : State) : Host.Outcome State Fault Refusal :=
  runUnit ctx 16 (fun s =>
    let x := ctxAt s ctx
    let n := ringSize x.act.msgCfg
    if ringsUp s ∧ x.st = .active ∧ n ≠ 0 then
      match nextRec x with
      | none => s
      | some m =>
        match placeRec s ctx m n with
        | none => s
        | some t => putCtx t ctx (placedRec (ctxAt t ctx))
    else s) s

/-! ### Interrupts (R330) -/

/-- The vector of a ring is due: enabled, with records unannounced, and their number or their age suffices (R324, R330). -/
def irqDue (cfg : Nat) (r : OutRing) (timeUp : Bool) : Bool :=
  bitAt cfg 32 && r.unann != 0 && (decide (max 1 (bits cfg 23 16) ≤ r.unann) || bits cfg 31 24 == 0 || timeUp)

/-- INTERRUPT: an MSI-X vector fires (R330); `timeUp`: COAL_TIME has passed since the oldest unannounced record. -/
def execInterrupt (ctx : Nat) (msgRing timeUp : Bool) (s : State) : Host.Outcome State Fault Refusal :=
  runUnit ctx 16 (fun s =>
    let x := ctxAt s ctx
    let cfg := if msgRing then x.act.msgCfg else x.act.cqCfg
    let r := if msgRing then x.msg else x.cq
    if ringsUp s ∧ x.st = .active ∧ ringSize cfg ≠ 0 ∧ irqDue cfg r timeUp then
      emit (putCtx s ctx (if msgRing then { x with msg := { x.msg with unann := 0 } } else { x with cq := { x.cq with unann := 0 } }))
        (.msix ctx (bits cfg 13 8))
    else s) s

end Sys2Proof.Machine
end

