-- ==== Sys2Proof/Machine/Records.lean ====
section
/-! DEFINITION. Telemetry records (R493, R499) and late-arrival reports (R314 to R316, R497). -/

namespace Sys2Proof.Machine

/-! ### Telemetry records (R493, R497, R499) -/

/-- The bytes of a telemetry record: its header, then its body, at most 8,192 bytes (R493). -/
def recBytes (type seq ticks : Nat) (body : List Byte) : List Byte :=
  let b := body.take 8176
  leBytes 1 type ++ leBytes 1 1 ++ leBytes 2 (16 + b.length) ++ leBytes 4 seq ++ leBytes 8 ticks ++ b

/-- A record closes: it becomes the latest of its TYPE (and context, where the TYPE names one), SEQ advances, and it waits
for the bus where it is subscribed to (R493, R499). -/
def closeRec (s : State) (type ctx : Nat) (body : List Byte) (push : Bool) : State :=
  let t := s.telem
  let q := tabGet t.seq type 0
  let r : TRec := { type := type, ctx := ctx, bytes := recBytes type q s.sup.ticks body }
  { s with telem := { t with
    latest := t.latest.filter (fun e => !(e.type == type && e.ctx == ctx)) ++ [r],
    seq := tabSet t.seq type ((q + 1) % 2 ^ 32),
    push := if push && bitAt t.mask (type - 1) then t.push ++ [r] else t.push } }

/-- The latest record of a TYPE and context; none before the first. -/
def findRec (s : State) (type ctx : Nat) : Option TRec := s.telem.latest.find? (fun e => e.type == type && e.ctx == ctx)

/-- The bytes of the latest record of a TYPE and context. -/
def latestRec (s : State) (type ctx : Nat) : List Byte := ((findRec s type ctx).map (·.bytes)).getD []

/-! ### Late-arrival reports (R314 to R316) -/

/-- Late-arrival records in ascending endpoint ID. -/
def insertLate (e : Late) : List Late → List Late
  | [] => [e]
  | f :: t => if e.ep ≤ f.ep then e :: f :: t else f :: insertLate e t

/-- The late-arrival report of a context (R315). -/
def lateBytes (x : Ctx) : List Byte :=
  let l := x.late.foldr insertLate []
  leBytes 8 x.stepNum ++ leBytes 2 (bits x.act.fabId 35 20) ++ leBytes 2 l.length ++ leBytes 4 0 ++
    l.flatMap (fun e => leBytes 4 (e.ep % 2 ^ 20) ++ leBytes 4 e.phases ++ leBytes 4 e.last ++ leBytes 4 e.lastTicks)

/-- A report sent to the fabric manager over MCTP and to the context's message ring; `owed` marks the record that completes
a LATE_REPORT (R316). -/
def sendLate (s : State) (n : Nat) (owed : Bool) : State :=
  let x := ctxAt s n
  let s1 := closeRec (postMsg s n { bytesRec 6 0 0 0 (lateBytes x) with seq := b2n owed }) 5 0 (lateBytes x) false
  emit s1 (.mctpBytes 0x12 0 s.telem.subEid (latestRec s1 5 0))

end Sys2Proof.Machine
end

