-- ==== Sys2Proof/Machine/HostCmd.lean ====
section
/-! DEFINITION. Host commands (R331 to R341, R363 to R369): staging, loading, requests, sessions, hints, records and
reports. DEBUG_DUMP stands with the dump, RETIRE with self-healing. -/

namespace Sys2Proof.Machine

/-! ### Envelopes (R363, R364) -/

/-- The parts of a command with a PART_MASK: the granted basins it names, every granted one for zero (R333). -/
def partsOf (s : State) (n mask : Nat) : List Nat :=
  if mask = 0 then grantOf s n else (grantOf s n).filter (fun b => bitAt mask b)

/-- An envelope verifies: DEPLOYED, header, key, tag and owner signature (R363, R364). -/
def envOk (s : State) (e : Envelope) (kind : Nat) : Bool :=
  lcState s.fuse == 2 && e.magic == 0x564E4556 && e.kind == kind && e.version == 1 && e.serial == s.fuse.serial &&
  s.trust.kT == some e.k && e.keyOk && e.bodyLen != 0 && e.tagOk && e.sigOk

/-- Every part of a command fails alike (R333; log 41); with no part, the command itself does. -/
def failParts (s : State) (n : Nat) (h : HCmd) (parts : List Nat) (status : Nat) : State :=
  if parts.isEmpty then failCmd s n h status else endParts s n h (parts.map (fun b => (b, status))) 0

/-- STAGE_IMAGE: the image of a verified envelope is kept; one that does not verify fails in every part (R331, R333,
R364). -/
def stageImageNow (s : State) (n : Nat) (env : Envelope) (h : HCmd) : State :=
  let len := cmdField h 16 4
  if len = 0 then endCmd s n h 0 0 0
  else if len ≠ 512 + env.bodyLen + 400 then failParts s n h (partsOf s n (cmdField h 20 2)) 0x18
  else if !envOk s env 1 then failParts s n h (partsOf s n (cmdField h 20 2)) 0x15
  else
    let x := ctxAt s n
    let m := fitBytes env.bodyLen env.body
    let held := match x.image with
                | none => 0
                | some g => if g.image = m then g.parts else 0
    endCmd (putCtx s n { x with image := some { image := m, parts := held ||| maskOf (partsOf s n (cmdField h 20 2)) } })
      n h 0 len 0

/-- STAGE_IMAGE (R331, R333, R364). -/
def execStageImage (ctx : Nat) (env : Envelope) (s : State) : Host.Outcome State Fault Refusal :=
  hostCmd ctx 1 (fun s h => stageImageNow s ctx env h) s

/-! ### Weight packages (R365, R366) -/

/-- The physical basins of a shard's BASINS mask under a grant, and the image basins not granted (R187). -/
def shardBasins (bs : List Nat) (mask : Nat) : Nat × Nat :=
  (maskOf ((bitList 16 mask).filterMap (fun i => bs[i]?)), maskOf ((bitList 16 mask).filter (fun i => decide (bs.length ≤ i))))

/-- The shard entry at byte `o` of a manifest (R365). -/
def readShard (bs : List Nat) (m : List Byte) (o : Nat) : Shard :=
  let g := shardBasins bs (imgField m (o + 4) 2)
  { id := imgField m o 2, basins := g.1, missing := g.2, hbmOff := imgField m (o + 8) 4, pkgOff := imgField m (o + 16) 8,
    length := imgField m (o + 24) 8, digest := imgField m (o + 32) 32, arrived := 0, good := 0 }

/-- A scale entry of a manifest (R365). -/
def readScale (m : List Byte) (o : Nat) : Nat × Int :=
  let w := imgField m o 4
  (w % 4096, signedOf 8 (bits w 31 24))

/-- A manifest is well formed: MAGIC, SHARDS not zero, and its length (R365). -/
def manifestOk (m : List Byte) : Bool :=
  imgField m 0 4 == 0x4E414D57 && imgField m 4 2 != 0 && m.length == 32 + 64 * imgField m 4 2 + 4 * imgField m 6 2

/-- The package that a manifest describes; nothing of its shards has arrived (R365). -/
def readWpkg (bs : List Nat) (m : List Byte) : Wpkg :=
  let k := imgField m 4 2
  { digest := sha256 m, pkgLen := imgField m 8 8, shards := (List.range k).map (fun i => readShard bs m (32 + 64 * i)),
    scales := (List.range (imgField m 6 2)).map (fun i => readScale m (32 + 64 * k + 4 * i)) }

/-- The envelope at the start of a package taken: the package verified, or none (R366). A package already staged stands. -/
def takePkgHead (s : State) (n : Nat) (len : Nat) (e : Option Envelope) : Option State :=
  match e with
  | none => none
  | some e =>
    let m := fitBytes e.bodyLen e.body
    if envOk s e 2 ∧ manifestOk m ∧ 512 + e.bodyLen + 400 ≤ len then
      let w := readWpkg (grantOf s n) m
      let x := ctxAt s n
      if x.wpkg.map (·.digest) = some w.digest then some s else some (putCtx s n { x with wpkg := some w })
    else none

/-- A shard replaced in the package of a context. -/
def putShard (s : State) (n : Nat) (h : Shard) : State :=
  let x := ctxAt s n
  putCtx s n { x with wpkg := x.wpkg.map (fun w => { w with shards := w.shards.map (fun g => if g.id = h.id then h else g) }) }

/-- A copy written and verified again: its hold lifts and the reload is reported (R404, R416). -/
def liftHold (s : State) (n b id : Nat) : State :=
  if onHold s b n id then
    let h := hbmAt s b
    let s1 := putHbm s b { h with holds := h.holds.filter (fun e => !(e.ctx == n && e.shard == id)) }
    let s2 := { s1 with heal := { s1.heal with reloads := s1.heal.reloads.filter (fun r => r != (n, b, id)) } }
    bumpTst (basinEvent s2 b evShardReloaded 0 0 0) 17 1
  else s

/-- The copy of a shard in a stack has the signed bytes. -/
def copyOk (s : State) (b : Nat) (h : Shard) : Bool :=
  !(hbmAt s b).withdrawn && sha256 (memRead (hbmAt s b).mem (h.hbmOff * 65536) h.length) == h.digest

/-- What a piece has done so far: the state, shards completed, failed parts with their status. -/
structure Piece where
  s : State
  done : Nat
  bad : List (Nat × Nat)

/-- A shard whose last byte has arrived: its tag and digest are checked, and the parts whose copy fails fail (R333, R366;
log 41). -/
def endShard (n : Nat) (parts : List Nat) (tagBad : Bool) (z : Piece) (h : Shard) : Piece :=
  let mine := parts.filter (fun b => bitAt h.basins b)
  if tagBad then { z with bad := z.bad ++ mine.map (fun b => (b, 0x16)) }
  else
    let good := mine.filter (fun b => copyOk z.s b h)
    let miss := mine.filter (fun b => !good.contains b)
    let s1 := putShard z.s n { h with good := h.good ||| maskOf good }
    { s := forEach good (fun s b => liftHold s n b h.id) s1, done := z.done + if miss.isEmpty then 1 else 0,
      bad := z.bad ++ miss.map (fun b => (b, 0x17)) }

/-- The bytes that a piece holds of one shard (R366): `a` and `e` are the ends of the piece in the package. -/
def takeShard (n : Nat) (parts : List Nat) (p : WpkgPiece) (a e : Nat) (z : Piece) (h : Shard) : Piece :=
  if h.pkgOff + h.length + 16 ≤ a ∨ e ≤ h.pkgOff then z
  else
    let o := a - h.pkgOff
    let upto := min (e - h.pkgOff) (h.length + 16)
    let mine := parts.filter (fun b => bitAt h.basins b)
    let plain := (p.plain.drop (h.pkgOff - a)).take (min upto h.length - o)
    let s1 := forEach mine (fun s b => hbmWrite s b (h.hbmOff * 65536 + o) plain) z.s
    let kept := maskOf ((bitList 16 h.good).filter (fun b => !parts.contains b))
    let g := { h with arrived := upto, good := kept }
    let z1 := { z with s := putShard s1 n g, bad := z.bad ++ (bitList 16 h.missing).map (fun b => (b, 0x13)) }
    if upto = h.length + 16 then endShard n parts (p.badTags.contains h.id) z1 g else z1

/-- A piece begins inside a shard whose preceding bytes have not arrived (R366). -/
def gapBefore (w : Wpkg) (a : Nat) : Bool :=
  w.shards.any (fun h => decide (h.pkgOff < a) && decide (a < h.pkgOff + h.length + 16) && decide (h.arrived < a - h.pkgOff))

/-- STAGE_WPKG: header, manifest and signature first, then shard bytes (R331, R366). -/
def stageWpkgNow (s : State) (n : Nat) (piece : WpkgPiece) (h : HCmd) : State :=
  let len := cmdField h 24 4
  let a := cmdField h 16 8
  let parts := partsOf s n (cmdField h 28 2)
  if len = 0 then endCmd s n h 0 0 0
  else
    match (if a = 0 then takePkgHead s n len piece.env else some s) with
    | none => failParts s n h parts 0x16
    | some s1 =>
      match (ctxAt s1 n).wpkg with
      | none => failParts s1 n h parts 0x16
      | some w =>
        if gapBefore w a then failCmd s1 n h 2
        else
          let z := w.shards.foldl (takeShard n parts piece a (a + len)) { s := s1, done := 0, bad := [] }
          endParts z.s n h ((sortNat (z.bad.map (·.1))).map (fun b => (b, ((z.bad.find? (fun e => e.1 == b)).map (·.2)).getD 0)))
            z.done

/-- STAGE_WPKG (R331, R333, R366). -/
def execStageWpkg (ctx : Nat) (piece : WpkgPiece) (s : State) : Host.Outcome State Fault Refusal :=
  hostCmd ctx 2 (fun s h => stageWpkgNow s ctx piece h) s

/-! ### Loading and unloading (R189, R209, R216, R331) -/

/-- A drain or a reset of the context is in hand, which a load or an unload waits for (R216, R433). -/
def ctxBusy (s : State) (n : Nat) : Bool := s.mesh.drains.any (fun d => d.ctx == n) || resetPending s n

/-- A layout with firings to drain (R207, R422). -/
def needsDrain (l : Layout) : Bool := l.running && !l.held && !l.stopped

/-- LOAD_LAYOUT: an image that runs already changes nothing; a failed check is the status; otherwise a running layout is
drained first (R188, R189, R331). -/
def loadNow (s : State) (n : Nat) (h : HCmd) : State :=
  let x := ctxAt s n
  if ctxBusy s n then s
  else
    match x.image with
    | none => failCmd s n h 0x0101
    | some g =>
      match x.layout with
      | none => finishLoad (startCmd s n h) n (cmdTag h) h.ring (cmdNoIrq h)
      | some l =>
        if needsDrain l && l.imageDigest == sha256 g.image then endCmd s n h 0 0 0
        else if loadCheck s n g.image ≠ 0 then failCmd s n h (0x0100 + loadCheck s n g.image)
        else if needsDrain l then startDrain (startCmd s n h) n (grantOf s n) .load (cmdTag h) h.ring (cmdNoIrq h)
        else finishLoad (startCmd s n h) n (cmdTag h) h.ring (cmdNoIrq h)

/-- LOAD_LAYOUT (R331). -/
def execLoadLayout (ctx : Nat) (s : State) : Host.Outcome State Fault Refusal := hostCmd ctx 3 (fun s h => loadNow s ctx h) s

/-- UNLOAD_LAYOUT: drains and advances the generation (R207, R209, R331). -/
def unloadNow (s : State) (n : Nat) (h : HCmd) : State :=
  match (ctxAt s n).layout with
  | none => failCmd s n h 4
  | some l =>
    if ctxBusy s n then s
    else if needsDrain l then startDrain (startCmd s n h) n (grantOf s n) .unload (cmdTag h) h.ring (cmdNoIrq h)
    else finishUnload (startCmd s n h) n (cmdTag h) h.ring (cmdNoIrq h)

/-- UNLOAD_LAYOUT (R331). -/
def execUnloadLayout (ctx : Nat) (s : State) : Host.Outcome State Fault Refusal := hostCmd ctx 4 (fun s h => unloadNow s ctx h) s

/-! ### Actions staged for a step boundary (R306, R307, R331) -/

/-- A command started and staged for the next boundary. -/
def stageCmd (s : State) (n : Nat) (h : HCmd) (a : Staged) : State :=
  let s1 := startCmd s n h
  putCtx s1 n { ctxAt s1 n with staged := (ctxAt s1 n).staged ++ [a] }

/-- RELOAD_SCALE: staged for action 2 of the next boundary; NO_LAYOUT without a layout (R306, R331, R332). -/
def execReloadScale (ctx : Nat) (s : State) : Host.Outcome State Fault Refusal :=
  hostCmd ctx 5 (fun s h =>
    if (ctxAt s ctx).layout.isNone then failCmd s ctx h 4
    else stageCmd s ctx h (.reload (cmdTag h) h.ring (cmdNoIrq h))) s

/-- BIND_PEER: staged for action 3 of the next boundary (R214, R331). -/
def execBindPeer (ctx : Nat) (s : State) : Host.Outcome State Fault Refusal :=
  hostCmd ctx 0xA (fun s h =>
    stageCmd s ctx h (.peer (cmdTag h) h.ring (cmdField h 8 1 % 64) (cmdField h 9 3 % 2 ^ 20) (cmdNoIrq h))) s

/-- SET_PORTS: staged for action 3 of the next boundary (R281, R331). -/
def execSetPorts (ctx : Nat) (s : State) : Host.Outcome State Fault Refusal :=
  hostCmd ctx 0xB (fun s h => stageCmd s ctx h (.ports (cmdTag h) h.ring (cmdField h 8 3) (cmdNoIrq h))) s

/-! ### Requests (R334 to R337, R369) -/

/-- The positions of a microbatch that requests have taken. -/
def takenPos (m : Mb) : List Nat := m.reqs.flatMap (fun r => (List.range r.tokens).map (fun i => r.pos + i))

/-- Positions `p` to `p + t - 1` exist and are free. -/
def posFree (m : Mb) (tokens p t : Nat) : Bool :=
  decide (p + t ≤ tokens) && m.reqs.all (fun r => decide (r.pos + r.tokens ≤ p) || decide (p + t ≤ r.pos))

/-- Microbatch `k` of a context that is not yet admitted; empty where no request has been placed. -/
def mbAt (x : Ctx) (k : Nat) : Mb :=
  (x.mbs.find? (fun m => m.num == k)).getD
    { num := k, step := 0, reqs := [], admitted := false, complete := false, aborted := false, closed := false }

/-- A microbatch replaced; the list stays in number order. -/
def putMb : List Mb → Mb → List Mb
  | [], m => [m]
  | g :: t, m => if m.num < g.num then m :: g :: t else if m.num = g.num then m :: t else g :: putMb t m

/-- The request of an INFER at a position (R334). -/
def reqOf (x : Ctx) (h : HCmd) (inp : InferIn) (t : Sess) (p : Nat) : Req :=
  { tag := cmdTag h, ring := h.ring, session := cmdSession h, tokens := cmdField h 12 2, pos := p, outAddr := cmdField h 24 8,
    sessPos := cmdField h 42 4, noIrq := cmdNoIrq h, flush := bitAt (cmdField h 14 1) 1, drops := 0, aborted := none,
    inData := fitBytes (cmdField h 12 2 * 16 * inUnits x.act) inp.data, firstPage := t.firstPage }

/-- A request placed: CLAIM_END advances, and its microbatch closes when it is full or FLUSH is set (R336, R369). -/
def placeReq (s : State) (n : Nat) (h : HCmd) (m : Mb) (tokens : Nat) (r : Req) : State :=
  let s1 := startCmd s n h
  let x := ctxAt s1 n
  let m1 := { m with reqs := m.reqs ++ [r] }
  let m2 := { m1 with closed := m.closed || r.flush || decide (tokens ≤ (takenPos m1).length) }
  putCtx s1 n { x with
    mbs := putMb x.mbs m2,
    sessions := x.sessions.map (fun t => if t.id = r.session then { t with claimEnd := r.sessPos + r.tokens } else t) }

/-- An INFER whose checks have passed is placed: pinned where it names, else in the open microbatch, which is admitted first
if too few positions remain (R336, R337). -/
def inferPlace (s : State) (n : Nat) (h : HCmd) (inp : InferIn) (t : Sess) (tokens : Nat) : State :=
  let x := ctxAt s n
  let cnt := cmdField h 12 2
  if bitAt (cmdField h 14 1) 0 then
    let m := mbAt x (cmdField h 32 8)
    if x.nextMb ≤ m.num ∧ posFree m tokens (cmdField h 40 2) cnt = true then
      placeReq s n h m tokens (reqOf x h inp t (cmdField h 40 2))
    else failCmd s n h 0xE
  else
    let m := mbAt x x.nextMb
    match (if m.closed then none else (List.range tokens).find? (fun p => posFree m tokens p cnt)) with
    | some p => placeReq s n h m tokens (reqOf x h inp t p)
    | none => putCtx s n { x with mbs := putMb x.mbs { m with closed := true } }

/-- INFER: its checks in order, then its place (R332 to R337, R341, R369, R412). -/
def inferNow (s : State) (n : Nat) (inp : InferIn) (h : HCmd) : State :=
  let x := ctxAt s n
  let cnt := cmdField h 12 2
  if x.fenced then failCmd s n h 0x1A
  else
    match x.layout, x.sessions.find? (fun t => t.id == cmdSession h) with
    | none, _ => failCmd s n h 4
    | some l, none => failCmd s n h (if l.stopped then 0x19 else if l.held then 5 else 8)
    | some l, some t =>
      if l.stopped then failCmd s n h 0x19
      else if l.held then failCmd s n h 5
      else if t.lost then failCmd s n h 0xD
      else if t.closing.isSome then failCmd s n h 9
      else if l.mbTokens < cnt then failCmd s n h 0xF
      else if cnt = 0 then endCmd s n h 0 (2 ^ 64 - 1) 0
      else if cmdField h 42 4 < t.claimEnd ∨ inp.tagOk = false then failCmd s n h 7
      else inferPlace s n h inp t l.mbTokens

/-- INFER (R331, R334). -/
def execInfer (ctx : Nat) (inp : InferIn) (s : State) : Host.Outcome State Fault Refusal :=
  hostCmd ctx 6 (fun s h => inferNow s ctx inp h) s

/-! ### Sessions (R339, R341, R367) -/

/-- A session ID is open or about to be (R339). -/
def sessTaken (x : Ctx) (id : Nat) : Bool :=
  x.sessions.any (fun t => t.id == id) ||
  (x.due ++ x.staged).any (fun a =>
    match a with
    | .openSess _ _ i _ _ _ => i == id
    | .reload _ _ _ => false
    | .peer _ _ _ _ _ => false
    | .ports _ _ _ _ => false
    | .rebuilt _ _ _ _ => false
    | .closeSess _ => false)

/-- SESSION_OPEN: the key blob is unwrapped at once, the pages are allocated at the next boundary; outside DEPLOYED no blob opens
(R339, R354, R367; log 50). -/
def execSessionOpen (ctx : Nat) (blob : KeyBlob) (s : State) : Host.Outcome State Fault Refusal :=
  hostCmd ctx 7 (fun s h =>
    let id := cmdSession h
    if cmdField h 32 4 ≠ 384 ∨ lcState s.fuse ≠ 2 ∨
       !(blob.unwraps && blob.sessionId == id && blob.zeros && blob.serial == s.fuse.serial) then
      failCmd s ctx h 0xC
    else if sessTaken (ctxAt s ctx) id then failCmd s ctx h 8
    else stageCmd s ctx h (.openSess (cmdTag h) h.ring id (cmdField h 12 4) (bitAt (cmdField h 16 1) 0) (cmdNoIrq h))) s

/-- SESSION_CLOSE: further INFERs are refused; the close takes effect at a boundary (R337, R341). -/
def execSessionClose (ctx : Nat) (s : State) : Host.Outcome State Fault Refusal :=
  hostCmd ctx 8 (fun s h =>
    let x := ctxAt s ctx
    match x.sessions.find? (fun t => t.id == cmdSession h) with
    | none => failCmd s ctx h 8
    | some t =>
      if t.closing.isSome then failCmd s ctx h 9
      else
        let s1 := startCmd s ctx h
        let y := ctxAt s1 ctx
        putCtx s1 ctx { y with sessions := y.sessions.map (fun u =>
          if u.id = t.id then { u with closing := some (cmdTag h, h.ring, cmdNoIrq h) } else u) }) s

/-! ### STEP_SYNC, records and reports (R293, R309, R315, R316) -/

/-- The source of a context's step pulses: 1 the host command, else the input (R311). -/
def stepSrc (x : Ctx) : Nat := if bits x.stepCfg 3 2 = 1 then 1 else 0

/-- The context's layout admits microbatches (R309). -/
def admits (s : State) (n : Nat) : Bool :=
  let x := ctxAt s n
  x.st == .active && !x.fenced && !resetPending s n &&
  (match x.layout with
   | none => false
   | some l => l.running && !l.held && !l.stopped)

/-- STEP_SYNC: completes at once, and sets the latch when SRC is 1 and the layout admits (R309, R331; log 42). -/
def execStepSync (ctx : Nat) (s : State) : Host.Outcome State Fault Refusal :=
  hostCmd ctx 9 (fun s h =>
    let x := ctxAt s ctx
    endCmd (if stepSrc x = 1 ∧ admits s ctx = true then putCtx s ctx { x with latch := true } else s) ctx h 0 0 0) s

/-- FAB_RECORD: the record is judged, and adopted where it is newer (R293, R294, R331 to R333). -/
def execFabRecord (ctx : Nat) (rec : SignedRec) (s : State) : Host.Outcome State Fault Refusal :=
  hostCmd ctx 0xC (fun s h =>
    let x := ctxAt s ctx
    let rcd := recordOf rec.bytes
    if cmdField h 16 4 = 0 then endCmd s ctx h 0x11 x.fabEpoch 0
    else
      let t := judgeRecord s 0 rcd rec.sigOk
      let ok := bits x.act.fabId 35 20 == rcd.domain && newer rcd.epoch x.fabEpoch
      endCmd t ctx h (if !recordOk s rcd rec.sigOk then 0x11 else if ok then 0 else 0x12) (ctxAt t ctx).fabEpoch 0) s

/-- LATE_REPORT: completes when its record is written (R316, R331). It waits while the store is full. -/
def execLateReport (ctx : Nat) (s : State) : Host.Outcome State Fault Refusal :=
  hostCmd ctx 0xD (fun s h =>
    let x := ctxAt s ctx
    if 8192 < storeUnits x.store + (bytesRec 6 0 0 0 (lateBytes x)).units then s
    else
      let s1 := sendLate (startCmd s ctx h) ctx true
      putCtx s1 ctx { ctxAt s1 ctx with
        lateComps := (ctxAt s1 ctx).lateComps ++ [comp (cmdTag h) h.ring 0 x.stepNum 0 (cmdNoIrq h)] }) s

end Sys2Proof.Machine
end

