-- ==== Sys2Proof/Machine/Boundary.lean ====
section
/-! DEFINITION. What a step boundary carries out (R214, R215, R281, R306 to R308, R312, R316, R339 to R341, R347, R497) and
the commit of a placement change (R21, R155, R205, R206, R230). -/

namespace Sys2Proof.Machine

/-! ### Action 1: sessions that close (R341) -/

/-- A page of a pool cleared (R341). -/
def clearPage (s : State) (b off : Nat) : State :=
  let h := hbmAt s b
  putHbm s b { h with mem := memClear h.mem (off * 65536) 65536,
                      poisonCw := h.poisonCw.filter (fun w => decide (w < off * 65536 ∨ (off + 1) * 65536 ≤ w)) }

/-- A page released: its copies cleared and its entry taken from the table (R340, R341). -/
def releasePage (s : State) (n page : Nat) (g : Page) : State :=
  let s1 := clearPage s g.basin g.off
  let s2 := match g.mirror with
            | none => s1
            | some m => clearPage s1 m g.moff
  writePage s2 n page none

/-- A session closed at step `m`: its pages released, its key erased, its command completed (R306, R341). -/
def closeSession (s : State) (n m id : Nat) : State :=
  let x := ctxAt s n
  match x.sessions.find? (fun t => t.id == id) with
  | none => s
  | some t =>
    let ps := x.pages.filter (fun e => decide (t.firstPage ≤ e.1) && decide (e.1 < t.firstPage + t.npages))
    let s1 := forEach ps (fun s e => releasePage s n e.1 e.2) s
    let y := ctxAt s1 n
    let z := { y with sessions := y.sessions.filter (fun u => u.id != id) }
    putCtx s1 n (match t.closing with
                 | none => z
                 | some (tag, ring, q) => postComp z (comp tag ring 0 0 m q))

/-- Sessions due to close: taken, with every request that names them completed (R341). -/
def dueCloses (x : Ctx) : List Staged :=
  (x.sessions.filter (fun t => t.closing.isSome && sessionIdle x t.id &&
    !x.mbs.any (fun m => !m.complete && m.reqs.any (fun r => r.session == t.id)))).map (fun t => .closeSess t.id)

/-! ### Action 2: the scale state (R85 to R87, R94) -/

/-- A bank of a core's tensor scale table under a scale state (R85, R86). -/
def bankOf (y : Station) (bank : Nat) (tab : Tab Int) : Tab Int :=
  (List.range 256).filterMap (fun e =>
    let w := nth y.scaleMap e 0
    let v := tabGet tab (w % 4096) 0
    if e ≠ 0 ∧ bitAt w 15 ∧ v ≠ 0 then some (256 * bank + e, v) else none)

/-- A core with one bank written (R86). -/
def withBank (c : Core) (bank : Nat) (tab : Tab Int) : Core :=
  match c.station with
  | none => c
  | some y =>
    { c with scaleTab := if bank = 0 then bankOf y 0 tab ++ c.scaleTab.filter (fun e => decide (256 ≤ e.1))
                         else c.scaleTab.filter (fun e => decide (e.1 < 256)) ++ bankOf y 1 tab }

/-- Cores that hold a station of a context; a core that recomputes a firing keeps that firing's banks (R91). -/
def stationCores (s : State) (n : Nat) : List Nat :=
  (s.cores.filter (fun e => e.2.station.isSome && e.2.replay.isNone && (basinAt s (basinOf e.1)).ctx == some n)).map (·.1)

/-- The scale state of a step written into the bank of every core of a context (R86). -/
def writeBanks (s : State) (n bank : Nat) (tab : Tab Int) : State :=
  forEach (stationCores s n) (fun s k => putCore s k (withBank (coreAt s k) bank tab)) s

/-- Reloads that are due. -/
def dueReloads (l : List Staged) : List (Nat × Nat × Bool) :=
  l.filterMap (fun a =>
    match a with
    | .reload t r q => some (t, r, q)
    | .openSess _ _ _ _ _ _ => none
    | .peer _ _ _ _ _ => none
    | .ports _ _ _ _ => none
    | .rebuilt _ _ _ _ => none
    | .closeSess _ => none)

/-- The scale state made ready for step `m`; a reload from the package wins and restarts the window (R87, R94, R306). -/
def scaleStep (s : State) (n m : Nat) (l : Layout) : State :=
  let x := ctxAt s n
  let rs := dueReloads x.due
  if rs.isEmpty then
    (if x.nextMb = 0 then s else putCtx s n { x with scaleOld := x.scale, scale := x.scaleNext })
  else
    let p := pkgState x l
    let y := { x with scaleOld := x.scale, scale := p, scaleNext := p, amaxHist := [], reloadAt := some m }
    writeBanks (putCtx s n (rs.foldl (fun y r => postComp y (comp r.1 r.2.1 0 m 0 r.2.2)) y)) n (m % 2) p

/-! ### Action 3: peers and ports (R214, R215, R281) -/

/-- A listed peer is bound to a module that runs its part of the replica (R215). -/
def peerFits (s : State) (n : Nat) (peers : Tab Nat) (l : Layout) (w : Nat) : Bool :=
  match peers.find? (fun e => e.1 == bits w 5 0) with
  | none => false
  | some e =>
    match entFor s n e.2 with
    | none => false
    | some i =>
      (match partInfoOf s i with
       | none => false
       | some (_, part, seed, _) => part == bits w 11 6 && seed == l.seed)

/-- Listed peers that do not fit. -/
def unfitPeers (s : State) (n : Nat) (peers : Tab Nat) (l : Layout) : List Nat :=
  (l.peers.filter (fun w => !peerFits s n peers l w)).map (fun w => bits w 5 0)

/-- PEER_UNBOUND for each peer (R215). -/
def peerEvents (s : State) (n : Nat) (ps : List Nat) : State :=
  forEach ps (fun s p => ctxEvent s n evPeerUnbound (maskOf (grantOf s n)) p 0 0) s

/-- The staged bindings applied; ENDPOINT_ID zero unbinds (R333). -/
def bindAll (t : Tab Nat) (l : List Staged) : Tab Nat :=
  l.foldl (fun t a =>
    match a with
    | .peer _ _ p ep _ => if ep = 0 then tabDel t p else tabSet t p ep
    | .openSess _ _ _ _ _ _ => t
    | .reload _ _ _ => t
    | .ports _ _ _ _ => t
    | .rebuilt _ _ _ _ => t
    | .closeSess _ => t) t

/-- Completions of the staged bindings with a status at step `m`. -/
def bindComps (status m : Nat) (l : List Staged) : List Comp :=
  l.filterMap (fun a =>
    match a with
    | .peer t r _ _ q => some (comp t r status m 0 q)
    | .openSess _ _ _ _ _ _ => none
    | .reload _ _ _ => none
    | .ports _ _ _ _ => none
    | .rebuilt _ _ _ _ => none
    | .closeSess _ => none)

/-- Bindings applied at step `m`: the check of R215 refuses a change that leaves a listed peer unfit, except before the
first microbatch, where the check decides on the start instead. -/
def bindStep (s : State) (n m : Nat) (l : Layout) : State :=
  let x := ctxAt s n
  let cs := bindComps 0 m x.due
  if cs.isEmpty then s
  else
    let t := bindAll x.peers x.due
    let bad := if x.nextMb = 0 then [] else unfitPeers s n t l
    if bad.isEmpty then putCtx s n (cs.foldl postComp { x with peers := t })
    else peerEvents (putCtx s n ((bindComps 0x10 m x.due).foldl postComp x)) n bad

/-- The port set applied at step `m` (R281). -/
def portStep (s : State) (n m : Nat) : State :=
  let x := ctxAt s n
  putCtx s n (x.due.foldl (fun x a =>
    match a with
    | .ports t r mask q => postComp { x with portSet := mask } (comp t r 0 m 0 q)
    | .openSess _ _ _ _ _ _ => x
    | .reload _ _ _ => x
    | .peer _ _ _ _ _ => x
    | .rebuilt _ _ _ _ => x
    | .closeSess _ => x) x)

/-! ### Action 4: placement (R21, R155, R205, R206, R230) -/

/-- Hops and die edges of a col path, walked for at most `fuel` hops (R226, R229). -/
def colWalk (gaps : List Nat) : Nat → Nat → Nat → Nat × Nat
  | 0, _, _ => (0, 0)
  | fuel + 1, k, dest =>
    if k = dest then (0, 0)
    else
      match colOut gaps k dest with
      | none => (0, 0)
      | some o =>
        match neighbour k (if o = 0 then .east else if o = 1 then .west else if o = 2 then .north else .south) with
        | none => (0, 0)
        | some j =>
          let r := colWalk gaps fuel j dest
          (r.1 + 1, r.2 + b2n (dieOf j != dieOf k))

/-- The transit bound of a packet of one flit between two cores (R229). -/
def transit (s : State) (a b : Nat) : Nat :=
  let r := colWalk (gapsOf s s.mesh.epoch) 1024 a b
  4 + 3 * r.1 + 2 * r.2

/-- Transit along a list of cores. -/
def pathTransit (s : State) : List Nat → Nat
  | a :: b :: t => transit s a b + pathTransit s (b :: t)
  | _ => 0

/-- The slots of a long path, over a record and its continuations (R205). -/
def longPath : List Nat → Nat → List Nat
  | [], _ => []
  | w :: t, due => (longSlots w).take due ++ (if 6 < due then longPath t (due - 6) else [])

/-- Where a slot runs under a map of changed slots. -/
def coreUnder (s : State) (moved : List (Nat × Nat)) (slot : Nat) : Nat :=
  match moved.find? (fun m => m.1 == slot) with
  | some m => m.2
  | none => (coreOfSlot s slot).getD 0

/-- need and capacity of the RECONV record at the head of a list (R206): the short path runs from the endpoint's feeder to
SHORT_SLOT, the long one through LONG_SLOTS between the same stations (log 32). -/
def reconvNeed (s : State) (moved : List (Nat × Nat)) (ws : List Nat) : Nat × Nat :=
  match ws with
  | [] => (0, 0)
  | w :: _ =>
    let at_ := coreUnder s moved
    let short := bits w 13 0
    let i := inAt (coreAt s ((coreOfSlot s short).getD 0)) (bits w 18 14)
    let src := i.feeder.1
    let long := bits w 159 128 + pathTransit s ((src :: longPath ws (bits w 71 64) ++ [short]).map at_)
    let direct := bits w 127 96 + transit s (at_ src) (at_ short)
    (ceilDiv (long - direct) (max 1 (bits w 63 32)), inCap i)

/-- RECONV records that name a slot, each with its continuations. -/
def reconvOf : List Nat → Nat → List (List Nat)
  | [], _ => []
  | w :: t, slot =>
    (if bits w 63 32 ≠ 0 ∧ (bits w 13 0 = slot ∨ (longPath (w :: t) (bits w 71 64)).contains slot) then [w :: t] else []) ++
      reconvOf t slot

/-- Every RECONV record of a layout, each with its continuations. -/
def reconvAll : List Nat → List (List Nat)
  | [] => []
  | w :: t => (if bits w 63 32 ≠ 0 then [w :: t] else []) ++ reconvAll t

/-- A RECONV record names a slot that moves. -/
def reconvMoved (moved : List (Nat × Nat)) (ws : List Nat) : Bool :=
  moved.any (fun m => bits (ws.headD 0) 13 0 == m.1 || (longPath ws (bits (ws.headD 0) 71 64)).contains m.1)

/-- RECONV_THROTTLE, once for each record that a re-placement touches and whose endpoint's capacity falls short of need: the slot,
need, C and the predicted rate C / need with 32 fractional bits (R206, R346; log 149). -/
def reconvWarn (s : State) (n : Nat) (l : Layout) (moved : List (Nat × Nat)) : State :=
  forEach ((reconvAll l.reconv).filter (reconvMoved moved)) (fun s ws =>
    let r := reconvNeed s moved ws
    let slot := bits (ws.headD 0) 13 0
    if r.2 < r.1 then
      postEvent s n evReconvThrottle (2 ^ (slot / 1024 % 16)) slot noFld noFld noFld noFld r.1 r.2 (r.2 * 2 ^ 32 / max 1 r.1)
    else s) s

/-- A station may leave its core: it has run every microbatch admitted and nothing of it is in flight (R22). -/
def stationDry (s : State) (n k : Nat) : Bool :=
  let c := coreAt s k
  ranTo c (ctxAt s n).nextMb && unitsIdle c

/-- A move that commits while the station still runs on its old core (R155). -/
def isStagedMove (s : State) (m : Nat × Nat × Nat) : Bool :=
  (coreAt s m.2.1).slot == some m.1 && (coreAt s m.2.1).st == .inUse && !(coreAt s m.2.1).holding

/-- The placement changes of a context. -/
def changesOf (s : State) (n : Nat) : List (Nat × Nat × Nat) := (s.mesh.staged.filter (fun c => c.ctx == n)).flatMap (·.moves)

/-- A placement change may commit: the old bank is retired and no flip is under way (R21). -/
def mayCommit (s : State) : Bool := !s.mesh.oldBank && !s.mesh.flipping

/-- A core that takes a slot over: set up for its station, with no task slot running, it holds what reaches its CARRY pages
until the copy; fills that wait for a copy on hold are asked for (R153, R155, R404). -/
def takeOver (s : State) (n slot j f : Nat) : State :=
  match (ctxAt s n).layout with
  | none => s
  | some l =>
    match recOfSlot s l slot with
    | none => s
    | some i =>
      match l.stations[i]? with
      | none => s
      | some y =>
        let s1 := putCore s j { stationCore s n j i l y f false (coreAt s j) with slots := [], holding := true }
        let asked : List Refill := (waitPages s n (basinOf j) y).map (fun p =>
          { core := j, page := p, reason := 0, cleanMb := firstMb y f })
        { s1 with heal := { s1.heal with refills := s1.heal.refills.filter (fun r => r.core != j) ++ asked } }

/-- One slot's new place written in the staged bank; for a station that still runs on its old core, the new core holds
what reaches it until the copy (R155, R230), and the map of a fault move catches up (R397). -/
def commitMove (s : State) (n : Nat) (m : Nat × Nat × Nat) : State :=
  let slot := m.1
  let k := m.2.1
  let j := m.2.2
  if isStagedMove s m then
    (if (coreAt s j).st = .spare ∧ (coreAt s j).held = false then
       let s1 := writePlace s (!s.mesh.epoch) slot (some j)
       let s2 := takeOver s1 n slot j (coreAt s1 k).firing
       let s3 := putCore s2 k { coreAt s2 k with stopAt := some (ctxAt s n).nextMb }
       { s3 with mesh := { s3.mesh with moves := s3.mesh.moves ++
           [{ slot := slot, from_ := k, to_ := j, fault := false, test := true }] } }
     else s)
  else if (coreAt s j).slot = some slot then writePlace s (!s.mesh.epoch) slot (some j)
  else s

/-- Action 4: the context's staged changes and the staged tables commit and the table epoch flips (R21, R230). -/
def placeStep (s : State) (n : Nat) (l : Layout) : State :=
  let ms := changesOf s n
  if mayCommit s ∧ (ms ≠ [] ∨ s.mesh.gaps0 ≠ s.mesh.gaps1) then
    let s1 := forEach ms (fun s m => commitMove s n m) s
    let s2 := { s1 with mesh := { s1.mesh with
      epoch := !s1.mesh.epoch, oldBank := true, flipping := true, flipped := [], staged := s1.mesh.staged.filter (fun c => c.ctx != n) } }
    reconvWarn s2 n l (ms.map (fun e => (e.1, e.2.2)))
  else s

/-! ### Action 5: sessions that open, pages rebuilt (R339, R340, R411) -/

/-- A basin that can give a page, and with MIRROR its partner another (R339). -/
def givesPage (s : State) (x : Ctx) (mirror : Bool) (b : Nat) : Bool :=
  !(freePages x b).isEmpty && !(hbmAt s b).withdrawn &&
  (!mirror || (!(freePages x (partner b)).isEmpty && !(hbmAt s (partner b)).withdrawn))

/-- `k` pages from number `page` on, taken in turn from the basins, each at its lowest free pool page (R339). -/
def allocPages (s : State) (bs : List Nat) (mirror : Bool) : Nat → Nat → Nat → Ctx → Option (List (Nat × Page))
  | 0, _, _, _ => some []
  | k + 1, page, turn, x =>
    match ((List.range bs.length).map (fun i => (turn + i) % bs.length)).find? (fun i => givesPage s x mirror (nth bs i 0)) with
    | none => none
    | some i =>
      let b := nth bs i 0
      let g : Page := { basin := b, mirror := if mirror then some (partner b) else none, off := (freePages x b).headD 0,
                        moff := if mirror then (freePages x (partner b)).headD 0 else 0 }
      (allocPages s bs mirror k (page + 1) (i + 1) { x with pages := tabSet x.pages page g }).map (fun l => (page, g) :: l)

/-- The lowest page number from which `k` numbers are free (R339). -/
def firstNumber (x : Ctx) (total k : Nat) : Option Nat :=
  (List.range (total + 1 - k)).find? (fun p => x.pages.all (fun e => decide (e.1 < p) || decide (p + k ≤ e.1)))

/-- A session opened at step `m`, with its pages or with the status that refuses it (R339). -/
def openSession (s : State) (n m tag ring id pages : Nat) (mirror noIrq : Bool) : State :=
  let x := ctxAt s n
  let bs := grantOf s n
  if mirror && decide (0 < pages) && bs.any (fun b => !bs.contains (partner b)) then
    failWith s n tag ring 0xB noIrq
  else
    match firstNumber x (poolPages x.act * bs.length) pages with
    | none => failWith s n tag ring 0xA noIrq
    | some p =>
      match allocPages s bs mirror pages p 0 x with
      | none => failWith s n tag ring 0xA noIrq
      | some l =>
        let s1 := forEach l (fun s e => writePage s n e.1 (some e.2)) s
        let t : Sess := { id := id, keyHeld := true, mirror := mirror, firstPage := p, npages := pages, claimEnd := 0,
                          closing := none, lost := false, rebuilding := false }
        complete (putCtx s1 n { ctxAt s1 n with sessions := (ctxAt s1 n).sessions ++ [t] }) n (comp tag ring 0 p m noIrq)

/-- A rebuilt page's entry changed; where the chosen stack has been withdrawn the rebuild is chosen again (R411, R417). -/
def rebuiltPage (s : State) (n id page b off : Nat) : State :=
  let x := ctxAt s n
  match x.pages.find? (fun e => e.1 == page) with
  | none => s
  | some e =>
    if (hbmAt s b).withdrawn then s
    else
      let s1 := bumpTst (writePage s n page (some { e.2 with mirror := some b, moff := off })) 22 1
      let y := ctxAt s1 n
      putCtx s1 n { y with sessions := y.sessions.map (fun t => if t.id = id then { t with rebuilding := false } else t) }

/-- Action 5 for one staged entry. -/
def openStep (n m : Nat) (s : State) : Staged → State
  | .openSess tag ring id pages mirror q => openSession s n m tag ring id pages mirror q
  | .rebuilt id page b off => rebuiltPage s n id page b off
  | .reload _ _ _ => s
  | .peer _ _ _ _ _ => s
  | .ports _ _ _ _ => s
  | .closeSess _ => s

/-! ### Action 6: step reports (R93, R312, R316, R347, R497) -/

/-- A watch record as it is written (R347). -/
def watchBytes (w : Watch) : List Byte :=
  leBytes 4 w.step ++
    leBytes 2 (w.tensor % 4096 + b2n w.clamped * 4096 + b2n w.void * 8192 + b2n w.amax.isSome * 16384) ++
    leBytes 1 (wrapInt 8 w.scale) ++ leBytes 1 0 ++ leBytes 2 (wrapInt 16 (w.amax.getD 0)) ++
    leBytes 2 (min w.anchor 65535) ++ leBytes 4 (min w.satNarrow (2 ^ 32 - 1)) ++ leBytes 4 (min w.satEsf (2 ^ 32 - 1)) ++
    leBytes 4 (min w.invalid (2 ^ 32 - 1)) ++ leBytes 8 0

/-- Records in ascending tensor ID. -/
def insertWatch (w : Watch) : List Watch → List Watch
  | [] => [w]
  | v :: t => if w.tensor ≤ v.tensor then w :: v :: t else v :: insertWatch w t

/-- Every station of a layout has completed its firings of a microbatch: those on cores, and section stations swapped out
(R197, R211, R338). -/
def mbRan (s : State) (n : Nat) (l : Layout) (mb : Nat) : Bool :=
  (stationCores s n).all (fun k => ranTo (coreAt s k) (mb + 1)) &&
  (numbered l).all (fun p => resident s l p.1 || p.2.firePerMb == 0 || decide ((mb + 1) * p.2.firePerMb ≤ tabGet l.fired p.1 0)) &&
  !s.mesh.moves.any (fun m => (basinAt s (m.slot / 1024)).ctx == some n && !ranTo (coreAt s m.from_) (mb + 1))

/-- Every firing of a step has completed on every core of the layout (R89). -/
def stepRan (s : State) (n : Nat) (l : Layout) (k : Nat) : Bool :=
  ((ctxAt s n).mbs.filter (fun m => m.admitted && m.step == k)).all (fun m => m.aborted || mbRan s n l m.num)

/-- TENSOR_SAT for a step in which some tensor counted (R93, R344). -/
def satReport (s : State) (n step : Nat) : State :=
  let l := ((ctxAt s n).watch.filter (fun w => w.step == step && (w.satNarrow + w.satEsf + w.anchor != 0))).foldr insertWatch []
  if l.isEmpty then s
  else postMsg s n (bytesRec 2 (min l.length 65535) (min l.length 32) (maskOf (grantOf s n)) ((l.take 32).flatMap watchBytes))

/-- The steps that have run and have not been reported, at the boundary that opens step `m` (R93; log 82). -/
def satReports (s : State) (n m : Nat) (l : Layout) : State :=
  let x := ctxAt s n
  let ran := ((List.range (m - x.satNext)).map (· + x.satNext)).takeWhile (stepRan s n l)
  let s1 := forEach ran (fun s k => satReport s n k) s
  putCtx s1 n { ctxAt s1 n with satNext := x.satNext + ran.length }

/-- The TENSOR_WATCH record of a context at step `m` (R497). -/
def watchReport (s : State) (n m : Nat) : State :=
  let x := ctxAt s n
  let l := ((x.watch.filter (fun w => match x.closed with
                                      | none => false
                                      | some c => decide (w.step ≤ c))).foldr insertWatch []).take 255
  closeRec s 4 n (leBytes 8 m ++ leBytes 1 n ++ leBytes 2 l.length ++ leBytes 5 0 ++ l.flatMap watchBytes) true

/-- Action 6: the step number advances, the configuration written takes effect, the reports of the boundary fall due (R93,
R304, R311, R312, R316, R497). -/
def stepStep (s : State) (n m cause t0 : Nat) (l : Layout) : State :=
  let x := ctxAt s n
  let y := { x with
    stepNum := m, inStep := 0, stepCfg := x.stepCfgNew, due := [], boundary := none,
    stepWait := (x.stepWait + (s.sup.ticks - t0)) % 2 ^ 64 }
  let s1 := putCtx s n y
  let s2 := satReports s1 n m l
  let s3 := if bitAt y.stepCfg 4 then postMsg s2 n { plainRec 5 cause x.nextMb (maskOf (grantOf s n)) with step := m } else s2
  let every := bits y.stepCfg 27 16
  let s4 := if every ≠ 0 ∧ m % max 1 every = 0 then sendLate s3 n false else s3
  if m % 64 = 0 then watchReport s4 n m else s4

/-! ### The boundary (R306 to R308) -/

/-- The number of the step that the next boundary opens: 0 before the first microbatch (R304). -/
def nextStep (x : Ctx) : Nat := if x.nextMb = 0 then 0 else x.stepNum + 1

/-- The boundary that opens step `m` cannot complete yet: a basin of the layout holds a standing wedge, the step two
before has not closed, or a station that moves has not run empty (R22, R306, R308). -/
def boundaryWaits (s : State) (n m : Nat) : Bool :=
  let x := ctxAt s n
  (grantOf s n).any (fun b => (basinAt s b).wedge) ||
  (decide (2 ≤ m) && (match x.closed with
                      | none => true
                      | some c => decide (c + 2 < m))) ||
  (mayCommit s && (changesOf s n).any (fun mv => isStagedMove s mv && !stationDry s n mv.2.1))

/-- A layout that cannot be placed any more is stopped, and its requests complete with LAYOUT_UNPLACEABLE (R35). -/
def stopUnplaceable (s : State) (n : Nat) : State :=
  let s1 := abortReloads (abortReqs s n 0x19) n
  let x := ctxAt s1 n
  putCtx s1 n { x with layout := x.layout.map (fun l => { l with stopped := true, running := false }) }

/-- A layout whose peers do not fit before its first microbatch is not started: its load completes with PEER_UNBOUND
(R215). -/
def refuseStart (s : State) (n : Nat) (bad : List Nat) : State :=
  let s1 := peerEvents s n bad
  let x := ctxAt s1 n
  let s2 := putCtx s1 n { x with due := [], boundary := none, owed := false, loadPending := none }
  match x.loadPending with
  | none => s2
  | some (t, r, q) => failWith s2 n t r 0x10 q

/-- Actions 1 to 6 of a boundary that may complete (R306). The answer tells whether the first microbatch of the new step
may be admitted. -/
def openBoundary (s : State) (n cause t0 : Nat) (l : Layout) : State × Bool :=
  let m := nextStep (ctxAt s n)
  if goodOf s n < l.slots then (stopUnplaceable s n, false)
  else
    let closes := (ctxAt s n).due.filterMap (fun a =>
      match a with
      | .closeSess id => some id
      | .openSess _ _ _ _ _ _ => none
      | .reload _ _ _ => none
      | .peer _ _ _ _ _ => none
      | .ports _ _ _ _ => none
      | .rebuilt _ _ _ _ => none)
    let s1 := forEach closes (fun s id => closeSession s n m id) s
    let s2 := scaleStep s1 n m l
    let s3 := portStep (bindStep s2 n m l) n m
    let s4 := placeStep s3 n l
    let s5 := (ctxAt s4 n).due.foldl (openStep n m) s4
    let x := ctxAt s5 n
    let bad := if x.nextMb = 0 then unfitPeers s5 n x.peers l else []
    if bad.isEmpty then (stepStep s5 n m cause t0 l, true) else (refuseStart s5 n bad, false)

end Sys2Proof.Machine
end

