-- ==== Sys2Proof/Machine/Micro.lean ====
section
/-! DEFINITION. Microbatches and steps (R304 to R310, R335, R336, R338) and the closing of steps for the scale state (R86,
R88 to R90, R92). -/

namespace Sys2Proof.Machine

/-! ### STEP_SYNC (R309) -/

/-- STEP_SYNC_PULSE: a recognised pulse sets the latch of every context whose source is the input and whose layout admits
microbatches (R309). -/
def execStepSyncPulse (s : State) : Host.Outcome State Fault Refusal :=
  .next (forEach (List.range 16) (fun s n =>
    if admits s n ∧ stepSrc (ctxAt s n) = 0 then putCtx s n { ctxAt s n with latch := true } else s) s)

/-! ### The decision before an admission (R308, R310) -/

/-- What is decided before an admission: the cause of a boundary, if one falls, and the context with the latch read and the
decision counted (R308, R310, R313). Causes are the codes of R344: 0 PROGRAMMED, 1 ADVANCED, 2 HELD, 3 MISS, 4 FORCED. -/
def decide310 (x : Ctx) (l : Layout) : Option Nat × Ctx :=
  let y := { x with latch := false }
  let c := x.inStep
  let p := max 1 (l.stepMb - 8)
  let adv := bitAt x.stepCfg 0
  let hold := bitAt x.stepCfg 1
  let rest (z : Ctx) : Option Nat × Ctx :=
    if c = l.stepMb ∧ hold = false then (some 0, z)
    else if c = l.stepMb + 8 then (some 3, { z with miss := (z.miss + 1) % 2 ^ 64 })
    else (none, z)
  if x.forced then (some 4, y)
  else if x.latch && decide (p ≤ c) && decide (c < l.stepMb) && adv then
    (some 1, { y with advanced := (y.advanced + 1) % 2 ^ 64 })
  else if x.latch && decide (l.stepMb ≤ c) && hold then (some 2, { y with heldCnt := (y.heldCnt + 1) % 2 ^ 64 })
  else if x.latch then rest { y with ignored := (y.ignored + 1) % 2 ^ 64 }
  else rest y

/-! ### Admission (R335, R336) -/

/-- The record of one token position (R335). -/
def inputRec (x : Ctx) (m : Mb) (p : Nat) : List Byte :=
  let len := 16 + 16 * inUnits x.act
  match m.reqs.find? (fun r => decide (r.pos ≤ p) && decide (p < r.pos + r.tokens)) with
  | none => List.replicate len 0
  | some r =>
    let i := p - r.pos
    fitBytes len (leBytes 4 r.session ++ leBytes 4 (r.sessPos + i) ++ leBytes 3 r.firstPage ++
      leBytes 1 (1 + b2n (i == 0) * 2 + b2n (i + 1 == r.tokens) * 4) ++ leBytes 4 0 ++
      (r.inData.drop (i * 16 * inUnits x.act)).take (16 * inUnits x.act))

/-- The input records of a microbatch written into its buffer (R335). -/
def writeInputs (s : State) (n : Nat) (l : Layout) (m : Mb) : State :=
  let x := ctxAt s n
  let j := m.num % mbRing x.act
  hbmWrite s (ioBasin x.act) (inOff x.act + j * l.mbTokens * (16 + 16 * inUnits x.act))
    ((List.range l.mbTokens).flatMap (inputRec x m))

/-- A microbatch's buffer is free: the one that last used it is complete (R336). -/
def bufferFree (x : Ctx) : Bool :=
  x.mbs.all (fun m => m.complete || !m.admitted || decide (x.nextMb < m.num + mbRing x.act))

/-- Microbatches that nothing asks for any more are forgotten. -/
def pruneMbs (x : Ctx) : List Mb :=
  x.mbs.filter (fun m => !(m.complete && decide (m.num + mbRing x.act ≤ x.nextMb) &&
    (match x.closed with
     | none => false
     | some c => decide (m.step ≤ c))))

/-- A microbatch is admitted: its inputs are written and its firings may begin; a load that waited for it completes (R189,
R304, R331, R335, R336). -/
def admitMb (s : State) (n : Nat) (l : Layout) : State :=
  let x := ctxAt s n
  let m := { mbAt x x.nextMb with admitted := true, closed := true, step := x.stepNum }
  let s1 := writeInputs s n l m
  let y := { x with
    mbs := putMb (pruneMbs x) m, nextMb := x.nextMb + 1, mbNum := (x.mbNum + 1) % 2 ^ 64, inStep := x.inStep + 1, forced := false,
    owed := false, loadPending := none, layout := x.layout.map (fun l => { l with running := true }) }
  wakeCtx (putCtx s1 n (match x.loadPending with
                        | none => y
                        | some (t, r, q) => postComp y (comp t r 0 m.num 0 q))) n

/-- An action of R306 is staged for the context, so that a microbatch without a request is admitted (R336). -/
def actionStaged (s : State) (n : Nat) : Bool :=
  let x := ctxAt s n
  !x.staged.isEmpty || !(dueCloses x).isEmpty || !(changesOf s n).isEmpty || x.owed

/-- The open microbatch is due (R336): closed by FLUSH, by being full or by a request that does not fit; past its fill time;
or empty with an action staged. -/
def mbDue (s : State) (n : Nat) (timeUp : Bool) : Bool :=
  let x := ctxAt s n
  let m := mbAt x x.nextMb
  m.closed || (if m.reqs.isEmpty then actionStaged s n else timeUp || x.mbCfg % 65536 == 0)

/-- The context may admit: no stop, fence, hold, reset or whole drain, its buffer free, and no fill that its start waits for
(R207, R296, R336, R404, R420, R422). -/
def mayAdmit (s : State) (n : Nat) (l : Layout) : Bool :=
  let x := ctxAt s n
  x.st == .active && !x.fenced && !resetPending s n && !l.held && !l.stopped && bufferFree x &&
  !s.mesh.drains.any (fun d => d.ctx == n && d.why != .swap) &&
  !(x.forced && s.heal.refills.any (fun r => r.reason == 0 && (basinAt s (basinOf r.core)).ctx == some n))

/-- A boundary carried out as far as it can go: it waits, or the first microbatch of the new step follows (R306). -/
def runBoundary (s : State) (n cause t0 : Nat) (l : Layout) : State :=
  if boundaryWaits s n (nextStep (ctxAt s n)) then s
  else
    let r := openBoundary s n cause t0 l
    if r.2 then admitMb r.1 n l else r.1

/-- An admission: the decision of R310 where none is pending, the boundary it calls for, and the microbatch. -/
def admitNow (s : State) (n : Nat) (l : Layout) : State :=
  let x := ctxAt s n
  match x.boundary with
  | some (cause, t0) => runBoundary s n cause t0 l
  | none =>
    match decide310 x l with
    | (none, y) => admitMb (putCtx s n y) n l
    | (some cause, y) =>
      let z := { y with boundary := some (cause, s.sup.ticks), due := dueCloses y ++ y.staged, staged := [] }
      runBoundary (putCtx s n z) n cause s.sup.ticks l

/-- MICROBATCH_ADMIT: the open microbatch is admitted, after the step boundary that falls before it (R304 to R310, R336). -/
def execMicrobatchAdmit (ctx : Nat) (timeUp : Bool) (s : State) : Host.Outcome State Fault Refusal :=
  runUnit ctx 16 (fun s =>
    match (ctxAt s ctx).layout with
    | none => s
    | some l =>
      if mayAdmit s ctx l ∧ ((ctxAt s ctx).boundary.isSome ∨ mbDue s ctx timeUp = true) then admitNow s ctx l else s) s

/-! ### Completion (R204, R338) -/

/-- The output bytes of a request and whether one was read with poison (R335, R338). -/
def reqOutput (s : State) (n : Nat) (l : Layout) (mb : Nat) (r : Req) : List Byte × Bool :=
  let x := ctxAt s n
  let j := mb % mbRing x.act
  let o := hbmRead s (ioBasin x.act) (outOff x.act + (j * l.mbTokens + r.pos) * 16 * outUnits x.act)
    (r.tokens * 16 * outUnits x.act)
  (o.1, o.2 || ((hbmAt s (ioBasin x.act)).withdrawn && outUnits x.act != 0))

/-- Drop entries of a microbatch that name a token of a request (R204). -/
def dropsOf (es : List Nat) (r : Req) : Nat :=
  (es.filter (fun e => decide (r.pos ≤ e % 65536) && decide (e % 65536 < r.pos + r.tokens))).length

/-- One request answered: its outputs leave under its session key, then its record (R338); one of a lost session completes
without (R341). -/
def answerReq (l : Layout) (n mb : Nat) (es : List Nat) (s : State) (r : Req) : State :=
  let o := reqOutput s n l mb r
  let q := { r with drops := dropsOf es r }
  match r.aborted with
  | some st => putCtx s n (endReqs (ctxAt s n) [(mb, q)] st)
  | none =>
    let st := if o.2 then 6 else 0
    putCtx (emit s (.outputs n r.outAddr st o.1)) n (endReqs (ctxAt s n) [(mb, q)] st)

/-- Requests in position order (R338). -/
def insertReq (r : Req) : List Req → List Req
  | [] => [r]
  | q :: t => if r.pos ≤ q.pos then r :: q :: t else q :: insertReq r t

/-- TOKEN_DROP of a microbatch with dropped choices (R204, R344). -/
def dropReport (s : State) (n mb : Nat) (all : List Nat) : State :=
  let es := (all.filter (fun e => decide (e < 2 ^ 64))).take 120
  if all.isEmpty then s
  else postMsg s n (bytesRec 3 (es.length + min all.length 65535 * 65536) mb (maskOf (grantOf s n)) (es.flatMap (leBytes 8)))

/-- A microbatch that every station has run is completed (R338). -/
def completeMb (s : State) (n : Nat) (l : Layout) (m : Mb) : State :=
  let all := ((ctxAt s n).drops.filter (fun d => d.1 == m.num)).map (·.2)
  let s1 := (m.reqs.foldr insertReq []).foldl (answerReq l n m.num all) s
  let x := ctxAt s1 n
  let y := { x with mbs := x.mbs.map (fun g => if g.num = m.num then { g with complete := true, reqs := [] } else g),
                    drops := x.drops.filter (fun d => d.1 != m.num) }
  dropReport (putCtx s1 n y) n m.num all

/-- MICROBATCH_COMPLETE: the first microbatch that every station has run completes (R338). -/
def execMicrobatchComplete (ctx : Nat) (s : State) : Host.Outcome State Fault Refusal :=
  runUnit ctx 16 (fun s =>
    let x := ctxAt s ctx
    match x.layout, x.mbs.find? (fun m => m.admitted && !m.complete) with
    | some l, some m => if mbRan s ctx l m.num ∧ x.st = .active then completeMb s ctx l m else s
    | _, _ => s) s

/-! ### Closing a step (R86, R88 to R90, R92) -/

/-- The top exponent of a format code (R89). -/
def topExp (fmt : Nat) : Int :=
  match fmt with
  | 0 => 6
  | 1 => 8
  | 2 => 15
  | 3 => 127
  | 4 => 15
  | 5 => 30
  | _ => 127

/-- The last L steps up to `n` that are not void, none before a reload (R89, R90, R94). -/
def windowSteps (x : Ctx) (l : Layout) (n : Nat) : List Nat :=
  (((List.range (min (n + 1) (l.winL + x.voids.length))).map (fun i => n - i)).filter (fun k =>
    !x.voids.contains k && decide (x.reloadAt.getD 0 ≤ k))).take l.winL

/-- The scale of a tracked tensor for step n + 2, and whether it was clamped (R89). -/
def nextScale (x : Ctx) (l : Layout) (n : Nat) (ent : Nat) : Int × Bool :=
  let t := ent % 4096
  let top := topExp (bits ent 26 24)
  let es := (x.amaxHist.filter (fun a => a.2.1 == t && (windowSteps x l n).contains a.1)).map (·.2.2)
  let w := x.watch.find? (fun w => w.step == n && w.tensor == t)
  match es with
  | [] => (tabGet x.scale t 0, false)
  | e :: r =>
    let f := r.foldl max e + 1 - top + l.headroom
    let v := match w with
             | none => f
             | some w =>
               (match w.amax with
                | none => f
                | some a => if w.satNarrow ≠ 0 ∧ x.voids.contains n = false ∧ x.reloadAt.getD 0 ≤ n then max f (a + 2 - top) else f)
    (max (-128) (min 127 v), decide (v < -128) || decide (127 < v))

/-- A context with the scale state for step n + 2 (R89); FROZEN keeps it (R87). -/
def trackScale (x : Ctx) (l : Layout) (n : Nat) : Ctx :=
  if l.mode = 0 then x
  else
    l.scaleEnt.foldl (fun y ent =>
      if !bitAt ent 16 then y
      else
        let r := nextScale x l n ent
        let t := ent % 4096
        { y with
          scaleNext := tabSet y.scaleNext t r.1,
          watch := if r.2 then (watchAdd y.watch n t (tabGet x.scaleOld t 0) none 0 0 0 0).map (fun w =>
                     if w.step = n ∧ w.tensor = t then { w with clamped := true } else w)
                   else y.watch }) { x with scaleNext := x.scale }

/-- The watch records of a step that closes: one for every tensor that the layout lists or that a conversion named, with the scale
it had; the observations of a void step are discarded (R90, R92; log 150). -/
def closedWatch (x : Ctx) (l : Layout) (k : Nat) : List Watch :=
  let void := x.voids.contains k
  (l.scaleEnt.foldl (fun w ent => watchAdd w k (ent % 4096) (tabGet x.scaleOld (ent % 4096) 0) none 0 0 0 0) x.watch).map (fun w =>
    if w.step = k then { w with void := void, amax := if void then none else w.amax } else w)

/-- A step closes: its observations are merged, the scale for step n + 2 is computed and written into the banks, and the
watch records of the last four completed steps are kept (R86, R88 to R90, R92). -/
def closeStep (s : State) (n : Nat) (l : Layout) (k : Nat) : State :=
  let x := ctxAt s n
  let void := x.voids.contains k
  let obs := (x.watch.filter (fun w => w.step == k && !void)).filterMap (fun w => w.amax.map (fun a => (k, w.tensor, a)))
  let y := { x with
    watch := (closedWatch x l k).filter (fun w => decide (k < w.step + 4)),
    amaxHist := (x.amaxHist ++ obs).filter (fun a => decide (k < a.1 + l.winL + x.voids.length)) }
  let z := { trackScale y l k with closed := some k }
  writeBanks (putCtx s n z) n (k % 2) z.scaleNext

/-- SCALE_CLOSE: the step after the last closed one closes, once the boundary behind it has opened and every firing of it
has completed (R89). -/
def execScaleClose (ctx : Nat) (s : State) : Host.Outcome State Fault Refusal :=
  runUnit ctx 16 (fun s =>
    let x := ctxAt s ctx
    let k := match x.closed with
             | none => 0
             | some c => c + 1
    match x.layout with
    | none => s
    | some l => if k < x.stepNum ∧ stepRan s ctx l k = true ∧ stopped s ctx = false then closeStep s ctx l k else s) s

end Sys2Proof.Machine
end

