-- ==== Sys2Proof/Machine/Moves.lean ====
section
/-! DEFINITION. Retirement of cores and dies (R26, R30, R379, R384, R392 to R400, R461): suspect notices, the die path and
its fall-back, fault moves, forwarding, and the copies that end a move (R155, R178). -/

namespace Sys2Proof.Machine

/-! ### Windows and notices (R391, R392) -/

/-- A SUSPECT notice's entry (R392). -/
def noticeEntry (first last slot flags firings : Nat) : List Byte :=
  leBytes 8 first ++ leBytes 8 last ++ leBytes 2 slot ++ leBytes 1 flags ++ leBytes 1 0 ++ leBytes 4 (min firings (2 ^ 32 - 1)) ++
    leBytes 8 0

/-- A suspect notice for core `k` to a context (R344, R392). -/
def noticeTo (s : State) (n k reason : Nat) (es : List (List Byte)) : State :=
  if es.isEmpty then s
  else postMsg s n (bytesRec 9 (reason % 256 + es.length % 256 * 256) (k + dieOf k * 65536) (2 ^ basinOf k) es.flatten)

/-- The suspect notices for what a core has run since it was last found clean, to the contexts whose stations it ran (R389,
R391, R392). -/
def noticeFor (s : State) (k reason flags : Nat) : State :=
  let w := (coreAt s k).window.reverse
  forEach (List.range 16) (fun s n =>
    noticeTo s n k reason ((w.filter (fun e => e.ctx == n)).map (fun e => noticeEntry e.first e.last e.slot flags e.firings))) s

/-- A core found clean at a microbatch: its window begins there (R391). -/
def cleanAt (c : Core) (m : Nat) : Core :=
  match c.window with
  | [] => c
  | h :: _ =>
    { c with window := [{ h with first := min h.last (max h.first m),
                                 firings := if c.station.isSome then c.firing - m * firesPerMb c else h.firings }] }

/-! ### Retirement of a core (R25, R30, R384) -/

/-- CORE_RETIRED: a core is FENCED, its event is raised and its ledger record asked for (R30, R384, R415). -/
def retireCore (s : State) (k reason : Nat) (cmd : Option (Nat × Nat × Nat × Bool × Nat)) : State :=
  let s1 := putCore s k { coreAt s k with st := .fenced }
  let s2 := bumpTst (postEvent s1 (ownerOf s1 (basinOf k)) evCoreRetired (2 ^ basinOf k) 0xFFFF noFld noFld noFld k k reason (goodAll s1)) 18 1
  evalReplaceAll (askLedger s2 1 reason k 0 cmd)

/-! ### Checks given up (R390, R417) -/

/-- A check ends: its log is cleared, its checker and third core are cleared and may be placed again (R156, R385, R390). -/
def dropCheck (s : State) (c : Check) : State :=
  let free (s : State) (k : Nat) : State := putCore s k { clearedCore (coreAt s k) with window := (coreAt s k).window }
  let s1 := free { s with heal := { s.heal with checks := s.heal.checks.erase c } } c.checker
  let s2 := match c.third with
            | none => s1
            | some j => free s1 j
  putCore s2 c.core { coreAt s2 c.core with check := none }

/-- A check abandoned and counted (R386, R390, R417). -/
def abandonCheck (s : State) (c : Check) : State := bumpTst (dropCheck s c) 11 1

/-! ### The die path (R379, R393 to R400) -/

/-- The cores that a path concerns. -/
def pathSites (p : DiePath) : List Nat :=
  match p.core with
  | some k => [k]
  | none => coresOfDie p.die

/-- The IN_USE cores of a path (R393 step 1). -/
def pathCores (s : State) (p : DiePath) : List Nat := (pathSites p).filter (fun k => (coreAt s k).st == .inUse)

/-- The SPARE cores that the stations of a path may take: outside it, granted to the context, in no check and no staged move
(R385, R393, R395). -/
def pathSpares (s : State) (p : DiePath) : List Nat :=
  match p.ctx with
  | none => []
  | some n => ((grantOf s n).flatMap coresOfBasin).filter (fun j =>
      (coreAt s j).st == .spare && !(coreAt s j).reserved && !(coreAt s j).held && !(pathSites p).contains j)

/-- The needs of the other paths of the same context that are not fenced yet come first (R397). -/
def otherNeeds (s : State) (p : DiePath) : Nat :=
  sumOf ((s.heal.paths.filter (fun q => q != p && q.ctx == p.ctx && q.begun && !q.margin)).map (fun q => (pathCores s q).length))

/-- Too few cores are available for a path (R393 step 1). -/
def pathShort (s : State) (p : DiePath) : Bool := decide ((pathSpares s p).length < (pathCores s p).length + otherNeeds s p)

/-- The margin step after the one in force, as DETAIL holds it (R399). -/
def nextMargin (d : Nat) : Option Nat :=
  match d with
  | 0 => some 1
  | 1 => some 2
  | 2 => some 3
  | 3 => some 7
  | 7 => some 11
  | _ => none

/-- The core clock in MHz of a DETAIL (R27, R399). -/
def marginMhz (d : Nat) : Nat := 1000 - 50 * bits d 3 2

/-- The fall-back applies: spares are short, FALLBACK_EN is 1, a whole die is suspect, no RETIRE asks for it, and a step is
left (R399, R400). -/
def pathFallsBack (s : State) (p : DiePath) : Bool :=
  pathShort s p && bitAt s.tst.fenceCfg 16 && p.core.isNone && p.cmd.isNone && (nextMargin (dieAt s p.die).margin).isSome

/-- A path replaced or taken out. -/
def putPath (s : State) (p : DiePath) (q : Option DiePath) : State :=
  { s with heal := { s.heal with paths := s.heal.paths.flatMap (fun r => if r = p then q.toList else [r]) } }

/-- A staged move for a test is withdrawn; its core comes up again at the next sweep step (R417). -/
def withdrawMove (s : State) (m : Nat × Nat × Nat) : State :=
  let k := m.2.1
  let j := m.2.2
  let s1 := putCore s j { coreAt s j with reserved := false }
  if (coreAt s k).suspect.isSome then s1
  else putBasin s1 (basinOf k) { basinAt s1 (basinOf k) with sweepPos := (coresOfBasin (basinOf k)).findIdx (· == k) }

/-- The staged moves of a context for tests are withdrawn when a path begins (R417). -/
def withdrawTests (s : State) (n : Nat) : State :=
  let ms := (changesOf s n).filter (isStagedMove s)
  let s1 := forEach ms withdrawMove s
  { s1 with mesh := { s1.mesh with staged := (s1.mesh.staged.map (fun c =>
      if c.ctx = n then { c with moves := c.moves.filter (fun m => !ms.contains m) } else c)).filter (fun c => !c.moves.isEmpty) } }

/-- The test of a core on a suspect die stops; it is fenced with the die, or becomes SPARE where the die stays in service
(R417). -/
def stopTest (s : State) (p : DiePath) (margin : Bool) : State :=
  let b := basinOfDie p.die
  match (basinAt s b).underTest with
  | none => s
  | some k =>
    if (pathSites p).contains k then
      let s1 := putBasin s b { basinAt s b with underTest := none }
      if margin then putCore s1 k { clearedCore (coreAt s1 k) with st := .spare } else s1
    else s

/-- A path begins: the fall-back is decided, the cut is taken, checks on the die and staged tests are given up (R393 steps 1
and 2, R399, R417). -/
def beginPath (s : State) (p : DiePath) : State :=
  let ks := pathCores s p
  let m := cutOf s ks
  let q := { p with begun := true, cut := m, margin := pathFallsBack s p }
  let s1 := stopAfter (stopTest (putPath s p (some q)) p q.margin) ks (some m)
  let hit (k : Nat) : Bool := (pathSites p).contains k
  let s2 := forEach (s1.heal.checks.filter (fun c => hit c.checker || (match c.third with
                                                                      | none => false
                                                                      | some j => hit j))) abandonCheck s1
  match p.ctx with
  | none => s2
  | some n => withdrawTests s2 n

/-- A path may begin: no flip is under way, no drain of its basin and no reset of its context (R417, R433). -/
def mayBegin (s : State) (p : DiePath) : Bool :=
  !s.mesh.flipping && (match p.ctx with
                       | none => true
                       | some n => !stopped s n) && !s.mesh.drains.any (fun d => d.basins.contains (basinOfDie p.die))

/-- A die, or a core of it by a fault move, is to leave service: a path is opened at this instant, and begins at once where
nothing is in its way (R379, R393, R417). -/
def startPath (s : State) (die : Nat) (core : Option Nat) (reason : Nat) (wrong : Option Nat)
    (cmd : Option (Nat × Nat × Nat × Bool × Nat)) : State :=
  if (dieAt s die).retired || s.heal.paths.any (fun p => p.die == die && (p.core.isNone || p.core == core)) then s
  else
    let p : DiePath := { die := die, core := core, reason := reason, ctx := (basinAt s (basinOfDie die)).ctx, cut := 0,
                         t0 := s.sup.ticks, begun := false, margin := false, settling := false, proof := false,
                         failed := false, wrong := wrong, cmd := cmd }
    let s1 := { s with heal := { s.heal with paths := s.heal.paths ++ [p] } }
    if mayBegin s1 p then beginPath s1 p else s1

/-- A die becomes suspect at die scope and its path opens (R378, R393). -/
def dieSuspect (s : State) (d reason : Nat) (wrong : Option Nat) : State :=
  if (dieAt s d).retired then s else startPath (suspectDie s d reason) d none reason wrong none

/-- A core of a path has completed the cut and has nothing in hand (R393 step 3). -/
def coreQuiet (s : State) (p : DiePath) (k : Nat) : Bool := ranTo (coreAt s k) p.cut && unitsIdle (coreAt s k)

/-- The path is quiescent; a staged move that touches it has ended (R155, R393). -/
def quiescent (s : State) (p : DiePath) : Bool :=
  (pathCores s p).all (coreQuiet s p) &&
  !s.mesh.moves.any (fun m => (pathSites p).contains m.from_ || (pathSites p).contains m.to_)

/-! ### New cores for stations (R201, R206, R395) -/

/-- The preferred ones of a list, or all of it. -/
def prefer (f : Nat → Bool) (l : List Nat) : List Nat := if (l.filter f).isEmpty then l else l.filter f

/-- A core lies in the basin of the other stations of a group with AFFINITY (R201). -/
def affinityFits (s : State) (l : Layout) (slot j : Nat) : Bool :=
  match affinityOf l slot with
  | none => true
  | some (g, _) => (l.stations.filter (fun y => y.group == g && y.slot != slot)).all (fun y =>
      match coreOfSlot s y.slot with
      | none => true
      | some k => basinOf k == basinOf j)

/-- A slot on a core meets the capacities of the RECONV records that name it (R206). -/
def reconvFits (s : State) (l : Layout) (slot j : Nat) : Bool :=
  (reconvOf l.reconv slot).all (fun ws => decide ((reconvNeed s [(slot, j)] ws).1 ≤ (reconvNeed s [(slot, j)] ws).2))

/-- The new core of a slot: in the basin of its group with AFFINITY where a free core allows it; nearest by hop count in the same
basin, else in another granted basin; among equals one that fits the reconvergence, then the lowest number (R201, R383,
R395). -/
def pickSpare (s : State) (l : Layout) (k slot : Nat) (free : List Nat) : Option Nat :=
  let here := prefer (fun j => basinOf j == basinOf k) (prefer (affinityFits s l slot) free)
  match nearest k here with
  | none => none
  | some b => (prefer (reconvFits s l slot) (here.filter (fun j => hopDist k j == hopDist k b))).head?

/-- New cores for the stations of some cores, in ascending order: (old core, slot, new core). -/
def assignNew (s : State) (l : Layout) : List Nat → List Nat → List (Nat × Nat × Nat)
  | [], _ => []
  | k :: ks, free =>
    match (coreAt s k).slot with
    | none => assignNew s l ks free
    | some slot =>
      match pickSpare s l k slot free with
      | none => assignNew s l ks free
      | some j => (k, slot, j) :: assignNew s l ks (free.filter (· != j))

/-- New cores for the stations of a path. -/
def pathMoves (s : State) (p : DiePath) : List (Nat × Nat × Nat) :=
  match p.ctx with
  | none => []
  | some n =>
    match (ctxAt s n).layout with
    | none => []
    | some l => assignNew s l (pathCores s p) (pathSpares s p)

/-! ### The fence (R393 to R397, R399) -/

/-- A station's core is fenced; its state stays where it is until the copy (R393, R395). -/
def fenceStation (s : State) (k : Nat) : State := putCore s k { coreAt s k with st := .fenced, slot := none }

/-- A move off a fenced core begins: the new core is set up and holds what reaches it; without the state the new core waits
for the reset that follows (R394 to R396). -/
def openMove (s : State) (n : Nat) (carry : Bool) (m : Nat × Nat × Nat) : State :=
  let k := m.1
  let slot := m.2.1
  let j := m.2.2
  if carry then
    let s1 := takeOver s n slot j (coreAt s k).firing
    { s1 with mesh := { s1.mesh with moves := s1.mesh.moves ++
        [{ slot := slot, from_ := k, to_ := j, fault := true, test := false }] } }
  else
    putCore (putCore s j { coreAt s j with st := .inUse, slot := some slot }) k (clearedCore (coreAt s k))

/-- The fence of a path: the notice, the FENCED cores with forwarding to the new ones, the map staged for the next boundary,
and the retirement. A layout that a RETIRE leaves with too few good cores is stopped at the fence, any other at the next step
boundary (R35, R392 to R397, R399). -/
def fencePath (s : State) (p : DiePath) (carry : Bool) : State :=
  let ms := pathMoves s p
  let ks := pathCores s p
  let short := decide (ms.length < ks.length)
  let s0 := match p.wrong with
            | none => s
            | some k => noticeFor s k p.reason (b2n carry)
  let n := p.ctx.getD 0
  let s1 := forEach ks fenceStation (putPath s0 p none)
  let s2 := forEach ms (fun s m => openMove s n carry m) s1
  let s3 := putDie s2 p.die { dieAt s2 p.die with
    forwarding := (dieAt s2 p.die).forwarding ++ ms.map (fun m => (m.1, m.2.2)) }
  let s4 := if ms.isEmpty then s3
            else { s3 with mesh := { s3.mesh with staged := s3.mesh.staged ++
                     [{ ctx := n, moves := ms.map (fun m => (m.2.1, m.1, m.2.2)) }] } }
  let cmd := p.cmd.map (fun c => (c.1, c.2.1, c.2.2.1, c.2.2.2.1, if short then 0x19 else c.2.2.2.2))
  let s5 := match p.core with
            | some k => retireCore s4 k p.reason cmd
            | none => retireDie s4 p.die p.reason cmd
  match (ctxAt s5 n).layout with
  | none => s5
  | some l => if p.cmd.isSome = true ∧ short ∧ p.ctx.isSome = true ∧ goodOf s5 n < l.slots then stopUnplaceable s5 n else s5

/-- A path whose die has been retired on the way: nothing is left to do, and a RETIRE that waits is answered. -/
def closePath (s : State) (p : DiePath) : State :=
  let s1 := putPath s p none
  match p.cmd with
  | none => s1
  | some (n, tag, ring, q, _) => complete s1 n (comp tag ring 0 (goodOf s1 n) 0 q)

/-- The fall-back of a quiescent die: the rail and clock are changed before its stations resume (R399, R461). -/
def settlePath (s : State) (p : DiePath) : State :=
  let s1 := putPath s p (some { p with settling := true, wrong := none })
  match p.wrong with
  | none => s1
  | some k => noticeFor s1 k p.reason 0

/-- A path can take its next step at DIE_QUIESCE. -/
def pathReady (s : State) (die : Nat) (p : DiePath) : Bool :=
  p.die == die && ((dieAt s die).retired || (if p.begun then !p.settling && !p.proof && quiescent s p else mayBegin s p))

/-- DIE_QUIESCE: a path that waited begins; one whose stations have completed the cut is fenced, or goes to its margin step
(R393, R394, R399, R417). -/
def execDieQuiesce (die : Nat) (s : State) : Host.Outcome State Fault Refusal :=
  runUnit die 64 (fun s =>
    match s.heal.paths.find? (pathReady s die) with
    | none => s
    | some p =>
      if (dieAt s die).retired then closePath s p
      else if !p.begun then beginPath s p
      else if p.margin then settlePath s p
      else fencePath s p true) s

/-- QUIESCE_US in ticks of 40 ns (R414). -/
def quiesceTicks (s : State) : Nat :=
  let v := s.tst.fenceCfg % 65536
  25 * (if v = 0 then 1000 else clampN 50 1000 v)

/-- The state of stations cannot be carried: QUIESCE_TIMEOUT, and the basin that held them is reset (R396, R419). -/
def carryLost (s : State) (n b : Nat) : State :=
  triggerReset (bumpTst (basinEvent s b evQuiesceTimeout 0 0 0) 21 1) n [b] evQuiesceTimeout 0xFFFF false

/-- A path that is not quiescent at T0 + QUIESCE_US (R393 step 4). -/
def pathOverdue (s : State) (die : Nat) (p : DiePath) : Bool :=
  p.die == die && p.begun && !p.margin && !p.settling && !p.proof && !quiescent s p &&
  decide (quiesceTicks s ≤ s.sup.ticks - p.t0)

/-- QUIESCE_TIMEOUT: a die that is not quiescent at T0 + QUIESCE_US is fenced at that instant (R393 step 4, R396). -/
def execQuiesceTimeout (die : Nat) (s : State) : Host.Outcome State Fault Refusal :=
  runUnit die 64 (fun s =>
    match s.heal.paths.find? (pathOverdue s die) with
    | none => s
    | some p => carryLost (fencePath s p false) (p.ctx.getD 0) (basinOfDie die)) s

/-! ### The copy that ends a move (R153, R155, R178, R198, R395) -/

/-- A task slot as it moves: its index registers, firing and counts; its lane state starts cleared (R103, R198). -/
def movedSlot (t : Slot) : Slot := { t with scal := [], const := [], t := {}, p := [], adj := [] }

/-- An address of a CARRY page (R128). -/
def isCarry (c : Core) (a : Nat) : Bool := bits (pageEntry c a) 2 1 == 2

/-- The new core with the station's carried state: CARRY pages, index registers and firing number with the bindings latched for
firings, both sides of its channels and its sync table (R155, R178, R198, R214). -/
def carried (old new : Core) : Core :=
  { new with
    mem := (old.mem.filter (fun e => isCarry old e.1)).foldl (fun m e => memSet m e.1 e.2)
      (new.mem.filter (fun e => !isCarry old e.1)),
    poisonCw := sortNat (new.poisonCw.filter (fun a => !isCarry old a) ++ old.poisonCw.filter (isCarry old)),
    slots := old.slots.map (fun t => (t.1, movedSlot t.2)), firing := old.firing, begun := old.begun, inEp := old.inEp,
    outEp := old.outEp, rounds := old.rounds, sync := old.sync, latched := old.latched, holding := false }

/-- Everything that reached the old core has been taken into its state, its credits have been returned and what it sent has left
it (R155, R178). -/
def oldSettled (c : Core) : Bool := c.arr.isEmpty && c.svc.isEmpty && c.inj.isEmpty && c.inEp.all (fun e => e.2.pend == 0)

/-- A core serves the accesses that it held, in order, before its station's first firing; the pages just copied hold whole
codewords (R155). -/
def serveHeld (k : Nat) (c : Core) : Core × List Ev :=
  c.svc.foldl (fun z p =>
    let r := serve k z.1 p []
    (r.1, z.2 ++ r.2)) ({ c with svc := [] }, [])

/-- No page of a new core still waits for its fill (R404). -/
def fillsDone (s : State) (j : Nat) : Bool := !s.heal.refills.any (fun r => r.core == j && r.reason == 0)

/-- Pages of the old core that waited for a refill: the new core's fill replaces them, and their notices are posted (R403,
R417). -/
def movedRefills (s : State) (n slot k : Nat) : State :=
  let rs := s.heal.refills.filter (fun r => r.core == k && r.reason != 0)
  let s1 := { s with heal := { s.heal with refills := s.heal.refills.filter (fun r => r.core != k) } }
  forEach rs (fun s r =>
    let c := coreAt s k
    noticeTo s n k r.reason [noticeEntry r.cleanMb c.lastMb slot 2 ((c.lastMb + 1 - r.cleanMb) * firesPerMb c)]) s1

/-- A move ended: what was held is served, then the station runs on its new core (R155, R178, R395). -/
def landMove (s : State) (n : Nat) (m : Move) : State :=
  let s1 := movedRefills s n m.slot m.from_
  let c := carried (coreAt s1 m.from_) (coreAt s1 m.to_)
  let c1 := { c with stopAt := match (coreAt s1 m.to_).stopAt with
                               | some a => some a
                               | none => sectStop s1 n c }
  let z := serveHeld m.to_ c1
  let s2 := applyEvs m.to_ (putCore { s1 with mesh := { s1.mesh with moves := s1.mesh.moves.erase m } } m.to_ z.1) z.2
  putCore s2 m.to_ (wakeSlots s2 m.to_ (coreAt s2 m.to_))

/-- The copy of a fault move to a core. -/
def faultCopy (core : Nat) (m : Move) : Bool := m.fault && m.to_ == core

/-- STATION_RESUME: the copy off a fenced core completes and the station starts on the new core with the firings after the
cut; state that cannot be read, or a new core fenced meanwhile, sends its basin to a reset (R24, R155, R395, R396). `stateOk`: every read gave data. -/
def execStationResume (core : Nat) (stateOk : Bool) (s : State) : Host.Outcome State Fault Refusal :=
  runUnit core nCores (fun s =>
    match s.mesh.moves.find? (faultCopy core) with
    | none => s
    | some m =>
      let n := ownerOf s (basinOf core)
      let old := coreAt s m.from_
      if !stateOk || (coreAt s core).st != .inUse || old.poisonCw.any (isCarry old) then
        carryLost (putCore { s with mesh := { s.mesh with moves := s.mesh.moves.erase m } } m.from_ (clearedCore old))
          n (basinOf m.from_)
      else if oldSettled old && fillsDone s core then
        let s1 := landMove s n m
        putCore s1 m.from_ (clearedCore (coreAt s1 m.from_))
      else s) s

/-! ### Margin steps and proof runs (R399 to R401, R461) -/

/-- The stations of a path go on. -/
def resumePath (s : State) (p : DiePath) : State :=
  let s1 := forEach (pathCores s p) (fun s k =>
    putCore s k { coreAt s k with stopAt := sectStop s (p.ctx.getD 0) (coreAt s k) }) s
  match p.ctx with
  | none => s1
  | some n => wakeCtx s1 n

/-- The path of a die whose margin step's rail and clock are changing. -/
def pathSettles (die : Nat) (p : DiePath) : Bool := p.die == die && p.settling

/-- CORE_PLL_RELOCK: the rail has settled, the core PLL relocks at the margin step's frequency, the die's stations resume and
the proof run begins (R399, R400, R461). -/
def execCorePllRelock (die : Nat) (s : State) : Host.Outcome State Fault Refusal :=
  runUnit die 64 (fun s =>
    match s.heal.paths.find? (pathSettles die) with
    | none => s
    | some p =>
      let d := dieAt s die
      let s1 := putDie s die { d with margin := (nextMargin d.margin).getD d.margin }
      let s2 := { s1 with heal := { s1.heal with proofs := s1.heal.proofs.filter (fun e => dieOf e.1 != die) } }
      resumePath (putPath s2 p (some { p with settling := false, proof := true, failed := false })) p) s

/-- PROOF_FIRINGS (R414). -/
def proofFirings (s : State) : Nat := if bits s.tst.checkCfg 47 32 = 0 then 64 else bits s.tst.checkCfg 47 32

/-- A path quiesced anew at this instant (R399, R400). -/
def requiesce (s : State) (p : DiePath) (margin : Bool) : State :=
  let ks := pathCores s p
  let m := cutOf s ks
  stopAfter (putPath s p (some { p with proof := false, failed := false, margin := margin, cut := m, t0 := s.sup.ticks }))
    ks (some m)

/-- The path of a die in its proof run. -/
def pathProves (die : Nat) (p : DiePath) : Bool := p.die == die && p.proof

/-- PROOF_RUN_COMPLETE: a pass writes a MARGIN record and raises MARGIN_STEP; a majority against a core of the die moves on to
the next step; beyond step 5, or where no checkers can be found, the die is fenced (R400). -/
def execProofRunComplete (die : Nat) (pass checkersFound : Bool) (s : State) : Host.Outcome State Fault Refusal :=
  runUnit die 64 (fun s =>
    match s.heal.paths.find? (pathProves die) with
    | none => s
    | some p =>
      let d := dieAt s die
      if !checkersFound then requiesce s p false
      else if p.failed then (if pass then s else requiesce s p (nextMargin d.margin).isSome)
      else if pass && (pathCores s p).all (fun k => decide (proofFirings s ≤ tabGet s.heal.proofs k 0)) then
        let s1 := putPath (putDie s die { d with suspect := none }) p none
        let s2 := bumpTst (basinEvent s1 (basinOfDie die) evMarginStep die d.margin (marginMhz d.margin)) 20 1
        askLedger s2 3 p.reason die d.margin none
      else s) s

end Sys2Proof.Machine
end

