-- ==== Sys2Proof/Machine/Heal.lean ====
section
/-! DEFINITION. Continual test and recovery (R30, R31, R155, R378 to R391, R402 to R407, R417): idle tests and migrations,
checks, weights against their digests, RETIRE and the ledger. -/

namespace Sys2Proof.Machine

/-! ### When a core may be tested (R381 to R383) -/

/-- Ticks of 40 ns in an hour. -/
def hourTicks : Nat := 90000000000

/-- The die of a core runs within the limits of R381: no MARGIN record, full clock and voltage, temperatures and supply in
range. -/
def testAllowed (s : State) (k : Nat) : Bool :=
  let d := dieAt s (dieOf k)
  d.margin == 0 && d.temps.all (fun t => decide (t.2 ≤ 90)) && decide ((hbmAt s (basinOf k)).temp ≤ 85) && s.pwr.inRange &&
  s.clk.refOk

/-- Another placement change of the context is blocked: a die path is in progress or its map has not committed (R397). -/
def pathBusy (s : State) (n : Nat) : Bool :=
  s.heal.paths.any (fun p => p.ctx == some n) || (changesOf s n).any (fun m => !isStagedMove s m) ||
  s.mesh.moves.any (fun m => m.fault && (basinAt s (basinOf m.to_)).ctx == some n)

/-- A core enters UNDER_TEST and its test begins, with every sub-bank powered for it (R24, R136, R381, R382). -/
def startTest (s : State) (k : Nat) : State :=
  let c := coreAt s k
  let s1 := putCore s k { c with st := .underTest, bankOn := List.range 48 }
  let s2 := bumpTst (putBasin s1 (basinOf k) { basinAt s1 (basinOf k) with underTest := some k }) 0 1
  if c.suspect.isSome then bumpTst s2 3 1 else s2

/-- A core that a station has left: cleared, then tested where its basin tests nothing else, else it waits its turn (R155,
R156, R382, R383). One that was fenced meanwhile stays out of service (R24). -/
def freeForTest (s : State) (k : Nat) : State :=
  if !CoreSt.good (coreAt s k).st then putCore s k (clearedCore (coreAt s k))
  else
  let s1 := putCore s k { clearedCore (coreAt s k) with st := .spare }
  let b := basinAt s1 (basinOf k)
  if b.underTest.isNone then startTest s1 k
  else putBasin s1 (basinOf k) { b with testOrder := b.testOrder ++ [k] }

/-- The copy of a staged move of a slot. -/
def stagedCopy (slot : Nat) (m : Move) : Bool := !m.fault && m.slot == slot

/-- CARRY_COPY_COMPLETE: a staged move's copy completes once the old bank is retired and the old core has run empty; the new
core serves what it held and the old core is cleared and tested (R153, R155, R178, R383). State that cannot be read, or a new
core that was fenced meanwhile, sends the basin to a reset (R24, R396). -/
def execCarryCopyComplete (slot : Nat) (stateOk : Bool) (s : State) : Host.Outcome State Fault Refusal :=
  .next (match s.mesh.moves.find? (stagedCopy slot) with
    | none => s
    | some m =>
      let n := ownerOf s (basinOf m.to_)
      let old := coreAt s m.from_
      if s.mesh.oldBank || s.mesh.flipping then s
      else if !stateOk || (coreAt s m.to_).st != .inUse then
        carryLost (freeForTest { s with mesh := { s.mesh with moves := s.mesh.moves.erase m } } m.from_) n (basinOf m.from_)
      else if oldSettled old && unitsIdle old && fillsDone s m.to_ then freeForTest (landMove s n m) m.from_
      else s)

/-! ### The sweep and the priority test (R379, R382, R383) -/

/-- FRESH_H in ticks (R414). -/
def freshTicks (s : State) : Nat := hourTicks * (if bits s.tst.idleCfg 31 16 = 0 then 4 else bits s.tst.idleCfg 31 16)

/-- A SPARE core that a station may move to. -/
def freeSpare (s : State) (j : Nat) : Bool :=
  (coreAt s j).st == .spare && !(coreAt s j).reserved && !(coreAt s j).held

/-- A freshly tested spare (R383). -/
def isFresh (s : State) (j : Nat) : Bool :=
  freeSpare s j && (coreAt s j).suspect.isNone &&
  (match (coreAt s j).lastPass with
   | none => false
   | some t => decide (s.sup.ticks - t ≤ freshTicks s))

/-- The spare for a migration: nearest in the same basin, else nearest in another granted one (R383). -/
def spareFor (s : State) (n k : Nat) (f : Nat → Bool) : Option Nat :=
  match nearest k ((coresOfBasin (basinOf k)).filter (fun j => j != k && f j)) with
  | some j => some j
  | none => nearest k (((grantOf s n).flatMap coresOfBasin).filter (fun j => j != k && f j))

/-- A migration for test is staged for the next boundary (R383). -/
def stageMove (s : State) (n slot k j : Nat) : State :=
  let s1 := putCore s j { coreAt s j with reserved := true }
  bumpTst { s1 with mesh := { s1.mesh with staged := s1.mesh.staged ++ [{ ctx := n, moves := [(slot, k, j)] }] } } 4 1

/-- A suspect core that waits for its priority test; a core on a margin die is never tested (R379, R401). -/
def wantsTest (s : State) (k : Nat) : Bool :=
  (coreAt s k).suspect.isSome && (coreAt s k).st.good && decide ((dieAt s (dieOf k)).margin = 0)

/-- A core already in a staged or open move. -/
def moving (s : State) (k : Nat) : Bool :=
  s.mesh.staged.any (fun c => c.moves.any (fun m => m.2.1 == k)) || s.mesh.moves.any (fun m => m.from_ == k || m.to_ == k) ||
  s.heal.paths.any (fun p => (pathSites p).contains k)

/-- The next good core of a basin's sweep, at or after a position, with its place (R382). -/
def nextSweep (s : State) (b from_ : Nat) : Option (Nat × Nat) :=
  let ks := coresOfBasin b
  (((List.range 576).map (fun i => (from_ + i) % 576)).map (fun i => (i, nth ks i 0))).find? (fun e => (coreAt s e.2).st.good)

/-- What a sweep step does at a core: a test, a migration, a skip, a postponement, or nothing yet (R381 to R383, R397). -/
def sweepCore (s : State) (b i k : Nat) : State :=
  let on (s : State) : State := putBasin s b { basinAt s b with sweepPos := (i + 1) % 576 }
  let c := coreAt s k
  if (dieAt s (dieOf k)).margin ≠ 0 then on (bumpTst s 5 1)
  else if c.held || c.reserved || moving s k then s
  else if !testAllowed s k then bumpTst s 5 1
  else
    match c.st, c.slot, (basinAt s b).ctx with
    | .spare, _, _ => on (startTest s k)
    | .inUse, some slot, some n =>
      if pathBusy s n then s
      else
        match spareFor s n k (isFresh s) with
        | none => on (bumpTst s 6 1)
        | some j => on (stageMove s n slot k j)
    | _, _, _ => s

/-- A suspect core that waits for its test and that no move concerns yet. -/
def prioDue (s : State) (k : Nat) : Bool := wantsTest s k && !moving s k

/-- A basin's sweep may take its next step: tests are on, none is under way or due before it (R382, R383). -/
def sweepDue (s : State) (b : Nat) : Bool :=
  decide (s.tst.idleCfg % 65536 ≠ 0) && (basinAt s b).underTest.isNone && (basinAt s b).testOrder.isEmpty &&
  !(coresOfBasin b).any (prioDue s) && s.glb.ready

/-- IDLE_SWEEP_STEP: a basin's sweep comes to its next core; a priority test that is due goes first (R381 to R383, R417). -/
def execIdleSweepStep (basin : Nat) (s : State) : Host.Outcome State Fault Refusal :=
  runUnit basin 16 (fun s =>
    if sweepDue s basin then
      match nextSweep s basin (basinAt s basin).sweepPos with
      | none => s
      | some e => sweepCore s basin e.1 e.2
    else s) s

/-- A core suspect again within 24 hours of a priority test that it passed (R379). -/
def secondTime (s : State) (k : Nat) : Bool :=
  match (coreAt s k).lastPrio with
  | none => false
  | some t => decide (s.sup.ticks - t ≤ 24 * hourTicks)

/-- A suspect core leaves service without a further test, its station by a fault move (R379). -/
def retireSuspect (s : State) (k : Nat) : State :=
  let r := (coreAt s k).suspect.getD 1
  if (coreAt s k).st = .inUse then startPath s (dieOf k) (some k) r none none
  else retireCore (noticeFor s k r 1) k r none

/-- The priority test of a suspect core: where it is SPARE, or after its station has moved to any SPARE core (R379, R383). -/
def prioCore (s : State) (k : Nat) : State :=
  let c := coreAt s k
  if secondTime s k then retireSuspect s k
  else
    match c.st, c.slot, (basinAt s (basinOf k)).ctx with
    | .spare, _, _ =>
      if c.held || c.reserved then s else if !testAllowed s k then bumpTst s 5 1 else startTest s k
    | .inUse, some slot, some n =>
      if pathBusy s n then s
      else
        match spareFor s n k (freeSpare s) with
        | none => s
        | some j => stageMove s n slot k j
    | _, _, _ => s

/-- PRIORITY_TEST: the first suspect core of a basin is tested, moved or retired; else the first core whose station has left
it takes its turn (R379, R382, R417). -/
def execPriorityTest (basin : Nat) (s : State) : Host.Outcome State Fault Refusal :=
  runUnit basin 16 (fun s =>
    let b := basinAt s basin
    if b.underTest.isSome ∨ s.glb.ready = false then s
    else
      match (coresOfBasin basin).find? (prioDue s) with
      | some k => prioCore (putBasin s basin { b with testOrder := b.testOrder.filter (· != k) }) k
      | none =>
        match b.testOrder with
        | [] => s
        | k :: t =>
          if (coreAt s k).st ≠ .spare then putBasin s basin { b with testOrder := t }
          else if (coreAt s k).held ∨ (coreAt s k).reserved then s
          else if testAllowed s k then startTest (putBasin s basin { b with testOrder := t }) k
          else bumpTst s 5 1) s

/-- IDLE_TEST: the test of the core UNDER_TEST completes: it is cleared and SPARE again, or it is fenced and retired, with a
suspect notice for what it had run (R381, R382, R384, R391). -/
def execIdleTest (basin : Nat) (pass : Bool) (s : State) : Host.Outcome State Fault Refusal :=
  runUnit basin 16 (fun s =>
    match (basinAt s basin).underTest with
    | none => s
    | some k =>
      let c := coreAt s k
      let s1 := putBasin s basin { basinAt s basin with underTest := none }
      if c.st ≠ .underTest then s1
      else if pass then
        bumpTst (putCore s1 k { clearedCore c with
          st := .spare, suspect := none, lastPass := some s.sup.ticks,
          lastPrio := if c.suspect.isSome then some s.sup.ticks else c.lastPrio, window := [] }) 1 1
      else
        let r := c.suspect.getD 1
        let s2 := noticeFor (bumpTst s1 2 1) k r 1
        retireCore (putCore s2 k (clearedCore (coreAt s2 k))) k r none) s

/-! ### Checking firings on a second core (R385 to R391) -/

/-- CHECK_DISAGREE (R389). -/
def disagreeEvent (s : State) (c : Check) (row : Nat) : State :=
  postEvent s (ownerOf s (basinOf c.core)) evCheckDisagree (2 ^ basinOf c.core) c.slot noFld noFld noFld c.core c.slot c.mb row

/-- The log of a check, once its firing has ended. -/
def endedLog (s : State) (c : Check) : Option CheckLog :=
  match (coreAt s c.core).check with
  | none => none
  | some l => if l.mb = c.mb ∧ (l.ended.isSome = true ∨ l.abandoned = true) then some l else none

/-- A clean check: counted, and the station core's window begins at its microbatch (R389, R391, R400). -/
def checkClean (s : State) (c : Check) : State :=
  let s1 := bumpTst (dropCheck s c) 8 1
  let s2 := putCore s1 c.core (cleanAt (coreAt s1 c.core) c.mb)
  if c.proof then { s2 with heal := { s2.heal with proofs := tabSet s2.heal.proofs c.core (tabGet s2.heal.proofs c.core 0 + 1) } }
  else s2

/-- A component of the firing digest after its byte length (R387). -/
def digestPart (l : List Byte) : List Byte := leBytes 8 l.length ++ l

/-- The firing digest (R387): SPACE is hashed as one byte and ADDR as eight, one component for each endpoint and streamer, which
is the model's choice (log 151). -/
def fireDigest (l : CheckLog) : Nat :=
  sha256
    ((List.range 32).flatMap (fun e => digestPart ((l.msgs.filter (fun m => m.1 == e)).flatMap (·.2))) ++
     (List.range 3).flatMap (fun u => digestPart
       ((l.chunks.filter (fun x => x.1 == u)).flatMap (fun x => leBytes 1 x.2.1 ++ leBytes 8 x.2.2) ++
        (if u = 2 then l.stored else []))) ++
     digestPart l.drops)

/-- A task slot of a recomputation at the start of the logged firing (R388). -/
def replaySlot (y : Station) (l : CheckLog) (i : Nat) : Slot :=
  if nth y.entry i 0xFFFF = 0xFFFF then {}
  else { st := .running, pc := nth y.entry i 0xFFFF, firing := l.firing, mb := l.mb, step := l.step, idx := tabGet l.idx i [],
         peers := l.peers }

/-- A core `j` set up to recompute a logged firing (R388): as a placement of the station, with its W-class pages filled and its
CARRY pages copied, its operand beats from the log, and no slot of its own; it stays SPARE and out of placement (R385). -/
def replayCore (s : State) (c : Check) (l : CheckLog) (j i : Nat) (lay : Layout) (y : Station) : Core :=
  let old := coreAt s c.core
  let d := stationCore s (ownerOf s (basinOf j)) j i lay y l.firing false (coreAt s j)
  { d with
    st := (coreAt s j).st, slot := none, reserved := true, begun := l.firing + 1,
    slots := (List.range 8).map (fun i => (i, replaySlot y l i)), scaleTab := l.scale,
    mem := (old.mem.filter (fun e => isCarry old e.1)).foldl (fun m e => memSet m e.1 e.2) (d.mem.filter (fun e => !isCarry old e.1)),
    poisonCw := old.poisonCw.filter (isCarry old),
    check := some { l with beats := [], bytes := 0, msgs := [], chunks := [], stored := [], drops := [], ended := none },
    replay := some l.beats }

/-- A recomputation begins on a core, once every page that it needs can be filled (R388, R404). -/
def startReplay (s : State) (c : Check) (l : CheckLog) (j : Nat) : State :=
  let n := ownerOf s (basinOf j)
  match (ctxAt s n).layout, (coreAt s c.core).station with
  | some lay, some y =>
    if (waitPages s n (basinOf j) y).isEmpty then
      putCore s j (replayCore s c l j (lay.stations.findIdx (fun x => x == y)) lay y)
    else s
  | _, _ => s

/-- The log of a recomputation that has ended (R387, R388). -/
def replayLog (s : State) (j : Nat) : Option CheckLog :=
  match (coreAt s j).check with
  | none => none
  | some l => if l.ended.isSome then some l else none

/-- A check may take its next step with core `j`: its recomputation is still to begin, or has ended. -/
def replayReady (s : State) (j : Nat) : Bool := (coreAt s j).replay.isNone || (replayLog s j).isSome

/-- A disagreement: a third core recomputes the firing, or the check is abandoned where none can be found (R389). -/
def checkDiffers (s : State) (c : Check) : State :=
  let s1 := bumpTst s 9 1
  match chooseChecker s1 c.core [dieOf c.core, dieOf c.checker] with
  | none => disagreeEvent (abandonCheck s1 c) c 0xFF
  | some j =>
    let s2 := bumpTst (putCore s1 j { coreAt s1 j with reserved := true }) 10 1
    { s2 with heal := { s2.heal with checks := s2.heal.checks.map (fun d => if d = c then { c with third := some j } else d) } }

/-- The log of a check whose firing has ended and that core `j` decides next (R389). -/
def decidable (s : State) (c : Check) (j : Nat) : Option CheckLog :=
  (endedLog s c).filter (fun l => l.abandoned || replayReady s j)

/-- A check whose firing has ended and that no third core decides (R389). -/
def comparable (s : State) (c : Check) : Bool := c.third.isNone && (decidable s c c.checker).isSome

/-- CHECK_COMPARE: the checker of the first check whose firing has ended recomputes it, and once it has done so the digests are
compared; an overlong or poisoned log is given up. `agrees` is false where a fault of either core's hardware has altered its
digest (R386 to R389, log 153). -/
def execCheckCompare (agrees : Bool) (s : State) : Host.Outcome State Fault Refusal :=
  .next (match s.heal.checks.find? (comparable s) with
    | none => s
    | some c =>
      match decidable s c c.checker with
      | none => s
      | some l =>
        if l.abandoned then abandonCheck s c
        else
          match replayLog s c.checker with
          | none => startReplay s c l c.checker
          | some r => if agrees && fireDigest l == fireDigest r then checkClean s c else checkDiffers s c)

/-- A page of a station's core that must be refilled, with its reason (R403). -/
def pageBad (s : State) (k pg : Nat) : State :=
  applyEvs k s [.tst 14, .post evWeightDigestFail noFld noFld noFld 0 0 0, .refill pg 0x10 (tabGet (coreAt s k).pageCleanMb pg 0), .suspect 1]

/-- All three digests differ: the W-class pages of the station core are hashed at once; where all are clean the station's home
basin is reset (R389, R402, R403). -/
def inputsSuspect (s : State) (c : Check) : State :=
  let x := coreAt s c.core
  let pgs := match x.station with
             | none => []
             | some y => wPages y
  let bad := pgs.filter (fun p => sha256 (memRead x.mem (p * 65536) 65536) != tabGet x.fillDigest p 0)
  let s1 := bumpTst s 13 pgs.length
  if bad.isEmpty then
    triggerReset s1 (ownerOf s (c.slot / 1024 % 16)) [c.slot / 1024 % 16] evCheckDisagree c.slot false
  else forEach bad (fun s p => pageBad s c.core p) s1

/-- A proof run has found a core of its die wrong (R400). -/
def failProof (s : State) (d : Nat) : State :=
  { s with heal := { s.heal with paths := s.heal.paths.map (fun p => if p.die = d ∧ p.proof then { p with failed := true } else p) } }

/-- The station's core was found wrong: its die becomes suspect and a notice is posted, with the fence where the die leaves
service (R389, R392, R393, R400). -/
def stationWrong (s : State) (c : Check) : State :=
  let d := dieOf c.core
  if s.heal.paths.any (fun p => p.die == d && p.core.isNone) then noticeFor (failProof s d) c.core 2 0
  else dieSuspect s d 2 (some c.core)

/-- A check that its third core decides, or is to recompute (R389). -/
def thirdDone (s : State) (c : Check) : Bool :=
  match c.third with
  | none => false
  | some j => (decidable s c j).isSome

/-- Which digest the third equals: that of the logs where they differ, else what `eq` says of the cores' hardware (R389, log
153). -/
def thirdEq (station checker third : Nat) (eq : ThirdEq) : ThirdEq :=
  if station = checker ∧ checker = third then eq
  else if checker = third then .checker
  else if station = third then .station
  else .none

/-- The third digest decides (R389). -/
def decideCheck (s : State) (c : Check) (eq : ThirdEq) : State :=
  match eq with
  | .checker => stationWrong (dropCheck (disagreeEvent s c 1) c) c
  | .station => dieSuspect (dropCheck (disagreeEvent s c 2) c) (dieOf c.checker) 2 none
  | .none => inputsSuspect (dropCheck (disagreeEvent s c 4) c) c

/-- THIRD_CORE_RESULT: the third core recomputes the firing, and once it has done so its digest decides (R388, R389). -/
def execThirdCoreResult (eq : ThirdEq) (s : State) : Host.Outcome State Fault Refusal :=
  .next (match s.heal.checks.find? (thirdDone s) with
    | none => s
    | some c =>
      let j := c.third.getD 0
      match decidable s c j, replayLog s j with
      | none, _ => s
      | some l, none => if l.abandoned then abandonCheck s c else startReplay s c l j
      | some l, some r =>
        decideCheck s c (thirdEq (fireDigest l) (((replayLog s c.checker).map fireDigest).getD 0) (fireDigest r) eq))

/-- A check 5 ms after the end of its firing, or one whose station has left the core (R390). -/
def checkLate (s : State) (c : Check) : Bool :=
  match (coreAt s c.core).check with
  | none => true
  | some l => match l.ended with
              | none => false
              | some t => decide (125000 ≤ s.sup.ticks - t)

/-- CHECK_TIMEOUT: a check is abandoned 5 ms after the end of its firing, or when its station has left the core (R390). -/
def execCheckTimeout (s : State) : Host.Outcome State Fault Refusal :=
  .next (match s.heal.checks.find? (checkLate s) with
    | none => s
    | some c => abandonCheck s c)

/-- AGING_MONITOR_READ: each die of which a monitor's slack is below its fused threshold becomes suspect (R378, R380). -/
def execAgingMonitorRead (low : List Nat) (s : State) : Host.Outcome State Fault Refusal :=
  if low.all (fun d => decide (d < 64)) then .next (forEach low (fun s d => dieSuspect s d 4 none) s) else .fault .noSuchUnit

/-! ### Weights against their signed digests (R402 to R407) -/

/-- The bytes of a station's W-class page as its fills make them; none while a copy that they need is on hold (R194, R403,
R404). -/
def pageFill (s : State) (n b : Nat) (l : Layout) (y : Station) (pg : Nat) : Option (List Byte) :=
  if (waitPages s n b y).contains pg then none
  else some (memRead (reserveMem s n l y (fillMem s n b y [])) (pg * 65536) 65536)

/-- A page written with its signed bytes, and their digest (R402, R403). -/
def refillPage (c : Core) (pg : Nat) (bs : List Byte) : Core :=
  { c with
    mem := memWrite c.mem (pg * 65536) bs, poisonCw := c.poisonCw.filter (fun a => a / 65536 != pg),
    fillDigest := tabSet c.fillDigest pg (sha256 bs), pageCleanMb := tabSet c.pageCleanMb pg c.lastMb, scrubBuf := [] }

/-- The station of a refill has run empty, as in steps 2 and 3 of R393; a fill before the first firing needs no quiesce. -/
def refillQuiet (s : State) (r : Refill) : Bool :=
  r.reason == 0 || (ranTo (coreAt s r.core) (begunMbs (coreAt s r.core)) && unitsIdle (coreAt s r.core))

/-- What a refill can be made from, now (R403, R404, R407). -/
def refillBytes (s : State) (r : Refill) : Option (List Byte) :=
  let n := ownerOf s (basinOf r.core)
  match (ctxAt s n).layout, (coreAt s r.core).station with
  | some l, some y => if refillQuiet s r then pageFill s n (basinOf r.core) l y r.page else none
  | _, _ => none

/-- A page whose refill can be made now. -/
def refillDue (s : State) (r : Refill) : Bool := (refillBytes s r).isSome

/-- WEIGHT_REFILL: the first page that can be refilled is written from verified shard copies; after an error a suspect notice
with REFILLED is posted and the station resumes (R402 to R404, R407). -/
def execWeightRefill (s : State) : Host.Outcome State Fault Refusal :=
  .next (match s.heal.refills.find? (refillDue s) with
    | none => s
    | some r =>
      let n := ownerOf s (basinOf r.core)
      let c := coreAt s r.core
      let s1 := putCore { s with heal := { s.heal with refills := s.heal.refills.erase r } } r.core
        (refillPage c r.page ((refillBytes s r).getD []))
      if r.reason = 0 then s1
      else
        let s2 := noticeTo s1 n r.core r.reason
          [noticeEntry r.cleanMb c.lastMb (c.slot.getD 0xFFFF) 2 ((c.lastMb + 1 - r.cleanMb) * firesPerMb c)]
        if (coreAt s2 r.core).holding then s2 else putCore s2 r.core (wakeSlots s2 r.core (coreAt s2 r.core)))

/-- SHARD_SWEEP: a shard copy of a stack is hashed and compared with its DIGEST; a mismatch puts it on hold and asks for its
reload (R404, R405). -/
def execShardSweep (basin shard : Nat) (s : State) : Host.Outcome State Fault Refusal :=
  runUnit basin 16 (fun s =>
    match (basinAt s basin).ctx with
    | none => s
    | some n =>
      match shardNo s n shard with
      | none => s
      | some h =>
        if bitAt h.good basin = false ∨ (hbmAt s basin).withdrawn then s
        else
          let x := hbmAt s basin
          let d := sha256 (memRead x.mem (h.hbmOff * 65536) h.length)
          let s1 := bumpTst (putHbm s basin { x with
            sweeps := x.sweeps.filter (fun e => !(e.1 == n && e.2.1 == shard)) ++ [(n, shard, d)] }) 15 1
          if d = h.digest ∨ onHold s basin n shard then s1
          else askReload (holdShard (bumpTst s1 16 1) n basin h) n basin h) s

/-- The bytes of a shard from the first source that has a verified copy: another basin, or a digest partner, whose bytes the
fabric brings (R405, R406). -/
def reloadBytes (s : State) (n b : Nat) (h : Shard) (data : List Byte) : Option (List Byte) :=
  match (List.range 16).find? (fun j => j != b && goodCopy s n j h) with
  | some j => some (memRead (hbmAt s j).mem (h.hbmOff * 65536) h.length)
  | none => if s.fab.xchg.any (fun e => e.1 == n && e.2.2.1 == h.id && e.2.2.2) then some (fitBytes h.length data) else none

/-- SHARD_RELOADED: a held copy is written from a verified source and verifies; its hold lifts and SHARD_RELOADED is raised
(R404, R405). -/
def execShardReloaded (basin shard : Nat) (data : List Byte) (s : State) : Host.Outcome State Fault Refusal :=
  runUnit basin 16 (fun s =>
    match (basinAt s basin).ctx with
    | none => s
    | some n =>
      match shardNo s n shard with
      | none => s
      | some h =>
        if !onHold s basin n shard || (hbmAt s basin).withdrawn then s
        else
          match reloadBytes s n basin h data with
          | none => s
          | some bs =>
            if sha256 bs = h.digest then liftHold (hbmWrite s basin (h.hbmOff * 65536) bs) n basin shard else s) s

/-! ### RETIRE and the ledger (R30, R31, R331, R380) -/

/-- The retirement of a core by command, according to what it is doing (R24, R331, R378, R379). -/
def retireTarget (s : State) (n : Nat) (h : HCmd) (k : Nat) : State :=
  let c := coreAt s k
  let cmd := some (n, cmdTag h, h.ring, cmdNoIrq h, 0)
  let s1 := startCmd s n h
  match c.st with
  | .shipDefect => endCmd s n h 0 (goodOf s n) 0
  | .retired => endCmd s n h 0 (goodOf s n) 0
  | .fenced => s
  | .spare =>
    let s2 := forEach (s1.heal.checks.filter (fun x => x.checker == k || x.third == some k)) abandonCheck s1
    let s3 := { s2 with mesh := { s2.mesh with staged := s2.mesh.staged.filter (fun x => !x.moves.any (fun m => m.2.2 == k)) } }
    retireCore s3 k 7 cmd
  | .underTest => retireCore (putBasin s1 (basinOf k) { basinAt s1 (basinOf k) with underTest := none }) k 7 cmd
  | .inUse => if moving s k then s else startPath s1 (dieOf k) (some k) 7 none cmd

/-- RETIRE: a core or a die within the grant is fenced and retired with reason HOST_REQUEST and no test; the command
completes when its ledger record is written (R331, R378, R399). A RETIRE of what is already leaving service waits. -/
def execRetire (ctx : Nat) (s : State) : Host.Outcome State Fault Refusal :=
  hostCmd ctx 0xF (fun s h =>
    let t := cmdField h 8 2
    let kind := cmdField h 10 1
    if 1 < kind then failCmd s ctx h 2
    else if kind = 0 then
      (if t < nCores ∧ (basinAt s (basinOf t)).ctx = some ctx then retireTarget s ctx h t else failCmd s ctx h 0x13)
    else if t < 64 ∧ (basinAt s (basinOfDie t)).ctx = some ctx then
      (if (dieAt s t).retired then
         (if s.heal.ledgerQ.any (fun j => j.type == 2 && j.target == t) then s else endCmd s ctx h 0 (goodOf s ctx) 0)
       else if s.heal.paths.any (fun p => p.die == t) then s
       else startPath (startCmd s ctx h) t none 7 none (some (ctx, cmdTag h, h.ring, cmdNoIrq h, 0)))
    else failCmd s ctx h 0x13) s

/-- The pair in use with another list of positions. -/
def putLedger (f : Flash) (l : List LPos) : Flash := if f.usePair1 then { f with pair1 := l } else { f with pair0 := l }

/-- FENCED cores become RETIRED when their record is written (R24, R26). -/
def retireFenced (s : State) (j : LJob) : State :=
  let ks := if j.type = 1 then [j.target] else if j.type = 2 then coresOfDie j.target else []
  forEach ks (fun s k => if (coreAt s k).st = .fenced then putCore s k { coreAt s k with st := .retired } else s) s

/-- The third RETIRE_CORE record of a die within 24 hours makes the die suspect (R380). -/
def countRetire (s : State) (j : LJob) : State :=
  if j.type ≠ 1 then s
  else
    let d := dieOf j.target
    let l := ((dieAt s d).retireTicks.filter (fun t => decide (s.sup.ticks - t ≤ 24 * hourTicks))) ++ [s.sup.ticks]
    let s1 := putDie s d { dieAt s d with retireTicks := l }
    if 3 ≤ l.length then dieSuspect s1 d 1 none else s1

/-- LEDGER_RECORD_WRITTEN: the oldest record waiting is in both copies; what it retires is RETIRED, and a RETIRE command that
waits for it completes (R24, R27, R30, R331, R399). -/
def execLedgerRecordWritten (s : State) : Host.Outcome State Fault Refusal :=
  .next (match s.heal.ledgerQ with
    | [] => s
    | j :: rest =>
      let r : LRec := { seq := nextSeq s.flash, type := j.type, reason := j.reason, target := j.target,
                        boot := s.sup.bootCount % 65536, detail := j.detail }
      let s1 := { s with heal := { s.heal with ledgerQ := rest },
                         flash := { putLedger s.flash (ledgerPair s.flash ++ [{ a := some r, b := some r }]) with
                                      seqNext := nextSeq s.flash + 1 } }
      let s2 := retireFenced s1 j
      let s3 := match j.cmd with
                | none => s2
                | some (n, tag, ring, q, st) => complete s2 n (comp tag ring st (goodOf s2 n) 0 q)
      countRetire s3 j)

/-- The live records of a ledger: the first per retired core and die, the latest MARGIN record per die (R27, R31). -/
def liveRecs (l : List LRec) : List LRec :=
  let keepFirst (t : Nat) : List LRec :=
    (l.filter (fun r => r.type == t)).foldl (fun k r => if k.any (fun q => q.target == r.target) then k else k ++ [r]) []
  let last : List LRec :=
    (l.filter (fun r => r.type == 3)).foldl (fun k r => k.filter (fun q => q.target != r.target) ++ [r]) []
  (keepFirst 1).filter (fun r => decide (r.target < nCores)) ++ keepFirst 2 ++ last

/-- Records numbered from `n` on, in both copies. -/
def renumber : Nat → List LRec → List LPos
  | _, [] => []
  | n, r :: t => { a := some { r with seq := n }, b := some { r with seq := n } } :: renumber (n + 1) t

/-- LEDGER_COMPACTION: the live records go to the fresh sector pair, numbered on from the highest SEQ, and the old pair is
erased once the new one is verified (R31). -/
def execLedgerCompaction (s : State) : Host.Outcome State Fault Refusal :=
  let f := s.flash
  let l := renumber (nextSeq f) (liveRecs ((ledgerPair f).filterMap posRec))
  let g := { f with seqNext := nextSeq f + l.length }
  .next { s with flash := if f.usePair1 then { g with pair0 := l, pair1 := [], usePair1 := false }
                          else { g with pair1 := l, pair0 := [], usePair1 := true } }

end Sys2Proof.Machine
end

