-- ==== Sys2Proof/Machine/Dump.lean ====
section
/-! DEFINITION. The dump of a basin reset (R423 to R431): its units, blocks and records, the secure stream, their delivery,
and the arming of a debug dump (R370). -/

namespace Sys2Proof.Machine

/-! ### Units of a core (R424) -/

/-- Free bytes for the parts of a unit whose form the spec leaves to the implementation (log 8). -/
def freeBytes (s : State) (k i n : Nat) : List Byte := leBytes n (Config.freeBits (s.free + 16 * k + i)).toNat

/-- State of a task slot as its unit codes it (R424). -/
def SlotSt.code : SlotSt → Nat
  | .noCode => 0
  | .running => 1
  | .waitOp => 2
  | .queueRoom => 3
  | .credit => 4
  | .sync => 5
  | .stopped => 6
  | .afterEnd => 7

/-- Done counts since the firing began, 12 bits each (R424). -/
def doneWord (t : Slot) : Nat :=
  (List.range 5).foldl (fun a d => a + (doneAt t d - tabGet t.base d 0) % 4096 * 2 ^ (12 * d)) 0

/-- TASK: 64 bytes for a task slot. -/
def taskBytes (t : Slot) : List Byte :=
  leBytes 1 t.st.code ++ leBytes 2 t.stopEv ++ leBytes 2 t.pc ++ leBytes 3 0 ++ leBytes 8 t.firing ++ leBytes 8 t.mb ++
    (List.range 4).flatMap (fun i => leBytes 8 (tabGet t.idx i 0).toNat) ++ leBytes 8 (doneWord t)

/-- Tile state: owner, anchor, pending drain, flags ORed over the tile, one byte each (log 33). -/
def tileBytes (c : Core) (i : Nat) : List Byte :=
  let t := tabGet c.tiles i {}
  leBytes 1 (match t.owner with
             | none => 0
             | some o => 8 + o % 8) ++ leBytes 1 t.anchor ++ leBytes 1 (b2n (c.drains.any (fun d => mxTile d.ent.cmd == i))) ++
    leBytes 1 (b2n (t.acc.any (fun a => a.2.sat)) + 2 * b2n (t.acc.any (fun a => a.2.invalid)) +
      4 * b2n (t.poisonAll || t.acc.any (fun a => a.2.poison)))

/-- Table state: owner, EMPTY, poisoned, one byte each and a zero byte (log 33). -/
def lutBytes (c : Core) (i : Nat) : List Byte :=
  let t := tabGet c.luts i {}
  leBytes 1 (match t.owner with
             | none => 0
             | some o => 8 + o % 8) ++ leBytes 1 (b2n t.data.isNone) ++ leBytes 1 (b2n t.poison) ++ leBytes 1 0

/-- Loop indices of a descriptor's chunk (R146). -/
def loopIdx (d : BitVec 512) (n : Nat) : List Nat :=
  [n % max 1 (sdCount d 0), n / max 1 (sdCount d 0) % max 1 (sdCount d 1),
   n / (max 1 (sdCount d 0) * max 1 (sdCount d 1)) % max 1 (sdCount d 2),
   n / (max 1 (sdCount d 0) * max 1 (sdCount d 1) * max 1 (sdCount d 2))]

/-- Bytes of one chunk or block of a descriptor (R146). -/
def partLen (d : BitVec 512) : Nat := if sdMode d = 0 then sdChunk d else sdRows d * sdCols d * xw d

/-- Bytes that a store's source still owes its descriptor (R149, R424). -/
def owedBytes (x : Strm) : Nat :=
  match genEnt x with
  | none => 0
  | some e => sdTotal e.d * partLen e.d - (x.chunk * partLen e.d + x.pos) - (srcBytes x e.d).length

/-- LS0, LS1, ST: queue entries, then progress: i0 to i3, outstanding lines, W and bytes owed, 8 bytes each (log 33). -/
def strmBytes (c : Core) (u : Nat) : List Byte :=
  let x := strmAt c u
  fitBytes 512 (x.q.flatMap (fun e => leBytes 64 e.d.toNat)) ++
    (match genEnt x with
     | none => leBytes 8 0
     | some e => (loopIdx e.d x.chunk).flatMap (leBytes 2)) ++
    leBytes 8 (linesOut x) ++ leBytes 8 x.w ++ leBytes 8 (if u = 2 then owedBytes x else 0)

/-- A command waits on an inbound endpoint with nothing at its head (R179, R424). -/
def epWaited (c : Core) (e : Nat) : Bool :=
  let i := inAt c e
  inQdepth i != 0 && inPort i != 4 && (takerOf c e (inPort i)).isSome && !tabHas i.fixed (i.h % inQdepth i)

/-- Valid bitmap of the offsets from h of the fixed entries (R424). -/
def validMap (i : InEp) : Nat :=
  (List.range (min 256 (inQdepth i))).foldl (fun a o => a + b2n (tabHas i.fixed ((i.h + o) % inQdepth i)) * 2 ^ o) 0

/-- The head message's 16 bytes, zero for a token's payload and where there is none (R424). -/
def headBytes (i : InEp) : List Byte :=
  match i.fixed.find? (fun e => e.1 == i.h % max 1 (inQdepth i)) with
  | none => leBytes 16 0
  | some e => if e.2.token then leBytes 16 0 else leBytes 16 e.2.data

/-- IN_EP: 64 bytes for an inbound endpoint. -/
def inEpBytes (c : Core) (e : Nat) : List Byte :=
  let i := inAt c e
  leBytes 2 i.h ++ leBytes 1 (inExpect i) ++ leBytes 1 i.pend ++ leBytes 2 (spillCount i) ++ leBytes 1 (b2n (epWaited c e)) ++
    leBytes 1 0 ++ leBytes 32 (validMap i) ++ headBytes i ++ leBytes 8 0

/-- OUT_EP: 16 bytes for an outbound endpoint. -/
def outEpBytes (c : Core) (e : Nat) : List Byte :=
  let o := outAt c e
  leBytes 2 o.seq ++ leBytes 2 (minCredit o) ++ leBytes 1 o.w ++ leBytes 3 0 ++ leBytes 8 o.retired

/-- The content of unit `u` of core `k` (R424). -/
def unitBytes (s : State) (k u : Nat) : List Byte :=
  let c := coreAt s k
  match u with
  | 0 => (List.range 8).flatMap (fun i => taskBytes (slotAt c i))
  | 1 => fitBytes 512 (c.mxq.flatMap (fun e => leBytes 32 e.cmd.toNat)) ++ (List.range 4).flatMap (tileBytes c) ++ freeBytes s k 0 16
  | 2 => fitBytes 768 (c.vcq.flatMap (fun e => leBytes 96 e.cmd.toNat)) ++ (List.range 4).flatMap (lutBytes c)
  | 3 => strmBytes c 0
  | 4 => strmBytes c 1
  | 5 => strmBytes c 2
  | 6 => (List.range 32).flatMap (inEpBytes c)
  | 7 => (List.range 32).flatMap (outEpBytes c)
  | 8 => fitBytes 512 ((List.range c.sync.length).flatMap (fun i => freeBytes s k (1 + i / 8) 64 |>.drop (8 * (i % 8)) |>.take 8))
  | 9 => (List.range 77).flatMap (fun i => leBytes 8 (tabGet c.ctr i 0))
  | _ => []

/-! ### Units of a basin (R424) -/

/-- SYNC_ENGINE: 8 bytes for an object. -/
def objBytes (s : State) (b o : Nat) : List Byte :=
  match objAt s b o with
  | none => leBytes 8 0
  | some x => leBytes 4 (if x.isToken then x.count else x.phase) ++ leBytes 2 x.cur.length ++
      leBytes 2 (if x.isToken then x.waiting.length else x.nxt.length)

/-- HBM_CTRL: 16 bytes for a pseudo-channel; the flags are refresh, recalibration and repair in bits 0 to 2 (log 33). -/
def pcBytes (s : State) (b pc : Nat) : List Byte :=
  let h := hbmAt s b
  let l := h.queue.filter (fun p => pcOf p.addr == pc)
  leBytes 2 l.length ++
    (match l with
     | [] => leBytes 6 0
     | p :: _ => leBytes 2 p.reqId ++ leBytes 2 p.reqUnit ++ leBytes 2 p.srcCore) ++
    leBytes 1 (b2n (h.refreshing.contains pc) + 2 * b2n (decide (tabGet h.recalTries (pc / 2) 0 ≠ 0))) ++ leBytes 7 0

/-! ### Blocks (R425) -/

/-- A block: its header, its content and padding to whole 8 bytes; an answer that does not come is NO_RESPONSE. -/
def blockBytes (core unit slot : Nat) (content : Option (List Byte)) : List Byte :=
  let l := content.getD []
  leBytes 8 (core % 2 ^ 14 + unit % 16 * 2 ^ 16 + b2n content.isNone * 2 ^ 20 + l.length % 65536 * 2 ^ 32 + slot % 65536 * 2 ^ 48) ++
    fitBytes (8 * ceilDiv l.length 8) l

/-- The cores that a collection reads: those that held a station or were UNDER_TEST (R424). -/
def dumpCores (s : State) (b : Nat) : List Nat :=
  (coresOfBasin b).filter (fun k => (coreAt s k).slot.isSome || (coreAt s k).st == .underTest)

/-- A core's control node lies in a hard gap, so that its units give no response (R423, R433). -/
def noAnswer (s : State) (k : Nat) : Bool := isGap s (dieOf k)

/-- The blocks of a basin in collection order, each with whether it is NO_RESPONSE (R424, R425). -/
def basinBlocks (s : State) (b : Nat) : List (List Byte × Bool) :=
  (dumpCores s b).flatMap (fun k => (List.range 10).map (fun u =>
    (blockBytes k u ((coreAt s k).slot.getD 0xFFFF) (if noAnswer s k then none else some (unitBytes s k u)), noAnswer s k))) ++
  [(blockBytes 0x3FFF 0xA 0xFFFF (if isGap s (memDie b) then none else some ((List.range 256).flatMap (objBytes s b))),
     isGap s (memDie b)),
   (blockBytes 0x3FFF 0xB 0xFFFF (if isGap s (memDie b) then none else some ((List.range 32).flatMap (pcBytes s b))),
     isGap s (memDie b))]

/-- Whole blocks packed into records of at most 127 units (R427). -/
def packBlocks : List Byte → List (List Byte) → List (List Byte)
  | acc, [] => if acc.isEmpty then [] else [acc]
  | acc, b :: t =>
    if acc.length + b.length ≤ 4064 then packBlocks (acc ++ b) t
    else if acc.isEmpty then b :: packBlocks [] t
    else acc :: packBlocks b t

/-- A list cut into pieces of `n`, at most `fuel` of them. -/
def cutList (n : Nat) : Nat → List Byte → List (List Byte)
  | 0, _ => []
  | f + 1, l => if l.isEmpty then [] else l.take n :: cutList n f (l.drop n)

/-! ### The secure stream (R431) -/

/-- A scratchpad byte as the secure stream reads it: a powered-down sub-bank reads as zero. -/
def secureMem (c : Core) : Mem := c.mem.filter (fun e => c.bankOn.contains (subBank e.1))

/-- The bitmap of the lines read with poison. -/
def poisonMap (c : Core) : Nat :=
  (sortNat (c.poisonCw.map (fun a => a / 64))).foldl (fun m i => m + 2 ^ i) 0

/-- The four accumulator tiles, row by row, in the stored form of R72. -/
def accBytes (c : Core) : List Byte :=
  (List.range 4).flatMap (fun i =>
    let t := tabGet c.tiles i {}
    (List.range 2304).flatMap (fun j => leBytes 16 (esfPack (accEsf t.anchor t.poisonAll (tabGet t.acc j {})))))

/-- Lane state of a task slot: C0 to C3, S0 to S7, T and P. -/
def laneBytes (t : Slot) : List Byte :=
  (List.range 4).flatMap (fun i => fitBytes 256 ((tabGet t.const i {}).lanes.flatMap (fun v => leBytes 4 v.toNat))) ++
    (List.range 8).flatMap (fun i => leBytes 16 (tabGet t.scal i {}).v.toNat) ++
    fitBytes 256 (t.t.lanes.flatMap (fun v => leBytes 4 v.toNat)) ++
    leBytes 8 (((List.range 64).filter (fun i => nth t.p i false)).foldl (fun a i => a + 2 ^ i) 0)

/-- The inbound message store: the fixed entries endpoint by endpoint. -/
def storeBytes (c : Core) : List Byte :=
  fitBytes 16384 ((List.range 32).flatMap (fun e =>
    let i := inAt c e
    (List.range (inQdepth i)).flatMap (fun q =>
      match i.fixed.find? (fun x => x.1 == q) with
      | none => leBytes 16 0
      | some x => leBytes 16 x.2.data)))

/-- The secure stream of one core (R431). -/
def secureCore (s : State) (k : Nat) : List Byte :=
  let c := coreAt s k
  let head (no len : Nat) : List Byte :=
    leBytes 2 k ++ leBytes 2 (c.slot.getD 0xFFFF) ++ leBytes 1 no ++ leBytes 3 0 ++ leBytes 8 len
  if noAnswer s k then head 1 0
  else
    head 0 4915392 ++ memRead (secureMem c) 0 4718592 ++ leBytes 9216 (poisonMap c) ++ accBytes c ++
      (List.range 8).flatMap (fun i => laneBytes (slotAt c i)) ++
      (List.range 4).flatMap (fun i => fitBytes 3104 ((tabGet c.luts i {}).data.getD [])) ++ storeBytes c

/-- The secure plaintext of a basin, core by core as in the control part. -/
def secureStream (s : State) (b : Nat) : List Byte := (dumpCores s b).flatMap (secureCore s)

/-- The secure part's records: the wrapped key, which is a free value, then the stream with its 16-byte tag. The model holds the
stream before encryption (R371, R427, R431, log 34). -/
def secureRecs (s : State) (b : Nat) : List (Nat × List Byte) :=
  let key : List Byte := (List.range 6).flatMap (fun i => freeBytes s 9216 i 64)
  let l := secureStream s b ++ freeBytes s 9216 6 16
  (3, key) :: (cutList 4064 (l.length / 4064 + 1) l).map (fun x => (4, x))

/-! ### Dumps (R426 to R429) -/

/-- The stack that stages a dump: the basin's own, else the lowest of the context whose stack is in service; none where the
basin already stages 8 (R426). -/
def dumpHome (s : State) (n b : Nat) : Option Nat :=
  if 8 ≤ (s.rst.dumps.filter (fun d => d.basin == b)).length then none
  else if (hbmAt s b).withdrawn = false then some b
  else (grantOf s n).find? (fun j => !(hbmAt s j).withdrawn)

/-- A basin is armed for a debug dump within its 600 s (R430). -/
def isArmed (s : State) (b : Nat) : Bool :=
  match (basinAt s b).armed with
  | none => false
  | some t => decide (s.sup.ticks - t < 15000000000)

/-- The dump of one basin as its collection stages it; the SUMMARY follows when the basins are ready (R424 to R428). -/
def collectDump (s : State) (r : Reset) (b : Nat) : Dump :=
  let bl := basinBlocks s b
  let home := dumpHome s r.ctx b
  let sec := isArmed s b && home.isSome
  let units := (packBlocks [] (bl.map (·.1))).map (fun x => (1, x))
  { ctx := r.ctx, no := r.dumpNo, basin := b, home := home, summary := [],
    records := if home.isNone then [] else units ++ (if sec then secureRecs s b else []),
    index := 0, secure := sec, ready := false, blocks := bl.length, noResp := (bl.filter (·.2)).length,
    staged := sumOf (bl.map (fun x => x.1.length)), plain := if sec then (secureStream s b).length else 0 }

/-- The dump that is delivered next for a context: dump numbers first, then basins (R429). -/
def nextDump (s : State) (n : Nat) : Option Dump :=
  (s.rst.dumps.filter (fun d => d.ctx == n && d.ready)).foldl (fun best d =>
    match best with
    | none => some d
    | some e => if d.no < e.no ∨ (d.no = e.no ∧ d.basin < e.basin) then some d else best) none

/-- CODE_OR_COUNT of a DUMP record (R427). -/
def dumpCode (d : Dump) (kind : Nat) (last cut : Bool) : Nat :=
  kind + d.basin * 16 + b2n last * 256 + b2n cut * 512 + b2n d.secure * 1024

/-- A DUMP record (R427). -/
def dumpRec (d : Dump) (kind : Nat) (body : List Byte) (last cut : Bool) : MsgRec :=
  bytesRec 11 (dumpCode d kind last cut) (d.no % 2 ^ 32 + d.index % 2 ^ 32 * 2 ^ 32) (2 ^ d.basin) body

/-- The record of a dump that is delivered next, with the dump that is left, none when it was the last; one whose staging is
gone is closed by a SUMMARY with CUT and LAST (R426, R427, R429, R433). -/
def nextDumpRec (s : State) (d : Dump) : MsgRec × Option Dump :=
  let lost := match d.home with
              | none => true
              | some h => (hbmAt s h).withdrawn
  if d.index = 0 then
    (if lost || d.records.isEmpty then (dumpRec d 0 d.summary true lost, none)
     else (dumpRec d 0 d.summary false false, some { d with index := 1 }))
  else if lost then (dumpRec d 0 d.summary true true, none)
  else
    match d.records with
    | [] => (dumpRec d 0 d.summary true true, none)
    | (k, b) :: t => (dumpRec d k b t.isEmpty false, if t.isEmpty then none else some { d with index := d.index + 1, records := t })

/-- DUMP_RECORD_DELIVER: the next record of a context's dumps enters its message store where there is room (R427, R429). -/
def execDumpRecordDeliver (ctx : Nat) (s : State) : Host.Outcome State Fault Refusal :=
  runUnit ctx 16 (fun s =>
    match nextDump s ctx with
    | none => s
    | some d =>
      let r := nextDumpRec s d
      if 8192 < storeUnits (ctxAt s ctx).store + r.1.units then s
      else
        postMsg { s with rst := { s.rst with dumps := s.rst.dumps.flatMap (fun e => if e = d then r.2.toList else [e]) } } ctx r.1) s

/-! ### Arming (R370, R430) -/

/-- DEBUG_DUMP: the owner's token arms the basins that both its mask and PART_MASK name for 600 s, or arms nothing and
completes with DUMP_REFUSED (R361, R362, R370, R430). -/
def execDebugDump (ctx : Nat) (auth : DumpAuth) (s : State) : Host.Outcome State Fault Refusal :=
  hostCmd ctx 0xE (fun s h =>
    let part := cmdField h 20 2
    let tok := auth.mask % 65536
    let use := if part = 0 then bitList 16 tok else bitList 16 part
    let ok := cmdField h 16 4 != 0 && tokenStatus s auth.tok 0x20 (lcState s.fuse == 2) (byOwner s auth.tok) == 0 &&
      auth.ctx == ctx && auth.byte3 == 0 && (bitList 16 tok).all (fun b => (basinAt s b).ctx == some ctx) &&
      (bitList 16 part).all (fun b => bitAt tok b)
    let s1 := useNonce s auth.tok
    if ok then
      endCmd (forEach use (fun s b => putBasin s b { basinAt s b with armed := some s.sup.ticks }) s1) ctx h 0 0 0
    else failCmd s1 ctx h 0x14) s

/-- ARM_LAPSE: the arming of a basin lapses after 600 s (R430). -/
def execArmLapse (basin : Nat) (s : State) : Host.Outcome State Fault Refusal :=
  runUnit basin 16 (fun s =>
    if (basinAt s basin).armed.isSome ∧ isArmed s basin = false then putBasin s basin { basinAt s basin with armed := none }
    else s) s

end Sys2Proof.Machine
end

