-- ==== Sys2Proof/Machine/Reset.lean ====
section
/-! DEFINITION. Basin resets (R418 to R422, R433): the partial drain, the stop, the clear, and the restart or hold of the
layout. -/

namespace Sys2Proof.Machine

/-! ### Before step 1 (R420) -/

/-- No station of a context has made progress for 50 µs (R420). -/
def noProgress (s : State) (n : Nat) : Bool :=
  (stationCores s n).all (fun k => decide (1250 ≤ s.sup.ticks - (coreAt s k).lastProgress))

/-- A station with a stopped task slot counts as complete in a partial drain (R420). -/
def faultStopped (c : Core) : Bool := (List.range 8).any (fun i => (slotAt c i).st == .stopped)

/-- PARTIAL_DRAIN_COMPLETE: every station of the set has run through the cut, or nothing has moved for 50 µs (R420). -/
def execPartialDrainComplete (s : State) : Host.Outcome State Fault Refusal :=
  .next (match s.rst.cur with
    | none => s
    | some r =>
      if r.stage = .partialDrain ∧
         ((coresIn s r.set).all (fun k => ranTo (coreAt s k) (r.cut + 1) || faultStopped (coreAt s k)) = true ∨ noProgress s r.ctx = true)
      then { s with rst := { s.rst with cur := some { r with stage := .waiting } } }
      else s)

/-! ### Step 1 (R421, R433) -/

/-- Drains of a context end with a reset; the command behind one completes with ABORTED (R332). -/
def dropDrains (s : State) (n : Nat) : State :=
  forEach (s.mesh.drains.filter (fun d => d.ctx == n)) (fun s d => abortDrain (dropDrain s d) d) s

/-- A die path in progress gives its quiesce up: its die is fenced with nothing carried, or its fall-back begins anew (R433). -/
def dropPath (s : State) (p : DiePath) : State :=
  if !p.begun || p.settling || p.proof then s
  else if p.margin then putPath s p (some { p with begun := false })
  else fencePath s p false

/-- A move that waits for its copy: the new core keeps the slot, the old one is cleared (R155, R433). -/
def dropMove (s : State) (m : Move) : State :=
  let c := coreAt s m.from_
  let s1 := { s with mesh := { s.mesh with moves := s.mesh.moves.erase m } }
  putCore s1 m.from_ (match c.st with
                      | .inUse => { clearedCore c with st := .spare }
                      | .spare => clearedCore c
                      | .underTest => clearedCore c
                      | .fenced => clearedCore c
                      | .retired => clearedCore c
                      | .shipDefect => clearedCore c)

/-- The steps of a context that have not closed (R90). -/
def openSteps (x : Ctx) : List Nat :=
  let from_ := match x.closed with
               | none => 0
               | some c => c + 1
  (List.range (x.stepNum + 1 - from_)).map (· + from_)

/-- TAKEs that wait at the engines of a set are discarded; waiting task slots elsewhere raise SYNC_LOST, a layout fault (R250,
R251). -/
def dropTakes (s : State) (n : Nat) (set : List Nat) : State :=
  let ws := set.flatMap (fun b => (basinAt s b).objs.flatMap (fun o => o.2.waiting))
  let s1 := forEach set (fun s b =>
    putBasin s b { basinAt s b with objs := (basinAt s b).objs.map (fun o => (o.1, { o.2 with waiting := [] })) }) s
  forEach ws (fun s w =>
    match coreOfSlot s w.1 with
    | none => s
    | some k =>
      if set.contains (basinOf k) then s
      else
        triggerReset (postEvent (putCore s k (stopSlot (coreAt s k) w.2 evSyncLost)) n evSyncLost (2 ^ basinOf k) w.1 w.2
          noFld noFld k 0 0 0) n [basinOf k] evSyncLost w.1 true) s1

/-- Step 1: the cores of the set are HELD, stations elsewhere stop issuing, and what was in hand for the context is given up
(R90, R417, R421, R433). -/
def stopSet (s : State) (r : Reset) : State :=
  let n := r.ctx
  let s1 := (s.heal.paths.filter (fun p => p.ctx == some n)).foldl dropPath (dropDrains s n)
  let s2 := (s1.mesh.moves.filter (fun m => (basinAt s1 (basinOf m.to_)).ctx == some n)).foldl dropMove s1
  let s3 := forEach (s2.heal.checks.filter (fun c => (basinAt s2 (basinOf c.core)).ctx == some n)) abandonCheck s2
  let s4 := { s3 with rst := { s3.rst with cur := some { r with stage := .collect, start := s3.sup.ticks } } }
  let s5 := forEach r.set enterReset s4
  let x := ctxAt s5 n
  let s6 := if x.layout.isNone then s5 else putCtx s5 n { x with voids := sortNat (x.voids ++ openSteps x) }
  dropTakes s6 n r.set

/-- BASIN_RESET: a reset that waits begins with step 1 (R421). -/
def execBasinReset (s : State) : Host.Outcome State Fault Refusal :=
  .next (match s.rst.cur with
    | none => s
    | some r => if r.stage = .waiting then stopSet s r else s)

/-! ### Steps 2 to 5 (R421, R424, R426, R430) -/

/-- A core cleared at step 4: it keeps its slot, its counters restart from zero, and a core under test is SPARE again (R156,
R418). -/
def resetCoreSite (c : Core) : Core :=
  let d := { clearedCore c with slot := c.slot, ctr := [], chCtr := [], misdeliver := 0, cmarkHalve := 0 }
  match c.st with
  | .underTest => { d with st := .spare }
  | .inUse => d
  | .spare => d
  | .fenced => d
  | .retired => d
  | .shipDefect => d

/-- The requests that a stack still holds when it has retrained: each was made during the reset and is answered as lost; a withdrawn
stack's are refused when they are taken (R256, R269, R271). -/
def loseRequests (s : State) (b : Nat) : State :=
  let h := hbmAt s b
  if h.withdrawn then putHbm s b { h with resetting := false, queue := [], wbq := [] }
  else
    forEach h.inQ (fun s p => hbmAnswer s b p (poisonZeros p.len) true evHbmResetLost)
      (putHbm s b { h with resetting := false, selfRef := false, inQ := [], queue := [], wbq := [] })

/-- Steps 4 and 5 in one basin: cores cleared, the sync engine at its definitions, the stack retrained with its contents kept,
the arming used up (R250, R269, R418, R421, R430). -/
def clearSet (n : Nat) (s : State) (b : Nat) : State :=
  let s1 := forEach (listedIn s b) (fun s k => putCore s k (resetCoreSite (coreAt s k))) s
  let s2 := defineObjs s1 n [b]
  let s3 := forEach (s2.mesh.sync.filter (fun p => p.home == b)) dropSync s2
  let s4 := loseRequests s3 b
  let x := basinAt s4 b
  putBasin s4 b { x with wedge := false, underTest := none, armed := none,
                         testOrder := x.testOrder ++ x.underTest.toList }

/-- DUMP_COLLECT_COMPLETE: the dump of every basin of the set is staged, then its cores and engines are cleared; a stack that
does not retrain is withdrawn (R421, R424 to R426, R433). -/
def execDumpCollectComplete (hbmRetrainOk : Bool) (s : State) : Host.Outcome State Fault Refusal :=
  .next (match s.rst.cur with
    | none => s
    | some r =>
      if r.stage ≠ .collect then s
      else
        let s1 := { s with rst := { s.rst with dumps := s.rst.dumps ++ r.set.map (collectDump s r) }, free := s.free + 16 * 9217 }
        let s2 := forEach r.set (clearSet r.ctx) s1
        let s3 := if hbmRetrainOk then s2 else withdrawStack s2 (r.set.headD 0)
        { s3 with rst := { s3.rst with cur := some { r with stage := .ready, hbmFail := !hbmRetrainOk } } })

/-! ### Step 6: restart or hold (R422, R428, R432) -/

/-- Restarts of a layout in the last 600 s (R422). -/
def recentRestarts (s : State) (x : Ctx) : List Nat := x.restarts.filter (fun t => decide (s.sup.ticks - t < 15000000000))

/-- Why a layout is held, if it is: 2 a stack out of service, 1 PARTS above 1, 0 two restarts already (R422, R432, R433). -/
def holdCause (s : State) (n : Nat) (l : Layout) : Option Nat :=
  if (grantOf s n).any (fun b => !(hbmAt s b).inService || (hbmAt s b).withdrawn) then some 2
  else if 1 < l.parts then some 1
  else if 2 ≤ (recentRestarts s (ctxAt s n)).length then some 0
  else none

/-- Slots of a layout that run on no core: those of a stack retired as a hard gap (R398). -/
def lostSlots (s : State) (l : Layout) : List Nat :=
  (sortNat (l.stations.map (·.slot))).filter (fun t => (coreOfSlot s t).isNone)

/-- A slot placed afresh on the lowest free core of its home basin, else of another granted one; its map entry follows at the
forced boundary (R398, R308, log 12). -/
def placeLost (n : Nat) (s : State) (slot : Nat) : State :=
  let ok (k : Nat) : Bool := (coreAt s k).st == .spare && !(coreAt s k).reserved && !(coreAt s k).held
  let bs := grantOf s n
  match ((slot / 1024 % 16 :: bs).flatMap coresOfBasin).find? (fun k => ok k && bs.contains (basinOf k)) with
  | none => s
  | some k =>
    let s1 := putCore s k { coreAt s k with st := .inUse, slot := some slot }
    { s1 with mesh := { s1.mesh with staged := s1.mesh.staged ++ [{ ctx := n, moves := [(slot, nCores, k)] }] } }

/-- A layout's sections and firing numbers at restart microbatch `m` (R211, R422). -/
def firedAt (l : Layout) (m : Nat) : Layout :=
  { l with fired := (numbered l).map (fun p => (p.1, m * p.2.firePerMb)), idxRegs := [], running := false }

/-- The restart of a layout at microbatch `m` (R177, R209, R308, R422). -/
def restartLayout (s : State) (n m : Nat) (set : List Nat) (l0 : Layout) : State :=
  let l := firedAt l0 m
  let bs := grantOf s n
  let s1 := forEach bs (fun s b => putBasin s b { basinAt s b with sectFrom := m }) (forEach (lostSlots s l) (placeLost n) s)
  let x := ctxAt s1 n
  let s2 := putCtx s1 n { x with layout := some l, forced := true, owed := true, restarts := recentRestarts s x ++ [s.sup.ticks] }
  let s3 := advanceGens s2 n bs
  let place := (sortNat (l.stations.map (·.slot))).filterMap (fun t => (coreOfSlot s3 t).map (fun k => (t, k)))
  let s4 := forEach (residentOn s3 l place) (fun s e =>
    setStation s n e.1 e.2.1 l e.2.2 (m * e.2.2.firePerMb) (!set.contains (basinOf e.1) && (coreAt s e.1).station.isSome))
      (reserveCores s3 n l place)
  defineObjs (resetChannels s4 n bs) n bs

/-- The SUMMARY of a basin's dump (R428). -/
def summaryBytes (s : State) (r : Reset) (d : Dump) (outcome m : Nat) : List Byte :=
  leBytes 2 r.trigger ++ leBytes 2 (maskOf r.set) ++ leBytes 2 r.slot ++ leBytes 1 outcome ++
    leBytes 1 (basinAt s d.basin).gen ++ leBytes 8 r.cut ++ leBytes 8 (if outcome = 1 then 2 ^ 64 - 1 else m) ++
    leBytes 2 d.blocks ++ leBytes 2 d.noResp ++ leBytes 1 (recentRestarts s (ctxAt s r.ctx)).length ++ leBytes 3 0 ++
    leBytes 8 d.staged ++ leBytes 8 d.plain ++ leBytes 8 r.cutStep ++ leBytes 8 0

/-- SESSIONS records: the sessions with a request in an aborted microbatch, ascending (R427). -/
def sessionRecs (ids : List Nat) : List (Nat × List Byte) :=
  let l := ids.flatMap (leBytes 4)
  (cutList 4064 (l.length / 4064 + 1) l).map (fun b => (2, b))

/-- The dumps of a reset made ready for delivery (R427, R428). -/
def readyDumps (s : State) (r : Reset) (outcome m : Nat) (ids : List Nat) : State :=
  { s with rst := { s.rst with dumps := s.rst.dumps.map (fun d =>
      if d.no = r.dumpNo ∧ d.ready = false then
        { d with summary := summaryBytes s r d outcome m, ready := true,
                 records := if d.home.isNone then [] else sessionRecs ids ++ d.records }
      else d) } }

/-- A layout held: it admits nothing, its requests complete with ABORTED, and LAYOUT_HELD is raised (R422, R432). The highest
completed microbatch is a free value where none has completed (log 8). -/
def holdLayout (s : State) (n cause : Nat) (aborted : List Nat) : State :=
  let x := ctxAt s n
  let s1 := putCtx s n { x with layout := x.layout.map (fun l => { l with held := true, running := false }) }
  let first := aborted.headD x.nextMb
  let v := takeFree s1
  if first = 0 then ctxEvent v.2 n evLayoutHeld (maskOf (grantOf s n)) cause (v.1.toNat % 2 ^ 64) 0
  else ctxEvent s1 n evLayoutHeld (maskOf (grantOf s n)) cause (first - 1) 0

/-- Step 6 for one reset: BASIN_RESET, then the restart or the hold of the layout, then the dumps may be delivered (R421, R422,
R427, R432). -/
def finishReset (s : State) (r : Reset) : State :=
  let n := r.ctx
  let s1 := forEach r.set (fun s b => putBasin s b { basinAt s b with resetting := false }) s
  let s2 := ctxEvent s1 n evBasinReset (maskOf r.set) r.dumpNo (maskOf r.set) r.trigger
  let x := ctxAt s2 n
  match x.layout with
  | none => nextReset (readyDumps s2 r 2 x.nextMb [])
  | some l =>
    let cut := x.mbs.filter (fun m => m.admitted && !m.complete)
    let ids := sortNat (cut.flatMap (fun m => m.reqs.map (·.session)))
    let s3 := abortReloads (abortReqs s2 n 5) n
    match holdCause s3 n l with
    | some c => nextReset (readyDumps (holdLayout s3 n c (cut.map (·.num))) r 1 x.nextMb ids)
    | none =>
      let s4 := restartLayout s3 n x.nextMb r.set l
      let s5 := ctxEvent s4 n evLayoutRestarted (maskOf (grantOf s n)) x.nextMb cut.length (ctxAt s4 n).restarts.length
      nextReset (readyDumps s5 r 0 x.nextMb ids)

/-- The reset ends in a restart of its context's layout (R422). -/
def willRestart (s : State) (n : Nat) : Bool :=
  match (ctxAt s n).layout with
  | none => false
  | some l => (holdCause s n l).isNone

/-- BASIN_READY: every basin of the set is ready; a restart waits for its drain sweep (R209, R421 step 6, R422). -/
def execBasinReady (s : State) : Host.Outcome State Fault Refusal :=
  .next (match s.rst.cur with
    | none => s
    | some r => if r.stage = .ready ∧ (r.swept = true ∨ willRestart s r.ctx = false) then finishReset s r else s)

end Sys2Proof.Machine
end

