-- ==== Sys2Proof/Machine/Regs.lean ====
section
/-! DEFINITION. The set-up registers behind BAR0 (R434 to R451, R413, R414, R324, R375): what every offset reads as, posted
writes, applies, snaps, the core window and the alert registers. -/

namespace Sys2Proof.Machine

/-! ### Values by block -/

/-- A flag of each of 64 dies as one word. -/
def dieMask (f : Nat → Bool) : Nat := (List.range 64).foldl (fun a d => a + b2n (f d) * 2 ^ d) 0

/-- A flag of each of 24 ports as one word. -/
def portMask (f : Nat → Bool) : Nat := (List.range 24).foldl (fun a p => a + b2n (f p) * 2 ^ p) 0

/-- GLB_GRID_STATUS (R36). -/
def gridStatus (s : State) : Nat :=
  let ls := (List.range 16).filterMap (fun n => (ctxAt s n).layout)
  goodAll s % 2 ^ 14 + sumOf (ls.map (·.slots)) % 2 ^ 14 * 2 ^ 14 + b2n (ls.any (·.replace)) * 2 ^ 28 +
    b2n s.glb.ledgerDamaged * 2 ^ 29

/-- A word of GLB_CORE_MAP (R442). -/
def coreMapWord (s : State) (i : Nat) : Nat :=
  (List.range 16).foldl (fun a j => a + (coreAt s (16 * i + j)).st.code * 2 ^ (4 * j)) 0

/-- The GLB_ block (R441, R442). BUSY reads 0 between commands (log 16). -/
def glbReg (s : State) (o : Nat) : Nat :=
  match o with
  | 0x00 => s.fuse.orderCode % 4 + 0xA1 * 2 ^ 8 + s.sup.fwMajor % 65536 * 2 ^ 16 + s.sup.fwMinor % 65536 * 2 ^ 32 +
      s.sup.fwPatch % 65536 * 2 ^ 48
  | 0x08 => s.fuse.serial
  | 0x10 => gridStatus s
  | 0x18 => 2 * b2n s.glb.ready
  | 0x20 => s.glb.alert
  | 0x28 => s.glb.alertEn
  | 0x30 => s.glb.winSel
  | 0x38 => s.glb.winStatus
  | 0x40 => s.glb.voteFix
  | 0x48 => s.glb.voteFail
  | 0x50 => s.glb.writeLost
  | _ => if 0x1000 ≤ o ∧ o < 0x2200 then coreMapWord s ((o - 0x1000) / 8) else 0

/-- The SEC_ block (R375). -/
def secReg (s : State) (o : Nat) : Nat :=
  let t := s.trust
  match o with
  | 0x00 => lcState s.fuse + s.fuse.lcCount % 64 * 2 ^ 8 + s.fuse.svn % 128 * 2 ^ 16 + b2n t.debugOpen * 2 ^ 24
  | 0x08 => t.bootSource % 4 + t.failReason % 256 * 2 ^ 8 + (if s.sup.phase = .recovery then 0 else s.sup.fwMajor % 65536) * 2 ^ 16
  | 0x10 => t.rcvAddr
  | 0x18 => t.rcvLen
  | 0x28 => b2n t.rcvBusy + t.rcvPhase % 8 * 2 + b2n t.rcvDone * 16 + t.rcvResult % 256 * 2 ^ 8
  | _ => 0

/-- Die paths and fall-backs in progress, until their map has committed (R397, R414). -/
def diePaths (s : State) : Nat :=
  (s.heal.paths.filter (fun p => p.core.isNone)).length +
    ((List.range 64).filter (fun d => (dieAt s d).retired &&
      s.mesh.staged.any (fun c => c.moves.any (fun m => decide (m.2.1 < nCores) && dieOf m.2.1 == d)))).length

/-- The TST_ block (R413, R414). -/
def tstReg (s : State) (o : Nat) : Nat :=
  match o with
  | 0x00 => s.tst.idleCfg
  | 0x08 => s.tst.checkCfg
  | 0x10 => s.tst.digestCfg
  | 0x18 => s.tst.fenceCfg
  | 0x20 => ((List.range 16).filter (fun b => (basinAt s b).underTest.isSome)).length * 16 + diePaths s % 256 * 2 ^ 16
  | _ => if 0x100 ≤ o ∧ o < 0x1C0 then tabGet s.tst.shadow ((o - 0x100) / 8) 0 else 0

/-- The CLK_ block (R451). -/
def clkReg (s : State) (o : Nat) : Nat :=
  match o with
  | 0x00 => 2 * b2n s.clk.refOk + 4 * b2n s.clk.pcieRefOk
  | 0x08 => dieMask (fun d => (dieAt s d).pll)
  | 0x10 => dieMask (fun d => decide (bits (dieAt s d).margin 3 2 ≠ 0))
  | 0x18 => s.clk.starts
  | _ => 0

/-- A word of PWR_DIE_MARGIN (R451). -/
def marginWord (s : State) (i : Nat) : Nat :=
  (List.range 16).foldl (fun a j => a + (dieAt s (16 * i + j)).margin % 16 * 2 ^ (4 * j)) 0

/-- The PWR_ block (R451). -/
def pwrReg (s : State) (o : Nat) : Nat :=
  match o with
  | 0x00 => 2 * b2n s.pwr.inRange
  | 0x08 => s.pwr.mv10 % 65536 + s.pwr.ma100 % 65536 * 2 ^ 16 + s.pwr.watts % 65536 * 2 ^ 32
  | 0x10 => s.pwr.energy
  | _ => if 0x18 ≤ o ∧ o < 0x38 then marginWord s ((o - 0x18) / 8) else 0

/-- The code of a context state (R321). -/
def CtxSt.code : CtxSt → Nat
  | .free => 0
  | .active => 1
  | .stopping => 2
  | .quarantine => 3
  | .clearing => 4

/-- The set-up page of a context (R313, R324). -/
def hstReg (s : State) (n o : Nat) : Nat :=
  let x := ctxAt s n
  match o with
  | 0x000 => b2n x.enable
  | 0x008 => x.st.code + b2n x.applyErr * 16 + x.gen % 256 * 2 ^ 8
  | 0x010 => x.stg.grant
  | 0x018 => x.fabOut
  | 0x020 => x.stg.ioCfg
  | 0x028 => x.stg.sessPool
  | 0x030 => x.mbCfg
  | 0x038 => x.stepCfgNew
  | 0x040 => x.stg.fabId
  | 0x180 => x.stg.cqBase
  | 0x188 => x.stg.cqCfg
  | 0x190 => x.stg.msgBase
  | 0x198 => x.stg.msgCfg
  | 0x1A0 => x.ringStop % 256
  | 0x200 => x.stepNum
  | 0x208 => x.mbNum
  | 0x210 => x.advanced
  | 0x218 => x.heldCnt
  | 0x220 => x.ignored
  | 0x228 => x.miss
  | 0x230 => x.stepWait
  | 0x238 => x.msgLost
  | _ =>
    if 0x100 ≤ o ∧ o < 0x180 then
      (if o % 16 = 0 then tabGet x.stg.sqBase ((o - 0x100) / 16) 0 else tabGet x.stg.sqCfg ((o - 0x100) / 16) 0)
    else 0

/-- The basin block (R446). -/
def bsnReg (s : State) (b o : Nat) : Nat :=
  let x := basinAt s b
  let spare := ((coresOfBasin b).filter (fun k => (coreAt s k).st == .spare)).length
  match o with
  | 0x000 => b2n x.ctx.isSome + x.ctx.getD 0 % 16 * 2 + x.gen % 16 * 2 ^ 5 + b2n x.resetting * 2 ^ 9 +
      b2n (hbmAt s b).withdrawn * 2 ^ 10 + b2n x.armed.isSome * 2 ^ 11 + goodIn s [b] * 2 ^ 16 + spare * 2 ^ 26
  | 0x010 => x.wdog
  | 0x018 => x.drainLimit
  | 0x020 => x.placeVoteFix
  | _ => if 0x28 ≤ o ∧ o < 0x50 then tabGet x.syncCtr ((o - 0x28) / 8) 0 else 0

/-- The mesh block (R447). -/
def meshReg (s : State) (o : Nat) : Nat :=
  match o with
  | 0x000 => b2n s.mesh.applyErr * 4
  | 0x008 => s.mesh.colWait
  | 0x010 => s.mesh.thrStaged
  | 0x018 => b2n s.mesh.epoch + b2n s.mesh.oldBank * 2
  | 0x020 => s.mesh.flips
  | _ => 0

/-- The block of a stack (R448). -/
def hbmReg (s : State) (b o : Nat) : Nat :=
  let h := hbmAt s b
  match o with
  | 0x000 => b2n h.inService * 2 + b2n h.withdrawn * 4 + b2n h.selfRef * 8 + wrapInt 8 h.temp * 2 ^ 8
  | 0x008 => h.scrubCfg
  | 0x010 => h.recalCfg
  | 0x018 => h.srCfg
  | _ => if 0x100 ≤ o ∧ o < 0x760 then tabGet h.shadow ((o - 0x100) / 8) 0 else 0

/-- The fabric block (R449). -/
def fabReg (s : State) (o : Nat) : Nat :=
  match o with
  | 0x010 => portMask (fun p => (portAt s p).up)
  | 0x018 => portMask (fun p => (portAt s p).down)
  | _ =>
    if 0x100 ≤ o ∧ o < 0x300 then
      let x := ctxAt s ((o - 0x100) / 32)
      match o % 32 / 8 with
      | 0 => x.portSet % 2 ^ 24
      | 1 => x.fabEpoch % 65536 + bits x.act.fabId 35 20 * 2 ^ 16 + b2n x.fenced * 2 ^ 32 + b2n x.quarantined * 2 ^ 33
      | 2 => x.fabOut
      | _ => 0
    else 0

/-- A half of an endpoint table entry (R282, R449). -/
def entReg (s : State) (o : Nat) : Nat :=
  match s.fab.table.find? (fun e => e.1 == o / 16) with
  | none => 0
  | some (_, e) =>
    if o % 16 = 0 then e.peer % 2 ^ 20 + e.ctx % 16 * 2 ^ 20 + b2n e.valid * 2 ^ 24 + b2n e.keyed * 2 ^ 25 + e.plane % 2 ^ 24 * 2 ^ 32
    else e.switchDest % 65536 + e.keyIndex % 4096 * 2 ^ 16 + e.epoch % 65536 * 2 ^ 32 + e.peerGen % 256 * 2 ^ 48

/-- What the core window shows of a site (R445): its core part reads zero at a SHIP_DEFECT site (R444). -/
def siteReg (s : State) (k o : Nat) : Nat :=
  let c := coreAt s k
  if 0x1000 ≤ o ∧ o < 0x1370 then tabGet (routerAt s k).shadow ((o - 0x1000) / 8) 0
  else if c.st = .shipDefect then 0
  else if o = 0 then c.st.code + b2n c.slot.isSome * 16 + c.slot.getD 0 % 2 ^ 14 * 2 ^ 8
  else if 0x100 ≤ o ∧ o < 0x368 then tabGet c.shadowCtr ((o - 0x100) / 8) 0
  else if 0x400 ≤ o ∧ o < 0xB00 then tabGet c.chShadow ((o - 0x400) / 8) 0
  else if 0xB00 ≤ o ∧ o < 0xD00 then tabGet c.chShadow (224 + (o - 0xB00) / 8) 0
  else 0

/-- The register at an 8-byte-aligned offset of BAR0 (R434), the core window aside. -/
def barReg (s : State) (o : Nat) : Nat :=
  if o < 0x4000 then glbReg s o
  else if o < 0x4100 then secReg s (o - 0x4000)
  else if 0x5000 ≤ o ∧ o < 0x5200 then tstReg s (o - 0x5000)
  else if 0x6000 ≤ o ∧ o < 0x6020 then clkReg s (o - 0x6000)
  else if 0x7000 ≤ o ∧ o < 0x7038 then pwrReg s (o - 0x7000)
  else if 0x10000 ≤ o ∧ o < 0x20000 then hstReg s (o / 0x1000 - 0x10) (o % 0x1000)
  else if 0x20000 ≤ o ∧ o < 0x30000 then bsnReg s (o / 0x1000 - 0x20) (o % 0x1000)
  else if 0x30000 ≤ o ∧ o < 0x31000 then meshReg s (o - 0x30000)
  else if 0x40000 ≤ o ∧ o < 0x50000 then hbmReg s (o / 0x1000 - 0x40) (o % 0x1000)
  else if 0x50000 ≤ o ∧ o < 0x51000 then fabReg s (o - 0x50000)
  else if 0x60000 ≤ o ∧ o < 0x61800 then
    (if o % 0x100 < 0xD0 then tabGet (portAt s (o / 0x100 - 0x600)).shadow (o % 0x100 / 8) 0 else 0)
  else if 0x70000 ≤ o ∧ o < 0x80000 then entReg s (o - 0x70000)
  else 0

/-- BAR0 answers: READY, or in recovery the SEC_ block alone (R375, R434). -/
def regsUp (s : State) (o : Nat) : Bool :=
  match s.sup.phase with
  | .ready => true
  | .recovery => decide (0x4000 ≤ o) && decide (o < 0x4100)
  | .unpowered => false
  | .held => false
  | .fault => false

/-! ### Votes (R438, R452) -/

/-- The context that a vote failure at an offset concerns (R452). -/
def voteCtx (s : State) (o : Nat) : Nat :=
  if 0x20000 ≤ o ∧ o < 0x30000 then ownerOf s (o / 0x1000 - 0x20)
  else if 0x100000 ≤ o ∧ o < 0x110000 ∧ s.glb.winSel < nCores then ownerOf s (basinOf s.glb.winSel)
  else 0

/-- A voted register before its value is used: a disturbed copy is rewritten and counted; where no two agree the reference
copy is taken, with REG_VOTE_FAIL and the alert (R438, R452). -/
def voteReg (s : State) (o : Nat) : State :=
  match s.glb.disturbed.find? (fun e => e.1 == o) with
  | none => s
  | some (_, bad) =>
    let g := { s.glb with disturbed := s.glb.disturbed.filter (fun e => e.1 != o) }
    if bad then
      raiseAlert (ctxEvent { s with glb := { g with voteFail := (g.voteFail + 1) % 2 ^ 64 } } (voteCtx s o) evRegVoteFail
        (if 0x20000 ≤ o ∧ o < 0x30000 then 2 ^ (o / 0x1000 - 0x20) else 0) o 0 0) 4
    else { s with glb := { g with voteFix := (g.voteFix + 1) % 2 ^ 64 } }

/-! ### Snaps (R70, R125, R159, R184, R252, R274, R303, R413, R445) -/

/-- Entries `lo` to `hi - 1` of a table copied into its shadow. -/
def snapRange (ctr shadow : Tab Nat) (lo hi : Nat) : Tab Nat :=
  shadow.filter (fun e => decide (e.1 < lo)) ++ ctr.filter (fun e => decide (lo ≤ e.1) && decide (e.1 < hi)) ++
    shadow.filter (fun e => decide (hi ≤ e.1))

/-- A window access to a site: SEL_INVALID where CORE is out of range (R444). -/
def withSite (s : State) (f : Nat → State) : State :=
  if regsUp s 0x100000 = false then s
  else if nCores ≤ s.glb.winSel then { s with glb := { s.glb with winStatus := s.glb.winStatus ||| 2 } }
  else f s.glb.winSel

/-- A snap of some core counters of a site; a site without a core, or in a hard gap, takes none (R444). -/
def siteSnap (s : State) (k lo hi : Nat) : State :=
  let c := coreAt s k
  if c.st = .shipDefect ∨ isGap s (dieOf k) = true then s
  else putCore s k { c with shadowCtr := snapRange c.ctr c.shadowCtr lo hi }

/-- A snap of some core counters of the selected site. -/
def snapCore (s : State) (lo hi : Nat) : State := withSite s (fun k => siteSnap s k lo hi)

/-- CORE_MX_SNAP (R70). -/
def execCoreMxSnap (s : State) : Host.Outcome State Fault Refusal := .next (snapCore s 0 15)

/-- CORE_VC_SNAP (R125). -/
def execCoreVcSnap (s : State) : Host.Outcome State Fault Refusal := .next (snapCore s 15 31)

/-- CORE_SP_SNAP (R159). -/
def execCoreSpSnap (s : State) : Host.Outcome State Fault Refusal := .next (snapCore s 31 75)

/-- The channel counters of a site copied (R184). -/
def siteSnapChannels (s : State) (k : Nat) : State :=
  let c := coreAt s k
  if c.st = .shipDefect ∨ isGap s (dieOf k) = true then s
  else putCore s k { c with shadowCtr := snapRange c.ctr c.shadowCtr 75 77, chShadow := c.chCtr }

/-- The channel counters of the selected site copied. -/
def snapChannels (s : State) : State := withSite s (siteSnapChannels s)

/-- CORE_CH_SNAP (R184). -/
def execCoreChSnap (s : State) : Host.Outcome State Fault Refusal := .next (snapChannels s)

/-- The router counters of a site copied (R252). -/
def siteSnapRouter (s : State) (k : Nat) : State :=
  if isGap s (dieOf k) then s else putRouter s k { routerAt s k with shadow := (routerAt s k).ctr }

/-- The router counters of the selected site copied. -/
def snapRouter (s : State) : State := withSite s (siteSnapRouter s)

/-- MESH_SNAP (R252). -/
def execMeshSnap (s : State) : Host.Outcome State Fault Refusal := .next (snapRouter s)

/-- A stack's counters copied (R274). -/
def snapHbm (s : State) (b : Nat) : State :=
  if regsUp s 0x40000 then putHbm s b { hbmAt s b with shadow := (hbmAt s b).ctr } else s

/-- HBM_SNAP (R274, R448). -/
def execHbmSnap (basin : Nat) (s : State) : Host.Outcome State Fault Refusal := runUnit basin 16 (fun s => snapHbm s basin) s

/-- Every port's counters copied (R303). -/
def snapPorts (s : State) : State :=
  if regsUp s 0x50000 then forEach (List.range 24) (fun s p => putPort s p { portAt s p with shadow := (portAt s p).ctr }) s else s

/-- FAB_SNAP (R303, R449). -/
def execFabSnap (s : State) : Host.Outcome State Fault Refusal := .next (snapPorts s)

/-- The TST_ counters copied (R413). -/
def snapTst (s : State) : State := if regsUp s 0x5000 then { s with tst := { s.tst with shadow := s.tst.ctr } } else s

/-- TST_SNAP (R413). -/
def execTstSnap (s : State) : Host.Outcome State Fault Refusal := .next (snapTst s)

/-! ### Writes with an effect of their own (R181, R443, R447) -/

/-- A W1C field written: a 1 clears its bit. -/
def w1c (old v : Nat) (w : Nat) : Nat := ((BitVec.ofNat w old) &&& ~~~(BitVec.ofNat w v)).toNat

/-- MESH_APPLY: the staged thresholds take effect in every router if 1 ≤ TH1 ≤ TH2 ≤ TH3 ≤ 100, or APPLY_ERR is set (R437,
R438, R447, R453). -/
def applyMesh (s0 : State) : State :=
  let s := voteReg s0 0x30010
  let t := s.mesh.thrStaged
  let ok := decide (1 ≤ bits t 6 0) && decide (bits t 6 0 ≤ bits t 14 8) && decide (bits t 14 8 ≤ bits t 22 16) &&
    decide (bits t 22 16 ≤ 100)
  { s with mesh := if ok then { s.mesh with thr := t } else { s.mesh with applyErr := true } }

/-- MESH_APPLY (R447). -/
def execMeshApply (s : State) : Host.Outcome State Fault Refusal := .next (if regsUp s 0x30000 then applyMesh s else s)

/-- A basin's watchdog interval set; its stall measurements start again (R181, R446). -/
def writeWdog (s : State) (b v : Nat) : State :=
  putBasin s b { basinAt s b with wdog := v % 2 ^ 32, wdogFrom := s.sup.ticks }

/-- CHAN_WDOG_WRITE (R181). -/
def execChanWdogWrite (basin : Nat) (value : W64) (s : State) : Host.Outcome State Fault Refusal :=
  runUnit basin 16 (fun s => if regsUp s 0x20000 then writeWdog s basin value.toNat else s) s

/-- GLB_ALERT_WRITE: bits of GLB_ALERT cleared, or GLB_ALERT_EN written; ALERT_N follows the causes that are enabled (R443). -/
def execGlbAlertWrite (enableReg : Bool) (value : W64) (s : State) : Host.Outcome State Fault Refusal :=
  .next (if regsUp s 0 then
      { s with glb := if enableReg then { s.glb with alertEn := value.toNat % 32 }
                      else { s.glb with alert := w1c s.glb.alert value.toNat 5 } }
    else s)

/-- ALERT_N is driven low (R443). -/
def alertLow (s : State) : Bool := (s.glb.alert &&& s.glb.alertEn) != 0

/-! ### The core window (R444, R445) -/

/-- A write through the window: the SNAP registers take a 1, every other offset ignores it (R445). -/
def windowWrite (s : State) (o : Nat) : State :=
  match o with
  | 0x08 => snapCore s 0 15
  | 0x10 => snapCore s 15 31
  | 0x18 => snapCore s 31 75
  | 0x20 => snapChannels s
  | 0x28 => snapRouter s
  | _ => withSite s (fun _ => s)

/-- A read through the window: the site's answer, all ones and NO_RESPONSE where none comes, zero and SEL_INVALID out of range;
a write-only offset reads zero (R8, R444, R445). -/
def windowRead (s0 : State) (o : Nat) (answers : Bool) : State :=
  if regsUp s0 0x100000 = false then emit s0 (.regRead (0x100000 + o) 0)
  else if nCores ≤ s0.glb.winSel then
    emit { s0 with glb := { s0.glb with winStatus := s0.glb.winStatus ||| 2 } } (.regRead (0x100000 + o) 0)
  else if answers = false ∨ isGap s0 (dieOf s0.glb.winSel) = true then
    emit { s0 with glb := { s0.glb with winStatus := s0.glb.winStatus ||| 1 } } (.regRead (0x100000 + o) (2 ^ 64 - 1))
  else
    let s := if o = 0 then voteReg s0 0x100000 else s0
    emit s (.regRead (0x100000 + o) (siteReg s s.glb.winSel o))

/-- CORE_WINDOW_ACCESS: an access of 8 bytes at a window offset reaches the site that GLB_WIN_SEL names (R435, R444, R445).
`answers`: the site answers within 50 µs. -/
def execCoreWindowAccess (write : Bool) (off : Nat) (answers : Bool) (s : State) : Host.Outcome State Fault Refusal :=
  .next (if off % 8 ≠ 0 ∨ 0x10000 ≤ off then (if write then s else emit s (.regRead (0x100000 + off) 0))
    else if write then (if answers then windowWrite s off else s)
    else windowRead s off answers)

/-! ### The control mesh (R243, R244) -/

/-- One more on-demand start (R451, R459). -/
def countStart (s : State) (n : Nat) : State := { s with clk := { s.clk with starts := (s.clk.starts + n) % 2 ^ 64 } }

/-- The fields of a control packet's header (R243): VC, OP, destination, source, FLITS, unit address, and the top bits. -/
def ctlVc (h : W64) : Nat := fld h 1 0
def ctlOp (h : W64) : Nat := fld h 5 2
def ctlDst (h : W64) : Nat := fld h 19 6
def ctlSrc (h : W64) : Nat := fld h 33 20
def ctlFlits (h : W64) : Nat := fld h 37 34
def ctlAddr (h : W64) : Nat := fld h 61 38

/-- A header that a node does not take: a reserved OP. A reserved VC, more than 8 FLITS, flits that FLITS does not count and set
top bits are taken the same way: DESIGN CHOICE (R243, log 154). -/
def ctlBad (h : W64) (data : List W64) : Bool :=
  decide (5 < ctlOp h) || decide (1 < ctlVc h) || decide (8 < ctlFlits h) || data.length != ctlFlits h || fld h 63 62 != 0

/-- The site of a node number; the supervisor attaches at the node of core 0 (R243). -/
def ctlSite (n : Nat) : Nat := if n = 0x3FFF then 0 else n

/-- A path between two nodes crosses no hard gap: XY, or YX where the supervisor marks its destination for it (R243). -/
def ctlOpen (s : State) (a b : Nat) : Bool :=
  let g := (List.range 64).filter (isGap s)
  let via (c : Nat) : Bool := lineClear g a c && lineClear g c b && !isGap s (dieOf a) && !isGap s (dieOf c) && !isGap s (dieOf b)
  via (coreNo (coreX b) (coreY a)) || via (coreNo (coreX a) (coreY b))

/-- A write to a unit address of a node: a snapshot register takes its 1; the other addresses are written through their tables'
own commands (R244, R445; log 47). -/
def nodeWrite (s : State) (dst addr : Nat) (data : List W64) : State :=
  if bitAt (data.headD 0).toNat 0 = false then s
  else
    match addr with
    | 0x08 => siteSnap s dst 0 15
    | 0x10 => siteSnap s dst 15 31
    | 0x18 => siteSnap s dst 31 75
    | 0x20 => siteSnapChannels s dst
    | 0x28 => siteSnapRouter s dst
    | _ => s

/-- A control packet at a node: a READ and a SWEEP are answered with a RESPONSE, a SWEEP with the four epoch counters of the
site's router; a WRITE writes its unit address, a BCAST_WRITE that of every node in service; FLIP switches the stamping epoch of
the site's router and sync node; a RESPONSE is taken (R230, R231, R243, R244). -/
def nodeAccess (s : State) (op dst addr : Nat) (data : List W64) : State :=
  match op with
  | 0 => emit s (.ctlReply dst addr [siteReg s dst addr])
  | 1 => nodeWrite s dst addr data
  | 2 => forEach ((List.range nCores).filter (fun k => !isGap s (dieOf k))) (fun s k => nodeWrite s k addr data) s
  | 4 => if s.mesh.flipping then { s with mesh := { s.mesh with flipped := sortNat (dst :: s.mesh.flipped) } } else s
  | 5 => emit s (.ctlReply dst addr ((List.range 4).map (fun i => tabGet (routerAt s dst).ctr (73 + i) 0)))
  | _ => s

/-- CONTROL_PACKET: a control packet reaches its node. One that is not taken is discarded and makes the source node's core suspect;
a packet for a die whose control clock has stopped starts it; what is for the supervisor is taken there; no path leads into a hard
gap. `replays` is how often the flits were sent again on their way, by the node of this number (R219, R220, R243, R244, R252). -/
def execControlPacket (hdr : W64) (data : List W64) (node replays : Nat) (s : State) : Host.Outcome State Fault Refusal :=
  let src := ctlSite (ctlSrc hdr)
  let dst := ctlSite (ctlDst hdr)
  runUnit node nCores (fun s => if s.sup.phase ≠ .ready ∨ nCores ≤ src ∨ nCores ≤ dst then s
    else if ctlBad hdr data then (if ctlSrc hdr < nCores then suspectCore s src 1 else s)
    else if ctlOpen s src dst = false then s
    else
      let x := dieAt s (dieOf dst)
      let s1 := if replays = 0 then s else bumpRouter s node 109 replays
      if ctlDst hdr = 0x3FFF then s1
      else nodeAccess (if x.ctlPll then s1 else countStart (putDie s1 (dieOf dst) { x with ctlPll := true }) 1) (ctlOp hdr) dst
        (ctlAddr hdr) data) s

/-! ### Posted writes (R435 to R437) -/

/-- A write to the GLB_ block, the window included. `v` is the register's new value, `w` holds only the bits written. -/
def writeGlb (s : State) (o v w : Nat) : State :=
  match o with
  | 0x20 => { s with glb := { s.glb with alert := w1c s.glb.alert w 5 } }
  | 0x28 => { s with glb := { s.glb with alertEn := v % 32 } }
  | 0x30 => { s with glb := { s.glb with winSel := v % 2 ^ 14 } }
  | 0x38 => { s with glb := { s.glb with winStatus := w1c s.glb.winStatus w 2 } }
  | _ => s

/-- A write to the SEC_ block; a GO starts a push (R8, R375, R376). -/
def writeSec (s : State) (o v w : Nat) (push : PushIn) : State :=
  match o with
  | 0x20 => if bitAt w 0 then startPush s (bitAt w 1) push.image push.flashOk else s
  | 0x10 => { s with trust := { s.trust with rcvAddr := v / 64 * 64 } }
  | 0x18 => { s with trust := { s.trust with rcvLen := v } }
  | 0x28 => if bitAt w 4 then { s with trust := { s.trust with rcvDone := false } } else s
  | _ => s

/-- A write to the TST_ block (R413, R414). -/
def writeTst (s : State) (o v w : Nat) : State :=
  match o with
  | 0x00 => { s with tst := { s.tst with idleCfg := v % 2 ^ 32 } }
  | 0x08 => { s with tst := { s.tst with checkCfg := v % 2 ^ 48 } }
  | 0x10 => { s with tst := { s.tst with digestCfg := v % 2 ^ 32 } }
  | 0x18 => { s with tst := { s.tst with fenceCfg := v % 2 ^ 17 } }
  | 0x28 => if bitAt w 0 then snapTst s else s
  | _ => s

/-- The fields of a ring CFG; a submission ring has only its size (R324). -/
def ringCfgMask (sq : Bool) (v : Nat) : Nat :=
  if sq then v % 32 else v % 32 + bits v 13 8 * 2 ^ 8 + bits v 31 16 * 2 ^ 16 + bits v 32 32 * 2 ^ 32

/-- The fields of HST_STEP_CFG (R311). -/
def stepCfgMask (v : Nat) : Nat := v % 32 + bits v 27 16 * 2 ^ 16

/-- The staged fields of a page after a write to one of them (R324, R437). -/
def stageField (g : CtxCfg) (o v : Nat) : CtxCfg :=
  match o with
  | 0x010 => { g with grant := v % 65536 }
  | 0x020 => { g with ioCfg := v % 2 ^ 64 }
  | 0x028 => { g with sessPool := v % 2 ^ 60 }
  | 0x040 => { g with fabId := v % 2 ^ 36 }
  | 0x180 => { g with cqBase := v / 4096 * 4096 }
  | 0x188 => { g with cqCfg := ringCfgMask false v }
  | 0x190 => { g with msgBase := v / 4096 * 4096 }
  | 0x198 => { g with msgCfg := ringCfgMask false v }
  | _ =>
    if 0x100 ≤ o ∧ o < 0x180 then
      (if o % 16 = 0 then { g with sqBase := tabSet g.sqBase ((o - 0x100) / 16) (v / 4096 * 4096) }
       else { g with sqCfg := tabSet g.sqCfg ((o - 0x100) / 16) (ringCfgMask true v) })
    else g

/-- HST_CTX_CTRL: ENABLE takes its value; a 1 in APPLY or TEARDOWN acts (R324). A half that holds neither changes nothing. -/
def writeCtrl (s : State) (n v w : Nat) : State :=
  let s1 := putCtx s n { ctxAt s n with enable := bitAt v 0 }
  let s2 := if bitAt w 1 then (if applyOk s1 n then applyNow s1 n else putCtx s1 n { ctxAt s1 n with applyErr := true }) else s1
  if bitAt w 2 then teardownCtx s2 n else s2

/-- A write to a context's set-up page (R324). -/
def writeHst (s : State) (n o v w : Nat) : State :=
  let x := ctxAt s n
  match o with
  | 0x000 => writeCtrl s n v w
  | 0x008 => if bitAt w 4 then putCtx s n { x with applyErr := false } else s
  | 0x030 => putCtx s n { x with mbCfg := v % 65536 }
  | 0x038 => putCtx s n { x with stepCfgNew := stepCfgMask v }
  | _ => putCtx s n { x with stg := stageField x.stg o v }

/-- A write to a basin block (R446). -/
def writeBsn (s : State) (b o v : Nat) : State :=
  match o with
  | 0x010 => writeWdog s b v
  | 0x018 => putBasin s b { basinAt s b with drainLimit := v % 2 ^ 32 }
  | _ => s

/-- A write to the mesh block (R447). -/
def writeMesh (s : State) (o v w : Nat) : State :=
  match o with
  | 0x000 =>
    let s1 := if bitAt w 2 then { s with mesh := { s.mesh with applyErr := false } } else s
    if bitAt w 1 then applyMesh s1 else s1
  | 0x008 => { s with mesh := { s.mesh with colWait := v % 1024 } }
  | 0x010 => { s with mesh := { s.mesh with thrStaged := v % 128 + bits v 14 8 * 2 ^ 8 + bits v 22 16 * 2 ^ 16 } }
  | _ => s

/-- A write to the block of a stack (R448). -/
def writeHbm (s : State) (b o v w : Nat) : State :=
  let h := hbmAt s b
  match o with
  | 0x008 => putHbm s b { h with scrubCfg := v % 256 }
  | 0x010 => putHbm s b { h with recalCfg := v % 2 ^ 14 }
  | 0x018 => putHbm s b { h with srCfg := v % 2 ^ 20 }
  | 0x020 => if bitAt w 0 then snapHbm s b else s
  | _ => s

/-- A write taken at an 8-byte-aligned offset (R434). -/
def takeWrite (s : State) (o v w : Nat) (push : PushIn) : State :=
  if o < 0x4000 then writeGlb s o v w
  else if o < 0x4100 then writeSec s (o - 0x4000) v w push
  else if 0x5000 ≤ o ∧ o < 0x5200 then writeTst s (o - 0x5000) v w
  else if 0x10000 ≤ o ∧ o < 0x20000 then writeHst s (o / 0x1000 - 0x10) (o % 0x1000) v w
  else if 0x20000 ≤ o ∧ o < 0x30000 then writeBsn s (o / 0x1000 - 0x20) (o % 0x1000) v
  else if 0x30000 ≤ o ∧ o < 0x31000 then writeMesh s (o - 0x30000) v w
  else if 0x40000 ≤ o ∧ o < 0x50000 then writeHbm s (o / 0x1000 - 0x40) (o % 0x1000) v w
  else if o = 0x50008 then (if bitAt w 0 then snapPorts s else s)
  else if 0x100000 ≤ o ∧ o < 0x110000 then (if bitAt w 0 then windowWrite s (o - 0x100000) else withSite s (fun _ => s))
  else s

/-- The block that an offset lies in has a BUSY bit (R436). -/
def inBlock (o : Nat) : Bool :=
  decide (o < 0x4100) || (decide (0x5000 ≤ o) && decide (o < 0x5200)) || (decide (0x6000 ≤ o) && decide (o < 0x6020)) ||
  (decide (0x7000 ≤ o) && decide (o < 0x7038)) || (decide (0x10000 ≤ o) && decide (o < 0x31000)) ||
  (decide (0x40000 ≤ o) && decide (o < 0x51000)) || (decide (0x100000 ≤ o) && decide (o < 0x110000))

/-- An access of 4 or 8 bytes, aligned (R435). -/
def sizeOk (off size : Nat) : Bool := (size == 8 && off % 8 == 0) || (size == 4 && off % 4 == 0)

/-- The register's new value: a 4-byte write keeps the other half (R435). -/
def mergeHalf (old off size v : Nat) : Nat :=
  if size = 8 then v else if off % 8 = 4 then old % 2 ^ 32 + v % 2 ^ 32 * 2 ^ 32 else old / 2 ^ 32 * 2 ^ 32 + v % 2 ^ 32

/-- The bits that a write holds, at their places (R435). -/
def writtenBits (off size v : Nat) : Nat :=
  if size = 8 then v else if off % 8 = 4 then v % 2 ^ 32 * 2 ^ 32 else v % 2 ^ 32

/-- REGISTER_WRITE: a posted write is taken, after the vote on the register's copies (R438), ignored where its size, alignment or
offset is none of a register, or discarded and counted while the block is BUSY (R434 to R437, R453). -/
def execRegisterWrite (off size : Nat) (value : W64) (how : WriteIn) (s : State) : Host.Outcome State Fault Refusal :=
  .next (if !sizeOk off size || !regsUp s off then s
    else
      let o := off / 8 * 8
      if how.busy then
        (if inBlock o then { s with glb := { s.glb with writeLost := (s.glb.writeLost + 1) % 2 ^ 64 } } else s)
      else
        let s1 := voteReg s o
        takeWrite s1 o (mergeHalf (barReg s1 o) off size value.toNat) (writtenBits off size value.toNat) how.push)

end Sys2Proof.Machine
end

