-- ==== Sys2Proof/Machine/Power.lean ====
section
/-! DEFINITION. Power entry, shutdowns, throttling, clocks, module reset, start-up, persistent settings, the end of a push,
JTAG, and the host link and management addresses (R27 to R29, R317, R354, R372 to R377, R451 to R489). -/

namespace Sys2Proof.Machine

/-! ### Stopping every unit at once (R456, R457, R462) -/

/-- The firmware flash when a push is cut off: a verified image that is to persist may have been begun, and is then torn
(R376, R470, log 35). -/
def stopPush (s : State) : State :=
  match s.trust.push with
  | none => s
  | some p =>
    match p.image with
    | none => s
    | some i =>
      if p.persist = false ∨ verifyImage s.fuse false i ≠ 0 then s
      else
        let v := takeFree s
        if bitAt v.1.toNat 0 then { v.2 with flash := { v.2.flash with image := some { i with bodyOk := false } } } else v.2

/-- Every unit stops with no drain and no dump: keys erased, registers at their reset values, every context FREE; flash,
fuses, rails and readings stay, and with `keep` the contents of HBM and scratchpads (R440, R456, R462). -/
def haltModule (s0 : State) (phase : Phase) (keep : Bool) : State :=
  let s := stopPush s0
  { State.reset with
    pending := s.pending, free := s.free, out := s.out,
    sup := { phase := phase, bootCount := s.sup.bootCount },
    pwr := { s.pwr with energy := 0, lostInInterval := false },
    clk := { s.clk with starts := 0, oscTicks := 0 },
    dies := s.dies.map (fun e => (e.1, { ({} : Die) with
      railOn := e.2.railOn, temps := e.2.temps, throttled := e.2.throttled, hbmThrottled := e.2.hbmThrottled })),
    flash := s.flash, fuse := s.fuse,
    cores := if keep then s.cores.map (fun e => (e.1, { ({} : Core) with mem := e.2.mem, poisonCw := e.2.poisonCw })) else [],
    hbms := s.hbms.map (fun e => (e.1, { ({} : Hbm) with
      mem := if keep then e.2.mem else [], poisonCw := if keep then e.2.poisonCw else [], temp := e.2.temp,
      halfRate := e.2.halfRate, usedSpares := e.2.usedSpares })),
    jtag := s.jtag }

/-! ### Power entry (R454 to R457) -/

/-- The input lies in the operating range (R454). -/
def inputInRange (mv10 : Nat) : Bool := decide (5400 ≤ mv10) && decide (mv10 ≤ 6200)

/-- INPUT_POWER_RISE: the input has risen through 53 V: converters and always-on rails start, and the module holds in the
always-on domain until PERST_N is high (R454, R456). -/
def execInputPowerRise (mv10 : Nat) (s : State) : Host.Outcome State Fault Refusal :=
  .next (if s.sup.phase ≠ .unpowered ∨ mv10 < 5300 then s
    else
      let p := { s.pwr with mv10 := mv10 % 65536, inRange := inputInRange mv10, aonRail := true, mainRails := true }
      { s with sup := { s.sup with phase := .held }, pwr := p,
               dies := s.dies.map (fun e => (e.1, { e.2 with railOn := true })) })

/-- INPUT_RANGE: a reading of the input; leaving or returning to the range updates IN_RANGE and raises INPUT_RANGE (R454,
R475). A reading of zero is the removed input that ends a latched fault shutdown (R457, log 36). -/
def execInputRange (mv10 : Nat) (s : State) : Host.Outcome State Fault Refusal :=
  let ok := inputInRange mv10
  let s1 := { s with pwr := { s.pwr with mv10 := mv10 % 65536, inRange := ok, lostInInterval := s.pwr.lostInInterval || !ok } }
  .next (match s.sup.phase with
    | .unpowered => s
    | .fault =>
      if mv10 = 0 then
        { s1 with sup := { s1.sup with phase := .unpowered },
                  pwr := { s1.pwr with faultLatched := false, aonRail := false, mainRails := false }, jtag := {} }
      else s1
    | .held => s1
    | .recovery => s1
    | .ready => if ok = s.pwr.inRange then s1 else ctxEvent s1 0 evInputRange 0 (b2n (!ok)) mv10 0)

/-- POWER_FAIL_SHUTDOWN: the input has been below 50 V for 100 µs: every unit stops, HBM, scratchpads, keys and staging are
lost. A fault shutdown stands (R456, R476). -/
def execPowerFailShutdown (s : State) : Host.Outcome State Fault Refusal :=
  .next (match s.sup.phase with
    | .unpowered => s
    | .fault => s
    | _ =>
      let t := haltModule s .unpowered false
      { t with pwr := { perstN := s.pwr.perstN, inRange := false, aonRail := false, mainRails := false }, jtag := {} })

/-- FAULT_SHUTDOWN: every rail but the always-on one turns off and FAULT_N is latched low (R457). -/
def execFaultShutdown (cause : ShutCause) (s : State) : Host.Outcome State Fault Refusal :=
  let stop : State :=
    let t := haltModule s .fault false
    { t with pwr := { t.pwr with mainRails := false, faultLatched := true } }
  .next (match s.sup.phase with
    | .unpowered => s
    | .fault => s
    | _ =>
      match cause with
      | .overvoltage => stop
      | .critical => stop
      | .sharedRail => stop)

/-- STACK_RAIL_FAULT: a rail of a die stack is switched off and the stack is retired with BASE_DIE_FAULT; a memory die takes
the basin's HBM stack with it. `hbmRail` says whether the rail is the HBM stack's, and which stacks no col tables can reach any more (R13, R223, R226, R271, R455). -/
def execStackRailFault (die : Nat) (hbmRail : Gapping Bool) (s : State) : Host.Outcome State Fault Refusal :=
  runUnit die 64 (fun s =>
    let s1 := putDie s die { dieAt s die with railOn := false }
    let b := basinOfDie die
    match s.sup.phase with
    | .ready =>
      let s2 := makeGap s1 die 6 hbmRail.cut
      if hbmRail.cause ∧ memDie b = die then withdrawStack s2 b else s2
    | .held => s1
    | .recovery => s1
    | .unpowered => s
    | .fault => s) s

/-! ### Temperatures (R457, R487, R489) -/

/-- A compute die's sequencers are throttled: by a sensor of its stack, or by the HBM stack of its memory die. -/
def isThrottled (x : Die) : Bool := x.throttled || x.hbmThrottled

/-- The throttle state of a die replaced: THERMAL_THROTTLE marks when the one throttle starts and ends (R457, R489). -/
def setThrottle (s : State) (d : Nat) (x : Die) : State :=
  let now := isThrottled x
  let s1 := putDie s d { x with throttledInInt := x.throttledInInt || now }
  if isThrottled (dieAt s d) = now ∨ s.sup.phase ≠ .ready then s1
  else basinEvent s1 (basinOfDie d) evThermalThrottle d (b2n now) 0

/-- THERMAL_THROTTLE: a sensor of a die stack reads a temperature; above 100 °C at any sensor its die is throttled (R457,
R487). -/
def execThermalThrottle (die sensor : Nat) (temp : Int) (s : State) : Host.Outcome State Fault Refusal :=
  if 4 ≤ sensor then .fault .noSuchUnit
  else runUnit die 64 (fun s =>
    if s.sup.phase = .unpowered then s
    else
      let x := dieAt s die
      let ts := tabSet x.temps sensor temp
      setThrottle s die { x with temps := ts, maxTemp := max x.maxTemp temp,
                                 throttled := ts.any (fun e => decide (100 < e.2)) }) s

/-- HBM_THERMAL_THROTTLE: a stack reads a temperature; above 95 °C its memory die is throttled and its activation rate
halves (R487). -/
def execHbmThermalThrottle (basin : Nat) (temp : Int) (s : State) : Host.Outcome State Fault Refusal :=
  runUnit basin 16 (fun s =>
    if s.sup.phase = .unpowered then s
    else
      let h := hbmAt s basin
      let hot := decide (95 < temp)
      let s1 := putHbm s basin { h with temp := temp, maxTemp := max h.maxTemp temp, halfRate := hot,
                                        passedThr := h.passedThr || hot }
      setThrottle s1 (memDie basin) { dieAt s1 (memDie basin) with hbmThrottled := hot }) s

/-! ### Clocks (R458, R459) -/

/-- REF_CLOCK_LOST: the on-die oscillator takes over (R458, R475). -/
def execRefClockLost (s : State) : Host.Outcome State Fault Refusal :=
  .next (if s.clk.refOk = false ∨ s.sup.phase = .unpowered then s
    else
      let s1 := { s with clk := { s.clk with refOk := false }, pwr := { s.pwr with lostInInterval := true } }
      if s.sup.phase = .ready then ctxEvent s1 0 evRefClockLost 0 0 0 0 else s1)

/-- REF_CLOCK_RESTORED: the always-on domain returns to the reference (R458, R475). -/
def execRefClockRestored (s : State) : Host.Outcome State Fault Refusal :=
  .next (if s.clk.refOk ∨ s.sup.phase = .unpowered then s
    else
      let s1 := { s with clk := { s.clk with refOk := true } }
      if s.sup.phase = .ready then ctxEvent s1 0 evRefClockRestored 0 0 0 0 else s1)

/-- The router branches run: a context is ACTIVE, or the supervisor clears, tests or reloads (R459). -/
def meshDemand (s : State) : Bool :=
  s.ctxs.any (fun e => e.2.st == .active) || s.sup.clearing || s.rst.cur.isSome || !s.heal.refills.isEmpty ||
  !s.heal.reloads.isEmpty || s.basins.any (fun e => e.2.clearing || e.2.underTest.isSome)

/-- The core branch of a core runs (R459). -/
def coreDemand (s : State) (k : Nat) : Bool :=
  (coreAt s k).st == .inUse || (coreAt s k).st == .underTest || s.sup.clearing || (basinAt s (basinOf k)).clearing ||
  s.heal.checks.any (fun c => c.checker == k || c.third == some k)

/-- FAST_CLOCK_START: demand starts a clock that does not run (R459). -/
def execFastClockStart (die : Nat) (sel : ClockSel) (s : State) : Host.Outcome State Fault Refusal :=
  runUnit die 64 (fun s =>
    let x := dieAt s die
    if s.sup.phase ≠ .ready then s
    else
      match sel with
      | .corePll => if x.pll || !meshDemand s then s else countStart (putDie s die { x with pll := true }) 1
      | .coreBranch k =>
        if x.coreBranch.contains k || !coreDemand s k || dieOf k != die then s
        else countStart (putDie s die { x with coreBranch := sortNat (k :: x.coreBranch) }) 1
      | .ctlPll => if x.ctlPll then s else countStart (putDie s die { x with ctlPll := true }) 1) s

/-- FAST_CLOCK_STOP: a clock without demand stops (R459). -/
def execFastClockStop (die : Nat) (sel : ClockSel) (s : State) : Host.Outcome State Fault Refusal :=
  runUnit die 64 (fun s =>
    let x := dieAt s die
    match sel with
    | .corePll => if meshDemand s then s else putDie s die { x with pll := false }
    | .coreBranch k => if coreDemand s k then s else putDie s die { x with coreBranch := x.coreBranch.filter (fun j => j != k) }
    | .ctlPll => putDie s die { x with ctlPll := false }) s

/-! ### PERST_N and JTAG (R354, R462, R476, R482, R489) -/

/-- An instruction that drives pins (R482). -/
def JtagIr.drives : JtagIr → Bool
  | .extest => true
  | .acTest => true
  | .bypass => false
  | .idcode => false
  | .sample => false
  | .inner _ => false

/-- The life-cycle state opens an instruction (R354). -/
def jtagOpen (s : State) : JtagIr → Bool
  | .inner _ => lcState s.fuse == 0 || ((lcState s.fuse == 1 || lcState s.fuse == 3) && s.trust.debugOpen)
  | .bypass => true
  | .idcode => true
  | .sample => true
  | .extest => true
  | .acTest => true

/-- The IDCODE register (R482). -/
def idcodeWord : Nat := 2 ^ 28 + 0x6416 * 2 ^ 12 + Config.jedecCode.toNat * 2 + 1

/-- JTAG_INSTRUCTION: an instruction that is not open, or that drives pins while PERST_N is high, acts as BYPASS (R354, R482). -/
def execJtagInstruction (ir : JtagIr) (s : State) : Host.Outcome State Fault Refusal :=
  .next (if s.sup.phase = .unpowered then s
    else
      let off := !jtagOpen s ir || (JtagIr.drives ir && s.pwr.perstN)
      let s1 := { s with jtag := { ir := ir, actsAs := if off then .bypass else ir, pinsDriven := JtagIr.drives ir && !off } }
      if ir = .idcode then emit s1 (.tdo idcodeWord) else s1)

/-- MODULE_RESET: PERST_N goes low (R440, R462, R489). -/
def execModuleReset (s : State) : Host.Outcome State Fault Refusal :=
  .next (match s.sup.phase with
    | .unpowered => { s with pwr := { s.pwr with perstN := false } }
    | .fault => { s with pwr := { s.pwr with perstN := false } }
    | _ =>
      let t := haltModule s .held true
      { t with pwr := { t.pwr with perstN := false } })

/-! ### Settings (R471 to R473) -/

/-- The copy in force: the correct one, the one of higher SEQ when both are (R471). -/
def settingsCopy (f : Flash) : Option SRec :=
  match f.settingsA, f.settingsB with
  | none, none => none
  | some a, none => some a
  | none, some b => some b
  | some a, some b => if a.seq < b.seq then some b else some a

/-- A setting's VALUE in a list of entries, the last one applied (R471). -/
def settingOf (l : List (Nat × Nat)) (id d : Nat) : Nat := ((l.reverse.find? (fun e => e.1 == id)).map (·.2)).getD d

/-- A setting that names a register written to it, to every instance of its block; an unknown ID, and a threshold that APPLY
would refuse, are ignored (R471, R472). -/
def applySetting (s : State) (e : Nat × Nat) : State :=
  let v := e.2
  let each (f : State → Nat → State) : State := forEach (List.range 16) f s
  match e.1 with
  | 0x0002 => each (fun s b => writeHbm s b 0x08 v v)
  | 0x0003 => each (fun s b => writeHbm s b 0x10 v v)
  | 0x0004 => each (fun s b => writeHbm s b 0x18 v v)
  | 0x0005 => writeTst s 0x00 v v
  | 0x0006 => writeTst s 0x08 v v
  | 0x0007 => writeTst s 0x10 v v
  | 0x0008 => writeTst s 0x18 v v
  | 0x0009 => writeMesh s 0x08 v v
  | 0x000A =>
    let t := applyMesh (writeMesh s 0x10 v v)
    if t.mesh.applyErr then s else t
  | 0x000B => each (fun s b => writeBsn s b 0x10 v)
  | 0x000C => each (fun s b => writeBsn s b 0x18 v)
  | 0x000D => writeGlb s 0x28 v v
  | _ => s

/-- Step 6 of start-up: the settings read, a damaged copy rewritten from the other, and each entry applied in order (R463,
R470, R471). -/
def loadSettings (s : State) : State :=
  match settingsCopy s.flash with
  | none => ctxEvent s 0 evSettingsDamaged 0 0 0 0
  | some r =>
    let f := { s.flash with settingsA := some (s.flash.settingsA.getD r), settingsB := some (s.flash.settingsB.getD r) }
    r.entries.foldl applySetting
      { s with flash := f, sup := { s.sup with settings := r.entries, settingsSeq := r.seq } }

/-- One bit of the CRC-32 of IEEE 802.3. -/
def crcBit (c : BitVec 32) : BitVec 32 := if c.getLsbD 0 then (c >>> 1) ^^^ 0xEDB88320#32 else c >>> 1

/-- One byte of the CRC-32. -/
def crcByte (c : BitVec 32) (b : Byte) : BitVec 32 := (List.range 8).foldl (fun a _ => crcBit a) (c ^^^ b.zeroExtend 32)

/-- The CRC-32 of IEEE 802.3 over bytes (R27, R471). -/
def crc32 (l : List Byte) : BitVec 32 := ~~~ (l.foldl crcByte 0xFFFFFFFF#32)

/-- The bytes of a settings record (R471). -/
def settingsBytes (seq : Nat) (es : List (Nat × Nat)) : List Byte :=
  let b := leBytes 4 0x5445534E ++ leBytes 2 1 ++ leBytes 2 es.length ++ leBytes 4 seq ++ leBytes 4 0 ++
    es.flatMap (fun e => leBytes 2 e.1 ++ leBytes 6 0 ++ leBytes 8 e.2)
  b ++ leBytes 4 (crc32 b).toNat

/-- SETTINGS_READ: the record in force is answered (R473). -/
def execSettingsRead (s : State) : Host.Outcome State Fault Refusal :=
  .next (if s.sup.phase = .ready then emit s (.mctpBytes 1 0 0 (settingsBytes s.sup.settingsSeq s.sup.settings)) else s)

/-- The status of a SETTINGS_WRITE (R473, R476). -/
def settingsStatus (s : State) (magic version count : Nat) (es : List (Nat × Nat)) : Nat :=
  if magic ≠ 0x5445534E ∨ version ≠ 1 ∨ 64 < count ∨ count ≠ es.length then 1
  else if lcState s.fuse = 4 then 4
  else if s.trust.push.any (fun p => p.persist) then 3
  else if 64 ≤ s.mgmt.writes ∨ s.mgmt.lastWrite.any (fun t => decide (s.sup.ticks - t < 250000000)) then 2
  else 0

/-- SETTINGS_WRITE: a record with the next SEQ goes to both copies and takes effect at the next start-up (R473). -/
def execSettingsWrite (magic version count : Nat) (entries : List (Nat × Nat)) (s : State) : Host.Outcome State Fault Refusal :=
  .next (if s.sup.phase ≠ .ready then s
    else
      let st := settingsStatus s magic version count entries
      if st ≠ 0 then emit s (.mctp 2 st [])
      else
        let q := (((settingsCopy s.flash).map (·.seq)).getD 0 + 1) % 2 ^ 32
        let r : SRec := { seq := q, entries := entries.map (fun e => (e.1 % 65536, e.2 % 2 ^ 64)) }
        emit { s with flash := { s.flash with settingsA := some r, settingsB := some r },
                      mgmt := { s.mgmt with lastWrite := some s.sup.ticks, writes := s.mgmt.writes + 1 } } (.mctp 2 0 []))

/-! ### The ledger and the core map (R24, R27 to R29) -/

/-- A record that the replay skips and counts (R27). -/
def recSkipped (r : LRec) : Bool := (r.type != 1 && r.type != 2 && r.type != 3) || (r.type == 1 && decide (nCores ≤ r.target))

/-- Some position has no correct copy while a later one has (R29). -/
def ledgerHole : List LPos → Bool
  | [] => false
  | p :: t => ((posRec p).isNone && t.any (fun q => (posRec q).isSome)) || ledgerHole t

/-- The values of a list without repeats. -/
def distinct (l : List Nat) : List Nat := l.foldl (fun a n => if a.contains n then a else a ++ [n]) []

/-- The ledger is damaged: a SEQ is missing between the lowest and the highest, or a position has no correct copy (R29). -/
def ledgerBad (l : List LPos) : Bool :=
  let q := distinct ((l.filterMap posRec).map (·.seq))
  ledgerHole l || (!q.isEmpty && decide (q.length < maxOf q 0 - q.foldl min (maxOf q 0) + 1))

/-- Records in SEQ order. -/
def insertRec (r : LRec) : List LRec → List LRec
  | [] => [r]
  | q :: t => if r.seq ≤ q.seq then r :: q :: t else q :: insertRec r t

/-- A core site is RETIRED by its record; a ship-time defect stays one (R24). -/
def retireSite (s : State) (k : Nat) : State :=
  if (coreAt s k).st = .shipDefect then s else putCore s k { coreAt s k with st := .retired }

/-- A die's cores RETIRED, and with a fault of base die or bridge the stack a hard gap (R13, R24, R223). -/
def retireStack (s : State) (d reason : Nat) : State :=
  let x := dieAt s d
  let y := { x with retired := true }
  let z := if reason = 5 ∨ reason = 6 then { y with gapReason := reason, baseOk := false } else y
  forEach (coresOfDie d) retireSite (putDie s d z)

/-- One record replayed (R27, R28). -/
def replayRec (s : State) (r : LRec) : State :=
  match r.type with
  | 1 => if r.target < nCores then retireSite s r.target else s
  | 2 => retireStack s (r.target % 64) r.reason
  | 3 => putDie s (r.target % 64) { dieAt s (r.target % 64) with margin := r.detail % 16 }
  | _ => s

/-- The sector pair in use: the one whose first record has the higher SEQ (R469). A pair whose first position holds no correct copy
is passed over for one whose first does; where neither has one, the pair last in use stays: DESIGN CHOICE (log 129). -/
def pairInUse (f : Flash) : Bool :=
  match f.pair0.head?.bind posRec, f.pair1.head?.bind posRec with
  | some a, some b => decide (a.seq < b.seq)
  | none, some _ => true
  | some _, none => false
  | none, none => f.usePair1

/-- A position with one correct copy rewritten (R28). -/
def repairPos (p : LPos) : LPos := { a := posRec p, b := posRec p }

/-- Positions that need the repair of R28. -/
def repairCount (l : List LPos) : Nat := (l.filter (fun p => p.a.isSome != p.b.isSome)).length

/-- What a damaged ledger asks for: every core but ship-time defects is tested, RETIRED ones too, and one that fails is retired as
a new record (R29, R384, R416). A RETIRED core stays RETIRED (R24). -/
def testAll (s : State) (fails : List Nat) : State :=
  let ks := (List.range nCores).filter (fun k => (coreAt s k).st != .shipDefect)
  let bad := ks.filter (fun k => fails.contains k)
  let s1 := forEach (ks.filter (fun k => !fails.contains k)) (fun s k => putCore s k { coreAt s k with lastPass := some s.sup.ticks }) s
  let s2 := bumpTst (bumpTst (bumpTst s1 0 ks.length) 1 (ks.length - bad.length)) 2 bad.length
  forEach bad (fun s k => if CoreSt.good (coreAt s k).st then retireCore s k 1 none else askLedger s 1 1 k 0 none) s2

/-- Step 7 of start-up: ledger replayed, core map built, LEDGER_DAMAGED with its tests (R24, R28, R29, R223, R463). -/
def buildMap (s0 : State) (fails : List Nat) : State :=
  let f := { s0.flash with usePair1 := pairInUse s0.flash }
  let l := ledgerPair f
  let rs := (l.filterMap posRec).foldr insertRec []
  let s := { s0 with flash := { putLedger f (l.map repairPos) with
    ledgerRepairs := f.ledgerRepairs + repairCount l, ledgerSkips := f.ledgerSkips + (rs.filter recSkipped).length } }
  let s1 := forEach s.fuse.shipDefect (fun s k => putCore s k { coreAt s k with st := .shipDefect }) s
  let s2 := forEach s.fuse.routerDefect (fun s d => retireStack s d 6) s1
  let s3 := (rs.filter (fun r => !recSkipped r)).foldl replayRec s2
  let bad := ledgerBad l
  let s4 := { s3 with glb := { s3.glb with ledgerDamaged := bad } }
  if bad then testAll s4 fails else s4

/-! ### Start-up (R463 to R465) -/

/-- Step 8: the tick counters, router branches and control PLLs start (R463, R492). -/
def startClocks (s : State) : State :=
  let s1 := forEach (List.range 64) (fun s d => putDie s d { dieAt s d with pll := true, ctlPll := true }) s
  countStart { s1 with sup := { s1.sup with ticking := true, ticks := 0 } } 128

/-- A die stack that the col tables cannot reach, or whose rail is off, is retired as a hard gap (R226, R455). -/
def dropStack (reason : Nat) (s : State) (d : Nat) : State :=
  if isGap s d then s
  else retireDie (putDie s d { dieAt s d with gapReason := reason, baseOk := false }) d reason none

/-- Step 9: col tables for the hard gaps in both banks, placement empty, epoch 0 (R226, R463). -/
def loadTables (s : State) (unreachable : List Nat) : State :=
  let s1 := forEach ((List.range 64).filter (fun d => !(dieAt s d).railOn)) (dropStack 6) s
  let s2 := forEach ((List.range 64).filter (fun d => unreachable.contains d)) (dropStack 5) s1
  let g := (List.range 64).filter (fun d => isGap s2 d)
  { s2 with mesh := { s2.mesh with epoch := false, oldBank := false, gaps0 := g, gaps1 := g } }

/-- Step 10: every stack trained; one that fails, or whose base die is retired, is withdrawn (R13, R270, R271). -/
def trainStacks (s : State) (fails : List Nat) : State :=
  forEach (List.range 16) (fun s b =>
    if fails.contains b || isGap s (memDie b) then withdrawStack s b
    else putHbm s b { hbmAt s b with inService := true }) s

/-- Step 11: READY, and the clears begin (R463, R465). -/
def setReady (s : State) : State :=
  let s1 := forEach (List.range 16) (fun s b => putBasin s b { basinAt s b with clearing := true }) s
  { s1 with sup := { s1.sup with phase := .ready, clearing := true }, glb := { s1.glb with ready := true } }

/-- Steps 4 to 11 of start-up with a verified image (R357, R362, R463). -/
def runImage (s : State) (i : FwImage) (source : Nat) (boot : BootIn) : State :=
  let f := s.flash
  let t := { s.trust with
    devid := s.fuse.uds, aliasKey := s.fuse.uds, kT := transportK s.fuse, measD := i.meas, bootSource := source,
    fmKey := match f.fmToken with
             | some (_, d) => some d
             | none => f.ownerToken.map (·.2),
    fmSerial := (f.fmToken.map (·.1)).getD 0 }
  let s1 := { s with trust := t, sup := { s.sup with fwMajor := i.major, fwMinor := i.minor, fwPatch := i.patch, fwSvn := i.svn } }
  setReady (trainStacks (loadTables (startClocks (buildMap (loadSettings s1) boot.testFail)) boot.unreachable) boot.hbmFail)

/-- A link width that the host port trains at (R317). -/
def widthOk (w : Nat) : Bool := [1, 2, 4, 8].contains w

/-- PERST_N is high: an instruction that drives pins acts as BYPASS (R482). -/
def perstHigh (s : State) : State :=
  { s with pwr := { s.pwr with perstN := true },
           jtag := if JtagIr.drives s.jtag.actsAs then { s.jtag with actsAs := .bypass, pinsDriven := false } else s.jtag }

/-- PERST_N rises: link training, straps and fuses (R463, R481, R482, R489). BOOT_COUNT, a power-on count, advances at every
start-up: DESIGN CHOICE (R27, log 128). -/
def releaseReset (s : State) (boot : BootIn) : State :=
  let quad := settingOf (((settingsCopy s.flash).map (·.entries)).getD []) 0x000E 0 == 1
  { perstHigh s with
    hostp := { up := widthOk boot.linkWidth, width := boot.linkWidth, rate := boot.linkRate, flit := boot.flitMode },
    mgmt := { s.mgmt with mode := boot.mgmtMode, addr := 0x5C + boot.mgmtAddr % 4 },
    sup := { s.sup with bootCount := (s.sup.bootCount + 1) % 65536, flashOctal := boot.sfdpOctal && !quad } }

/-- START_UP: PERST_N rises and start-up runs to READY, or to recovery where the flash image fails (R373 to R375, R463). -/
def execStartUp (boot : BootIn) (s : State) : Host.Outcome State Fault Refusal :=
  .next (match s.sup.phase with
    | .held =>
      let s1 := releaseReset s boot
      let code := match s1.flash.image with
                  | none => 2
                  | some i => verifyImage s1.fuse true i
      match s1.flash.image, code with
      | some i, 0 => runImage { s1 with fuse := burnSvn s1.fuse i } i 0 boot
      | _, c => { s1 with sup := { s1.sup with phase := .recovery },
                          trust := { s1.trust with bootSource := 3, failReason := c } }
    | .unpowered => perstHigh s
    | .fault => perstHigh s
    | .recovery => s
    | .ready => s)

/-- STARTUP_CLEAR: the clears that began at READY complete; the basins become grantable (R465). -/
def execStartupClear (s : State) : Host.Outcome State Fault Refusal :=
  .next (if s.sup.clearing then
      let s1 := forEach (List.range 16) clearBasin s
      { s1 with sup := { s1.sup with clearing := false } }
    else s)

/-! ### The end of a push (R373 to R376) -/

/-- RESULT of a push: a host read error, the first failed check, or a flash error (R375). -/
def pushResult (f : Fuse) (p : Push) : Nat :=
  match p.image with
  | none => 9
  | some i =>
    let c := verifyImage f false i
    if c ≠ 0 then c else if p.persist ∧ p.flashOk = false then 0x0A else 0

/-- PUSH_COMPLETE: the push is done or has failed; a persisted image lies in flash and may burn the counter; in recovery a
verified image starts (R374 to R376). -/
def execPushComplete (boot : BootIn) (s : State) : Host.Outcome State Fault Refusal :=
  .next (match s.trust.push with
    | none => s
    | some p =>
      let res := pushResult s.fuse p
      let t := { s.trust with push := none, rcvBusy := false, rcvDone := true, rcvResult := res,
                              rcvPhase := if res = 0 then 4 else 5 }
      let s1 := { s with trust := t }
      match p.image with
      | none => s1
      | some i =>
        if res = 0x0A then { s1 with flash := { s1.flash with image := some { i with bodyOk := false } } }
        else if res ≠ 0 then s1
        else
          let s2 := if p.persist then { s1 with flash := { s1.flash with image := some i }, fuse := burnSvn s1.fuse i } else s1
          if s.sup.phase = .recovery then runImage s2 i (if p.persist then 2 else 1) boot else s2)

/-! ### Links to the world (R317, R481) -/

/-- HOST_LINK_TRAINING: the link has trained to a width, a rate and a mode (R317). -/
def execHostLinkTraining (width rate : Nat) (flitMode : Bool) (s : State) : Host.Outcome State Fault Refusal :=
  .next (if s.sup.phase = .ready ∨ s.sup.phase = .recovery then
      { s with hostp := { up := widthOk width, width := width, rate := rate, flit := flitMode } }
    else s)

/-- MCTP_ENDPOINT_ID_ASSIGN: the bus owner assigns an endpoint ID (R481). -/
def execMctpEndpointIdAssign (eid : Nat) (s : State) : Host.Outcome State Fault Refusal :=
  .next (if s.sup.phase = .ready then { s with mgmt := { s.mgmt with eid := eid % 256 } } else s)

end Sys2Proof.Machine
end

