-- ==== Sys2Proof/Machine/Telemetry.lean ====
section
/-! DEFINITION. The supervisor's telemetry records and their export (R491 to R500). -/

namespace Sys2Proof.Machine

/-! ### Settings of telemetry and deltas (R491, R498) -/

/-- MAP_MS in force (R498). -/
def mapMs (s : State) : Nat :=
  let v := settingOf s.sup.settings 0x0100 100
  if v = 0 then 0 else min 60000 (max 10 v)

/-- POWER_MS in force (R498). -/
def powerMs (s : State) : Nat := min 60000 (settingOf s.sup.settings 0x0101 1000)

/-- GROUP_S in force (R498). -/
def groupS (s : State) : Nat := min 3600 (settingOf s.sup.settings 0x0102 10)

/-- A delta since the last record; a counter that is now smaller has restarted (R491). -/
def delta (old new : Nat) : Nat := if new < old then new else new - old

/-- The delta of a counter kept under a key (R491). -/
def deltaOf (prev : Tab Nat) (key v : Nat) : Nat := delta (tabGet prev key 0) v

/-! ### CONGESTION_MAP (R242, R494) -/

/-- The router of a core gives no level: it lies in a hard gap, or did not answer (R494). -/
def notRead (s : State) (unread : List Nat) (k : Nat) : Bool := unread.contains k || isGap s (dieOf k)

/-- The level of a router in the map (R242, R494). -/
def mapLevel (s : State) (unread : List Nat) (k : Nat) : Nat := if notRead s unread k then 0 else (routerAt s k).peak % 16

/-- The key of a port counter among the kept values. -/
def portKey (p i : Nat) : Nat := p * 32 + i

/-- The entry of a Wewell port (R494). -/
def portEntry (s : State) (unread : List Nat) (p : Nat) : List Byte :=
  let x := portAt s p
  let d (i : Nat) : Nat := deltaOf s.telem.prev (portKey p i) (tabGet x.ctr i 0)
  leBytes 1 p ++ leBytes 1 (mapLevel s unread (attachCore p)) ++ leBytes 1 (b2n x.up + 2 * b2n x.down) ++ leBytes 1 0 ++
    leBytes 4 (min (d 2 / 64) (2 ^ 32 - 1)) ++ leBytes 4 (min (d 3 / 64) (2 ^ 32 - 1)) ++
    leBytes 2 (min (d 20) 65535) ++ leBytes 2 (min (d 7) 65535)

/-- The entry of the host port; the payload moved over PCI Express is a free value (R494, log 8, log 37). -/
def hostEntry (s : State) (unread : List Nat) : List Byte :=
  leBytes 1 24 ++ leBytes 1 (mapLevel s unread hostAttach) ++ leBytes 1 (b2n s.hostp.up) ++ leBytes 1 0 ++
    leBytes 8 (Config.freeBits s.free).toNat ++ leBytes 4 0

/-- The body of a CONGESTION_MAP record, 6,288 bytes (R494). -/
def mapBody (s : State) (unread : List Nat) : List Byte :=
  (List.range 16).flatMap (fun _ => leBytes 8 s.sup.ticks) ++
    (List.range 4608).flatMap (fun i => leBytes 1 (mapLevel s unread (2 * i) + 16 * mapLevel s unread (2 * i + 1))) ++
    (List.range 1152).flatMap (fun i =>
      leBytes 1 ((List.range 8).foldl (fun a j => a + b2n (notRead s unread (8 * i + j)) * 2 ^ j) 0)) ++
    (List.range 24).flatMap (portEntry s unread) ++ hostEntry s unread

/-- The peaks that a sweep has read, cleared; and the port counters read kept (R491, R494). -/
def sweptMap (s : State) (unread : List Nat) : State :=
  let prev := (List.range 24).foldl (fun t p => [2, 3, 7, 20].foldl (fun t i =>
    tabSet t (portKey p i) (tabGet (portAt s p).ctr i 0)) t) s.telem.prev
  { s with routers := s.routers.map (fun e => if notRead s unread e.1 then e else (e.1, { e.2 with peak := 0 })),
           telem := { s.telem with prev := prev }, free := s.free + 1 }

/-- CONGESTION_MAP: the routers' peaks are read and cleared and the map is closed. `unread` holds the routers that did not
answer (R494). -/
def execCongestionMap (unread : List Nat) (s : State) : Host.Outcome State Fault Refusal :=
  .next (if s.sup.phase ≠ .ready ∨ mapMs s = 0 then s
    else closeRec (sweptMap s unread) 1 0 (mapBody s unread) true)

/-! ### POWER_THERMAL (R495) -/

/-- A flag of each of 16 basins as one word. -/
def basinMask (f : Nat → Bool) : Nat := (List.range 16).foldl (fun a b => a + b2n (f b) * 2 ^ b) 0

/-- The body of a POWER_THERMAL record, 192 bytes (R495). -/
def powerBody (s : State) : List Byte :=
  leBytes 8 (pwrReg s 0x08) ++ leBytes 8 s.pwr.energy ++
    (List.range 64).flatMap (fun d => leBytes 1 (wrapInt 8 (dieAt s d).maxTemp)) ++
    (List.range 16).flatMap (fun b => leBytes 1 (if (hbmAt s b).withdrawn then 0x80 else wrapInt 8 (hbmAt s b).maxTemp)) ++
    leBytes 8 (dieMask (fun d => (dieAt s d).throttledInInt)) ++ leBytes 2 (basinMask (fun b => (hbmAt s b).passedThr)) ++
    leBytes 1 (b2n s.clk.refOk + 2 * b2n s.pwr.inRange + 4 * b2n (s.pwr.lostInInterval || !s.clk.refOk || !s.pwr.inRange)) ++
    leBytes 1 0 ++ leBytes 4 s.clk.oscTicks ++ (List.range 4).flatMap (fun i => leBytes 8 (marginWord s i)) ++ leBytes 48 0

/-- The highest temperature that the sensors of a die read now. -/
def nowTemp (x : Die) : Int :=
  match x.temps with
  | [] => 0
  | e :: t => t.foldl (fun a f => max a f.2) e.2

/-- A new interval begins: the extremes start from what is read now (R495). -/
def freshPower (s : State) : State :=
  { s with
    dies := s.dies.map (fun e => (e.1, { e.2 with maxTemp := nowTemp e.2, throttledInInt := isThrottled e.2 })),
    hbms := s.hbms.map (fun e => (e.1, { e.2 with maxTemp := e.2.temp, passedThr := decide (95 < e.2.temp) })),
    clk := { s.clk with oscTicks := 0 }, pwr := { s.pwr with lostInInterval := false } }

/-- POWER_THERMAL: a power and thermal record is closed; the operands are the input current and power read at the close and
the energy taken in since the last (R451, R495). -/
def execPowerThermal (ma100 watts joules : Nat) (s : State) : Host.Outcome State Fault Refusal :=
  let p := { s.pwr with ma100 := ma100 % 65536, watts := watts % 65536, energy := (s.pwr.energy + joules) % 2 ^ 64 }
  let s1 := { s with pwr := p }
  .next (if s.sup.phase ≠ .ready then s
    else if powerMs s = 0 then s1
    else freshPower (closeRec s1 2 0 (powerBody s1) true))

/-! ### GROUP_COUNTERS (R201, R491, R496) -/

/-- The key of a core's sum among the kept values. -/
def coreKey (k j : Nat) : Nat := 4096 + 8 * k + j

/-- The counters behind the eight sums of an entry, as they stand (R496). -/
def groupCtrs (c : Core) : List Nat :=
  let g (i : Nat) : Nat := tabGet c.ctr i 0
  let ch (f : Nat → Nat) : Nat := sumOf ((List.range 32).map (fun e => tabGet c.chCtr (f e) 0))
  [g 0, g 3, g 2, g 15, g 18, g 34 + g 39, ch (fun e => 225 + 2 * e), ch (fun e => 7 * e + 1)]

/-- The cores that ran a group's stations in the interval (R496). -/
def groupCores (s : State) (l : Layout) (g : Nat) : List Nat :=
  let slots := (l.stations.filter (fun y => y.group == g)).map (·.slot)
  (s.cores.filter (fun e => (match e.2.slot with
    | some x => slots.contains x
    | none => false) || e.2.ran.any (fun x => slots.contains x))).map (·.1)

/-- The sum of a delta over cores. -/
def groupSum (s : State) (ks : List Nat) (j : Nat) : Nat :=
  sumOf (ks.map (fun k => deltaOf s.telem.prev (coreKey k j) (nth (groupCtrs (coreAt s k)) j 0)))

/-- One entry of a GROUP_COUNTERS record (R496). -/
def groupEntry (s : State) (l : Layout) (w : Nat) : List Byte :=
  let ks := groupCores s l (bits w 15 0)
  leBytes 2 (bits w 15 0) ++ leBytes 2 (bits w 31 16) ++ leBytes 4 0 ++
    (List.range 8).flatMap (fun j => leBytes 8 (groupSum s ks j % 2 ^ 64))

/-- Groups in ascending GROUP order. -/
def insertGroup (w : Nat) : List Nat → List Nat
  | [] => [w]
  | v :: t => if bits w 15 0 ≤ bits v 15 0 then w :: v :: t else v :: insertGroup w t

/-- Chunks of at most 113 groups; the fuel is the number of groups (R496). -/
def groupChunks : Nat → List Nat → List (List Nat)
  | 0, _ => []
  | n + 1, l => if l.isEmpty then [] else l.take 113 :: groupChunks n (l.drop 113)

/-- The records of one context (R496). -/
def closeGroups (s : State) (n : Nat) : State :=
  let x := ctxAt s n
  match x.st, x.layout with
  | .active, some l =>
    let gs := l.groups.foldr insertGroup []
    forEach (groupChunks gs.length gs) (fun t ws =>
      closeRec t 3 n (leBytes 8 x.stepNum ++ leBytes 1 n ++ leBytes 1 0 ++ leBytes 2 ws.length ++ leBytes 4 0 ++
        ws.flatMap (groupEntry s l)) true) s
  | _, _ => s

/-- What the supervisor has read for the group records, kept; the interval's cores are forgotten (R491, R496). -/
def keepGroups (s : State) : State :=
  let prev := s.cores.foldl (fun t e => (List.range 8).foldl (fun t j =>
    tabSet t (coreKey e.1 j) (nth (groupCtrs e.2) j 0)) t) s.telem.prev
  { s with telem := { s.telem with prev := prev }, cores := s.cores.map (fun e => (e.1, { e.2 with ran := [] })) }

/-- GROUP_COUNTERS: a record for each ACTIVE context whose layout has groups (R496). -/
def execGroupCounters (s : State) : Host.Outcome State Fault Refusal :=
  .next (if s.sup.phase ≠ .ready ∨ groupS s = 0 then s else keepGroups (forEach (List.range 16) closeGroups s))

/-! ### Export (R499) -/

/-- A TYPE whose records name a context (R499). -/
def typeNamesCtx (type : Nat) : Bool := type == 3 || type == 4

/-- TELEM_READ: the latest record of a TYPE, and of a context where the TYPE names one (R499). -/
def execTelemRead (type ctx : Nat) (s : State) : Host.Outcome State Fault Refusal :=
  .next (if s.sup.phase ≠ .ready then s
    else if type = 0 ∨ 5 < type ∨ (typeNamesCtx type = true ∧ 16 ≤ ctx) then emit s (.mctp 0x10 1 [])
    else
      match findRec s type (if typeNamesCtx type then ctx else 0) with
      | none => emit s (.mctp 0x10 5 [])
      | some r => emit s (.mctpBytes 0x10 0 0 r.bytes))

/-- TELEM_SUBSCRIBE: the requester becomes the one subscriber, with its mask of types (R499). -/
def execTelemSubscribe (mask eid : Nat) (s : State) : Host.Outcome State Fault Refusal :=
  .next (if s.sup.phase ≠ .ready then s
    else emit { s with telem := { s.telem with mask := mask % 256, subEid := eid % 256 } } (.mctp 0x11 0 []))

/-- LATE_REQUEST: a late-arrival report of a context (R316, R499). -/
def execLateRequest (ctx : Nat) (s : State) : Host.Outcome State Fault Refusal :=
  .next (if s.sup.phase ≠ .ready then s
    else if 16 ≤ ctx then emit s (.mctp 0x12 1 [])
    else if (ctxAt s ctx).st ≠ .active then emit s (.mctp 0x12 5 [])
    else sendLate s ctx false)

/-- TELEMETRY_PUSH_TIMEOUT: the record that waits for the bus is dropped (R499). -/
def execTelemetryPushTimeout (s : State) : Host.Outcome State Fault Refusal :=
  .next { s with telem := { s.telem with push := s.telem.push.drop 1 } }

end Sys2Proof.Machine
end

