-- ==== Sys2Proof/Machine/Dispatch.lean ====
section
/-! DEFINITION. The dispatch: one arm per command, each a direct call of its meaning. -/

namespace Sys2Proof.Machine

/-- The effect of a command on everything but the queue. -/
def exec (i : Instr) (s : State) : Host.Outcome State Fault Refusal :=
  match i with
  | .inputPowerRise mv10 => Sys2Proof.Machine.execInputPowerRise mv10 s
  | .inputRange mv10 => Sys2Proof.Machine.execInputRange mv10 s
  | .powerFailShutdown => Sys2Proof.Machine.execPowerFailShutdown s
  | .faultShutdown cause => Sys2Proof.Machine.execFaultShutdown cause s
  | .stackRailFault die hbmRail => Sys2Proof.Machine.execStackRailFault die hbmRail s
  | .thermalThrottle die sensor temp => Sys2Proof.Machine.execThermalThrottle die sensor temp s
  | .hbmThermalThrottle basin temp => Sys2Proof.Machine.execHbmThermalThrottle basin temp s
  | .refClockLost => Sys2Proof.Machine.execRefClockLost s
  | .refClockRestored => Sys2Proof.Machine.execRefClockRestored s
  | .moduleReset => Sys2Proof.Machine.execModuleReset s
  | .startUp boot => Sys2Proof.Machine.execStartUp boot s
  | .startupClear => Sys2Proof.Machine.execStartupClear s
  | .fastClockStart die sel => Sys2Proof.Machine.execFastClockStart die sel s
  | .fastClockStop die sel => Sys2Proof.Machine.execFastClockStop die sel s
  | .settingsRead => Sys2Proof.Machine.execSettingsRead s
  | .settingsWrite magic version count entries => Sys2Proof.Machine.execSettingsWrite magic version count entries s
  | .ledgerRecordWritten => Sys2Proof.Machine.execLedgerRecordWritten s
  | .ledgerCompaction => Sys2Proof.Machine.execLedgerCompaction s
  | .getVersion tr => Sys2Proof.Machine.execGetVersion tr s
  | .getCapabilities tr => Sys2Proof.Machine.execGetCapabilities tr s
  | .negotiateAlgorithms tr offered => Sys2Proof.Machine.execNegotiateAlgorithms tr offered s
  | .getDigests tr => Sys2Proof.Machine.execGetDigests tr s
  | .getCertificate tr certSlot => Sys2Proof.Machine.execGetCertificate tr certSlot s
  | .challenge tr certSlot nonce => Sys2Proof.Machine.execChallenge tr certSlot nonce s
  | .getMeasurements tr index => Sys2Proof.Machine.execGetMeasurements tr index s
  | .keyExchange tr => Sys2Proof.Machine.execKeyExchange tr s
  | .finish tr session macOk => Sys2Proof.Machine.execFinish tr session macOk s
  | .keyUpdate tr session => Sys2Proof.Machine.execKeyUpdate tr session s
  | .heartbeat tr session => Sys2Proof.Machine.execHeartbeat tr session s
  | .endSession tr session => Sys2Proof.Machine.execEndSession tr session s
  | .getNonce tr session => Sys2Proof.Machine.execGetNonce tr session s
  | .getTransportCert tr session => Sys2Proof.Machine.execGetTransportCert tr session s
  | .registerOwner tr session tok ownerDigest fmDigest => Sys2Proof.Machine.execRegisterOwner tr session tok ownerDigest fmDigest s
  | .setFmKey tr session tok fmSerial fmDigest => Sys2Proof.Machine.execSetFmKey tr session tok fmSerial fmDigest s
  | .returnLc tr session tok => Sys2Proof.Machine.execReturnLc tr session tok s
  | .reprovision tr session tok => Sys2Proof.Machine.execReprovision tr session tok s
  | .ledgerClear tr session tok => Sys2Proof.Machine.execLedgerClear tr session tok s
  | .debugUnlock tr session tok => Sys2Proof.Machine.execDebugUnlock tr session tok s
  | .lcRetire tr session tok => Sys2Proof.Machine.execLcRetire tr session tok s
  | .provisioning certDigest => Sys2Proof.Machine.execProvisioning certDigest s
  | .go img => Sys2Proof.Machine.execGo img s
  | .goPersist img flashOk => Sys2Proof.Machine.execGoPersist img flashOk s
  | .pushComplete boot => Sys2Proof.Machine.execPushComplete boot s
  | .jtagInstruction ir => Sys2Proof.Machine.execJtagInstruction ir s
  | .sqDoorbell ctx ring value => Sys2Proof.Machine.execSqDoorbell ctx ring value s
  | .cqHead ctx value => Sys2Proof.Machine.execCqHead ctx value s
  | .msgHead ctx value => Sys2Proof.Machine.execMsgHead ctx value s
  | .descriptorFetch ctx desc => Sys2Proof.Machine.execDescriptorFetch ctx desc s
  | .hostDmaFault ctx ringFetch idx => Sys2Proof.Machine.execHostDmaFault ctx ringFetch idx s
  | .completionWrite ctx => Sys2Proof.Machine.execCompletionWrite ctx s
  | .messageRecordPlace ctx => Sys2Proof.Machine.execMessageRecordPlace ctx s
  | .interrupt ctx msgRing timeUp => Sys2Proof.Machine.execInterrupt ctx msgRing timeUp s
  | .hostNop ctx => Sys2Proof.Machine.execHostNop ctx s
  | .stageImage ctx env => Sys2Proof.Machine.execStageImage ctx env s
  | .stageWpkg ctx piece => Sys2Proof.Machine.execStageWpkg ctx piece s
  | .loadLayout ctx => Sys2Proof.Machine.execLoadLayout ctx s
  | .unloadLayout ctx => Sys2Proof.Machine.execUnloadLayout ctx s
  | .reloadScale ctx => Sys2Proof.Machine.execReloadScale ctx s
  | .infer ctx inp => Sys2Proof.Machine.execInfer ctx inp s
  | .sessionOpen ctx blob => Sys2Proof.Machine.execSessionOpen ctx blob s
  | .sessionClose ctx => Sys2Proof.Machine.execSessionClose ctx s
  | .stepSync ctx => Sys2Proof.Machine.execStepSync ctx s
  | .bindPeer ctx => Sys2Proof.Machine.execBindPeer ctx s
  | .setPorts ctx => Sys2Proof.Machine.execSetPorts ctx s
  | .fabRecord ctx rec => Sys2Proof.Machine.execFabRecord ctx rec s
  | .lateReport ctx => Sys2Proof.Machine.execLateReport ctx s
  | .debugDump ctx auth => Sys2Proof.Machine.execDebugDump ctx auth s
  | .retire ctx => Sys2Proof.Machine.execRetire ctx s
  | .microbatchAdmit ctx timeUp => Sys2Proof.Machine.execMicrobatchAdmit ctx timeUp s
  | .microbatchComplete ctx => Sys2Proof.Machine.execMicrobatchComplete ctx s
  | .enable ctx value => Sys2Proof.Machine.execEnable ctx value s
  | .apply ctx => Sys2Proof.Machine.execApply ctx s
  | .teardown ctx => Sys2Proof.Machine.execTeardown ctx s
  | .functionLevelReset fn => Sys2Proof.Machine.execFunctionLevelReset fn s
  | .contextOutstandingZero ctx => Sys2Proof.Machine.execContextOutstandingZero ctx s
  | .ctxQuarantine ctx => Sys2Proof.Machine.execCtxQuarantine ctx s
  | .contextClearComplete ctx => Sys2Proof.Machine.execContextClearComplete ctx s
  | .registerWrite off size value how => Sys2Proof.Machine.execRegisterWrite off size value how s
  | .meshApply => Sys2Proof.Machine.execMeshApply s
  | .chanWdogWrite basin value => Sys2Proof.Machine.execChanWdogWrite basin value s
  | .coreWindowAccess write off answers => Sys2Proof.Machine.execCoreWindowAccess write off answers s
  | .coreMxSnap => Sys2Proof.Machine.execCoreMxSnap s
  | .coreVcSnap => Sys2Proof.Machine.execCoreVcSnap s
  | .coreSpSnap => Sys2Proof.Machine.execCoreSpSnap s
  | .coreChSnap => Sys2Proof.Machine.execCoreChSnap s
  | .meshSnap => Sys2Proof.Machine.execMeshSnap s
  | .hbmSnap basin => Sys2Proof.Machine.execHbmSnap basin s
  | .fabSnap => Sys2Proof.Machine.execFabSnap s
  | .tstSnap => Sys2Proof.Machine.execTstSnap s
  | .codeNop core slot => Sys2Proof.Machine.execCodeNop core slot s
  | .mxc core => Sys2Proof.Machine.execMxc core s
  | .vcc core => Sys2Proof.Machine.execVcc core s
  | .sdc core => Sys2Proof.Machine.execSdc core s
  | .sendd core slot => Sys2Proof.Machine.execSendd core slot s
  | .sendt core slot => Sys2Proof.Machine.execSendt core slot s
  | .wait core slot => Sys2Proof.Machine.execWait core slot s
  | .seti core slot => Sys2Proof.Machine.execSeti core slot s
  | .addi core slot => Sys2Proof.Machine.execAddi core slot s
  | .adj core slot => Sys2Proof.Machine.execAdj core slot s
  | .loop core slot => Sys2Proof.Machine.execLoop core slot s
  | .dropRep core slot => Sys2Proof.Machine.execDropRep core slot s
  | .endOp core slot sample => Sys2Proof.Machine.execEndOp core slot sample s
  | .arrive core slot => Sys2Proof.Machine.execArrive core slot s
  | .syncWait core slot => Sys2Proof.Machine.execSyncWait core slot s
  | .arriveWait core slot => Sys2Proof.Machine.execArriveWait core slot s
  | .post core slot => Sys2Proof.Machine.execPost core slot s
  | .take core slot => Sys2Proof.Machine.execTake core slot s
  | .firingComplete core => Sys2Proof.Machine.execFiringComplete core s
  | .mxNop core => Sys2Proof.Machine.execMxNop core s
  | .mma core parity => Sys2Proof.Machine.execMma core parity s
  | .mxDrain core => Sys2Proof.Machine.execMxDrain core s
  | .mxClear core => Sys2Proof.Machine.execMxClear core s
  | .mxCmdStart core => Sys2Proof.Machine.execMxCmdStart core s
  | .mxShadowSwap core => Sys2Proof.Machine.execMxShadowSwap core s
  | .mxDrainStart core => Sys2Proof.Machine.execMxDrainStart core s
  | .mxDrainRow core parity => Sys2Proof.Machine.execMxDrainRow core parity s
  | .operandBeatArrive core port src => Sys2Proof.Machine.execOperandBeatArrive core port src s
  | .vcNop core => Sys2Proof.Machine.execVcNop core s
  | .chain core => Sys2Proof.Machine.execChain core s
  | .loadc core => Sys2Proof.Machine.execLoadc core s
  | .loadlut core => Sys2Proof.Machine.execLoadlut core s
  | .sets core => Sys2Proof.Machine.execSets core s
  | .vcQuadStart core parity => Sys2Proof.Machine.execVcQuadStart core parity s
  | .sdNop core unit => Sys2Proof.Machine.execSdNop core unit s
  | .load core unit => Sys2Proof.Machine.execLoad core unit s
  | .store core => Sys2Proof.Machine.execStore core s
  | .streamerRequest core unit => Sys2Proof.Machine.execStreamerRequest core unit s
  | .lineReturn core unit ecc => Sys2Proof.Machine.execLineReturn core unit ecc s
  | .ceWriteBack core => Sys2Proof.Machine.execCeWriteBack core s
  | .patrolScrub core ecc => Sys2Proof.Machine.execPatrolScrub core ecc s
  | .remoteAccess core ecc => Sys2Proof.Machine.execRemoteAccess core ecc s
  | .coreClear core => Sys2Proof.Machine.execCoreClear core s
  | .messageInject core ep => Sys2Proof.Machine.execMessageInject core ep s
  | .messageArrive core parity => Sys2Proof.Machine.execMessageArrive core parity s
  | .spillCopy core ep ecc => Sys2Proof.Machine.execSpillCopy core ep ecc s
  | .messageTake core ep ecc => Sys2Proof.Machine.execMessageTake core ep ecc s
  | .entryFree core ep => Sys2Proof.Machine.execEntryFree core ep s
  | .creditSend core ep timeUp => Sys2Proof.Machine.execCreditSend core ep timeUp s
  | .creditArrive core => Sys2Proof.Machine.execCreditArrive core s
  | .contributionArrive core => Sys2Proof.Machine.execContributionArrive core s
  | .stallRead => Sys2Proof.Machine.execStallRead s
  | .packetInject core => Sys2Proof.Machine.execPacketInject core s
  | .packetHop id dir => Sys2Proof.Machine.execPacketHop id dir s
  | .colEntry id => Sys2Proof.Machine.execColEntry id s
  | .packetEject id => Sys2Proof.Machine.execPacketEject id s
  | .flitReplay core dir => Sys2Proof.Machine.execFlitReplay core dir s
  | .linkFailure core dir => Sys2Proof.Machine.execLinkFailure core dir s
  | .hardGap die reason => Sys2Proof.Machine.execHardGap die reason s
  | .flipComplete => Sys2Proof.Machine.execFlipComplete s
  | .drainMarkerPass => Sys2Proof.Machine.execDrainMarkerPass s
  | .carryCopyComplete slot stateOk => Sys2Proof.Machine.execCarryCopyComplete slot stateOk s
  | .drainSweepPass => Sys2Proof.Machine.execDrainSweepPass s
  | .congestionEcho core outbound unit => Sys2Proof.Machine.execCongestionEcho core outbound unit s
  | .injectionWindowTick core outbound unit => Sys2Proof.Machine.execInjectionWindowTick core outbound unit s
  | .controlPacket hdr data node replays => Sys2Proof.Machine.execControlPacket hdr data node replays s
  | .engineArrive basin => Sys2Proof.Machine.execEngineArrive basin s
  | .enginePost basin => Sys2Proof.Machine.execEnginePost basin s
  | .engineTake basin => Sys2Proof.Machine.execEngineTake basin s
  | .release core => Sys2Proof.Machine.execRelease core s
  | .grant core => Sys2Proof.Machine.execGrant core s
  | .hbmRequest basin caFails => Sys2Proof.Machine.execHbmRequest basin caFails s
  | .hbmReadComplete basin ecc rowMiss => Sys2Proof.Machine.execHbmReadComplete basin ecc rowMiss s
  | .lineRestoreTimeout basin => Sys2Proof.Machine.execLineRestoreTimeout basin s
  | .hbmWriteBack basin => Sys2Proof.Machine.execHbmWriteBack basin s
  | .hbmSumInto basin ecc => Sys2Proof.Machine.execHbmSumInto basin ecc s
  | .hbmScrub basin pc read forced => Sys2Proof.Machine.execHbmScrub basin pc read forced s
  | .rowRepair basin row bank found => Sys2Proof.Machine.execRowRepair basin row bank found s
  | .refresh basin pc => Sys2Proof.Machine.execRefresh basin pc s
  | .recalibration basin ch forced ok => Sys2Proof.Machine.execRecalibration basin ch forced ok s
  | .selfRefreshEntry basin => Sys2Proof.Machine.execSelfRefreshEntry basin s
  | .selfRefreshExit basin => Sys2Proof.Machine.execSelfRefreshExit basin s
  | .stackWithdraw basin cause => Sys2Proof.Machine.execStackWithdraw basin cause s
  | .sessionRebuild ctx => Sys2Proof.Machine.execSessionRebuild ctx s
  | .portRetrain port ok => Sys2Proof.Machine.execPortRetrain port ok s
  | .linkBlockReplay port ok => Sys2Proof.Machine.execLinkBlockReplay port ok s
  | .fabricRequest port => Sys2Proof.Machine.execFabricRequest port s
  | .keyWaitTimeout port => Sys2Proof.Machine.execKeyWaitTimeout port s
  | .fabMergeTimeout port => Sys2Proof.Machine.execFabMergeTimeout port s
  | .fabWrite port pkt => Sys2Proof.Machine.execFabWrite port pkt s
  | .fabRead port pkt => Sys2Proof.Machine.execFabRead port pkt s
  | .fabSumInto port pkt => Sys2Proof.Machine.execFabSumInto port pkt s
  | .readData port pkt => Sys2Proof.Machine.execReadData port pkt s
  | .ack port pkt => Sys2Proof.Machine.execAck port pkt s
  | .nack port pkt => Sys2Proof.Machine.execNack port pkt s
  | .ackTimer port => Sys2Proof.Machine.execAckTimer port s
  | .fabArrive port pkt => Sys2Proof.Machine.execFabArrive port pkt s
  | .fabRelease port pkt => Sys2Proof.Machine.execFabRelease port pkt s
  | .resendTimeout port stream => Sys2Proof.Machine.execResendTimeout port stream s
  | .epochAheadResend port stream => Sys2Proof.Machine.execEpochAheadResend port stream s
  | .fabWinTick port stream => Sys2Proof.Machine.execFabWinTick port stream s
  | .fabKeyRenewal port entry => Sys2Proof.Machine.execFabKeyRenewal port entry s
  | .fabOldKeyErase port entry => Sys2Proof.Machine.execFabOldKeyErase port entry s
  | .mgmtSpdm port pkt finished chainOk peer => Sys2Proof.Machine.execMgmtSpdm port pkt finished chainOk peer s
  | .record port pkt sigOk => Sys2Proof.Machine.execRecord port pkt sigOk s
  | .mctpMembershipRecord rec => Sys2Proof.Machine.execMctpMembershipRecord rec s
  | .ctxClose port pkt => Sys2Proof.Machine.execCtxClose port pkt s
  | .ctxCloseAck port pkt => Sys2Proof.Machine.execCtxCloseAck port pkt s
  | .partInfo port pkt => Sys2Proof.Machine.execPartInfo port pkt s
  | .partInfoReq port pkt => Sys2Proof.Machine.execPartInfoReq port pkt s
  | .digestXchg port pkt => Sys2Proof.Machine.execDigestXchg port pkt s
  | .digestExchangeSend ctx => Sys2Proof.Machine.execDigestExchangeSend ctx s
  | .stepSyncPulse => Sys2Proof.Machine.execStepSyncPulse s
  | .scaleClose ctx => Sys2Proof.Machine.execScaleClose ctx s
  | .sectionSwap basin reserveLost => Sys2Proof.Machine.execSectionSwap basin reserveLost s
  | .drainComplete => Sys2Proof.Machine.execDrainComplete s
  | .drainTimeout => Sys2Proof.Machine.execDrainTimeout s
  | .idleSweepStep basin => Sys2Proof.Machine.execIdleSweepStep basin s
  | .priorityTest basin => Sys2Proof.Machine.execPriorityTest basin s
  | .idleTest basin pass => Sys2Proof.Machine.execIdleTest basin pass s
  | .checkCompare agrees => Sys2Proof.Machine.execCheckCompare agrees s
  | .thirdCoreResult eq => Sys2Proof.Machine.execThirdCoreResult eq s
  | .checkTimeout => Sys2Proof.Machine.execCheckTimeout s
  | .agingMonitorRead low => Sys2Proof.Machine.execAgingMonitorRead low s
  | .dieQuiesce die => Sys2Proof.Machine.execDieQuiesce die s
  | .quiesceTimeout die => Sys2Proof.Machine.execQuiesceTimeout die s
  | .stationResume core stateOk => Sys2Proof.Machine.execStationResume core stateOk s
  | .proofRunComplete die pass checkersFound => Sys2Proof.Machine.execProofRunComplete die pass checkersFound s
  | .weightRefill => Sys2Proof.Machine.execWeightRefill s
  | .shardSweep basin shard => Sys2Proof.Machine.execShardSweep basin shard s
  | .shardReloaded basin shard data => Sys2Proof.Machine.execShardReloaded basin shard data s
  | .basinReset => Sys2Proof.Machine.execBasinReset s
  | .partialDrainComplete => Sys2Proof.Machine.execPartialDrainComplete s
  | .dumpCollectComplete hbmRetrainOk => Sys2Proof.Machine.execDumpCollectComplete hbmRetrainOk s
  | .basinReady => Sys2Proof.Machine.execBasinReady s
  | .dumpRecordDeliver ctx => Sys2Proof.Machine.execDumpRecordDeliver ctx s
  | .armLapse basin => Sys2Proof.Machine.execArmLapse basin s
  | .telemRead type ctx => Sys2Proof.Machine.execTelemRead type ctx s
  | .telemSubscribe mask eid => Sys2Proof.Machine.execTelemSubscribe mask eid s
  | .lateRequest ctx => Sys2Proof.Machine.execLateRequest ctx s
  | .congestionMap unread => Sys2Proof.Machine.execCongestionMap unread s
  | .powerThermal ma100 watts joules => Sys2Proof.Machine.execPowerThermal ma100 watts joules s
  | .groupCounters => Sys2Proof.Machine.execGroupCounters s
  | .telemetryPushTimeout => Sys2Proof.Machine.execTelemetryPushTimeout s
  | .hostLinkTraining width rate flitMode => Sys2Proof.Machine.execHostLinkTraining width rate flitMode s
  | .mctpEndpointIdAssign eid => Sys2Proof.Machine.execMctpEndpointIdAssign eid s
  | .corePllRelock die => Sys2Proof.Machine.execCorePllRelock die s
  | .basinClearComplete basin => Sys2Proof.Machine.execBasinClearComplete basin s
  | .glbAlertWrite enableReg value => Sys2Proof.Machine.execGlbAlertWrite enableReg value s

end Sys2Proof.Machine
end

