-- ==== Sys2Proof/Safety.lean ====
section
/-! DEFINITION. What counts as a safe run, and the conditions on a state in which the claims say that a command performs its
own effect. -/

namespace Sys2Proof

open Machine

/-- The command is performed: the block answers a next state. -/
def Performs (i : Instr) (s : State) : Prop := ∃ t, exec i s = .next t

/-- Every memory of the module is in its canonical form. -/
def MemoriesWf (s : State) : Prop :=
  (∀ e ∈ s.cores, Memory.wf e.2.mem = true) ∧ (∀ e ∈ s.hbms, Memory.wf e.2.mem = true)

/-- Task slot `i` of core `k` stands at the operation word `w` and issues: the core runs its station, the slot neither waits
for an event nor has stopped, and `w` is the word of the code at its offset (R195, R197). -/
abbrev IssuesAt (s : State) (k i : Nat) (w : BitVec 128) : Prop :=
  k < nCores ∧ i < 8 ∧ coreRuns s k (coreAt s k) = true ∧ slotIssues (slotAt (coreAt s k) i) = true ∧
  (slotAt (coreAt s k) i).pc < codeLen (coreAt s k) ∧ codeAt (coreAt s k) (slotAt (coreAt s k) i).pc = w

/-- The rotating order takes slot `i` of core `k` for the queue that operation `op` writes: it stands at such an operation, and
no slot between the last one admitted and it does (R41, R102, R151). -/
abbrev TurnOf (s : State) (k op rot i : Nat) : Prop :=
  k < nCores ∧ rotPick rot (readyFor s k (coreAt s k) op) = some i

/-- The core alone changes: every other field of the state, and every other core, is as it was. -/
def OnlyCore (k : Nat) (s t : State) : Prop := t = putCore s k (coreAt t k)

/-- The context alone changes. -/
def OnlyCtx (n : Nat) (s t : State) : Prop := t = putCtx s n (ctxAt t n)

/-- The stack alone changes. -/
def OnlyHbm (b : Nat) (s t : State) : Prop := t = putHbm s b (hbmAt t b)

/-- The basin's record alone changes. -/
def OnlyBasin (b : Nat) (s t : State) : Prop := t = putBasin s b (basinAt t b)

/-- The port alone changes. -/
def OnlyPort (p : Nat) (s t : State) : Prop := t = putPort s p (portAt t p)

/-- The die alone changes. -/
def OnlyDie (d : Nat) (s t : State) : Prop := t = putDie s d (dieAt t d)

/-- A fabric packet passes rows 1 to 8 of R292 at a port, for context `n` and its entry `i` (row 5 concerns CTRL packets
only). -/
abbrev FabPasses (s : State) (f : FabPkt) (n i : Nat) : Prop :=
  hdrOk f = true ∧ ctxOfEp s f.dstId = some n ∧ (ctxAt s n).quarantined = false ∧ entFor s n f.srcId = some i ∧
  (entAt s i).valid = true ∧ (entAt s i).keyed = true ∧ (entAt s i).member = true ∧ f.clear = false ∧ f.authOk = true ∧
  (f.kph = (pairKey s i).rxPhase ∨ (pairKey s i).oldHeld = true) ∧ f.epoch = (ctxAt s n).fabEpoch ∧
  f.srcGen = (entAt s i).peerGen ∧ dstGenOk (ctxAt s n) f = true

/-- A packet of a REQ, RSP or MGMT stream that is executed: it passes the rows of R292, its SEQ is the next one, and every
packet before it has been acknowledged (R287). -/
abbrev FabNext (s : State) (p : Nat) (f : FabPkt) (n i : Nat) : Prop :=
  FabPasses s f n i ∧ classOf f.type ≠ 3 ∧ f.seq = (rxAt s p f.srcId f.dstId (classOf f.type)).expected ∧
  (rxAt s p f.srcId f.dstId (classOf f.type)).wait = []

/-- A CTRL packet that is executed (R292 row 5). -/
abbrev FabCtrl (s : State) (f : FabPkt) (n i : Nat) : Prop :=
  FabPasses s f n i ∧ classOf f.type = 3 ∧ (pairKey s i).ctrlRx ≤ f.seq

/-- An ACK or NACK of a context goes out at once: the context is not fenced, none waits before it, and the link has the credit
(R276, R296). -/
abbrev AnswersNow (s : State) (p n : Nat) : Prop :=
  (ctxAt s n).fenced = false ∧ (portAt s p).ctlQ = [] ∧ linkRoom s p 3 0 = true

/-- The sync mesh gives a command packet `p`: every packet in it has a TYPE of R245, and none leads into a new gap. -/
abbrev SyncTakes (s : State) (sel : Option SyncPkt) (p : SyncPkt) : Prop :=
  (∀ q ∈ s.mesh.sync, q.type ≤ 4) ∧ sel = some p ∧ syncGap s p = none

/-- A slot is placed on core `k` for the engine of basin `b`: so say all three copies of the entry in the bank that the
engine's node stamps (R17, R18, R250). -/
abbrev PlacedFor (s : State) (b slot k : Nat) : Prop :=
  k < nCores ∧
  tabGet (basinAt s b).place (placeKey (stampOf s (engineAt b)) slot) (0, 0, 0) = (k + 16384, k + 16384, k + 16384)

/-- A packet comes over the link of a port that is up (R276). -/
abbrev Arrives (s : State) (p : Nat) (w : WirePkt) (f : FabPkt) : Prop := p < 24 ∧ (portAt s p).up = true ∧ readHead w = f

/-- Context `n` takes command `h` of an OPC next: it is ACTIVE, and `h` is the oldest fetched command of the OPC that may start
(R321, R327). -/
abbrev TakesCmd (s : State) (n opc : Nat) (h : HCmd) : Prop :=
  n < 16 ∧ (ctxAt s n).st = .active ∧ nextCmd (ctxAt s n) opc = some h

/-- One completion record of the command, with its status and results, waits for the completion ring (R329). -/
def Answered (s t : State) (n : Nat) (h : HCmd) (status r0 r1 : Nat) : Prop :=
  (ctxAt t n).comps = (ctxAt s n).comps ++ [comp (cmdTag h) h.ring status r0 r1 (cmdNoIrq h)]

/-- One completion record of the command with a status waits for the completion ring (R329, R332). -/
def Ended (s t : State) (n : Nat) (h : HCmd) (status : Nat) : Prop :=
  ∃ k, (ctxAt t n).comps = (ctxAt s n).comps ++ [k] ∧ k.tag = cmdTag h ∧ k.ring = h.ring ∧ k.status = status ∧
    k.noIrq = cmdNoIrq h

/-- The context's rings are served: READY, the link up at 32 GT/s or above in Flit mode, the context ACTIVE (R317, R321). -/
abbrev Served (s : State) (n : Nat) : Prop := n < 16 ∧ ringsUp s = true ∧ (ctxAt s n).st = .active

/-- What holds of the board-level state: READY is the phase of start-up that says so; FAULT_N is latched exactly in a fault
shutdown; the always-on rail is off exactly without input power, the main rails are off there and in a fault shutdown and on
otherwise; in recovery and READY PERST_N is high; JTAG drives pins only under an instruction that does, with PERST_N low and
the module powered (R457, R462 to R464, R482). -/
structure BoardInv (s : State) : Prop where
  ready : s.glb.ready = true ↔ s.sup.phase = .ready
  fault : s.pwr.faultLatched = true ↔ s.sup.phase = .fault
  aon : s.pwr.aonRail = true ↔ s.sup.phase ≠ .unpowered
  main : s.pwr.mainRails = true ↔ s.sup.phase ≠ .unpowered ∧ s.sup.phase ≠ .fault
  perst : s.sup.phase = .ready ∨ s.sup.phase = .recovery → s.pwr.perstN = true
  pins : s.jtag.pinsDriven = true →
    JtagIr.drives s.jtag.actsAs = true ∧ s.pwr.perstN = false ∧ s.sup.phase ≠ .unpowered

/-- Fuses only ever burn: a life-cycle count or security version never falls, RETIRED stays, the UDS stays once fused, and the
keys, revocations, defect maps, ordering code and serial, and the owner digests of earlier deployments, never change
(R2, R24, R354 to R358, R373, R374). -/
structure FusesBurn (f g : Fuse) : Prop where
  count : f.lcCount ≤ g.lcCount
  retired : f.lcRetired = true → g.lcRetired = true
  svn : f.svn ≤ g.svn
  uds : f.uds = true → g.uds = true
  keys : g.keyDigest = f.keyDigest ∧ g.revoked = f.revoked
  maps : g.shipDefect = f.shipDefect ∧ g.routerDefect = f.routerDefect
  ids : g.orderCode = f.orderCode ∧ g.serial = f.serial
  owners : ∀ i, i < (f.lcCount - 1) / 3 → tabGet g.ownerDigest i 0 = tabGet f.ownerDigest i 0

end Sys2Proof
end

