-- ==== Sys2Proof/Certificates/Slice0/Obligations.lean ====
section
/-! DEFINITION. The statements for the provers. A statement about several families of commands is the conjunction of the claims
about each, which stand before it under `Sys2Proof.Claims`. -/

open Sys2Proof Sys2Proof.Machine

/-- A step runs the command at the front of the queue on the state with the queue's rest. -/
def Obligations.StepRunsFront : Prop :=
  ∀ (c : Instr) (s : State) (rest : List Instr), s.pending = c :: rest → step s = exec c { s with pending := rest }

/-- The model's own choice (log 2): on an empty queue a step is one reference tick. The tick counter goes up by 1 modulo 2^64
while it runs, and the oscillator's count with it while the reference clock has failed; the oldest waiting telemetry push
leaves; nothing else changes. -/
def Obligations.EmptyQueueTicks : Prop :=
  ∀ s : State, s.pending = [] → ∃ t, step s = .next t ∧
    (s.sup.ticking = true → t.sup = { s.sup with ticks := (s.sup.ticks + 1) % 2 ^ 64 }) ∧
    (s.sup.ticking = true → s.clk.refOk = false → t.clk = { s.clk with oscTicks := (s.clk.oscTicks + 1) % 2 ^ 32 }) ∧
    (s.sup.ticking = false → t.sup = s.sup) ∧ (s.sup.ticking = false ∨ s.clk.refOk = true → t.clk = s.clk) ∧
    (s.telem.push = [] → t.telem = s.telem ∧ t.out = s.out) ∧
    (∀ r l, s.telem.push = r :: l → t.telem = { s.telem with push := l } ∧
      t.out = s.out ++ [.mctpBytes 0x11 0 s.telem.subEid r.bytes]) ∧
    t = { s with sup := t.sup, clk := t.clk, telem := t.telem, out := t.out }

/-- Commands leave the queue first in, first out, one a step, and no command adds to the queue or takes from it. -/
def Obligations.QueueInOrder : Prop :=
  (∀ (c : Instr) (s t : State), exec c s = .next t → t.pending = s.pending) ∧
  (∀ s t : State, step s = .next t → t.pending = s.pending.tail)

/-- Every step keeps the invariant of the board: READY, FAULT_N, the rails, PERST_N and the boundary-scan drive agree with the
phase of start-up. -/
def Obligations.BoardInvariantKept : Prop := ∀ s t : State, BoardInv s → step s = .next t → BoardInv t

/-- The invariant of the board holds after reset. -/
def Obligations.BoardInvariantAtReset : Prop := BoardInv State.reset

/-- No step takes back a burned fuse. -/
def Obligations.FusesOnlyBurn : Prop := ∀ s t : State, step s = .next t → FusesBurn s.fuse t.fuse

/-- After reset: nothing waits and nothing has left; every context is FREE, without a layout, a grant, a port set or an
address, with CTX_MB_CFG at 100; every fabric port is as unpowered; alerts 0 to 4 are enabled; the collector's wait is 32
cycles and the occupancy thresholds are 90, 75 and 50; the self-refresh time of every stack is 1,000; the four test
configuration registers hold their reset values; and every counter is 0 (R440 and the
register tables). The model's own choice beside them: scratchpads and stacks read 0 everywhere. -/
def Obligations.ResetLeaves : Prop :=
  let s := State.reset
  s.pending = [] ∧ s.out = [] ∧ s.glb.ready = false ∧
  (∀ n, (ctxAt s n).st = .free ∧ (ctxAt s n).layout = none ∧ (ctxAt s n).act = {} ∧ (ctxAt s n).stg = {} ∧
    (ctxAt s n).portSet = 0 ∧ (ctxAt s n).mbCfg = 100 ∧ (ctxAt s n).stepCfg = 0) ∧
  (∀ p, portAt s p = {}) ∧ s.glb.alert = 0 ∧ s.glb.alertEn = 0x1F ∧ s.mesh.colWait = 32 ∧ s.mesh.thr = 0x5A4B32 ∧
  (∀ b, (hbmAt s b).srCfg = 1000) ∧ s.tst.idleCfg = 0x0004000A ∧ s.tst.checkCfg = 0x004000002710 ∧
  s.tst.digestCfg = 0x003C0018 ∧ s.tst.fenceCfg = 0x000103E8 ∧
  (∀ k i, tabGet (coreAt s k).ctr i 0 = 0) ∧ (∀ b i, tabGet (hbmAt s b).ctr i 0 = 0) ∧
  (∀ k i, tabGet (routerAt s k).ctr i 0 = 0) ∧ (∀ i, tabGet s.tst.ctr i 0 = 0) ∧
  (∀ k a, memGet (coreAt s k).mem a = 0) ∧ (∀ b a, memGet (hbmAt s b).mem a = 0) ∧ MemoriesWf s

/-- The memories: a byte reads as it was last written and a write changes no other byte; a run of bytes is written in order
upwards and nothing beside it changes; a cleared range reads 0 and nothing beside it changes; every operation keeps the
canonical form, and two memories in that form that read alike are equal. -/
def Obligations.MemoryReadsAndWrites : Prop :=
  (∀ (m : Mem) (a b : Nat) (v : Byte), Memory.wf m = true → memGet (memSet m a v) b = if b = a then v else memGet m b) ∧
  (∀ (m : Mem) (a b : Nat) (l : List Byte), Memory.wf m = true →
    memGet (memWrite m a l) b = if a ≤ b ∧ b < a + l.length then l.getD (b - a) 0 else memGet m b) ∧
  (∀ (m : Mem) (a n b : Nat), memGet (memClear m a n) b = if a ≤ b ∧ b < a + n then 0 else memGet m b) ∧
  (∀ (m : Mem) (a n : Nat) (l : List Byte), Memory.wf m = true →
    Memory.wf (memWrite m a l) = true ∧ Memory.wf (memClear m a n) = true) ∧
  (∀ m n : Mem, Memory.wf m = true → Memory.wf n = true → (∀ a, memGet m a = memGet n a) → m = n)

/-- The stored form: 16 bytes with W in bits 103:0, the anchor in 111:104, SAT, INVALID and POISON in bits 112, 113 and 114 and
TERMS in 127:115; a value read back from its stored form is the value, and a stored form written again is the stored form. -/
def Obligations.StoredForm : Prop :=
  (∀ v : Esf, v.anchor < 256 → v.terms ≤ 8191 → esfPack v < 2 ^ 128 ∧ esfUnpack (esfPack v) = v ∧
    bits (esfPack v) 103 0 = v.w.toNat ∧ bits (esfPack v) 111 104 = v.anchor ∧ bitAt (esfPack v) 112 = v.sat ∧
    bitAt (esfPack v) 113 = v.invalid ∧ bitAt (esfPack v) 114 = v.poison ∧ bits (esfPack v) 127 115 = v.terms) ∧
  (∀ n, n < 2 ^ 128 → esfPack (esfUnpack n) = n)

/-- The grid value of a product: p / g rounded to the nearest integer, ties to even, clamped into the window with SAT; it is
added with TERMS 1 and only SAT, and an invalid product gives 0 with INVALID. -/
def Obligations.ProductsRounded : Prop :=
  (∀ (neg : Bool) (m : Nat) (e : Int) (anchor : Nat),
    let t : ℚ := (if neg then -1 else 1) * ((m : ℚ) * 2 ^ e) / 2 ^ ((anchor : Int) - 176)
    let f : ℚ := t - (⌊t⌋ : ℤ)
    let q : ℤ := if 1 / 2 < f ∨ (f = 1 / 2 ∧ ⌊t⌋ % 2 = 1) then ⌊t⌋ + 1 else ⌊t⌋
    roundProduct neg m e anchor =
      (if 2 ^ 95 - 1 < q then (2 ^ 95 - 1, true) else if q < -2 ^ 95 then (-2 ^ 95, true) else (q, false))) ∧
  (∀ (na nb : Bool) (ma mb x y anchor : Nat) (ea eb sa sb : Int), x ≠ 255 → y ≠ 255 →
    let r := roundProduct (na != nb) (ma * mb) (ea + eb + ((x : Int) - 127) + ((y : Int) - 127) + sa + sb) anchor
    productEsf ⟨.fin na ma ea, x⟩ ⟨.fin nb mb eb, y⟩ sa sb anchor =
      { w := BitVec.ofInt 104 r.1, anchor := anchor, terms := 1, sat := r.2, invalid := false, poison := false }) ∧
  (∀ (a b : Elem) (sa sb : Int) (anchor : Nat),
    a.x = 255 ∨ b.x = 255 ∨ (∀ n m e, a.v ≠ .fin n m e) ∨ (∀ n m e, b.v ≠ .fin n m e) →
    productEsf a b sa sb anchor =
      { w := 0, anchor := anchor, terms := 1, sat := false, invalid := true, poison := false }) ∧
  (∀ (a : Acc) (p : Esf), accAdd a p =
    { w := a.w + p.w, terms := min (a.terms + p.terms) 8191, sat := a.sat || p.sat, invalid := a.invalid || p.invalid,
      poison := a.poison || p.poison })

/-- The sum of two values with equal anchors, its commutativity and associativity, one sum for every order of the values; and
the accumulators, a landing slot, the routers and remote sum-into add in this way. -/
def Obligations.SumsOfEsf : Prop :=
  (∀ a b : Esf, a.anchor = b.anchor →
    (esfAdd a b).w.toNat = (a.w.toNat + b.w.toNat) % 2 ^ 104 ∧ (esfAdd a b).anchor = a.anchor ∧
    (esfAdd a b).terms = min (a.terms + b.terms) 8191 ∧ ((esfAdd a b).sat = true ↔ a.sat = true ∨ b.sat = true) ∧
    ((esfAdd a b).invalid = true ↔ a.invalid = true ∨ b.invalid = true) ∧
    ((esfAdd a b).poison = true ↔ a.poison = true ∨ b.poison = true) ∧ esfAdd a b = esfAdd b a) ∧
  (∀ a b c : Esf, a.anchor = b.anchor → b.anchor = c.anchor → esfAdd (esfAdd a b) c = esfAdd a (esfAdd b c)) ∧
  (∀ (z : Esf) (l r : List Esf), l.Perm r → l.foldl esfAdd z = r.foldl esfAdd z) ∧
  (∀ (anchor : Nat) (all : Bool) (a : Acc) (p : Esf), accEsf anchor all (accAdd a p) = esfAdd (accEsf anchor all a) p) ∧
  (∀ (x y : Nat), (esfUnpack x).anchor = (esfUnpack y).anchor →
    sumInto16 x y = (esfPack (esfAdd (esfUnpack x) (esfUnpack y)), false)) ∧
  (∀ (p q : Pkt) (n : Nat), p.len = 16 * n → q.len = 16 * n → vals16 n (mergePkt p q).data =
    ((vals16 n p.data).zip (vals16 n q.data)).map (fun v => esfPack (esfAdd (esfUnpack v.1) (esfUnpack v.2))))

/-- W is the exact sum of the rounded products while that sum lies between -2^103 and 2^103 - 1, and wraps modulo 2^104 beyond
it with no flag set for it; 256 values in the window never leave the range. -/
def Obligations.SumsExactInRange : Prop :=
  (∀ (z : Esf) (l : List Esf), z.w = 0 →
    let sum : Int := (l.map (fun v => wInt v.w)).sum
    let r := l.foldl esfAdd z
    (r.w = BitVec.ofInt 104 sum) ∧ (-2 ^ 103 ≤ sum → sum ≤ 2 ^ 103 - 1 → wInt r.w = sum) ∧
    (r.sat = (z.sat || l.any (·.sat))) ∧ (r.invalid = (z.invalid || l.any (·.invalid))) ∧
    (r.poison = (z.poison || l.any (·.poison)))) ∧
  (∀ (z : Esf) (l : List Esf), z.w = 0 → l.length ≤ 256 → (∀ v ∈ l, inWindow v.w = true) →
    wInt (l.foldl esfAdd z).w = (l.map (fun v => wInt v.w)).sum)

/-- The dither is a 24-bit number; with it, |t| between the neighbours lo and hi = lo + 1 in last places becomes hi exactly when
floor(f × 2^24) + u reaches 2^24, and a value on the grid is never moved; without it |t| goes to the nearer neighbour, ties
to even (m × 2^e in last places 2^q). -/
def Obligations.RoundingToFormat : Prop :=
  (∀ seed tensor elem n : Nat, dither seed tensor elem n < 2 ^ 24) ∧
  (∀ (m : Nat) (e q : Int) (u : Nat), u < 2 ^ 24 →
    let t : ℚ := (m : ℚ) * 2 ^ e / 2 ^ q
    let f : ℚ := t - (⌊t⌋ : ℤ)
    (roundUnits m e q (some u) : ℤ) = (if (2 : ℤ) ^ 24 ≤ ⌊f * 2 ^ 24⌋ + u then ⌊t⌋ + 1 else ⌊t⌋) ∧
    (f = 0 → (roundUnits m e q (some u) : ℤ) = ⌊t⌋) ∧
    (roundUnits m e q none : ℤ) = if 1 / 2 < f ∨ (f = 1 / 2 ∧ ⌊t⌋ % 2 = 1) then ⌊t⌋ + 1 else ⌊t⌋)

/-- NOP, SETI, ADDI, LOOP and WAIT at a slot's code offset: the index register named, the next offset, and nothing else of the
state; a LOOP whose register or target is not valid stops its slot with STATION_CODE_INVALID, taken or not (R195, R200). -/
def Sys2Proof.Claims.StationRegisterOps : Prop :=
  ∀ (s : State) (k i : Nat) (w : BitVec 128), IssuesAt s k i w →
    let c := coreAt s k
    let t := slotAt c i
    let v : W64 := idxAt t (opA w) + 1
    (opOp w = 0x00 →
      exec (.codeNop k i) s = .next (putCore s k (putSlot c i { t with st := .running, pc := t.pc + 1, adj := [] }))) ∧
    (opOp w = 0x07 → opA w ≤ 3 →
      exec (.seti k i) s = .next (putCore s k (putSlot c i
        { t with st := .running, pc := t.pc + 1, adj := [], idx := tabSet t.idx (opA w) (BitVec.ofNat 64 (opD w)) }))) ∧
    (opOp w = 0x08 → opA w ≤ 3 →
      exec (.addi k i) s = .next (putCore s k (putSlot c i
        { t with st := .running, pc := t.pc + 1, adj := [],
                 idx := tabSet t.idx (opA w) (BitVec.ofNat 64
                   (if opC w = 0 then (idxAt t (opA w)).toNat + opD w
                    else ((idxAt t (opA w)).toNat + opD w) % opC w)) }))) ∧
    (opOp w = 0x0A → opA w ≤ 3 → opD w ≤ v.toNat → opC w < codeLen c → codeMarked c (opC w) = true →
      exec (.loop k i) s = .next (putCore s k (putSlot c i
        { t with st := .running, pc := t.pc + 1, adj := [], idx := tabSet t.idx (opA w) v }))) ∧
    (opOp w = 0x0A → opA w ≤ 3 → v.toNat < opD w → opC w < codeLen c → codeMarked c (opC w) = true →
      exec (.loop k i) s = .next (putCore s k (putSlot c i
        { t with st := .running, pc := opC w, adj := [], idx := tabSet t.idx (opA w) v }))) ∧
    (opOp w = 0x0A → (3 < opA w ∨ codeLen c ≤ opC w ∨ codeMarked c (opC w) = false) →
      exec (.loop k i) s = .next (applyEvs k (putCore s k (stopSlot c i evStationCodeInvalid))
        [.fault evStationCodeInvalid i noFld noFld t.pc 0 0])) ∧
    (opOp w = 0x06 → (opA w ≤ 4 ∨ (opA w = 5 ∧ opB w ≤ 31)) →
      exec (.wait k i) s = .next (putCore s k (putSlot c i
        (if opC w ≤ waitCount c i (opA w) (opB w) ∨ (opA w = 5 ∧ c.replay.isSome = true) then { t with st := .running, pc := t.pc + 1, adj := [] }
         else { t with st := .waitOp }))))

/-- MXC, VCC and SDC in the turn of a slot: with room the command, as its ADJs leave it, goes behind those queued and the slot
past its payload; on a full queue nothing is queued and the core counts the wait. A slot whose own streamer queue is full does
not keep another from its turn (R41, R102, R151, R195, R196). -/
def Sys2Proof.Claims.StationIssue : Prop :=
  ∀ (s : State) (k i : Nat),
    let c := coreAt s k
    let t := slotAt c i
    let d : BitVec 512 := BitVec.ofNat 512 (payload c i 4)
    let u := strmAt c (sdUnit d)
    (TurnOf s k 0x01 c.mxRot i → c.mxq.length < 16 →
      exec (.mxc k) s = .next (putCore s k { putSlot c i { t with st := .running, pc := t.pc + 3, adj := [] } with
        mxq := c.mxq ++ [{ cmd := BitVec.ofNat 256 (payload c i 2), slot := i, firing := t.firing, mb := t.mb, step := t.step }],
        mxRot := i })) ∧
    (TurnOf s k 0x01 c.mxRot i → 16 ≤ c.mxq.length →
      ∃ r, exec (.mxc k) s = .next (putCore s k r) ∧ r.mxq = c.mxq ∧ r.ctr = bump c.ctr 8 1 ∧ (slotAt r i).pc = t.pc) ∧
    (TurnOf s k 0x02 c.vcRot i → c.vcq.length < 8 →
      exec (.vcc k) s = .next (putCore s k { putSlot c i { t with st := .running, pc := t.pc + 7, adj := [] } with
        vcq := c.vcq ++ [{ cmd := BitVec.ofNat 768 (payload c i 6), slot := i, firing := t.firing, mb := t.mb, step := t.step }],
        vcRot := i })) ∧
    (k < nCores → rotPick c.sdRot (fun j => readyFor s k c 0x03 j && !sdWaits c j) = some i → sdValid d = true → u.q.length < 8 → ∀ e, sdTranslate s k t d = some e →
      exec (.sdc k) s = .next (putCore s k { putStrm (putSlot c i { t with st := .running, pc := t.pc + 5, adj := [] }) (sdUnit d)
          { u with q := u.q ++ [{ d := e, slot := i, firing := t.firing, mb := t.mb, step := t.step }] } with
        sdRot := i })) ∧
    (TurnOf s k 0x03 c.sdRot i → (∀ j, readyFor s k c 0x03 j = true → sdWaits c j = true) → sdValid d = true →
      (∃ e, sdTranslate s k t d = some e) →
      ∃ r, exec (.sdc k) s = .next (putCore s k r) ∧ r.strm = c.strm ∧ r.ctr = bump c.ctr 61 1 ∧ (slotAt r i).pc = t.pc) ∧
    (TurnOf s k 0x03 c.sdRot i → sdFormOk d = false →
      exec (.sdc k) s = .next (applyEvs k
        (putCore s k (stopSlot (bumpCore c 62 1) i evStreamDescInvalid))
        [.fault evStreamDescInvalid i noFld (sdTag d) 0 0 0]))

/-- ADJ: the source times C is kept for the field it names of the payload that follows, the slot goes on by one word, and the
code is not changed (R196). -/
def Sys2Proof.Claims.StationAdjust : Prop :=
  ∀ (s : State) (k i n v : Nat) (w : BitVec 128), IssuesAt s k i w → opOp w = 0x09 →
    let c := coreAt s k
    let t := slotAt c i
    let off := opB w % 1024
    let width := opB w / 1024 + 1
    adjSource t (opA w % 8) = some v → nextPay c (codeLen c) (t.pc + 1) = some n → off + width ≤ n * 128 →
    exec (.adj k i) s = .next (putCore s k (putSlot c i
      { t with st := .running, pc := t.pc + 1, adj := t.adj ++ [(off, width, v * opC w)] })) ∧
    (∀ r, exec (.adj k i) s = .next r → (coreAt r k).station = c.station)

/-- Station code: registers, jumps, waits, adjusts and issue: StationRegisterOps, StationIssue, StationAdjust, as said at each. -/
def Obligations.StationCode : Prop :=
  Sys2Proof.Claims.StationRegisterOps ∧ Sys2Proof.Claims.StationIssue ∧ Sys2Proof.Claims.StationAdjust

/-- SENDD and SENDT on an endpoint of another kind than REDUCE that the slot owns: the send goes behind those waiting there and
counts for its firing, and the slot goes on, held for credit where the credits do not reach (R164, R166 to R168, R187). -/
def Sys2Proof.Claims.StationSends : Prop :=
  ∀ (s : State) (k i : Nat) (w : BitVec 128), IssuesAt s k i w →
    let c := coreAt s k
    let t := slotAt c i
    let o := outAt c (opA w)
    let m := payload c i 1
    let go (n : Nat) : Slot :=
      { t with st := if sendRoom c (opA w) ≤ o.sendQ.length then .credit else .running, pc := t.pc + n, adj := [] }
    let sent (x : Send) : OutEp :=
      { o with sendQ := o.sendQ ++ [x], sentNow := tabSet o.sentNow t.firing (tabGet o.sentNow t.firing 0 + 1) }
    opA w < 32 → (outKind o = 1 ∨ outKind o = 2) → outOwner o = i →
    (opOp w = 0x05 →
      exec (.sendt k i) s = .next (putCore s k (putSlot (putOut c (opA w)
        (sent { kind := 1, data := opD w, vals := [], poison := false, slot := i, firing := t.firing })) i (go 1)))) ∧
    (∀ b, opOp w = 0x04 → (bits m 41 40 = 1 ∨ bits m 41 40 = 2) → bits m 47 42 = 0 → bits m 127 88 = 0 →
      imgBasin s k (bits m 39 36) = some b →
      exec (.sendd k i) s = .next (putCore s k (putSlot (putOut c (opA w)
        (sent { kind := 0, data := putBits m 36 4 b, vals := [], poison := false, slot := i, firing := t.firing })) i (go 2))))

/-- A send on a disabled endpoint or by a slot that does not own it, and any send of station code on a REDUCE endpoint, is
refused: the slot stops with CH_SEND_INVALID or CH_KIND_MISMATCH, the refusal is counted and handled as a layout fault, and
the endpoint is as it was (R166). -/
def Sys2Proof.Claims.SendRefused : Prop :=
  ∀ (s : State) (k i : Nat) (w : BitVec 128), IssuesAt s k i w → opOp w = 0x05 → opA w < 32 →
    let c := coreAt s k
    let o := outAt c (opA w)
    let after (code : Nat) : State :=
      applyEvs k (putCore s k (stopSlot (bumpCore c 76 1) i code)) [.fault code i (opA w) noFld 0 0 0]
    ((outKind o = 0 ∨ outOwner o ≠ i) → exec (.sendt k i) s = .next (after evChSendInvalid)) ∧
    (outKind o = 3 → outOwner o = i → exec (.sendt k i) s = .next (after evChKindMismatch))

/-- Sends of station code: StationSends, SendRefused, as said at each. -/
def Obligations.StationSending : Prop :=
  Sys2Proof.Claims.StationSends ∧ Sys2Proof.Claims.SendRefused

/-- END of a firing that is not sampled: the slot comes to its next firing, at ENTRY where that firing's microbatch may begin
and else waiting for it; a sampled firing takes the nearest checker, or goes unchecked and counts it (R197, R385). -/
def Sys2Proof.Claims.StationEnd : Prop :=
  ∀ (s : State) (k i : Nat) (w : BitVec 128), IssuesAt s k i w → opOp w = 0x0D →
    let c := coreAt s k
    let f := (slotAt c i).firing + 1
    let d := nextFiring s k c i f
    proofRun s (dieOf k) = false →
    exec (.endOp k i false) s = .next (putCore s k d) ∧
    (mayFire s k c f = true →
      (slotAt d i).pc = entryOf c i ∧ (slotAt d i).firing = f ∧ (slotAt d i).mb = f / firesPerMb c ∧
      (slotAt d i).base = (slotAt c i).done ∧ d.begun = max c.begun (f + 1)) ∧
    (mayFire s k c f = false → (slotAt d i).st = .afterEnd ∧ (slotAt d i).firing = f ∧ d.begun = c.begun) ∧
    (c.replay = none → firstAt c i f = true → c.check = none → s.tst.checkCfg % 2 ^ 32 ≠ 0 → chooseChecker s k [dieOf k] = none →
      exec (.endOp k i true) s = .next (bumpTst (putCore s k d) 11 1))

/-- A firing whose slots have all ended, of which nothing is left and whose messages agree with the station's rates is
complete: the firing number advances, the suspect window follows, and no slot and no byte of the scratchpad changes. The
recomputation of a firing only ends (R197, R199, R388, R391). -/
def Sys2Proof.Claims.FiringCompletes : Prop :=
  ∀ (s : State) (k : Nat), k < nCores →
    let c := coreAt s k
    c.station.isSome = true → firesPerMb c ≠ 0 → c.firing < c.begun → slotsEnded c c.firing = true →
    firingBusy c c.firing = false →
    (c.replay = none → rateFaults c c.firing = [] →
      ∃ r, exec (.firingComplete k) s = .next (putCore s k r) ∧ r.firing = c.firing + 1 ∧
        r.lastMb = c.firing / firesPerMb c ∧ r.slots = c.slots ∧ r.mem = c.mem ∧
        r.window = addWin c.window (ownerOf s (basinOf k)) (c.slot.getD 0xFFFF) (c.firing / firesPerMb c)) ∧
    (c.replay.isSome = true →
      ∃ r, exec (.firingComplete k) s = .next (putCore s k r) ∧ r.firing = c.firing + 1 ∧ r.slots = c.slots ∧ r.mem = c.mem ∧
        r.window = c.window ∧ r.lastMb = c.lastMb)

/-- DROPREP inside the slot's window and powered sub-banks: its drop entries are noted for the slot's microbatch, whatever the
decoding of their codewords finds, and the slot goes on; no byte of the scratchpad changes (R130, R131, R204). -/
def Sys2Proof.Claims.StationDropReport : Prop :=
  ∀ (s : State) (k i : Nat) (w : BitVec 128) (ecc : List Ecc), IssuesAt s k i w → opOp w = 0x0C →
    let c := coreAt s k
    let win := windowOf c i
    let a := winBase win + opC w
    let n := ownerOf s (basinOf k)
    winOk win (opC w) (8 * opB w) = true → banksOn c a (8 * opB w) = true →
    ∃ t : State, exec (.dropRep k ⟨i, ecc⟩) s = .next t ∧
      (slotAt (coreAt t k) i).pc = (slotAt c i).pc + 1 ∧ (coreAt t k).mem = c.mem ∧
      (c.replay = none → (ctxAt t n).drops = (ctxAt s n).drops ++
        (List.range (opB w)).map (fun j => ((slotAt c i).mb, leNat (memRead c.mem (a + 8 * j) 8))))

/-- A completed firing whose counts differ from the station's rates is RATE_MISMATCH, one layout fault for each endpoint that
differs, and the owners of those endpoints stop (R199). -/
def Sys2Proof.Claims.RateMismatch : Prop :=
  ∀ (s : State) (k : Nat) (b : Nat × Nat × Nat × Nat × Nat), k < nCores →
    let c := coreAt s k
    c.station.isSome = true → firesPerMb c ≠ 0 → c.firing < c.begun → slotsEnded c c.firing = true →
    firingBusy c c.firing = false → c.replay = none → rateFaults c c.firing = [b] →
    ∃ r, exec (.firingComplete k) s =
        .next (applyEv k (putCore s k r) (.fault evRateMismatch b.1 b.2.1 noFld b.2.2.1 b.2.2.2.1 b.2.2.2.2)) ∧
      (slotAt r b.1).st = .stopped ∧ (slotAt r b.1).stopEv = evRateMismatch

/-- Ends of firings: StationEnd, FiringCompletes, StationDropReport, RateMismatch, as said at each. -/
def Obligations.FiringsEnd : Prop :=
  Sys2Proof.Claims.StationEnd ∧ Sys2Proof.Claims.FiringCompletes ∧ Sys2Proof.Claims.StationDropReport ∧ Sys2Proof.Claims.RateMismatch

/-- The SYNC operations of a slot on an object of its layout: ARRIVE sends the slot's phase and advances it modulo 65,536,
WAIT holds the slot until the release of the phase it last arrived in, ARRIVE_WAIT does both, POST sends C, TAKE asks for one
unit and holds the slot; every packet carries the epoch that its node stamps and names the object and its home, for whose
engine it is bound. On a core that recomputes a firing each completes at once and sends nothing (R230, R245, R247 to R249, R388). -/
def Sys2Proof.Claims.SyncOperations : Prop :=
  ∀ (s : State) (k i h : Nat) (w : BitVec 128) (e : SyncEnt) (d : Core), IssuesAt s k i w → opOp w = 0x0B →
    (coreAt s k).replay = none → imgBasin s k (bits (opB w) 11 8) = some h →
    syncEntry (coreAt s k) (syncKey h (bits (opB w) 7 0)) = some (e, d) →
    let t : Slot := { slotAt d i with st := .running, pc := (slotAt d i).pc + 1, adj := [] }
    let p (type val : Nat) : SyncPkt :=
      { type := type, epoch := stampOf s k, obj := e.obj % 256, home := e.obj / 256, slot := d.slot.getD 0xFFFF, tslot := i,
        val := val, src := k, dst := engineAt (e.obj / 256) }
    let sent (c : Core) (q : SyncPkt) : State :=
      let s1 := bumpNode (putCore s k c) k (b2n q.epoch)
      { s1 with mesh := { s1.mesh with sync := s.mesh.sync ++ [q] } }
    let e1 : SyncEnt := { e with next := tabSet e.next i ((tabGet e.next i 0 + 1) % 65536) }
    (opA w = 0 → exec (.arrive k i) s = .next (sent (putSlot (putSync d e1) i t) (p 0 (tabGet e.next i 0)))) ∧
    (opA w = 1 → tabGet e.last i 0 = tabGet e.next i 0 → exec (.syncWait k i) s = .next (putCore s k (putSlot d i t))) ∧
    (opA w = 1 → tabGet e.last i 0 ≠ tabGet e.next i 0 →
      exec (.syncWait k i) s = .next (putCore s k (putSlot d i
        { t with st := .sync, syncObj := e.obj, syncPhase := tabGet e.next i 0, takeWait := false }))) ∧
    (opA w = 2 → tabGet e.last i 0 ≠ tabGet e1.next i 0 →
      exec (.arriveWait k i) s = .next (sent (putSlot (putSync d e1) i
        { t with st := .sync, syncObj := e.obj, syncPhase := tabGet e1.next i 0, takeWait := false })
        (p 0 (tabGet e.next i 0)))) ∧
    (opA w = 2 → tabGet e.last i 0 = tabGet e1.next i 0 →
      exec (.arriveWait k i) s = .next (sent (putSlot (putSync d e1) i t) (p 0 (tabGet e.next i 0)))) ∧
    (opA w = 3 → exec (.post k i) s = .next (sent (putSlot d i t) (p 1 (opC w % 65536)))) ∧
    (opA w = 4 → exec (.take k i) s = .next (sent (putSlot d i { t with st := .sync, syncObj := e.obj, takeWait := true })
      (p 2 1)))

/-- The SYNC operations on a core that recomputes a firing: each completes at once and sends nothing (R388). -/
def Sys2Proof.Claims.SyncReplayed : Prop :=
  ∀ (s : State) (k i : Nat) (w : BitVec 128), IssuesAt s k i w → opOp w = 0x0B → (coreAt s k).replay.isSome = true →
    let c := coreAt s k
    let t : State := putCore s k (putSlot c i { slotAt c i with st := .running, pc := (slotAt c i).pc + 1, adj := [] })
    (opA w = 0 → exec (.arrive k i) s = .next t) ∧ (opA w = 1 → exec (.syncWait k i) s = .next t) ∧
    (opA w = 2 → exec (.arriveWait k i) s = .next t) ∧ (opA w = 3 → exec (.post k i) s = .next t) ∧
    (opA w = 4 → exec (.take k i) s = .next t)

/-- A barrier of its own module at its engine: an arrival for the current phase is counted once, whatever the order; the
arrival that completes the phase releases every slot that arrived, each RELEASE stamped and translated at the engine, and the
phase advances modulo 65,536 (R248, R250). -/
def Sys2Proof.Claims.BarrierArrival : Prop :=
  ∀ (s : State) (b : Nat) (p : SyncPkt) (x : SyncObj) (g : Nat → Nat), b < 16 → SyncTakes s (syncFor s b 0) p →
    objAt s b p.obj = some x →
    x.isToken = false → x.replica = false → p.val = x.phase → x.phase < 65536 →
    let own := epOf (ctxAt s (ownerOf s b))
    let a := (own, p.slot, p.tslot)
    let s1 := dropSync s p
    let s2 := putObj s1 b p.obj { x with cur := x.cur ++ [a], lastTick := s.sup.ticks }
    (x.cur.contains a = true → exec (.engineArrive b) s = .next (bumpSync s1 b 0 1)) ∧
    (x.cur.contains a = false → x.cur.length + 1 < x.participants → exec (.engineArrive b) s = .next (bumpSync s2 b 0 1)) ∧
    (x.cur.contains a = false → x.cur.length + 1 = x.participants → x.nxt.length < x.participants →
      (∀ y ∈ x.cur ++ [a], y.1 = own ∧ PlacedFor s b y.2.1 (g y.2.1)) →
      ∃ t : State, exec (.engineArrive b) s = .next t ∧
        objAt t b p.obj = some { x with phase := (x.phase + 1) % 65536, cur := x.nxt, nxt := [], lastTick := s.sup.ticks } ∧
        t.mesh.sync = s1.mesh.sync ++ (x.cur ++ [a]).map (fun y =>
          { type := 3, epoch := stampOf s (engineAt b), obj := p.obj, home := b, slot := y.2.1, tslot := y.2.2, val := x.phase,
            src := engineAt b, dst := g y.2.1 }))

/-- A RELEASE or a GRANT that reaches a core leaves the mesh; the slot that waits for it goes on, and no other slot changes. A
HELD core drops the packet (R248, R249, R251). -/
def Sys2Proof.Claims.SyncAnswers : Prop :=
  ∀ (s : State) (k : Nat) (p : SyncPkt), k < nCores →
    let c := coreAt s k
    let t := slotAt c p.tslot
    c.holding = false → t.st = .sync → t.syncObj = syncKey p.home p.obj →
    (SyncTakes s (answerFor s k 3) p → c.held = true → exec (.release k) s = .next (dropSync s p)) ∧
    (SyncTakes s (answerFor s k 4) p → c.held = true → exec (.grant k) s = .next (dropSync s p)) ∧
    (SyncTakes s (answerFor s k 3) p → c.held = false → c.slot = some p.slot → t.takeWait = false →
      t.syncPhase = (p.val + 1) % 65536 →
      ∃ r, exec (.release k) s = .next (putCore (dropSync s p) k r) ∧ slotAt r p.tslot = { t with st := .running } ∧
        (∀ j, j ≠ p.tslot → slotAt r j = slotAt c j)) ∧
    (SyncTakes s (answerFor s k 4) p → c.held = false → c.slot = some p.slot → t.takeWait = true →
      exec (.grant k) s = .next (putCore (dropSync s p) k (putSlot c p.tslot { t with st := .running, takeWait := false })))

/-- A sync packet with a reserved TYPE is discarded by the first command of the sync mesh that finds it, counted, raised, and its
source core made suspect; one whose path leads into a new gap is discarded there (R220, R226, R227, R245). -/
def Sys2Proof.Claims.SyncDiscarded : Prop :=
  ∀ (s : State) (b k d : Nat) (p : SyncPkt), b < 16 →
    (s.mesh.sync = [p] → 4 < p.type → p.src < nCores → (coreAt s p.src).suspect = none →
      ∃ t : State, exec (.engineArrive b) s = .next t ∧ t.mesh.sync = [] ∧ (coreAt t p.src).suspect = some 1 ∧
        tabGet (routerAt t p.src).ctr 64 0 = (tabGet (routerAt s p.src).ctr 64 0 + 1) % 2 ^ 64) ∧
    ((∀ q ∈ s.mesh.sync, q.type ≤ 4) → syncGap s p = some (k, d) →
      (syncFor s b 0 = some p → exec (.engineArrive b) s = .next (gapSync s p k d)) ∧
      (syncFor s b 1 = some p → exec (.enginePost b) s = .next (gapSync s p k d)) ∧
      (syncFor s b 2 = some p → exec (.engineTake b) s = .next (gapSync s p k d)) ∧
      (gapSync s p k d).mesh.sync = s.mesh.sync.erase p)

/-- Barriers, and the sync commands of station code and their answers: SyncOperations, SyncReplayed, BarrierArrival, SyncAnswers,
SyncDiscarded, as said at each. -/
def Obligations.SyncObjects : Prop :=
  Sys2Proof.Claims.SyncOperations ∧ Sys2Proof.Claims.SyncReplayed ∧ Sys2Proof.Claims.BarrierArrival ∧
  Sys2Proof.Claims.SyncAnswers ∧ Sys2Proof.Claims.SyncDiscarded

/-- Tokens at their engine: a POST grants waiting TAKEs in order and adds the rest to the count; a TAKE is granted from the
count, or waits at the engine, which holds 512; beyond that it waits in the sync mesh. A GRANT is stamped and translated at the
engine (R249, R250). -/
def Obligations.TokenPool : Prop :=
  ∀ (s : State) (b : Nat) (p : SyncPkt) (x : SyncObj) (g : Nat → Nat), b < 16 → objAt s b p.obj = some x → x.isToken = true →
    let s1 := dropSync s p
    let s2 := bumpSync s1 b 2 1
    let n := min (x.count + p.val) x.waiting.length
    (SyncTakes s (syncFor s b 1) p → x.count + p.val < 2 ^ 32 → (∀ y ∈ x.waiting, PlacedFor s b y.1 (g y.1)) →
      ∃ t : State, exec (.enginePost b) s = .next t ∧
        objAt t b p.obj = some { x with count := x.count + p.val - n, waiting := x.waiting.drop n } ∧
        t.mesh.sync = s1.mesh.sync ++ (x.waiting.take n).map (fun y =>
          { type := 4, epoch := stampOf s (engineAt b), obj := p.obj, home := b, slot := y.1, tslot := y.2, val := 1,
            src := engineAt b, dst := g y.1 })) ∧
    (SyncTakes s (syncFor s b 1) p → 2 ^ 32 ≤ x.count + p.val →
      exec (.enginePost b) s = .next (syncFault s2 b evSyncTokenOverflow true p)) ∧
    (SyncTakes s (syncFor s b 2) p → x.count ≠ 0 →
      exec (.engineTake b) s = .next (sendGrant (putObj s1 b p.obj { x with count := x.count - 1 }) b p.obj (p.slot, p.tslot))) ∧
    (SyncTakes s (syncFor s b 2) p → x.count = 0 → sumOf ((basinAt s b).objs.map (fun e => e.2.waiting.length)) < 512 →
      exec (.engineTake b) s = .next (bumpSync (putObj s1 b p.obj { x with waiting := x.waiting ++ [(p.slot, p.tslot)] }) b 4 1)) ∧
    (SyncTakes s (syncFor s b 2) p → x.count = 0 → 512 ≤ sumOf ((basinAt s b).objs.map (fun e => e.2.waiting.length)) →
      exec (.engineTake b) s = .next s)

/-- The head matrix command starts when nothing runs, no hazard stands and it does not underrun: it leaves the queue with the
three scale entries of its firing's step latched; behind a drain of its tile it stays where it is and WAIT_DRAIN counts; an
engine without a command counts IDLE (R42, R51, R64, R69). -/
def Sys2Proof.Claims.MatrixStart : Prop :=
  ∀ (s : State) (k : Nat) (e : MxEnt) (rest : List MxEnt), k < nCores →
    let c := coreAt s k
    c.held = false → c.mxRun = none →
    (c.mxq = [] → exec (.mxCmdStart k) s = .next (putCore s k (bumpCore c 5 1))) ∧
    (c.mxq = e :: rest → mxOpc e.cmd ≤ 3 → mxHazard c e.cmd = false → mxUnderrun c e.cmd 0 0 false = false →
      ∃ r, exec (.mxCmdStart k) s = .next (putCore s k r) ∧ r.mxq = rest ∧
        r.mxRun = some { ent := e, sa := scaleEntry c e.step (mxAScale e.cmd), sb := scaleEntry c e.step (mxBScale e.cmd),
                         sd := scaleEntry c e.step (mxDScale e.cmd), kDone := 0, rows := 0, loaded := false, poison := false,
                         told := false, cleared := false } ∧
        r.tiles = c.tiles ∧ r.slots = c.slots ∧ r.mem = c.mem) ∧
    (c.mxq = e :: rest → mxOpc e.cmd ≤ 3 → mxHazard c e.cmd = true →
      exec (.mxCmdStart k) s = .next (putCore s k (bumpCore c 1 1)))

/-- NOP, CLEAR and DRAIN as the running matrix command: NOP changes no tile, CLEAR zeroes its tile under its anchor, DRAIN
hands its tile to the drain unit; NOP and CLEAR count for their slot as done (R44, R55, R57, R59). -/
def Sys2Proof.Claims.MatrixPlainCommands : Prop :=
  ∀ (s : State) (k : Nat) (r : MxRun), k < nCores →
    let c := coreAt s k
    let cmd := r.ent.cmd
    let ti := mxTile cmd
    let sl := r.ent.slot
    c.held = false → c.mxRun = some r → mxFault c r.ent = none →
    (mxOpc cmd = 0 → ∃ d, exec (.mxNop k) s = .next (putCore s k d) ∧ d.mxRun = none ∧ d.tiles = c.tiles ∧
      doneAt (slotAt d sl) 0 = doneAt (slotAt c sl) 0 + 1) ∧
    (mxOpc cmd = 3 → ∃ d, exec (.mxClear k) s = .next (putCore s k d) ∧ d.mxRun = none ∧
      tileAt d ti = { owner := (tileAt c ti).owner, anchor := mxAnchor cmd, poisonAll := false, acc := [] } ∧
      (∀ j, j ≠ ti → tileAt d j = tileAt c j) ∧ doneAt (slotAt d sl) 0 = doneAt (slotAt c sl) 0 + 1) ∧
    (mxOpc cmd = 2 → ∃ d, exec (.mxDrain k) s = .next (putCore s k d) ∧ d.mxRun = none ∧ d.tiles = c.tiles ∧
      d.drains = c.drains ++ [{ ent := r.ent, sd := r.sd, row := 0, running := false }] ∧ d.slots = c.slots)

/-- A matrix command whose tile its slot does not own, or whose anchor differs from its tile's, does nothing: it is counted
and discarded, its slot stops, the event carries its TAG and is a layout fault, and every tile is as it was (R43, R56, R61). -/
def Sys2Proof.Claims.MatrixDiscarded : Prop :=
  ∀ (s : State) (k : Nat) (r : MxRun) (code : Nat), k < nCores →
    let c := coreAt s k
    let sl := r.ent.slot
    c.held = false → c.mxRun = some r → r.cleared = false → mxFault c r.ent = some code →
    ∃ d, (mxOpc r.ent.cmd = 1 → ∀ b, exec (.mma k b) s =
        .next (applyEvs k (putCore s k d) [.fault code sl noFld (mxTag r.ent.cmd) 0 0 0])) ∧
      (mxOpc r.ent.cmd = 2 → exec (.mxDrain k) s =
        .next (applyEvs k (putCore s k d) [.fault code sl noFld (mxTag r.ent.cmd) 0 0 0])) ∧
      (mxOpc r.ent.cmd = 3 → exec (.mxClear k) s =
        .next (applyEvs k (putCore s k d) [.fault code sl noFld (mxTag r.ent.cmd) 0 0 0])) ∧
      d.mxRun = none ∧ d.tiles = c.tiles ∧ (slotAt d sl).st = .stopped ∧ (slotAt d sl).stopEv = code ∧
      d.mb = c.weights ++ c.shadow ++ c.mb ∧ tabGet d.ctr 13 0 = (tabGet c.ctr 13 0 + 1) % 2 ^ 64

/-- A weight tile swaps in when all its beats have arrived and the running command still has tiles to take (R54). -/
def Sys2Proof.Claims.MatrixShadowSwap : Prop :=
  ∀ (s : State) (k : Nat) (r : MxRun), k < nCores →
    let c := coreAt s k
    let d := fillShadow c
    let n := bTileBeats (mxPair r.ent.cmd)
    c.held = false → c.mxRun = some r → isWs r.ent.cmd = true → mxValid r.ent.cmd = true → r.loaded = false → tilesLeft r ≠ 0 →
    n ≤ d.shadow.length →
    ∃ e, exec (.mxShadowSwap k) s = .next (putCore s k e) ∧ e.weights = d.shadow.take n ∧
      e.mxRun = some { r with loaded := true, rows := 0, poison := r.poison || (d.shadow.take n).any (·.poison) } ∧
      e.tiles = c.tiles ∧ e.slots = c.slots ∧ e.ma = c.ma

/-- Matrix commands start, act on their tile or are discarded: MatrixStart, MatrixPlainCommands, MatrixDiscarded,
MatrixShadowSwap, as said at each. -/
def Obligations.MatrixCommands : Prop :=
  Sys2Proof.Claims.MatrixStart ∧ Sys2Proof.Claims.MatrixPlainCommands ∧ Sys2Proof.Claims.MatrixDiscarded ∧ Sys2Proof.Claims.MatrixShadowSwap

/-- An OUTER multiplication whose beats have all arrived, none of them poisoned: every accumulator inside M by N becomes the
sum, in step order, of its products over the cleared tile; the other tiles are as they were, and the command counts for its
slot as done (R44, R46, R47, R60, R75). -/
def Sys2Proof.Claims.MatrixOuterProducts : Prop :=
  ∀ (s : State) (k : Nat) (r : MxRun) (p : Pair), k < nCores →
    let c := coreAt s k
    let cmd := r.ent.cmd
    let ti := mxTile cmd
    let n := mxK cmd
    let as := (takeFrom (mxSrcA cmd) n c.ma).1
    let bs := (takeFrom (mxSrcB cmd) n c.mb).1
    c.held = false → c.mxRun = some r → mxOpc cmd = 1 → mxMode cmd = 1 → pairOf (mxFmt cmd) = some p → mxFault c r.ent = none →
    misport c 0 (mxNames cmd 0) = none → misport c 1 (mxNames cmd 1) = none →
    mxClearBit cmd = true → mxDrainBit cmd = false → r.cleared = false → r.poison = false → r.told = false → r.kDone = 0 →
    n ≠ 0 → mxM cmd ≠ 0 → mxN cmd ≠ 0 → n ≤ countFrom (mxSrcA cmd) c.ma → n ≤ countFrom (mxSrcB cmd) c.mb →
    as.any (·.poison) = false → bs.any (·.poison) = false →
    ∃ d, exec (.mma k false) s = .next (putCore s k d) ∧ d.mxRun = none ∧
      (∀ i j, i < mxM cmd → j < mxN cmd →
        accAt (tileAt d ti) i j =
          ((as.zip bs).flatMap (fun ab => (List.range p.rate.kOuter).map (fun q =>
            productEsf (elemOuter p.a p.rate ab.1 q i) (elemOuter p.b p.rate ab.2 q j) r.sa r.sb (mxAnchor cmd)))).foldl
              accAdd {}) ∧
      (∀ t, t ≠ ti → tileAt d t = tileAt c t) ∧ doneAt (slotAt d r.ent.slot) 0 = doneAt (slotAt c r.ent.slot) 0 + 1

/-- The last tile of a weight-stationary multiplication whose A rows have all arrived: each accumulator inside M by N takes
the products of its row with its column, in K order, on top of what it held (R46, R47, R53, R75). -/
def Sys2Proof.Claims.MatrixWeightStationary : Prop :=
  ∀ (s : State) (k : Nat) (r : MxRun) (p : Pair), k < nCores →
    let c := coreAt s k
    let cmd := r.ent.cmd
    let ti := mxTile cmd
    let g := p.rate.aBeats
    let as := (takeFrom (mxSrcA cmd) (mxM cmd * g) c.ma).1
    c.held = false → c.mxRun = some r → mxOpc cmd = 1 → mxMode cmd = 0 → pairOf (mxFmt cmd) = some p → mxValid cmd = true →
    mxDrainBit cmd = false → r.cleared = true → r.poison = false → r.told = false → r.loaded = true → r.rows = 0 →
    r.kDone + 1 = mxK cmd → mxM cmd * g ≤ countFrom (mxSrcA cmd) c.ma → as.any (·.poison) = false →
    ∃ d, exec (.mma k false) s = .next (putCore s k d) ∧ d.mxRun = none ∧
      (∀ i j, i < mxM cmd → j < mxN cmd →
        accAt (tileAt d ti) i j =
          ((List.range p.rate.kWs).map (fun q =>
            productEsf (aElemWs p ((as.drop (i * g)).take g) q) (bElemWs p c.weights q j) r.sa r.sb (tileAt c ti).anchor)).foldl
              accAdd (accAt (tileAt c ti) i j)) ∧
      (∀ t, t ≠ ti → tileAt d t = tileAt c t) ∧ doneAt (slotAt d r.ent.slot) 0 = doneAt (slotAt c r.ent.slot) 0 + 1

/-- Products of an OUTER and of a WS command: MatrixOuterProducts, MatrixWeightStationary, as said at each. -/
def Obligations.MatrixProducts : Prop :=
  Sys2Proof.Claims.MatrixOuterProducts ∧ Sys2Proof.Claims.MatrixWeightStationary

/-- A parity error met by a multiplication poisons every accumulator of its tile, is counted and raised with the TAG, and
makes the core suspect (R67, R378). -/
def Sys2Proof.Claims.MatrixParity : Prop :=
  ∀ (s : State) (k : Nat) (r : MxRun), k < nCores →
    let c := coreAt s k
    let cmd := r.ent.cmd
    c.held = false → c.mxRun = some r → mxOpc cmd = 1 → mxMode cmd = 0 → mxK cmd ≠ 0 → r.loaded = false → r.cleared = true →
    r.poison = false → c.suspect = none →
    ∃ d, exec (.mma k true) s =
        .next (applyEvs k (putCore s k d) [.post evMxParity r.ent.slot noFld (mxTag cmd) 0 0 0, .suspect 1]) ∧
      (tileAt d (mxTile cmd)).poisonAll = true ∧ tabGet d.ctr 12 0 = (tabGet c.ctr 12 0 + 1) % 2 ^ 64 ∧ d.slots = c.slots

/-- The drain unit: the first waiting drain starts; a drain of no rows completes at once; a row goes to the drain queue
narrowed with the drain's latched scale and observed; where the queue holds 8 rows, the store streamer takes no more, or the
endpoint of a contribution has no credit, it is held and counted (R57, R58, R64, R80, R88, R168, R506). -/
def Sys2Proof.Claims.MatrixDrainUnit : Prop :=
  ∀ (s : State) (k : Nat) (d : Drain) (rest : List Drain), k < nCores →
    let c := coreAt s k
    let cmd := d.ent.cmd
    c.held = false → c.drains = d :: rest →
    (d.running = false → drainEmpty cmd = false →
      exec (.mxDrainStart k) s = .next (putCore s k { c with drains := { d with running := true } :: rest })) ∧
    (d.running = false → drainEmpty cmd = true → mxDrainTo cmd ≠ 2 →
      ∃ e, exec (.mxDrainStart k) s = .next (putCore s k e) ∧ e.drains = rest ∧ e.drainQ = c.drainQ ∧
        doneAt (slotAt e d.ent.slot) 0 = doneAt (slotAt c d.ent.slot) 0 + 1) ∧
    (d.running = true → mxDrainTo cmd = 0 → 8 ≤ c.drainQ.length → (fmtOfDrain (mxDrainFmt cmd)).isSome →
      exec (.mxDrainRow k false) s = .next (putCore s k (bumpCore c 9 1))) ∧
    (d.running = true → mxDrainTo cmd = 1 → storeRefuses (strmAt c 2).src0 = true →
      exec (.mxDrainRow k false) s = .next (putCore s k (bumpCore c 9 1))) ∧
    (d.running = true → mxDrainTo cmd = 2 → mxM cmd ≤ d.row + 1 → sendRefusal (outAt c (mxDrainEp cmd)) d.ent.slot true = none →
      sendRoom c (mxDrainEp cmd) ≤ (outAt c (mxDrainEp cmd)).sendQ.length →
      exec (.mxDrainRow k false) s = .next (putCore s k (bumpOut (bumpCore c 9 1) (mxDrainEp cmd) 1 1))) ∧
    (∀ f, d.running = true → mxDrainTo cmd = 0 → c.drainQ.length < 8 → fmtOfDrain (mxDrainFmt cmd) = some f →
      d.row + 1 < mxM cmd → f.isInt = false →
      let ns := (List.range (mxN cmd)).map (fun j => narrowEsf f (tileEsf (tileAt c (mxTile cmd)) d.row j) d.sd
        (ditherOf (layoutOf s k) (mxDither cmd) (mxTensor cmd)
          ((mxElemBase cmd + d.row * mxRowPitch cmd + j) % 2 ^ 32) d.ent.step
          (some (accAt (tileAt c (mxTile cmd)) d.row j).terms)))
      let x : DrainRow :=
        { lanes := ns.map (fun x => BitVec.ofNat 32 x.bits), fmt := mxDrainFmt cmd,
          poison := (List.range (mxN cmd)).any (fun j => (tileEsf (tileAt c (mxTile cmd)) d.row j).poison) }
      let c1 : Core := { c with drains := { d with row := d.row + 1 } :: rest, drainQ := c.drainQ ++ [x] }
      exec (.mxDrainRow k false) s = .next (applyEvs k (putCore s k c1) [obsEv (layoutOf s k) d.ent.step (mxTensor cmd) ns]))

/-- Parity of the tiles and the drain unit: MatrixParity, MatrixDrainUnit, as said at each. -/
def Obligations.MatrixTiles : Prop :=
  Sys2Proof.Claims.MatrixParity ∧ Sys2Proof.Claims.MatrixDrainUnit

/-- NOP and SETS at the head of the vector queue complete at once, SETS writing its scalar register; a valid CHAIN starts with
the drain scales of its stages latched, and one of no elements completes, with an empty sum where it reduces by SUM into a
scalar register (R51, R99 to R101, R115, R118). -/
def Sys2Proof.Claims.VectorHeadCommands : Prop :=
  ∀ (s : State) (k : Nat) (e : VcEnt) (rest : List VcEnt), k < nCores →
    let c := coreAt s k
    let cmd := e.cmd
    let t := slotAt c e.slot
    let v : Scal := { v := BitVec.ofNat 128 (fld cmd 159 128), esf := false, poison := false }
    let empty : Scal :=
      { v := BitVec.ofNat 128 (esfPack { anchor := vcRedAnchor cmd }), esf := true, poison := false }
    let ports : Prop := misport c 2 (vcNames cmd 2) = none ∧ misport c 3 (vcNames cmd 3) = none
    c.held = false → c.vcRun = none → c.vcq = e :: rest →
    (vcOpc cmd = 0 → ∃ d, exec (.vcNop k) s = .next (putCore s k d) ∧ d.vcq = rest ∧ d.vcRun = none ∧
      doneAt (slotAt d e.slot) 1 = doneAt t 1 + 1 ∧ (slotAt d e.slot).scal = t.scal ∧ d.mem = c.mem) ∧
    (vcOpc cmd = 4 → ∃ d, exec (.sets k) s = .next (putCore s k d) ∧ d.vcq = rest ∧ d.vcRun = none ∧
      doneAt (slotAt d e.slot) 1 = doneAt t 1 + 1 ∧ (slotAt d e.slot).scal = tabSet t.scal (vcRedS cmd) v ∧ d.mem = c.mem) ∧
    (vcOpc cmd = 1 → chainValid cmd = true → staticForm cmd = false → ports → vcN cmd ≠ 0 →
      exec (.chain k) s = .next (putCore s k { c with
        vcq := rest,
        vcRun := some { ent := e, vec := 0, scales := (stagesOf cmd).map (fun w => scaleEntry c e.step (cvtScale w)),
                        red := { sum := { anchor := vcRedAnchor cmd } }, poison := false, buf := [] } })) ∧
    (vcOpc cmd = 1 → chainValid cmd = true → staticForm cmd = false → ports → vcN cmd = 0 → vcRedEn cmd = true →
      vcRedOp cmd = 0 → vcRedDest cmd = 0 → c.vcHeld = [] → ∃ d, exec (.chain k) s = .next (putCore s k d) ∧ d.vcq = rest ∧ d.vcRun = none ∧
        (slotAt d e.slot).scal = tabSet t.scal (vcRedS cmd) empty ∧ doneAt (slotAt d e.slot) 1 = doneAt t 1 + 1)

/-- A vector command that is not valid, or uses an ESF-96 value in a form that is not allowed, does nothing: its slot stops
with VEC_CMD_INVALID or VEC_OPERAND_FORM, a layout fault that carries its TAG (R110, R120). -/
def Sys2Proof.Claims.VectorDiscarded : Prop :=
  ∀ (s : State) (k : Nat) (e : VcEnt) (rest : List VcEnt), k < nCores →
    let c := coreAt s k
    c.held = false → c.vcRun = none → c.vcq = e :: rest →
    ∃ d : Nat → Core,
      ((4 < vcOpc e.cmd ∨ (vcOpc e.cmd = 1 ∧ chainValid e.cmd = false)) → exec (.chain k) s =
        .next (applyEvs k (putCore s k (d evVecCmdInvalid)) [.fault evVecCmdInvalid e.slot noFld (vcTag e.cmd) 0 0 0])) ∧
      (vcOpc e.cmd = 1 → chainValid e.cmd = true → staticForm e.cmd = true → exec (.chain k) s =
        .next (applyEvs k (putCore s k (d evVecOperandForm)) [.fault evVecOperandForm e.slot noFld (vcTag e.cmd) 0 0 0])) ∧
      (∀ code, (d code).vcq = rest ∧ (slotAt (d code) e.slot).st = .stopped ∧ (slotAt (d code) e.slot).stopEv = code ∧
        (d code).mem = c.mem ∧ (d code).luts = c.luts ∧ (slotAt (d code) e.slot).scal = (slotAt c e.slot).scal)

/-- LOADC with its four beats at the port writes its constant vector, lane l from bytes 4l to 4l + 3; LOADLUT with its 49
beats writes the table that its slot owns; both complete and change no byte of the scratchpad (R100, R103, R119). -/
def Sys2Proof.Claims.VectorLoads : Prop :=
  ∀ (s : State) (k : Nat) (e : VcEnt) (rest : List VcEnt), k < nCores →
    let c := coreAt s k
    let cmd := e.cmd
    let b (n : Nat) : List Beat := (takeFrom (vcSrcX cmd) n c.vx).1
    c.held = false → c.vcRun = none → c.vcq = e :: rest → vcXSrc cmd ≤ 2 →
    (vcOpc cmd = 2 → 4 ≤ countFrom (vcSrcX cmd) c.vx → (b 4).any (·.poison) = false →
      ∃ d, exec (.loadc k) s = .next (putCore s k d) ∧ d.vcRun = none ∧ d.vcq = rest ∧ d.mem = c.mem ∧
        (tabGet (slotAt d e.slot).const (vcTarget cmd) {}).lanes = (List.range 64).map (fun l =>
          BitVec.ofNat 32 (leNat ((((b 4).flatMap (·.data)).drop (4 * l)).take 4))) ∧
        doneAt (slotAt d e.slot) 1 = doneAt (slotAt c e.slot) 1 + 1) ∧
    (vcOpc cmd = 3 → 49 ≤ countFrom (vcSrcX cmd) c.vx → (b 49).any (·.poison) = false →
      (lutAt c (vcTarget cmd)).owner = some e.slot →
      ∃ d, exec (.loadlut k) s = .next (putCore s k d) ∧ d.vcRun = none ∧ d.vcq = rest ∧ d.mem = c.mem ∧
        lutAt d (vcTarget cmd) =
          { owner := some e.slot, data := some (((b 49).flatMap (·.data)).take 3104), poison := false } ∧
        doneAt (slotAt d e.slot) 1 = doneAt (slotAt c e.slot) 1 + 1) ∧
    (vcOpc cmd = 3 → (lutAt c (vcTarget cmd)).owner ≠ some e.slot →
      ∃ d, exec (.loadlut k) s =
          .next (applyEvs k (putCore s k d) [.fault evVecTableFault e.slot noFld (vcTag cmd) 0 0 0]) ∧
        d.luts = c.luts ∧ (slotAt d e.slot).st = .stopped)

/-- Vector commands start, load, or are discarded: VectorHeadCommands, VectorDiscarded, VectorLoads, as said at each. -/
def Obligations.VectorCommands : Prop :=
  Sys2Proof.Claims.VectorHeadCommands ∧ Sys2Proof.Claims.VectorDiscarded ∧ Sys2Proof.Claims.VectorLoads

/-- One vector of 32-bit elements through one arithmetic, logic or shift stage with an immediate operand: each active lane's
result, in lane order, goes to the store streamer at 4 bytes a lane, and the command completes; where the streamer takes no
more, the output is held and the command is not complete before it leaves (R96, R97, R99, R102, R104 to R107, R113, R123). -/
def Obligations.VectorOneStage : Prop :=
  ∀ (s : State) (k : Nat) (r : VcRun), k < nCores →
    let c := coreAt s k
    let cmd := r.ent.cmd
    let w := vcStage cmd 0
    let bs := (takeFrom (vcSrcX cmd) 4 c.vx).1
    let x (l : Nat) : W32 := BitVec.ofNat 32 (leNat (((bs.flatMap (·.data)).drop (4 * l)).take 4))
    let imm : W32 := BitVec.ofNat 32 (stImm w)
    let out : List (Byte × Bool) := (List.range (vcN cmd)).flatMap (fun l =>
      (leBytes 4 (laneOp (stOp w) (stTy w) (x l) imm imm).1.toNat).map (fun b => (b, false)))
    c.held = false → c.vcHeld = [] → c.vcRun = some r → vcOpc cmd = 1 → vcXSrc cmd ≤ 2 → (vcXFmt cmd = 5 ∨ vcXFmt cmd = 6) → vcYSrc cmd = 15 →
    vcStages cmd = 1 → (1 ≤ stOp w ∧ stOp w ≤ 5 ∨ 8 ≤ stOp w ∧ stOp w ≤ 15) → stPred w = false → stSaveT w = false →
    stB w = 0 → stZ w = 0 → vcRedEn cmd = false → vcOutW cmd = 2 → 1 ≤ vcN cmd → vcN cmd ≤ 64 → r.vec = 0 →
    r.poison = false → 4 ≤ countFrom (vcSrcX cmd) c.vx → bs.any (·.poison) = false →
    ∃ d, exec (.vcQuadStart k false) s = .next (putCore s k d) ∧ d.vcRun = none ∧
      d.vx = (takeFrom (vcSrcX cmd) 4 c.vx).2 ∧ d.mem = c.mem ∧
      (storeRefuses (strmAt c 2).src1 = false → (strmAt d 2).src1 = (strmAt c 2).src1 ++ out ∧ d.vcHeld = [] ∧
        doneAt (slotAt d r.ent.slot) 1 = doneAt (slotAt c r.ent.slot) 1 + 1) ∧
      (storeRefuses (strmAt c 2).src1 = true → (strmAt d 2).src1 = (strmAt c 2).src1 ∧
        d.vcHeld = [{ bytes := out, done := some r.ent }] ∧ doneAt (slotAt d r.ent.slot) 1 = doneAt (slotAt c r.ent.slot) 1)

/-- The first descriptor of a streamer whose requests are not all made: a LOAD or a STORE begins, also behind others whose data
have not all come; a NOP, or one that moves nothing, completes when nothing is ahead of it and counts for its slot (R143, R144,
R150, R151). -/
def Sys2Proof.Claims.StreamerStarts : Prop :=
  ∀ (s : State) (k u : Nat) (e : SdEnt) (ahead rest : List SdEnt), k < nCores → u ≤ 2 →
    let c := coreAt s k
    let x := strmAt c u
    let started : Core := putStrm c u { x with q := ahead ++ { e with begun := true } :: rest }
    let done (d : Core) : Prop :=
      (strmAt d u).q = rest ∧ doneAt (slotAt d e.slot) (2 + u) = doneAt (slotAt c e.slot) (2 + u) + 1 ∧ d.mem = c.mem
    let idle : Prop := ahead = [] ∧ x.reqs = [] ∧ x.buf = [] ∧ e.broken = false ∧ e.cut = false ∧ ∀ r ∈ rest, r.made = false
    c.held = false → x.q = ahead ++ e :: rest → (∀ a ∈ ahead, a.made = true) → e.made = false → e.begun = false →
    (sdOpc e.d = 0 → idle → ∃ d, exec (.sdNop k u) s = .next (putCore s k d) ∧ done d) ∧
    (sdOpc e.d = 1 → sdEmpty e.d = false → exec (.load k u) s = .next (putCore s k started)) ∧
    (sdOpc e.d = 1 → sdEmpty e.d = true → idle → ∃ d, exec (.load k u) s = .next (putCore s k d) ∧ done d) ∧
    (u = 2 → sdOpc e.d = 2 → sdEmpty e.d = false → exec (.store k) s = .next (putCore s k started)) ∧
    (u = 2 → sdOpc e.d = 2 → sdEmpty e.d = true → idle → ∃ d, exec (.store k) s = .next (putCore s k d) ∧ done d)

/-- The next line request of a linear LOAD: within its window and powered sub-banks it is recorded, and its packet to the stack
of the basin it names goes to the mesh where the space is HBM; the request never crosses a 64-byte line (R137 to R139, R146,
R150, R220). -/
def Sys2Proof.Claims.StreamerRequests : Prop :=
  ∀ (s : State) (k u : Nat) (e : SdEnt), k < nCores → u ≤ 1 →
    let c := coreAt s k
    let x := strmAt c u
    let d := e.d
    let o := (chunkOff d x.chunk).toNat + x.pos
    let n := min (64 - o % 64) (sdChunk d - x.pos)
    let a := if sdSpace d = 0 then winBase (windowOf c e.slot) + o else sdAddr d / 2 ^ 36 * 2 ^ 36 + o
    let q : LineReq :=
      { id := x.nextId, space := sdSpace d, addr := a, len := n, write := false, wdata := [], data := none, refused := 0,
        lastOfChunk := decide (sdChunk d ≤ x.pos + n), ser := genSer x, xp := false }
    c.held = false → c.replay = none → c.check = none → genEnt x = some e → e.begun = true →
    (∀ h l, x.q = h :: l → headDone x h = false) → sdOpc d = 1 → sdMode d = 0 →
    (sdSpace d = 0 ∨ sdSpace d = 2) → (x.pos = 0 → chunkFault c e x.chunk = none) → linesOut x < sdDepth d →
    beatsOut x (sdPort d) + (fifoOf c (sdPort d)).length ≤ 16 →
    (sdSpace d = 0 → banksOn c a n = true) → (sdSpace d = 2 → o + n ≤ 2 ^ 36) →
    ∃ r, exec (.streamerRequest k u) s = .next (putCore s k r) ∧
      (strmAt r u).reqs = x.reqs ++ [q] ∧
      (sdSpace d = 0 → r.inj = c.inj) ∧
      (sdSpace d = 2 → ∃ p, r.inj = c.inj ++ [p] ∧ p.kind = 0 ∧ p.dtype = 2 ∧ p.dst = bits a 39 36 ∧ p.addr = bits a 35 0 ∧
        p.len = n ∧ p.srcCore = k) ∧
      r.mem = c.mem ∧ r.slots = c.slots

/-- The bytes of a LOAD that fill a beat, zero-padded, enter the port FIFO they are for while that holds fewer than 16 beats,
behind those there; a full FIFO takes nothing and the wait is counted. In the recomputation of a firing an endpoint's beats come
from the check log (R38, R95, R147, R158, R388). -/
def Sys2Proof.Claims.OperandBeats : Prop :=
  ∀ (s : State) (k p u : Nat), k < nCores → p ≤ 3 → u ≤ 1 →
    let c := coreAt s k
    let x := strmAt c u
    c.held = false →
    (∀ (e : SdEnt) (rest : List SdEnt), c.replay = none → x.q = e :: rest → e.begun = true → sdPort e.d = p →
      x.buf.length = sdFill e.d → 0 < x.buf.length →
      ((fifoOf c p).length < 16 →
        ∃ d, exec (.operandBeatArrive k p u) s = .next (putCore s k d) ∧
          fifoOf d p = fifoOf c p ++ [{ data := fitBytes 64 (x.buf.map (·.1)), poison := x.buf.any (·.2), src := u }] ∧
          (∀ q, q ≤ 3 → q ≠ p → fifoOf d q = fifoOf c q) ∧ (strmAt d u).buf = [] ∧ d.mem = c.mem) ∧
      (16 ≤ (fifoOf c p).length → exec (.operandBeatArrive k p u) s = .next (putCore s k (bumpStrm c u 1)))) ∧
    (∀ (src : Nat) (b : Beat) (log rest : List (Nat × Beat)), c.replay = some log → 2 ≤ src →
      replayBeat p src log = some (b, rest) → (fifoOf c p).length < 16 →
      exec (.operandBeatArrive k p src) s = .next (putCore s k (pushFifo { c with replay := some rest } p b)))

/-- Streamers start, request lines and deliver beats: StreamerStarts, StreamerRequests, OperandBeats, as said at each. -/
def Obligations.Streamers : Prop :=
  Sys2Proof.Claims.StreamerStarts ∧ Sys2Proof.Claims.StreamerRequests ∧ Sys2Proof.Claims.OperandBeats

/-- A local read that returns without error: its bytes are the line's data and the scratchpad is as it was; a local write stores
exactly its bytes at its address (R130, R133, R151). -/
def Sys2Proof.Claims.LocalLines : Prop :=
  ∀ (s : State) (k u : Nat) (e : SdEnt) (rest : List SdEnt) (r : LineReq) (ecc : List Ecc), k < nCores →
    let c := coreAt s k
    let x := strmAt c u
    c.held = false → (∀ v ∈ ecc, v = .ok) → c.arr = [] → x.q = e :: rest → e.cut = false →
    x.reqs = [r] → r.ser = x.ser → r.space = 0 → r.data = none →
    (u ≤ 1 → r.write = false → (spPeek c r.addr r.len).any (·.2) = false →
      ∃ d, exec (.lineReturn k u ecc) s = .next (putCore s k d) ∧ d.mem = c.mem ∧
        (strmAt d u).reqs = [{ r with data := some (clean (memRead c.mem r.addr r.len)) }]) ∧
    (u = 2 → r.write = true →
      ∃ d, exec (.lineReturn k 2 ecc) s = .next (putCore s k d) ∧
        ∀ a, memGet d.mem a = if r.addr ≤ a ∧ a < r.addr + r.wdata.length
                              then (nth r.wdata (a - r.addr) (0, false)).1 else memGet c.mem a)

/-- The scratchpad's own traffic: a corrected codeword leaves the write-back queue; a patrol line without error is read,
counted and passed; an uncorrectable codeword of an A-class line is raised once and makes the core suspect; none of these
changes a byte (R130, R131, R135). -/
def Sys2Proof.Claims.ScratchpadUpkeep : Prop :=
  ∀ (s : State) (k a : Nat), k < nCores →
    let c := coreAt s k
    exec (.ceWriteBack k) s = .next (putCore s k { c with wbq := c.wbq.drop 1 }) ∧
    (nextScrub c (c.scrubPos % spSize) = some a → isW c a = false →
      (∃ d, exec (.patrolScrub k []) s = .next (putCore s k d) ∧ d.scrubPos = (a + 64) % spSize ∧ d.mem = c.mem ∧
        d.slots = c.slots) ∧
      (isW c (cwOf c a) = false →
        ∃ d, exec (.patrolScrub k [.ue]) s =
            .next (applyEvs k (putCore s k d) [.post evSpUncorrectable noFld noFld noFld 0 0 0, .suspect 3]) ∧
          d.mem = c.mem ∧ d.slots = c.slots))

/-- The remote service port: an access to a HELD core is refused with poison and changes no byte; a read inside a REMOTE window
answers its bytes; a write stores exactly its bytes (R136, R137, R140, R141). -/
def Sys2Proof.Claims.RemoteAccesses : Prop :=
  ∀ (s : State) (k : Nat) (p : Pkt), k < nCores →
    let c := coreAt s k
    let a := svcAddr c p
    c.svc = [p] → svcHeld c p = false →
    (c.held = true → ∃ d, exec (.remoteAccess k []) s = .next (putCore s k d) ∧ d.svc = [] ∧ d.mem = c.mem ∧
      d.inj = c.inj ++ [{ refusePkt p evSpRemoteRefused with srcCore := k }]) ∧
    (svcRefused c p = false → banksOn c a p.len = true → p.kind = 0 → (spPeek c a p.len).any (·.2) = false →
      ∃ d, exec (.remoteAccess k []) s = .next (putCore s k d) ∧ d.svc = [] ∧ d.mem = c.mem ∧
        d.inj = c.inj ++ [{ answerTo p (clean (memRead c.mem a p.len)) false 0 with srcCore := k }]) ∧
    (svcRefused c p = false → banksOn c a p.len = true → p.kind = 1 → p.data.length = p.len → p.pois.length = p.len →
      ∃ d, exec (.remoteAccess k []) s = .next (putCore s k d) ∧ d.svc = [] ∧
        d.inj = c.inj ++ [{ answerTo p [] false 0 with srcCore := k }] ∧
        ∀ x, memGet d.mem x = if a ≤ x ∧ x < a + p.len then nth p.data (x - a) 0 else memGet c.mem x)

/-- Lines of the scratchpad: local, scrubbed and remote: LocalLines, ScratchpadUpkeep, RemoteAccesses, as said at each. -/
def Obligations.ScratchpadLines : Prop :=
  Sys2Proof.Claims.LocalLines ∧ Sys2Proof.Claims.ScratchpadUpkeep ∧ Sys2Proof.Claims.RemoteAccesses

/-- Injection of the oldest send: with credit at every target one credit is taken from each, the packet carries the message, the
endpoint's CH_SEQ, its targets where it is a multicast, and the generation of the sender's home basin, and the sequence number
advances; without credit nothing but the stall count changes, and a send that a drain holds counts as held. In the recomputation
of a firing nothing is injected (R165, R167, R168, R175, R177, R207, R388). -/
def Sys2Proof.Claims.MessageInjection : Prop :=
  ∀ (s : State) (k e : Nat) (x : Send) (rest : List Send) (tg : Nat × Nat) (tgs : List (Nat × Nat)), k < nCores →
    let c := coreAt s k
    let o := outAt c e
    c.held = false → o.sendQ = x :: rest → x.kind ≤ 1 → outKind o ≠ 3 → o.targets = tg :: tgs →
    (c.replay = none → drainHold s k c o x = false → minCredit o ≠ 0 →
      ∃ d p, exec (.messageInject k e) s = .next (putCore s k d) ∧
        outAt d e = { o with sendQ := rest, credit := o.credit.map (· - 1), seq := (o.seq + 1) % 65536 } ∧
        d.inj = c.inj ++ [p] ∧ p.dst = tg.1 ∧ p.dstEp = tg.2 ∧ p.chSeq = o.seq ∧ p.srcCore = k ∧ p.poison = x.poison ∧
        p.gen = (basinAt s (homeOf c)).gen % 16 ∧ p.data = fitBytes 64 (leBytes (if x.kind = 0 then 16 else 8) x.data) ∧
        p.mc = (if outKind o = 2 then o.targets else []) ∧ d.mem = c.mem) ∧
    (c.replay = none → drainHold s k c o x = false → minCredit o = 0 →
      exec (.messageInject k e) s = .next (putCore s k (bumpOut c e 1 1))) ∧
    (c.replay = none → drainHold s k c o x = true →
      exec (.messageInject k e) s = .next (putCore s k { c with drainHeld := (c.drainHeld + 1) % 2 ^ 64 })) ∧
    (c.replay.isSome = true →
      ∃ d, exec (.messageInject k e) s = .next (putCore s k d) ∧ (outAt d e).sendQ = rest ∧ d.inj = c.inj ∧ d.mem = c.mem)

/-- A message that arrives in its generation with its offset below QDEPTH takes the fixed entry of its CH_SEQ; one of another
generation is discarded, counted and raised, and its endpoint is as it was (R171, R178). -/
def Sys2Proof.Claims.MessageArrival : Prop :=
  ∀ (s : State) (k : Nat) (p : Pkt), k < nCores →
    let c := coreAt s k
    let i := inAt c p.dstEp
    let m : ChMsg := { token := p.kind == 5, data := msgWord p, gen := p.gen, seq := p.chSeq, poison := p.poison, cmark := p.cmark }
    c.held = false → c.holding = false → c.arr = [p] → (p.kind = 4 ∨ p.kind = 5) →
    (p.gen = inExpect i → (p.chSeq + 65536 - i.h) % 65536 < inQdepth i → tabHas i.fixed (p.chSeq % inQdepth i) = false →
      ∃ d, exec (.messageArrive k false) s = .next (putCore s k d) ∧ d.arr = [] ∧ d.mem = c.mem ∧
        inAt d p.dstEp = { i with fixed := tabSet i.fixed (p.chSeq % inQdepth i) m }) ∧
    (p.gen ≠ inExpect i →
      ∃ d, exec (.messageArrive k false) s = .next (applyEvs k (putCore s k d)
          [.post evStaleGeneration (inOwner i) p.dstEp noFld p.gen (inExpect i) p.chSeq]) ∧
        inAt d p.dstEp = i ∧ tabGet d.chCtr (7 * p.dstEp + 5) 0 = (tabGet c.chCtr (7 * p.dstEp + 5) 0 + 1) % 2 ^ 64)

/-- A spilled message whose offset has fallen below QDEPTH moves from its place in the spill region into its fixed entry, with
the bytes that the region holds, by one line of the remote service port (R171, R172). -/
def Sys2Proof.Claims.SpillCopies : Prop :=
  ∀ (s : State) (k e pos : Nat) (m : ChMsg), k < nCores →
    let c := coreAt s k
    let i := inAt c e
    let a := localAddr c (inOwner i) (inSpillOff i + 16 * pos)
    c.held = false → firstSpilled i = some (pos, m) →
    ((m.seq + 65536 - i.h) % 65536 < inQdepth i → (spPeek c a 16).any (·.2) = false →
      ∃ d, exec (.spillCopy k e []) s = .next (putCore s k d) ∧ d.mem = c.mem ∧
        tabGet d.ctr 70 0 = (tabGet c.ctr 70 0 + 1) % 2 ^ 64 ∧
        inAt d e = { i with spill := tabDel i.spill pos,
                            fixed := tabSet i.fixed (m.seq % inQdepth i) { m with data := leNat (memRead c.mem a 16) } }) ∧
    (inQdepth i ≤ (m.seq + 65536 - i.h) % 65536 → exec (.spillCopy k e []) s = .next (putCore s k c))

/-- A vector half takes the token at the head of the endpoint that a command names: the token becomes one beat behind those of
the half, the head advances modulo 65,536, and the message counts for its firing (R40, R173, R199). -/
def Sys2Proof.Claims.MessageTaken : Prop :=
  ∀ (s : State) (k e slot firing : Nat) (m : ChMsg) (key : Nat), k < nCores →
    let c := coreAt s k
    let i := inAt c e
    let p := inPort i
    c.held = false → portMismatch c e = none → (p = 2 ∨ p = 3) → takerOf c e p = some (slot, firing) → inQdepth i ≠ 0 →
    i.fixed.find? (fun m => m.1 == i.h % inQdepth i) = some (key, m) → (strmAt c 5).active = false → m.token = true →
    (fifoOf c p).length < 16 →
    ∃ d, exec (.messageTake k e []) s = .next (putCore s k d) ∧
      fifoOf d p = fifoOf c p ++ [{ data := fitBytes 64 (leBytes 8 m.data), poison := m.poison, src := 2 + e }] ∧
      (inAt d e).h = (i.h + 1) % 65536 ∧ (inAt d e).taken = i.taken ++ [(m.seq, m.cmark)] ∧
      tabGet (inAt d e).takenNow firing 0 = tabGet i.takenNow firing 0 + 1 ∧ d.mem = c.mem ∧ d.slots = c.slots

/-- Frees and credits: a freed message makes one credit pending; eight pending, or fewer once the time is up, return to the
sender in one packet of at most 32 that names its endpoint and the largest mark of the messages it covers; a credit that arrives is added to its
target's count, and RETIRED is the least count returned (R168 to R170, R220, R239). -/
def Sys2Proof.Claims.CreditReturn : Prop :=
  ∀ (s : State) (k e : Nat), k < nCores →
    let c := coreAt s k
    let i := inAt c e
    let n := min i.pend 32
    c.held = false →
    (mayFree c e = true → i.contribs = [] →
      exec (.entryFree k e) s = .next (putCore s k (putIn c e
        { i with taken := i.taken.drop 1, pend := i.pend + 1, marks := i.marks ++ [(i.taken.headD (0, 0)).2],
                 pendFrom := if i.pend = 0 then s.sup.ticks else i.pendFrom }))) ∧
    (∀ b, i.pend ≠ 0 → (8 ≤ i.pend ∨ b = true) → i.contribs = [] →
      ∃ d p, exec (.creditSend k e b) s = .next (putCore s k d) ∧ d.inj = c.inj ++ [p] ∧ p.kind = 6 ∧ p.vc = 2 ∧
        p.dst = i.feeder.1 ∧ p.chSeq = i.feeder.2.1 + 32 * i.feeder.2.2 + 1024 * (n - 1) ∧
        p.cmark = maxOf (i.marks.take n) 0 ∧
        inAt d e = { i with pend := i.pend - n, pendFrom := s.sup.ticks, marks := i.marks.drop n }) ∧
    (i.pend ≠ 0 → i.pend < 8 → exec (.creditSend k e false) s = .next (putCore s k c)) ∧
    (∀ p, c.holding = false → c.arr = [p] → p.kind = 6 →
      let f := bits p.chSeq 4 0
      let t := bits p.chSeq 9 5
      let m := bits p.chSeq 14 10 + 1
      let o := outAt c f
      t < o.credit.length → t < o.returned.length →
      ∃ d, exec (.creditArrive k) s = .next (putCore s k d) ∧ d.arr = [] ∧
        nth (outAt d f).credit t 0 = nth o.credit t 0 + m ∧ nth (outAt d f).returned t 0 = nth o.returned t 0 + m ∧
        (∀ j, j ≠ t → nth (outAt d f).credit j 0 = nth o.credit j 0) ∧
        (∀ y ∈ (outAt d f).returned, (outAt d f).retired ≤ y) ∧ (outAt d f).retired ∈ (outAt d f).returned)

/-- Messages and credits of a channel: MessageInjection, MessageArrival, SpillCopies, MessageTaken, CreditReturn, as said at
each. -/
def Obligations.ChannelMessages : Prop :=
  Sys2Proof.Claims.MessageInjection ∧ Sys2Proof.Claims.MessageArrival ∧ Sys2Proof.Claims.SpillCopies ∧ Sys2Proof.Claims.MessageTaken ∧ Sys2Proof.Claims.CreditReturn

/-- A contribution that does not complete its round is added, value by value and exactly, into its landing slot, and the round
goes on with its share counted (R75, R140, R176, R236, R238). -/
def Obligations.ContributionAdded : Prop :=
  ∀ (s : State) (k : Nat) (p : Pkt) (w : Nat), k < nCores →
    let c := coreAt s k
    let i := inAt c p.dstEp
    let n := p.len / 16
    let a := landAddr c i p.chSeq + 256 * p.pkt
    c.held = false → c.holding = false → c.arr = [p] → p.kind = 7 → redEntry s k p.group p.defBasin = some w → p.gen = inExpect i →
    (p.chSeq + 65536 - i.h) % 65536 < inQdepth i → tabHas i.fixed (p.chSeq % inQdepth i) = false →
    c.rounds = [] → p.anchor = bits w 23 16 → (∀ v ∈ vals16 n p.data, bits v 111 104 = p.anchor) →
    p.ncontrib < i.contribs.length * p.npkt → 0 < n → 16 * n = p.len → 16 * p.pkt + n ≤ inLandSize i / 16 →
    (∀ j, j < n → bits (leNat (memRead c.mem (a + 16 * j) 16)) 111 104 = p.anchor) →
    ∃ d, exec (.contributionArrive ⟨k, []⟩) s = .next (putCore s k d) ∧ d.arr = [] ∧
      d.rounds = [{ ep := p.dstEp, seq := p.chSeq, npkt := p.npkt, got := p.ncontrib, vals := 16 * p.pkt + n,
                    poison := p.poison, cmark := p.cmark }] ∧
      (∀ j, j < n → leNat (memRead d.mem (a + 16 * j) 16) =
        esfPack (esfAdd (esfUnpack (leNat (memRead c.mem (a + 16 * j) 16))) (esfUnpack (nth (vals16 n p.data) j 0)))) ∧
      (∀ x, x < a ∨ a + 16 * n ≤ x → memGet d.mem x = memGet c.mem x)

/-- A HELD core that no reset holds is cleared: every byte reads zero, no station, tile, queue or endpoint is left and it is no
longer HELD, while its state and counters stay and its request numbers go on; a core in a reset's basin is not cleared (R156,
R157, R421). -/
def Sys2Proof.Claims.CoreCleared : Prop :=
  ∀ (s : State) (k : Nat), k < nCores →
    let c := coreAt s k
    (c.held = true → (basinAt s (basinOf k)).resetting = false →
      ∃ d, exec (.coreClear k) s = .next (putCore s k d) ∧ (∀ a, memGet d.mem a = 0) ∧ d.held = false ∧ d.station = none ∧
        d.tiles = [] ∧ d.slots = [] ∧ d.mxq = [] ∧ d.vcq = [] ∧ d.inEp = [] ∧ d.outEp = [] ∧ d.st = c.st ∧ d.ctr = c.ctr ∧
        (∀ u, (strmAt d u).nextId = (strmAt c u).nextId ∧ (strmAt d u).q = [] ∧ (strmAt d u).reqs = [])) ∧
    ((basinAt s (basinOf k)).resetting = true → exec (.coreClear k) s = .next (putCore s k c))

/-- The supervisor's read of the stall state: without a cycle of stalled cores it only notes which cores wait; a cycle of which
some core has not been reported is recorded in each of its basins and begins a reset of exactly those basins without a partial
drain (R179, R180, R419, R420). -/
def Sys2Proof.Claims.WedgeFound : Prop :=
  ∀ (s : State) (cyc : List Nat),
    let bs := sortNat (cyc.map basinOf)
    (stallCycles (noteWaits s) = [] → exec .stallRead s = .next (noteWaits s)) ∧
    (stallCycles (noteWaits s) = [cyc] → (∃ k ∈ cyc, (coreAt s k).wedged = false) → s.rst.cur = none →
      ∃ t : State, ∃ r, exec .stallRead s = .next t ∧ t.rst.cur = some r ∧ r.set = sortNat bs ∧ r.stage = .waiting ∧
        r.ctx = ownerOf s (basinOf (cyc.headD 0)) ∧ (∀ b ∈ bs, (basinAt t b).wedge = true) ∧
        (∀ k ∈ cyc, (coreAt t k).wedged = true) ∧
        (∀ k, (coreAt t k).mem = (coreAt s k).mem ∧ (coreAt t k).slots = (coreAt s k).slots ∧
          (coreAt t k).inEp = (coreAt s k).inEp ∧ (coreAt t k).outEp = (coreAt s k).outEp))

/-- While a core is HELD its units, streamers and endpoints do nothing (R156). -/
def Sys2Proof.Claims.HeldCoreIdle : Prop :=
  ∀ (s : State) (k n : Nat) (b : Bool) (ecc : List Ecc), k < nCores → (coreAt s k).held = true →
    ∀ i ∈ ([.mxCmdStart k, .mxShadowSwap k, .mma k b, .mxNop k, .mxClear k, .mxDrain k, .mxDrainStart k, .mxDrainRow k b,
        .vcNop k, .sets k, .loadc k, .loadlut k, .chain k, .vcQuadStart k b, .sdNop k n, .load k n, .store k,
        .streamerRequest k n, .lineReturn k n ecc, .operandBeatArrive k n n, .messageInject k n, .messageArrive k b,
        .spillCopy k n ecc, .messageTake k n ecc, .entryFree k n, .creditSend k n b, .creditArrive k,
        .contributionArrive ⟨k, ecc⟩] : List Instr),
      exec i s = .next (putCore s k (coreAt s k))

/-- A core cleared, one that is HELD, and a wedge found: CoreCleared, HeldCoreIdle, WedgeFound, as said at each. -/
def Obligations.CoresClearedAndWedged : Prop :=
  Sys2Proof.Claims.CoreCleared ∧ Sys2Proof.Claims.HeldCoreIdle ∧ Sys2Proof.Claims.WedgeFound

/-- The oldest packet of a core's interface that its unit's window lets pass enters the mesh at its core's router, where the
injection buffer has room and the router lies in no gap: with the epoch that the router stamps, its destination router found by
its destination type: the placement bank of that epoch for a slot, the core itself, the interleave of HBM, the attach router of
the interface named or, of a GLOBAL request, of the port that the context's set chooses; it counts as injected there (R217, R222,
R231, R240, R241, R259, R281). -/
def Sys2Proof.Claims.PacketInjected : Prop :=
  ∀ (s : State) (k : Nat) (p : Pkt), k < nCores →
    let c := coreAt s k
    let e := stampOf s k
    let d : Core := { winAdd c p with inj := putRest p [] c.inj }
    let enters (t : State) (dest : Nat) (q : Pkt) : Prop :=
      t.mesh.net = s.mesh.net ++
        [{ q with id := s.mesh.nextId, epoch := e, srcCore := k, dstCore := dest, at_ := k, inp := 4, waited := 0 }] ∧
      t.mesh.nextId = s.mesh.nextId + 1 ∧ coreAt t k = d ∧
      tabGet (routerAt t k).ctr (73 + b2n e) 0 = (tabGet (routerAt s k).ctr (73 + b2n e) 0 + 1) % 2 ^ 64
    c.inj.find? (winRoom c) = some p → p.vc ≠ 5 →
    ((isGap s (dieOf k) = true ∨ bufferFlits k p.vc < bufUse s k 4 p.vc + flitsOf p) → exec (.packetInject k) s = .next s) ∧
    (isGap s (dieOf k) = false → bufUse s k 4 p.vc + flitsOf p ≤ bufferFlits k p.vc →
      (∀ j, p.dtype = 0 → (readPlace (putCore s k d) (basinOf k) e p.dst).1 = .core j →
        ∃ t : State, exec (.packetInject k) s = .next t ∧ enters t j p) ∧
      (p.dtype = 1 → ∃ t : State, exec (.packetInject k) s = .next t ∧ enters t p.dst p) ∧
      (p.dtype = 2 → ∃ t : State, exec (.packetInject k) s = .next t ∧ enters t (hbmRouter p.dst p.addr) p) ∧
      (p.dtype = 3 → p.dst ≠ 31 → ∃ t : State, exec (.packetInject k) s = .next t ∧ enters t (attachOf p.dst) p) ∧
      (∀ q, p.dtype = 3 → p.dst = 31 → globalPort s p = some q →
        ∃ t : State, exec (.packetInject k) s = .next t ∧ enters t (attachCore q) { p with dst := q }) ∧
      (p.dtype = 3 → p.dst = 31 → globalPort s p = none → ∃ t : State, exec (.packetInject k) s = .next t ∧ t.mesh = s.mesh ∧
        (coreAt t k).arr = c.arr ++ [refusePkt p evFabNoPort]))

/-- A packet to a layout slot without a placement is discarded where it would enter: the mesh holds nothing of it, it counts
there as injected and as ejected, and SLOT_UNMAPPED is counted and raised (R23, R231). -/
def Sys2Proof.Claims.SlotUnmapped : Prop :=
  ∀ (s : State) (k : Nat) (p : Pkt), k < nCores →
    let c := coreAt s k
    let t := unmappedAt (putCore s k { winAdd c p with inj := putRest p [] c.inj }) k p.dst
    c.inj.find? (winRoom c) = some p → p.vc ≠ 5 → isGap s (dieOf k) = false →
    bufUse s k 4 p.vc + flitsOf p ≤ bufferFlits k p.vc → p.dtype = 0 →
    tabGet (basinAt s (basinOf k)).place (placeKey (stampOf s k) p.dst) (0, 0, 0) = (0, 0, 0) →
    exec (.packetInject k) s = .next t ∧ t.mesh = s.mesh ∧
    tabGet (routerAt t k).ctr 63 0 = (tabGet (routerAt s k).ctr 63 0 + 1) % 2 ^ 64

/-- A hop: an adaptive packet moves over the link of the output that its router takes, the minimal one with the most free buffer
space, east or west on a tie: it comes closer, carries the larger of its mark and the level of the channel it leaves by, and every
other packet stays where it is. Without room there it waits, counted; a direction that the router does not take moves nothing
(R224, R225, R239, R241). -/
def Sys2Proof.Claims.PacketHops : Prop :=
  ∀ (s : State) (p : Pkt) (d : Dir) (j : Nat), s.mesh.net.find? (fun q => q.id == p.id) = some p → hdrBad p = false →
    (p.mc.length ≤ 1 → forwardTo s p.at_ p.dstCore = none) → p.kind ≠ 7 → (p.vc = 0 ∨ p.vc = 2) → neighbour p.at_ d = some j →
    let o := dirNo d
    (wantsOut s p = some o → flitsOf p ≤ outFree s p.at_ o p.vc →
      ∃ t : State, exec (.packetHop p.id d) s = .next t ∧
        t.mesh.net = s.mesh.net.map (fun q =>
          if q.id = p.id then { p with at_ := j, inp := opposite o, waited := 0, cmark := max p.cmark (markLevel s p.at_ o p.vc) }
          else q) ∧
        hopDist j p.dstCore < hopDist p.at_ p.dstCore ∧
        (∀ x ∈ minimalOuts s p, outFree s p.at_ x p.vc ≤ outFree s p.at_ o p.vc ∧
          (x < o → outFree s p.at_ x p.vc < outFree s p.at_ o p.vc)) ∧
        t.cores = s.cores ∧ t.hbms = s.hbms) ∧
    (wantsOut s p = some o → outFree s p.at_ o p.vc < flitsOf p → exec (.packetHop p.id d) s = .next (stallPkt s p o)) ∧
    (wantsOut s p ≠ some o → exec (.packetHop p.id d) s = .next s)

/-- An adaptive packet enters the col channel of its class where no minimal output is left, or where it has waited MESH_COL_WAIT
cycles without space on any and its col output has space, and the entry is counted; before, it stays. A packet of the col whose
output leads into a hard gap is discarded there; one whose header holds a reserved value is discarded at a hop or at its
destination, counted and raised, and its ingress core becomes suspect (R220, R225 to R227). -/
def Sys2Proof.Claims.ColAndBadHeaders : Prop :=
  ∀ (s : State) (p : Pkt), s.mesh.net.find? (fun q => q.id == p.id) = some p →
    let entered : State := bumpRouter (putPkt s { p with vc := p.vc + 1, waited := 0 }) p.at_ 60 1
    let bad (t : State) : Prop := (∀ q ∈ t.mesh.net, q.id ≠ p.id) ∧ (coreAt t p.srcCore).suspect = some 1 ∧
      tabGet (routerAt t p.at_).ctr 64 0 = (tabGet (routerAt s p.at_).ctr 64 0 + 1) % 2 ^ 64
    ((p.vc = 0 ∨ p.vc = 2) → p.at_ ≠ p.dstCore → minimalOuts s p = [] → exec (.colEntry p.id) s = .next entered) ∧
    (∀ o, (p.vc = 0 ∨ p.vc = 2) → p.at_ ≠ p.dstCore → colWaitOf s ≤ p.waited →
      (∀ x ∈ minimalOuts s p, outFree s p.at_ x p.vc < flitsOf p) → colOut (gapsOf s p.epoch) p.at_ p.dstCore = some o →
      flitsOf p ≤ outFree s p.at_ o (p.vc + 1) → exec (.colEntry p.id) s = .next entered) ∧
    (minimalOuts s p ≠ [] → p.waited < colWaitOf s → exec (.colEntry p.id) s = .next s) ∧
    (∀ d j, hdrBad p = false → (p.mc.length ≤ 1 → forwardTo s p.at_ p.dstCore = none) → p.kind ≠ 7 → p.vc ≠ 0 → p.vc ≠ 2 →
      neighbour p.at_ d = some j → wantsOut s p = some (dirNo d) → dieOf j ≠ dieOf p.at_ → isGap s (dieOf j) = true →
      exec (.packetHop p.id d) s = .next (gapDrop s p (dieOf j))) ∧
    (∀ d, hdrBad p = true → (coreAt s p.srcCore).suspect = none → ∃ t : State, exec (.packetHop p.id d) s = .next t ∧ bad t) ∧
    (p.at_ = p.dstCore → hdrBad p = true → (coreAt s p.srcCore).suspect = none →
      ∃ t : State, exec (.packetEject p.id) s = .next t ∧ bad t)

/-- A packet at its destination router leaves the mesh for the unit it is for: the core's service port or its arrivals, the
stack's controller, or the port's engine; a core that does not run the slot named discards it and becomes suspect
(R22, R222). -/
def Sys2Proof.Claims.PacketEjected : Prop :=
  ∀ (s : State) (p : Pkt), s.mesh.net.find? (fun q => q.id == p.id) = some p → p.at_ = p.dstCore → p.vc ≠ 5 →
    hdrBad p = false → (p.dtype ≤ 1 → forwardTo s p.at_ p.dstCore = none) → p.reqUnit < 16 →
    let k := p.at_
    let c := coreAt s k
    let left (t : State) : Prop := t.mesh.net = s.mesh.net.filter (fun q => q.id != p.id)
    (p.dtype = 0 → c.held = false → c.slot = some p.dst → p.kind = 0 →
      ∃ t : State, exec (.packetEject p.id) s = .next t ∧ left t ∧ coreAt t k = { c with svc := c.svc ++ [p] }) ∧
    (p.dtype = 0 → c.held = false → c.slot = some p.dst → 4 ≤ p.kind → p.kind ≤ 7 →
      ∃ t : State, exec (.packetEject p.id) s = .next t ∧ left t ∧ coreAt t k = { c with arr := c.arr ++ [p] }) ∧
    (p.dtype = 0 → c.held = false → c.slot ≠ some p.dst → c.suspect = none →
      ∃ t : State, exec (.packetEject p.id) s = .next t ∧ left t ∧ (coreAt t k).svc = c.svc ∧ (coreAt t k).arr = c.arr ∧
        (coreAt t k).misdeliver = (c.misdeliver + 1) % 2 ^ 64 ∧ (coreAt t k).suspect = some 1) ∧
    (p.dtype = 2 → ∃ t : State, exec (.packetEject p.id) s = .next t ∧ left t ∧
      hbmAt t p.dst = { hbmAt s p.dst with inQ := (hbmAt s p.dst).inQ ++ [p] } ∧ t.cores = s.cores) ∧
    (p.dtype = 3 → p.dst < 24 → ∃ t : State, exec (.packetEject p.id) s = .next t ∧ left t ∧
      portAt t p.dst = { portAt s p.dst with inQ := (portAt s p.dst).inQ ++ [p] } ∧ t.cores = s.cores)

/-- A multicast packet at one of its targets leaves a copy there and is counted; with more targets it runs on to the next one
along its line, and with the last it leaves the mesh (R231, R234). -/
def Sys2Proof.Claims.MulticastCopies : Prop :=
  ∀ (s : State) (p : Pkt) (a b : Nat × Nat) (l : List (Nat × Nat)) (j : Nat),
    s.mesh.net.find? (fun q => q.id == p.id) = some p → p.at_ = p.dstCore → p.vc = 5 → hdrBad p = false →
    forwardTo s p.at_ p.dstCore = none → p.dtype = 0 → (p.kind = 4 ∨ p.kind = 5) →
    let k := p.at_
    let c := coreAt s k
    let copied (t : State) : Prop := coreAt t k = { c with arr := c.arr ++ [{ p with mc := [] }] } ∧
      tabGet (routerAt t k).ctr 62 0 = (tabGet (routerAt s k).ctr 62 0 + 1) % 2 ^ 64
    c.held = false → c.slot = some p.dst →
    (p.mc = [a] → ∃ t : State, exec (.packetEject p.id) s = .next t ∧ copied t ∧
      t.mesh.net = s.mesh.net.filter (fun q => q.id != p.id)) ∧
    (p.mc = a :: b :: l → placedAt s (basinOf p.srcCore) p.epoch b.1 = some j →
      ∃ t : State, exec (.packetEject p.id) s = .next t ∧ copied t ∧ t.mesh.net = s.mesh.net.map (fun q =>
        if q.id = p.id then { p with mc := b :: l, dst := b.1, dstEp := b.2, line := true, dstCore := j } else q))

/-- Packets enter the mesh, hop and leave it: PacketInjected, SlotUnmapped, PacketHops, ColAndBadHeaders, PacketEjected,
MulticastCopies, as said at each. -/
def Obligations.MeshPackets : Prop :=
  Sys2Proof.Claims.PacketInjected ∧ Sys2Proof.Claims.SlotUnmapped ∧ Sys2Proof.Claims.PacketHops ∧ Sys2Proof.Claims.ColAndBadHeaders ∧
  Sys2Proof.Claims.PacketEjected ∧ Sys2Proof.Claims.MulticastCopies

/-- Two contributions that wait for one output of a router and agree in group, round, packet, count and anchor merge: the values are
added under R75, NCONTRIB is summed, POISON is the OR and CMARK the larger, and one packet is left of the two (R237). -/
def Sys2Proof.Claims.ContributionsMerge : Prop :=
  ∀ (s : State) (p q : Pkt) (d : Dir) (n : Nat), s.mesh.net = [p, q] → p.id ≠ q.id → hdrBad p = false → p.kind = 7 → p.vc = 4 →
    (p.mc.length ≤ 1 → forwardTo s p.at_ p.dstCore = none) → mayMerge s p q = true → wantsOut s p ≠ some (dirNo d) →
    p.len = 16 * n → q.len = 16 * n →
    ∃ t : State, ∃ m, exec (.packetHop p.id d) s = .next t ∧ t.mesh.net = [m] ∧ m.id = p.id ∧ m.ncontrib = p.ncontrib + q.ncontrib ∧
      m.poison = (p.poison || q.poison) ∧ m.cmark = max p.cmark q.cmark ∧ m.at_ = p.at_ ∧ m.len = 16 * n ∧
      vals16 n m.data =
        ((vals16 n p.data).zip (vals16 n q.data)).map (fun v => esfPack (esfAdd (esfUnpack v.1) (esfUnpack v.2)))

/-- A hard fault of a die stack, found by name or by a link that failed: the stack is a hard gap from that instant with its
reason, its die is retired, none of its cores is good any more, nothing stays in its routers, and no other die stack becomes
a gap but those that no col tables can reach any more (R13, R25, R219, R223, R226, R227). -/
def Sys2Proof.Claims.HardGapTaken : Prop :=
  ∀ (s : State) (d r : Nat) (cut : List Nat), d < 64 → isGap s d = false → (r = 5 ∨ r = 6) →
    let becomes (t : State) (d r : Nat) : Prop :=
      (dieAt t d).gapReason = r ∧ (dieAt t d).retired = true ∧
      (∀ e, e ≠ d → e ∉ cut → (dieAt t e).gapReason = (dieAt s e).gapReason) ∧ (∀ e ∈ cut, e < 64 → isGap t e = true) ∧
      (∀ k ∈ coresOfDie d, (coreAt t k).st.good = false) ∧ (∀ p ∈ t.mesh.net, dieOf p.at_ ≠ d)
    (∃ t : State, exec (.hardGap d ⟨r, cut⟩) s = .next t ∧ becomes t d r) ∧
    (∀ k dir, k < nCores → (linkDie k dir).1 = d →
      ∃ t : State, exec (.linkFailure k ⟨dir, cut⟩) s = .next t ∧ becomes t d (linkDie k dir).2)

/-- Contributions merge in the mesh; hard gaps are taken: ContributionsMerge, HardGapTaken, as said at each. -/
def Obligations.MeshMergesAndGaps : Prop :=
  Sys2Proof.Claims.ContributionsMerge ∧ Sys2Proof.Claims.HardGapTaken

/-- Flips and sweeps: a flip completes and is counted; a pass that finds the old epoch's injections equal to its ejections
retires the old bank, after which both banks of every mirror hold one map; a drain's pass, or that of a layout that restarts, is
kept, and equal to the pass before with as many ejections as injections it ends the sweep (R21, R209, R230 to R232). -/
def Sys2Proof.Claims.FlipsAndSweeps : Prop :=
  ∀ (s : State),
    let old := b2n (!s.mesh.epoch)
    (s.mesh.flipping = true → exec .flipComplete s =
      .next { s with mesh := { s.mesh with flipping := false, flipped := [], flips := (s.mesh.flips + 1) % 2 ^ 64 } }) ∧
    (s.mesh.oldBank = true → s.mesh.flipping = false → routerSum s (73 + old) = routerSum s (75 + old) →
      nodeSum s old = nodeSum s (2 + old) →
      ∃ t : State, exec .drainMarkerPass s = .next t ∧ t.mesh.oldBank = false ∧ t.mesh.epoch = s.mesh.epoch ∧
        t.mesh.gaps0 = t.mesh.gaps1 ∧ t.cores = s.cores ∧
        ∀ b slot, b < 16 → slot < 16384 →
          tabGet (basinAt t b).place (placeKey true slot) (0, 0, 0) = tabGet (basinAt t b).place (placeKey false slot) (0, 0, 0)) ∧
    ((routerSum s (73 + old) ≠ routerSum s (75 + old) ∨ nodeSum s old ≠ nodeSum s (2 + old)) →
      exec .drainMarkerPass s = .next s) ∧
    (∀ d, s.mesh.drains = [d] →
      let n := sweepCounts s d.basins
      ∃ t : State, exec .drainSweepPass s = .next t ∧
        t.mesh.drains = [{ d with sweep := some n, swept := d.swept || (decide (d.sweep = some n) && n.1 == n.2) }] ∧
        t.cores = s.cores ∧ t.mesh.net = s.mesh.net) ∧
    (∀ r, s.rst.cur = some r → restartSweeps s r = true →
      let n := sweepCounts s (grantOf s r.ctx)
      ∃ t : State, exec .drainSweepPass s = .next t ∧
        t.rst.cur = some { r with sweep := some n, swept := r.swept || (decide (r.sweep = some n) && n.1 == n.2) })

/-- Injection windows and replays: an echo of mark 2 or 3 halves the window, not below 1, and is counted; one within 256 cycles
of a halving is ignored; a window of 64 cycles without an echo raises W by 1, up to 64, and the next begins with no flits; a replay
is counted for its link (R219, R240, R251). -/
def Sys2Proof.Claims.WindowsAndReplays : Prop :=
  ∀ (s : State) (k j : Nat) (outbound : Bool) (e : Nat × Nat) (dir : Dir), k < nCores → j < winCount outbound →
    let c := coreAt s k
    let u := winUnit outbound j
    let d : Core := { c with echoes := c.echoes.erase e }
    let w := winOf c u
    (c.echoes.find? (fun x => x.1 == u) = some e → 2 ≤ e.2 → w.2 = 0 →
      exec (.congestionEcho k outbound j) s = .next (putCore s k
        { putWin d u (max 1 (w.1 / 2)) 4 with cmarkHalve := (c.cmarkHalve + 1) % 2 ^ 64 })) ∧
    (c.echoes.find? (fun x => x.1 == u) = some e → (e.2 < 2 ∨ w.2 ≠ 0) →
      exec (.congestionEcho k outbound j) s = .next (putCore s k d)) ∧
    exec (.injectionWindowTick k outbound j) s = .next (putCore s k
      (putUse (putWin c u (if (winUse c u).2 = 0 then min 64 (w.1 + 1) else w.1) (w.2 - 1)) u 0 0)) ∧
    exec (.flitReplay k dir) s = .next (bumpRouter s k (66 + dirNo dir) 1)

/-- A control packet: one that its node does not take is discarded and makes its source core suspect; any other for a die whose
control clock has stopped starts it and counts the start, and its replays count at the node that made them; a READ of a counter is answered with
its shadow, and FLIP switches the epoch that the site stamps (R219, R220, R230, R243, R244, R252). -/
def Sys2Proof.Claims.ControlPackets : Prop :=
  ∀ (s : State) (h : W64) (data : List W64) (m n : Nat), m < nCores → s.sup.phase = .ready → ctlSrc h < nCores → ctlDst h < nCores →
    let src := ctlSrc h
    let dst := ctlDst h
    let addr := ctlAddr h
    let started (t : State) : Prop := (dieAt t (dieOf dst)).ctlPll = true ∧ t.cores = s.cores ∧
      t.clk.starts = (if (dieAt s (dieOf dst)).ctlPll then s.clk.starts else (s.clk.starts + 1) % 2 ^ 64) ∧
      tabGet (routerAt t m).ctr 109 0 = (if n = 0 then tabGet (routerAt s m).ctr 109 0
        else (tabGet (routerAt s m).ctr 109 0 + n) % 2 ^ 64)
    (ctlBad h data = true → exec (.controlPacket h data m n) s = .next (suspectCore s src 1)) ∧
    (ctlBad h data = false → ctlOpen s src dst = false → exec (.controlPacket h data m n) s = .next s) ∧
    (ctlBad h data = false → ctlOpen s src dst = true → ctlOp h = 0 → 0x1000 ≤ addr → addr < 0x1370 →
      ∃ t : State, exec (.controlPacket h data m n) s = .next t ∧ started t ∧
        t.out = s.out ++ [.ctlReply dst addr [tabGet (routerAt s dst).shadow ((addr - 0x1000) / 8) 0]]) ∧
    (ctlBad h data = false → ctlOpen s src dst = true → ctlOp h = 4 → s.mesh.flipping = true →
      ∃ t : State, exec (.controlPacket h data m n) s = .next t ∧ started t ∧ stampOf t dst = s.mesh.epoch ∧
        ∀ k, k ≠ dst → stampOf t k = stampOf s k)

/-- Flips, sweeps, windows and control packets: FlipsAndSweeps, WindowsAndReplays, ControlPackets, as said at each. -/
def Obligations.MeshManagement : Prop :=
  Sys2Proof.Claims.FlipsAndSweeps ∧ Sys2Proof.Claims.WindowsAndReplays ∧ Sys2Proof.Claims.ControlPackets

/-- A request at the controller: a read that passes the checks is queued; a write that passes and finds no earlier request of
its line is acknowledged and stores exactly its bytes; a refused one is counted, answered with poison, and changes no byte. While
its basin is reset a stack that is in service answers with poison; one in self-refresh lets its requests wait until it wakes
(R256, R257, R268, R269, R271). -/
def Sys2Proof.Claims.HbmRequests : Prop :=
  ∀ (s : State) (b : Nat) (p : Pkt) (rest : List Pkt), b < 16 →
    let h := hbmAt s b
    let k := hbmRouter b p.addr
    let refusedBy (t : State) (code : Nat) : Prop := (hbmAt t b).mem = h.mem ∧ (hbmAt t b).inQ = rest ∧ (hbmAt t b).queue = h.queue ∧
      ∃ q, (coreAt t k).inj = (coreAt s k).inj ++ [q] ∧ q.poison = true ∧ q.refused = code
    let serves : Prop := h.withdrawn = true ∨ (h.selfRef = false ∧ h.resetting = false)
    h.inQ = p :: rest →
    (serves → hbmRefusal s b p = none → p.kind = 0 → h.queue = [] →
      exec (.hbmRequest b 0) s = .next (putHbm s b { h with inQ := rest, queue := [{ p with refused := 0 }] })) ∧
    (serves → hbmRefusal s b p = none → p.kind = 1 → h.queue = [] →
      ∃ t : State, exec (.hbmRequest b 0) s = .next t ∧ (hbmAt t b).inQ = rest ∧ (hbmAt t b).queue = [] ∧
        (∀ a, memGet (hbmAt t b).mem a =
          if p.addr ≤ a ∧ a < p.addr + p.data.length then nth p.data (a - p.addr) 0 else memGet h.mem a) ∧
        ∃ q, (coreAt t k).inj = (coreAt s k).inj ++ [q] ∧ q.kind = 3 ∧ q.poison = false ∧ q.dst = p.srcCore ∧ q.reqId = p.reqId) ∧
    (∀ code, serves → hbmRefusal s b p = some code →
      ∃ t : State, exec (.hbmRequest b 0) s = .next t ∧ refusedBy t code ∧
        tabGet (hbmAt t b).ctr 98 0 = (tabGet h.ctr 98 0 + 1) % 2 ^ 64) ∧
    (h.withdrawn = false → h.resetting = true →
      ∃ t : State, exec (.hbmRequest b 0) s = .next t ∧ refusedBy t evHbmResetLost ∧
        tabGet (hbmAt t b).ctr 98 0 = tabGet h.ctr 98 0) ∧
    (h.withdrawn = false → h.resetting = false → h.selfRef = true → exec (.hbmRequest b 0) s = .next s)

/-- The order of the controller's checks: a withdrawn stack refuses before the grant is looked at, the grant before the range,
the range before a hold (R256). -/
def Sys2Proof.Claims.HbmCheckOrder : Prop :=
  ∀ (s : State) (b : Nat) (p : Pkt),
    let h := hbmAt s b
    (h.withdrawn = true → hbmRefusal s b p = some evHbmWithdrawn) ∧
    (h.withdrawn = false → (basinAt s b).ctx ≠ some p.ctx → hbmRefusal s b p = some evHbmGrantFault) ∧
    (h.withdrawn = false → (basinAt s b).ctx = some p.ctx → 48000000000 < p.addr + p.len →
      hbmRefusal s b p = some evHbmRange) ∧
    (h.withdrawn = false → (basinAt s b).ctx = some p.ctx → p.addr + p.len ≤ 48000000000 → ∀ x ∈ h.holds,
      p.addr < x.lo + x.len → x.lo < p.addr + p.len → hbmRefusal s b p = some evHbmShardHeld) ∧
    (hbmRefusal s b p = none ↔ h.withdrawn = false ∧ (basinAt s b).ctx = some p.ctx ∧ p.addr + p.len ≤ 48000000000 ∧
      ∀ x ∈ h.holds, p.addr + p.len ≤ x.lo ∨ x.lo + x.len ≤ p.addr)

/-- A read whose codewords are sound answers the stored bytes at the injection router of its address and changes no byte; a
sum-into whose anchor is the target's replaces exactly its 16 bytes by the sum (R75, R257, R258, R259, R261). -/
def Sys2Proof.Claims.HbmReadsAndSums : Prop :=
  ∀ (s : State) (b : Nat) (p : Pkt), b < 16 →
    let h := hbmAt s b
    let k := hbmRouter b p.addr
    h.queue = [p] →
    (p.kind = 0 → p.refused = 0 → (hbmRead s b p.addr p.len).2 = false →
      ∃ t : State, ∃ q, exec (.hbmReadComplete b { cw := [], odCe := false, odUe := false } false) s = .next t ∧ (hbmAt t b).mem = h.mem ∧
        (hbmAt t b).queue = [] ∧ (coreAt t k).inj = (coreAt s k).inj ++ [q] ∧ q.kind = 2 ∧ q.dst = p.srcCore ∧
        q.reqId = p.reqId ∧ q.data = memRead h.mem p.addr p.len ∧ q.poison = false ∧ (∀ x ∈ q.pois, x = false)) ∧
    (p.kind = 8 → p.refused = 0 → p.data.length = 16 → p.poison = false → (∀ x ∈ p.pois, x = false) →
      (esfUnpack (leNat p.data)).anchor = (esfUnpack (leNat (memRead h.mem p.addr 16))).anchor →
      ∃ t : State, exec (.hbmSumInto b { cw := [], odCe := false, odUe := false }) s = .next t ∧ (hbmAt t b).queue = [] ∧
        leNat (memRead (hbmAt t b).mem p.addr 16) =
          esfPack (esfAdd (esfUnpack (leNat (memRead h.mem p.addr 16))) (esfUnpack (leNat p.data))) ∧
        (∀ a, a < p.addr ∨ p.addr + 16 ≤ a → memGet (hbmAt t b).mem a = memGet h.mem a))

/-- Requests at a stack: HbmRequests, HbmCheckOrder, HbmReadsAndSums, as said at each. -/
def Obligations.HbmAccesses : Prop :=
  Sys2Proof.Claims.HbmRequests ∧ Sys2Proof.Claims.HbmCheckOrder ∧ Sys2Proof.Claims.HbmReadsAndSums

/-- What the controller does by itself never changes a stored bit: a corrected codeword leaves the write-back queue, a scrub
read advances in a cycle without a request for its pseudo-channel, a row that calls for it is repaired and counted, a refresh is
issued, a channel recalibrates, the stack enters self-refresh and wakes; each leaves every byte and every queued request as it was
(R262, R263, R265 to R268, R273). -/
def Sys2Proof.Claims.HbmUpkeep : Prop :=
  ∀ (s : State) (b pc ch row bank : Nat) (recurs : Bool) (lost log : List Nat), b < 16 → pc < 32 → ch < 16 →
    let h := hbmAt s b
    let i := tabGet h.scrubPos pc 0
    let sound : LineEcc := { cw := [], odCe := false, odUe := false }
    exec (.hbmWriteBack b) s = .next (putHbm s b { h with wbq := h.wbq.drop 1 }) ∧
    (h.withdrawn = false → h.selfRef = false → h.resetting = false → i < pcLines →
      (busyPcs (h.queue ++ h.inQ)).contains pc = false →
      ∃ x, exec (.hbmScrub b pc ⟨sound, log⟩ false) s = .next (putHbm s b x) ∧ x.mem = h.mem ∧
        x.queue = h.queue ∧ x.inQ = h.inQ ∧ (i + 1 < pcLines → tabGet x.scrubPos pc 0 = i + 1 ∧ x.scrubPass = h.scrubPass) ∧
        tabGet x.ctr 197 0 = (tabGet h.ctr 197 0 + 1) % 2 ^ 64) ∧
    ((h.selfRef = true ∨ h.resetting = true ∨ (busyPcs (h.queue ++ h.inQ)).contains pc = true) →
      exec (.hbmScrub b pc ⟨sound, log⟩ false) s = .next s) ∧
    (repairDue h row recurs = true → exec (.rowRepair b row bank ⟨recurs, true, lost⟩) s =
      .next (putHbm s b { h with notes := tabDel h.notes row, ctr := bump h.ctr 199 1,
                                 poisonCw := sortNat (h.poisonCw ++
                                   lost.filter (fun a => a % 16 == 0 && Config.rowOf a == row)) })) ∧
    (repairDue h row recurs = false → exec (.rowRepair b row bank ⟨recurs, true, lost⟩) s = .next (putHbm s b (clearUe h row))) ∧
    exec (.refresh b pc) s = .next (putHbm s b { stallQueue h pc with refreshing := [pc] }) ∧
    (h.withdrawn = false → exec (.recalibration b ch false true) s =
      .next (putHbm s b { h with ctr := bump h.ctr 200 1, recalTries := tabDel h.recalTries ch })) ∧
    (h.withdrawn = false → h.selfRef = false → h.srCfg ≠ 0 → h.queue = [] → h.inQ = [] →
      exec (.selfRefreshEntry b) s = .next (putHbm s b { h with selfRef := true, ctr := bump h.ctr 202 1 })) ∧
    exec (.selfRefreshExit b) s = .next (putHbm s b { h with selfRef := false })

/-- A stack withdrawn, by name or at a channel's second failed recalibration: it is out of service, its queued requests wait to
be refused, HBM_WITHDRAWN and the alert are raised, and every later request is refused (R256, R267, R270, R271, R273). -/
def Sys2Proof.Claims.HbmWithdrawn : Prop :=
  ∀ (s : State) (b ch : Nat), b < 16 → ch < 16 → (hbmAt s b).withdrawn = false → (basinAt s b).ctx = none →
    let h := hbmAt s b
    let out (t : State) : Prop :=
      (hbmAt t b).withdrawn = true ∧ (hbmAt t b).inService = false ∧ (hbmAt t b).inQ = h.queue ++ h.inQ ∧
      (hbmAt t b).queue = [] ∧ (∀ p, hbmRefusal t b p = some evHbmWithdrawn) ∧ t.glb.alert = s.glb.alert ||| 2 ∧
      t.cores = s.cores
    (∃ t : State, exec (.stackWithdraw b .training) s = .next t ∧ out t) ∧
    (∃ t : State, exec (.stackWithdraw b .baseDie) s = .next t ∧ out t ∧ (dieAt t (memDie b)).baseOk = false) ∧
    (tabGet h.recalTries ch 0 ≠ 0 → ∃ t : State, exec (.recalibration b ch false false) s = .next t ∧ out t)

/-- A shard line that no verified copy restored in time puts its copy on hold and asks for its reload; a session page whose
session is idle is copied whole to its new mirror, and its entry waits for the next step boundary (R404, R405, R407,
R411). -/
def Sys2Proof.Claims.LinesAndPagesRestored : Prop :=
  ∀ (s : State) (b n id line : Nat) (rest : List (Nat × Nat × Nat)) (w : Wpkg) (sh : Shard) (t : Sess) (pg o : Nat) (g : Page)
      (free : List Nat), b < 16 → n < 16 →
    ((hbmAt s b).restores = (n, id, line) :: rest → (ctxAt s n).wpkg = some w → w.shards.find? (fun h => h.id == id) = some sh →
      onHold s b n id = false → sh.id = id →
      ∃ u : State, exec (.lineRestoreTimeout b) s = .next u ∧ (hbmAt u b).restores = rest ∧
        (hbmAt u b).holds = (hbmAt s b).holds ++ [{ ctx := n, shard := id, lo := sh.hbmOff * 65536, len := sh.length }] ∧
        u.heal.reloads = s.heal.reloads ++ [(n, b, id)] ∧ (hbmAt u b).mem = (hbmAt s b).mem) ∧
    ((ctxAt s n).sessions = [t] → t.rebuilding = true → t.lost = false → sessionIdle (ctxAt s n) t.id = true →
      (ctxAt s n).pages = [(pg, g)] → t.firstPage ≤ pg → pg < t.firstPage + t.npages → g.mirror = none →
      pageStaged (ctxAt s n) pg = false → mirrorBasin s n g = some b → freePages (ctxAt s n) b = o :: free →
      ∃ u : State, exec (.sessionRebuild n) s = .next u ∧
        (ctxAt u n).staged = (ctxAt s n).staged ++ [.rebuilt t.id pg b o] ∧ (ctxAt u n).pages = (ctxAt s n).pages ∧
        ∀ i, i < 65536 → memGet (hbmAt u b).mem (o * 65536 + i) = memGet (hbmAt s g.basin).mem (g.off * 65536 + i))

/-- Upkeep, withdrawal and restoring of a stack: HbmUpkeep, HbmWithdrawn, LinesAndPagesRestored, as said at each. -/
def Obligations.HbmService : Prop :=
  Sys2Proof.Claims.HbmUpkeep ∧ Sys2Proof.Claims.HbmWithdrawn ∧ Sys2Proof.Claims.LinesAndPagesRestored

/-- The link of a port: training takes it up; the third failure in a row takes it down until power-on, raises the alert and
FAB_PORT_DOWN in every context whose port set has it, and returns what waited to be merged; a replay is counted, and the
sixteenth failed one in a row ends the link's service until it has trained again (R276, R302). -/
def Sys2Proof.Claims.PortLink : Prop :=
  ∀ (s : State) (p : Nat) (ok : Bool), p < 24 →
    let x := portAt s p
    (x.down = true → exec (.portRetrain p ok) s = .next s) ∧
    (x.down = false → exec (.portRetrain p true) s =
      .next (putPort s p { x with up := true, trainFails := 0, replayFails := 0, link := linkTrained x.link })) ∧
    (x.down = false → x.trainFails < 2 → exec (.portRetrain p false) s =
      .next (putPort s p { x with up := false, trainFails := x.trainFails + 1 })) ∧
    (x.down = false → x.trainFails = 2 →
      ∃ t : State, exec (.portRetrain p false) s = .next t ∧ (portAt t p).up = false ∧ (portAt t p).down = true ∧
        (portAt t p).merge = [] ∧ (portAt t p).inQ = x.merge ++ x.inQ ∧ t.glb.alert = s.glb.alert ||| 4 ∧ t.cores = s.cores ∧
        ∀ n, n < 16 → bitAt (ctxAt s n).portSet p = true → (ctxAt s n).st = .active →
          storeUnits (ctxAt s n).store + 2 ≤ 8192 →
          ∃ r, (ctxAt t n).store = (ctxAt s n).store ++ [r] ∧ r.type = 1 ∧ r.code = evFabPortDown) ∧
    exec (.linkBlockReplay p true) s = .next (putPort s p { x with ctr := bump x.ctr 6 1, replayFails := 0 }) ∧
    (x.replayFails < 15 → exec (.linkBlockReplay p false) s =
      .next (putPort s p { x with ctr := bump x.ctr 6 1, replayFails := x.replayFails + 1 })) ∧
    (x.replayFails = 15 → exec (.linkBlockReplay p false) s =
      .next (putPort s p { x with ctr := bump x.ctr 6 1, up := false, replayFails := 0 }))

/-- Keys of a pair: when its SPDM session has finished and the peer meets R289 the entry is keyed with the peer's announced
generation; a peer that does not meet it raises FAB_PEER_REJECTED and the entry stays as it is; a message of a session under way
is answered. When a key has served 2^40 packets or 24 hours its phase flips and its counters begin at 0 at every port; the peer's
key update flips the receiving phase and keeps the old key, which is erased 1 ms after its last use or 10 ms after the update
(R289, R290). -/
def Sys2Proof.Claims.FabricKeys : Prop :=
  ∀ (s : State) (p n i : Nat) (w : WirePkt) (f : FabPkt) (chainOk : Bool) (peer : PeerFacts), p < 24 →
    let k := pairKey s i
    let whole := leNat (f.payload.take 2) = 0 ∧ leNat ((f.payload.drop 2).take 2) = 1 ∧
      leNat ((f.payload.drop 4).take 4) ≤ 504 ∧ (rxAt s p f.srcId f.dstId 2).frag = 0 ∧ f.type = 9 ∧ f.code = 1
    let clear := Arrives s p w f ∧ hdrOk f = true ∧ ctxOfEp s f.dstId = some n ∧ (ctxAt s n).quarantined = false ∧
      entFor s n f.srcId = some i ∧ (entAt s i).valid = true ∧ (entAt s i).keyed = false ∧ f.clear = true ∧
      f.seq = (rxAt s p f.srcId f.dstId 2).expected ∧ (rxAt s p f.srcId f.dstId 2).wait = []
    (clear → whole → peerOk s chainOk peer = true →
      ∃ t : State, exec (.mgmtSpdm p w true chainOk peer) s = .next t ∧
        entAt t i = { entAt s i with keyed := true, peerGen := peer.gen % 256, keyIndex := i } ∧
        ∀ j, j ≠ i → entAt t j = entAt s j) ∧
    (clear → whole → (txAt s p n i 2).unacked = [] → (txAt s p n i 2).sent = 0 → (txAt s p n i 2).hold = 0 →
      1 ≤ (txAt s p n i 2).window → linkRoom s p 2 8 = true →
      ∃ t : State, ∃ l, exec (.mgmtSpdm p w false chainOk peer) s = .next t ∧ t.fab.table = s.fab.table ∧
      t.out = s.out ++ l ∧ ∃ g, (.fabric p g) ∈ l ∧ g.type = 9 ∧ g.code = 1 ∧ g.clear = true) ∧
    (clear → whole → peerOk s chainOk peer = false → (ctxAt s n).st = .active → storeUnits (ctxAt s n).store + 2 ≤ 8192 →
      ∃ t : State, ∃ r, exec (.mgmtSpdm p w true chainOk peer) s = .next t ∧ t.fab.table = s.fab.table ∧
        (ctxAt t n).store = (ctxAt s n).store ++ [r] ∧ r.type = 1 ∧ r.code = evFabPeerRejected) ∧
    (Arrives s p w f → FabNext s p f n i → whole →
      ∃ t : State, exec (.mgmtSpdm p w true chainOk peer) s = .next t ∧ (pairKey t i).rxPhase = !k.rxPhase ∧ (pairKey t i).oldHeld = true ∧
        (pairKey t i).updated = s.sup.ticks ∧ t.fab.table = s.fab.table) ∧
    ((entAt s i).keyed = true → renewDue s k = true →
      ∃ t : State, exec (.fabKeyRenewal p i) s = .next t ∧
        pairKey t i = { k with txPhase := !k.txPhase, count := 0, since := s.sup.ticks } ∧
        (∀ q, q < 24 → (keyAt t q i).nctr = []) ∧ t.fab.table = s.fab.table ∧ t.cores = s.cores ∧ t.out = s.out) ∧
    ((entAt s i).keyed = false ∨ renewDue s k = false → exec (.fabKeyRenewal p i) s = .next s) ∧
    (eraseDue s k = true → exec (.fabOldKeyErase p i) s = .next (putPair s { k with oldHeld := false })) ∧
    (eraseDue s k = false → exec (.fabOldKeyErase p i) s = .next s)

/-- A membership record, over the management bus or in a packet: one that is not in order or not signed is counted and changes
nothing else; one for an epoch that is not newer changes no context; a newer one that lists the context becomes its record
and epoch; a newer one that does not list it fences the context, whose epoch stays and whose task slots stop (R293, R294, R296). -/
def Sys2Proof.Claims.MembershipRecords : Prop :=
  ∀ (s : State) (n : Nat) (bytes : List Byte) (sigOk : Bool), n < 16 → epOf (ctxAt s n) ≠ 0 →
    (∀ m, m < 16 → m ≠ n → epOf (ctxAt s m) = 0) → (ctxAt s n).fenced = false →
    let x := ctxAt s n
    let r := recordOf bytes
    let i := Instr.mctpMembershipRecord ⟨bytes, sigOk⟩
    let fences := recordOk s r sigOk = true ∧ bits x.act.fabId 35 20 = r.domain ∧ newer r.epoch x.fabEpoch = true ∧
      r.members.any (fun m => m.id == epOf x) = false
    let quiet := ∀ p, p < 24 → (portAt s p).merge = [] ∧ (portAt s p).keyWait = [] ∧ (portAt s p).tx = []
    (recordOk s r sigOk = false → exec i s = .next (bumpPort s 0 21 1)) ∧
    (recordOk s r sigOk = true → bits x.act.fabId 35 20 ≠ r.domain → exec i s = .next s) ∧
    (recordOk s r sigOk = true → newer r.epoch x.fabEpoch = false → exec i s = .next s) ∧
    (recordOk s r sigOk = true → bits x.act.fabId 35 20 = r.domain → newer r.epoch x.fabEpoch = true →
      r.members.any (fun m => m.id == epOf x) = true → entsOf s n = [] → r.members.length = 1 →
      ∃ t : State, exec i s = .next t ∧ (ctxAt t n).fabEpoch = r.epoch ∧ (ctxAt t n).record = some r ∧
        (ctxAt t n).fenced = false ∧ t.fab.table = s.fab.table ∧ t.cores = s.cores) ∧
    (fences → ∃ t : State, exec i s = .next t ∧ (ctxAt t n).fenced = true ∧ (ctxAt t n).fabEpoch = x.fabEpoch ∧
      t.glb.alert = s.glb.alert ||| 8 ∧ t.fab.table = s.fab.table) ∧
    (fences → quiet → ctxCores s n = [] → x.st = .active → storeUnits x.store + 2 ≤ 8192 →
      ∃ t : State, exec i s = .next t ∧ ∃ e, (ctxAt t n).store = x.store ++ [e] ∧ e.code = evFabFenced) ∧
    (∀ k j, fences → quiet → ctxCores s n = [k] → j < 8 → (slotAt (coreAt s k) j).st = .running →
      ∃ t : State, exec i s = .next t ∧ (slotAt (coreAt t k) j).st = .stopped ∧ (slotAt (coreAt t k) j).stopEv = evFabFenced) ∧
    (∀ p i w f, Arrives s p w f → recordOk s (recordOf (((f.payload.drop 8).take 504).take (leNat ((f.payload.drop 4).take 4)))) sigOk = true →
      newer (recordOf (((f.payload.drop 8).take 504).take (leNat ((f.payload.drop 4).take 4)))).epoch x.fabEpoch = false →
      FabNext s p f n i → f.type = 9 → f.code = 2 → leNat (f.payload.take 2) = 0 → leNat ((f.payload.drop 2).take 2) = 1 →
      leNat ((f.payload.drop 4).take 4) ≤ 504 → (rxAt s p f.srcId f.dstId 2).frag = 0 →
      ∃ t : State, exec (.record p w sigOk) s = .next t ∧ t.ctxs = s.ctxs ∧ t.fab.table = s.fab.table ∧
        (rxAt t p f.srcId f.dstId 2).expected = f.seq + 1)

/-- Fabric ports, keys and membership: PortLink, FabricKeys, MembershipRecords, as said at each. -/
def Obligations.FabricPorts : Prop :=
  Sys2Proof.Claims.PortLink ∧ Sys2Proof.Claims.FabricKeys ∧ Sys2Proof.Claims.MembershipRecords

/-- A GLOBAL request at a port engine: with a keyed entry whose plane has the port it waits to be merged, and leaves as one
fabric WRITE under the pair's key when the merge window ends; with one not keyed it waits for its keys; through another plane it
goes on over the bulk mesh and is counted; for an endpoint of the module it is served inside, or turned away by the row of R292
that applies; without an entry, without a plane, of a fenced or closing context or after 50 ms without keys it is answered with
poison and its event (R280, R281, R283, R286, R290, R296). -/
def Sys2Proof.Claims.FabricRequests : Prop :=
  ∀ (s : State) (p i j : Nat) (q : Pkt) (rest : List Pkt), p < 24 → q.kind = 1 → q.ctx < 16 →
    let x := portAt s p
    let e := entAt s i
    let c := ctxAt s q.ctx
    let ep := bits q.addr 63 44
    let k := attachCore p
    let came := x.inQ = q :: rest ∧ c.fenced = false ∧ closingCtx c = false
    let comes := came ∧ ctxOfEp s ep = none
    let onward := maskOf ((bitList 24 (planeAt s p i)).filter (fun k => bitAt c.portSet k))
    let tx := txAt s p q.ctx i 0
    let counted (t : State) : Prop := (ctxAt t q.ctx).fabOut = c.fabOut + 1
    let refused (t : State) (code : Nat) : Prop :=
      ∃ r : Pkt, (coreAt t k).inj = (coreAt s k).inj ++ [r] ∧ r.kind = 3 ∧ r.dst = q.srcCore ∧ r.reqId = q.reqId ∧
        r.poison = true ∧ r.refused = code
    let refuses (code : Nat) : Prop :=
      ∃ t : State, exec (.fabricRequest p) s = .next t ∧ portAt t p = { x with inQ := rest } ∧ refused t code
    (comes → entFor s q.ctx ep = some i → bitAt (planeAt s p i) p = true → e.keyed = true → x.merge = [] → q.len < 512 →
      ∃ t : State, exec (.fabricRequest p) s = .next t ∧ portAt t p = { x with inQ := rest, merge := [q] } ∧ counted t ∧
        t.cores = s.cores ∧ t.out = s.out) ∧
    (comes → entFor s q.ctx ep = some i → bitAt (planeAt s p i) p = true → e.keyed = false →
      ∃ t : State, exec (.fabricRequest p) s = .next t ∧ portAt t p = { x with inQ := rest, keyWait := x.keyWait ++ [q] } ∧ counted t ∧
        t.cores = s.cores ∧ t.out = s.out) ∧
    (comes → entFor s q.ctx ep = some i → bitAt (planeAt s p i) p = false →
      choosePort e.peer (bits q.addr 43 0) onward = some j →
      ∃ t : State, exec (.fabricRequest p) s = .next t ∧ portAt t p = { x with inQ := rest, ctr := bump x.ctr 10 1 } ∧
        (coreAt t k).inj = (coreAt s k).inj ++ [{ q with vc := 0, dtype := 3, dst := j, unit := none }] ∧
        (ctxAt t q.ctx).fabOut = c.fabOut ∧ t.out = s.out) ∧
    (comes → entFor s q.ctx ep = some i → bitAt (planeAt s p i) p = false →
      choosePort e.peer (bits q.addr 43 0) onward = none → refuses evFabUnreachable) ∧
    (comes → entFor s q.ctx ep = none → refuses evFabNoEntry) ∧
    (x.inQ = q :: rest → c.fenced = true → refuses evFabFenced) ∧
    (x.inQ = q :: rest → c.fenced = false → closingCtx c = true → refuses evFabPeerGone) ∧
    (∀ m r, came → ctxOfEp s ep = some m → epOf c ≠ 0 → ownRow s q.ctx m = some r →
      ∃ t : State, exec (.fabricRequest p) s = .next t ∧ portAt t p = { x with inQ := rest, ctr := bump x.ctr r 1 } ∧
        refused t (if r = 18 then evFabPeerGone else evFabUnreachable)) ∧
    (∀ m, came → ctxOfEp s ep = some m → epOf c ≠ 0 → ownRow s q.ctx m = none →
      refusesOp s m 1 (bits q.addr 43 0) q.len ((sumAnchors q.data).headD 0) q.data = false →
      ∃ (t : State) (l : List Pkt), exec (.fabricRequest p) s = .next t ∧ counted t ∧ t.out = s.out ∧
        (coreAt t k).inj = (coreAt s k).inj ++ l ∧ l.length = ceilDiv q.len 64 ∧ ∀ g ∈ l, g.kind = 1 ∧ g.ctx = m) ∧
    (x.keyWait = q :: rest →
      ∃ t : State, exec (.keyWaitTimeout p) s = .next t ∧ portAt t p = { x with keyWait := rest } ∧ refused t evFabUnreachable) ∧
    (x.merge = [] → exec (.fabMergeTimeout p) s = .next s) ∧
    (x.merge = [q] → entFor s q.ctx ep = some i → e.keyed = true → c.fenced = false → q.data.length = 64 →
      tx.unacked = [] → tx.sent = 0 → tx.hold = 0 → 1 ≤ tx.window → linkRoom s p 0 1 = true →
      ∃ (t : State) (g : FabPkt), exec (.fabMergeTimeout p) s = .next t ∧ (portAt t p).merge = [] ∧ t.out = s.out ++ [.fabric p g] ∧ g.type = 1 ∧
        g.addr = q.addr ∧ g.payload = q.data ∧ g.lines = 1 ∧ g.dstId = e.peer ∧ g.srcId = epOf c ∧ g.srcPort = p ∧
        g.srcGen = (if closingCtx c then oldGen c else c.gen) ∧ g.dstGen = e.peerGen ∧ g.epoch = c.fabEpoch ∧ g.seq = tx.next ∧
        g.nctr = tabGet (keyAt s p i).nctr 0 0 ∧ g.kph = (pairKey s i).txPhase ∧ g.clear = false ∧
        g.tag = Config.gcmTag e.keyIndex g.kph (nonceOf g) (aadOf g) q.data ∧
        (txAt t p q.ctx i 0).next = tx.next + 1 ∧ t.cores = s.cores)

/-- Operations at their target: an accepted WRITE, READ or SUM_INTO whose every line has a target becomes one bulk request per
64-byte line at the port's attach router, and its stream expects the next SEQ; a READ is acknowledged at once; an operation
that the target refuses makes no access and is counted in FAB_REFUSED; a WRITE or SUM_INTO is acknowledged with POISON, a READ is
answered on its own stream (R279, R285, R287, R292). -/
def Sys2Proof.Claims.FabricOperations : Prop :=
  ∀ (s : State) (p n i : Nat) (w : WirePkt) (f : FabPkt) (c : Nat × Instr), Arrives s p w f →
    c ∈ [(1, Instr.fabWrite p w), (2, .fabRead p w), (3, .fabSumInto p w)] → f.type = c.1 → FabNext s p f n i →
    let a := bits f.addr 43 0
    let len := if f.type = 2 then f.length else 64 * f.lines
    let k := attachCore p
    (refusesOp s n f.type a len f.anchor f.payload = false →
      ∃ (t : State) (l : List Pkt), exec c.2 s = .next t ∧ (coreAt t k).inj = (coreAt s k).inj ++ l ∧ l.length = len / 64 ∧
        (∀ (j : Nat) (q : Pkt), l[j]? = some q → q.kind = (if f.type = 2 then 0 else if f.type = 3 then 8 else 1) ∧ q.len = 64 ∧ q.ctx = n ∧
          q.reqUnit = 16 + p ∧ targetOf s n (a + 64 * j) = some (q.dtype, q.dst, q.addr) ∧
          (f.type ≠ 2 → q.data = (f.payload.drop (64 * j)).take 64 ∧ q.poison = f.poison)) ∧
        (rxAt t p f.srcId f.dstId 0).expected = f.seq + 1 ∧ (∀ m, m ≠ k → coreAt t m = coreAt s m) ∧ t.hbms = s.hbms ∧
        (f.type ≠ 2 → t.out = s.out) ∧
        (f.type = 2 → AnswersNow s p n →
          ∃ g : FabPkt, t.out = s.out ++ [.fabric p g] ∧ g.type = 5 ∧ g.code = 0 ∧ g.addr = f.seq ∧ g.poison = false)) ∧
    (refusesOp s n f.type a len f.anchor f.payload = true →
      ∃ t : State, exec c.2 s = .next t ∧ t.cores = s.cores ∧ t.hbms = s.hbms ∧
        tabGet (portAt t p).ctr 19 0 = (tabGet (portAt s p).ctr 19 0 + 1) % 2 ^ 64 ∧
        (rxAt t p f.srcId f.dstId 0).expected = f.seq + 1 ∧
        (f.type = 2 → (txAt t p n i 1).next = (txAt s p n i 1).next + 1) ∧
        (f.type ≠ 2 → AnswersNow s p n →
          ∃ g : FabPkt, t.out = s.out ++ [.fabric p g] ∧ g.type = 5 ∧ g.addr = f.seq ∧ g.poison = true))

/-- Answers and timers at the sender: an ACK releases the packets up to its SEQ and completes the WRITE behind them; a NACK GAP
and a timeout send the stream again with its SEQ and payload unchanged; a NACK of an epoch makes the stream wait for the record or
for 2 µs, and then resend from the SEQ given; CTX_GONE completes its requests with poison; the eighth timeout in a row fails the
stream and takes its plane bit away: a WRITE is issued again, a SUM_INTO completes with poison and FAB_SUM_LOST; the window grows
by 8 up to 256; a READ_DATA answers the bulk read behind its tag (R286 to R288, R290, R292, R295, R299). -/
def Sys2Proof.Claims.FabricAnswers : Prop :=
  ∀ (s : State) (p n i : Nat) (w : WirePkt) (f g : FabPkt) (q : Pkt) (tx : TxStream), p < 24 →
    let k := attachCore p
    let again (t : State) : Prop := ∃ h : FabPkt, t.out = s.out ++ [.fabric p h] ∧ h.type = g.type ∧ h.seq = g.seq ∧ h.addr = g.addr ∧
      h.payload = g.payload ∧ h.nctr = tabGet (keyAt s p i).nctr 0 0
    let one := tx.ctx = n ∧ tx.entry = i ∧ tx.cls = 0 ∧ tx.unacked = [g] ∧ tx.sent = 1 ∧ tx.reqs = [(g.reqTag, [q])] ∧
      (portAt s p).tx = [tx] ∧ q.kind = (if g.type = 3 then 8 else 1) ∧ q.ctx = n ∧ classOf g.type = 0
    let flows := (ctxAt s n).fenced = false ∧ (entAt s i).keyed = true ∧ 1 ≤ tx.window ∧ linkRoom s p 0 g.lines = true
    let nacks := Arrives s p w f ∧ FabCtrl s { f with epoch := (ctxAt s n).fabEpoch } n i ∧ f.type = 6
    let poisoned (t : State) (code : Nat) : Prop := ∃ r : Pkt, (coreAt t k).inj = (coreAt s k).inj ++ [r] ∧ r.poison = true ∧
      r.refused = code ∧ r.dst = q.srcCore ∧ r.reqId = q.reqId
    (one → Arrives s p w f → FabCtrl s f n i → f.type = 5 → f.code = 0 → g.seq ≤ f.addr → f.poison = false → f.echo = 0 → g.type = 1 →
      ∃ (t : State) (r : Pkt), exec (.ack p w) s = .next t ∧ (txAt t p n i 0).unacked = [] ∧ (txAt t p n i 0).sent = 0 ∧
        (txAt t p n i 0).reqs = [] ∧ (coreAt t k).inj = (coreAt s k).inj ++ [r] ∧ r.kind = 3 ∧ r.dst = q.srcCore ∧
        r.reqId = q.reqId ∧ r.poison = false ∧ (ctxAt t n).fabOut = (ctxAt s n).fabOut - 1 ∧ t.out = s.out) ∧
    (one → flows → nacks → f.epoch = (ctxAt s n).fabEpoch → f.code = 4 →
      ∃ t : State, exec (.nack p w) s = .next t ∧ again t ∧ t.cores = s.cores) ∧
    (one → flows → nacks → f.epoch = (ctxAt s n).fabEpoch → f.code = 8 → f.addr ≤ g.seq →
      ∃ t : State, exec (.nack p w) s = .next t ∧ again t ∧ t.cores = s.cores) ∧
    (one → nacks → f.epoch ≠ (ctxAt s n).fabEpoch → f.code = 8 →
      ∃ t : State, exec (.nack p w) s = .next t ∧ txAt t p n i 0 = { tx with hold := 1, resume := f.addr } ∧ t.out = s.out ∧
        t.cores = s.cores) ∧
    (one → nacks → f.code = 12 →
      ∃ t : State, exec (.nack p w) s = .next t ∧ txAt t p n i 0 = { tx with hold := 2, resume := f.addr } ∧ t.cores = s.cores) ∧
    (one → nacks → f.epoch = (ctxAt s n).fabEpoch → f.code = 16 →
      ∃ t : State, exec (.nack p w) s = .next t ∧ (txAt t p n i 0).unacked = [] ∧ (txAt t p n i 0).reqs = [] ∧
        poisoned t evFabPeerGone ∧ t.out = s.out) ∧
    (one → flows → tx.timeouts < 7 →
      ∃ t : State, exec (.resendTimeout p 0) s = .next t ∧ again t ∧ (txAt t p n i 0).timeouts = tx.timeouts + 1 ∧ t.cores = s.cores) ∧
    (one → tx.timeouts = 7 → g.type = 3 →
      ∃ t : State, exec (.resendTimeout p 0) s = .next t ∧ t.out = s.out ∧ bitAt (planeAt t p i) p = false ∧
        (txAt t p n i 0).next = 0 ∧ poisoned t evFabSumLost) ∧
    (one → tx.timeouts = 7 → g.type = 1 →
      ∃ t : State, exec (.resendTimeout p 0) s = .next t ∧ t.out = s.out ∧ bitAt (planeAt t p i) p = false ∧
        (txAt t p n i 0).next = 0 ∧ (portAt t p).inQ = (portAt s p).inQ ++ [q] ∧ t.cores = s.cores) ∧
    (one → flows → tx.hold = 2 → tx.resume ≤ g.seq →
      ∃ t : State, exec (.epochAheadResend p 0) s = .next t ∧ again t ∧ (txAt t p n i 0).hold = 0) ∧
    (one → exec (.fabWinTick p 0) s = .next (putTx s p { tx with window := min 256 (tx.window + 8) })) ∧
    ((portAt s p).tx = [{ tx with ctx := n, entry := i, cls := 0, unacked := [], sent := 0, reqs := [(f.reqTag, [q])] }] →
      q.kind = 0 → q.ctx = n → q.len = 64 → Arrives s p w f → FabNext s p f n i → f.type = 4 → f.lines = 1 → f.poison = false →
      f.echo = 0 →
      ∃ (t : State) (r : Pkt), exec (.readData p w) s = .next t ∧ (coreAt t k).inj = (coreAt s k).inj ++ [r] ∧ r.kind = 2 ∧ r.dst = q.srcCore ∧
        r.reqId = q.reqId ∧ r.data = f.payload ∧ r.poison = false ∧ (txAt t p n i 0).reqs = []) ∧
    ((portAt s p).rx = [{ src := f.srcId, dst := f.dstId, cls := 0, expected := f.seq + 1, wait := [],
                          ackDue := some f.seq, echo := 0, frag := 0, buf := [] }] → (portAt s p).tx = [] →
      ctxOfEp s f.dstId = some n → entFor s n f.srcId = some i → (entAt s i).valid = true → AnswersNow s p n →
      ∃ (t : State) (h : FabPkt), exec (.ackTimer p) s = .next t ∧ t.out = s.out ++ [.fabric p h] ∧ h.type = 5 ∧ h.code = 0 ∧ h.addr = f.seq ∧
        (rxAt t p f.srcId f.dstId 0).ackDue = none ∧ t.cores = s.cores)

/-- Messages of one fragment between contexts: CTX_CLOSE is acknowledged and its entry is no longer KEYED; an acknowledgement
is no longer owed; PART_INFO sets the peer's generation and is kept; PART_INFO_REQ is answered; a digest exchange is kept for
its partner; the exchange goes to every partner, and where the context has no weight package nothing is sent
(R291, R298, R406). -/
def Sys2Proof.Claims.FabricMessages : Prop :=
  ∀ (s : State) (p n i : Nat) (w : WirePkt) (f : FabPkt), p < 24 → n < 16 →
    (txAt s p n i 2).unacked = [] → (txAt s p n i 2).sent = 0 → (txAt s p n i 2).hold = 0 → 1 ≤ (txAt s p n i 2).window →
    linkRoom s p 2 8 = true →
    let came := Arrives s p w f ∧ f.type = 9 ∧ FabNext s p f n i ∧ leNat (f.payload.take 2) = 0 ∧
      leNat ((f.payload.drop 2).take 2) = 1 ∧ (rxAt s p f.srcId f.dstId 2).frag = 0 ∧ leNat ((f.payload.drop 4).take 4) ≤ 504
    let msg := ((f.payload.drop 8).take 504).take (leNat ((f.payload.drop 4).take 4))
    let x := ctxAt s n
    let e := entAt s i
    let sends (t : State) (code : Nat) : Prop := ∃ g, (.fabric p g) ∈ t.out.drop s.out.length ∧ g.type = 9 ∧ g.code = code ∧
      g.dstId = e.peer
    (came → f.code = 3 → bits (leNat msg) 19 0 = e.peer →
      ∃ t : State, exec (.ctxClose p w) s = .next t ∧ entAt t i = { e with keyed := false } ∧ sends t 4) ∧
    (came → f.code = 4 → ∃ t : State, exec (.ctxCloseAck p w) s = .next t ∧ (ctxAt t n).closesOwed = x.closesOwed.filter (· != i) ∧
      t.fab.table = s.fab.table) ∧
    (came → f.code = 5 → ∃ t : State, exec (.partInfo p w) s = .next t ∧ entAt t i = { e with peerGen := leNat (msg.take 1) } ∧
      partInfoOf t i = some (leNat (msg.take 1), leNat ((msg.drop 1).take 1), leNat ((msg.drop 8).take 8),
        leNat ((msg.drop 16).take 32))) ∧
    (came → f.code = 6 → ∃ t : State, exec (.partInfoReq p w) s = .next t ∧ sends t 5 ∧ t.fab.table = s.fab.table) ∧
    (came → f.code = 7 → isPartner s n i = true →
      ∃ t : State, exec (.digestXchg p w) s = .next t ∧ t.fab.xchg =
        s.fab.xchg.filter (fun z => !(z.1 == n && z.2.1 == e.peer)) ++ (xchgEntries msg).map (fun z => (n, e.peer, z.1, z.2.1))) ∧
    (came → f.code = 7 → isPartner s n i = false → ∃ t : State, exec (.digestXchg p w) s = .next t ∧ t.fab.xchg = s.fab.xchg) ∧
    (x.wpkg = none → exec (.digestExchangeSend n) s = .next s) ∧
    (∀ g, x.wpkg = some g → isPartner s n i = true → entsOf s n = [i] → mgmtPort s n i = some p →
      ∃ t : State, exec (.digestExchangeSend n) s = .next t ∧ sends t 7)

/-- Fabric requests, operations, answers and messages: FabricRequests, FabricOperations, FabricAnswers, FabricMessages, as said
at each. -/
def Obligations.FabricExchange : Prop :=
  Sys2Proof.Claims.FabricRequests ∧ Sys2Proof.Claims.FabricOperations ∧ Sys2Proof.Claims.FabricAnswers ∧ Sys2Proof.Claims.FabricMessages

/-- Receive checks of a packet of any type but MGMT: none comes over a link that is not up; one of a reserved TYPE or CODE fails
row 1; the first row that applies decides; a packet that rows 1 to 7 or a duplicate's or a gap's row turns away has none of its
effects, it is counted, and it is answered only where its row says so (R276, R287, R291, R292, R295). -/
def Sys2Proof.Claims.ReceiveChecks : Prop :=
  ∀ (s : State) (p n i : Nat) (w : WirePkt) (f : FabPkt) (c : Nat × Instr), p < 24 → readHead w = f →
    c ∈ [(1, Instr.fabWrite p w), (2, .fabRead p w), (3, .fabSumInto p w), (4, .readData p w), (5, .ack p w), (6, .nack p w),
         (7, .fabArrive p w), (8, .fabRelease p w)] →
    let cls := classOf f.type
    let x := ctxAt s n
    let e := entAt s i
    let k := pairKey s i
    let counted (j : Nat) : Prop := exec c.2 s = .next (bumpPort (linkRx s p f.lines) p j 1)
    let row1 := (portAt s p).up = true ∧ f.type = c.1
    let row2 := row1 ∧ hdrOk f = true
    let row3 := row2 ∧ ctxOfEp s f.dstId = some n ∧ x.quarantined = false ∧ entFor s n f.srcId = some i
    let row5 := row3 ∧ e.keyed = true ∧ f.clear = false ∧ f.authOk = true ∧ (f.kph = k.rxPhase ∨ k.oldHeld = true) ∧
      (cls = 3 → k.ctrlRx ≤ f.seq)
    let older := 32768 ≤ (f.epoch + 65536 - x.fabEpoch) % 65536
    let newer := 1 ≤ (f.epoch + 65536 - x.fabEpoch) % 65536 ∧ (f.epoch + 65536 - x.fabEpoch) % 65536 < 32768
    let row6 := row5 ∧ epochNack f = false
    let row7 := row5 ∧ f.epoch = x.fabEpoch ∧ e.member = true
    let answers := e.valid = true ∧ AnswersNow s p n
    let r := rxAt s p f.srcId f.dstId cls
    ((portAt s p).up = false → exec c.2 s = .next s) ∧
    ((portAt s p).up = true → f.type = 0 ∨ 9 < f.type ∨ (f.type = 9 ∧ (f.code = 0 ∨ 7 < f.code)) → counted 11) ∧
    (row1 → hdrOk f = false → counted 11) ∧
    (row2 → ctxOfEp s f.dstId = none → counted 12) ∧
    (row2 → ctxOfEp s f.dstId = some n → x.quarantined = true → counted 12) ∧
    (row2 → ctxOfEp s f.dstId = some n → x.quarantined = false → entFor s n f.srcId = none → (entAt s 4096).keyed = false →
      counted 13) ∧
    (row3 → e.keyed = false → counted 13) ∧
    (row3 → e.keyed = true → f.clear = true ∨ f.authOk = false ∨ (f.kph ≠ k.rxPhase ∧ k.oldHeld = false) → counted 14) ∧
    (row3 → e.keyed = true → f.clear = false → f.authOk = true → (f.kph = k.rxPhase ∨ k.oldHeld = true) →
      cls = 3 → f.seq < k.ctrlRx → counted 15) ∧
    (row6 → f.epoch = x.fabEpoch → e.member = false → counted 16) ∧
    (row6 → newer → answers → ∃ (t : State) (a : FabPkt), exec c.2 s = .next t ∧ t.out = s.out ++ [.fabric p a] ∧ a.type = 6 ∧
      a.code = cls + 12 ∧ a.addr = f.seq ∧ tabGet (portAt t p).ctr 17 0 = (tabGet (portAt s p).ctr 17 0 + 1) % 2 ^ 64 ∧
      t.cores = s.cores) ∧
    (row6 → older → e.member = true → answers → ∃ (t : State) (a : FabPkt) (l : List Output), exec c.2 s = .next t ∧
      t.out = s.out ++ .fabric p a :: l ∧ a.type = 6 ∧ a.code = cls + 8 ∧
      tabGet (portAt t p).ctr 17 0 = (tabGet (portAt s p).ctr 17 0 + 1) % 2 ^ 64 ∧ t.cores = s.cores) ∧
    (row7 → f.srcGen ≠ e.peerGen → counted 18) ∧
    (row7 → f.srcGen = e.peerGen → dstGenOk x f = false → answers →
      ∃ (t : State) (a : FabPkt), exec c.2 s = .next t ∧ t.out = s.out ++ [.fabric p a] ∧ a.type = 6 ∧ a.code = cls + 16 ∧ t.cores = s.cores) ∧
    (row1 → FabPasses s f n i → cls ≠ 3 → r.expected < f.seq → AnswersNow s p n →
      ∃ (t : State) (a : FabPkt), exec c.2 s = .next t ∧ t.out = s.out ++ [.fabric p a] ∧ a.type = 6 ∧ a.code = cls + 4 ∧ a.addr = r.expected ∧
        tabGet (portAt t p).ctr 9 0 = (tabGet (portAt s p).ctr 9 0 + 1) % 2 ^ 64 ∧ rxAt t p f.srcId f.dstId cls = r ∧
        t.cores = s.cores) ∧
    (row1 → FabPasses s f n i → cls ≠ 3 → f.seq < r.expected → r.wait = [] → AnswersNow s p n →
      ∃ (t : State) (a : FabPkt), exec c.2 s = .next t ∧ t.out = s.out ++ [.fabric p a] ∧ a.type = 5 ∧ a.code = cls ∧ a.addr = r.expected - 1 ∧
        tabGet (portAt t p).ctr 8 0 = (tabGet (portAt s p).ctr 8 0 + 1) % 2 ^ 64 ∧ t.cores = s.cores)

/-- Receive checks of the fabric: ReceiveChecks, as said at each. -/
def Obligations.FabricReceive : Prop :=
  Sys2Proof.Claims.ReceiveChecks

/-- Replica-scope barriers over the fabric: at the home an arrival is counted once for each participant, source endpoint and
phase, and acknowledged; on another part the RELEASE of the phase in hand moves the object to its next phase (R300). -/
def Obligations.FabricBarriers : Prop :=
  ∀ (s : State) (p n i b : Nat) (wire : WirePkt) (f : FabPkt) (w : SyncPkt) (o : SyncObj), Arrives s p wire f → b < 16 →
    FabNext s p f n i → rxSync s n f = some (b, w) → objAt s b w.obj = some o → o.replica = true → o.isToken = false →
    (f.type = 7 → isHome (ctxAt s n) = true → w.val = o.phase → o.cur = [] → 1 < o.participants →
      ∃ t : State, exec (.fabArrive p wire) s = .next t ∧
        objAt t b w.obj = some { o with cur := [(f.srcId, w.slot, w.tslot)], lastTick := s.sup.ticks } ∧ t.cores = s.cores ∧
        (AnswersNow s p n → ∃ h, t.out = s.out ++ [.fabric p h] ∧ h.type = 5 ∧ h.addr = f.seq)) ∧
    (f.type = 7 → isHome (ctxAt s n) = true → w.val = o.phase → o.cur = [(f.srcId, w.slot, w.tslot)] → 1 < o.participants →
      ∃ t : State, exec (.fabArrive p wire) s = .next t ∧ objAt t b w.obj = some o) ∧
    (f.type = 8 → isHome (ctxAt s n) = false → w.val = o.phase →
      ∃ t : State, exec (.fabRelease p wire) s = .next t ∧ ((objAt t b w.obj).map (·.phase)) = some ((o.phase + 1) % 65536) ∧ t.cores = s.cores)

/-- A STEP_SYNC pulse sets the latch of exactly the contexts whose source is the input and whose layout admits microbatches,
and changes nothing else of any context; the host command sets it where the source is the command, and completes OK either
way (R309, R331). -/
def Sys2Proof.Claims.StepPulses : Prop :=
  ∀ (s : State),
    (∃ t : State, exec .stepSyncPulse s = .next t ∧ t.cores = s.cores ∧ t.basins = s.basins ∧
      ∀ n, n < 16 → ctxAt t n =
        { ctxAt s n with latch := (ctxAt s n).latch || (admits s n && decide (stepSrc (ctxAt s n) = 0)) }) ∧
    (∀ n h, TakesCmd s n 9 h →
      ∃ t : State, exec (.stepSync n) s = .next t ∧ Answered s t n h 0 0 0 ∧
        (ctxAt t n).latch = ((ctxAt s n).latch || (admits s n && decide (stepSrc (ctxAt s n) = 1))))

/-- The decision before an admission, for a step of c microbatches, p = max(1, STEP_MB - 8) and no boundary pending: the next
microbatch opens a new step exactly where a pulse ends it early, where a held step meets a pulse, at the programmed position
without HOLD, and at STEP_MB + 8; the latch is read and cleared, and one counter counts what happened (R304, R305, R310).
Said of a context whose boundary, where one falls, has no staged action, no placement change and nothing that it waits for. -/
def Sys2Proof.Claims.StepPositions : Prop :=
  ∀ (s : State) (n : Nat) (up : Bool) (l : Layout), n < 16 →
    let x := ctxAt s n
    x.layout = some l → mayAdmit s n l = true → mbDue s n up = true → x.boundary = none → x.forced = false → x.nextMb ≠ 0 →
    x.staged = [] → dueCloses x = [] → changesOf s n = [] → s.mesh.gaps0 = s.mesh.gaps1 → l.slots ≤ goodOf s n →
    boundaryWaits s n (nextStep x) = false →
    let c := x.inStep
    let p := max 1 (l.stepMb - 8)
    let adv := bitAt x.stepCfg 0
    let hold := bitAt x.stepCfg 1
    let early := x.latch = true ∧ p ≤ c ∧ c < l.stepMb ∧ adv = true
    let held := x.latch = true ∧ l.stepMb ≤ c ∧ hold = true
    let ignored := x.latch = true ∧ ¬ early ∧ ¬ held
    let late := ¬ early ∧ ¬ held ∧ ¬ (c = l.stepMb ∧ hold = false) ∧ c = l.stepMb + 8
    let opens := early ∨ held ∨ (¬ early ∧ ¬ held ∧ ((c = l.stepMb ∧ hold = false) ∨ c = l.stepMb + 8))
    ∃ t : State, exec (.microbatchAdmit n up) s = .next t ∧
      let y := ctxAt t n
      y.nextMb = x.nextMb + 1 ∧ y.latch = false ∧ y.mbNum = (x.mbNum + 1) % 2 ^ 64 ∧ y.boundary = none ∧
      (opens → y.stepNum = x.stepNum + 1 ∧ y.inStep = 1) ∧ (¬ opens → y.stepNum = x.stepNum ∧ y.inStep = c + 1) ∧
      y.advanced = (if early then (x.advanced + 1) % 2 ^ 64 else x.advanced) ∧
      y.heldCnt = (if held then (x.heldCnt + 1) % 2 ^ 64 else x.heldCnt) ∧
      y.ignored = (if ignored then (x.ignored + 1) % 2 ^ 64 else x.ignored) ∧
      y.miss = (if late then (x.miss + 1) % 2 ^ 64 else x.miss)

/-- STEP_SYNC and where a step begins: StepPulses, StepPositions, as said at each. -/
def Obligations.StepBoundaries : Prop :=
  Sys2Proof.Claims.StepPulses ∧ Sys2Proof.Claims.StepPositions

/-- No microbatch is admitted without a layout, nor while the context is fenced, held, stopped or being reset, nor before its
buffer is free; a boundary decided waits while a basin of the layout has a standing wedge, and while the step two before the
one it opens has not closed (R296, R306, R308, R336). -/
def Sys2Proof.Claims.AdmissionWaits : Prop :=
  ∀ (s : State) (n : Nat) (up : Bool), n < 16 →
    let x := ctxAt s n
    (x.layout = none → exec (.microbatchAdmit n up) s = .next s) ∧
    (∀ l, x.layout = some l →
      ((x.fenced = true ∨ x.st ≠ .active ∨ resetPending s n = true ∨ l.held = true ∨ l.stopped = true ∨ bufferFree x = false) →
        exec (.microbatchAdmit n up) s = .next s) ∧
      (∀ cause t0 b, x.boundary = some (cause, t0) → b ∈ grantOf s n → (basinAt s b).wedge = true →
        exec (.microbatchAdmit n up) s = .next s) ∧
      (∀ cause t0, x.boundary = some (cause, t0) → x.nextMb ≠ 0 → 1 ≤ x.stepNum →
        (x.closed = none ∨ ∃ k, x.closed = some k ∧ k + 1 < x.stepNum) → exec (.microbatchAdmit n up) s = .next s))

/-- A microbatch that every station has run completes: its request's outputs leave the module, its record carries the
microbatch, its position and tokens, and it is POISONED exactly where an output byte was read with poison; one that some
station has not run stays (R338). -/
def Sys2Proof.Claims.MicrobatchDone : Prop :=
  ∀ (s : State) (n : Nat) (l : Layout) (m : Mb) (r : Req), n < 16 →
    let x := ctxAt s n
    x.layout = some l → x.st = .active → x.mbs = [m] → m.admitted = true → m.complete = false →
    (mbRan s n l m.num = true → m.reqs = [r] → r.aborted = none → x.drops = [] →
      ∃ t : State, exec (.microbatchComplete n) s = .next t ∧ (ctxAt t n).mbs = [{ m with complete := true, reqs := [] }] ∧
        let o := reqOutput s n l m.num r
        let st := if o.2 then 6 else 0
        t.out = s.out ++ [.outputs n r.outAddr st o.1] ∧
        (ctxAt t n).comps = x.comps ++ [comp r.tag r.ring st m.num (r.pos % 65536 + r.tokens % 65536 * 65536) r.noIrq] ∧
        t.hbms = s.hbms ∧ t.cores = s.cores) ∧
    (mbRan s n l m.num = false → exec (.microbatchComplete n) s = .next s)

/-- A step closes once the boundary behind it has opened and every firing of it has completed: its number becomes the last
closed one, the scale state of the step after next keeps its value where SCALE_MODE is FROZEN, the watch records of a void step
say so, and the bank of the step's parity holds the state on every core; before that nothing changes (R86, R87, R89, R90, R92). -/
def Sys2Proof.Claims.StepCloses : Prop :=
  ∀ (s : State) (n k : Nat) (l : Layout), n < 16 →
    let x := ctxAt s n
    x.layout = some l → stopped s n = false → k = (match x.closed with | none => 0 | some c => c + 1) →
    (k < x.stepNum → stepRan s n l k = true →
      ∃ t : State, exec (.scaleClose n) s = .next t ∧ (ctxAt t n).closed = some k ∧ (ctxAt t n).stepNum = x.stepNum ∧
        (l.mode = 0 → (ctxAt t n).scaleNext = x.scaleNext ∧
          ∀ w ∈ (ctxAt t n).watch, w.step = k → w.void = x.voids.contains k) ∧ (ctxAt t n).scale = x.scale ∧
        (∀ j y, j ∈ stationCores s n → (coreAt s j).station = some y →
          (coreAt t j).scaleTab = (withBank (coreAt s j) (k % 2) (ctxAt t n).scaleNext).scaleTab ∧
          (coreAt t j).mem = (coreAt s j).mem) ∧ t.hbms = s.hbms) ∧
    ((x.stepNum ≤ k ∨ stepRan s n l k = false) → exec (.scaleClose n) s = .next s)

/-- Microbatches admitted and done, and steps closed: AdmissionWaits, MicrobatchDone, StepCloses, as said at each. -/
def Obligations.Microbatches : Prop :=
  Sys2Proof.Claims.AdmissionWaits ∧ Sys2Proof.Claims.MicrobatchDone ∧ Sys2Proof.Claims.StepCloses

/-- The scale that R89 computes for a tracked tensor with one observation e in its window and no saturation: e + 1 - top +
HEADROOM, held within -128 to 127 (R89). -/
def Sys2Proof.Claims.TrackedScale : Prop :=
  ∀ (x : Ctx) (l : Layout) (n ent : Nat) (e : Int),
    let t := ent % 4096
    x.amaxHist = [(n, t, e)] → windowSteps x l n = [n] → (∀ w ∈ x.watch, w.step = n → w.tensor = t → w.satNarrow = 0) →
    (nextScale x l n ent).1 = max (-128) (min 127 (e + 1 - topExp (bits ent 26 24) + l.headroom)) ∧
    ((nextScale x l n ent).2 = true ↔
      e + 1 - topExp (bits ent 26 24) + l.headroom < -128 ∨ 127 < e + 1 - topExp (bits ent 26 24) + l.headroom)

/-- Drains: a section swap that is due begins the drain of its basin and of no other; a drain that is complete ends, for an
unload with no layout left, each basin's generation advanced by one modulo 16 and OK; one past its limit raises DRAIN_TIMEOUT
and its basins are to be reset; one that is neither stays (R207 to R209, R213, R419). -/
def Sys2Proof.Claims.Drains : Prop :=
  ∀ (s : State) (b n : Nat) (l : Layout) (d : DrainJob), b < 16 → n < 16 →
    ((basinAt s b).ctx = some n → (ctxAt s n).layout = some l → swapDue s n b l = true → (ctxAt s n).boundary = none →
      s.mesh.drains = [] → s.mesh.staged = [] → s.mesh.moves = [] →
      ∃ t : State, ∃ e, exec (.sectionSwap b false) s = .next t ∧ t.mesh.drains = [e] ∧ e.ctx = n ∧ e.basins = [b] ∧ e.why = .swap ∧
        e.cut = cutOf s (coresIn s [b]) ∧ e.limit = drainTicks s [b] ∧ e.start = s.sup.ticks ∧
        (∀ k ∈ coresIn s [b], (coreAt t k).stopAt = some e.cut)) ∧
    ((basinAt s b).ctx = none → exec (.sectionSwap b false) s = .next s) ∧
    (s.mesh.drains = [d] → drained s d = true → d.why = .unload → d.ctx = n → (ctxAt s n).st = .active →
      ∃ t : State, exec .drainComplete s = .next t ∧ t.mesh.drains = [] ∧ (ctxAt t n).layout = none ∧ (ctxAt t n).mbs = [] ∧
        (∀ c ∈ grantOf s n, (basinAt t c).gen = ((basinAt s c).gen + 1) % 16 ∧ (basinAt t c).objs = []) ∧
        comp d.tag d.ring 0 0 0 d.noIrq ∈ (ctxAt t n).comps) ∧
    (s.mesh.drains = [d] → drained s d = true → d.why = .layoutFault → exec .drainComplete s = .next (dropDrain s d)) ∧
    (s.mesh.drains = [d] → drained s d = false → exec .drainComplete s = .next s) ∧
    (s.mesh.drains = [d] → drained s d = false → d.limit ≤ s.sup.ticks - d.start → d.why = .swap → s.rst.cur = none →
      ∃ t : State, ∃ r, exec .drainTimeout s = .next t ∧ t.mesh.drains = [] ∧ t.rst.cur = some r ∧ r.ctx = d.ctx ∧
        r.set = sortNat d.basins ∧ r.trigger = evDrainTimeout ∧ r.stage = .waiting ∧ r.dumpNo = s.rst.dumpNo + 1) ∧
    (s.mesh.drains = [d] → s.sup.ticks - d.start < d.limit → exec .drainTimeout s = .next s)

/-- The copy of a station moved for a test: while the old bank stands or a flip is under way it waits; then the new core has the
old one's carried state (its CARRY pages, index registers, channels and firing number) and the move has ended, and state that
cannot be read sends the basin to a reset (R153, R155, R178, R396). -/
def Sys2Proof.Claims.CarryCopied : Prop :=
  ∀ (s : State) (m : Move), s.mesh.moves = [m] → m.fault = false → m.from_ < nCores → m.to_ < nCores → m.from_ ≠ m.to_ →
    let old := coreAt s m.from_
    let new := coreAt s m.to_
    (s.mesh.oldBank = true ∨ s.mesh.flipping = true → exec (.carryCopyComplete m.slot true) s = .next s) ∧
    (s.mesh.oldBank = false → s.mesh.flipping = false → new.st = .inUse → oldSettled old = true → unitsIdle old = true →
      fillsDone s m.to_ = true → s.heal.refills = [] → new.svc = [] →
      ∃ t : State, exec (.carryCopyComplete m.slot true) s = .next t ∧ t.mesh.moves = [] ∧ (coreAt t m.to_).holding = false ∧
        (coreAt t m.to_).inEp = old.inEp ∧ (coreAt t m.to_).outEp = old.outEp ∧ (coreAt t m.to_).sync = old.sync ∧
        (coreAt t m.to_).station = new.station ∧ (coreAt t m.to_).mem = (carried old new).mem) ∧
    (s.mesh.oldBank = false → s.mesh.flipping = false → s.rst.cur = none →
      ∃ t : State, ∃ r, exec (.carryCopyComplete m.slot false) s = .next t ∧ t.mesh.moves = [] ∧ t.rst.cur = some r ∧
        r.set = [basinOf m.from_] ∧ r.trigger = evQuiesceTimeout)

/-- The tracked scale, drains and carries: TrackedScale, Drains, CarryCopied, as said at each. -/
def Obligations.ScaleAndDrains : Prop :=
  Sys2Proof.Claims.TrackedScale ∧ Sys2Proof.Claims.Drains ∧ Sys2Proof.Claims.CarryCopied

/-- ENABLE and APPLY: an APPLY that a check refuses sets APPLY_ERR and changes nothing else; one that passes on a FREE context
puts every staged field in force, grants the staged basins, and makes it ACTIVE exactly where the grant is not empty; every
basin already its own stays its own, and a basin taken away is HELD and being cleared until the clear completes
(R322, R323, R437). -/
def Sys2Proof.Claims.ContextsApplied : Prop :=
  ∀ (s : State) (n b : Nat) (v : Bool), n < 16 → b < 16 →
    let x := ctxAt s n
    exec (.enable n v) s = .next (putCtx s n { x with enable := v }) ∧
    (applyOk s n = false → exec (.apply n) s = .next (putCtx s n { x with applyErr := true })) ∧
    (applyOk s n = true → x.layout = none →
      ∃ t : State, exec (.apply n) s = .next t ∧ (ctxAt t n).act = x.stg ∧ (ctxAt t n).gen = x.gen ∧
        (x.st = .free → ((ctxAt t n).st = .active ↔ bitList 16 x.stg.grant ≠ [])) ∧
        (x.st = .active → (ctxAt t n).st = .active) ∧
        (bitAt x.stg.grant b = true → (basinAt t b).ctx = some n) ∧
        (bitAt x.stg.grant b = false → (basinAt s b).ctx = some n →
          (basinAt t b).ctx = none ∧ (basinAt t b).clearing = true ∧ ∀ k ∈ coresOfBasin b, (coreAt t k).held = true) ∧
        (bitAt x.stg.grant b = false → (basinAt s b).ctx ≠ some n → basinAt t b = basinAt s b) ∧ t.hbms = s.hbms) ∧
    ((basinAt s b).clearing = true →
      ∃ t : State, exec (.basinClearComplete b) s = .next t ∧ (basinAt t b).clearing = false ∧ (basinAt t b).ctx = none ∧
        (∀ a, memGet (hbmAt t b).mem a = 0) ∧ (hbmAt t b).poisonCw = [] ∧
        ∀ k, tabHas s.cores k = true → basinOf k = b →
          (coreAt t k).slot = none ∧ (coreAt t k).held = false ∧ ∀ a, memGet (coreAt t k).mem a = 0) ∧
    ((basinAt s b).clearing = false → exec (.basinClearComplete b) s = .next s)

/-- Teardown, by the register or by a function-level reset: an ACTIVE context becomes STOPPING, its generation advances by one
modulo 256, its commands, records and microbatches are dropped and its cores are HELD; one in any other state is left as it
is (R298, R349, R350). -/
def Sys2Proof.Claims.Teardown : Prop :=
  ∀ (s : State) (n : Nat), n < 16 →
    let x := ctxAt s n
    let torn (t : State) : Prop :=
      let y := ctxAt t n
      y.st = .stopping ∧ y.gen = (x.gen + 1) % 256 ∧ y.cmds = [] ∧ y.comps = [] ∧ y.store = [] ∧ y.mbs = [] ∧
        y.closesOwed = (entsOf s n).filter (fun i => (entAt s i).keyed) ∧
        (∀ b ∈ grantOf s n, ∀ k ∈ coresOfBasin b, (coreAt t k).held = true) ∧ (∀ b, (basinAt t b).ctx = (basinAt s b).ctx)
    (x.st = .active → ∃ t : State, exec (.teardown n) s = .next t ∧ torn t) ∧
    (x.st ≠ .active → exec (.teardown n) s = .next s) ∧
    (x.st = .active → n ≠ 0 → ∃ t : State, exec (.functionLevelReset n) s = .next t ∧ torn t) ∧
    ((∀ m, m < 16 → (ctxAt s m).st ≠ .active) → exec (.functionLevelReset 0) s = .next s)

/-- The end of a teardown: with nothing outstanding and every CTX_CLOSE acknowledged clearing begins; after 10 ms the endpoint
ID is quarantined and clearing begins all the same; when the clear is complete the context's basins are cleared and free and
its page is at its reset values but for the generation, unless its quarantine must lift first (R298, R321, R350). -/
def Sys2Proof.Claims.ContextsCleared : Prop :=
  ∀ (s : State) (n : Nat), n < 16 →
    let x := ctxAt s n
    (x.st = .stopping → allAnswered s n = true →
      exec (.contextOutstandingZero n) s = .next (putCtx s n { x with st := .clearing })) ∧
    (x.st = .clearing → allAnswered s n = true →
      exec (.contextOutstandingZero n) s = .next (putCtx s n { x with quarantined := false })) ∧
    (allAnswered s n = false → exec (.contextOutstandingZero n) s = .next s) ∧
    (x.st = .stopping → allAnswered s n = false →
      exec (.ctxQuarantine n) s = .next (putCtx s n { x with st := .clearing, quarantined := true })) ∧
    ((x.st ≠ .stopping ∨ allAnswered s n = true) → exec (.ctxQuarantine n) s = .next s) ∧
    (x.st = .clearing → x.quarantined = false → s.trust.transition = none →
      ∃ t : State, exec (.contextClearComplete n) s = .next t ∧ ctxAt t n = { gen := x.gen } ∧ grantOf t n = [] ∧
        ∀ b ∈ grantOf s n, ∀ a, memGet (hbmAt t b).mem a = 0) ∧
    (x.st = .clearing → x.quarantined = true →
      ∃ t : State, exec (.contextClearComplete n) s = .next t ∧ (ctxAt t n).st = .quarantine ∧
        ∀ b ∈ grantOf s n, ∀ a, memGet (hbmAt t b).mem a = 0) ∧
    (x.st = .quarantine → allAnswered s n = true → s.trust.transition = none →
      ∃ t : State, exec (.contextOutstandingZero n) s = .next t ∧ ctxAt t n = { gen := x.gen })

/-- Contexts applied, torn down and cleared: ContextsApplied, Teardown, ContextsCleared, as said at each. -/
def Obligations.Contexts : Prop :=
  Sys2Proof.Claims.ContextsApplied ∧ Sys2Proof.Claims.Teardown ∧ Sys2Proof.Claims.ContextsCleared

/-- A successful APPLY resets every ring whose BASE or CFG has changed: head and tail 0, phase 1, the stop bit clear. Every
other ring is as it was, and the commands fetched earlier and the completion records that wait stay (R323). -/
def Obligations.RingsReset : Prop :=
  ∀ (s : State) (n i : Nat), n < 16 → i < 8 → applyOk s n = true →
    let x := ctxAt s n
    let changed := tabGet x.stg.sqBase i 0 ≠ tabGet x.act.sqBase i 0 ∨ tabGet x.stg.sqCfg i 0 ≠ tabGet x.act.sqCfg i 0
    let cqChanged := x.stg.cqBase ≠ x.act.cqBase ∨ x.stg.cqCfg ≠ x.act.cqCfg
    let msgChanged := x.stg.msgBase ≠ x.act.msgBase ∨ x.stg.msgCfg ≠ x.act.msgCfg
    ∃ t : State, exec (.apply n) s = .next t ∧
      let y := ctxAt t n
      (changed → (sqAt y i).head = 0 ∧ (sqAt y i).tail = 0 ∧ bitAt y.ringStop i = false) ∧
      (¬ changed → sqAt y i = sqAt x i ∧ bitAt y.ringStop i = bitAt x.ringStop i) ∧
      (cqChanged → y.cq.wr = 0 ∧ y.cq.head = 0 ∧ y.cq.phase = true ∧ y.cq.count = 0) ∧ (¬ cqChanged → y.cq = x.cq) ∧
      (msgChanged → y.msg.wr = 0 ∧ y.msg.head = 0 ∧ y.msg.phase = true ∧ y.msg.count = 0) ∧ (¬ msgChanged → y.msg = x.msg) ∧
      y.cmds = x.cmds ∧ y.comps = x.comps

/-- Doorbells take bits [15:0] of what is written: a tail for an enabled submission ring, a head for an enabled completion or
message ring; a doorbell of a disabled ring or at a reserved offset is ignored (R326). -/
def Sys2Proof.Claims.Doorbells : Prop :=
  ∀ (s : State) (n i v : Nat), n < 16 →
    let x := ctxAt s n
    (i < 8 → ringSize (sqCfgOf x i) ≠ 0 →
      exec (.sqDoorbell n i v) s = .next (putCtx s n (putSq x i { sqAt x i with tail := v % 65536 }))) ∧
    ((8 ≤ i ∨ ringSize (sqCfgOf x i) = 0) → exec (.sqDoorbell n i v) s = .next s) ∧
    (ringSize x.act.cqCfg ≠ 0 →
      ∃ y, exec (.cqHead n v) s = .next (putCtx s n { x with cq := y }) ∧ y.head = v % 65536 ∧ y.wr = x.cq.wr ∧
        y.phase = x.cq.phase ∧ y.count < ringSize x.act.cqCfg) ∧
    (ringSize x.act.cqCfg = 0 → exec (.cqHead n v) s = .next s) ∧
    (ringSize x.act.msgCfg ≠ 0 →
      exec (.msgHead n v) s = .next (putCtx s n { x with msg := { x.msg with head := v % 65536 } })) ∧
    (ringSize x.act.msgCfg = 0 → exec (.msgHead n v) s = .next s)

/-- Fetching: from the ring that the rotating order takes one descriptor is fetched, its head moves on by one around the ring
and the command waits; one with a reserved OPC ends at once with CMD_INVALID; a fetch that fails stops its ring and raises
HOST_DMA_FAULT, and a failed read of a command ends it with HOST_DMA_ERR; nothing is fetched while the context is not served or
not enabled (R320, R322, R327, R331). -/
def Sys2Proof.Claims.Fetching : Prop :=
  ∀ (s : State) (n i : Nat) (d : BitVec 512), n < 16 →
    let x := ctxAt s n
    (fetchRing s n = some i →
      ∃ t : State, ∃ h, exec (.descriptorFetch n d) s = .next t ∧ (ctxAt t n).cmds = x.cmds ++ [h] ∧ h.ring = i ∧ h.desc = d ∧
        (sqAt (ctxAt t n) i).head = ((sqAt x i).head + 1) % ringSize (sqCfgOf x i) ∧ (ctxAt t n).lastRing = i ∧
        (∀ j, j ≠ i → sqAt (ctxAt t n) j = sqAt x j) ∧
        (fld d 7 0 ≤ 0x0F → (ctxAt t n).comps = x.comps) ∧ (0x0F < fld d 7 0 → Answered s t n h 2 0 0) ∧ t.cores = s.cores) ∧
    ((ringsUp s = false ∨ x.st ≠ .active ∨ x.enable = false) → exec (.descriptorFetch n d) s = .next s) ∧
    (fetchRing s n = some i → n ≠ 0 → (ctxAt s 0).st = .active → storeUnits (ctxAt s 0).store + 2 ≤ 8192 →
      ∃ t : State, ∃ r, exec (.hostDmaFault n true i) s = .next t ∧ (ctxAt t n).ringStop = x.ringStop ||| 2 ^ i ∧
        (ctxAt t 0).store = (ctxAt s 0).store ++ [r] ∧ r.code = evHostDmaFault) ∧
    (∀ h, x.cmds = [h] → h.started = false → readsHost (cmdOpc h) = true → parked x h = false → x.st = .active →
      ∃ t : State, exec (.hostDmaFault n false 0) s = .next t ∧ Ended s t n h 3)

/-- Records written: the oldest completion record goes into a released entry with the phase in force and the SQ_HEAD of its
ring, the index moves on and the phase flips where it wraps to 0; without a released entry it waits; a vector that is enabled
and due fires once and nothing stays unannounced (R328 to R330). -/
def Sys2Proof.Claims.CompletionsWritten : Prop :=
  ∀ (s : State) (n : Nat) (k : Comp) (rest : List Comp), Served s n →
    let x := ctxAt s n
    let size := ringSize x.act.cqCfg
    (x.comps = k :: rest → x.cq.count < size →
      ∃ t : State, exec (.completionWrite n) s = .next t ∧ (ctxAt t n).comps = rest ∧
        t.out = s.out ++ [.compRec n x.cq.wr x.cq.phase (sqAt x k.ring).head k] ∧
        (ctxAt t n).cq.wr = (x.cq.wr + 1) % size ∧ (ctxAt t n).cq.count = x.cq.count + 1 ∧
        (x.cq.wr + 1 < size → (ctxAt t n).cq.phase = x.cq.phase) ∧ (x.cq.wr + 1 = size → (ctxAt t n).cq.phase = !x.cq.phase) ∧
        (ctxAt t n).cq.unann = x.cq.unann + b2n (!k.noIrq) ∧ (ctxAt t n).sq = x.sq) ∧
    (x.comps = k :: rest → size ≤ x.cq.count → exec (.completionWrite n) s = .next s) ∧
    (size ≠ 0 → irqDue x.act.cqCfg x.cq false = true →
      exec (.interrupt n false false) s =
        .next (emit (putCtx s n { x with cq := { x.cq with unann := 0 } }) (.msix n (bits x.act.cqCfg 13 8)))) ∧
    (∀ up, irqDue x.act.cqCfg x.cq up = false → exec (.interrupt n false up) s = .next s) ∧
    (ringSize x.act.msgCfg ≠ 0 → irqDue x.act.msgCfg x.msg true = true →
      exec (.interrupt n true true) s =
        .next (emit (putCtx s n { x with msg := { x.msg with unann := 0 } }) (.msix n (bits x.act.msgCfg 13 8))))

/-- Message records: the oldest record is placed whole where the ring has room before its end, with its SEQ, and the index and
the SEQ move on; where it does not fit before the end but fits after it, a SKIP of the rest comes first and the record goes to
index 0 with the flipped phase; where there is no room nothing changes (R342, R343). -/
def Sys2Proof.Claims.RecordsPlaced : Prop :=
  ∀ (s : State) (n size : Nat) (m : MsgRec) (rest : List MsgRec), Served s n →
    let x := ctxAt s n
    let free := size - 1 - (x.msg.wr + size - x.msg.head % size) % size
    ringSize x.act.msgCfg = size → size ≠ 0 → x.store = m :: rest → x.lostRun = 0 → x.lateComps = [] → m.units ≤ min 128 (size / 2) →
    x.msg.wr < size →
    let out := { m with seq := x.msgSeq, body := cutBody m.body m.units }
    (x.msg.wr + m.units ≤ size → m.units ≤ free →
      ∃ t : State, exec (.messageRecordPlace n) s = .next t ∧ t.out = s.out ++ [.msgRec n x.msg.wr x.msg.phase false out] ∧
        (ctxAt t n).store = rest ∧ (ctxAt t n).msgSeq = (x.msgSeq + 1) % 2 ^ 32 ∧
        (ctxAt t n).msg.wr = (x.msg.wr + m.units) % size ∧
        (ctxAt t n).msg.phase = (if x.msg.wr + m.units = size then !x.msg.phase else x.msg.phase)) ∧
    (size < x.msg.wr + m.units → size - x.msg.wr + m.units ≤ free →
      ∃ (t : State) (k : MsgRec), exec (.messageRecordPlace n) s = .next t ∧
        t.out = s.out ++ [.msgRec n x.msg.wr x.msg.phase false k, .msgRec n 0 (!x.msg.phase) false out] ∧ k.type = 0 ∧
        k.units = size - x.msg.wr ∧ (ctxAt t n).store = rest ∧ (ctxAt t n).msg.wr = m.units) ∧
    (x.msg.wr + m.units ≤ size → free < m.units → exec (.messageRecordPlace n) s = .next s) ∧
    (size < x.msg.wr + m.units → free < size - x.msg.wr + m.units → exec (.messageRecordPlace n) s = .next s)

/-- Doorbells, fetching, and the records written: Doorbells, Fetching, CompletionsWritten, RecordsPlaced, as said at each. -/
def Obligations.HostRings : Prop :=
  Sys2Proof.Claims.Doorbells ∧ Sys2Proof.Claims.Fetching ∧ Sys2Proof.Claims.CompletionsWritten ∧ Sys2Proof.Claims.RecordsPlaced

/-- Host commands that end at once or wait for a boundary: NOP is OK; RELOAD_SCALE without a layout is NO_LAYOUT, and with one
it waits with BIND_PEER and SET_PORTS for action 2 or 3 of the next boundary, their effect not before; LATE_REPORT writes its
report and waits for it; FAB_RECORD without a record or with a bad one is RECORD_BAD, with one that is newer for no context
RECORD_STALE, and with a newer one that lists the context it is OK and the record is in force (R293, R294, R306, R307, R316, R331 to
R333). -/
def Sys2Proof.Claims.PlainHostCommands : Prop :=
  ∀ (s : State) (n opc : Nat) (h : HCmd) (bytes : List Byte) (sigOk : Bool), TakesCmd s n opc h →
    let x := ctxAt s n
    let r := recordOf bytes
    let waits (t : State) (a : Staged) : Prop := (ctxAt t n).staged = x.staged ++ [a] ∧ (ctxAt t n).comps = x.comps ∧
      (ctxAt t n).peers = x.peers ∧ (ctxAt t n).portSet = x.portSet ∧ (ctxAt t n).scale = x.scale
    (opc = 0 → ∃ t : State, exec (.hostNop n) s = .next t ∧ Answered s t n h 0 0 0) ∧
    (opc = 5 → x.layout = none → ∃ t : State, exec (.reloadScale n) s = .next t ∧ Ended s t n h 4) ∧
    (opc = 5 → x.layout ≠ none →
      ∃ t : State, exec (.reloadScale n) s = .next t ∧ waits t (.reload (cmdTag h) h.ring (cmdNoIrq h))) ∧
    (opc = 0xA → ∃ t : State, exec (.bindPeer n) s = .next t ∧
      waits t (.peer (cmdTag h) h.ring (cmdField h 8 1 % 64) (cmdField h 9 3 % 2 ^ 20) (cmdNoIrq h))) ∧
    (opc = 0xB → ∃ t : State, exec (.setPorts n) s = .next t ∧ waits t (.ports (cmdTag h) h.ring (cmdField h 8 3) (cmdNoIrq h))) ∧
    (opc = 0xC → cmdField h 16 4 = 0 → ∃ t : State, exec (.fabRecord n ⟨bytes, sigOk⟩) s = .next t ∧ Ended s t n h 0x11 ∧
      (ctxAt t n).fabEpoch = x.fabEpoch) ∧
    (opc = 0xC → cmdField h 16 4 ≠ 0 → recordOk s r sigOk = false →
      ∃ t : State, exec (.fabRecord n ⟨bytes, sigOk⟩) s = .next t ∧ Ended s t n h 0x11 ∧ (ctxAt t n).fabEpoch = x.fabEpoch) ∧
    (opc = 0xC → cmdField h 16 4 ≠ 0 → recordOk s r sigOk = true → (∀ m, m < 16 → newer r.epoch (ctxAt s m).fabEpoch = false) →
      ∃ t : State, exec (.fabRecord n ⟨bytes, sigOk⟩) s = .next t ∧ Ended s t n h 0x12 ∧ (ctxAt t n).fabEpoch = x.fabEpoch) ∧
    (opc = 0xC → cmdField h 16 4 ≠ 0 → recordOk s r sigOk = true → newer r.epoch x.fabEpoch = true →
      bits x.act.fabId 35 20 = r.domain → epOf x ≠ 0 → (∀ m, m < 16 → m ≠ n → epOf (ctxAt s m) = 0) → x.fenced = false →
      r.members.any (fun m => m.id == epOf x) = true → r.members.length = 1 → entsOf s n = [] →
      ∃ t : State, exec (.fabRecord n ⟨bytes, sigOk⟩) s = .next t ∧ Ended s t n h 0 ∧ (ctxAt t n).fabEpoch = r.epoch ∧
        (ctxAt t n).record = some r) ∧
    (opc = 0xD → storeUnits x.store + (bytesRec 6 0 0 0 (lateBytes x)).units ≤ 8192 →
      ∃ t : State, ∃ e, exec (.lateReport n) s = .next t ∧ (ctxAt t n).store = x.store ++ [e] ∧ e.type = 6 ∧
        e.body = (bytesRec 6 0 0 0 (lateBytes x)).body ∧ (ctxAt t n).comps = x.comps ∧
        (ctxAt t n).lateComps = x.lateComps ++ [comp (cmdTag h) h.ring 0 x.stepNum 0 (cmdNoIrq h)])

/-- STAGE_IMAGE and STAGE_WPKG: LENGTH zero moves nothing and is OK; an image or a package that does not verify fails in every
part of its mask with IMAGE_AUTH or WPKG_AUTH and nothing of it is kept, and a LENGTH that is not the envelope's is
IMAGE_SIZE; a verified image is kept for the parts named; a later piece of a package writes the bytes of its shards to the
basins that they name and to no other (R331, R333, R364, R366). -/
def Sys2Proof.Claims.ImagesStaged : Prop :=
  ∀ (s : State) (n : Nat) (h : HCmd) (env : Envelope) (p : WpkgPiece),
    let x := ctxAt s n
    let len := cmdField h 16 4
    let parts := partsOf s n (cmdField h 20 2)
    let failed (t : State) (parts : List Nat) (status : Nat) : Prop :=
      (parts = [] → Ended s t n h status) ∧
      (parts ≠ [] → ∃ k, (ctxAt t n).comps = x.comps ++ [k] ∧ k.tag = cmdTag h ∧ k.status = 1 ∧ k.partMap = maskOf parts ∧
        k.r0 % 65536 = status)
    (TakesCmd s n 1 h → len = 0 → ∃ t : State, exec (.stageImage n env) s = .next t ∧ Answered s t n h 0 0 0 ∧
      (ctxAt t n).image = x.image) ∧
    (TakesCmd s n 1 h → len ≠ 0 → len ≠ 512 + env.bodyLen + 400 →
      ∃ t : State, exec (.stageImage n env) s = .next t ∧ failed t parts 0x18 ∧ (ctxAt t n).image = x.image) ∧
    (TakesCmd s n 1 h → len = 512 + env.bodyLen + 400 → envOk s env 1 = false →
      ∃ t : State, exec (.stageImage n env) s = .next t ∧ failed t parts 0x15 ∧ (ctxAt t n).image = x.image) ∧
    (TakesCmd s n 1 h → len = 512 + env.bodyLen + 400 → envOk s env 1 = true → x.image = none →
      ∃ t : State, exec (.stageImage n env) s = .next t ∧ Answered s t n h 0 len 0 ∧
        (ctxAt t n).image = some { image := fitBytes env.bodyLen env.body, parts := maskOf parts }) ∧
    (TakesCmd s n 2 h → cmdField h 24 4 = 0 → ∃ t : State, exec (.stageWpkg n p) s = .next t ∧ Answered s t n h 0 0 0 ∧
      (ctxAt t n).wpkg = x.wpkg ∧ t.hbms = s.hbms) ∧
    (TakesCmd s n 2 h → cmdField h 24 4 ≠ 0 → cmdField h 16 8 = 0 → (∀ e, p.env = some e → envOk s e 2 = false) →
      ∃ t : State, exec (.stageWpkg n p) s = .next t ∧ failed t (partsOf s n (cmdField h 28 2)) 0x16 ∧ (ctxAt t n).wpkg = x.wpkg ∧
        t.hbms = s.hbms) ∧
    (∀ w g, TakesCmd s n 2 h → cmdField h 24 4 ≠ 0 → cmdField h 16 8 ≠ 0 → x.wpkg = some w → w.shards = [g] → g.missing = 0 →
      g.pkgOff = cmdField h 16 8 → cmdField h 24 4 < g.length → p.plain.length = cmdField h 24 4 →
      ∃ t : State, exec (.stageWpkg n p) s = .next t ∧ Answered s t n h 0 0 0 ∧
        (∀ b, b ∈ partsOf s n (cmdField h 28 2) → bitAt g.basins b = true → ∀ a, memGet (hbmAt t b).mem a =
          if g.hbmOff * 65536 ≤ a ∧ a < g.hbmOff * 65536 + cmdField h 24 4 then nth p.plain (a - g.hbmOff * 65536) 0
          else memGet (hbmAt s b).mem a) ∧
        (∀ b, bitAt g.basins b = false → hbmAt t b = hbmAt s b))

/-- INFER: its checks in the order given decide its status, and one that any of them turns away places nothing; one that passes
takes TOKENS positions at its pinned place, or at the lowest free run of the open microbatch, its session's claim ends behind
it, and it closes its microbatch with FLUSH or when it is full; a pinned place that is taken or admitted is PIN_MISS
(R332 to R337, R341, R369, R412). -/
def Sys2Proof.Claims.Requests : Prop :=
  ∀ (s : State) (n : Nat) (h : HCmd) (inp : InferIn), TakesCmd s n 6 h →
    let x := ctxAt s n
    let cnt := cmdField h 12 2
    let ends (status : Nat) : Prop := ∃ t : State, exec (.infer n inp) s = .next t ∧ Ended s t n h status ∧ (ctxAt t n).mbs = x.mbs ∧
      (ctxAt t n).sessions = x.sessions
    (x.fenced = true → ends 0x1A) ∧
    (x.fenced = false → x.layout = none → ends 4) ∧
    (∀ l, x.fenced = false → x.layout = some l → l.stopped = true → ends 0x19) ∧
    (∀ l, x.fenced = false → x.layout = some l → l.stopped = false → l.held = true → ends 5) ∧
    (∀ l, x.fenced = false → x.layout = some l → l.stopped = false → l.held = false →
      (x.sessions.find? (fun t => t.id == cmdSession h) = none → ends 8) ∧
      ∀ e, x.sessions.find? (fun t => t.id == cmdSession h) = some e →
        (e.lost = true → ends 0xD) ∧
        (e.lost = false → e.closing ≠ none → ends 9) ∧
        (e.lost = false → e.closing = none → l.mbTokens < cnt → ends 0xF) ∧
        (e.lost = false → e.closing = none → cnt = 0 → ∃ t : State, exec (.infer n inp) s = .next t ∧
          Answered s t n h 0 (2 ^ 64 - 1) 0 ∧ (ctxAt t n).mbs = x.mbs) ∧
        (e.lost = false → e.closing = none → 0 < cnt → cnt ≤ l.mbTokens →
          ((cmdField h 42 4 < e.claimEnd ∨ inp.tagOk = false) → ends 7) ∧
          (e.claimEnd ≤ cmdField h 42 4 → inp.tagOk = true →
            (bitAt (cmdField h 14 1) 0 = true →
              (cmdField h 32 8 < x.nextMb ∨ posFree (mbAt x (cmdField h 32 8)) l.mbTokens (cmdField h 40 2) cnt = false) →
              ends 0xE) ∧
            (bitAt (cmdField h 14 1) 0 = true → x.nextMb ≤ cmdField h 32 8 →
              posFree (mbAt x (cmdField h 32 8)) l.mbTokens (cmdField h 40 2) cnt = true →
              ∃ t : State, ∃ r, exec (.infer n inp) s = .next t ∧ (ctxAt t n).comps = x.comps ∧
                (mbAt (ctxAt t n) (cmdField h 32 8)).reqs = (mbAt x (cmdField h 32 8)).reqs ++ [r] ∧ r.pos = cmdField h 40 2 ∧
                r.tokens = cnt ∧ r.tag = cmdTag h ∧ r.session = cmdSession h) ∧
            (bitAt (cmdField h 14 1) 0 = false → x.mbs = [] →
              ∃ t : State, ∃ m r, exec (.infer n inp) s = .next t ∧ (ctxAt t n).comps = x.comps ∧ (ctxAt t n).mbs = [m] ∧ m.num = x.nextMb ∧
                m.reqs = [r] ∧ r.pos = 0 ∧ r.tokens = cnt ∧ r.session = cmdSession h ∧
                (m.closed = true ↔ (bitAt (cmdField h 14 1) 1 = true ∨ cnt = l.mbTokens)) ∧
                (x.sessions = [e] → (ctxAt t n).sessions = [{ e with claimEnd := cmdField h 42 4 + cnt }])))))

/-- Sessions: a key blob that does not open is SESSION_KEY_BAD and an ID that is open or about to be is SESSION_UNKNOWN;
otherwise the open waits for action 5 of the next boundary; a close marks its session at once, so that a second close and every
later INFER is refused, and releases nothing before its boundary (R307, R337, R339, R341, R367). -/
def Sys2Proof.Claims.Sessions : Prop :=
  ∀ (s : State) (n : Nat) (h : HCmd) (blob : KeyBlob),
    let x := ctxAt s n
    let id := cmdSession h
    let opens := cmdField h 32 4 = 384 ∧ lcState s.fuse = 2 ∧ blob.unwraps = true ∧ blob.sessionId = id ∧ blob.zeros = true ∧
      blob.serial = s.fuse.serial
    (TakesCmd s n 7 h → ¬ opens → ∃ t : State, exec (.sessionOpen n blob) s = .next t ∧ Ended s t n h 0xC ∧
      (ctxAt t n).staged = x.staged) ∧
    (TakesCmd s n 7 h → opens → sessTaken x id = true → ∃ t : State, exec (.sessionOpen n blob) s = .next t ∧ Ended s t n h 8 ∧
      (ctxAt t n).staged = x.staged) ∧
    (TakesCmd s n 7 h → opens → sessTaken x id = false → ∃ t : State, exec (.sessionOpen n blob) s = .next t ∧
      (ctxAt t n).staged = x.staged ++
        [.openSess (cmdTag h) h.ring id (cmdField h 12 4) (bitAt (cmdField h 16 1) 0) (cmdNoIrq h)] ∧
      (ctxAt t n).sessions = x.sessions ∧ (ctxAt t n).comps = x.comps) ∧
    (TakesCmd s n 8 h → x.sessions.find? (fun t => t.id == id) = none →
      ∃ t : State, exec (.sessionClose n) s = .next t ∧ Ended s t n h 8) ∧
    (∀ e, TakesCmd s n 8 h → x.sessions.find? (fun t => t.id == id) = some e → e.closing ≠ none →
      ∃ t : State, exec (.sessionClose n) s = .next t ∧ Ended s t n h 9) ∧
    (∀ e, TakesCmd s n 8 h → x.sessions = [e] → e.id = id → e.closing = none →
      ∃ t : State, exec (.sessionClose n) s = .next t ∧
        (ctxAt t n).sessions = [{ e with closing := some (cmdTag h, h.ring, cmdNoIrq h) }] ∧ (ctxAt t n).pages = x.pages ∧
        (ctxAt t n).comps = x.comps ∧ t.hbms = s.hbms)

/-- Commands of the host rings, images and sessions: PlainHostCommands, ImagesStaged, Requests, Sessions, as said at each. -/
def Obligations.HostCommands : Prop :=
  Sys2Proof.Claims.PlainHostCommands ∧ Sys2Proof.Claims.ImagesStaged ∧ Sys2Proof.Claims.Requests ∧ Sys2Proof.Claims.Sessions

/-- LOAD_LAYOUT and UNLOAD_LAYOUT: they wait while a drain or a reset of the context is in hand; without an image a load is
LAYOUT_FORMAT and without a layout an unload is NO_LAYOUT; an image that runs already changes nothing and is OK; a running
layout is drained before either, and a load check that fails is the load's status (R188, R189, R207, R216, R331, R332). -/
def Sys2Proof.Claims.Loading : Prop :=
  ∀ (s : State) (n opc : Nat) (h : HCmd), TakesCmd s n opc h →
    let x := ctxAt s n
    let drains (t : State) (why : DrainFor) : Prop := ∃ d, t.mesh.drains = s.mesh.drains ++ [d] ∧ d.ctx = n ∧ d.why = why ∧
      d.basins = grantOf s n ∧ d.tag = cmdTag h ∧ (ctxAt t n).comps = x.comps ∧ (ctxAt t n).layout = x.layout
    (opc = 3 → ctxBusy s n = true → exec (.loadLayout n) s = .next s) ∧
    (opc = 3 → ctxBusy s n = false → x.image = none → ∃ t : State, exec (.loadLayout n) s = .next t ∧ Ended s t n h 0x0101) ∧
    (∀ g l, opc = 3 → ctxBusy s n = false → x.image = some g → x.layout = some l → needsDrain l = true →
      (l.imageDigest = sha256 g.image →
        ∃ t : State, exec (.loadLayout n) s = .next t ∧ Answered s t n h 0 0 0 ∧ (ctxAt t n).layout = some l ∧ t.cores = s.cores) ∧
      (l.imageDigest ≠ sha256 g.image → loadCheck s n g.image ≠ 0 →
        ∃ t : State, exec (.loadLayout n) s = .next t ∧ Ended s t n h (0x0100 + loadCheck s n g.image) ∧
          (ctxAt t n).layout = some l ∧ t.cores = s.cores) ∧
      (l.imageDigest ≠ sha256 g.image → loadCheck s n g.image = 0 →
        ∃ t : State, exec (.loadLayout n) s = .next t ∧ drains t .load)) ∧
    (∀ g, opc = 3 → ctxBusy s n = false → x.image = some g → x.layout = none → loadCheck s n g.image ≠ 0 →
      ∃ t : State, exec (.loadLayout n) s = .next t ∧ Ended s t n h (0x0100 + loadCheck s n g.image) ∧ (ctxAt t n).layout = none ∧
        t.cores = s.cores) ∧
    (opc = 4 → x.layout = none → ∃ t : State, exec (.unloadLayout n) s = .next t ∧ Ended s t n h 4) ∧
    (∀ l, opc = 4 → x.layout = some l → ctxBusy s n = true → exec (.unloadLayout n) s = .next s) ∧
    (∀ l, opc = 4 → x.layout = some l → ctxBusy s n = false → needsDrain l = true →
      ∃ t : State, exec (.unloadLayout n) s = .next t ∧ drains t .unload)

/-- A layout that passes its checks and can be placed, loaded where none runs: the context holds it with its basin numbers
translated, its microbatches, steps and counters begin at 0, the first admission is a forced boundary, each granted basin's
generation has advanced by one, and the load's record waits for that admission (R187, R189, R209, R304, R308, R313). -/
def Sys2Proof.Claims.LayoutInstalled : Prop :=
  ∀ (s : State) (n : Nat) (h : HCmd) (g : Staging) (place : List (Nat × Nat)), TakesCmd s n 3 h →
    let x := ctxAt s n
    ctxBusy s n = false → x.image = some g → x.layout = none → x.mbs = [] → x.loadPending = none → x.due = [] → x.staged = [] →
    loadCheck s n g.image = 0 → placeAll s n (readLayout g.image) = some place →
    ∃ t : State, exec (.loadLayout n) s = .next t ∧
      let y := ctxAt t n
      y.layout.map (fun l => { l with replace := false }) =
        some { translate (grantOf s n) (readLayout g.image) with replace := false } ∧
      y.nextMb = 0 ∧ y.stepNum = 0 ∧ y.mbNum = 0 ∧ y.inStep = 0 ∧ y.advanced = 0 ∧ y.heldCnt = 0 ∧ y.ignored = 0 ∧ y.miss = 0 ∧
      y.stepWait = 0 ∧ y.forced = true ∧ y.comps = x.comps ∧ y.loadPending = some (cmdTag h, h.ring, cmdNoIrq h) ∧
      (∀ b ∈ grantOf s n, (basinAt t b).gen = ((basinAt s b).gen + 1) % 16)

/-- Layouts loaded and installed: Loading, LayoutInstalled, as said at each. -/
def Obligations.LayoutsLoaded : Prop :=
  Sys2Proof.Claims.Loading ∧ Sys2Proof.Claims.LayoutInstalled

/-- SPDM requests: a module in recovery, before READY or BLANK answers nothing; a running one answers with version 1.3 alone,
with its certificate slot 0 alone, whose DeviceID names the module's ordering code, revision and serial, with CTExponent 14, with a measurement signed over a fresh nonce, and refuses algorithms that
it does not have with an ERROR (R354, R358 to R360, R375). -/
def Sys2Proof.Claims.SpdmAnswers : Prop :=
  ∀ (s : State) (tr : Transport) (slot nonce i : Nat) (offered : Bool),
    let speaks (c : Instr) (code : Nat) (p : List Nat → Prop) : Prop :=
      ∃ (t : State) (ws : List Nat), exec c s = .next t ∧ t.out = s.out ++ [.spdm tr code ws] ∧ p ws ∧ t.fuse = s.fuse ∧
        t.trust = s.trust
    (spdmUp s = false → ∀ c ∈ [Instr.getVersion tr, .getCapabilities tr, .negotiateAlgorithms tr offered, .getDigests tr,
      .getCertificate tr slot, .challenge tr slot nonce, .getMeasurements tr i], exec c s = .next s) ∧
    (spdmUp s = true →
      speaks (.getVersion tr) 0x04 (fun ws => ws = [0x13]) ∧
      speaks (.getCapabilities tr) 0x61 (fun ws => ws.head? = some 14) ∧
      speaks (.negotiateAlgorithms tr true) 0x63 (fun _ => True) ∧
      speaks (.negotiateAlgorithms tr false) 0x7F (fun ws => ws = [1]) ∧
      speaks (.getDigests tr) 0x01 (fun ws => ws.head? = some 1) ∧
      speaks (.getCertificate tr 0) 0x02 (fun ws => ∃ r, ws = chainWords s ++ r) ∧
      (slot ≠ 0 → speaks (.getCertificate tr slot) 0x7F (fun ws => ws = [1])) ∧
      speaks (.challenge tr 0 nonce) 0x03 (fun ws => ws.head? = some nonce) ∧
      (slot ≠ 0 → speaks (.challenge tr slot nonce) 0x7F (fun ws => ws = [1])) ∧
      speaks (.getMeasurements tr 0) 0x60 (fun ws => ws.tail = [38]) ∧
      (1 ≤ i → i < 0xFF → speaks (.getMeasurements tr i) 0x60 (fun ws => ws.tail = measBlock s i)))

/-- Secured sessions: a transport has at most four, and a fifth KEY_EXCHANGE is SessionLimitExceeded; FINISH establishes the
session or, with a wrong MAC, ends it; KEY_UPDATE changes the phase of its own session only, HEARTBEAT none, END_SESSION ends
it; outside an established session each is an ERROR (R359). -/
def Sys2Proof.Claims.SpdmSessions : Prop :=
  ∀ (s : State) (tr : Transport) (id : Nat), spdmUp s = true →
    let l := s.trust.sessions
    let mine (x : Session) : Bool := x.tr == tr && x.id == id
    let gives (c : Instr) (code : Nat) (l' : List Session) : Prop :=
      ∃ (t : State) (ws : List Nat), exec c s = .next t ∧ t.out = s.out ++ [.spdm tr code ws] ∧ t.trust.sessions = l' ∧
        t.fuse = s.fuse ∧ t.trust.kT = s.trust.kT
    ((sessionsOn s tr).length < 4 →
      gives (.keyExchange tr) 0x64 (l ++ [{ tr := tr, id := s.trust.nextSession, established := false, phase := 0 }])) ∧
    (4 ≤ (sessionsOn s tr).length → gives (.keyExchange tr) 0x7F l) ∧
    (l.any (fun x => mine x && !x.established) = true →
      gives (.finish tr id true) 0x65 (l.map (fun x => if mine x then { x with established := true } else x)) ∧
      gives (.finish tr id false) 0x7F (l.filter (fun x => !mine x))) ∧
    (l.any (fun x => mine x && !x.established) = false → gives (.finish tr id true) 0x7F l) ∧
    (inSession s tr id = true →
      gives (.keyUpdate tr id) 0x69 (l.map (fun x => if mine x then { x with phase := x.phase + 1 } else x)) ∧
      gives (.heartbeat tr id) 0x68 l ∧ gives (.endSession tr id) 0x6C (l.filter (fun x => !mine x))) ∧
    (inSession s tr id = false →
      gives (.keyUpdate tr id) 0x7F l ∧ gives (.heartbeat tr id) 0x7F l ∧ gives (.endSession tr id) 0x7F l)

/-- GET_NONCE gives a fresh nonce, which alone is valid from then on; GET_TRANSPORT_CERT is answered for the transport pair in
force, and is a bad state where there is none (R357, R361, R377). -/
def Sys2Proof.Claims.NoncesAndCertificates : Prop :=
  ∀ (s : State) (tr : Transport) (id : Nat), spdmUp s = true → inSession s tr id = true → s.trust.transition = none →
    (∃ (t : State) (v : Nat), exec (.getNonce tr id) s = .next t ∧ t.trust.nonce = some v ∧ v < 2 ^ 256 ∧
      t.out = s.out ++ [.vendor tr 1 0 [v]] ∧ t.fuse = s.fuse) ∧
    (∀ k, s.trust.kT = some k → ∃ (t : State) (ws : List Nat), exec (.getTransportCert tr id) s = .next t ∧
      t.out = s.out ++ [.vendor tr 2 0 (s.fuse.serial :: k :: ws)] ∧ t.trust = s.trust) ∧
    (s.trust.kT = none → exec (.getTransportCert tr id) s = .next (emit s (.vendor tr 2 1 [])))

/-- SPDM, nonces and certificates: SpdmAnswers, SpdmSessions, NoncesAndCertificates, as said at each. -/
def Obligations.TrustMessages : Prop :=
  Sys2Proof.Claims.SpdmAnswers ∧ Sys2Proof.Claims.SpdmSessions ∧ Sys2Proof.Claims.NoncesAndCertificates

/-- Tokens: outside a secured session no vendor command is taken, while a transition is in hand each is answered busy, and a
token that fails is refused with the status of the first check it fails, changes no fuse, no key and no flash, and has
consumed its nonce (R361, R362, R377). -/
def Sys2Proof.Claims.TokensRefused : Prop :=
  ∀ (s : State) (tr : Transport) (id d fm ser : Nat) (tok : Token) (c : Nat × Instr × Bool × Bool),
    let lc := lcState s.fuse
    c ∈ [(3, .registerOwner tr id tok d fm, lc == 1, decide (tok.signer = .owner d)),
         (4, .setFmKey tr id tok ser fm, lc == 2, byOwner s tok),
         (5, .returnLc tr id tok, lc == 2 && decide (s.fuse.lcCount < 32), byOwner s tok),
         (6, .reprovision tr id tok, lc == 3, byVillaholt tok),
         (7, .ledgerClear tr id tok, lc == 3, byVillaholt tok),
         (8, .debugUnlock tr id tok, lc == 1 || lc == 3, byVillaholt tok),
         (9, .lcRetire tr id tok, lc == 1 || lc == 2 || lc == 3, if lc = 2 then byOwner s tok else byVillaholt tok)] →
    let bound := tok.serial = s.fuse.serial ∧ tok.k = s.fuse.lcCount
    let refused (status : Nat) : Prop := ∃ t : State, exec c.2.1 s = .next t ∧
      t.out = s.out ++ [.vendor tr c.1 status []] ∧ t.fuse = s.fuse ∧ t.flash = s.flash ∧ t.trust.kT = s.trust.kT ∧
      t.trust.fmKey = s.trust.fmKey ∧ t.ctxs = s.ctxs ∧
      t.trust.nonce = (if s.trust.nonce = some tok.nonce then none else s.trust.nonce)
    (spdmUp s = false → exec c.2.1 s = .next s) ∧
    (spdmUp s = true → inSession s tr id = false → exec c.2.1 s = .next (emit s (.spdm tr 0x7F [1]))) ∧
    (spdmUp s = true → inSession s tr id = true → s.trust.transition ≠ none →
      exec c.2.1 s = .next (emit s (.vendor tr c.1 5 []))) ∧
    (spdmUp s = true → inSession s tr id = true → s.trust.transition = none →
      ((tok.opcode ≠ c.1 ∨ c.2.2.1 = false) → refused 1) ∧
      (tok.opcode = c.1 → c.2.2.1 = true → ¬ bound → refused 2) ∧
      (tok.opcode = c.1 → c.2.2.1 = true → bound → s.trust.nonce ≠ some tok.nonce → refused 3) ∧
      (tok.opcode = c.1 → c.2.2.1 = true → bound → s.trust.nonce = some tok.nonce → c.2.2.2 = false → refused 4))

/-- Life-cycle commands that are accepted: each burns the fuses its transition burns and no other, and rekeys the transport
pair for the state reached; RETURN and RETIRE with no context in use erase the owner's tokens and keys first (R24, R354 to R357,
R361, R362). -/
def Sys2Proof.Claims.LifeCycle : Prop :=
  ∀ (s : State) (tr : Transport) (id d fm ser cert : Nat) (tok : Token),
    let lc := lcState s.fuse
    let k := s.fuse.lcCount
    let taken (op : Nat) : Prop := spdmUp s = true ∧ inSession s tr id = true ∧ s.trust.transition = none ∧ tok.opcode = op ∧
      tok.serial = s.fuse.serial ∧ tok.k = k ∧ s.trust.nonce = some tok.nonce
    let does (c : Instr) (op : Nat) (p : State → Prop) : Prop := ∃ (t : State) (ws : List Nat), exec c s = .next t ∧
      t.out = s.out ++ [.vendor tr op 0 ws] ∧ t.trust.nonce = none ∧ t.trust.kT = transportK t.fuse ∧ t.ctxs = s.ctxs ∧ p t
    let noCtx := ∀ n, n < 16 → (ctxAt s n).st = .free
    let erased (t : State) : Prop := t.flash.ownerToken = none ∧ t.flash.fmToken = none ∧ t.trust.fmKey = none ∧
      t.fab.keys = [] ∧ ∀ p, p < 24 → (portAt t p).keys = []
    (taken 3 → lc = 1 → tok.signer = .owner d → does (.registerOwner tr id tok d fm) 3 (fun t =>
      t.fuse = { s.fuse with ownerDigest := tabSet s.fuse.ownerDigest ((k - 1) / 3) d, lcCount := k + 1 } ∧
      t.flash.ownerToken = some (d, fm) ∧ t.trust.fmKey = some fm ∧ lcState t.fuse = 2)) ∧
    (taken 4 → lc = 2 → byOwner s tok = true → s.trust.fmSerial < ser → s.trust.kT = transportK s.fuse →
      does (.setFmKey tr id tok ser fm) 4 (fun t => t.fuse = s.fuse ∧ t.flash.fmToken = some (ser, fm) ∧
        t.trust.fmKey = some fm ∧ t.trust.fmSerial = ser)) ∧
    (taken 5 → lc = 2 → k < 32 → byOwner s tok = true → noCtx → does (.returnLc tr id tok) 5 (fun t =>
      t.fuse = { s.fuse with lcCount := k + 1 } ∧ erased t ∧ lcState t.fuse = 3 ∧ t.trust.kT = none)) ∧
    (taken 6 → lc = 3 → byVillaholt tok = true → does (.reprovision tr id tok) 6 (fun t =>
      t.fuse = { s.fuse with lcCount := k + 1 } ∧ t.trust.debugOpen = false ∧ lcState t.fuse = 1)) ∧
    (taken 7 → lc = 3 → byVillaholt tok = true → s.trust.kT = transportK s.fuse → does (.ledgerClear tr id tok) 7 (fun t =>
      t.fuse = s.fuse ∧ t.flash.pair0 = [] ∧ t.flash.pair1 = [] ∧ t.flash.seqNext = nextSeq s.flash ∧
      ∀ c, (coreAt s c).st = .retired → (dieAt s (dieOf c)).gapReason = 0 → (coreAt t c).st = .spare)) ∧
    (taken 8 → (lc = 1 ∨ lc = 3) → byVillaholt tok = true → s.trust.kT = transportK s.fuse →
      does (.debugUnlock tr id tok) 8 (fun t => t.fuse = s.fuse ∧ t.trust.debugOpen = true)) ∧
    (taken 9 → (lc = 2 ∧ byOwner s tok = true ∨ (lc = 1 ∨ lc = 3) ∧ byVillaholt tok = true) → noCtx →
      does (.lcRetire tr id tok) 9 (fun t =>
        t.fuse = { s.fuse with lcRetired := true } ∧ erased t ∧ lcState t.fuse = 4 ∧ t.trust.kT = none)) ∧
    (lc = 0 → ∃ t : State, exec (.provisioning cert) s = .next t ∧
      t.fuse = { s.fuse with uds := true, lcCount := 1, devidCert := cert } ∧ t.trust.kT = transportK t.fuse) ∧
    (lc ≠ 0 → exec (.provisioning cert) s = .next s)

/-- RETURN and RETIRE while a context is ACTIVE: it is torn down first, no fuse is burned, and no answer is sent before every
context is FREE (R356, R377). -/
def Sys2Proof.Claims.LifeCycleWaits : Prop :=
  ∀ (s : State) (tr : Transport) (id n op : Nat) (tok : Token), n < 16 → (ctxAt s n).st = .active → spdmUp s = true →
    inSession s tr id = true → s.trust.transition = none → tok.opcode = op → tok.serial = s.fuse.serial →
    tok.k = s.fuse.lcCount → s.trust.nonce = some tok.nonce → lcState s.fuse = 2 → byOwner s tok = true →
    (∀ m, m < 16 → entsOf s m = []) →
    (op = 5 → s.fuse.lcCount < 32 → ∃ t : State, exec (.returnLc tr id tok) s = .next t ∧ t.fuse = s.fuse ∧
      (ctxAt t n).st = .stopping ∧ t.out = s.out ∧ t.trust.transition = some (.ret, tr)) ∧
    (op = 9 → ∃ t : State, exec (.lcRetire tr id tok) s = .next t ∧ t.fuse = s.fuse ∧ (ctxAt t n).st = .stopping ∧
      t.out = s.out ∧ t.trust.transition = some (.retire, tr))

/-- Tokens and the life cycle: TokensRefused, LifeCycle, LifeCycleWaits, as said at each. -/
def Obligations.LifeCycleSteps : Prop :=
  Sys2Proof.Claims.TokensRefused ∧ Sys2Proof.Claims.LifeCycle ∧ Sys2Proof.Claims.LifeCycleWaits

/-- An image is judged by the first check of R373 that it fails, and passes exactly where it fails none (R373). -/
def Sys2Proof.Claims.ImageChecks : Prop :=
  ∀ (f : Fuse) (flash : Bool) (i : FwImage),
    let c1 := flash = true ∧ i.readOk = false
    let c2 := i.hdrOk = false
    let c3 := i.keySlot ∈ f.revoked
    let c4 := f.keyDigest[i.keySlot]? ≠ some i.pubDigest
    let c5 := i.sigOk = false
    let c6 := i.svn < f.svn
    let c7 := i.bodyOk = false
    let c8 := i.bodyLen = 0 ∨ 15728640 < i.bodyLen ∨ i.lenOk = false
    let v := verifyImage f flash i
    (v = 0 ↔ ¬ c1 ∧ ¬ c2 ∧ ¬ c3 ∧ ¬ c4 ∧ ¬ c5 ∧ ¬ c6 ∧ ¬ c7 ∧ ¬ c8) ∧ (v = 1 ↔ c1) ∧ (v = 2 ↔ ¬ c1 ∧ c2) ∧
    (v = 3 ↔ ¬ c1 ∧ ¬ c2 ∧ c3) ∧ (v = 4 ↔ ¬ c1 ∧ ¬ c2 ∧ ¬ c3 ∧ c4) ∧ (v = 5 ↔ ¬ c1 ∧ ¬ c2 ∧ ¬ c3 ∧ ¬ c4 ∧ c5) ∧
    (v = 6 ↔ ¬ c1 ∧ ¬ c2 ∧ ¬ c3 ∧ ¬ c4 ∧ ¬ c5 ∧ c6) ∧ (v = 7 ↔ ¬ c1 ∧ ¬ c2 ∧ ¬ c3 ∧ ¬ c4 ∧ ¬ c5 ∧ ¬ c6 ∧ c7) ∧
    (v = 8 ↔ ¬ c1 ∧ ¬ c2 ∧ ¬ c3 ∧ ¬ c4 ∧ ¬ c5 ∧ ¬ c6 ∧ ¬ c7 ∧ c8)

/-- GO: while a push runs it is ignored; with no length it ends at once with RESULT 0x08; otherwise the push begins and no
register but the push's own changes; outside recovery and READY the block is not there (R375, R377). -/
def Sys2Proof.Claims.PushBegins : Prop :=
  ∀ (s : State) (img : Option FwImage) (ok : Bool),
    (secUp s = false → exec (.go img) s = .next s ∧ exec (.goPersist img ok) s = .next s) ∧
    (secUp s = true →
      (s.trust.rcvBusy = true → exec (.go img) s = .next s ∧ exec (.goPersist img ok) s = .next s) ∧
      (s.trust.rcvBusy = false → s.trust.rcvLen = 0 → ∀ c ∈ [Instr.go img, .goPersist img ok],
        exec c s = .next { s with trust := { s.trust with rcvPhase := 5, rcvDone := true, rcvResult := 8 } }) ∧
      (s.trust.rcvBusy = false → s.trust.rcvLen ≠ 0 →
        exec (.go img) s = .next { s with trust := { s.trust with
          rcvBusy := true, rcvPhase := 1, rcvResult := 0, push := some { persist := false, image := img, flashOk := true } } } ∧
        exec (.goPersist img ok) s = .next { s with trust := { s.trust with
          rcvBusy := true, rcvPhase := 1, rcvResult := 0, push := some { persist := true, image := img, flashOk := ok } } }))

/-- Image checks and pushes: ImageChecks, PushBegins, as said at each. -/
def Obligations.Images : Prop :=
  Sys2Proof.Claims.ImageChecks ∧ Sys2Proof.Claims.PushBegins

/-- Idle tests: the sweep tests a SPARE core in its place, moves the station of a core in use to a fresh spare at the next
boundary, counts a core for which there is none and passes it, and counts without advancing where a limit is exceeded; a test
that passes clears the core, leaves it SPARE and forgets its suspicion; one that fails fences it, with a ledger record under
the reason of its suspicion, and each is counted; a core that has left service meanwhile stays out of it (R24, R136, R381 to R384). -/
def Sys2Proof.Claims.IdleTests : Prop :=
  ∀ (s : State) (b : Nat), b < 16 →
    let x := basinAt s b
    let cnt (t : State) (i : Nat) : Nat := tabGet t.tst.ctr i 0
    (sweepDue s b = false → exec (.idleSweepStep b) s = .next s) ∧
    (∀ i k : Nat, sweepDue s b = true → nextSweep s b x.sweepPos = some (i, k) → basinOf k = b → (dieAt s (dieOf k)).margin = 0 →
      (coreAt s k).held = false → (coreAt s k).reserved = false → moving s k = false →
      (testAllowed s k = false → exec (.idleSweepStep b) s = .next (bumpTst s 5 1)) ∧
      (testAllowed s k = true → (coreAt s k).st = .spare → (coreAt s k).suspect = none →
        ∃ t : State, exec (.idleSweepStep b) s = .next t ∧
          coreAt t k = { coreAt s k with st := .underTest, bankOn := List.range 48 } ∧
          (basinAt t b).underTest = some k ∧ (basinAt t b).sweepPos = (i + 1) % 576 ∧ cnt t 0 = (cnt s 0 + 1) % 2 ^ 64 ∧
          (∀ j, j ≠ k → coreAt t j = coreAt s j) ∧ t.ctxs = s.ctxs ∧ t.mesh = s.mesh ∧ t.heal = s.heal) ∧
      (∀ slot n : Nat, testAllowed s k = true → (coreAt s k).st = .inUse → (coreAt s k).slot = some slot → x.ctx = some n →
        pathBusy s n = false →
        (∀ j : Nat, spareFor s n k (isFresh s) = some j →
          ∃ t : State, exec (.idleSweepStep b) s = .next t ∧
            t.mesh.staged = s.mesh.staged ++ [{ ctx := n, moves := [(slot, k, j)] }] ∧
            coreAt t j = { coreAt s j with reserved := true } ∧ (∀ i, i ≠ j → coreAt t i = coreAt s i) ∧
            cnt t 4 = (cnt s 4 + 1) % 2 ^ 64 ∧ (basinAt t b).sweepPos = (i + 1) % 576) ∧
        (spareFor s n k (isFresh s) = none →
          ∃ t : State, exec (.idleSweepStep b) s = .next t ∧ t.cores = s.cores ∧ t.mesh = s.mesh ∧
            cnt t 6 = (cnt s 6 + 1) % 2 ^ 64 ∧ (basinAt t b).sweepPos = (i + 1) % 576))) ∧
    (∀ (pass : Bool), x.underTest = none → exec (.idleTest b pass) s = .next s) ∧
    (∀ (k : Nat) (pass : Bool), x.underTest = some k → (coreAt s k).st ≠ .underTest →
      exec (.idleTest b pass) s = .next (putBasin s b { x with underTest := none })) ∧
    (∀ k : Nat, x.underTest = some k → (coreAt s k).st = .underTest →
      (∃ t : State, exec (.idleTest b true) s = .next t ∧ (basinAt t b).underTest = none ∧
        coreAt t k = { clearedCore (coreAt s k) with
          st := .spare, suspect := none, lastPass := some s.sup.ticks,
          lastPrio := if (coreAt s k).suspect.isSome then some s.sup.ticks else (coreAt s k).lastPrio, window := [] } ∧
        cnt t 1 = (cnt s 1 + 1) % 2 ^ 64 ∧ (∀ j, j ≠ k → coreAt t j = coreAt s j) ∧ t.heal = s.heal) ∧
      (∃ t : State, exec (.idleTest b false) s = .next t ∧ (basinAt t b).underTest = none ∧
        coreAt t k = { clearedCore (coreAt s k) with st := .fenced } ∧ (∀ j, j ≠ k → coreAt t j = coreAt s j) ∧
        t.heal.ledgerQ = s.heal.ledgerQ ++
          [{ type := 1, reason := (coreAt s k).suspect.getD 1, target := k, detail := 0, cmd := none }] ∧
        cnt t 2 = (cnt s 2 + 1) % 2 ^ 64 ∧ cnt t 18 = (cnt s 18 + 1) % 2 ^ 64))

/-- Priority tests: the first suspect core of a basin, where it is SPARE, is tested at once and counted; where it is in use its
station moves to any SPARE core first; one that is suspect again within 24 hours of a priority test that it passed is fenced
without a further test (R379, R383). -/
def Sys2Proof.Claims.PriorityTests : Prop :=
  ∀ (s : State) (b k : Nat), b < 16 → (basinAt s b).underTest = none → s.glb.ready = true →
    (coresOfBasin b).find? (prioDue s) = some k → basinOf k = b →
    let c := coreAt s k
    let cnt (t : State) (i : Nat) : Nat := tabGet t.tst.ctr i 0
    (secondTime s k = false → c.st = .spare → c.held = false → c.reserved = false → testAllowed s k = true →
      ∃ t : State, exec (.priorityTest b) s = .next t ∧ coreAt t k = { c with st := .underTest, bankOn := List.range 48 } ∧
        (basinAt t b).underTest = some k ∧ cnt t 0 = (cnt s 0 + 1) % 2 ^ 64 ∧ cnt t 3 = (cnt s 3 + 1) % 2 ^ 64 ∧
        (∀ j, j ≠ k → coreAt t j = coreAt s j)) ∧
    (∀ slot n j : Nat, secondTime s k = false → c.st = .inUse → c.slot = some slot → (basinAt s b).ctx = some n →
      pathBusy s n = false → spareFor s n k (freeSpare s) = some j →
      ∃ t : State, exec (.priorityTest b) s = .next t ∧
        t.mesh.staged = s.mesh.staged ++ [{ ctx := n, moves := [(slot, k, j)] }] ∧
        coreAt t j = { coreAt s j with reserved := true } ∧ (∀ i, i ≠ j → coreAt t i = coreAt s i)) ∧
    (secondTime s k = true → c.st = .spare →
      ∃ t : State, exec (.priorityTest b) s = .next t ∧ coreAt t k = { c with st := .fenced } ∧
        (∀ j, j ≠ k → coreAt t j = coreAt s j) ∧
        t.heal.ledgerQ = s.heal.ledgerQ ++
          [{ type := 1, reason := c.suspect.getD 1, target := k, detail := 0, cmd := none }] ∧ cnt t 0 = cnt s 0)

/-- Idle and priority tests of cores: IdleTests, PriorityTests, as said at each. -/
def Obligations.CoreTests : Prop :=
  Sys2Proof.Claims.IdleTests ∧ Sys2Proof.Claims.PriorityTests

/-- Checks of firings: the checker, set up as a placement of the station with its CARRY pages and its banks, recomputes the firing
over the log; equal digests then end the check and count it; different ones have a third core recompute the firing, or give
the check up where none can be found; a log given up, or 5 ms after the firing's end, abandons the check; where the third
digest equals the checker's the die of the station's core becomes suspect with that core found wrong, where it equals the
station's the checker's die does, and where all three differ every W-class page of the station's core is hashed: pages that
fail are refilled, and with none the station's home basin is reset (R91, R386 to R390, R402). -/
def Obligations.FiringChecks : Prop :=
  ∀ (s : State) (c : Check) (l : CheckLog),
    let cnt (t : State) (i : Nat) : Nat := tabGet t.tst.ctr i 0
    let ended (t : State) : Prop :=
      t.heal.checks = s.heal.checks.erase c ∧ (coreAt t c.core).check = none ∧ (coreAt t c.core).st = (coreAt s c.core).st
    let starts (i : Instr) (j : Nat) : Prop :=
      ∃ t : State, exec i s = .next t ∧ (coreAt t j).replay = some l.beats ∧ (coreAt t j).scaleTab = l.scale ∧
        (coreAt t j).slot = none ∧ (coreAt t j).st = (coreAt s j).st ∧ (coreAt t j).reserved = true ∧
        (∀ a, isCarry (coreAt s c.core) a = true → memGet (coreAt t j).mem a = memGet (coreAt s c.core).mem a) ∧
        (∀ i, i ≠ j → coreAt t i = coreAt s i) ∧ t.heal = s.heal
    let placeable (j : Nat) (lay : Layout) (y : Station) : Prop :=
      (ctxAt s (ownerOf s (basinOf j))).layout = some lay ∧ (coreAt s c.core).station = some y ∧
      waitPages s (ownerOf s (basinOf j)) (basinOf j) y = [] ∧ Memory.wf (coreAt s c.core).mem = true
    let differs (v : Bool) : Prop :=
      (∀ j : Nat, chooseChecker s c.core [dieOf c.core, dieOf c.checker] = some j →
        ∃ t : State, exec (.checkCompare v) s = .next t ∧ coreAt t j = { coreAt s j with reserved := true } ∧
          t.heal.checks = s.heal.checks.map (fun d => if d = c then { c with third := some j } else d) ∧
          (∀ i, i ≠ j → coreAt t i = coreAt s i) ∧ cnt t 9 = (cnt s 9 + 1) % 2 ^ 64 ∧ cnt t 10 = (cnt s 10 + 1) % 2 ^ 64) ∧
      (chooseChecker s c.core [dieOf c.core, dieOf c.checker] = none →
        ∃ t : State, exec (.checkCompare v) s = .next t ∧ ended t ∧ cnt t 9 = (cnt s 9 + 1) % 2 ^ 64 ∧
          cnt t 11 = (cnt s 11 + 1) % 2 ^ 64)
    (s.heal.checks.find? (comparable s) = some c → decidable s c c.checker = some l →
      (∀ v : Bool, l.abandoned = true →
        ∃ t : State, exec (.checkCompare v) s = .next t ∧ ended t ∧ cnt t 11 = (cnt s 11 + 1) % 2 ^ 64 ∧ t.ctxs = s.ctxs) ∧
      (∀ (v : Bool) lay y, l.abandoned = false → replayLog s c.checker = none → placeable c.checker lay y →
        starts (.checkCompare v) c.checker) ∧
      (∀ r, l.abandoned = false → replayLog s c.checker = some r →
        (fireDigest l = fireDigest r →
          ∃ t : State, exec (.checkCompare true) s = .next t ∧ ended t ∧ cnt t 8 = (cnt s 8 + 1) % 2 ^ 64 ∧ t.ctxs = s.ctxs) ∧
        (fireDigest l ≠ fireDigest r → differs true) ∧ differs false)) ∧
    (s.heal.checks.find? (checkLate s) = some c →
      ∃ t : State, exec .checkTimeout s = .next t ∧ ended t ∧ cnt t 11 = (cnt s 11 + 1) % 2 ^ 64) ∧
    (s.heal.checks.find? (checkLate s) = none → exec .checkTimeout s = .next s) ∧
    (∀ (j : Nat) (eq : ThirdEq) lay y, s.heal.checks.find? (thirdDone s) = some c → c.third = some j → decidable s c j = some l →
      l.abandoned = false → replayLog s j = none → placeable j lay y → starts (.thirdCoreResult eq) j) ∧
    (∀ (j : Nat) (eq : ThirdEq) (q r : CheckLog), s.heal.checks.find? (thirdDone s) = some c → c.third = some j →
      decidable s c j = some l → replayLog s c.checker = some q → replayLog s j = some r → s.heal.paths = [] →
      let v := thirdEq (fireDigest l) (fireDigest q) (fireDigest r) eq
      (v = .checker → (dieAt s (dieOf c.core)).retired = false →
        ∃ t : State, exec (.thirdCoreResult eq) s = .next t ∧ (dieAt t (dieOf c.core)).suspect ≠ none ∧
          ∃ p ∈ t.heal.paths, p.die = dieOf c.core ∧ p.core = none ∧ p.reason = 2 ∧ p.wrong = some c.core) ∧
      (v = .station → (dieAt s (dieOf c.checker)).retired = false →
        ∃ t : State, exec (.thirdCoreResult eq) s = .next t ∧ (dieAt t (dieOf c.checker)).suspect ≠ none ∧
          ∃ p ∈ t.heal.paths, p.die = dieOf c.checker ∧ p.core = none ∧ p.reason = 2 ∧ p.wrong = none) ∧
      (∀ y : Station, v = .none → (coreAt s c.core).station = some y → (coreAt s c.core).replay = none → c.core ≠ c.checker →
        j ≠ c.core →
        let good (p : Nat) : Bool :=
          sha256 (memRead (coreAt s c.core).mem (p * 65536) 65536) == tabGet (coreAt s c.core).fillDigest p 0
        ∃ t : State, exec (.thirdCoreResult eq) s = .next t ∧
          (∀ p ∈ wPages y, good p = false → ∃ r ∈ t.heal.refills, r.core = c.core ∧ r.page = p) ∧
          ((wPages y).all good = true → s.rst.cur = none →
            ∃ r : Reset, t.rst.cur = some r ∧ r.set = [c.slot / 1024 % 16] ∧ r.trigger = evCheckDisagree ∧
              r.stage = .waiting)))

/-- Die paths: an ageing reading below its threshold makes its die suspect and opens a path; a path takes as its cut the first
microbatch that no station of the die has begun and holds the stations there; a quiescent one is fenced: its cores are FENCED,
its stations move to the new cores, to which what is addressed to the old ones is forwarded, the die is retired and its ledger
record asked for; one that is not quiescent at the limit is fenced then, and its basin is reset
(R378, R380, R393 to R396). -/
def Sys2Proof.Claims.DiePaths : Prop :=
  ∀ (s : State) (d : Nat), d < 64 →
    (∃ t : State, exec (.agingMonitorRead [d]) s = .next t ∧
      ((dieAt s d).retired = false → (dieAt t d).suspect ≠ none ∧
        (s.heal.paths = [] → ∃ p ∈ t.heal.paths, p.die = d ∧ p.core = none ∧ p.reason = 4 ∧ p.t0 = s.sup.ticks)) ∧
      ((dieAt s d).retired = true → t = s)) ∧
    exec (.agingMonitorRead []) s = .next s ∧
    (∀ p : DiePath, s.heal.paths.find? (pathReady s d) = some p → (dieAt s d).retired = false → p.die = d →
      (p.begun = false → s.heal.checks = [] → (basinAt s (basinOfDie d)).underTest = none →
        ∃ t : State, exec (.dieQuiesce d) s = .next t ∧
          { p with begun := true, cut := cutOf s (pathCores s p), margin := pathFallsBack s p } ∈ t.heal.paths ∧
          ∀ k ∈ pathCores s p, (coreAt t k).stopAt = some (cutOf s (pathCores s p))) ∧
      (p.begun = true → p.margin = true →
        ∃ t : State, exec (.dieQuiesce d) s = .next t ∧ { p with settling := true, wrong := none } ∈ t.heal.paths ∧
          t.cores = s.cores ∧ t.dies = s.dies) ∧
      (p.begun = true → p.margin = false → p.core = none → (pathMoves s p).length = (pathCores s p).length →
        ∃ t : State, exec (.dieQuiesce d) s = .next t ∧ p ∉ t.heal.paths ∧ (dieAt t d).retired = true ∧
          (∀ k ∈ pathCores s p, (coreAt t k).st = .fenced) ∧
          (∀ m ∈ pathMoves s p,
            ({ slot := m.2.1, from_ := m.1, to_ := m.2.2, fault := true, test := false } : Move) ∈ t.mesh.moves ∧
            (m.1, m.2.2) ∈ (dieAt t d).forwarding) ∧
          ∃ j ∈ t.heal.ledgerQ, j.type = 2 ∧ j.reason = p.reason ∧ j.target = d)) ∧
    (∀ p : DiePath, s.heal.paths.find? (pathOverdue s d) = some p → s.rst.cur = none → p.core = none →
      (pathMoves s p).length = (pathCores s p).length →
      ∃ t : State, exec (.quiesceTimeout d) s = .next t ∧ p ∉ t.heal.paths ∧ (dieAt t p.die).retired = true ∧
        tabGet t.tst.ctr 21 0 = (tabGet s.tst.ctr 21 0 + 1) % 2 ^ 64 ∧
        ∃ r : Reset, t.rst.cur = some r ∧ r.set = [basinOfDie d] ∧ r.trigger = evQuiesceTimeout ∧ r.stage = .waiting) ∧
    (s.heal.paths.find? (pathOverdue s d) = none → exec (.quiesceTimeout d) s = .next s)

/-- The copies that end a move: off a fenced core once what reached it has settled, and off the core of a staged move once the
old bank is retired and it has run empty; the new core then holds the CARRY pages, the firing number, both sides of the
channels and the sync table, where nothing that it held comes before (the accesses held are served first); the old core is
cleared, and one that a staged move left is tested or waits for its test, unless it has left service; state that cannot be read,
or a new core that has left service, sends the basin to a reset (R24, R153, R155, R178, R383, R395, R396). -/
def Sys2Proof.Claims.StationsResume : Prop :=
  ∀ (s : State) (m : Move),
    let old := coreAt s m.from_
    let new := coreAt s m.to_
    let landed (t : State) : Prop :=
      t.mesh.moves = s.mesh.moves.erase m ∧ (coreAt t m.to_).holding = false ∧ (coreAt t m.to_).firing = old.firing ∧
      (coreAt t m.to_).inEp = old.inEp ∧ (coreAt t m.to_).outEp = old.outEp ∧ (coreAt t m.to_).rounds = old.rounds ∧
      (coreAt t m.to_).sync = old.sync ∧
      ∀ a, memGet (coreAt t m.to_).mem a = if isCarry old a then memGet old.mem a else memGet (coreAt s m.to_).mem a
    let lost (t : State) : Prop :=
      t.mesh.moves = s.mesh.moves.erase m ∧
      (s.rst.cur = none → ∃ r : Reset, t.rst.cur = some r ∧ r.set = [basinOf m.from_] ∧ r.trigger = evQuiesceTimeout) ∧
      (s.rst.cur = none → (coreAt t m.from_).slot = none ∧ ∀ a, memGet (coreAt t m.from_).mem a = 0)
    (s.mesh.moves.find? (faultCopy m.to_) = some m → m.to_ < nCores → m.from_ ≠ m.to_ → Memory.wf old.mem = true →
      old.poisonCw = [] →
      (new.st = .inUse → oldSettled old = true → fillsDone s m.to_ = true → new.svc = [] →
        ∃ t : State, exec (.stationResume m.to_ true) s = .next t ∧ landed t ∧ coreAt t m.from_ = clearedCore old) ∧
      (new.st = .inUse → oldSettled old = false → exec (.stationResume m.to_ true) s = .next s) ∧
      (new.st ≠ .inUse → ∃ t : State, exec (.stationResume m.to_ true) s = .next t ∧ lost t) ∧
      (∃ t : State, exec (.stationResume m.to_ false) s = .next t ∧ lost t)) ∧
    (s.mesh.moves.find? (stagedCopy m.slot) = some m → m.from_ ≠ m.to_ → Memory.wf old.mem = true →
      (s.mesh.oldBank = true → ∀ ok, exec (.carryCopyComplete m.slot ok) s = .next s) ∧
      (s.mesh.oldBank = false → s.mesh.flipping = false →
        (new.st = .inUse → oldSettled old = true → unitsIdle old = true → fillsDone s m.to_ = true → new.svc = [] →
          ∃ t : State, exec (.carryCopyComplete m.slot true) s = .next t ∧ landed t ∧
            (old.st.good = false → coreAt t m.from_ = clearedCore old) ∧
            (old.st.good = true → (basinAt s (basinOf m.from_)).underTest = none →
              coreAt t m.from_ = { clearedCore old with st := .underTest, bankOn := List.range 48 } ∧
              (basinAt t (basinOf m.from_)).underTest = some m.from_) ∧
            (old.st.good = true → (basinAt s (basinOf m.from_)).underTest ≠ none →
              coreAt t m.from_ = { clearedCore old with st := .spare } ∧
              (basinAt t (basinOf m.from_)).testOrder = (basinAt s (basinOf m.from_)).testOrder ++ [m.from_])) ∧
        (new.st = .inUse → unitsIdle old = false → exec (.carryCopyComplete m.slot true) s = .next s) ∧
        (new.st ≠ .inUse → ∃ t : State, exec (.carryCopyComplete m.slot true) s = .next t ∧ lost t) ∧
        (∃ t : State, exec (.carryCopyComplete m.slot false) s = .next t ∧ lost t)))

/-- Margin steps: once the rail has settled the core PLL relocks at the next step and the proof run begins; a pass in which
every core in use has its checks ends the suspicion and asks for a MARGIN record; a core found wrong takes the die to the next
step, or to the fence after step 5; without checkers the die goes to the fence (R399, R400, R461). -/
def Sys2Proof.Claims.MarginSteps : Prop :=
  ∀ (s : State) (d : Nat), d < 64 →
    (∀ p : DiePath, s.heal.paths.find? (pathSettles d) = some p →
      ∃ t : State, exec (.corePllRelock d) s = .next t ∧
        (dieAt t d).margin = (nextMargin (dieAt s d).margin).getD (dieAt s d).margin ∧
        { p with settling := false, proof := true, failed := false } ∈ t.heal.paths ∧ t.flash = s.flash ∧
        ∀ e, e ≠ d → dieAt t e = dieAt s e) ∧
    (s.heal.paths.find? (pathSettles d) = none → exec (.corePllRelock d) s = .next s) ∧
    (∀ p : DiePath, s.heal.paths.find? (pathProves d) = some p →
      let again (margin : Bool) (t : State) : Prop :=
        { p with proof := false, failed := false, margin := margin, cut := cutOf s (pathCores s p), t0 := s.sup.ticks }
          ∈ t.heal.paths ∧ t.dies = s.dies ∧
        ∀ k ∈ pathCores s p, (coreAt t k).stopAt = some (cutOf s (pathCores s p))
      (∀ v : Bool, ∃ t : State, exec (.proofRunComplete d v false) s = .next t ∧ again false t) ∧
      (p.failed = true →
        ∃ t : State, exec (.proofRunComplete d false true) s = .next t ∧
          again (nextMargin (dieAt s d).margin).isSome t) ∧
      (p.failed = false → (∀ k ∈ pathCores s p, proofFirings s ≤ tabGet s.heal.proofs k 0) →
        ∃ t : State, exec (.proofRunComplete d true true) s = .next t ∧ p ∉ t.heal.paths ∧ (dieAt t d).suspect = none ∧
          (dieAt t d).margin = (dieAt s d).margin ∧ t.cores = s.cores ∧
          t.heal.ledgerQ = s.heal.ledgerQ ++
            [{ type := 3, reason := p.reason, target := d, detail := (dieAt s d).margin, cmd := none }] ∧
          tabGet t.tst.ctr 20 0 = (tabGet s.tst.ctr 20 0 + 1) % 2 ^ 64))

/-- Weights against their digests: a page that waits for its refill is written with its signed bytes and their digest; a sweep
puts a shard copy on hold exactly where its hash is not the DIGEST, and a reload that verifies writes the copy and lifts the
hold (R402 to R405). -/
def Sys2Proof.Claims.WeightsRestored : Prop :=
  ∀ (s : State) (b i : Nat), b < 16 →
    (∀ (r : Refill) (bs : List Byte), s.heal.refills.find? (refillDue s) = some r → refillBytes s r = some bs →
      ∃ t : State, exec .weightRefill s = .next t ∧ t.heal.refills = s.heal.refills.erase r ∧
        memRead (coreAt t r.core).mem (r.page * 65536) bs.length = bs ∧
        tabGet (coreAt t r.core).fillDigest r.page 0 = sha256 bs ∧ ∀ k, k ≠ r.core → coreAt t k = coreAt s k) ∧
    (s.heal.refills.find? (refillDue s) = none → exec .weightRefill s = .next s) ∧
    (∀ (n : Nat) (h : Shard), (basinAt s b).ctx = some n → shardNo s n i = some h → h.id = i →
      let d := sha256 (memRead (hbmAt s b).mem (h.hbmOff * 65536) h.length)
      (bitAt h.good b = true → (hbmAt s b).withdrawn = false → onHold s b n i = false →
        ∃ t : State, exec (.shardSweep b i) s = .next t ∧ (onHold t b n i = true ↔ d ≠ h.digest) ∧
          (hbmAt t b).mem = (hbmAt s b).mem ∧ (n, i, d) ∈ (hbmAt t b).sweeps ∧
          (d ≠ h.digest → (n, b, i) ∈ t.heal.reloads) ∧ (d = h.digest → t.heal = s.heal)) ∧
      (∀ (data bs : List Byte), onHold s b n i = true → (hbmAt s b).withdrawn = false → reloadBytes s n b h data = some bs →
        (sha256 bs = h.digest →
          ∃ t : State, exec (.shardReloaded b i data) s = .next t ∧ onHold t b n i = false ∧
            memRead (hbmAt t b).mem (h.hbmOff * 65536) bs.length = bs ∧
            tabGet t.tst.ctr 17 0 = (tabGet s.tst.ctr 17 0 + 1) % 2 ^ 64) ∧
        (sha256 bs ≠ h.digest → exec (.shardReloaded b i data) s = .next s)) ∧
      (onHold s b n i = false → ∀ data, exec (.shardReloaded b i data) s = .next s))

/-- RETIRE and the ledger: a core or a die within the grant leaves service with reason HOST_REQUEST and no test, and the
command waits for its record; what has left service already answers at once, and a target outside the grant is refused; a
record written is in both copies with the next SEQ, makes its FENCED core RETIRED, and completes the RETIRE that waits for it;
compaction moves the live records to the other sector pair, numbered on (R24, R27, R30, R31, R331, R378). -/
def Sys2Proof.Claims.Retirements : Prop :=
  ∀ (s : State) (n : Nat) (h : HCmd),
    (TakesCmd s n 0xF h →
      let t' := cmdField h 8 2
      let kind := cmdField h 10 1
      let c := coreAt s t'
      (1 < kind → ∃ t : State, exec (.retire n) s = .next t ∧ Ended s t n h 2 ∧ t.cores = s.cores ∧ t.heal = s.heal) ∧
      (kind = 0 → ¬ (t' < nCores ∧ (basinAt s (basinOf t')).ctx = some n) →
        ∃ t : State, exec (.retire n) s = .next t ∧ Ended s t n h 0x13 ∧ t.cores = s.cores ∧ t.heal = s.heal) ∧
      (kind = 0 → t' < nCores → (basinAt s (basinOf t')).ctx = some n →
        (c.st = .shipDefect ∨ c.st = .retired →
          ∃ t : State, exec (.retire n) s = .next t ∧ Answered s t n h 0 (goodOf s n) 0 ∧ t.cores = s.cores) ∧
        (c.st = .spare ∨ c.st = .underTest →
          ∃ t : State, exec (.retire n) s = .next t ∧ (coreAt t t').st = .fenced ∧ (ctxAt t n).comps = (ctxAt s n).comps ∧
            t.heal.ledgerQ = s.heal.ledgerQ ++
              [{ type := 1, reason := 7, target := t', detail := 0, cmd := some (n, cmdTag h, h.ring, cmdNoIrq h, 0) }]) ∧
        (c.st = .inUse → moving s t' = false → (dieAt s (dieOf t')).retired = false → s.heal.paths = [] →
          ∃ t : State, exec (.retire n) s = .next t ∧ (ctxAt t n).comps = (ctxAt s n).comps ∧
            ∃ p ∈ t.heal.paths, p.die = dieOf t' ∧ p.core = some t' ∧ p.reason = 7 ∧
              p.cmd = some (n, cmdTag h, h.ring, cmdNoIrq h, 0))) ∧
      (kind = 1 → t' < 64 → (basinAt s (basinOfDie t')).ctx = some n → (dieAt s t').retired = false → s.heal.paths = [] →
        ∃ t : State, exec (.retire n) s = .next t ∧ (ctxAt t n).comps = (ctxAt s n).comps ∧
          ∃ p ∈ t.heal.paths, p.die = t' ∧ p.core = none ∧ p.reason = 7 ∧
            p.cmd = some (n, cmdTag h, h.ring, cmdNoIrq h, 0))) ∧
    (∀ (j : LJob) (rest : List LJob), s.heal.ledgerQ = j :: rest →
      let r : LRec := { seq := nextSeq s.flash, type := j.type, reason := j.reason, target := j.target,
                        boot := s.sup.bootCount % 65536, detail := j.detail }
      ∃ t : State, exec .ledgerRecordWritten s = .next t ∧ t.heal.ledgerQ = rest ∧
        ledgerPair t.flash = ledgerPair s.flash ++ [{ a := some r, b := some r }] ∧ r.seq < t.flash.seqNext ∧
        (j.type = 1 → (coreAt s j.target).st = .fenced → (dieAt s (dieOf j.target)).retireTicks = [] → (coreAt t j.target).st = .retired) ∧
        (∀ tag ring q st, j.cmd = some (n, tag, ring, q, st) → (ctxAt s n).st.closing = false →
          (ctxAt t n).comps = (ctxAt s n).comps ++ [comp tag ring st (goodOf s n) 0 q])) ∧
    (s.heal.ledgerQ = [] → exec .ledgerRecordWritten s = .next s) ∧
    (∃ t : State, exec .ledgerCompaction s = .next t ∧ t.flash.usePair1 = !s.flash.usePair1 ∧
      ledgerPair t.flash = renumber (nextSeq s.flash) (liveRecs ((ledgerPair s.flash).filterMap posRec)) ∧
      (if s.flash.usePair1 then t.flash.pair1 = [] else t.flash.pair0 = []) ∧ t.cores = s.cores ∧ t.heal = s.heal)

/-- Paths, moved stations, margin steps, refills and retirements: DiePaths, StationsResume, MarginSteps, WeightsRestored,
Retirements, as said at each. -/
def Obligations.HealingMoves : Prop :=
  Sys2Proof.Claims.DiePaths ∧ Sys2Proof.Claims.StationsResume ∧ Sys2Proof.Claims.MarginSteps ∧ Sys2Proof.Claims.WeightsRestored ∧ Sys2Proof.Claims.Retirements

/-- A reset stops its set: a partial drain ends when every station of the set has run through the cut or has stopped, or when
nothing has moved for 50 µs, and not before; at step 1 the reset collects, every core of the set is HELD and every controller
of it answers as R269 states, with the array as it was; cores of other basins keep their state where nothing was in hand for
the context (R418, R420, R421). -/
def Sys2Proof.Claims.ResetStops : Prop :=
  ∀ (s : State) (r : Reset), s.rst.cur = some r →
    (r.stage = .partialDrain →
      let done := (coresIn s r.set).all (fun k => ranTo (coreAt s k) (r.cut + 1) || faultStopped (coreAt s k)) = true ∨
        noProgress s r.ctx = true
      (done → exec .partialDrainComplete s = .next { s with rst := { s.rst with cur := some { r with stage := .waiting } } }) ∧
      (¬ done → exec .partialDrainComplete s = .next s)) ∧
    (r.stage ≠ .partialDrain → exec .partialDrainComplete s = .next s) ∧
    (r.stage = .waiting →
      ∃ t : State, exec .basinReset s = .next t ∧
        (∀ b ∈ r.set, (basinAt t b).resetting = true ∧ (hbmAt t b).resetting = true ∧ (hbmAt t b).mem = (hbmAt s b).mem ∧
          ∀ k ∈ coresOfBasin b, (coreAt t k).held = true) ∧
        (s.heal.paths = [] → s.heal.checks = [] → s.mesh.moves = [] → s.mesh.drains = [] →
          (∀ b ∈ r.set, ∀ o ∈ (basinAt s b).objs, o.2.waiting = []) →
          t.rst.cur = some { r with stage := .collect, start := s.sup.ticks } ∧
          (∀ k, (∀ b ∈ r.set, k ∉ coresOfBasin b) → coreAt t k = coreAt s k) ∧ t.routers = s.routers ∧ t.fab = s.fab)) ∧
    (r.stage ≠ .waiting → exec .basinReset s = .next s)

/-- Collection: the dump of every basin of the set is staged; then the cores of the set are cleared and keep their slots, their
counters restart from zero, the sync engines hold the layout's objects again, an arming is used up, and the controllers are in
service with their arrays as they were; a stack that does not retrain is withdrawn; routers, port engines and every core
outside the set keep their state (R418, R421, R430, R433). -/
def Sys2Proof.Claims.ResetClears : Prop :=
  ∀ (s : State) (r : Reset) (ok : Bool), s.rst.cur = some r →
    (r.stage = .collect →
      ∃ t : State, exec (.dumpCollectComplete ok) s = .next t ∧
        t.rst.cur = some { r with stage := .ready, hbmFail := !ok } ∧
        t.rst.dumps = s.rst.dumps ++ r.set.map (collectDump s r) ∧ t.fab = s.fab ∧ t.flash = s.flash ∧
        ((∀ p ∈ s.mesh.sync, p.home ∉ r.set) → t.routers = s.routers) ∧
        (∀ b ∈ r.set, (ok = true → (hbmAt t b).mem = (hbmAt s b).mem) ∧ (hbmAt t b).resetting = false ∧ (basinAt t b).wedge = false ∧
          (basinAt t b).armed = none ∧ (basinAt t b).underTest = none ∧ (basinAt t b).gen = (basinAt s b).gen ∧
          (basinAt t b).objs = (match (ctxAt s r.ctx).layout with
                                | none => []
                                | some l => defObjs l b) ∧
          ∀ k, tabHas s.cores k = true → basinOf k = b →
            (coreAt t k).slot = (coreAt s k).slot ∧ (coreAt t k).ctr = [] ∧ (coreAt t k).held = false ∧
              (coreAt t k).station = none ∧ (coreAt t k).inEp = [] ∧ (coreAt t k).tiles = [] ∧
              ∀ a, memGet (coreAt t k).mem a = 0) ∧
        (∀ k, basinOf k ∉ r.set → coreAt t k = coreAt s k) ∧
        (ok = false → (hbmAt t (r.set.headD 0)).withdrawn = true)) ∧
    (r.stage ≠ .collect → exec (.dumpCollectComplete ok) s = .next s)

/-- Step 6: without a layout the reset only ends; a layout that may not restart is held, admits nothing and its requests end;
one that restarts waits for its sweep, and does so at the microbatch after the highest admitted one, opens a forced boundary, advances the generation of
every granted basin once and starts every station at the firings of that microbatch; what waits behind the reset comes next
(R209, R422, R433). -/
def Sys2Proof.Claims.LayoutsRestart : Prop :=
  ∀ (s : State) (r : Reset), s.rst.cur = some r → r.stage = .ready →
    let n := r.ctx
    let x := ctxAt s n
    let done (t : State) : Prop :=
      t.rst.cur = s.rst.next.head? ∧ t.rst.next = s.rst.next.tail ∧ (∀ b ∈ r.set, (basinAt t b).resetting = false) ∧
        ∀ d ∈ t.rst.dumps, d.no = r.dumpNo → d.ready = true
    (x.layout = none → ∃ t : State, exec .basinReady s = .next t ∧ done t ∧ t.cores = s.cores ∧ t.hbms = s.hbms) ∧
    (∀ l c, x.layout = some l → holdCause s n l = some c →
      ∃ t : State, exec .basinReady s = .next t ∧ done t ∧
        (ctxAt t n).layout = some { l with held := true, running := false } ∧ (∀ m ∈ (ctxAt t n).mbs, m.complete = true) ∧
        (ctxAt t n).nextMb = x.nextMb ∧ (∀ b, (basinAt t b).gen = (basinAt s b).gen) ∧ t.cores = s.cores) ∧
    (∀ l, x.layout = some l → holdCause s n l = none → r.swept = false → exec .basinReady s = .next s) ∧
    (∀ l, x.layout = some l → holdCause s n l = none → r.swept = true →
      ∃ t : State, exec .basinReady s = .next t ∧ done t ∧ (ctxAt t n).layout = some (firedAt l x.nextMb) ∧
        (ctxAt t n).forced = true ∧ (ctxAt t n).nextMb = x.nextMb ∧
        (ctxAt t n).restarts = recentRestarts s x ++ [s.sup.ticks] ∧ (∀ m ∈ (ctxAt t n).mbs, m.complete = true) ∧
        (∀ b ∈ grantOf s n, (basinAt t b).gen = ((basinAt s b).gen + 1) % 16) ∧
        (∀ b, b < 16 → b ∉ grantOf s n → (basinAt t b).gen = (basinAt s b).gen) ∧ t.hbms = s.hbms)

/-- Basin resets and restarted layouts: ResetStops, ResetClears, LayoutsRestart, as said at each. -/
def Obligations.BasinResets : Prop :=
  Sys2Proof.Claims.ResetStops ∧ Sys2Proof.Claims.ResetClears ∧ Sys2Proof.Claims.LayoutsRestart

/-- Dump records: where the next dump's staging is there and it holds records, its SUMMARY goes first with index 0 and then its
records in order, the last with LAST; a dump without staging is its SUMMARY alone with CUT and LAST; nothing is delivered
that the message store has no room for; DEBUG_DUMP arms exactly the named basins for 600 s and answers with zero results, and
is refused where its token fails; an arming lapses after 600 s (R427, R429, R430, R433). -/
def Obligations.DumpsDelivered : Prop :=
  ∀ (s : State) (n : Nat), n < 16 →
    (nextDump s n = none → exec (.dumpRecordDeliver n) s = .next s) ∧
    (∀ d : Dump, nextDump s n = some d →
      let rec1 := nextDumpRec s d
      let fits := storeUnits (ctxAt s n).store + rec1.1.units ≤ 8192
      (¬ fits → exec (.dumpRecordDeliver n) s = .next s) ∧
      (fits → (ctxAt s n).st = .active →
        ∃ t : State, exec (.dumpRecordDeliver n) s = .next t ∧
          (ctxAt t n).store = (ctxAt s n).store ++ [{ rec1.1 with step := (ctxAt s n).stepNum }] ∧
          t.rst.dumps = s.rst.dumps.flatMap (fun e => if e = d then rec1.2.toList else [e])) ∧
      (∀ h k b rest, d.home = some h → (hbmAt s h).withdrawn = false → d.records = (k, b) :: rest →
        (d.index = 0 → rec1 = (dumpRec d 0 d.summary false false, some { d with index := 1 })) ∧
        (d.index ≠ 0 → rec1 = (dumpRec d k b rest.isEmpty false,
          if rest.isEmpty then none else some { d with index := d.index + 1, records := rest }))) ∧
      (d.home = none → rec1 = (dumpRec d 0 d.summary true true, none))) ∧
    (∀ (h : HCmd) (a : DumpAuth), TakesCmd s n 0xE h →
      let part := cmdField h 20 2
      let use := if part = 0 then bitList 16 (a.mask % 65536) else bitList 16 part
      (cmdField h 16 4 ≠ 0 → tokenStatus s a.tok 0x20 (lcState s.fuse == 2) (byOwner s a.tok) = 0 → a.ctx = n → a.byte3 = 0 →
        (∀ b ∈ bitList 16 (a.mask % 65536), (basinAt s b).ctx = some n) →
        (∀ b ∈ bitList 16 part, bitAt (a.mask % 65536) b = true) →
        ∃ t : State, exec (.debugDump n a) s = .next t ∧ Answered s t n h 0 0 0 ∧ t.trust.nonce = none ∧
          (∀ b ∈ use, (basinAt t b).armed = some s.sup.ticks) ∧ (∀ b, b ∉ use → basinAt t b = basinAt s b)) ∧
      (tokenStatus s a.tok 0x20 (lcState s.fuse == 2) (byOwner s a.tok) ≠ 0 →
        ∃ t : State, exec (.debugDump n a) s = .next t ∧ Ended s t n h 0x14 ∧ t.basins = s.basins)) ∧
    (∀ since : Nat, (basinAt s n).armed = some since →
      (15000000000 ≤ s.sup.ticks - since → exec (.armLapse n) s = .next (putBasin s n { basinAt s n with armed := none })) ∧
      (s.sup.ticks - since < 15000000000 → exec (.armLapse n) s = .next s))

/-- Posted writes: an access of another size or alignment, or one that BAR0 does not answer, changes nothing; one that meets
BUSY is counted and otherwise ignored; one that is taken changes the fields of its register and nothing else: a staged field
waits for its APPLY, a GO starts a push, a read-only register and a reserved offset ignore it, and a 4-byte write keeps the other half; a register
whose copies disagree is corrected and counted first (R434 to R438, R441, R446 to R448). -/
def Sys2Proof.Claims.RegisterWrites : Prop :=
  ∀ (s : State) (off size : Nat) (v : W64) (push : PushIn),
    ((sizeOk off size = false ∨ regsUp s off = false) → ∀ busy, exec (.registerWrite off size v ⟨busy, push⟩) s = .next s) ∧
    (sizeOk off size = true → regsUp s off = true → inBlock (off / 8 * 8) = true →
      exec (.registerWrite off size v ⟨true, push⟩) s =
        .next { s with glb := { s.glb with writeLost := (s.glb.writeLost + 1) % 2 ^ 64 } }) ∧
    (s.sup.phase = .ready → s.glb.disturbed = [] →
      let w (o : Nat) : Host.Outcome State Machine.Fault Machine.Refusal := exec (.registerWrite o 8 v ⟨false, push⟩) s
      w 0x20 = .next { s with glb := { s.glb with alert := w1c s.glb.alert v.toNat 5 } } ∧
      w 0x28 = .next { s with glb := { s.glb with alertEn := v.toNat % 32 } } ∧
      w 0x30 = .next { s with glb := { s.glb with winSel := v.toNat % 2 ^ 14 } } ∧
      w 0x5000 = .next { s with tst := { s.tst with idleCfg := v.toNat % 2 ^ 32 } } ∧
      w 0x30008 = .next { s with mesh := { s.mesh with colWait := v.toNat % 1024 } } ∧
      (bitAt v.toNat 0 = false → w 0x4020 = .next s) ∧
      (bitAt v.toNat 0 = true → bitAt v.toNat 1 = true → w 0x4020 = exec (.goPersist push.image push.flashOk) s) ∧
      (bitAt v.toNat 0 = true → bitAt v.toNat 1 = false → push.flashOk = true → w 0x4020 = exec (.go push.image) s) ∧
      (∃ t : State, w 0x30010 = .next t ∧ t.mesh.thr = s.mesh.thr ∧ bits t.mesh.thrStaged 6 0 = bits v.toNat 6 0 ∧
        bits t.mesh.thrStaged 14 8 = bits v.toNat 14 8 ∧ bits t.mesh.thrStaged 22 16 = bits v.toNat 22 16) ∧
      (∀ n, n < 16 →
        w (0x20018 + 0x1000 * n) = .next (putBasin s n { basinAt s n with drainLimit := v.toNat % 2 ^ 32 }) ∧
        w (0x40018 + 0x1000 * n) = .next (putHbm s n { hbmAt s n with srCfg := v.toNat % 2 ^ 20 }) ∧
        w (0x10038 + 0x1000 * n) = .next (putCtx s n { ctxAt s n with stepCfgNew := stepCfgMask v.toNat }) ∧
        w (0x10010 + 0x1000 * n) =
          .next (putCtx s n { ctxAt s n with stg := { (ctxAt s n).stg with grant := v.toNat % 65536 } }) ∧
        exec (.registerWrite (0x10024 + 0x1000 * n) 4 v ⟨false, push⟩) s =
          .next (putCtx s n { ctxAt s n with stg := { (ctxAt s n).stg with
            ioCfg := (ctxAt s n).stg.ioCfg % 2 ^ 32 + v.toNat % 2 ^ 32 * 2 ^ 32 } })) ∧
      (∀ o ∈ [0x00, 0x08, 0x10, 0x18, 0x40, 0x48, 0x50, 0x58, 0x1000, 0x4000, 0x6000, 0x6018, 0x7000, 0x7018, 0x30018, 0x30020,
          0x50010, 0x50100, 0x60000, 0x70000, 0x110000], w o = .next s)) ∧
    (s.sup.phase = .ready → ∀ bad, s.glb.disturbed = [(0x30018, bad)] →
      ∃ t : State, exec (.registerWrite 0x30018 8 v ⟨false, push⟩) s = .next t ∧ t.glb.disturbed = [] ∧ t.mesh = s.mesh ∧
        (bad = false → t.glb.voteFix = (s.glb.voteFix + 1) % 2 ^ 64 ∧ t.glb.alert = s.glb.alert) ∧
        (bad = true → t.glb.voteFail = (s.glb.voteFail + 1) % 2 ^ 64 ∧ t.glb.alert = s.glb.alert ||| 16))

/-- Accesses through the window: a read returns what the selected site shows at the offset, zero at a write-only one; one that is not answered, or of a
site in a hard gap, returns all ones and sets NO_RESPONSE; one with a site out of range reads zero and sets SEL_INVALID; a
write to a SNAP offset snaps; an access of another alignment is ignored (R8, R435, R444, R445). -/
def Sys2Proof.Claims.WindowAccesses : Prop :=
  ∀ (s : State) (o : Nat), s.sup.phase = .ready → o < 0x10000 → o % 8 = 0 →
    let k := s.glb.winSel
    let wr : Bool := true
    (nCores ≤ k →
      exec (.coreWindowAccess false o true) s =
        .next (emit { s with glb := { s.glb with winStatus := s.glb.winStatus ||| 2 } } (.regRead (0x100000 + o) 0)) ∧
      exec (.coreWindowAccess wr o true) s = .next { s with glb := { s.glb with winStatus := s.glb.winStatus ||| 2 } }) ∧
    (k < nCores →
      (isGap s (dieOf k) = true → ∀ a, exec (.coreWindowAccess false o a) s =
        .next (emit { s with glb := { s.glb with winStatus := s.glb.winStatus ||| 1 } } (.regRead (0x100000 + o) (2 ^ 64 - 1)))) ∧
      exec (.coreWindowAccess false o false) s =
        .next (emit { s with glb := { s.glb with winStatus := s.glb.winStatus ||| 1 } } (.regRead (0x100000 + o) (2 ^ 64 - 1))) ∧
      (isGap s (dieOf k) = false → s.glb.disturbed = [] →
        exec (.coreWindowAccess false o true) s = .next (emit s (.regRead (0x100000 + o) (siteReg s k o)))) ∧
      (isGap s (dieOf k) = false → 8 ≤ o → o < 0x30 →
        exec (.coreWindowAccess false o true) s = .next (emit s (.regRead (0x100000 + o) 0))) ∧
      exec (.coreWindowAccess wr 0x08 true) s = exec .coreMxSnap s ∧ exec (.coreWindowAccess wr 0x10 true) s = exec .coreVcSnap s ∧
      exec (.coreWindowAccess wr 0x18 true) s = exec .coreSpSnap s ∧ exec (.coreWindowAccess wr 0x20 true) s = exec .coreChSnap s ∧
      exec (.coreWindowAccess wr 0x28 true) s = exec .meshSnap s ∧
      (¬ (8 ≤ o ∧ o < 0x30) → exec (.coreWindowAccess wr o true) s = .next s)) ∧
    exec (.coreWindowAccess wr (o + 4) true) s = .next s ∧
    exec (.coreWindowAccess false (o + 4) true) s = .next (emit s (.regRead (0x100000 + (o + 4)) 0))

/-- Set-up registers and windows: RegisterWrites, WindowAccesses, as said at each. -/
def Obligations.SetUpRegisters : Prop :=
  Sys2Proof.Claims.RegisterWrites ∧ Sys2Proof.Claims.WindowAccesses

/-- The alert registers, the congestion thresholds and the watchdog interval: a 1 clears a cause, the enables are written, and
nothing else changes; an APPLY puts the staged thresholds in force where 1 ≤ TH1 ≤ TH2 ≤ TH3 ≤ 100 and sets APPLY_ERR
otherwise; a new interval starts the stall measurement again (R181, R437, R443, R447, R453). -/
def Sys2Proof.Claims.AlertsAndThresholds : Prop :=
  ∀ (s : State) (b : Nat) (v : W64), s.sup.phase = .ready → b < 16 →
    exec (.glbAlertWrite true v) s = .next { s with glb := { s.glb with alertEn := v.toNat % 32 } } ∧
    (∃ t : State, exec (.glbAlertWrite false v) s = .next t ∧ t = { s with glb := { s.glb with alert := t.glb.alert } } ∧
      ∀ i, i < 5 → bitAt t.glb.alert i = (bitAt s.glb.alert i && !bitAt v.toNat i)) ∧
    (s.glb.disturbed = [] →
      let g := s.mesh.thrStaged
      let ok := 1 ≤ bits g 6 0 ∧ bits g 6 0 ≤ bits g 14 8 ∧ bits g 14 8 ≤ bits g 22 16 ∧ bits g 22 16 ≤ 100
      (ok → exec .meshApply s = .next { s with mesh := { s.mesh with thr := g } }) ∧
      (¬ ok → exec .meshApply s = .next { s with mesh := { s.mesh with applyErr := true } })) ∧
    exec (.chanWdogWrite b v) s =
      .next (putBasin s b { basinAt s b with wdog := v.toNat % 2 ^ 32, wdogFrom := s.sup.ticks })

/-- Snaps: each copies exactly its counters into their shadows, at the selected site or in its block, and changes nothing else;
a selection of 9,216 or above sets SEL_INVALID (R70, R125, R159, R184, R252, R274, R303, R413, R444, R445). -/
def Sys2Proof.Claims.CountersSnapped : Prop :=
  ∀ (s : State) (b : Nat), s.sup.phase = .ready → b < 16 →
    let k := s.glb.winSel
    let snapped (lo hi : Nat) (t : State) : Prop :=
      OnlyCore k s t ∧ coreAt t k = { coreAt s k with shadowCtr := (coreAt t k).shadowCtr, chShadow := (coreAt t k).chShadow } ∧
      ∀ i, tabGet (coreAt t k).shadowCtr i 0 =
        if lo ≤ i ∧ i < hi then tabGet (coreAt s k).ctr i 0 else tabGet (coreAt s k).shadowCtr i 0
    (k < nCores → (coreAt s k).st ≠ .shipDefect → isGap s (dieOf k) = false →
      (∃ t : State, exec .coreMxSnap s = .next t ∧ snapped 0 15 t ∧ (coreAt t k).chShadow = (coreAt s k).chShadow) ∧
      (∃ t : State, exec .coreVcSnap s = .next t ∧ snapped 15 31 t ∧ (coreAt t k).chShadow = (coreAt s k).chShadow) ∧
      (∃ t : State, exec .coreSpSnap s = .next t ∧ snapped 31 75 t ∧ (coreAt t k).chShadow = (coreAt s k).chShadow) ∧
      (∃ t : State, exec .coreChSnap s = .next t ∧ snapped 75 77 t ∧ (coreAt t k).chShadow = (coreAt s k).chCtr)) ∧
    (k < nCores → isGap s (dieOf k) = false →
      exec .meshSnap s = .next (putRouter s k { routerAt s k with shadow := (routerAt s k).ctr })) ∧
    (nCores ≤ k → ∀ c ∈ [Instr.coreMxSnap, Instr.coreVcSnap, Instr.coreSpSnap, Instr.coreChSnap, Instr.meshSnap],
      exec c s = .next { s with glb := { s.glb with winStatus := s.glb.winStatus ||| 2 } }) ∧
    exec (.hbmSnap b) s = .next (putHbm s b { hbmAt s b with shadow := (hbmAt s b).ctr }) ∧
    (∃ t : State, exec .fabSnap s = .next t ∧ t = { s with fab := t.fab } ∧ t.fab = { s.fab with ports := t.fab.ports } ∧
      ∀ p, p < 24 → portAt t p = { portAt s p with shadow := (portAt s p).ctr }) ∧
    exec .tstSnap s = .next { s with tst := { s.tst with shadow := s.tst.ctr } }

/-- Alerts, thresholds and counter snapshots: AlertsAndThresholds, CountersSnapped, as said at each. -/
def Obligations.AlertsAndCounters : Prop :=
  Sys2Proof.Claims.AlertsAndThresholds ∧ Sys2Proof.Claims.CountersSnapped

/-- The input: rising through 53 V starts the rails and the module holds in the always-on domain; a power-fail shutdown stops
every unit, loses HBM contents, scratchpads, keys and staging and keeps flash and fuses; a fault shutdown turns off every rail
but the always-on one and latches FAULT_N, and a shutdown that already stands stays; a reading that leaves or returns to the
operating range raises INPUT_RANGE (R454, R456, R457, R475, R476). -/
def Sys2Proof.Claims.PowerEntry : Prop :=
  ∀ (s : State) (v : Nat),
    let cold (t : State) : Prop :=
      t.ctxs = [] ∧ t.trust = {} ∧ t.glb = {} ∧ t.mesh = {} ∧ t.fab = {} ∧ t.heal = {} ∧ t.rst = {} ∧ t.telem = {} ∧
        t.fuse = s.fuse ∧ t.pending = s.pending ∧ (s.trust.push = none → t.flash = s.flash)
    let lost (t : State) : Prop := t.cores = [] ∧ ∀ b a, memGet (hbmAt t b).mem a = 0
    (s.sup.phase = .unpowered → 5300 ≤ v →
      ∃ t : State, exec (.inputPowerRise v) s = .next t ∧ t.sup = { s.sup with phase := .held } ∧ t.pwr.aonRail = true ∧
        t.pwr.mainRails = true ∧ t.pwr.perstN = s.pwr.perstN ∧ (t.pwr.inRange = true ↔ 5400 ≤ v ∧ v ≤ 6200) ∧
        t.flash = s.flash ∧ t.fuse = s.fuse ∧ t.cores = s.cores) ∧
    (s.sup.phase ≠ .unpowered ∨ v < 5300 → exec (.inputPowerRise v) s = .next s) ∧
    (s.sup.phase = .ready → (ctxAt s 0).st = .active → storeUnits (ctxAt s 0).store + 2 ≤ 8192 →
      ∃ t : State, exec (.inputRange v) s = .next t ∧ t.pwr.inRange = inputInRange v ∧ t.pwr.mv10 = v % 65536 ∧
        t.cores = s.cores ∧ t.basins = s.basins ∧
        (inputInRange v = s.pwr.inRange → t.ctxs = s.ctxs) ∧
        (inputInRange v ≠ s.pwr.inRange →
          ∃ r : MsgRec, (ctxAt t 0).store = (ctxAt s 0).store ++ [r] ∧ r.type = 1 ∧ r.code = evInputRange ∧
            ∃ x1 x2 x3 x4 : Nat, r.body = .event 0xFFFF x1 x2 x3 x4 (b2n (!inputInRange v)) v 0)) ∧
    (s.sup.phase = .fault → ∃ t : State, exec (.inputRange 0) s = .next t ∧ t.sup.phase = .unpowered ∧ t.pwr.faultLatched = false) ∧
    (s.sup.phase = .ready ∨ s.sup.phase = .held ∨ s.sup.phase = .recovery →
      (∃ t : State, exec .powerFailShutdown s = .next t ∧ t.sup.phase = .unpowered ∧ cold t ∧ lost t ∧ t.pwr.mainRails = false ∧
        t.pwr.aonRail = false) ∧
      ∀ c, ∃ t : State, exec (.faultShutdown c) s = .next t ∧ t.sup.phase = .fault ∧ cold t ∧ lost t ∧ t.pwr.mainRails = false ∧
        t.pwr.aonRail = s.pwr.aonRail ∧ t.pwr.faultLatched = true) ∧
    (s.sup.phase = .unpowered ∨ s.sup.phase = .fault →
      exec .powerFailShutdown s = .next s ∧ ∀ c, exec (.faultShutdown c) s = .next s)

/-- A rail of a stack: the rail is off, the die stack is retired with BASE_DIE_FAULT as a hard gap with none of its cores good,
and a memory die takes its basin's HBM stack with it, and the stacks that no col tables reach any more are gaps too; before
start-up the rail alone is off (R13, R223, R226, R455). -/
def Sys2Proof.Claims.StackRails : Prop :=
  ∀ (s : State) (d : Nat) (hbm : Bool) (cut : List Nat), d < 64 →
    (s.sup.phase = .ready → isGap s d = false →
      ∃ t : State, exec (.stackRailFault d ⟨hbm, cut⟩) s = .next t ∧ (∀ e ∈ cut, e < 64 → isGap t e = true) ∧ (dieAt t d).railOn = false ∧ (dieAt t d).retired = true ∧
        (dieAt t d).gapReason = 6 ∧ (∀ k ∈ coresOfDie d, (coreAt t k).st.good = false) ∧
        (memDie (basinOfDie d) = d → (hbmAt t (basinOfDie d)).withdrawn = true) ∧
        ∃ j ∈ t.heal.ledgerQ, j.type = 2 ∧ j.reason = 6 ∧ j.target = d) ∧
    (s.sup.phase = .held ∨ s.sup.phase = .recovery →
      exec (.stackRailFault d ⟨hbm, cut⟩) s = .next (putDie s d { dieAt s d with railOn := false })) ∧
    (s.sup.phase = .unpowered ∨ s.sup.phase = .fault → exec (.stackRailFault d ⟨hbm, cut⟩) s = .next s)

/-- Temperatures and the reference: a die is throttled exactly while a sensor of its stack reads above 100 °C or its memory
die's HBM stack reads above 95 °C, and nothing but timing follows: no core, context setting or delivered byte changes; the loss
and the return of the reference set REF_OK and nothing else of the clocks (R457, R458, R487). -/
def Sys2Proof.Claims.ThrottleAndReference : Prop :=
  ∀ (s : State) (d b sensor : Nat) (temp : Int), s.sup.phase ≠ .unpowered → d < 64 → b < 16 →
    let quiet (t : State) : Prop :=
      t.cores = s.cores ∧ t.routers = s.routers ∧ t.mesh = s.mesh ∧ t.fab = s.fab ∧ t.heal = s.heal ∧ t.basins = s.basins ∧
        t.glb = s.glb
    let ts := tabSet (dieAt s d).temps sensor temp
    (sensor < 4 →
      ∃ t : State, exec (.thermalThrottle d sensor temp) s = .next t ∧ quiet t ∧ t.hbms = s.hbms ∧ (dieAt t d).temps = ts ∧
        (dieAt t d).throttled = ts.any (fun e => decide (100 < e.2)) ∧ (dieAt t d).maxTemp = max (dieAt s d).maxTemp temp ∧
        ∀ e, e ≠ d → dieAt t e = dieAt s e) ∧
    (4 ≤ sensor → exec (.thermalThrottle d sensor temp) s = .fault .noSuchUnit) ∧
    (∃ t : State, exec (.hbmThermalThrottle b temp) s = .next t ∧ quiet t ∧ (hbmAt t b).temp = temp ∧
      (hbmAt t b).halfRate = decide (95 < temp) ∧ (hbmAt t b).mem = (hbmAt s b).mem ∧
      (dieAt t (memDie b)).hbmThrottled = decide (95 < temp) ∧ ∀ e, e ≠ memDie b → dieAt t e = dieAt s e) ∧
    (s.clk.refOk = true → ∃ t : State, exec .refClockLost s = .next t ∧ quiet t ∧ t.clk = { s.clk with refOk := false } ∧
      t.dies = s.dies) ∧
    (s.clk.refOk = false → exec .refClockLost s = .next s ∧
      ∃ t : State, exec .refClockRestored s = .next t ∧ quiet t ∧ t.clk = { s.clk with refOk := true } ∧ t.dies = s.dies)

/-- Clocks on demand: a clock that does not run is started by its demand and counted; one that runs is not started again; a
core PLL and a core branch stop only without their demand, and the control PLL starts again at the next control packet for
its die (R244, R451, R459). -/
def Sys2Proof.Claims.FastClocks : Prop :=
  ∀ (s : State) (d k : Nat), s.sup.phase = .ready → d < 64 → dieOf k = d →
    let x := dieAt s d
    let started (t : State) (y : Die) : Prop :=
      t = { putDie s d y with clk := { s.clk with starts := (s.clk.starts + 1) % 2 ^ 64 } }
    (x.pll = false → meshDemand s = true →
      ∃ t : State, exec (.fastClockStart d .corePll) s = .next t ∧ started t { x with pll := true }) ∧
    (x.pll = true → exec (.fastClockStart d .corePll) s = .next s) ∧
    (coreDemand s k = true → x.coreBranch.contains k = false →
      ∃ t : State, exec (.fastClockStart d (.coreBranch k)) s = .next t ∧
        started t { x with coreBranch := sortNat (k :: x.coreBranch) }) ∧
    (x.ctlPll = false → ∃ t : State, exec (.fastClockStart d .ctlPll) s = .next t ∧ started t { x with ctlPll := true }) ∧
    (meshDemand s = false → exec (.fastClockStop d .corePll) s = .next (putDie s d { x with pll := false })) ∧
    (meshDemand s = true → exec (.fastClockStop d .corePll) s = .next s) ∧
    (coreDemand s k = false →
      exec (.fastClockStop d (.coreBranch k)) s = .next (putDie s d { x with coreBranch := x.coreBranch.filter (fun j => j != k) })) ∧
    (coreDemand s k = true → exec (.fastClockStop d (.coreBranch k)) s = .next s) ∧
    exec (.fastClockStop d .ctlPll) s = .next (putDie s d { x with ctlPll := false })

/-- Power entry, rails, throttling and clocks: PowerEntry, StackRails, ThrottleAndReference, FastClocks, as said at each. -/
def Obligations.PowerAndClocks : Prop :=
  Sys2Proof.Claims.PowerEntry ∧ Sys2Proof.Claims.StackRails ∧ Sys2Proof.Claims.ThrottleAndReference ∧ Sys2Proof.Claims.FastClocks

/-- PERST_N: low, it stops every unit, erases the keys, makes every context FREE and returns every register to its reset value,
while the fuses, the flash and the contents of HBM and scratchpads stay; high, an image that fails its checks leaves the
module in recovery with the reason of the first failed check, and a verified one brings it to READY with every basin being
cleared, the ship-time defects and the ledger's retired cores out of use, both col table banks alike, epoch 0 and the tick
counters started from 0 (R24, R373, R374, R440, R462, R463, R465, R492). -/
def Sys2Proof.Claims.ModuleStarts : Prop :=
  ∀ (s : State) (boot : BootIn),
    (s.sup.phase = .ready ∨ s.sup.phase = .held ∨ s.sup.phase = .recovery →
      ∃ t : State, exec .moduleReset s = .next t ∧ t.sup.phase = .held ∧ t.pwr.perstN = false ∧ t.pwr.mainRails = s.pwr.mainRails ∧
        t.ctxs = [] ∧ t.trust = {} ∧ t.glb = {} ∧ t.tst = {} ∧ t.mesh = {} ∧ t.fab = {} ∧ t.basins = [] ∧ t.fuse = s.fuse ∧
        (s.trust.push = none → t.flash = s.flash) ∧ (∀ b, (hbmAt t b).mem = (hbmAt s b).mem ∧ (hbmAt t b).srCfg = 1000) ∧
        ∀ k, (coreAt t k).mem = (coreAt s k).mem ∧ (coreAt t k).station = none ∧ (coreAt t k).ctr = []) ∧
    (s.sup.phase = .held →
      (s.flash.image = none → ∃ t : State, exec (.startUp boot) s = .next t ∧ t.sup.phase = .recovery ∧ t.trust.failReason = 2 ∧
        t.pwr.perstN = true ∧ t.fuse = s.fuse ∧ t.flash = s.flash) ∧
      (∀ i, s.flash.image = some i → verifyImage s.fuse true i ≠ 0 →
        ∃ t : State, exec (.startUp boot) s = .next t ∧ t.sup.phase = .recovery ∧
          t.trust.failReason = verifyImage s.fuse true i ∧ t.pwr.perstN = true ∧ t.fuse = s.fuse ∧ t.flash = s.flash) ∧
      (∀ i, s.flash.image = some i → verifyImage s.fuse true i = 0 →
        ∃ t : State, exec (.startUp boot) s = .next t ∧ t.sup.phase = .ready ∧ t.glb.ready = true ∧ t.sup.clearing = true ∧
          t.pwr.perstN = true ∧ t.fuse = burnSvn s.fuse i ∧ t.trust.kT = transportK t.fuse ∧
          (∀ b, b < 16 → (basinAt t b).clearing = true) ∧ t.mesh.epoch = false ∧ t.mesh.gaps0 = t.mesh.gaps1 ∧
          t.sup.ticking = true ∧ t.sup.ticks = 0 ∧ t.sup.fwMajor = i.major ∧
          (∀ k ∈ s.fuse.shipDefect, (coreAt t k).st = .shipDefect) ∧
          (∀ p ∈ ledgerPair { s.flash with usePair1 := pairInUse s.flash }, ∀ r, posRec p = some r → r.type = 1 →
            r.target < nCores → r.target ∉ s.fuse.shipDefect → (coreAt s r.target).st = .spare → (coreAt t r.target).st = .retired))) ∧
    (s.sup.phase = .ready ∨ s.sup.phase = .recovery → exec (.startUp boot) s = .next s)

/-- The start-up clears complete: every basin is grantable with its HBM space and its scratchpads zero; without them nothing
changes. A push that ends reports its result; a persisted image lies in flash; in recovery a verified image starts
(R376, R465). -/
def Sys2Proof.Claims.ClearsAndPushes : Prop :=
  ∀ (s : State) (boot : BootIn),
    (s.sup.clearing = true →
      ∃ t : State, exec .startupClear s = .next t ∧ t.sup.clearing = false ∧
        (∀ b, b < 16 → (basinAt t b).clearing = false ∧ (basinAt t b).ctx = none ∧ ∀ a, memGet (hbmAt t b).mem a = 0) ∧
        ∀ k, tabHas s.cores k = true → basinOf k < 16 → ∀ a, memGet (coreAt t k).mem a = 0) ∧
    (s.sup.clearing = false → exec .startupClear s = .next s) ∧
    (s.trust.push = none → exec (.pushComplete boot) s = .next s) ∧
    (∀ p, s.trust.push = some p →
      let res := pushResult s.fuse p
      ∃ t : State, exec (.pushComplete boot) s = .next t ∧ t.trust.push = none ∧ t.trust.rcvBusy = false ∧
        t.trust.rcvDone = true ∧ t.trust.rcvResult = res ∧ (t.trust.rcvPhase = 4 ↔ res = 0) ∧
        (∀ i, p.image = some i → res = 0 → p.persist = true →
          t.flash.image = some i ∧ t.fuse = burnSvn s.fuse i) ∧
        (p.persist = false → t.fuse = s.fuse ∧ (res ≠ 0 → t.flash = s.flash)) ∧
        (res = 0 → s.sup.phase = .recovery → t.sup.phase = .ready ∧ t.trust.bootSource = (if p.persist then 2 else 1)) ∧
        (res ≠ 0 ∨ s.sup.phase ≠ .recovery → t.sup.phase = s.sup.phase))

/-- Start-up and what completes it: ModuleStarts, ClearsAndPushes, as said at each. -/
def Obligations.ModuleStarts : Prop :=
  Sys2Proof.Claims.ModuleStarts ∧ Sys2Proof.Claims.ClearsAndPushes

/-- The host link holds what it has trained to; the endpoint ID is what the bus owner assigns; an instruction that the life
cycle does not open, or that drives pins while PERST_N is high, acts as BYPASS and drives nothing, and IDCODE is shifted out
(R317, R354, R481, R482). -/
def Sys2Proof.Claims.LinksAndJtag : Prop :=
  ∀ (s : State) (w r e : Nat) (flit : Bool) (ir : JtagIr), s.sup.phase = .ready →
    exec (.hostLinkTraining w r flit) s = .next { s with hostp := { up := widthOk w, width := w, rate := r, flit := flit } } ∧
    exec (.mctpEndpointIdAssign e) s = .next { s with mgmt := { s.mgmt with eid := e % 256 } } ∧
    (∃ t : State, exec (.jtagInstruction ir) s = .next t ∧ t = { s with jtag := t.jtag, out := t.out } ∧ t.jtag.ir = ir ∧
      (jtagOpen s ir = false ∨ (JtagIr.drives ir = true ∧ s.pwr.perstN = true) →
        t.jtag.actsAs = .bypass ∧ t.jtag.pinsDriven = false) ∧
      (jtagOpen s ir = true → (JtagIr.drives ir = false ∨ s.pwr.perstN = false) →
        t.jtag.actsAs = ir ∧ t.jtag.pinsDriven = JtagIr.drives ir) ∧
      (ir = .idcode → t.out = s.out ++ [.tdo idcodeWord]) ∧ (ir ≠ .idcode → t.out = s.out)) ∧
    (∀ x, jtagOpen s (.inner x) = true → lcState s.fuse = 0 ∨ s.trust.debugOpen = true)

/-- Settings: a read answers the record in force; a write with a bad head is refused, then in RETIRED, while a persisted image is
written, and above the rate; one that is accepted goes to both copies with the next SEQ, is counted, and changes no register
in force (R471, R473, R476). -/
def Sys2Proof.Claims.SettingsRecords : Prop :=
  ∀ (s : State) (magic version count : Nat) (es : List (Nat × Nat)), s.sup.phase = .ready →
    let w := exec (.settingsWrite magic version count es) s
    let good := magic = 0x5445534E ∧ version = 1 ∧ count ≤ 64 ∧ count = es.length
    let busy := s.trust.push.any (fun p => p.persist) = true
    let fast := 64 ≤ s.mgmt.writes ∨ ∃ u, s.mgmt.lastWrite = some u ∧ s.sup.ticks - u < 250000000
    exec .settingsRead s = .next (emit s (.mctpBytes 1 0 0 (settingsBytes s.sup.settingsSeq s.sup.settings))) ∧
    (¬ good → w = .next (emit s (.mctp 2 1 []))) ∧
    (good → lcState s.fuse = 4 → w = .next (emit s (.mctp 2 4 []))) ∧
    (good → lcState s.fuse ≠ 4 → busy → w = .next (emit s (.mctp 2 3 []))) ∧
    (good → lcState s.fuse ≠ 4 → ¬ busy → fast → w = .next (emit s (.mctp 2 2 []))) ∧
    (good → lcState s.fuse ≠ 4 → ¬ busy → ¬ fast → (∀ e ∈ es, e.1 < 65536 ∧ e.2 < 2 ^ 64) →
      ∃ (t : State) (r : SRec), w = .next t ∧ t.flash = { s.flash with settingsA := some r, settingsB := some r } ∧
        r.entries = es ∧ (∀ a b, s.flash.settingsA = some a → s.flash.settingsB = some b → max a.seq b.seq < 2 ^ 32 - 1 →
          r.seq = max a.seq b.seq + 1) ∧
        t.mgmt.writes = s.mgmt.writes + 1 ∧ t.mgmt.lastWrite = some s.sup.ticks ∧ t.out = s.out ++ [.mctp 2 0 []] ∧
        t.tst = s.tst ∧ t.glb = s.glb ∧ t.mesh = s.mesh ∧ t.basins = s.basins ∧ t.hbms = s.hbms ∧ t.sup = s.sup)

/-- The host link, JTAG and the settings records: LinksAndJtag, SettingsRecords, as said at each. -/
def Obligations.LinksAndSettings : Prop :=
  Sys2Proof.Claims.LinksAndJtag ∧ Sys2Proof.Claims.SettingsRecords

/-- Records: each closes with the tick count and the next SEQ of its TYPE and replaces the one before; the congestion map holds
6,304 bytes, each router's level in its nibble, and clears every peak that it has read; a power record holds 208 bytes, and the
interval's extremes begin anew; every ACTIVE context whose layout has groups gets a group record; telemetry changes no counter, snapshot, scratchpad or stack
(R491, R493 to R496). -/
def Sys2Proof.Claims.RecordsClosed : Prop :=
  ∀ (s : State) (unread : List Nat) (ma w j : Nat), s.sup.phase = .ready →
    let quiet (t : State) : Prop :=
      t.ctxs = s.ctxs ∧ t.basins = s.basins ∧ t.mesh = s.mesh ∧ t.fab = s.fab ∧ t.heal = s.heal ∧ t.rst = s.rst ∧
        t.flash = s.flash ∧ t.trust = s.trust ∧ t.glb = s.glb ∧ t.tst = s.tst
    let closed (t : State) (ty len : Nat) (body : List Byte) : Prop :=
      (∃ r : TRec, findRec t ty 0 = some r ∧ r.bytes.length = len ∧
        r.bytes = recBytes ty (tabGet s.telem.seq ty 0) s.sup.ticks body) ∧
      tabGet t.telem.seq ty 0 = (tabGet s.telem.seq ty 0 + 1) % 2 ^ 32
    (mapMs s ≠ 0 →
      ∃ t : State, exec (.congestionMap unread) s = .next t ∧ quiet t ∧ t.cores = s.cores ∧ t.hbms = s.hbms ∧
        closed t 1 6304 (mapBody s unread) ∧
        ∀ k, (routerAt t k).ctr = (routerAt s k).ctr ∧ (routerAt t k).shadow = (routerAt s k).shadow ∧
          (routerAt t k).peak = (if notRead s unread k then (routerAt s k).peak else 0)) ∧
    (mapMs s = 0 → exec (.congestionMap unread) s = .next s) ∧
    (powerMs s ≠ 0 →
      ∃ t : State, exec (.powerThermal ma w j) s = .next t ∧ quiet t ∧ t.cores = s.cores ∧
        (∃ body, closed t 2 208 body) ∧ t.pwr.ma100 = ma % 65536 ∧ t.pwr.watts = w % 65536 ∧
        t.pwr.energy = (s.pwr.energy + j) % 2 ^ 64 ∧ t.clk.oscTicks = 0 ∧ ∀ b, (hbmAt t b).mem = (hbmAt s b).mem) ∧
    (groupS s ≠ 0 →
      ∃ t : State, exec .groupCounters s = .next t ∧ quiet t ∧ t.routers = s.routers ∧ t.hbms = s.hbms ∧
        (∀ k, (coreAt t k).ctr = (coreAt s k).ctr ∧ (coreAt t k).chCtr = (coreAt s k).chCtr ∧ (coreAt t k).ran = [] ∧
          (coreAt t k).mem = (coreAt s k).mem) ∧
        (∀ k v, (s.cores.map (·.1)).Nodup → tabHas s.cores k = true → v < 8 →
          tabGet t.telem.prev (coreKey k v) 0 = nth (groupCtrs (coreAt s k)) v 0) ∧
        ∀ n l, n < 16 → (ctxAt s n).st = .active → (ctxAt s n).layout = some l → l.groups ≠ [] →
          ∃ r : TRec, findRec t 3 n = some r)

/-- Export: TELEM_READ answers the latest record of a TYPE, format error for a TYPE or context that there is not, or no record
yet; the latest TELEM_SUBSCRIBE is the one subscriber; a record of a masked type waits for the bus and the idle block sends
it; one that the bus does not take is dropped; LATE_REQUEST reports an ACTIVE context (R316, R499). -/
def Sys2Proof.Claims.TelemetryExport : Prop :=
  ∀ (s : State) (ty n m e : Nat), s.sup.phase = .ready →
    let bad := ty = 0 ∨ 5 < ty ∨ (typeNamesCtx ty = true ∧ 16 ≤ n)
    let at_ := if typeNamesCtx ty then n else 0
    (bad → exec (.telemRead ty n) s = .next (emit s (.mctp 0x10 1 []))) ∧
    (¬ bad → findRec s ty at_ = none → exec (.telemRead ty n) s = .next (emit s (.mctp 0x10 5 []))) ∧
    (∀ r, ¬ bad → findRec s ty at_ = some r → exec (.telemRead ty n) s = .next (emit s (.mctpBytes 0x10 0 0 r.bytes))) ∧
    exec (.telemSubscribe m e) s =
      .next (emit { s with telem := { s.telem with mask := m % 256, subEid := e % 256 } } (.mctp 0x11 0 [])) ∧
    exec .telemetryPushTimeout s = .next { s with telem := { s.telem with push := s.telem.push.drop 1 } } ∧
    (16 ≤ n → exec (.lateRequest n) s = .next (emit s (.mctp 0x12 1 []))) ∧
    (n < 16 → (ctxAt s n).st ≠ .active → exec (.lateRequest n) s = .next (emit s (.mctp 0x12 5 []))) ∧
    (n < 16 → (ctxAt s n).st = .active → storeUnits (ctxAt s n).store + 1 + ceilDiv (lateBytes (ctxAt s n)).length 32 ≤ 8192 →
      ∃ (t : State) (r : TRec) (q : MsgRec), exec (.lateRequest n) s = .next t ∧ findRec t 5 0 = some r ∧
        r.bytes = recBytes 5 (tabGet s.telem.seq 5 0) s.sup.ticks (lateBytes (ctxAt s n)) ∧
        t.out = s.out ++ [.mctpBytes 0x12 0 s.telem.subEid r.bytes] ∧
        (ctxAt t n).store = (ctxAt s n).store ++ [q] ∧ q.type = 6 ∧ t.cores = s.cores ∧ t.basins = s.basins)

/-- Station records and telemetry: RecordsClosed, TelemetryExport, as said at each. -/
def Obligations.RecordsAndTelemetry : Prop :=
  Sys2Proof.Claims.RecordsClosed ∧ Sys2Proof.Claims.TelemetryExport

/-- The operations of station code complete, each past its own words: the slot's next offset, the register or the firing that it
sets, the command or the packet that it hands on; a firing of which nothing is left ends (R195 to R197, R204, R247 to R249). -/
def Sys2Proof.Claims.CodeCompletes : Prop :=
  ∀ (s : State) (k i : Nat) (w : BitVec 128),
    let c := coreAt s k
    let t := slotAt c i
    let past (u : State) (n : Nat) : Prop := (slotAt (coreAt u k) i).pc = t.pc + n
    let reg (u : State) : W64 := idxAt (slotAt (coreAt u k) i) (opA w)
    (IssuesAt s k i w →
      (opOp w = 0x00 → ∃ u, exec (.codeNop k i) s = .next u ∧ past u 1) ∧
      (opOp w = 0x07 → opA w ≤ 3 → ∃ u, exec (.seti k i) s = .next u ∧ past u 1 ∧ reg u = BitVec.ofNat 64 (opD w)) ∧
      (opOp w = 0x08 → opA w ≤ 3 → opC w = 0 → ∃ u, exec (.addi k i) s = .next u ∧ past u 1 ∧
        reg u = BitVec.ofNat 64 ((idxAt t (opA w)).toNat + opD w)) ∧
      (opOp w = 0x0A → opA w ≤ 3 → opD w ≤ (idxAt t (opA w) + 1).toNat → opC w < codeLen c → codeMarked c (opC w) = true → ∃ u, exec (.loop k i) s = .next u ∧ past u 1 ∧
        reg u = idxAt t (opA w) + 1) ∧
      (opOp w = 0x06 → opA w ≤ 4 → opC w ≤ waitCount c i (opA w) (opB w) → ∃ u, exec (.wait k i) s = .next u ∧ past u 1) ∧
      (∀ n v, opOp w = 0x09 → adjSource t (opA w % 8) = some v → nextPay c (codeLen c) (t.pc + 1) = some n →
        opB w % 1024 + (opB w / 1024 + 1) ≤ n * 128 →
        ∃ u, exec (.adj k i) s = .next u ∧ past u 1 ∧
          (slotAt (coreAt u k) i).adj = t.adj ++ [(opB w % 1024, opB w / 1024 + 1, v * opC w)]) ∧
      (∀ ecc, opOp w = 0x0C → winOk (windowOf c i) (opC w) (8 * opB w) = true →
        banksOn c (winBase (windowOf c i) + opC w) (8 * opB w) = true →
        ∃ u, exec (.dropRep k ⟨i, ecc⟩) s = .next u ∧ past u 1) ∧
      (opOp w = 0x0D → proofRun s (dieOf k) = false →
        ∃ u, exec (.endOp k i false) s = .next u ∧ (slotAt (coreAt u k) i).firing = t.firing + 1) ∧
      (opA w < 32 → (outKind (outAt c (opA w)) = 1 ∨ outKind (outAt c (opA w)) = 2) → outOwner (outAt c (opA w)) = i →
        let waits (u : State) : Nat := (outAt (coreAt u k) (opA w)).sendQ.length
        let m := payload c i 1
        (opOp w = 0x05 → ∃ u, exec (.sendt k i) s = .next u ∧ past u 1 ∧ waits u = (outAt c (opA w)).sendQ.length + 1) ∧
        (∀ b, opOp w = 0x04 → (bits m 41 40 = 1 ∨ bits m 41 40 = 2) → bits m 47 42 = 0 → bits m 127 88 = 0 →
          imgBasin s k (bits m 39 36) = some b →
          ∃ u, exec (.sendd k i) s = .next u ∧ past u 2 ∧ waits u = (outAt c (opA w)).sendQ.length + 1)) ∧
      (∀ h e d, opOp w = 0x0B → c.replay = none → imgBasin s k (bits (opB w) 11 8) = some h →
        syncEntry c (syncKey h (bits (opB w) 7 0)) = some (e, d) →
        let on (u : State) (n : Nat) : Prop :=
          (slotAt (coreAt u k) i).pc = (slotAt d i).pc + 1 ∧ u.mesh.sync.length = s.mesh.sync.length + n
        (opA w = 0 → ∃ u, exec (.arrive k i) s = .next u ∧ on u 1) ∧ (opA w = 1 → ∃ u, exec (.syncWait k i) s = .next u ∧ on u 0) ∧
        (opA w = 2 → ∃ u, exec (.arriveWait k i) s = .next u ∧ on u 1) ∧ (opA w = 3 → ∃ u, exec (.post k i) s = .next u ∧ on u 1) ∧
        (opA w = 4 → ∃ u, exec (.take k i) s = .next u ∧ on u 1))) ∧
    (TurnOf s k 0x01 c.mxRot i → c.mxq.length < 16 →
      ∃ u, exec (.mxc k) s = .next u ∧ past u 3 ∧ (coreAt u k).mxq.length = c.mxq.length + 1) ∧
    (TurnOf s k 0x02 c.vcRot i → c.vcq.length < 8 →
      ∃ u, exec (.vcc k) s = .next u ∧ past u 7 ∧ (coreAt u k).vcq.length = c.vcq.length + 1) ∧
    (∀ e, let d : BitVec 512 := BitVec.ofNat 512 (payload c i 4)
      let q (x : Core) : Nat := (strmAt x (sdUnit d)).q.length
      k < nCores → rotPick c.sdRot (fun j => readyFor s k c 0x03 j && !sdWaits c j) = some i → sdValid d = true → q c < 8 →
      sdTranslate s k t d = some e → ∃ u, exec (.sdc k) s = .next u ∧ past u 5 ∧ q (coreAt u k) = q c + 1) ∧
    (k < nCores → c.station.isSome = true → firesPerMb c ≠ 0 → c.firing < c.begun → slotsEnded c c.firing = true →
      firingBusy c c.firing = false → c.replay = none → rateFaults c c.firing = [] → ∃ u, exec (.firingComplete k) s = .next u ∧ (coreAt u k).firing = c.firing + 1)

/-- The commands of the matrix engine complete on a core that is not HELD: the head command starts, a running one leaves its
engine, weights swap in, and drains go on; so do those of the vector chain, each of which leaves its queue (R42, R44, R54, R55, R57 to
R60, R99 to R101). -/
def Sys2Proof.Claims.EnginesComplete : Prop :=
  ∀ (s : State) (k : Nat), k < nCores → (coreAt s k).held = false →
    let c := coreAt s k
    (∀ e rest, c.mxRun = none → c.mxq = e :: rest → mxOpc e.cmd ≤ 3 → mxHazard c e.cmd = false → mxUnderrun c e.cmd 0 0 false = false →
      ∃ u, exec (.mxCmdStart k) s = .next u ∧ (coreAt u k).mxq = rest ∧ (coreAt u k).mxRun.map (·.ent) = some e) ∧
    (∀ r, c.mxRun = some r → mxFault c r.ent = none →
      (mxOpc r.ent.cmd = 0 → ∃ u, exec (.mxNop k) s = .next u ∧ (coreAt u k).mxRun = none ∧ (coreAt u k).tiles = c.tiles) ∧
      (mxOpc r.ent.cmd = 3 → ∃ u, exec (.mxClear k) s = .next u ∧ (coreAt u k).mxRun = none ∧
        (tileAt (coreAt u k) (mxTile r.ent.cmd)).acc = []) ∧
      (mxOpc r.ent.cmd = 2 → ∃ u, exec (.mxDrain k) s = .next u ∧ (coreAt u k).mxRun = none ∧
        (coreAt u k).drains.length = c.drains.length + 1)) ∧
    (∀ r, c.mxRun = some r → isWs r.ent.cmd = true → mxValid r.ent.cmd = true → r.loaded = false → tilesLeft r ≠ 0 →
      bTileBeats (mxPair r.ent.cmd) ≤ (fillShadow c).shadow.length →
      ∃ u, exec (.mxShadowSwap k) s = .next u ∧
        (coreAt u k).weights = (fillShadow c).shadow.take (bTileBeats (mxPair r.ent.cmd))) ∧
    (∀ r p, c.mxRun = some r → mxOpc r.ent.cmd = 1 → mxMode r.ent.cmd = 0 → pairOf (mxFmt r.ent.cmd) = some p →
      mxValid r.ent.cmd = true → mxDrainBit r.ent.cmd = false → r.cleared = true → r.poison = false → r.told = false →
      r.loaded = true → r.rows = 0 → r.kDone + 1 = mxK r.ent.cmd →
      mxM r.ent.cmd * p.rate.aBeats ≤ countFrom (mxSrcA r.ent.cmd) c.ma →
      (takeFrom (mxSrcA r.ent.cmd) (mxM r.ent.cmd * p.rate.aBeats) c.ma).1.any (·.poison) = false →
      ∃ u, exec (.mma k false) s = .next u ∧ (coreAt u k).mxRun = none) ∧
    (∀ d rest, c.drains = d :: rest → d.running = false → drainEmpty d.ent.cmd = false →
      ∃ u, exec (.mxDrainStart k) s = .next u ∧ (coreAt u k).drains = { d with running := true } :: rest) ∧
    (∀ d rest f, c.drains = d :: rest → d.running = true → mxDrainTo d.ent.cmd = 0 → c.drainQ.length < 8 →
      fmtOfDrain (mxDrainFmt d.ent.cmd) = some f → d.row + 1 < mxM d.ent.cmd → f.isInt = false →
      ∃ u, exec (.mxDrainRow k false) s = .next u ∧ (coreAt u k).drainQ.length = c.drainQ.length + 1) ∧
    (∀ e rest, c.vcRun = none → c.vcq = e :: rest →
      (vcOpc e.cmd = 0 → ∃ u, exec (.vcNop k) s = .next u ∧ (coreAt u k).vcq = rest) ∧
      (vcOpc e.cmd = 4 → ∃ u, exec (.sets k) s = .next u ∧ (coreAt u k).vcq = rest) ∧
      (vcOpc e.cmd = 1 → chainValid e.cmd = true → staticForm e.cmd = false → vcN e.cmd ≠ 0 → misport c 2 (vcNames e.cmd 2) = none →
        misport c 3 (vcNames e.cmd 3) = none →
        ∃ u, exec (.chain k) s = .next u ∧ (coreAt u k).vcq = rest ∧ (coreAt u k).vcRun.map (·.ent) = some e) ∧
      (vcOpc e.cmd = 2 → vcXSrc e.cmd ≤ 2 → 4 ≤ countFrom (vcSrcX e.cmd) c.vx →
        (takeFrom (vcSrcX e.cmd) 4 c.vx).1.any (·.poison) = false →
        ∃ u, exec (.loadc k) s = .next u ∧ (coreAt u k).vcq = rest) ∧
      (vcOpc e.cmd = 3 → vcXSrc e.cmd ≤ 2 → 49 ≤ countFrom (vcSrcX e.cmd) c.vx →
        (takeFrom (vcSrcX e.cmd) 49 c.vx).1.any (·.poison) = false → (lutAt c (vcTarget e.cmd)).owner = some e.slot →
        ∃ u, exec (.loadlut k) s = .next u ∧ (coreAt u k).vcq = rest)) ∧
    (∀ r, let cmd := r.ent.cmd
      let w := vcStage cmd 0
      c.vcHeld = [] → c.vcRun = some r → vcOpc cmd = 1 → vcXSrc cmd ≤ 2 → (vcXFmt cmd = 5 ∨ vcXFmt cmd = 6) → vcYSrc cmd = 15 →
      vcStages cmd = 1 → (1 ≤ stOp w ∧ stOp w ≤ 5 ∨ 8 ≤ stOp w ∧ stOp w ≤ 15) → stPred w = false → stSaveT w = false →
      stB w = 0 → stZ w = 0 → vcRedEn cmd = false → vcOutW cmd = 2 → 1 ≤ vcN cmd → vcN cmd ≤ 64 → r.vec = 0 → r.poison = false →
      4 ≤ countFrom (vcSrcX cmd) c.vx → (takeFrom (vcSrcX cmd) 4 c.vx).1.any (·.poison) = false →
      ∃ u, exec (.vcQuadStart k false) s = .next u ∧ (coreAt u k).vcRun = none ∧ (coreAt u k).vx = (takeFrom (vcSrcX cmd) 4 c.vx).2)

/-- The commands of the streamers, the scratchpad and the channels complete on a core that is not HELD, and a HELD one is
cleared: descriptors begin or are done, lines and beats move, messages, credits and contributions go and come (R38, R130, R135, R139, R140,
R143, R144, R156, R167 to R173, R176). -/
def Sys2Proof.Claims.StreamersComplete : Prop :=
  ∀ (s : State) (k u : Nat), k < nCores →
    let c := coreAt s k
    let x := strmAt c u
    (∃ t, exec (.ceWriteBack k) s = .next t ∧ (coreAt t k).wbq = c.wbq.drop 1) ∧
    (∀ a, nextScrub c (c.scrubPos % spSize) = some a → isW c a = false →
      ∃ t, exec (.patrolScrub k []) s = .next t ∧ (coreAt t k).scrubPos = (a + 64) % spSize) ∧
    (c.held = true → (basinAt s (basinOf k)).resetting = false → ∃ t, exec (.coreClear k) s = .next t ∧ (coreAt t k).held = false) ∧
    (∀ p, c.svc = [p] → svcHeld c p = false → svcRefused c p = false → banksOn c (svcAddr c p) p.len = true → p.kind = 0 →
      (spPeek c (svcAddr c p) p.len).any (·.2) = false →
      ∃ t, exec (.remoteAccess k []) s = .next t ∧ (coreAt t k).svc = []) ∧
    (c.held = false →
      (∀ e rest, u ≤ 2 → x.q = e :: rest → e.made = false → e.begun = false →
        let begun (t : State) : Prop := (strmAt (coreAt t k) u).q = { e with begun := true } :: rest
        (sdOpc e.d = 1 → sdEmpty e.d = false → ∃ t, exec (.load k u) s = .next t ∧ begun t) ∧
        (u = 2 → sdOpc e.d = 2 → sdEmpty e.d = false → ∃ t, exec (.store k) s = .next t ∧ begun t) ∧
        (sdOpc e.d = 0 → x.reqs = [] → x.buf = [] → e.broken = false → e.cut = false → (∀ r ∈ rest, r.made = false) →
          ∃ t, exec (.sdNop k u) s = .next t ∧ (strmAt (coreAt t k) u).q = rest)) ∧
      (∀ e, u ≤ 1 → c.replay = none → c.check = none → genEnt x = some e → e.begun = true →
        (∀ h l, x.q = h :: l → headDone x h = false) → sdOpc e.d = 1 → sdMode e.d = 0 → sdSpace e.d = 0 →
        (x.pos = 0 → chunkFault c e x.chunk = none) → linesOut x < sdDepth e.d →
        beatsOut x (sdPort e.d) + (fifoOf c (sdPort e.d)).length ≤ 16 →
        banksOn c (winBase (windowOf c e.slot) + ((chunkOff e.d x.chunk).toNat + x.pos))
          (min (64 - ((chunkOff e.d x.chunk).toNat + x.pos) % 64) (sdChunk e.d - x.pos)) = true →
        ∃ t, exec (.streamerRequest k u) s = .next t ∧ (strmAt (coreAt t k) u).reqs.length = x.reqs.length + 1) ∧
      (∀ e rest r, u ≤ 1 → c.arr = [] → x.q = e :: rest → e.cut = false → x.reqs = [r] → r.ser = x.ser → r.space = 0 →
        r.data = none → r.write = false → (spPeek c r.addr r.len).any (·.2) = false →
        ∃ t, exec (.lineReturn k u []) s = .next t ∧
          (strmAt (coreAt t k) u).reqs = [{ r with data := some (clean (memRead c.mem r.addr r.len)) }]) ∧
      (∀ e rest p, u ≤ 1 → p ≤ 3 → c.replay = none → x.q = e :: rest → e.begun = true → sdPort e.d = p →
        x.buf.length = sdFill e.d → 0 < x.buf.length → (fifoOf c p).length < 16 →
        ∃ t, exec (.operandBeatArrive k p u) s = .next t ∧ (fifoOf (coreAt t k) p).length = (fifoOf c p).length + 1) ∧
      (∀ e y rest tg tgs, (outAt c e).sendQ = y :: rest → y.kind ≤ 1 → outKind (outAt c e) ≠ 3 → (outAt c e).targets = tg :: tgs →
        c.replay = none → drainHold s k c (outAt c e) y = false → minCredit (outAt c e) ≠ 0 →
        ∃ t, exec (.messageInject k e) s = .next t ∧ (outAt (coreAt t k) e).sendQ = rest ∧
          (coreAt t k).inj.length = c.inj.length + 1) ∧
      (∀ p, let i := inAt c p.dstEp
        c.holding = false → c.arr = [p] → (p.kind = 4 ∨ p.kind = 5) → p.gen = inExpect i →
        (p.chSeq + 65536 - i.h) % 65536 < inQdepth i → tabHas i.fixed (p.chSeq % inQdepth i) = false →
        ∃ t, exec (.messageArrive k false) s = .next t ∧ (coreAt t k).arr = [] ∧
          tabHas (inAt (coreAt t k) p.dstEp).fixed (p.chSeq % inQdepth i) = true) ∧
      (∀ e pos m, let i := inAt c e
        firstSpilled i = some (pos, m) → (m.seq + 65536 - i.h) % 65536 < inQdepth i →
        (spPeek c (localAddr c (inOwner i) (inSpillOff i + 16 * pos)) 16).any (·.2) = false →
        ∃ t, exec (.spillCopy k e []) s = .next t ∧ (inAt (coreAt t k) e).spill = tabDel i.spill pos) ∧
      (∀ e slot firing m key, let i := inAt c e
        portMismatch c e = none → (inPort i = 2 ∨ inPort i = 3) → takerOf c e (inPort i) = some (slot, firing) → inQdepth i ≠ 0 →
        i.fixed.find? (fun m => m.1 == i.h % inQdepth i) = some (key, m) → (strmAt c 5).active = false → m.token = true →
        (fifoOf c (inPort i)).length < 16 →
        ∃ t, exec (.messageTake k e []) s = .next t ∧ (inAt (coreAt t k) e).h = (i.h + 1) % 65536) ∧
      (∀ e, let i := inAt c e
        mayFree c e = true → i.contribs = [] →
        ∃ t, exec (.entryFree k e) s = .next t ∧ (inAt (coreAt t k) e).pend = i.pend + 1) ∧
      (∀ e b, let i := inAt c e
        i.pend ≠ 0 → (8 ≤ i.pend ∨ b = true) → i.contribs = [] →
        ∃ t, exec (.creditSend k e b) s = .next t ∧ (inAt (coreAt t k) e).pend = i.pend - min i.pend 32) ∧
      (∀ p, let o := outAt c (bits p.chSeq 4 0)
        c.holding = false → c.arr = [p] → p.kind = 6 → bits p.chSeq 9 5 < o.credit.length → bits p.chSeq 9 5 < o.returned.length →
        ∃ t, exec (.creditArrive k) s = .next t ∧ (coreAt t k).arr = [] ∧
          nth (outAt (coreAt t k) (bits p.chSeq 4 0)).credit (bits p.chSeq 9 5) 0 =
            nth o.credit (bits p.chSeq 9 5) 0 + (bits p.chSeq 14 10 + 1)) ∧
      (∀ p w, let i := inAt c p.dstEp
        c.holding = false → c.arr = [p] → p.kind = 7 → redEntry s k p.group p.defBasin = some w → p.gen = inExpect i →
        (p.chSeq + 65536 - i.h) % 65536 < inQdepth i → tabHas i.fixed (p.chSeq % inQdepth i) = false → c.rounds = [] →
        p.anchor = bits w 23 16 → (∀ v ∈ vals16 (p.len / 16) p.data, bits v 111 104 = p.anchor) →
        p.ncontrib < i.contribs.length * p.npkt → 0 < p.len / 16 → 16 * (p.len / 16) = p.len →
        16 * p.pkt + p.len / 16 ≤ inLandSize i / 16 →
        (∀ j, j < p.len / 16 →
          bits (leNat (memRead c.mem (landAddr c i p.chSeq + 256 * p.pkt + 16 * j) 16)) 111 104 = p.anchor) →
        ∃ t, exec (.contributionArrive ⟨k, []⟩) s = .next t ∧ (coreAt t k).arr = [] ∧
          (coreAt t k).rounds.map (·.got) = [p.ncontrib]))

/-- The commands of the meshes complete: packets enter, hop, take the col and leave; gaps, flips, sweeps, windows and control packets
do their work; the engines of the sync objects take their packets and a core its answer; the supervisor reads the stall state
(R180, R222, R224, R225, R227, R230 to R232, R240, R243, R248, R249). -/
def Sys2Proof.Claims.MeshesComplete : Prop :=
  ∀ (s : State) (k : Nat), k < nCores →
    let c := coreAt s k
    (stallCycles (noteWaits s) = [] → ∃ t, exec .stallRead s = .next t ∧ t = noteWaits s) ∧
    (∀ p, c.inj.find? (winRoom c) = some p → p.vc ≠ 5 → isGap s (dieOf k) = false →
      bufUse s k 4 p.vc + flitsOf p ≤ bufferFlits k p.vc → p.dtype = 1 →
      ∃ t, exec (.packetInject k) s = .next t ∧ t.mesh.net.length = s.mesh.net.length + 1) ∧
    (∀ p, s.mesh.net.find? (fun q => q.id == p.id) = some p →
      (∀ d j, hdrBad p = false → (p.mc.length ≤ 1 → forwardTo s p.at_ p.dstCore = none) → p.kind ≠ 7 → (p.vc = 0 ∨ p.vc = 2) →
        neighbour p.at_ d = some j → wantsOut s p = some (dirNo d) → flitsOf p ≤ outFree s p.at_ (dirNo d) p.vc →
        ∃ t, exec (.packetHop p.id d) s = .next t ∧ ∃ q ∈ t.mesh.net, q.id = p.id ∧ q.at_ = j) ∧
      ((p.vc = 0 ∨ p.vc = 2) → p.at_ ≠ p.dstCore → minimalOuts s p = [] →
        ∃ t, exec (.colEntry p.id) s = .next t ∧
          tabGet (routerAt t p.at_).ctr 60 0 = (tabGet (routerAt s p.at_).ctr 60 0 + 1) % 2 ^ 64) ∧
      (p.at_ = p.dstCore → p.vc ≠ 5 → hdrBad p = false → p.dtype = 2 → p.reqUnit < 16 →
        ∃ t, exec (.packetEject p.id) s = .next t ∧ t.mesh.net = s.mesh.net.filter (fun q => q.id != p.id))) ∧
    (∀ dir, ∃ t, exec (.flitReplay k dir) s = .next t ∧
      tabGet (routerAt t k).ctr (66 + dirNo dir) 0 = (tabGet (routerAt s k).ctr (66 + dirNo dir) 0 + 1) % 2 ^ 64) ∧
    (∀ d cut, d < 64 → isGap s d = false →
      (∃ t, exec (.hardGap d ⟨5, cut⟩) s = .next t ∧ isGap t d = true) ∧
      (∀ dir, (linkDie k dir).1 = d → ∃ t, exec (.linkFailure k ⟨dir, cut⟩) s = .next t ∧ isGap t d = true)) ∧
    (s.mesh.flipping = true → ∃ t, exec .flipComplete s = .next t ∧ t.mesh.flipping = false ∧
      t.mesh.flips = (s.mesh.flips + 1) % 2 ^ 64) ∧
    (let old := b2n (!s.mesh.epoch)
     s.mesh.oldBank = true → s.mesh.flipping = false → routerSum s (73 + old) = routerSum s (75 + old) →
      nodeSum s old = nodeSum s (2 + old) → ∃ t, exec .drainMarkerPass s = .next t ∧ t.mesh.oldBank = false) ∧
    (∀ d, s.mesh.drains = [d] → ∃ t, exec .drainSweepPass s = .next t ∧
      t.mesh.drains.map (·.sweep) = [some (sweepCounts s d.basins)]) ∧
    (∀ outbound j e, let u := winUnit outbound j
      j < winCount outbound → c.echoes.find? (fun x => x.1 == u) = some e → 2 ≤ e.2 → (winOf c u).2 = 0 →
      ∃ t, exec (.congestionEcho k outbound j) s = .next t ∧ (winOf (coreAt t k) u).1 = max 1 ((winOf c u).1 / 2)) ∧
    (∀ outbound j, let u := winUnit outbound j
      j < winCount outbound → (winUse c u).2 = 0 →
      ∃ t, exec (.injectionWindowTick k outbound j) s = .next t ∧ (winOf (coreAt t k) u).1 = min 64 ((winOf c u).1 + 1)) ∧
    (∀ h data m n, m < nCores → s.sup.phase = .ready → ctlSrc h < nCores → ctlDst h < nCores → ctlBad h data = false →
      ctlOpen s (ctlSrc h) (ctlDst h) = true → ctlOp h = 0 → 0x1000 ≤ ctlAddr h → ctlAddr h < 0x1370 →
      ∃ t, exec (.controlPacket h data m n) s = .next t ∧ t.out.length = s.out.length + 1) ∧
    (∀ b p x, b < 16 → objAt s b p.obj = some x →
      (SyncTakes s (syncFor s b 0) p → x.isToken = false → x.replica = false → p.val = x.phase →
        let a := (epOf (ctxAt s (ownerOf s b)), p.slot, p.tslot)
        x.cur.contains a = false → x.cur.length + 1 < x.participants →
        ∃ t, exec (.engineArrive b) s = .next t ∧ (objAt t b p.obj).map (·.cur) = some (x.cur ++ [a])) ∧
      (SyncTakes s (syncFor s b 1) p → x.isToken = true → x.waiting = [] → x.count + p.val < 2 ^ 32 →
        ∃ t, exec (.enginePost b) s = .next t ∧ (objAt t b p.obj).map (·.count) = some (x.count + p.val)) ∧
      (SyncTakes s (syncFor s b 2) p → x.isToken = true → x.count = 0 →
        sumOf ((basinAt s b).objs.map (fun e => e.2.waiting.length)) < 512 →
        ∃ t, exec (.engineTake b) s = .next t ∧
          (objAt t b p.obj).map (·.waiting) = some (x.waiting ++ [(p.slot, p.tslot)]))) ∧
    (∀ p, let t0 := slotAt c p.tslot
      c.holding = false → c.held = false → c.slot = some p.slot → t0.st = .sync → t0.syncObj = syncKey p.home p.obj →
      (SyncTakes s (answerFor s k 3) p → t0.takeWait = false → t0.syncPhase = (p.val + 1) % 65536 →
        ∃ t, exec (.release k) s = .next t ∧ (slotAt (coreAt t k) p.tslot).st = .running) ∧
      (SyncTakes s (answerFor s k 4) p → t0.takeWait = true →
        ∃ t, exec (.grant k) s = .next t ∧ (slotAt (coreAt t k) p.tslot).st = .running))

/-- FAB_RECORD, a register write and a window read complete: a record newer than its context's is adopted, the register takes the
value, the window shows what the site holds (R293, R333, R435, R444). -/
def Sys2Proof.Claims.AccessesComplete : Prop :=
  ∀ (s : State),
    (∀ n h bytes sigOk, let x := ctxAt s n
      let r := recordOf bytes
      TakesCmd s n 0xC h → cmdField h 16 4 ≠ 0 → recordOk s r sigOk = true → newer r.epoch x.fabEpoch = true →
      bits x.act.fabId 35 20 = r.domain → epOf x ≠ 0 → (∀ m, m < 16 → m ≠ n → epOf (ctxAt s m) = 0) → x.fenced = false →
      r.members.any (fun m => m.id == epOf x) = true → r.members.length = 1 → entsOf s n = [] →
      ∃ t, exec (.fabRecord n ⟨bytes, sigOk⟩) s = .next t ∧ Ended s t n h 0 ∧ (ctxAt t n).fabEpoch = r.epoch) ∧
    (∀ v push, s.sup.phase = .ready → s.glb.disturbed = [] →
      ∃ t, exec (.registerWrite 0x28 8 v ⟨false, push⟩) s = .next t ∧ t.glb.alertEn = v.toNat % 32) ∧
    (∀ o, s.sup.phase = .ready → o < 0x10000 → o % 8 = 0 → s.glb.winSel < nCores → isGap s (dieOf s.glb.winSel) = false →
      s.glb.disturbed = [] →
      ∃ t, exec (.coreWindowAccess false o true) s = .next t ∧ t.out = s.out ++ [.regRead (0x100000 + o) (siteReg s s.glb.winSel o)])

/-- The commands of station code, the engines, streamers, channels and meshes, FAB_RECORD and the register accesses complete:
CodeCompletes, EnginesComplete, StreamersComplete, MeshesComplete, AccessesComplete, as said at each. -/
def Obligations.CommandsComplete : Prop :=
  Sys2Proof.Claims.CodeCompletes ∧ Sys2Proof.Claims.EnginesComplete ∧ Sys2Proof.Claims.StreamersComplete ∧
  Sys2Proof.Claims.MeshesComplete ∧ Sys2Proof.Claims.AccessesComplete
end

