-- ==== Sys2Proof/Laws/State.lean ====
section
/-! SUPPORT. One lemma for each field of State under each named update, and for the fields of a core under the core's
own updates; tables read after an update; the units read after an update of a unit. -/

namespace Sys2Proof.Machine

/-! ### Fields of State under an update -/

@[simp] theorem putCore_pending (s : State) (k : Nat) (c : Core) : (putCore s k c).pending = s.pending := rfl
@[simp] theorem putCore_free (s : State) (k : Nat) (c : Core) : (putCore s k c).free = s.free := rfl
@[simp] theorem putCore_out (s : State) (k : Nat) (c : Core) : (putCore s k c).out = s.out := rfl
@[simp] theorem putCore_sup (s : State) (k : Nat) (c : Core) : (putCore s k c).sup = s.sup := rfl
@[simp] theorem putCore_pwr (s : State) (k : Nat) (c : Core) : (putCore s k c).pwr = s.pwr := rfl
@[simp] theorem putCore_clk (s : State) (k : Nat) (c : Core) : (putCore s k c).clk = s.clk := rfl
@[simp] theorem putCore_dies (s : State) (k : Nat) (c : Core) : (putCore s k c).dies = s.dies := rfl
@[simp] theorem putCore_flash (s : State) (k : Nat) (c : Core) : (putCore s k c).flash = s.flash := rfl
@[simp] theorem putCore_fuse (s : State) (k : Nat) (c : Core) : (putCore s k c).fuse = s.fuse := rfl
@[simp] theorem putCore_trust (s : State) (k : Nat) (c : Core) : (putCore s k c).trust = s.trust := rfl
@[simp] theorem putCore_glb (s : State) (k : Nat) (c : Core) : (putCore s k c).glb = s.glb := rfl
@[simp] theorem putCore_tst (s : State) (k : Nat) (c : Core) : (putCore s k c).tst = s.tst := rfl
@[simp] theorem putCore_ctxs (s : State) (k : Nat) (c : Core) : (putCore s k c).ctxs = s.ctxs := rfl
@[simp] theorem putCore_basins (s : State) (k : Nat) (c : Core) : (putCore s k c).basins = s.basins := rfl
@[simp] theorem putCore_cores (s : State) (k : Nat) (c : Core) : (putCore s k c).cores = tabSet s.cores k c := rfl
@[simp] theorem putCore_routers (s : State) (k : Nat) (c : Core) : (putCore s k c).routers = s.routers := rfl
@[simp] theorem putCore_mesh (s : State) (k : Nat) (c : Core) : (putCore s k c).mesh = s.mesh := rfl
@[simp] theorem putCore_hbms (s : State) (k : Nat) (c : Core) : (putCore s k c).hbms = s.hbms := rfl
@[simp] theorem putCore_fab (s : State) (k : Nat) (c : Core) : (putCore s k c).fab = s.fab := rfl
@[simp] theorem putCore_heal (s : State) (k : Nat) (c : Core) : (putCore s k c).heal = s.heal := rfl
@[simp] theorem putCore_rst (s : State) (k : Nat) (c : Core) : (putCore s k c).rst = s.rst := rfl
@[simp] theorem putCore_telem (s : State) (k : Nat) (c : Core) : (putCore s k c).telem = s.telem := rfl
@[simp] theorem putCore_hostp (s : State) (k : Nat) (c : Core) : (putCore s k c).hostp = s.hostp := rfl
@[simp] theorem putCore_mgmt (s : State) (k : Nat) (c : Core) : (putCore s k c).mgmt = s.mgmt := rfl
@[simp] theorem putCore_jtag (s : State) (k : Nat) (c : Core) : (putCore s k c).jtag = s.jtag := rfl

@[simp] theorem putCtx_pending (s : State) (n : Nat) (c : Ctx) : (putCtx s n c).pending = s.pending := rfl
@[simp] theorem putCtx_free (s : State) (n : Nat) (c : Ctx) : (putCtx s n c).free = s.free := rfl
@[simp] theorem putCtx_out (s : State) (n : Nat) (c : Ctx) : (putCtx s n c).out = s.out := rfl
@[simp] theorem putCtx_sup (s : State) (n : Nat) (c : Ctx) : (putCtx s n c).sup = s.sup := rfl
@[simp] theorem putCtx_pwr (s : State) (n : Nat) (c : Ctx) : (putCtx s n c).pwr = s.pwr := rfl
@[simp] theorem putCtx_clk (s : State) (n : Nat) (c : Ctx) : (putCtx s n c).clk = s.clk := rfl
@[simp] theorem putCtx_dies (s : State) (n : Nat) (c : Ctx) : (putCtx s n c).dies = s.dies := rfl
@[simp] theorem putCtx_flash (s : State) (n : Nat) (c : Ctx) : (putCtx s n c).flash = s.flash := rfl
@[simp] theorem putCtx_fuse (s : State) (n : Nat) (c : Ctx) : (putCtx s n c).fuse = s.fuse := rfl
@[simp] theorem putCtx_trust (s : State) (n : Nat) (c : Ctx) : (putCtx s n c).trust = s.trust := rfl
@[simp] theorem putCtx_glb (s : State) (n : Nat) (c : Ctx) : (putCtx s n c).glb = s.glb := rfl
@[simp] theorem putCtx_tst (s : State) (n : Nat) (c : Ctx) : (putCtx s n c).tst = s.tst := rfl
@[simp] theorem putCtx_ctxs (s : State) (n : Nat) (c : Ctx) : (putCtx s n c).ctxs = tabSet s.ctxs n c := rfl
@[simp] theorem putCtx_basins (s : State) (n : Nat) (c : Ctx) : (putCtx s n c).basins = s.basins := rfl
@[simp] theorem putCtx_cores (s : State) (n : Nat) (c : Ctx) : (putCtx s n c).cores = s.cores := rfl
@[simp] theorem putCtx_routers (s : State) (n : Nat) (c : Ctx) : (putCtx s n c).routers = s.routers := rfl
@[simp] theorem putCtx_mesh (s : State) (n : Nat) (c : Ctx) : (putCtx s n c).mesh = s.mesh := rfl
@[simp] theorem putCtx_hbms (s : State) (n : Nat) (c : Ctx) : (putCtx s n c).hbms = s.hbms := rfl
@[simp] theorem putCtx_fab (s : State) (n : Nat) (c : Ctx) : (putCtx s n c).fab = s.fab := rfl
@[simp] theorem putCtx_heal (s : State) (n : Nat) (c : Ctx) : (putCtx s n c).heal = s.heal := rfl
@[simp] theorem putCtx_rst (s : State) (n : Nat) (c : Ctx) : (putCtx s n c).rst = s.rst := rfl
@[simp] theorem putCtx_telem (s : State) (n : Nat) (c : Ctx) : (putCtx s n c).telem = s.telem := rfl
@[simp] theorem putCtx_hostp (s : State) (n : Nat) (c : Ctx) : (putCtx s n c).hostp = s.hostp := rfl
@[simp] theorem putCtx_mgmt (s : State) (n : Nat) (c : Ctx) : (putCtx s n c).mgmt = s.mgmt := rfl
@[simp] theorem putCtx_jtag (s : State) (n : Nat) (c : Ctx) : (putCtx s n c).jtag = s.jtag := rfl

@[simp] theorem putBasin_pending (s : State) (b : Nat) (x : Basin) : (putBasin s b x).pending = s.pending := rfl
@[simp] theorem putBasin_free (s : State) (b : Nat) (x : Basin) : (putBasin s b x).free = s.free := rfl
@[simp] theorem putBasin_out (s : State) (b : Nat) (x : Basin) : (putBasin s b x).out = s.out := rfl
@[simp] theorem putBasin_sup (s : State) (b : Nat) (x : Basin) : (putBasin s b x).sup = s.sup := rfl
@[simp] theorem putBasin_pwr (s : State) (b : Nat) (x : Basin) : (putBasin s b x).pwr = s.pwr := rfl
@[simp] theorem putBasin_clk (s : State) (b : Nat) (x : Basin) : (putBasin s b x).clk = s.clk := rfl
@[simp] theorem putBasin_dies (s : State) (b : Nat) (x : Basin) : (putBasin s b x).dies = s.dies := rfl
@[simp] theorem putBasin_flash (s : State) (b : Nat) (x : Basin) : (putBasin s b x).flash = s.flash := rfl
@[simp] theorem putBasin_fuse (s : State) (b : Nat) (x : Basin) : (putBasin s b x).fuse = s.fuse := rfl
@[simp] theorem putBasin_trust (s : State) (b : Nat) (x : Basin) : (putBasin s b x).trust = s.trust := rfl
@[simp] theorem putBasin_glb (s : State) (b : Nat) (x : Basin) : (putBasin s b x).glb = s.glb := rfl
@[simp] theorem putBasin_tst (s : State) (b : Nat) (x : Basin) : (putBasin s b x).tst = s.tst := rfl
@[simp] theorem putBasin_ctxs (s : State) (b : Nat) (x : Basin) : (putBasin s b x).ctxs = s.ctxs := rfl
@[simp] theorem putBasin_basins (s : State) (b : Nat) (x : Basin) : (putBasin s b x).basins = tabSet s.basins b x := rfl
@[simp] theorem putBasin_cores (s : State) (b : Nat) (x : Basin) : (putBasin s b x).cores = s.cores := rfl
@[simp] theorem putBasin_routers (s : State) (b : Nat) (x : Basin) : (putBasin s b x).routers = s.routers := rfl
@[simp] theorem putBasin_mesh (s : State) (b : Nat) (x : Basin) : (putBasin s b x).mesh = s.mesh := rfl
@[simp] theorem putBasin_hbms (s : State) (b : Nat) (x : Basin) : (putBasin s b x).hbms = s.hbms := rfl
@[simp] theorem putBasin_fab (s : State) (b : Nat) (x : Basin) : (putBasin s b x).fab = s.fab := rfl
@[simp] theorem putBasin_heal (s : State) (b : Nat) (x : Basin) : (putBasin s b x).heal = s.heal := rfl
@[simp] theorem putBasin_rst (s : State) (b : Nat) (x : Basin) : (putBasin s b x).rst = s.rst := rfl
@[simp] theorem putBasin_telem (s : State) (b : Nat) (x : Basin) : (putBasin s b x).telem = s.telem := rfl
@[simp] theorem putBasin_hostp (s : State) (b : Nat) (x : Basin) : (putBasin s b x).hostp = s.hostp := rfl
@[simp] theorem putBasin_mgmt (s : State) (b : Nat) (x : Basin) : (putBasin s b x).mgmt = s.mgmt := rfl
@[simp] theorem putBasin_jtag (s : State) (b : Nat) (x : Basin) : (putBasin s b x).jtag = s.jtag := rfl

@[simp] theorem putDie_pending (s : State) (d : Nat) (x : Die) : (putDie s d x).pending = s.pending := rfl
@[simp] theorem putDie_free (s : State) (d : Nat) (x : Die) : (putDie s d x).free = s.free := rfl
@[simp] theorem putDie_out (s : State) (d : Nat) (x : Die) : (putDie s d x).out = s.out := rfl
@[simp] theorem putDie_sup (s : State) (d : Nat) (x : Die) : (putDie s d x).sup = s.sup := rfl
@[simp] theorem putDie_pwr (s : State) (d : Nat) (x : Die) : (putDie s d x).pwr = s.pwr := rfl
@[simp] theorem putDie_clk (s : State) (d : Nat) (x : Die) : (putDie s d x).clk = s.clk := rfl
@[simp] theorem putDie_dies (s : State) (d : Nat) (x : Die) : (putDie s d x).dies = tabSet s.dies d x := rfl
@[simp] theorem putDie_flash (s : State) (d : Nat) (x : Die) : (putDie s d x).flash = s.flash := rfl
@[simp] theorem putDie_fuse (s : State) (d : Nat) (x : Die) : (putDie s d x).fuse = s.fuse := rfl
@[simp] theorem putDie_trust (s : State) (d : Nat) (x : Die) : (putDie s d x).trust = s.trust := rfl
@[simp] theorem putDie_glb (s : State) (d : Nat) (x : Die) : (putDie s d x).glb = s.glb := rfl
@[simp] theorem putDie_tst (s : State) (d : Nat) (x : Die) : (putDie s d x).tst = s.tst := rfl
@[simp] theorem putDie_ctxs (s : State) (d : Nat) (x : Die) : (putDie s d x).ctxs = s.ctxs := rfl
@[simp] theorem putDie_basins (s : State) (d : Nat) (x : Die) : (putDie s d x).basins = s.basins := rfl
@[simp] theorem putDie_cores (s : State) (d : Nat) (x : Die) : (putDie s d x).cores = s.cores := rfl
@[simp] theorem putDie_routers (s : State) (d : Nat) (x : Die) : (putDie s d x).routers = s.routers := rfl
@[simp] theorem putDie_mesh (s : State) (d : Nat) (x : Die) : (putDie s d x).mesh = s.mesh := rfl
@[simp] theorem putDie_hbms (s : State) (d : Nat) (x : Die) : (putDie s d x).hbms = s.hbms := rfl
@[simp] theorem putDie_fab (s : State) (d : Nat) (x : Die) : (putDie s d x).fab = s.fab := rfl
@[simp] theorem putDie_heal (s : State) (d : Nat) (x : Die) : (putDie s d x).heal = s.heal := rfl
@[simp] theorem putDie_rst (s : State) (d : Nat) (x : Die) : (putDie s d x).rst = s.rst := rfl
@[simp] theorem putDie_telem (s : State) (d : Nat) (x : Die) : (putDie s d x).telem = s.telem := rfl
@[simp] theorem putDie_hostp (s : State) (d : Nat) (x : Die) : (putDie s d x).hostp = s.hostp := rfl
@[simp] theorem putDie_mgmt (s : State) (d : Nat) (x : Die) : (putDie s d x).mgmt = s.mgmt := rfl
@[simp] theorem putDie_jtag (s : State) (d : Nat) (x : Die) : (putDie s d x).jtag = s.jtag := rfl

@[simp] theorem putHbm_pending (s : State) (b : Nat) (x : Hbm) : (putHbm s b x).pending = s.pending := rfl
@[simp] theorem putHbm_free (s : State) (b : Nat) (x : Hbm) : (putHbm s b x).free = s.free := rfl
@[simp] theorem putHbm_out (s : State) (b : Nat) (x : Hbm) : (putHbm s b x).out = s.out := rfl
@[simp] theorem putHbm_sup (s : State) (b : Nat) (x : Hbm) : (putHbm s b x).sup = s.sup := rfl
@[simp] theorem putHbm_pwr (s : State) (b : Nat) (x : Hbm) : (putHbm s b x).pwr = s.pwr := rfl
@[simp] theorem putHbm_clk (s : State) (b : Nat) (x : Hbm) : (putHbm s b x).clk = s.clk := rfl
@[simp] theorem putHbm_dies (s : State) (b : Nat) (x : Hbm) : (putHbm s b x).dies = s.dies := rfl
@[simp] theorem putHbm_flash (s : State) (b : Nat) (x : Hbm) : (putHbm s b x).flash = s.flash := rfl
@[simp] theorem putHbm_fuse (s : State) (b : Nat) (x : Hbm) : (putHbm s b x).fuse = s.fuse := rfl
@[simp] theorem putHbm_trust (s : State) (b : Nat) (x : Hbm) : (putHbm s b x).trust = s.trust := rfl
@[simp] theorem putHbm_glb (s : State) (b : Nat) (x : Hbm) : (putHbm s b x).glb = s.glb := rfl
@[simp] theorem putHbm_tst (s : State) (b : Nat) (x : Hbm) : (putHbm s b x).tst = s.tst := rfl
@[simp] theorem putHbm_ctxs (s : State) (b : Nat) (x : Hbm) : (putHbm s b x).ctxs = s.ctxs := rfl
@[simp] theorem putHbm_basins (s : State) (b : Nat) (x : Hbm) : (putHbm s b x).basins = s.basins := rfl
@[simp] theorem putHbm_cores (s : State) (b : Nat) (x : Hbm) : (putHbm s b x).cores = s.cores := rfl
@[simp] theorem putHbm_routers (s : State) (b : Nat) (x : Hbm) : (putHbm s b x).routers = s.routers := rfl
@[simp] theorem putHbm_mesh (s : State) (b : Nat) (x : Hbm) : (putHbm s b x).mesh = s.mesh := rfl
@[simp] theorem putHbm_hbms (s : State) (b : Nat) (x : Hbm) : (putHbm s b x).hbms = tabSet s.hbms b x := rfl
@[simp] theorem putHbm_fab (s : State) (b : Nat) (x : Hbm) : (putHbm s b x).fab = s.fab := rfl
@[simp] theorem putHbm_heal (s : State) (b : Nat) (x : Hbm) : (putHbm s b x).heal = s.heal := rfl
@[simp] theorem putHbm_rst (s : State) (b : Nat) (x : Hbm) : (putHbm s b x).rst = s.rst := rfl
@[simp] theorem putHbm_telem (s : State) (b : Nat) (x : Hbm) : (putHbm s b x).telem = s.telem := rfl
@[simp] theorem putHbm_hostp (s : State) (b : Nat) (x : Hbm) : (putHbm s b x).hostp = s.hostp := rfl
@[simp] theorem putHbm_mgmt (s : State) (b : Nat) (x : Hbm) : (putHbm s b x).mgmt = s.mgmt := rfl
@[simp] theorem putHbm_jtag (s : State) (b : Nat) (x : Hbm) : (putHbm s b x).jtag = s.jtag := rfl

@[simp] theorem putRouter_pending (s : State) (k : Nat) (x : Router) : (putRouter s k x).pending = s.pending := rfl
@[simp] theorem putRouter_free (s : State) (k : Nat) (x : Router) : (putRouter s k x).free = s.free := rfl
@[simp] theorem putRouter_out (s : State) (k : Nat) (x : Router) : (putRouter s k x).out = s.out := rfl
@[simp] theorem putRouter_sup (s : State) (k : Nat) (x : Router) : (putRouter s k x).sup = s.sup := rfl
@[simp] theorem putRouter_pwr (s : State) (k : Nat) (x : Router) : (putRouter s k x).pwr = s.pwr := rfl
@[simp] theorem putRouter_clk (s : State) (k : Nat) (x : Router) : (putRouter s k x).clk = s.clk := rfl
@[simp] theorem putRouter_dies (s : State) (k : Nat) (x : Router) : (putRouter s k x).dies = s.dies := rfl
@[simp] theorem putRouter_flash (s : State) (k : Nat) (x : Router) : (putRouter s k x).flash = s.flash := rfl
@[simp] theorem putRouter_fuse (s : State) (k : Nat) (x : Router) : (putRouter s k x).fuse = s.fuse := rfl
@[simp] theorem putRouter_trust (s : State) (k : Nat) (x : Router) : (putRouter s k x).trust = s.trust := rfl
@[simp] theorem putRouter_glb (s : State) (k : Nat) (x : Router) : (putRouter s k x).glb = s.glb := rfl
@[simp] theorem putRouter_tst (s : State) (k : Nat) (x : Router) : (putRouter s k x).tst = s.tst := rfl
@[simp] theorem putRouter_ctxs (s : State) (k : Nat) (x : Router) : (putRouter s k x).ctxs = s.ctxs := rfl
@[simp] theorem putRouter_basins (s : State) (k : Nat) (x : Router) : (putRouter s k x).basins = s.basins := rfl
@[simp] theorem putRouter_cores (s : State) (k : Nat) (x : Router) : (putRouter s k x).cores = s.cores := rfl
@[simp] theorem putRouter_routers (s : State) (k : Nat) (x : Router) : (putRouter s k x).routers = tabSet s.routers k x := rfl
@[simp] theorem putRouter_mesh (s : State) (k : Nat) (x : Router) : (putRouter s k x).mesh = s.mesh := rfl
@[simp] theorem putRouter_hbms (s : State) (k : Nat) (x : Router) : (putRouter s k x).hbms = s.hbms := rfl
@[simp] theorem putRouter_fab (s : State) (k : Nat) (x : Router) : (putRouter s k x).fab = s.fab := rfl
@[simp] theorem putRouter_heal (s : State) (k : Nat) (x : Router) : (putRouter s k x).heal = s.heal := rfl
@[simp] theorem putRouter_rst (s : State) (k : Nat) (x : Router) : (putRouter s k x).rst = s.rst := rfl
@[simp] theorem putRouter_telem (s : State) (k : Nat) (x : Router) : (putRouter s k x).telem = s.telem := rfl
@[simp] theorem putRouter_hostp (s : State) (k : Nat) (x : Router) : (putRouter s k x).hostp = s.hostp := rfl
@[simp] theorem putRouter_mgmt (s : State) (k : Nat) (x : Router) : (putRouter s k x).mgmt = s.mgmt := rfl
@[simp] theorem putRouter_jtag (s : State) (k : Nat) (x : Router) : (putRouter s k x).jtag = s.jtag := rfl

@[simp] theorem putPort_pending (s : State) (p : Nat) (x : Port) : (putPort s p x).pending = s.pending := rfl
@[simp] theorem putPort_free (s : State) (p : Nat) (x : Port) : (putPort s p x).free = s.free := rfl
@[simp] theorem putPort_out (s : State) (p : Nat) (x : Port) : (putPort s p x).out = s.out := rfl
@[simp] theorem putPort_sup (s : State) (p : Nat) (x : Port) : (putPort s p x).sup = s.sup := rfl
@[simp] theorem putPort_pwr (s : State) (p : Nat) (x : Port) : (putPort s p x).pwr = s.pwr := rfl
@[simp] theorem putPort_clk (s : State) (p : Nat) (x : Port) : (putPort s p x).clk = s.clk := rfl
@[simp] theorem putPort_dies (s : State) (p : Nat) (x : Port) : (putPort s p x).dies = s.dies := rfl
@[simp] theorem putPort_flash (s : State) (p : Nat) (x : Port) : (putPort s p x).flash = s.flash := rfl
@[simp] theorem putPort_fuse (s : State) (p : Nat) (x : Port) : (putPort s p x).fuse = s.fuse := rfl
@[simp] theorem putPort_trust (s : State) (p : Nat) (x : Port) : (putPort s p x).trust = s.trust := rfl
@[simp] theorem putPort_glb (s : State) (p : Nat) (x : Port) : (putPort s p x).glb = s.glb := rfl
@[simp] theorem putPort_tst (s : State) (p : Nat) (x : Port) : (putPort s p x).tst = s.tst := rfl
@[simp] theorem putPort_ctxs (s : State) (p : Nat) (x : Port) : (putPort s p x).ctxs = s.ctxs := rfl
@[simp] theorem putPort_basins (s : State) (p : Nat) (x : Port) : (putPort s p x).basins = s.basins := rfl
@[simp] theorem putPort_cores (s : State) (p : Nat) (x : Port) : (putPort s p x).cores = s.cores := rfl
@[simp] theorem putPort_routers (s : State) (p : Nat) (x : Port) : (putPort s p x).routers = s.routers := rfl
@[simp] theorem putPort_mesh (s : State) (p : Nat) (x : Port) : (putPort s p x).mesh = s.mesh := rfl
@[simp] theorem putPort_hbms (s : State) (p : Nat) (x : Port) : (putPort s p x).hbms = s.hbms := rfl
@[simp] theorem putPort_fab (s : State) (p : Nat) (x : Port) : (putPort s p x).fab = { s.fab with ports := tabSet s.fab.ports p x } := rfl
@[simp] theorem putPort_heal (s : State) (p : Nat) (x : Port) : (putPort s p x).heal = s.heal := rfl
@[simp] theorem putPort_rst (s : State) (p : Nat) (x : Port) : (putPort s p x).rst = s.rst := rfl
@[simp] theorem putPort_telem (s : State) (p : Nat) (x : Port) : (putPort s p x).telem = s.telem := rfl
@[simp] theorem putPort_hostp (s : State) (p : Nat) (x : Port) : (putPort s p x).hostp = s.hostp := rfl
@[simp] theorem putPort_mgmt (s : State) (p : Nat) (x : Port) : (putPort s p x).mgmt = s.mgmt := rfl
@[simp] theorem putPort_jtag (s : State) (p : Nat) (x : Port) : (putPort s p x).jtag = s.jtag := rfl

@[simp] theorem emit_pending (s : State) (o : Output) : (emit s o).pending = s.pending := rfl
@[simp] theorem emit_free (s : State) (o : Output) : (emit s o).free = s.free := rfl
@[simp] theorem emit_out (s : State) (o : Output) : (emit s o).out = s.out ++ [o] := rfl
@[simp] theorem emit_sup (s : State) (o : Output) : (emit s o).sup = s.sup := rfl
@[simp] theorem emit_pwr (s : State) (o : Output) : (emit s o).pwr = s.pwr := rfl
@[simp] theorem emit_clk (s : State) (o : Output) : (emit s o).clk = s.clk := rfl
@[simp] theorem emit_dies (s : State) (o : Output) : (emit s o).dies = s.dies := rfl
@[simp] theorem emit_flash (s : State) (o : Output) : (emit s o).flash = s.flash := rfl
@[simp] theorem emit_fuse (s : State) (o : Output) : (emit s o).fuse = s.fuse := rfl
@[simp] theorem emit_trust (s : State) (o : Output) : (emit s o).trust = s.trust := rfl
@[simp] theorem emit_glb (s : State) (o : Output) : (emit s o).glb = s.glb := rfl
@[simp] theorem emit_tst (s : State) (o : Output) : (emit s o).tst = s.tst := rfl
@[simp] theorem emit_ctxs (s : State) (o : Output) : (emit s o).ctxs = s.ctxs := rfl
@[simp] theorem emit_basins (s : State) (o : Output) : (emit s o).basins = s.basins := rfl
@[simp] theorem emit_cores (s : State) (o : Output) : (emit s o).cores = s.cores := rfl
@[simp] theorem emit_routers (s : State) (o : Output) : (emit s o).routers = s.routers := rfl
@[simp] theorem emit_mesh (s : State) (o : Output) : (emit s o).mesh = s.mesh := rfl
@[simp] theorem emit_hbms (s : State) (o : Output) : (emit s o).hbms = s.hbms := rfl
@[simp] theorem emit_fab (s : State) (o : Output) : (emit s o).fab = s.fab := rfl
@[simp] theorem emit_heal (s : State) (o : Output) : (emit s o).heal = s.heal := rfl
@[simp] theorem emit_rst (s : State) (o : Output) : (emit s o).rst = s.rst := rfl
@[simp] theorem emit_telem (s : State) (o : Output) : (emit s o).telem = s.telem := rfl
@[simp] theorem emit_hostp (s : State) (o : Output) : (emit s o).hostp = s.hostp := rfl
@[simp] theorem emit_mgmt (s : State) (o : Output) : (emit s o).mgmt = s.mgmt := rfl
@[simp] theorem emit_jtag (s : State) (o : Output) : (emit s o).jtag = s.jtag := rfl

@[simp] theorem takeFree_pending (s : State) : ((takeFree s).2).pending = s.pending := rfl
@[simp] theorem takeFree_free (s : State) : ((takeFree s).2).free = s.free + 1 := rfl
@[simp] theorem takeFree_out (s : State) : ((takeFree s).2).out = s.out := rfl
@[simp] theorem takeFree_sup (s : State) : ((takeFree s).2).sup = s.sup := rfl
@[simp] theorem takeFree_pwr (s : State) : ((takeFree s).2).pwr = s.pwr := rfl
@[simp] theorem takeFree_clk (s : State) : ((takeFree s).2).clk = s.clk := rfl
@[simp] theorem takeFree_dies (s : State) : ((takeFree s).2).dies = s.dies := rfl
@[simp] theorem takeFree_flash (s : State) : ((takeFree s).2).flash = s.flash := rfl
@[simp] theorem takeFree_fuse (s : State) : ((takeFree s).2).fuse = s.fuse := rfl
@[simp] theorem takeFree_trust (s : State) : ((takeFree s).2).trust = s.trust := rfl
@[simp] theorem takeFree_glb (s : State) : ((takeFree s).2).glb = s.glb := rfl
@[simp] theorem takeFree_tst (s : State) : ((takeFree s).2).tst = s.tst := rfl
@[simp] theorem takeFree_ctxs (s : State) : ((takeFree s).2).ctxs = s.ctxs := rfl
@[simp] theorem takeFree_basins (s : State) : ((takeFree s).2).basins = s.basins := rfl
@[simp] theorem takeFree_cores (s : State) : ((takeFree s).2).cores = s.cores := rfl
@[simp] theorem takeFree_routers (s : State) : ((takeFree s).2).routers = s.routers := rfl
@[simp] theorem takeFree_mesh (s : State) : ((takeFree s).2).mesh = s.mesh := rfl
@[simp] theorem takeFree_hbms (s : State) : ((takeFree s).2).hbms = s.hbms := rfl
@[simp] theorem takeFree_fab (s : State) : ((takeFree s).2).fab = s.fab := rfl
@[simp] theorem takeFree_heal (s : State) : ((takeFree s).2).heal = s.heal := rfl
@[simp] theorem takeFree_rst (s : State) : ((takeFree s).2).rst = s.rst := rfl
@[simp] theorem takeFree_telem (s : State) : ((takeFree s).2).telem = s.telem := rfl
@[simp] theorem takeFree_hostp (s : State) : ((takeFree s).2).hostp = s.hostp := rfl
@[simp] theorem takeFree_mgmt (s : State) : ((takeFree s).2).mgmt = s.mgmt := rfl
@[simp] theorem takeFree_jtag (s : State) : ((takeFree s).2).jtag = s.jtag := rfl

@[simp] theorem raiseAlert_pending (s : State) (bit : Nat) : (raiseAlert s bit).pending = s.pending := rfl
@[simp] theorem raiseAlert_free (s : State) (bit : Nat) : (raiseAlert s bit).free = s.free := rfl
@[simp] theorem raiseAlert_out (s : State) (bit : Nat) : (raiseAlert s bit).out = s.out := rfl
@[simp] theorem raiseAlert_sup (s : State) (bit : Nat) : (raiseAlert s bit).sup = s.sup := rfl
@[simp] theorem raiseAlert_pwr (s : State) (bit : Nat) : (raiseAlert s bit).pwr = s.pwr := rfl
@[simp] theorem raiseAlert_clk (s : State) (bit : Nat) : (raiseAlert s bit).clk = s.clk := rfl
@[simp] theorem raiseAlert_dies (s : State) (bit : Nat) : (raiseAlert s bit).dies = s.dies := rfl
@[simp] theorem raiseAlert_flash (s : State) (bit : Nat) : (raiseAlert s bit).flash = s.flash := rfl
@[simp] theorem raiseAlert_fuse (s : State) (bit : Nat) : (raiseAlert s bit).fuse = s.fuse := rfl
@[simp] theorem raiseAlert_trust (s : State) (bit : Nat) : (raiseAlert s bit).trust = s.trust := rfl
@[simp] theorem raiseAlert_glb (s : State) (bit : Nat) : (raiseAlert s bit).glb = { s.glb with alert := s.glb.alert ||| 2 ^ bit } := rfl
@[simp] theorem raiseAlert_tst (s : State) (bit : Nat) : (raiseAlert s bit).tst = s.tst := rfl
@[simp] theorem raiseAlert_ctxs (s : State) (bit : Nat) : (raiseAlert s bit).ctxs = s.ctxs := rfl
@[simp] theorem raiseAlert_basins (s : State) (bit : Nat) : (raiseAlert s bit).basins = s.basins := rfl
@[simp] theorem raiseAlert_cores (s : State) (bit : Nat) : (raiseAlert s bit).cores = s.cores := rfl
@[simp] theorem raiseAlert_routers (s : State) (bit : Nat) : (raiseAlert s bit).routers = s.routers := rfl
@[simp] theorem raiseAlert_mesh (s : State) (bit : Nat) : (raiseAlert s bit).mesh = s.mesh := rfl
@[simp] theorem raiseAlert_hbms (s : State) (bit : Nat) : (raiseAlert s bit).hbms = s.hbms := rfl
@[simp] theorem raiseAlert_fab (s : State) (bit : Nat) : (raiseAlert s bit).fab = s.fab := rfl
@[simp] theorem raiseAlert_heal (s : State) (bit : Nat) : (raiseAlert s bit).heal = s.heal := rfl
@[simp] theorem raiseAlert_rst (s : State) (bit : Nat) : (raiseAlert s bit).rst = s.rst := rfl
@[simp] theorem raiseAlert_telem (s : State) (bit : Nat) : (raiseAlert s bit).telem = s.telem := rfl
@[simp] theorem raiseAlert_hostp (s : State) (bit : Nat) : (raiseAlert s bit).hostp = s.hostp := rfl
@[simp] theorem raiseAlert_mgmt (s : State) (bit : Nat) : (raiseAlert s bit).mgmt = s.mgmt := rfl
@[simp] theorem raiseAlert_jtag (s : State) (bit : Nat) : (raiseAlert s bit).jtag = s.jtag := rfl

@[simp] theorem bumpTst_pending (s : State) (i n : Nat) : (bumpTst s i n).pending = s.pending := rfl
@[simp] theorem bumpTst_free (s : State) (i n : Nat) : (bumpTst s i n).free = s.free := rfl
@[simp] theorem bumpTst_out (s : State) (i n : Nat) : (bumpTst s i n).out = s.out := rfl
@[simp] theorem bumpTst_sup (s : State) (i n : Nat) : (bumpTst s i n).sup = s.sup := rfl
@[simp] theorem bumpTst_pwr (s : State) (i n : Nat) : (bumpTst s i n).pwr = s.pwr := rfl
@[simp] theorem bumpTst_clk (s : State) (i n : Nat) : (bumpTst s i n).clk = s.clk := rfl
@[simp] theorem bumpTst_dies (s : State) (i n : Nat) : (bumpTst s i n).dies = s.dies := rfl
@[simp] theorem bumpTst_flash (s : State) (i n : Nat) : (bumpTst s i n).flash = s.flash := rfl
@[simp] theorem bumpTst_fuse (s : State) (i n : Nat) : (bumpTst s i n).fuse = s.fuse := rfl
@[simp] theorem bumpTst_trust (s : State) (i n : Nat) : (bumpTst s i n).trust = s.trust := rfl
@[simp] theorem bumpTst_glb (s : State) (i n : Nat) : (bumpTst s i n).glb = s.glb := rfl
@[simp] theorem bumpTst_tst (s : State) (i n : Nat) : (bumpTst s i n).tst = { s.tst with ctr := bump s.tst.ctr i n } := rfl
@[simp] theorem bumpTst_ctxs (s : State) (i n : Nat) : (bumpTst s i n).ctxs = s.ctxs := rfl
@[simp] theorem bumpTst_basins (s : State) (i n : Nat) : (bumpTst s i n).basins = s.basins := rfl
@[simp] theorem bumpTst_cores (s : State) (i n : Nat) : (bumpTst s i n).cores = s.cores := rfl
@[simp] theorem bumpTst_routers (s : State) (i n : Nat) : (bumpTst s i n).routers = s.routers := rfl
@[simp] theorem bumpTst_mesh (s : State) (i n : Nat) : (bumpTst s i n).mesh = s.mesh := rfl
@[simp] theorem bumpTst_hbms (s : State) (i n : Nat) : (bumpTst s i n).hbms = s.hbms := rfl
@[simp] theorem bumpTst_fab (s : State) (i n : Nat) : (bumpTst s i n).fab = s.fab := rfl
@[simp] theorem bumpTst_heal (s : State) (i n : Nat) : (bumpTst s i n).heal = s.heal := rfl
@[simp] theorem bumpTst_rst (s : State) (i n : Nat) : (bumpTst s i n).rst = s.rst := rfl
@[simp] theorem bumpTst_telem (s : State) (i n : Nat) : (bumpTst s i n).telem = s.telem := rfl
@[simp] theorem bumpTst_hostp (s : State) (i n : Nat) : (bumpTst s i n).hostp = s.hostp := rfl
@[simp] theorem bumpTst_mgmt (s : State) (i n : Nat) : (bumpTst s i n).mgmt = s.mgmt := rfl
@[simp] theorem bumpTst_jtag (s : State) (i n : Nat) : (bumpTst s i n).jtag = s.jtag := rfl

/-! ### Fields of a core under an update -/

@[simp] theorem putSlot_st (c : Core) (i : Nat) (t : Slot) : (putSlot c i t).st = c.st := rfl
@[simp] theorem putSlot_slot (c : Core) (i : Nat) (t : Slot) : (putSlot c i t).slot = c.slot := rfl
@[simp] theorem putSlot_held (c : Core) (i : Nat) (t : Slot) : (putSlot c i t).held = c.held := rfl
@[simp] theorem putSlot_suspect (c : Core) (i : Nat) (t : Slot) : (putSlot c i t).suspect = c.suspect := rfl
@[simp] theorem putSlot_lastPass (c : Core) (i : Nat) (t : Slot) : (putSlot c i t).lastPass = c.lastPass := rfl
@[simp] theorem putSlot_lastPrio (c : Core) (i : Nat) (t : Slot) : (putSlot c i t).lastPrio = c.lastPrio := rfl
@[simp] theorem putSlot_lastMb (c : Core) (i : Nat) (t : Slot) : (putSlot c i t).lastMb = c.lastMb := rfl
@[simp] theorem putSlot_window (c : Core) (i : Nat) (t : Slot) : (putSlot c i t).window = c.window := rfl
@[simp] theorem putSlot_ran (c : Core) (i : Nat) (t : Slot) : (putSlot c i t).ran = c.ran := rfl
@[simp] theorem putSlot_reserved (c : Core) (i : Nat) (t : Slot) : (putSlot c i t).reserved = c.reserved := rfl
@[simp] theorem putSlot_holding (c : Core) (i : Nat) (t : Slot) : (putSlot c i t).holding = c.holding := rfl
@[simp] theorem putSlot_station (c : Core) (i : Nat) (t : Slot) : (putSlot c i t).station = c.station := rfl
@[simp] theorem putSlot_slots (c : Core) (i : Nat) (t : Slot) : (putSlot c i t).slots = tabSet c.slots i t := rfl
@[simp] theorem putSlot_firing (c : Core) (i : Nat) (t : Slot) : (putSlot c i t).firing = c.firing := rfl
@[simp] theorem putSlot_begun (c : Core) (i : Nat) (t : Slot) : (putSlot c i t).begun = c.begun := rfl
@[simp] theorem putSlot_stopAt (c : Core) (i : Nat) (t : Slot) : (putSlot c i t).stopAt = c.stopAt := rfl
@[simp] theorem putSlot_tiles (c : Core) (i : Nat) (t : Slot) : (putSlot c i t).tiles = c.tiles := rfl
@[simp] theorem putSlot_mxq (c : Core) (i : Nat) (t : Slot) : (putSlot c i t).mxq = c.mxq := rfl
@[simp] theorem putSlot_mxRot (c : Core) (i : Nat) (t : Slot) : (putSlot c i t).mxRot = c.mxRot := rfl
@[simp] theorem putSlot_mxRun (c : Core) (i : Nat) (t : Slot) : (putSlot c i t).mxRun = c.mxRun := rfl
@[simp] theorem putSlot_shadow (c : Core) (i : Nat) (t : Slot) : (putSlot c i t).shadow = c.shadow := rfl
@[simp] theorem putSlot_weights (c : Core) (i : Nat) (t : Slot) : (putSlot c i t).weights = c.weights := rfl
@[simp] theorem putSlot_ma (c : Core) (i : Nat) (t : Slot) : (putSlot c i t).ma = c.ma := rfl
@[simp] theorem putSlot_mb (c : Core) (i : Nat) (t : Slot) : (putSlot c i t).mb = c.mb := rfl
@[simp] theorem putSlot_vx (c : Core) (i : Nat) (t : Slot) : (putSlot c i t).vx = c.vx := rfl
@[simp] theorem putSlot_vy (c : Core) (i : Nat) (t : Slot) : (putSlot c i t).vy = c.vy := rfl
@[simp] theorem putSlot_drains (c : Core) (i : Nat) (t : Slot) : (putSlot c i t).drains = c.drains := rfl
@[simp] theorem putSlot_drainQ (c : Core) (i : Nat) (t : Slot) : (putSlot c i t).drainQ = c.drainQ := rfl
@[simp] theorem putSlot_vcq (c : Core) (i : Nat) (t : Slot) : (putSlot c i t).vcq = c.vcq := rfl
@[simp] theorem putSlot_vcRot (c : Core) (i : Nat) (t : Slot) : (putSlot c i t).vcRot = c.vcRot := rfl
@[simp] theorem putSlot_vcRun (c : Core) (i : Nat) (t : Slot) : (putSlot c i t).vcRun = c.vcRun := rfl
@[simp] theorem putSlot_luts (c : Core) (i : Nat) (t : Slot) : (putSlot c i t).luts = c.luts := rfl
@[simp] theorem putSlot_sdRot (c : Core) (i : Nat) (t : Slot) : (putSlot c i t).sdRot = c.sdRot := rfl
@[simp] theorem putSlot_scaleTab (c : Core) (i : Nat) (t : Slot) : (putSlot c i t).scaleTab = c.scaleTab := rfl
@[simp] theorem putSlot_strm (c : Core) (i : Nat) (t : Slot) : (putSlot c i t).strm = c.strm := rfl
@[simp] theorem putSlot_mem (c : Core) (i : Nat) (t : Slot) : (putSlot c i t).mem = c.mem := rfl
@[simp] theorem putSlot_poisonCw (c : Core) (i : Nat) (t : Slot) : (putSlot c i t).poisonCw = c.poisonCw := rfl
@[simp] theorem putSlot_pages (c : Core) (i : Nat) (t : Slot) : (putSlot c i t).pages = c.pages := rfl
@[simp] theorem putSlot_bankOn (c : Core) (i : Nat) (t : Slot) : (putSlot c i t).bankOn = c.bankOn := rfl
@[simp] theorem putSlot_fillDigest (c : Core) (i : Nat) (t : Slot) : (putSlot c i t).fillDigest = c.fillDigest := rfl
@[simp] theorem putSlot_scrubPos (c : Core) (i : Nat) (t : Slot) : (putSlot c i t).scrubPos = c.scrubPos := rfl
@[simp] theorem putSlot_scrubBuf (c : Core) (i : Nat) (t : Slot) : (putSlot c i t).scrubBuf = c.scrubBuf := rfl
@[simp] theorem putSlot_pageCleanMb (c : Core) (i : Nat) (t : Slot) : (putSlot c i t).pageCleanMb = c.pageCleanMb := rfl
@[simp] theorem putSlot_wbq (c : Core) (i : Nat) (t : Slot) : (putSlot c i t).wbq = c.wbq := rfl
@[simp] theorem putSlot_inEp (c : Core) (i : Nat) (t : Slot) : (putSlot c i t).inEp = c.inEp := rfl
@[simp] theorem putSlot_outEp (c : Core) (i : Nat) (t : Slot) : (putSlot c i t).outEp = c.outEp := rfl
@[simp] theorem putSlot_rounds (c : Core) (i : Nat) (t : Slot) : (putSlot c i t).rounds = c.rounds := rfl
@[simp] theorem putSlot_sync (c : Core) (i : Nat) (t : Slot) : (putSlot c i t).sync = c.sync := rfl
@[simp] theorem putSlot_ctr (c : Core) (i : Nat) (t : Slot) : (putSlot c i t).ctr = c.ctr := rfl
@[simp] theorem putSlot_shadowCtr (c : Core) (i : Nat) (t : Slot) : (putSlot c i t).shadowCtr = c.shadowCtr := rfl
@[simp] theorem putSlot_chCtr (c : Core) (i : Nat) (t : Slot) : (putSlot c i t).chCtr = c.chCtr := rfl
@[simp] theorem putSlot_chShadow (c : Core) (i : Nat) (t : Slot) : (putSlot c i t).chShadow = c.chShadow := rfl
@[simp] theorem putSlot_misdeliver (c : Core) (i : Nat) (t : Slot) : (putSlot c i t).misdeliver = c.misdeliver := rfl
@[simp] theorem putSlot_cmarkHalve (c : Core) (i : Nat) (t : Slot) : (putSlot c i t).cmarkHalve = c.cmarkHalve := rfl
@[simp] theorem putSlot_drainHeld (c : Core) (i : Nat) (t : Slot) : (putSlot c i t).drainHeld = c.drainHeld := rfl
@[simp] theorem putSlot_inj (c : Core) (i : Nat) (t : Slot) : (putSlot c i t).inj = c.inj := rfl
@[simp] theorem putSlot_svc (c : Core) (i : Nat) (t : Slot) : (putSlot c i t).svc = c.svc := rfl
@[simp] theorem putSlot_arr (c : Core) (i : Nat) (t : Slot) : (putSlot c i t).arr = c.arr := rfl
@[simp] theorem putSlot_lastProgress (c : Core) (i : Nat) (t : Slot) : (putSlot c i t).lastProgress = c.lastProgress := rfl
@[simp] theorem putSlot_check (c : Core) (i : Nat) (t : Slot) : (putSlot c i t).check = c.check := rfl
@[simp] theorem putSlot_echoes (c : Core) (i : Nat) (t : Slot) : (putSlot c i t).echoes = c.echoes := rfl
@[simp] theorem putSlot_waitFrom (c : Core) (i : Nat) (t : Slot) : (putSlot c i t).waitFrom = c.waitFrom := rfl
@[simp] theorem putSlot_wedged (c : Core) (i : Nat) (t : Slot) : (putSlot c i t).wedged = c.wedged := rfl
@[simp] theorem putSlot_latched (c : Core) (i : Nat) (t : Slot) : (putSlot c i t).latched = c.latched := rfl
@[simp] theorem putSlot_replay (c : Core) (i : Nat) (t : Slot) : (putSlot c i t).replay = c.replay := rfl
@[simp] theorem putSlot_vcHeld (c : Core) (i : Nat) (t : Slot) : (putSlot c i t).vcHeld = c.vcHeld := rfl

@[simp] theorem bumpCore_st (c : Core) (i n : Nat) : (bumpCore c i n).st = c.st := rfl
@[simp] theorem bumpCore_slot (c : Core) (i n : Nat) : (bumpCore c i n).slot = c.slot := rfl
@[simp] theorem bumpCore_held (c : Core) (i n : Nat) : (bumpCore c i n).held = c.held := rfl
@[simp] theorem bumpCore_suspect (c : Core) (i n : Nat) : (bumpCore c i n).suspect = c.suspect := rfl
@[simp] theorem bumpCore_lastPass (c : Core) (i n : Nat) : (bumpCore c i n).lastPass = c.lastPass := rfl
@[simp] theorem bumpCore_lastPrio (c : Core) (i n : Nat) : (bumpCore c i n).lastPrio = c.lastPrio := rfl
@[simp] theorem bumpCore_lastMb (c : Core) (i n : Nat) : (bumpCore c i n).lastMb = c.lastMb := rfl
@[simp] theorem bumpCore_window (c : Core) (i n : Nat) : (bumpCore c i n).window = c.window := rfl
@[simp] theorem bumpCore_ran (c : Core) (i n : Nat) : (bumpCore c i n).ran = c.ran := rfl
@[simp] theorem bumpCore_reserved (c : Core) (i n : Nat) : (bumpCore c i n).reserved = c.reserved := rfl
@[simp] theorem bumpCore_holding (c : Core) (i n : Nat) : (bumpCore c i n).holding = c.holding := rfl
@[simp] theorem bumpCore_station (c : Core) (i n : Nat) : (bumpCore c i n).station = c.station := rfl
@[simp] theorem bumpCore_slots (c : Core) (i n : Nat) : (bumpCore c i n).slots = c.slots := rfl
@[simp] theorem bumpCore_firing (c : Core) (i n : Nat) : (bumpCore c i n).firing = c.firing := rfl
@[simp] theorem bumpCore_begun (c : Core) (i n : Nat) : (bumpCore c i n).begun = c.begun := rfl
@[simp] theorem bumpCore_stopAt (c : Core) (i n : Nat) : (bumpCore c i n).stopAt = c.stopAt := rfl
@[simp] theorem bumpCore_tiles (c : Core) (i n : Nat) : (bumpCore c i n).tiles = c.tiles := rfl
@[simp] theorem bumpCore_mxq (c : Core) (i n : Nat) : (bumpCore c i n).mxq = c.mxq := rfl
@[simp] theorem bumpCore_mxRot (c : Core) (i n : Nat) : (bumpCore c i n).mxRot = c.mxRot := rfl
@[simp] theorem bumpCore_mxRun (c : Core) (i n : Nat) : (bumpCore c i n).mxRun = c.mxRun := rfl
@[simp] theorem bumpCore_shadow (c : Core) (i n : Nat) : (bumpCore c i n).shadow = c.shadow := rfl
@[simp] theorem bumpCore_weights (c : Core) (i n : Nat) : (bumpCore c i n).weights = c.weights := rfl
@[simp] theorem bumpCore_ma (c : Core) (i n : Nat) : (bumpCore c i n).ma = c.ma := rfl
@[simp] theorem bumpCore_mb (c : Core) (i n : Nat) : (bumpCore c i n).mb = c.mb := rfl
@[simp] theorem bumpCore_vx (c : Core) (i n : Nat) : (bumpCore c i n).vx = c.vx := rfl
@[simp] theorem bumpCore_vy (c : Core) (i n : Nat) : (bumpCore c i n).vy = c.vy := rfl
@[simp] theorem bumpCore_drains (c : Core) (i n : Nat) : (bumpCore c i n).drains = c.drains := rfl
@[simp] theorem bumpCore_drainQ (c : Core) (i n : Nat) : (bumpCore c i n).drainQ = c.drainQ := rfl
@[simp] theorem bumpCore_vcq (c : Core) (i n : Nat) : (bumpCore c i n).vcq = c.vcq := rfl
@[simp] theorem bumpCore_vcRot (c : Core) (i n : Nat) : (bumpCore c i n).vcRot = c.vcRot := rfl
@[simp] theorem bumpCore_vcRun (c : Core) (i n : Nat) : (bumpCore c i n).vcRun = c.vcRun := rfl
@[simp] theorem bumpCore_luts (c : Core) (i n : Nat) : (bumpCore c i n).luts = c.luts := rfl
@[simp] theorem bumpCore_sdRot (c : Core) (i n : Nat) : (bumpCore c i n).sdRot = c.sdRot := rfl
@[simp] theorem bumpCore_scaleTab (c : Core) (i n : Nat) : (bumpCore c i n).scaleTab = c.scaleTab := rfl
@[simp] theorem bumpCore_strm (c : Core) (i n : Nat) : (bumpCore c i n).strm = c.strm := rfl
@[simp] theorem bumpCore_mem (c : Core) (i n : Nat) : (bumpCore c i n).mem = c.mem := rfl
@[simp] theorem bumpCore_poisonCw (c : Core) (i n : Nat) : (bumpCore c i n).poisonCw = c.poisonCw := rfl
@[simp] theorem bumpCore_pages (c : Core) (i n : Nat) : (bumpCore c i n).pages = c.pages := rfl
@[simp] theorem bumpCore_bankOn (c : Core) (i n : Nat) : (bumpCore c i n).bankOn = c.bankOn := rfl
@[simp] theorem bumpCore_fillDigest (c : Core) (i n : Nat) : (bumpCore c i n).fillDigest = c.fillDigest := rfl
@[simp] theorem bumpCore_scrubPos (c : Core) (i n : Nat) : (bumpCore c i n).scrubPos = c.scrubPos := rfl
@[simp] theorem bumpCore_scrubBuf (c : Core) (i n : Nat) : (bumpCore c i n).scrubBuf = c.scrubBuf := rfl
@[simp] theorem bumpCore_pageCleanMb (c : Core) (i n : Nat) : (bumpCore c i n).pageCleanMb = c.pageCleanMb := rfl
@[simp] theorem bumpCore_wbq (c : Core) (i n : Nat) : (bumpCore c i n).wbq = c.wbq := rfl
@[simp] theorem bumpCore_inEp (c : Core) (i n : Nat) : (bumpCore c i n).inEp = c.inEp := rfl
@[simp] theorem bumpCore_outEp (c : Core) (i n : Nat) : (bumpCore c i n).outEp = c.outEp := rfl
@[simp] theorem bumpCore_rounds (c : Core) (i n : Nat) : (bumpCore c i n).rounds = c.rounds := rfl
@[simp] theorem bumpCore_sync (c : Core) (i n : Nat) : (bumpCore c i n).sync = c.sync := rfl
@[simp] theorem bumpCore_ctr (c : Core) (i n : Nat) : (bumpCore c i n).ctr = bump c.ctr i n := rfl
@[simp] theorem bumpCore_shadowCtr (c : Core) (i n : Nat) : (bumpCore c i n).shadowCtr = c.shadowCtr := rfl
@[simp] theorem bumpCore_chCtr (c : Core) (i n : Nat) : (bumpCore c i n).chCtr = c.chCtr := rfl
@[simp] theorem bumpCore_chShadow (c : Core) (i n : Nat) : (bumpCore c i n).chShadow = c.chShadow := rfl
@[simp] theorem bumpCore_misdeliver (c : Core) (i n : Nat) : (bumpCore c i n).misdeliver = c.misdeliver := rfl
@[simp] theorem bumpCore_cmarkHalve (c : Core) (i n : Nat) : (bumpCore c i n).cmarkHalve = c.cmarkHalve := rfl
@[simp] theorem bumpCore_drainHeld (c : Core) (i n : Nat) : (bumpCore c i n).drainHeld = c.drainHeld := rfl
@[simp] theorem bumpCore_inj (c : Core) (i n : Nat) : (bumpCore c i n).inj = c.inj := rfl
@[simp] theorem bumpCore_svc (c : Core) (i n : Nat) : (bumpCore c i n).svc = c.svc := rfl
@[simp] theorem bumpCore_arr (c : Core) (i n : Nat) : (bumpCore c i n).arr = c.arr := rfl
@[simp] theorem bumpCore_lastProgress (c : Core) (i n : Nat) : (bumpCore c i n).lastProgress = c.lastProgress := rfl
@[simp] theorem bumpCore_check (c : Core) (i n : Nat) : (bumpCore c i n).check = c.check := rfl
@[simp] theorem bumpCore_echoes (c : Core) (i n : Nat) : (bumpCore c i n).echoes = c.echoes := rfl
@[simp] theorem bumpCore_waitFrom (c : Core) (i n : Nat) : (bumpCore c i n).waitFrom = c.waitFrom := rfl
@[simp] theorem bumpCore_wedged (c : Core) (i n : Nat) : (bumpCore c i n).wedged = c.wedged := rfl
@[simp] theorem bumpCore_latched (c : Core) (i n : Nat) : (bumpCore c i n).latched = c.latched := rfl
@[simp] theorem bumpCore_replay (c : Core) (i n : Nat) : (bumpCore c i n).replay = c.replay := rfl
@[simp] theorem bumpCore_vcHeld (c : Core) (i n : Nat) : (bumpCore c i n).vcHeld = c.vcHeld := rfl

/-! ### Tables -/

/-- An entry reads as it was written. -/
@[simp] theorem tabGet_tabSet_self {α : Type} (t : Tab α) (k : Nat) (v d : α) : tabGet (tabSet t k v) k d = v := by
  induction t with
  | nil => simp [tabSet, tabGet]
  | cons e t ih =>
    obtain ⟨j, w⟩ := e
    by_cases h1 : k < j
    · simp [tabSet, tabGet, h1]
    · by_cases h2 : k = j
      · simp [tabSet, tabGet, h2]
      · simp [tabSet, tabGet, h1, h2, Ne.symm h2, ih]

/-- A write leaves every other entry as it was. -/
theorem tabGet_tabSet_ne {α : Type} (t : Tab α) {k j : Nat} (v d : α) (h : j ≠ k) :
    tabGet (tabSet t k v) j d = tabGet t j d := by
  induction t with
  | nil => simp [tabSet, tabGet, h.symm]
  | cons e t ih =>
    obtain ⟨i, w⟩ := e
    by_cases h1 : k < i
    · simp [tabSet, tabGet, h1, h.symm]
    · by_cases h2 : k = i
      · subst h2; simp [tabSet, tabGet, h.symm]
      · by_cases h3 : i = j
        · subst h3; simp [tabSet, tabGet, h1, h2]
        · simp [tabSet, tabGet, h1, h2, h3, ih]

/-- The last of two writes of an entry stands. -/
@[simp] theorem tabSet_tabSet {α : Type} (t : Tab α) (k : Nat) (v w : α) : tabSet (tabSet t k v) k w = tabSet t k w := by
  induction t with
  | nil => simp [tabSet]
  | cons e t ih =>
    obtain ⟨j, x⟩ := e
    by_cases h1 : k < j
    · simp [tabSet, h1]
    · by_cases h2 : k = j
      · simp [tabSet, h2]
      · simp [tabSet, h1, h2, ih]

/-! ### Units read after an update -/

@[simp] theorem coreAt_putCore (s : State) (k : Nat) (x : Core) : coreAt (putCore s k x) k = x := by
  simp [coreAt]
theorem coreAt_putCore_ne (s : State) {k j : Nat} (x : Core) (h : j ≠ k) : coreAt (putCore s k x) j = coreAt s j := by
  simp [coreAt, tabGet_tabSet_ne _ _ _ h]
@[simp] theorem putCore_putCore (s : State) (k : Nat) (x y : Core) : putCore (putCore s k x) k y = putCore s k y := by
  simp [putCore]
@[simp] theorem coreAt_putCtx (s : State) (k j : Nat) (x : Ctx) : coreAt (putCtx s k x) j = coreAt s j := rfl
@[simp] theorem coreAt_putBasin (s : State) (k j : Nat) (x : Basin) : coreAt (putBasin s k x) j = coreAt s j := rfl
@[simp] theorem coreAt_putDie (s : State) (k j : Nat) (x : Die) : coreAt (putDie s k x) j = coreAt s j := rfl
@[simp] theorem coreAt_putHbm (s : State) (k j : Nat) (x : Hbm) : coreAt (putHbm s k x) j = coreAt s j := rfl
@[simp] theorem coreAt_putRouter (s : State) (k j : Nat) (x : Router) : coreAt (putRouter s k x) j = coreAt s j := rfl
@[simp] theorem coreAt_putPort (s : State) (k j : Nat) (x : Port) : coreAt (putPort s k x) j = coreAt s j := rfl
@[simp] theorem coreAt_emit (s : State) (x : Output) (j : Nat) : coreAt (emit s x) j = coreAt s j := rfl
@[simp] theorem coreAt_takeFree (s : State) (j : Nat) : coreAt (takeFree s).2 j = coreAt s j := rfl

@[simp] theorem ctxAt_putCtx (s : State) (k : Nat) (x : Ctx) : ctxAt (putCtx s k x) k = x := by
  simp [ctxAt]
theorem ctxAt_putCtx_ne (s : State) {k j : Nat} (x : Ctx) (h : j ≠ k) : ctxAt (putCtx s k x) j = ctxAt s j := by
  simp [ctxAt, tabGet_tabSet_ne _ _ _ h]
@[simp] theorem putCtx_putCtx (s : State) (k : Nat) (x y : Ctx) : putCtx (putCtx s k x) k y = putCtx s k y := by
  simp [putCtx]
@[simp] theorem ctxAt_putCore (s : State) (k j : Nat) (x : Core) : ctxAt (putCore s k x) j = ctxAt s j := rfl
@[simp] theorem ctxAt_putBasin (s : State) (k j : Nat) (x : Basin) : ctxAt (putBasin s k x) j = ctxAt s j := rfl
@[simp] theorem ctxAt_putDie (s : State) (k j : Nat) (x : Die) : ctxAt (putDie s k x) j = ctxAt s j := rfl
@[simp] theorem ctxAt_putHbm (s : State) (k j : Nat) (x : Hbm) : ctxAt (putHbm s k x) j = ctxAt s j := rfl
@[simp] theorem ctxAt_putRouter (s : State) (k j : Nat) (x : Router) : ctxAt (putRouter s k x) j = ctxAt s j := rfl
@[simp] theorem ctxAt_putPort (s : State) (k j : Nat) (x : Port) : ctxAt (putPort s k x) j = ctxAt s j := rfl
@[simp] theorem ctxAt_emit (s : State) (x : Output) (j : Nat) : ctxAt (emit s x) j = ctxAt s j := rfl
@[simp] theorem ctxAt_takeFree (s : State) (j : Nat) : ctxAt (takeFree s).2 j = ctxAt s j := rfl

@[simp] theorem basinAt_putBasin (s : State) (k : Nat) (x : Basin) : basinAt (putBasin s k x) k = x := by
  simp [basinAt]
theorem basinAt_putBasin_ne (s : State) {k j : Nat} (x : Basin) (h : j ≠ k) : basinAt (putBasin s k x) j = basinAt s j := by
  simp [basinAt, tabGet_tabSet_ne _ _ _ h]
@[simp] theorem putBasin_putBasin (s : State) (k : Nat) (x y : Basin) : putBasin (putBasin s k x) k y = putBasin s k y := by
  simp [putBasin]
@[simp] theorem basinAt_putCore (s : State) (k j : Nat) (x : Core) : basinAt (putCore s k x) j = basinAt s j := rfl
@[simp] theorem basinAt_putCtx (s : State) (k j : Nat) (x : Ctx) : basinAt (putCtx s k x) j = basinAt s j := rfl
@[simp] theorem basinAt_putDie (s : State) (k j : Nat) (x : Die) : basinAt (putDie s k x) j = basinAt s j := rfl
@[simp] theorem basinAt_putHbm (s : State) (k j : Nat) (x : Hbm) : basinAt (putHbm s k x) j = basinAt s j := rfl
@[simp] theorem basinAt_putRouter (s : State) (k j : Nat) (x : Router) : basinAt (putRouter s k x) j = basinAt s j := rfl
@[simp] theorem basinAt_putPort (s : State) (k j : Nat) (x : Port) : basinAt (putPort s k x) j = basinAt s j := rfl
@[simp] theorem basinAt_emit (s : State) (x : Output) (j : Nat) : basinAt (emit s x) j = basinAt s j := rfl
@[simp] theorem basinAt_takeFree (s : State) (j : Nat) : basinAt (takeFree s).2 j = basinAt s j := rfl

@[simp] theorem dieAt_putDie (s : State) (k : Nat) (x : Die) : dieAt (putDie s k x) k = x := by
  simp [dieAt]
theorem dieAt_putDie_ne (s : State) {k j : Nat} (x : Die) (h : j ≠ k) : dieAt (putDie s k x) j = dieAt s j := by
  simp [dieAt, tabGet_tabSet_ne _ _ _ h]
@[simp] theorem putDie_putDie (s : State) (k : Nat) (x y : Die) : putDie (putDie s k x) k y = putDie s k y := by
  simp [putDie]
@[simp] theorem dieAt_putCore (s : State) (k j : Nat) (x : Core) : dieAt (putCore s k x) j = dieAt s j := rfl
@[simp] theorem dieAt_putCtx (s : State) (k j : Nat) (x : Ctx) : dieAt (putCtx s k x) j = dieAt s j := rfl
@[simp] theorem dieAt_putBasin (s : State) (k j : Nat) (x : Basin) : dieAt (putBasin s k x) j = dieAt s j := rfl
@[simp] theorem dieAt_putHbm (s : State) (k j : Nat) (x : Hbm) : dieAt (putHbm s k x) j = dieAt s j := rfl
@[simp] theorem dieAt_putRouter (s : State) (k j : Nat) (x : Router) : dieAt (putRouter s k x) j = dieAt s j := rfl
@[simp] theorem dieAt_putPort (s : State) (k j : Nat) (x : Port) : dieAt (putPort s k x) j = dieAt s j := rfl
@[simp] theorem dieAt_emit (s : State) (x : Output) (j : Nat) : dieAt (emit s x) j = dieAt s j := rfl
@[simp] theorem dieAt_takeFree (s : State) (j : Nat) : dieAt (takeFree s).2 j = dieAt s j := rfl

@[simp] theorem hbmAt_putHbm (s : State) (k : Nat) (x : Hbm) : hbmAt (putHbm s k x) k = x := by
  simp [hbmAt]
theorem hbmAt_putHbm_ne (s : State) {k j : Nat} (x : Hbm) (h : j ≠ k) : hbmAt (putHbm s k x) j = hbmAt s j := by
  simp [hbmAt, tabGet_tabSet_ne _ _ _ h]
@[simp] theorem putHbm_putHbm (s : State) (k : Nat) (x y : Hbm) : putHbm (putHbm s k x) k y = putHbm s k y := by
  simp [putHbm]
@[simp] theorem hbmAt_putCore (s : State) (k j : Nat) (x : Core) : hbmAt (putCore s k x) j = hbmAt s j := rfl
@[simp] theorem hbmAt_putCtx (s : State) (k j : Nat) (x : Ctx) : hbmAt (putCtx s k x) j = hbmAt s j := rfl
@[simp] theorem hbmAt_putBasin (s : State) (k j : Nat) (x : Basin) : hbmAt (putBasin s k x) j = hbmAt s j := rfl
@[simp] theorem hbmAt_putDie (s : State) (k j : Nat) (x : Die) : hbmAt (putDie s k x) j = hbmAt s j := rfl
@[simp] theorem hbmAt_putRouter (s : State) (k j : Nat) (x : Router) : hbmAt (putRouter s k x) j = hbmAt s j := rfl
@[simp] theorem hbmAt_putPort (s : State) (k j : Nat) (x : Port) : hbmAt (putPort s k x) j = hbmAt s j := rfl
@[simp] theorem hbmAt_emit (s : State) (x : Output) (j : Nat) : hbmAt (emit s x) j = hbmAt s j := rfl
@[simp] theorem hbmAt_takeFree (s : State) (j : Nat) : hbmAt (takeFree s).2 j = hbmAt s j := rfl

@[simp] theorem routerAt_putRouter (s : State) (k : Nat) (x : Router) : routerAt (putRouter s k x) k = x := by
  simp [routerAt]
theorem routerAt_putRouter_ne (s : State) {k j : Nat} (x : Router) (h : j ≠ k) : routerAt (putRouter s k x) j = routerAt s j := by
  simp [routerAt, tabGet_tabSet_ne _ _ _ h]
@[simp] theorem putRouter_putRouter (s : State) (k : Nat) (x y : Router) : putRouter (putRouter s k x) k y = putRouter s k y := by
  simp [putRouter]
@[simp] theorem routerAt_putCore (s : State) (k j : Nat) (x : Core) : routerAt (putCore s k x) j = routerAt s j := rfl
@[simp] theorem routerAt_putCtx (s : State) (k j : Nat) (x : Ctx) : routerAt (putCtx s k x) j = routerAt s j := rfl
@[simp] theorem routerAt_putBasin (s : State) (k j : Nat) (x : Basin) : routerAt (putBasin s k x) j = routerAt s j := rfl
@[simp] theorem routerAt_putDie (s : State) (k j : Nat) (x : Die) : routerAt (putDie s k x) j = routerAt s j := rfl
@[simp] theorem routerAt_putHbm (s : State) (k j : Nat) (x : Hbm) : routerAt (putHbm s k x) j = routerAt s j := rfl
@[simp] theorem routerAt_putPort (s : State) (k j : Nat) (x : Port) : routerAt (putPort s k x) j = routerAt s j := rfl
@[simp] theorem routerAt_emit (s : State) (x : Output) (j : Nat) : routerAt (emit s x) j = routerAt s j := rfl
@[simp] theorem routerAt_takeFree (s : State) (j : Nat) : routerAt (takeFree s).2 j = routerAt s j := rfl

@[simp] theorem portAt_putPort (s : State) (k : Nat) (x : Port) : portAt (putPort s k x) k = x := by
  simp [portAt]
theorem portAt_putPort_ne (s : State) {k j : Nat} (x : Port) (h : j ≠ k) : portAt (putPort s k x) j = portAt s j := by
  simp [portAt, tabGet_tabSet_ne _ _ _ h]
@[simp] theorem putPort_putPort (s : State) (k : Nat) (x y : Port) : putPort (putPort s k x) k y = putPort s k y := by
  simp [putPort]
@[simp] theorem portAt_putCore (s : State) (k j : Nat) (x : Core) : portAt (putCore s k x) j = portAt s j := rfl
@[simp] theorem portAt_putCtx (s : State) (k j : Nat) (x : Ctx) : portAt (putCtx s k x) j = portAt s j := rfl
@[simp] theorem portAt_putBasin (s : State) (k j : Nat) (x : Basin) : portAt (putBasin s k x) j = portAt s j := rfl
@[simp] theorem portAt_putDie (s : State) (k j : Nat) (x : Die) : portAt (putDie s k x) j = portAt s j := rfl
@[simp] theorem portAt_putHbm (s : State) (k j : Nat) (x : Hbm) : portAt (putHbm s k x) j = portAt s j := rfl
@[simp] theorem portAt_putRouter (s : State) (k j : Nat) (x : Router) : portAt (putRouter s k x) j = portAt s j := rfl
@[simp] theorem portAt_emit (s : State) (x : Output) (j : Nat) : portAt (emit s x) j = portAt s j := rfl
@[simp] theorem portAt_takeFree (s : State) (j : Nat) : portAt (takeFree s).2 j = portAt s j := rfl

@[simp] theorem slotAt_putSlot (c : Core) (i : Nat) (t : Slot) : slotAt (putSlot c i t) i = t := by
  simp [slotAt]
theorem slotAt_putSlot_ne (c : Core) {i j : Nat} (t : Slot) (h : j ≠ i) : slotAt (putSlot c i t) j = slotAt c j := by
  simp [slotAt, tabGet_tabSet_ne _ _ _ h]
@[simp] theorem slotAt_bumpCore (c : Core) (i n j : Nat) : slotAt (bumpCore c i n) j = slotAt c j := rfl
@[simp] theorem putSlot_putSlot (c : Core) (i : Nat) (t u : Slot) : putSlot (putSlot c i t) i u = putSlot c i u := by
  simp [putSlot]
@[simp] theorem applyEvs_nil (k : Nat) (s : State) : applyEvs k s [] = s := rfl
@[simp] theorem applyEvs_cons (k : Nat) (s : State) (e : Ev) (l : List Ev) :
    applyEvs k s (e :: l) = applyEvs k (applyEv k s e) l := rfl
@[simp] theorem takeFree_fst (s : State) : (takeFree s).1 = Config.freeBits s.free := rfl

/-! ### The shared runners -/

/-- What a core's command answers: the core and the module as its action leaves them, for every core there is. -/
theorem runCore_next {k : Nat} (f : State → Core → Core × List Ev) (s : State) (h : k < nCores) :
    runCore k f s = .next (applyEvs k (putCore s k (f s (coreAt s k)).1) (f s (coreAt s k)).2) := by
  simp [runCore, h]

/-- A core's command that answers a next state names a core, and that state is the action's. -/
theorem runCore_cases {k : Nat} {f : State → Core → Core × List Ev} {s t : State} (h : runCore k f s = .next t) :
    k < nCores ∧ t = applyEvs k (putCore s k (f s (coreAt s k)).1) (f s (coreAt s k)).2 := by
  unfold runCore at h
  split at h
  · exact ⟨‹_›, by cases h; rfl⟩
  · cases h

/-- What the command of a core that is not HELD answers. -/
theorem runLive_next {k : Nat} (f : State → Core → Core × List Ev) (s : State) (h : k < nCores) (live : (coreAt s k).held = false) :
    runLive k f s = .next (applyEvs k (putCore s k (f s (coreAt s k)).1) (f s (coreAt s k)).2) := by
  simp [runLive, runCore, h, live]

/-- What a unit's command answers, for every unit there is. -/
theorem runUnit_next {k b : Nat} (f : State → State) (s : State) (h : k < b) : runUnit k b f s = .next (f s) := by
  simp [runUnit, h]

/-- A unit's command that answers a next state names a unit, and that state is the action's. -/
theorem runUnit_cases {k b : Nat} {f : State → State} {s t : State} (h : runUnit k b f s = .next t) : k < b ∧ t = f s := by
  unfold runUnit at h
  split at h
  · exact ⟨‹_›, by cases h; rfl⟩
  · cases h

end Sys2Proof.Machine
end

