-- ==== Sys2Proof/Laws/Core.lean ====
section
/-! SUPPORT. One lemma for each field of a core under the update of one of its streamers, endpoints or tiles, and the unit read
after the update. -/

namespace Sys2Proof.Machine

@[simp] theorem putStrm_st (c : Core) (i : Nat) (x : Strm) : (putStrm c i x).st = c.st := rfl
@[simp] theorem putStrm_slot (c : Core) (i : Nat) (x : Strm) : (putStrm c i x).slot = c.slot := rfl
@[simp] theorem putStrm_held (c : Core) (i : Nat) (x : Strm) : (putStrm c i x).held = c.held := rfl
@[simp] theorem putStrm_suspect (c : Core) (i : Nat) (x : Strm) : (putStrm c i x).suspect = c.suspect := rfl
@[simp] theorem putStrm_lastPass (c : Core) (i : Nat) (x : Strm) : (putStrm c i x).lastPass = c.lastPass := rfl
@[simp] theorem putStrm_lastPrio (c : Core) (i : Nat) (x : Strm) : (putStrm c i x).lastPrio = c.lastPrio := rfl
@[simp] theorem putStrm_lastMb (c : Core) (i : Nat) (x : Strm) : (putStrm c i x).lastMb = c.lastMb := rfl
@[simp] theorem putStrm_window (c : Core) (i : Nat) (x : Strm) : (putStrm c i x).window = c.window := rfl
@[simp] theorem putStrm_ran (c : Core) (i : Nat) (x : Strm) : (putStrm c i x).ran = c.ran := rfl
@[simp] theorem putStrm_reserved (c : Core) (i : Nat) (x : Strm) : (putStrm c i x).reserved = c.reserved := rfl
@[simp] theorem putStrm_holding (c : Core) (i : Nat) (x : Strm) : (putStrm c i x).holding = c.holding := rfl
@[simp] theorem putStrm_station (c : Core) (i : Nat) (x : Strm) : (putStrm c i x).station = c.station := rfl
@[simp] theorem putStrm_slots (c : Core) (i : Nat) (x : Strm) : (putStrm c i x).slots = c.slots := rfl
@[simp] theorem putStrm_firing (c : Core) (i : Nat) (x : Strm) : (putStrm c i x).firing = c.firing := rfl
@[simp] theorem putStrm_begun (c : Core) (i : Nat) (x : Strm) : (putStrm c i x).begun = c.begun := rfl
@[simp] theorem putStrm_stopAt (c : Core) (i : Nat) (x : Strm) : (putStrm c i x).stopAt = c.stopAt := rfl
@[simp] theorem putStrm_tiles (c : Core) (i : Nat) (x : Strm) : (putStrm c i x).tiles = c.tiles := rfl
@[simp] theorem putStrm_mxq (c : Core) (i : Nat) (x : Strm) : (putStrm c i x).mxq = c.mxq := rfl
@[simp] theorem putStrm_mxRot (c : Core) (i : Nat) (x : Strm) : (putStrm c i x).mxRot = c.mxRot := rfl
@[simp] theorem putStrm_mxRun (c : Core) (i : Nat) (x : Strm) : (putStrm c i x).mxRun = c.mxRun := rfl
@[simp] theorem putStrm_shadow (c : Core) (i : Nat) (x : Strm) : (putStrm c i x).shadow = c.shadow := rfl
@[simp] theorem putStrm_weights (c : Core) (i : Nat) (x : Strm) : (putStrm c i x).weights = c.weights := rfl
@[simp] theorem putStrm_ma (c : Core) (i : Nat) (x : Strm) : (putStrm c i x).ma = c.ma := rfl
@[simp] theorem putStrm_mb (c : Core) (i : Nat) (x : Strm) : (putStrm c i x).mb = c.mb := rfl
@[simp] theorem putStrm_vx (c : Core) (i : Nat) (x : Strm) : (putStrm c i x).vx = c.vx := rfl
@[simp] theorem putStrm_vy (c : Core) (i : Nat) (x : Strm) : (putStrm c i x).vy = c.vy := rfl
@[simp] theorem putStrm_drains (c : Core) (i : Nat) (x : Strm) : (putStrm c i x).drains = c.drains := rfl
@[simp] theorem putStrm_drainQ (c : Core) (i : Nat) (x : Strm) : (putStrm c i x).drainQ = c.drainQ := rfl
@[simp] theorem putStrm_vcq (c : Core) (i : Nat) (x : Strm) : (putStrm c i x).vcq = c.vcq := rfl
@[simp] theorem putStrm_vcRot (c : Core) (i : Nat) (x : Strm) : (putStrm c i x).vcRot = c.vcRot := rfl
@[simp] theorem putStrm_vcRun (c : Core) (i : Nat) (x : Strm) : (putStrm c i x).vcRun = c.vcRun := rfl
@[simp] theorem putStrm_vcHeld (c : Core) (i : Nat) (x : Strm) : (putStrm c i x).vcHeld = c.vcHeld := rfl
@[simp] theorem putStrm_luts (c : Core) (i : Nat) (x : Strm) : (putStrm c i x).luts = c.luts := rfl
@[simp] theorem putStrm_sdRot (c : Core) (i : Nat) (x : Strm) : (putStrm c i x).sdRot = c.sdRot := rfl
@[simp] theorem putStrm_scaleTab (c : Core) (i : Nat) (x : Strm) : (putStrm c i x).scaleTab = c.scaleTab := rfl
@[simp] theorem putStrm_strm (c : Core) (i : Nat) (x : Strm) : (putStrm c i x).strm = tabSet c.strm i x := rfl
@[simp] theorem putStrm_mem (c : Core) (i : Nat) (x : Strm) : (putStrm c i x).mem = c.mem := rfl
@[simp] theorem putStrm_poisonCw (c : Core) (i : Nat) (x : Strm) : (putStrm c i x).poisonCw = c.poisonCw := rfl
@[simp] theorem putStrm_pages (c : Core) (i : Nat) (x : Strm) : (putStrm c i x).pages = c.pages := rfl
@[simp] theorem putStrm_bankOn (c : Core) (i : Nat) (x : Strm) : (putStrm c i x).bankOn = c.bankOn := rfl
@[simp] theorem putStrm_fillDigest (c : Core) (i : Nat) (x : Strm) : (putStrm c i x).fillDigest = c.fillDigest := rfl
@[simp] theorem putStrm_scrubPos (c : Core) (i : Nat) (x : Strm) : (putStrm c i x).scrubPos = c.scrubPos := rfl
@[simp] theorem putStrm_scrubBuf (c : Core) (i : Nat) (x : Strm) : (putStrm c i x).scrubBuf = c.scrubBuf := rfl
@[simp] theorem putStrm_pageCleanMb (c : Core) (i : Nat) (x : Strm) : (putStrm c i x).pageCleanMb = c.pageCleanMb := rfl
@[simp] theorem putStrm_wbq (c : Core) (i : Nat) (x : Strm) : (putStrm c i x).wbq = c.wbq := rfl
@[simp] theorem putStrm_inEp (c : Core) (i : Nat) (x : Strm) : (putStrm c i x).inEp = c.inEp := rfl
@[simp] theorem putStrm_outEp (c : Core) (i : Nat) (x : Strm) : (putStrm c i x).outEp = c.outEp := rfl
@[simp] theorem putStrm_rounds (c : Core) (i : Nat) (x : Strm) : (putStrm c i x).rounds = c.rounds := rfl
@[simp] theorem putStrm_sync (c : Core) (i : Nat) (x : Strm) : (putStrm c i x).sync = c.sync := rfl
@[simp] theorem putStrm_ctr (c : Core) (i : Nat) (x : Strm) : (putStrm c i x).ctr = c.ctr := rfl
@[simp] theorem putStrm_shadowCtr (c : Core) (i : Nat) (x : Strm) : (putStrm c i x).shadowCtr = c.shadowCtr := rfl
@[simp] theorem putStrm_chCtr (c : Core) (i : Nat) (x : Strm) : (putStrm c i x).chCtr = c.chCtr := rfl
@[simp] theorem putStrm_chShadow (c : Core) (i : Nat) (x : Strm) : (putStrm c i x).chShadow = c.chShadow := rfl
@[simp] theorem putStrm_misdeliver (c : Core) (i : Nat) (x : Strm) : (putStrm c i x).misdeliver = c.misdeliver := rfl
@[simp] theorem putStrm_cmarkHalve (c : Core) (i : Nat) (x : Strm) : (putStrm c i x).cmarkHalve = c.cmarkHalve := rfl
@[simp] theorem putStrm_drainHeld (c : Core) (i : Nat) (x : Strm) : (putStrm c i x).drainHeld = c.drainHeld := rfl
@[simp] theorem putStrm_inj (c : Core) (i : Nat) (x : Strm) : (putStrm c i x).inj = c.inj := rfl
@[simp] theorem putStrm_svc (c : Core) (i : Nat) (x : Strm) : (putStrm c i x).svc = c.svc := rfl
@[simp] theorem putStrm_arr (c : Core) (i : Nat) (x : Strm) : (putStrm c i x).arr = c.arr := rfl
@[simp] theorem putStrm_lastProgress (c : Core) (i : Nat) (x : Strm) : (putStrm c i x).lastProgress = c.lastProgress := rfl
@[simp] theorem putStrm_check (c : Core) (i : Nat) (x : Strm) : (putStrm c i x).check = c.check := rfl
@[simp] theorem putStrm_echoes (c : Core) (i : Nat) (x : Strm) : (putStrm c i x).echoes = c.echoes := rfl
@[simp] theorem putStrm_waitFrom (c : Core) (i : Nat) (x : Strm) : (putStrm c i x).waitFrom = c.waitFrom := rfl
@[simp] theorem putStrm_wedged (c : Core) (i : Nat) (x : Strm) : (putStrm c i x).wedged = c.wedged := rfl
@[simp] theorem putStrm_latched (c : Core) (i : Nat) (x : Strm) : (putStrm c i x).latched = c.latched := rfl
@[simp] theorem putStrm_replay (c : Core) (i : Nat) (x : Strm) : (putStrm c i x).replay = c.replay := rfl
@[simp] theorem strmAt_putStrm (c : Core) (i : Nat) (x : Strm) : strmAt (putStrm c i x) i = x := by
  simp [strmAt]
theorem strmAt_putStrm_ne (c : Core) {i j : Nat} (x : Strm) (h : j ≠ i) : strmAt (putStrm c i x) j = strmAt c j := by
  simp [strmAt, tabGet_tabSet_ne _ _ _ h]
@[simp] theorem slotAt_putStrm (c : Core) (i j : Nat) (x : Strm) : slotAt (putStrm c i x) j = slotAt c j := rfl

@[simp] theorem putIn_st (c : Core) (i : Nat) (x : InEp) : (putIn c i x).st = c.st := rfl
@[simp] theorem putIn_slot (c : Core) (i : Nat) (x : InEp) : (putIn c i x).slot = c.slot := rfl
@[simp] theorem putIn_held (c : Core) (i : Nat) (x : InEp) : (putIn c i x).held = c.held := rfl
@[simp] theorem putIn_suspect (c : Core) (i : Nat) (x : InEp) : (putIn c i x).suspect = c.suspect := rfl
@[simp] theorem putIn_lastPass (c : Core) (i : Nat) (x : InEp) : (putIn c i x).lastPass = c.lastPass := rfl
@[simp] theorem putIn_lastPrio (c : Core) (i : Nat) (x : InEp) : (putIn c i x).lastPrio = c.lastPrio := rfl
@[simp] theorem putIn_lastMb (c : Core) (i : Nat) (x : InEp) : (putIn c i x).lastMb = c.lastMb := rfl
@[simp] theorem putIn_window (c : Core) (i : Nat) (x : InEp) : (putIn c i x).window = c.window := rfl
@[simp] theorem putIn_ran (c : Core) (i : Nat) (x : InEp) : (putIn c i x).ran = c.ran := rfl
@[simp] theorem putIn_reserved (c : Core) (i : Nat) (x : InEp) : (putIn c i x).reserved = c.reserved := rfl
@[simp] theorem putIn_holding (c : Core) (i : Nat) (x : InEp) : (putIn c i x).holding = c.holding := rfl
@[simp] theorem putIn_station (c : Core) (i : Nat) (x : InEp) : (putIn c i x).station = c.station := rfl
@[simp] theorem putIn_slots (c : Core) (i : Nat) (x : InEp) : (putIn c i x).slots = c.slots := rfl
@[simp] theorem putIn_firing (c : Core) (i : Nat) (x : InEp) : (putIn c i x).firing = c.firing := rfl
@[simp] theorem putIn_begun (c : Core) (i : Nat) (x : InEp) : (putIn c i x).begun = c.begun := rfl
@[simp] theorem putIn_stopAt (c : Core) (i : Nat) (x : InEp) : (putIn c i x).stopAt = c.stopAt := rfl
@[simp] theorem putIn_tiles (c : Core) (i : Nat) (x : InEp) : (putIn c i x).tiles = c.tiles := rfl
@[simp] theorem putIn_mxq (c : Core) (i : Nat) (x : InEp) : (putIn c i x).mxq = c.mxq := rfl
@[simp] theorem putIn_mxRot (c : Core) (i : Nat) (x : InEp) : (putIn c i x).mxRot = c.mxRot := rfl
@[simp] theorem putIn_mxRun (c : Core) (i : Nat) (x : InEp) : (putIn c i x).mxRun = c.mxRun := rfl
@[simp] theorem putIn_shadow (c : Core) (i : Nat) (x : InEp) : (putIn c i x).shadow = c.shadow := rfl
@[simp] theorem putIn_weights (c : Core) (i : Nat) (x : InEp) : (putIn c i x).weights = c.weights := rfl
@[simp] theorem putIn_ma (c : Core) (i : Nat) (x : InEp) : (putIn c i x).ma = c.ma := rfl
@[simp] theorem putIn_mb (c : Core) (i : Nat) (x : InEp) : (putIn c i x).mb = c.mb := rfl
@[simp] theorem putIn_vx (c : Core) (i : Nat) (x : InEp) : (putIn c i x).vx = c.vx := rfl
@[simp] theorem putIn_vy (c : Core) (i : Nat) (x : InEp) : (putIn c i x).vy = c.vy := rfl
@[simp] theorem putIn_drains (c : Core) (i : Nat) (x : InEp) : (putIn c i x).drains = c.drains := rfl
@[simp] theorem putIn_drainQ (c : Core) (i : Nat) (x : InEp) : (putIn c i x).drainQ = c.drainQ := rfl
@[simp] theorem putIn_vcq (c : Core) (i : Nat) (x : InEp) : (putIn c i x).vcq = c.vcq := rfl
@[simp] theorem putIn_vcRot (c : Core) (i : Nat) (x : InEp) : (putIn c i x).vcRot = c.vcRot := rfl
@[simp] theorem putIn_vcRun (c : Core) (i : Nat) (x : InEp) : (putIn c i x).vcRun = c.vcRun := rfl
@[simp] theorem putIn_vcHeld (c : Core) (i : Nat) (x : InEp) : (putIn c i x).vcHeld = c.vcHeld := rfl
@[simp] theorem putIn_luts (c : Core) (i : Nat) (x : InEp) : (putIn c i x).luts = c.luts := rfl
@[simp] theorem putIn_sdRot (c : Core) (i : Nat) (x : InEp) : (putIn c i x).sdRot = c.sdRot := rfl
@[simp] theorem putIn_scaleTab (c : Core) (i : Nat) (x : InEp) : (putIn c i x).scaleTab = c.scaleTab := rfl
@[simp] theorem putIn_strm (c : Core) (i : Nat) (x : InEp) : (putIn c i x).strm = c.strm := rfl
@[simp] theorem putIn_mem (c : Core) (i : Nat) (x : InEp) : (putIn c i x).mem = c.mem := rfl
@[simp] theorem putIn_poisonCw (c : Core) (i : Nat) (x : InEp) : (putIn c i x).poisonCw = c.poisonCw := rfl
@[simp] theorem putIn_pages (c : Core) (i : Nat) (x : InEp) : (putIn c i x).pages = c.pages := rfl
@[simp] theorem putIn_bankOn (c : Core) (i : Nat) (x : InEp) : (putIn c i x).bankOn = c.bankOn := rfl
@[simp] theorem putIn_fillDigest (c : Core) (i : Nat) (x : InEp) : (putIn c i x).fillDigest = c.fillDigest := rfl
@[simp] theorem putIn_scrubPos (c : Core) (i : Nat) (x : InEp) : (putIn c i x).scrubPos = c.scrubPos := rfl
@[simp] theorem putIn_scrubBuf (c : Core) (i : Nat) (x : InEp) : (putIn c i x).scrubBuf = c.scrubBuf := rfl
@[simp] theorem putIn_pageCleanMb (c : Core) (i : Nat) (x : InEp) : (putIn c i x).pageCleanMb = c.pageCleanMb := rfl
@[simp] theorem putIn_wbq (c : Core) (i : Nat) (x : InEp) : (putIn c i x).wbq = c.wbq := rfl
@[simp] theorem putIn_inEp (c : Core) (i : Nat) (x : InEp) : (putIn c i x).inEp = tabSet c.inEp i x := rfl
@[simp] theorem putIn_outEp (c : Core) (i : Nat) (x : InEp) : (putIn c i x).outEp = c.outEp := rfl
@[simp] theorem putIn_rounds (c : Core) (i : Nat) (x : InEp) : (putIn c i x).rounds = c.rounds := rfl
@[simp] theorem putIn_sync (c : Core) (i : Nat) (x : InEp) : (putIn c i x).sync = c.sync := rfl
@[simp] theorem putIn_ctr (c : Core) (i : Nat) (x : InEp) : (putIn c i x).ctr = c.ctr := rfl
@[simp] theorem putIn_shadowCtr (c : Core) (i : Nat) (x : InEp) : (putIn c i x).shadowCtr = c.shadowCtr := rfl
@[simp] theorem putIn_chCtr (c : Core) (i : Nat) (x : InEp) : (putIn c i x).chCtr = c.chCtr := rfl
@[simp] theorem putIn_chShadow (c : Core) (i : Nat) (x : InEp) : (putIn c i x).chShadow = c.chShadow := rfl
@[simp] theorem putIn_misdeliver (c : Core) (i : Nat) (x : InEp) : (putIn c i x).misdeliver = c.misdeliver := rfl
@[simp] theorem putIn_cmarkHalve (c : Core) (i : Nat) (x : InEp) : (putIn c i x).cmarkHalve = c.cmarkHalve := rfl
@[simp] theorem putIn_drainHeld (c : Core) (i : Nat) (x : InEp) : (putIn c i x).drainHeld = c.drainHeld := rfl
@[simp] theorem putIn_inj (c : Core) (i : Nat) (x : InEp) : (putIn c i x).inj = c.inj := rfl
@[simp] theorem putIn_svc (c : Core) (i : Nat) (x : InEp) : (putIn c i x).svc = c.svc := rfl
@[simp] theorem putIn_arr (c : Core) (i : Nat) (x : InEp) : (putIn c i x).arr = c.arr := rfl
@[simp] theorem putIn_lastProgress (c : Core) (i : Nat) (x : InEp) : (putIn c i x).lastProgress = c.lastProgress := rfl
@[simp] theorem putIn_check (c : Core) (i : Nat) (x : InEp) : (putIn c i x).check = c.check := rfl
@[simp] theorem putIn_echoes (c : Core) (i : Nat) (x : InEp) : (putIn c i x).echoes = c.echoes := rfl
@[simp] theorem putIn_waitFrom (c : Core) (i : Nat) (x : InEp) : (putIn c i x).waitFrom = c.waitFrom := rfl
@[simp] theorem putIn_wedged (c : Core) (i : Nat) (x : InEp) : (putIn c i x).wedged = c.wedged := rfl
@[simp] theorem putIn_latched (c : Core) (i : Nat) (x : InEp) : (putIn c i x).latched = c.latched := rfl
@[simp] theorem putIn_replay (c : Core) (i : Nat) (x : InEp) : (putIn c i x).replay = c.replay := rfl
@[simp] theorem inAt_putIn (c : Core) (i : Nat) (x : InEp) : inAt (putIn c i x) i = x := by
  simp [inAt]
theorem inAt_putIn_ne (c : Core) {i j : Nat} (x : InEp) (h : j ≠ i) : inAt (putIn c i x) j = inAt c j := by
  simp [inAt, tabGet_tabSet_ne _ _ _ h]
@[simp] theorem slotAt_putIn (c : Core) (i j : Nat) (x : InEp) : slotAt (putIn c i x) j = slotAt c j := rfl

@[simp] theorem putOut_st (c : Core) (i : Nat) (x : OutEp) : (putOut c i x).st = c.st := rfl
@[simp] theorem putOut_slot (c : Core) (i : Nat) (x : OutEp) : (putOut c i x).slot = c.slot := rfl
@[simp] theorem putOut_held (c : Core) (i : Nat) (x : OutEp) : (putOut c i x).held = c.held := rfl
@[simp] theorem putOut_suspect (c : Core) (i : Nat) (x : OutEp) : (putOut c i x).suspect = c.suspect := rfl
@[simp] theorem putOut_lastPass (c : Core) (i : Nat) (x : OutEp) : (putOut c i x).lastPass = c.lastPass := rfl
@[simp] theorem putOut_lastPrio (c : Core) (i : Nat) (x : OutEp) : (putOut c i x).lastPrio = c.lastPrio := rfl
@[simp] theorem putOut_lastMb (c : Core) (i : Nat) (x : OutEp) : (putOut c i x).lastMb = c.lastMb := rfl
@[simp] theorem putOut_window (c : Core) (i : Nat) (x : OutEp) : (putOut c i x).window = c.window := rfl
@[simp] theorem putOut_ran (c : Core) (i : Nat) (x : OutEp) : (putOut c i x).ran = c.ran := rfl
@[simp] theorem putOut_reserved (c : Core) (i : Nat) (x : OutEp) : (putOut c i x).reserved = c.reserved := rfl
@[simp] theorem putOut_holding (c : Core) (i : Nat) (x : OutEp) : (putOut c i x).holding = c.holding := rfl
@[simp] theorem putOut_station (c : Core) (i : Nat) (x : OutEp) : (putOut c i x).station = c.station := rfl
@[simp] theorem putOut_slots (c : Core) (i : Nat) (x : OutEp) : (putOut c i x).slots = c.slots := rfl
@[simp] theorem putOut_firing (c : Core) (i : Nat) (x : OutEp) : (putOut c i x).firing = c.firing := rfl
@[simp] theorem putOut_begun (c : Core) (i : Nat) (x : OutEp) : (putOut c i x).begun = c.begun := rfl
@[simp] theorem putOut_stopAt (c : Core) (i : Nat) (x : OutEp) : (putOut c i x).stopAt = c.stopAt := rfl
@[simp] theorem putOut_tiles (c : Core) (i : Nat) (x : OutEp) : (putOut c i x).tiles = c.tiles := rfl
@[simp] theorem putOut_mxq (c : Core) (i : Nat) (x : OutEp) : (putOut c i x).mxq = c.mxq := rfl
@[simp] theorem putOut_mxRot (c : Core) (i : Nat) (x : OutEp) : (putOut c i x).mxRot = c.mxRot := rfl
@[simp] theorem putOut_mxRun (c : Core) (i : Nat) (x : OutEp) : (putOut c i x).mxRun = c.mxRun := rfl
@[simp] theorem putOut_shadow (c : Core) (i : Nat) (x : OutEp) : (putOut c i x).shadow = c.shadow := rfl
@[simp] theorem putOut_weights (c : Core) (i : Nat) (x : OutEp) : (putOut c i x).weights = c.weights := rfl
@[simp] theorem putOut_ma (c : Core) (i : Nat) (x : OutEp) : (putOut c i x).ma = c.ma := rfl
@[simp] theorem putOut_mb (c : Core) (i : Nat) (x : OutEp) : (putOut c i x).mb = c.mb := rfl
@[simp] theorem putOut_vx (c : Core) (i : Nat) (x : OutEp) : (putOut c i x).vx = c.vx := rfl
@[simp] theorem putOut_vy (c : Core) (i : Nat) (x : OutEp) : (putOut c i x).vy = c.vy := rfl
@[simp] theorem putOut_drains (c : Core) (i : Nat) (x : OutEp) : (putOut c i x).drains = c.drains := rfl
@[simp] theorem putOut_drainQ (c : Core) (i : Nat) (x : OutEp) : (putOut c i x).drainQ = c.drainQ := rfl
@[simp] theorem putOut_vcq (c : Core) (i : Nat) (x : OutEp) : (putOut c i x).vcq = c.vcq := rfl
@[simp] theorem putOut_vcRot (c : Core) (i : Nat) (x : OutEp) : (putOut c i x).vcRot = c.vcRot := rfl
@[simp] theorem putOut_vcRun (c : Core) (i : Nat) (x : OutEp) : (putOut c i x).vcRun = c.vcRun := rfl
@[simp] theorem putOut_vcHeld (c : Core) (i : Nat) (x : OutEp) : (putOut c i x).vcHeld = c.vcHeld := rfl
@[simp] theorem putOut_luts (c : Core) (i : Nat) (x : OutEp) : (putOut c i x).luts = c.luts := rfl
@[simp] theorem putOut_sdRot (c : Core) (i : Nat) (x : OutEp) : (putOut c i x).sdRot = c.sdRot := rfl
@[simp] theorem putOut_scaleTab (c : Core) (i : Nat) (x : OutEp) : (putOut c i x).scaleTab = c.scaleTab := rfl
@[simp] theorem putOut_strm (c : Core) (i : Nat) (x : OutEp) : (putOut c i x).strm = c.strm := rfl
@[simp] theorem putOut_mem (c : Core) (i : Nat) (x : OutEp) : (putOut c i x).mem = c.mem := rfl
@[simp] theorem putOut_poisonCw (c : Core) (i : Nat) (x : OutEp) : (putOut c i x).poisonCw = c.poisonCw := rfl
@[simp] theorem putOut_pages (c : Core) (i : Nat) (x : OutEp) : (putOut c i x).pages = c.pages := rfl
@[simp] theorem putOut_bankOn (c : Core) (i : Nat) (x : OutEp) : (putOut c i x).bankOn = c.bankOn := rfl
@[simp] theorem putOut_fillDigest (c : Core) (i : Nat) (x : OutEp) : (putOut c i x).fillDigest = c.fillDigest := rfl
@[simp] theorem putOut_scrubPos (c : Core) (i : Nat) (x : OutEp) : (putOut c i x).scrubPos = c.scrubPos := rfl
@[simp] theorem putOut_scrubBuf (c : Core) (i : Nat) (x : OutEp) : (putOut c i x).scrubBuf = c.scrubBuf := rfl
@[simp] theorem putOut_pageCleanMb (c : Core) (i : Nat) (x : OutEp) : (putOut c i x).pageCleanMb = c.pageCleanMb := rfl
@[simp] theorem putOut_wbq (c : Core) (i : Nat) (x : OutEp) : (putOut c i x).wbq = c.wbq := rfl
@[simp] theorem putOut_inEp (c : Core) (i : Nat) (x : OutEp) : (putOut c i x).inEp = c.inEp := rfl
@[simp] theorem putOut_outEp (c : Core) (i : Nat) (x : OutEp) : (putOut c i x).outEp = tabSet c.outEp i x := rfl
@[simp] theorem putOut_rounds (c : Core) (i : Nat) (x : OutEp) : (putOut c i x).rounds = c.rounds := rfl
@[simp] theorem putOut_sync (c : Core) (i : Nat) (x : OutEp) : (putOut c i x).sync = c.sync := rfl
@[simp] theorem putOut_ctr (c : Core) (i : Nat) (x : OutEp) : (putOut c i x).ctr = c.ctr := rfl
@[simp] theorem putOut_shadowCtr (c : Core) (i : Nat) (x : OutEp) : (putOut c i x).shadowCtr = c.shadowCtr := rfl
@[simp] theorem putOut_chCtr (c : Core) (i : Nat) (x : OutEp) : (putOut c i x).chCtr = c.chCtr := rfl
@[simp] theorem putOut_chShadow (c : Core) (i : Nat) (x : OutEp) : (putOut c i x).chShadow = c.chShadow := rfl
@[simp] theorem putOut_misdeliver (c : Core) (i : Nat) (x : OutEp) : (putOut c i x).misdeliver = c.misdeliver := rfl
@[simp] theorem putOut_cmarkHalve (c : Core) (i : Nat) (x : OutEp) : (putOut c i x).cmarkHalve = c.cmarkHalve := rfl
@[simp] theorem putOut_drainHeld (c : Core) (i : Nat) (x : OutEp) : (putOut c i x).drainHeld = c.drainHeld := rfl
@[simp] theorem putOut_inj (c : Core) (i : Nat) (x : OutEp) : (putOut c i x).inj = c.inj := rfl
@[simp] theorem putOut_svc (c : Core) (i : Nat) (x : OutEp) : (putOut c i x).svc = c.svc := rfl
@[simp] theorem putOut_arr (c : Core) (i : Nat) (x : OutEp) : (putOut c i x).arr = c.arr := rfl
@[simp] theorem putOut_lastProgress (c : Core) (i : Nat) (x : OutEp) : (putOut c i x).lastProgress = c.lastProgress := rfl
@[simp] theorem putOut_check (c : Core) (i : Nat) (x : OutEp) : (putOut c i x).check = c.check := rfl
@[simp] theorem putOut_echoes (c : Core) (i : Nat) (x : OutEp) : (putOut c i x).echoes = c.echoes := rfl
@[simp] theorem putOut_waitFrom (c : Core) (i : Nat) (x : OutEp) : (putOut c i x).waitFrom = c.waitFrom := rfl
@[simp] theorem putOut_wedged (c : Core) (i : Nat) (x : OutEp) : (putOut c i x).wedged = c.wedged := rfl
@[simp] theorem putOut_latched (c : Core) (i : Nat) (x : OutEp) : (putOut c i x).latched = c.latched := rfl
@[simp] theorem putOut_replay (c : Core) (i : Nat) (x : OutEp) : (putOut c i x).replay = c.replay := rfl
@[simp] theorem outAt_putOut (c : Core) (i : Nat) (x : OutEp) : outAt (putOut c i x) i = x := by
  simp [outAt]
theorem outAt_putOut_ne (c : Core) {i j : Nat} (x : OutEp) (h : j ≠ i) : outAt (putOut c i x) j = outAt c j := by
  simp [outAt, tabGet_tabSet_ne _ _ _ h]
@[simp] theorem slotAt_putOut (c : Core) (i j : Nat) (x : OutEp) : slotAt (putOut c i x) j = slotAt c j := rfl

@[simp] theorem putTile_st (c : Core) (i : Nat) (x : Tile) : (putTile c i x).st = c.st := rfl
@[simp] theorem putTile_slot (c : Core) (i : Nat) (x : Tile) : (putTile c i x).slot = c.slot := rfl
@[simp] theorem putTile_held (c : Core) (i : Nat) (x : Tile) : (putTile c i x).held = c.held := rfl
@[simp] theorem putTile_suspect (c : Core) (i : Nat) (x : Tile) : (putTile c i x).suspect = c.suspect := rfl
@[simp] theorem putTile_lastPass (c : Core) (i : Nat) (x : Tile) : (putTile c i x).lastPass = c.lastPass := rfl
@[simp] theorem putTile_lastPrio (c : Core) (i : Nat) (x : Tile) : (putTile c i x).lastPrio = c.lastPrio := rfl
@[simp] theorem putTile_lastMb (c : Core) (i : Nat) (x : Tile) : (putTile c i x).lastMb = c.lastMb := rfl
@[simp] theorem putTile_window (c : Core) (i : Nat) (x : Tile) : (putTile c i x).window = c.window := rfl
@[simp] theorem putTile_ran (c : Core) (i : Nat) (x : Tile) : (putTile c i x).ran = c.ran := rfl
@[simp] theorem putTile_reserved (c : Core) (i : Nat) (x : Tile) : (putTile c i x).reserved = c.reserved := rfl
@[simp] theorem putTile_holding (c : Core) (i : Nat) (x : Tile) : (putTile c i x).holding = c.holding := rfl
@[simp] theorem putTile_station (c : Core) (i : Nat) (x : Tile) : (putTile c i x).station = c.station := rfl
@[simp] theorem putTile_slots (c : Core) (i : Nat) (x : Tile) : (putTile c i x).slots = c.slots := rfl
@[simp] theorem putTile_firing (c : Core) (i : Nat) (x : Tile) : (putTile c i x).firing = c.firing := rfl
@[simp] theorem putTile_begun (c : Core) (i : Nat) (x : Tile) : (putTile c i x).begun = c.begun := rfl
@[simp] theorem putTile_stopAt (c : Core) (i : Nat) (x : Tile) : (putTile c i x).stopAt = c.stopAt := rfl
@[simp] theorem putTile_tiles (c : Core) (i : Nat) (x : Tile) : (putTile c i x).tiles = tabSet c.tiles i x := rfl
@[simp] theorem putTile_mxq (c : Core) (i : Nat) (x : Tile) : (putTile c i x).mxq = c.mxq := rfl
@[simp] theorem putTile_mxRot (c : Core) (i : Nat) (x : Tile) : (putTile c i x).mxRot = c.mxRot := rfl
@[simp] theorem putTile_mxRun (c : Core) (i : Nat) (x : Tile) : (putTile c i x).mxRun = c.mxRun := rfl
@[simp] theorem putTile_shadow (c : Core) (i : Nat) (x : Tile) : (putTile c i x).shadow = c.shadow := rfl
@[simp] theorem putTile_weights (c : Core) (i : Nat) (x : Tile) : (putTile c i x).weights = c.weights := rfl
@[simp] theorem putTile_ma (c : Core) (i : Nat) (x : Tile) : (putTile c i x).ma = c.ma := rfl
@[simp] theorem putTile_mb (c : Core) (i : Nat) (x : Tile) : (putTile c i x).mb = c.mb := rfl
@[simp] theorem putTile_vx (c : Core) (i : Nat) (x : Tile) : (putTile c i x).vx = c.vx := rfl
@[simp] theorem putTile_vy (c : Core) (i : Nat) (x : Tile) : (putTile c i x).vy = c.vy := rfl
@[simp] theorem putTile_drains (c : Core) (i : Nat) (x : Tile) : (putTile c i x).drains = c.drains := rfl
@[simp] theorem putTile_drainQ (c : Core) (i : Nat) (x : Tile) : (putTile c i x).drainQ = c.drainQ := rfl
@[simp] theorem putTile_vcq (c : Core) (i : Nat) (x : Tile) : (putTile c i x).vcq = c.vcq := rfl
@[simp] theorem putTile_vcRot (c : Core) (i : Nat) (x : Tile) : (putTile c i x).vcRot = c.vcRot := rfl
@[simp] theorem putTile_vcRun (c : Core) (i : Nat) (x : Tile) : (putTile c i x).vcRun = c.vcRun := rfl
@[simp] theorem putTile_vcHeld (c : Core) (i : Nat) (x : Tile) : (putTile c i x).vcHeld = c.vcHeld := rfl
@[simp] theorem putTile_luts (c : Core) (i : Nat) (x : Tile) : (putTile c i x).luts = c.luts := rfl
@[simp] theorem putTile_sdRot (c : Core) (i : Nat) (x : Tile) : (putTile c i x).sdRot = c.sdRot := rfl
@[simp] theorem putTile_scaleTab (c : Core) (i : Nat) (x : Tile) : (putTile c i x).scaleTab = c.scaleTab := rfl
@[simp] theorem putTile_strm (c : Core) (i : Nat) (x : Tile) : (putTile c i x).strm = c.strm := rfl
@[simp] theorem putTile_mem (c : Core) (i : Nat) (x : Tile) : (putTile c i x).mem = c.mem := rfl
@[simp] theorem putTile_poisonCw (c : Core) (i : Nat) (x : Tile) : (putTile c i x).poisonCw = c.poisonCw := rfl
@[simp] theorem putTile_pages (c : Core) (i : Nat) (x : Tile) : (putTile c i x).pages = c.pages := rfl
@[simp] theorem putTile_bankOn (c : Core) (i : Nat) (x : Tile) : (putTile c i x).bankOn = c.bankOn := rfl
@[simp] theorem putTile_fillDigest (c : Core) (i : Nat) (x : Tile) : (putTile c i x).fillDigest = c.fillDigest := rfl
@[simp] theorem putTile_scrubPos (c : Core) (i : Nat) (x : Tile) : (putTile c i x).scrubPos = c.scrubPos := rfl
@[simp] theorem putTile_scrubBuf (c : Core) (i : Nat) (x : Tile) : (putTile c i x).scrubBuf = c.scrubBuf := rfl
@[simp] theorem putTile_pageCleanMb (c : Core) (i : Nat) (x : Tile) : (putTile c i x).pageCleanMb = c.pageCleanMb := rfl
@[simp] theorem putTile_wbq (c : Core) (i : Nat) (x : Tile) : (putTile c i x).wbq = c.wbq := rfl
@[simp] theorem putTile_inEp (c : Core) (i : Nat) (x : Tile) : (putTile c i x).inEp = c.inEp := rfl
@[simp] theorem putTile_outEp (c : Core) (i : Nat) (x : Tile) : (putTile c i x).outEp = c.outEp := rfl
@[simp] theorem putTile_rounds (c : Core) (i : Nat) (x : Tile) : (putTile c i x).rounds = c.rounds := rfl
@[simp] theorem putTile_sync (c : Core) (i : Nat) (x : Tile) : (putTile c i x).sync = c.sync := rfl
@[simp] theorem putTile_ctr (c : Core) (i : Nat) (x : Tile) : (putTile c i x).ctr = c.ctr := rfl
@[simp] theorem putTile_shadowCtr (c : Core) (i : Nat) (x : Tile) : (putTile c i x).shadowCtr = c.shadowCtr := rfl
@[simp] theorem putTile_chCtr (c : Core) (i : Nat) (x : Tile) : (putTile c i x).chCtr = c.chCtr := rfl
@[simp] theorem putTile_chShadow (c : Core) (i : Nat) (x : Tile) : (putTile c i x).chShadow = c.chShadow := rfl
@[simp] theorem putTile_misdeliver (c : Core) (i : Nat) (x : Tile) : (putTile c i x).misdeliver = c.misdeliver := rfl
@[simp] theorem putTile_cmarkHalve (c : Core) (i : Nat) (x : Tile) : (putTile c i x).cmarkHalve = c.cmarkHalve := rfl
@[simp] theorem putTile_drainHeld (c : Core) (i : Nat) (x : Tile) : (putTile c i x).drainHeld = c.drainHeld := rfl
@[simp] theorem putTile_inj (c : Core) (i : Nat) (x : Tile) : (putTile c i x).inj = c.inj := rfl
@[simp] theorem putTile_svc (c : Core) (i : Nat) (x : Tile) : (putTile c i x).svc = c.svc := rfl
@[simp] theorem putTile_arr (c : Core) (i : Nat) (x : Tile) : (putTile c i x).arr = c.arr := rfl
@[simp] theorem putTile_lastProgress (c : Core) (i : Nat) (x : Tile) : (putTile c i x).lastProgress = c.lastProgress := rfl
@[simp] theorem putTile_check (c : Core) (i : Nat) (x : Tile) : (putTile c i x).check = c.check := rfl
@[simp] theorem putTile_echoes (c : Core) (i : Nat) (x : Tile) : (putTile c i x).echoes = c.echoes := rfl
@[simp] theorem putTile_waitFrom (c : Core) (i : Nat) (x : Tile) : (putTile c i x).waitFrom = c.waitFrom := rfl
@[simp] theorem putTile_wedged (c : Core) (i : Nat) (x : Tile) : (putTile c i x).wedged = c.wedged := rfl
@[simp] theorem putTile_latched (c : Core) (i : Nat) (x : Tile) : (putTile c i x).latched = c.latched := rfl
@[simp] theorem putTile_replay (c : Core) (i : Nat) (x : Tile) : (putTile c i x).replay = c.replay := rfl
@[simp] theorem tileAt_putTile (c : Core) (i : Nat) (x : Tile) : tileAt (putTile c i x) i = x := by
  simp [tileAt]
theorem tileAt_putTile_ne (c : Core) {i j : Nat} (x : Tile) (h : j ≠ i) : tileAt (putTile c i x) j = tileAt c j := by
  simp [tileAt, tabGet_tabSet_ne _ _ _ h]
@[simp] theorem slotAt_putTile (c : Core) (i j : Nat) (x : Tile) : slotAt (putTile c i x) j = slotAt c j := rfl

end Sys2Proof.Machine
end

