-- ==== Sys2Proof/Laws/Hull.lean ====
section
/-! SUPPORT. What almost no command changes: the queue, the fuses, the phase of start-up, the rails, the reset pin and the JTAG
port; for each operation on the state, one lemma that it keeps them. -/

set_option linter.all false
-- One theorem after another: side by side they ask for more memory.
set_option Elab.async false

namespace Sys2Proof.Machine

/-- What of a state almost no command changes: the queue, the fuses, the phase of start-up, the rails, the reset pin and the
JTAG port. -/
structure Hull where
  pending : List Instr
  fuse : Fuse
  phase : Phase
  ready : Bool
  perstN : Bool
  aonRail : Bool
  mainRails : Bool
  faultLatched : Bool
  jtag : Jtag

/-- The hull of a state. -/
def hull (s : State) : Hull :=
  { pending := s.pending, fuse := s.fuse, phase := s.sup.phase, ready := s.glb.ready, perstN := s.pwr.perstN,
    aonRail := s.pwr.aonRail, mainRails := s.pwr.mainRails, faultLatched := s.pwr.faultLatched, jtag := s.jtag }

theorem hull_mk (t : State) (free out clk dies flash trust tst ctxs basins cores routers mesh hbms fab heal rst telem hostp mgmt)
    (su : Sup) (pw : Pwr) (gl : Glb) (h1 : su.phase = t.sup.phase) (h2 : gl.ready = t.glb.ready) (h3 : pw.perstN = t.pwr.perstN)
    (h4 : pw.aonRail = t.pwr.aonRail) (h5 : pw.mainRails = t.pwr.mainRails) (h6 : pw.faultLatched = t.pwr.faultLatched) :
    hull { pending := t.pending, free := free, out := out, sup := su, pwr := pw, clk := clk, dies := dies, flash := flash,
           fuse := t.fuse, trust := trust, glb := gl, tst := tst, ctxs := ctxs, basins := basins, cores := cores,
           routers := routers, mesh := mesh, hbms := hbms, fab := fab, heal := heal, rst := rst, telem := telem,
           hostp := hostp, mgmt := mgmt, jtag := t.jtag } = hull t := by
  simp only [hull, h1, h2, h3, h4, h5, h6]

theorem hull_ite (c : Prop) [Decidable c] (a b : State) : hull (if c then a else b) = if c then hull a else hull b := by
  split <;> rfl

theorem foldl_hull {α : Type} (l : List α) (f : State → α → State) (s : State) (h : ∀ s a, hull (f s a) = hull s) :
    hull (l.foldl f s) = hull s := by
  induction l generalizing s with
  | nil => rfl
  | cons a l ih => exact (ih (f s a)).trans (h s a)

theorem forEach_hull {α : Type} (l : List α) (f : State → α → State) (s : State) (h : ∀ s a, hull (f s a) = hull s) :
    hull (forEach l f s) = hull s := foldl_hull l f s h

theorem takeFree_hull (s : State) : hull (takeFree s).2 = hull s := rfl

@[simp] theorem putCore_hull (s : Sys2Proof.Machine.State) (a1 : Nat) (a2 : Sys2Proof.Machine.Core) : hull (putCore s a1 a2) = hull s := by
  simp [putCore, hull_mk, hull_ite, forEach_hull, foldl_hull, takeFree_hull]

@[simp] theorem putCtx_hull (s : Sys2Proof.Machine.State) (a1 : Nat) (a2 : Sys2Proof.Machine.Ctx) : hull (putCtx s a1 a2) = hull s := by
  simp [putCtx, hull_mk, hull_ite, forEach_hull, foldl_hull, takeFree_hull]

@[simp] theorem putBasin_hull (s : Sys2Proof.Machine.State) (a1 : Nat) (a2 : Sys2Proof.Machine.Basin) : hull (putBasin s a1 a2) = hull s := by
  simp [putBasin, hull_mk, hull_ite, forEach_hull, foldl_hull, takeFree_hull]

@[simp] theorem putDie_hull (s : Sys2Proof.Machine.State) (a1 : Nat) (a2 : Sys2Proof.Machine.Die) : hull (putDie s a1 a2) = hull s := by
  simp [putDie, hull_mk, hull_ite, forEach_hull, foldl_hull, takeFree_hull]

@[simp] theorem putHbm_hull (s : Sys2Proof.Machine.State) (a1 : Nat) (a2 : Sys2Proof.Machine.Hbm) : hull (putHbm s a1 a2) = hull s := by
  simp [putHbm, hull_mk, hull_ite, forEach_hull, foldl_hull, takeFree_hull]

@[simp] theorem putRouter_hull (s : Sys2Proof.Machine.State) (a1 : Nat) (a2 : Sys2Proof.Machine.Router) : hull (putRouter s a1 a2) = hull s := by
  simp [putRouter, hull_mk, hull_ite, forEach_hull, foldl_hull, takeFree_hull]

@[simp] theorem putPort_hull (s : Sys2Proof.Machine.State) (a1 : Nat) (a2 : Sys2Proof.Machine.Port) : hull (putPort s a1 a2) = hull s := by
  simp [putPort, hull_mk, hull_ite, forEach_hull, foldl_hull, takeFree_hull]

@[simp] theorem bumpRouter_hull (s : Sys2Proof.Machine.State) (a1 : Nat) (a2 : Nat) (a3 : Nat) : hull (bumpRouter s a1 a2 a3) = hull s := by
  simp [bumpRouter, hull_mk, hull_ite, forEach_hull, foldl_hull, takeFree_hull]

@[simp] theorem bumpPort_hull (s : Sys2Proof.Machine.State) (a1 : Nat) (a2 : Nat) (a3 : Nat) : hull (bumpPort s a1 a2 a3) = hull s := by
  simp [bumpPort, hull_mk, hull_ite, forEach_hull, foldl_hull, takeFree_hull]

@[simp] theorem bumpHbm_hull (s : Sys2Proof.Machine.State) (a1 : Nat) (a2 : Nat) (a3 : Nat) : hull (bumpHbm s a1 a2 a3) = hull s := by
  simp [bumpHbm, hull_mk, hull_ite, forEach_hull, foldl_hull, takeFree_hull]

@[simp] theorem bumpTst_hull (s : Sys2Proof.Machine.State) (a1 : Nat) (a2 : Nat) : hull (bumpTst s a1 a2) = hull s := by
  simp [bumpTst, hull_mk, hull_ite, forEach_hull, foldl_hull, takeFree_hull]

@[simp] theorem bumpNode_hull (s : Sys2Proof.Machine.State) (a1 : ℕ) (a2 : ℕ) : hull (bumpNode s a1 a2) = hull s := by
  unfold bumpNode
  (repeat' split) <;> simp [hull_mk, hull_ite, forEach_hull, foldl_hull, takeFree_hull]

@[simp] theorem sendSync_hull (s : Sys2Proof.Machine.State) (a1 : Sys2Proof.Machine.SyncPkt) : hull (sendSync s a1) = hull s := by
  simp [sendSync, hull_mk, hull_ite, forEach_hull, foldl_hull, takeFree_hull]

@[simp] theorem emit_hull (s : Sys2Proof.Machine.State) (a1 : Sys2Proof.Machine.Output) : hull (emit s a1) = hull s := by
  simp [emit, hull_mk, hull_ite, forEach_hull, foldl_hull, takeFree_hull]

@[simp] theorem postMsg_hull (s : Sys2Proof.Machine.State) (a1 : Nat) (a2 : Sys2Proof.Machine.MsgRec) : hull (postMsg s a1 a2) = hull s := by
  simp [postMsg, hull_mk, hull_ite, forEach_hull, foldl_hull, takeFree_hull]

@[simp] theorem postEvent_hull (s : Sys2Proof.Machine.State) (a1 : Nat) (a2 : Nat) (a3 : Nat) (a4 : Nat) (a5 : Nat) (a6 : Nat) (a7 : Nat) (a8 : Nat) (a9 : Nat) (a10 : Nat) (a11 : Nat) : hull (postEvent s a1 a2 a3 a4 a5 a6 a7 a8 a9 a10 a11) = hull s := by
  simp [postEvent, hull_mk, hull_ite, forEach_hull, foldl_hull, takeFree_hull]

@[simp] theorem basinEvent_hull (s : Sys2Proof.Machine.State) (a1 : Nat) (a2 : Nat) (a3 : Nat) (a4 : Nat) (a5 : Nat) : hull (basinEvent s a1 a2 a3 a4 a5) = hull s := by
  simp [basinEvent, hull_mk, hull_ite, forEach_hull, foldl_hull, takeFree_hull]

@[simp] theorem ctxEvent_hull (s : Sys2Proof.Machine.State) (a1 : Nat) (a2 : Nat) (a3 : Nat) (a4 : Nat) (a5 : Nat) (a6 : Nat) : hull (ctxEvent s a1 a2 a3 a4 a5 a6) = hull s := by
  simp [ctxEvent, hull_mk, hull_ite, forEach_hull, foldl_hull, takeFree_hull]

@[simp] theorem complete_hull (s : Sys2Proof.Machine.State) (a1 : Nat) (a2 : Sys2Proof.Machine.Comp) : hull (complete s a1 a2) = hull s := by
  simp [complete, hull_mk, hull_ite, forEach_hull, foldl_hull, takeFree_hull]

@[simp] theorem failWith_hull (s : Sys2Proof.Machine.State) (a1 : Nat) (a2 : Nat) (a3 : Nat) (a4 : Nat) (a5 : Bool) : hull (failWith s a1 a2 a3 a4 a5) = hull s := by
  simp [failWith, hull_mk, hull_ite, forEach_hull, foldl_hull, takeFree_hull]

@[simp] theorem raiseAlert_hull (s : Sys2Proof.Machine.State) (a1 : Nat) : hull (raiseAlert s a1) = hull s := by
  simp [raiseAlert, hull_mk, hull_ite, forEach_hull, foldl_hull, takeFree_hull]

@[simp] theorem suspectCore_hull (s : Sys2Proof.Machine.State) (a1 : Nat) (a2 : Nat) : hull (suspectCore s a1 a2) = hull s := by
  unfold suspectCore
  (repeat' split) <;> simp [hull_mk, hull_ite, forEach_hull, foldl_hull, takeFree_hull]

@[simp] theorem suspectDie_hull (s : Sys2Proof.Machine.State) (a1 : Nat) (a2 : Nat) : hull (suspectDie s a1 a2) = hull s := by
  unfold suspectDie
  (repeat' split) <;> simp [hull_mk, hull_ite, forEach_hull, foldl_hull, takeFree_hull]

@[simp] theorem enterReset_hull (s : Sys2Proof.Machine.State) (a1 : Nat) : hull (enterReset s a1) = hull s := by
  simp only [enterReset, putBasin_hull, putHbm_hull]
  exact forEach_hull _ _ _ (fun s k => putCore_hull _ _ _)

@[simp] theorem triggerReset_hull (s : Sys2Proof.Machine.State) (a1 : Nat) (a2 : List Nat) (a3 : Nat) (a4 : Nat) (a5 : Bool) : hull (triggerReset s a1 a2 a3 a4 a5) = hull s := by
  unfold triggerReset
  (repeat' split) <;> simp [hull_mk, hull_ite, forEach_hull, foldl_hull, takeFree_hull]

@[simp] theorem askLedger_hull (s : Sys2Proof.Machine.State) (a1 : Nat) (a2 : Nat) (a3 : Nat) (a4 : Nat) (a5 : Option (Nat × Nat × Nat × Bool × Nat)) : hull (askLedger s a1 a2 a3 a4 a5) = hull s := by
  simp [askLedger, hull_mk, hull_ite, forEach_hull, foldl_hull, takeFree_hull]

@[simp] theorem evalReplace_hull (s : Sys2Proof.Machine.State) (a1 : Nat) : hull (evalReplace s a1) = hull s := by
  unfold evalReplace
  (repeat' split) <;> simp [hull_mk, hull_ite, forEach_hull, foldl_hull, takeFree_hull]

@[simp] theorem evalReplaceAll_hull (s : Sys2Proof.Machine.State) : hull (evalReplaceAll s) = hull s := by
  simp [evalReplaceAll, hull_mk, hull_ite, forEach_hull, foldl_hull, takeFree_hull]

@[simp] theorem fenceCore_hull (s : Sys2Proof.Machine.State) (a1 : Nat) : hull (fenceCore s a1) = hull s := by
  unfold fenceCore
  (repeat' split) <;> simp [hull_mk, hull_ite, forEach_hull, foldl_hull, takeFree_hull]

@[simp] theorem effectOf_hull (a0 : ℕ) (s : Sys2Proof.Machine.State) (a2 : Sys2Proof.Machine.Ev) : hull (effectOf a0 s a2) = hull s := by
  unfold effectOf
  (repeat' split) <;> simp [hull_mk, hull_ite, forEach_hull, foldl_hull, takeFree_hull]

@[simp] theorem applyEv_hull (a0 : Nat) (s : Sys2Proof.Machine.State) (a2 : Sys2Proof.Machine.Ev) : hull (applyEv a0 s a2) = hull s := by
  unfold applyEv
  (repeat' split) <;> simp [hull_mk, hull_ite, forEach_hull, foldl_hull, takeFree_hull]

@[simp] theorem applyEvs_hull (a0 : Nat) (s : Sys2Proof.Machine.State) (a2 : List Sys2Proof.Machine.Ev) : hull (applyEvs a0 s a2) = hull s := by
  simp [applyEvs, hull_mk, hull_ite, forEach_hull, foldl_hull, takeFree_hull]

@[simp] theorem noteWaits_hull (s : Sys2Proof.Machine.State) : hull (noteWaits s) = hull s := by
  unfold noteWaits
  (repeat' split) <;> simp [hull_mk, hull_ite, forEach_hull, foldl_hull, takeFree_hull]

@[simp] theorem raiseWedge_hull (s : Sys2Proof.Machine.State) (a1 : List Nat) : hull (raiseWedge s a1) = hull s := by
  simp [raiseWedge, hull_mk, hull_ite, forEach_hull, foldl_hull, takeFree_hull]

@[simp] theorem hbmWrite_hull (s : Sys2Proof.Machine.State) (a1 : Nat) (a2 : Nat) (a3 : List Sys2Proof.Byte) : hull (hbmWrite s a1 a2 a3) = hull s := by
  simp [hbmWrite, hull_mk, hull_ite, forEach_hull, foldl_hull, takeFree_hull]

@[simp] theorem hbmFetch_hull (s : State) (b a n : Nat) : hull (hbmFetch s b a n).2 = hull s := by
  unfold hbmFetch
  simp [hull_mk, hull_ite, forEach_hull, foldl_hull, takeFree_hull]

@[simp] theorem hbmCopy_hull (s : State) (b a d o n : Nat) : hull (hbmCopy s b a d o n) = hull s := by
  simp [hbmCopy]

@[simp] theorem writePage_hull (s : Sys2Proof.Machine.State) (a1 : Nat) (a2 : Nat) (a3 : Option Sys2Proof.Machine.Page) : hull (writePage s a1 a2 a3) = hull s := by
  simp [writePage, hull_mk, hull_ite, forEach_hull, foldl_hull, takeFree_hull]

@[simp] theorem loseSessions_hull (s : Sys2Proof.Machine.State) (a1 : Nat) (a2 : Nat) (a3 : List Nat) : hull (loseSessions s a1 a2 a3) = hull s := by
  simp [loseSessions, hull_mk, hull_ite, forEach_hull, foldl_hull, takeFree_hull]

@[simp] theorem holdShard_hull (s : Sys2Proof.Machine.State) (a1 : Nat) (a2 : Nat) (a3 : Sys2Proof.Machine.Shard) : hull (holdShard s a1 a2 a3) = hull s := by
  simp [holdShard, hull_mk, hull_ite, forEach_hull, foldl_hull, takeFree_hull]

@[simp] theorem askReload_hull (s : Sys2Proof.Machine.State) (a1 : Nat) (a2 : Nat) (a3 : Sys2Proof.Machine.Shard) : hull (askReload s a1 a2 a3) = hull s := by
  simp [askReload, hull_mk, hull_ite, forEach_hull, foldl_hull, takeFree_hull]

@[simp] theorem restoreLine_hull (s : Sys2Proof.Machine.State) (a1 : Nat) (a2 : Nat) (a3 : Nat) (a4 : Sys2Proof.Machine.Shard) : hull (restoreLine s a1 a2 a3 a4) = hull s := by
  unfold restoreLine
  (repeat' split) <;> simp [hull_mk, hull_ite, forEach_hull, foldl_hull, takeFree_hull]

@[simp] theorem repairPage_hull (s : Sys2Proof.Machine.State) (a1 : Nat) (a2 : Nat) (a3 : Nat) : hull (repairPage s a1 a2 a3) = hull s := by
  unfold repairPage
  dsimp only
  (repeat' split) <;> simp [hull_mk, hull_ite, forEach_hull, foldl_hull, takeFree_hull]

@[simp] theorem withdrawPages_hull (s : State) (n b : Nat) : hull (withdrawPages s n b) = hull s := by
  unfold withdrawPages
  simp only [loseSessions_hull, putCtx_hull]
  apply forEach_hull
  intro s e
  split <;> simp

@[simp] theorem withdrawStack_hull (s : Sys2Proof.Machine.State) (a1 : Nat) : hull (withdrawStack s a1) = hull s := by
  unfold withdrawStack
  (repeat' split) <;> simp [hull_mk, hull_ite, forEach_hull, foldl_hull, takeFree_hull]

@[simp] theorem hbmAnswer_hull (s : Sys2Proof.Machine.State) (a1 : Nat) (a2 : Sys2Proof.Machine.Pkt) (a3 : List (Sys2Proof.Byte × Bool)) (a4 : Bool) (a5 : Nat) : hull (hbmAnswer s a1 a2 a3 a4 a5) = hull s := by
  simp [hbmAnswer, hull_mk, hull_ite, forEach_hull, foldl_hull, takeFree_hull]

@[simp] theorem hbmCw_hull (s : Sys2Proof.Machine.State) (a1 : Nat) (a2 : Nat) (a3 : Sys2Proof.Ecc) : hull (hbmCw s a1 a2 a3) = hull s := by
  unfold hbmCw
  dsimp only
  (repeat' split) <;> simp [hull_mk, hull_ite, forEach_hull, foldl_hull, takeFree_hull]

@[simp] theorem hbmOutcomes_hull (s : Sys2Proof.Machine.State) (a1 : Nat) (a2 : Nat) (a3 : Nat) (a4 : Sys2Proof.LineEcc) : hull (hbmOutcomes s a1 a2 a3 a4) = hull s := by
  simp [hbmOutcomes, hull_mk, hull_ite, forEach_hull, foldl_hull, takeFree_hull]

@[simp] theorem rebuildPage_hull (s : Sys2Proof.Machine.State) (a1 : Nat) (a2 : Nat) (a3 : Nat) (a4 : Sys2Proof.Machine.Page) : hull (rebuildPage s a1 a2 a3 a4) = hull s := by
  unfold rebuildPage
  (repeat' split) <;> simp [hull_mk, hull_ite, forEach_hull, foldl_hull, takeFree_hull]

@[simp] theorem writePlace_hull (s : Sys2Proof.Machine.State) (a1 : Bool) (a2 : Nat) (a3 : Option Nat) : hull (writePlace s a1 a2 a3) = hull s := by
  simp [writePlace, hull_mk, hull_ite, forEach_hull, foldl_hull, takeFree_hull]

@[simp] theorem writePlaces_hull (s : Sys2Proof.Machine.State) (a1 : Nat) (a2 : Option Nat) : hull (writePlaces s a1 a2) = hull s := by
  simp [writePlaces, hull_mk, hull_ite, forEach_hull, foldl_hull, takeFree_hull]

@[simp] theorem placeFail_hull (s : Sys2Proof.Machine.State) (a1 : Nat) (a2 : Bool) (a3 : Nat) : hull (placeFail s a1 a2 a3) = hull s := by
  unfold placeFail
  dsimp only
  (repeat' split) <;> simp [hull_mk, hull_ite, forEach_hull, foldl_hull, takeFree_hull]

@[simp] theorem countInj_hull (s : Sys2Proof.Machine.State) (a1 : Nat) (a2 : Bool) (a3 : Nat) : hull (countInj s a1 a2 a3) = hull s := by
  simp [countInj, hull_mk, hull_ite, forEach_hull, foldl_hull, takeFree_hull]

@[simp] theorem countEj_hull (s : Sys2Proof.Machine.State) (a1 : Nat) (a2 : Bool) (a3 : Nat) : hull (countEj s a1 a2 a3) = hull s := by
  simp [countEj, hull_mk, hull_ite, forEach_hull, foldl_hull, takeFree_hull]

@[simp] theorem discardAt_hull (s : Sys2Proof.Machine.State) (a1 : Nat) (a2 : Sys2Proof.Machine.Pkt) : hull (discardAt s a1 a2) = hull s := by
  simp [discardAt, hull_mk, hull_ite, forEach_hull, foldl_hull, takeFree_hull]

@[simp] theorem notePeak_hull (s : Sys2Proof.Machine.State) (a1 : ℕ) (a2 : ℕ) (a3 : ℕ) : hull (notePeak s a1 a2 a3) = hull s := by
  simp [notePeak, hull_mk, hull_ite, forEach_hull, foldl_hull, takeFree_hull]

@[simp] theorem enterNet_hull (s : Sys2Proof.Machine.State) (a1 : Nat) (a2 : Nat) (a3 : Sys2Proof.Machine.Pkt) : hull (enterNet s a1 a2 a3) = hull s := by
  simp [enterNet, hull_mk, hull_ite, forEach_hull, foldl_hull, takeFree_hull]

@[simp] theorem dropIngress_hull (s : Sys2Proof.Machine.State) (a1 : Nat) : hull (dropIngress s a1) = hull s := by
  simp [dropIngress, hull_mk, hull_ite, forEach_hull, foldl_hull, takeFree_hull]

@[simp] theorem unmappedAt_hull (s : Sys2Proof.Machine.State) (a1 : Nat) (a2 : Nat) : hull (unmappedAt s a1 a2) = hull s := by
  simp [unmappedAt, hull_mk, hull_ite, forEach_hull, foldl_hull, takeFree_hull]

@[simp] theorem refuseHere_hull (s : Sys2Proof.Machine.State) (a1 : Nat) (a2 : Sys2Proof.Machine.Pkt) (a3 : Nat) : hull (refuseHere s a1 a2 a3) = hull s := by
  simp [refuseHere, hull_mk, hull_ite, forEach_hull, foldl_hull, takeFree_hull]

@[simp] theorem readPlace_hull (s : State) (b : Nat) (bank : Bool) (slot : Nat) : hull (readPlace s b bank slot).2 = hull s := by
  unfold readPlace
  dsimp only
  repeat' split
  all_goals first | rfl | simp

@[simp] theorem injectPkt_hull (s : State) (k : Nat) (p : Pkt) : hull (injectPkt s k p) = hull s := by
  unfold injectPkt
  dsimp only
  (repeat' split) <;> simp

@[simp] theorem putPkt_hull (s : Sys2Proof.Machine.State) (a1 : Sys2Proof.Machine.Pkt) : hull (putPkt s a1) = hull s := by
  simp [putPkt, hull_mk, hull_ite, forEach_hull, foldl_hull, takeFree_hull]

@[simp] theorem gapLoss_hull (s : Sys2Proof.Machine.State) (a1 : Nat) (a2 : Nat) (a3 : Nat → List Nat) : hull (gapLoss s a1 a2 a3) = hull s := by
  simp [gapLoss, hull_mk, hull_ite, forEach_hull, foldl_hull, takeFree_hull]

@[simp] theorem gapDrop_hull (s : Sys2Proof.Machine.State) (a1 : Sys2Proof.Machine.Pkt) (a2 : Nat) : hull (gapDrop s a1 a2) = hull s := by
  simp [gapDrop, hull_mk, hull_ite, forEach_hull, foldl_hull, takeFree_hull]

@[simp] theorem movePkt_hull (s : Sys2Proof.Machine.State) (a1 : Sys2Proof.Machine.Pkt) (a2 : Nat) (a3 : Nat) : hull (movePkt s a1 a2 a3) = hull s := by
  simp [movePkt, hull_mk, hull_ite, forEach_hull, foldl_hull, takeFree_hull]

@[simp] theorem stallPkt_hull (s : Sys2Proof.Machine.State) (a1 : Sys2Proof.Machine.Pkt) (a2 : ℕ) : hull (stallPkt s a1 a2) = hull s := by
  unfold stallPkt
  (repeat' split) <;> simp [hull_mk, hull_ite, forEach_hull, foldl_hull, takeFree_hull]

@[simp] theorem hopPkt_hull (s : Sys2Proof.Machine.State) (a1 : Sys2Proof.Machine.Pkt) (a2 : Sys2Proof.Dir) : hull (hopPkt s a1 a2) = hull s := by
  unfold hopPkt
  (repeat' split) <;> simp [hull_mk, hull_ite, forEach_hull, foldl_hull, takeFree_hull]

@[simp] theorem badHeader_hull (s : Sys2Proof.Machine.State) (a1 : Sys2Proof.Machine.Pkt) : hull (badHeader s a1) = hull s := by
  unfold badHeader
  (repeat' split) <;> simp [hull_mk, hull_ite, forEach_hull, foldl_hull, takeFree_hull]

@[simp] theorem misdeliver_hull (s : Sys2Proof.Machine.State) (a1 : ℕ) : hull (misdeliver s a1) = hull s := by
  unfold misdeliver
  (repeat' split) <;> simp [hull_mk, hull_ite, forEach_hull, foldl_hull, takeFree_hull]

@[simp] theorem deliverCore_hull (s : Sys2Proof.Machine.State) (a1 : Nat) (a2 : Sys2Proof.Machine.Pkt) : hull (deliverCore s a1 a2) = hull s := by
  unfold deliverCore
  (repeat' split) <;> simp [hull_mk, hull_ite, forEach_hull, foldl_hull, takeFree_hull]

@[simp] theorem forwardCopy_hull (s : Sys2Proof.Machine.State) (a1 : Sys2Proof.Machine.Pkt) (a2 : ℕ) : hull (forwardCopy s a1 a2) = hull s := by
  unfold forwardCopy
  (repeat' split) <;> simp [hull_mk, hull_ite, forEach_hull, foldl_hull, takeFree_hull]

@[simp] theorem leaveCopy_hull (s : Sys2Proof.Machine.State) (a1 : Sys2Proof.Machine.Pkt) : hull (leaveCopy s a1) = hull s := by
  unfold leaveCopy
  (repeat' split) <;> simp [hull_mk, hull_ite, forEach_hull, foldl_hull, takeFree_hull]

@[simp] theorem fenceDie_hull (s : Sys2Proof.Machine.State) (a1 : Nat) : hull (fenceDie s a1) = hull s := by
  simp [fenceDie, hull_mk, hull_ite, forEach_hull, foldl_hull, takeFree_hull]

@[simp] theorem retireDie_hull (s : Sys2Proof.Machine.State) (a1 : Nat) (a2 : Nat) (a3 : Option (Nat × Nat × Nat × Bool × Nat)) : hull (retireDie s a1 a2 a3) = hull s := by
  simp [retireDie, hull_mk, hull_ite, forEach_hull, foldl_hull, takeFree_hull]

@[simp] theorem gapOne_hull (s : Sys2Proof.Machine.State) (a1 : ℕ) (a2 : ℕ) : hull (gapOne s a1 a2) = hull s := by
  unfold gapOne
  (repeat' split) <;> simp [hull_mk, hull_ite, forEach_hull, foldl_hull, takeFree_hull]

@[simp] theorem makeGap_hull (s : Sys2Proof.Machine.State) (a1 : ℕ) (a2 : ℕ) (a3 : List ℕ) : hull (makeGap s a1 a2 a3) = hull s := by
  simp [makeGap, hull_mk, hull_ite, forEach_hull, foldl_hull, takeFree_hull]

@[simp] theorem retireBank_hull (s : Sys2Proof.Machine.State) : hull (retireBank s) = hull s := by
  simp [retireBank, hull_mk, hull_ite, forEach_hull, foldl_hull, takeFree_hull]

@[simp] theorem stopAfter_hull (s : Sys2Proof.Machine.State) (a1 : List Nat) (a2 : Option Nat) : hull (stopAfter s a1 a2) = hull s := by
  simp [stopAfter, hull_mk, hull_ite, forEach_hull, foldl_hull, takeFree_hull]

@[simp] theorem wakeCtx_hull (s : Sys2Proof.Machine.State) (a1 : Nat) : hull (wakeCtx s a1) = hull s := by
  simp [wakeCtx, hull_mk, hull_ite, forEach_hull, foldl_hull, takeFree_hull]

@[simp] theorem startDrain_hull (s : Sys2Proof.Machine.State) (a1 : Nat) (a2 : List Nat) (a3 : Sys2Proof.Machine.DrainFor) (a4 : Nat) (a5 : Nat) (a6 : Bool) : hull (startDrain s a1 a2 a3 a4 a5 a6) = hull s := by
  simp [startDrain, hull_mk, hull_ite, forEach_hull, foldl_hull, takeFree_hull]

@[simp] theorem dropDrain_hull (s : Sys2Proof.Machine.State) (a1 : Sys2Proof.Machine.DrainJob) : hull (dropDrain s a1) = hull s := by
  simp [dropDrain, hull_mk, hull_ite, forEach_hull, foldl_hull, takeFree_hull]

@[simp] theorem resetCore_hull (s : Sys2Proof.Machine.State) (a1 : List Nat) (a2 : Nat) : hull (resetCore s a1 a2) = hull s := by
  simp [resetCore, hull_mk, hull_ite, forEach_hull, foldl_hull, takeFree_hull]

@[simp] theorem resetChannels_hull (s : Sys2Proof.Machine.State) (a1 : Nat) (a2 : List Nat) : hull (resetChannels s a1 a2) = hull s := by
  simp [resetChannels, hull_mk, hull_ite, forEach_hull, foldl_hull, takeFree_hull]

@[simp] theorem advanceGens_hull (s : Sys2Proof.Machine.State) (a1 : Nat) (a2 : List Nat) : hull (advanceGens s a1 a2) = hull s := by
  simp [advanceGens, hull_mk, hull_ite, forEach_hull, foldl_hull, takeFree_hull]

@[simp] theorem vacate_hull (s : Sys2Proof.Machine.State) (a1 : Nat) : hull (vacate s a1) = hull s := by
  unfold vacate
  dsimp only
  (repeat' split) <;> simp [hull_mk, hull_ite, forEach_hull, foldl_hull, takeFree_hull]

@[simp] theorem vacateCtx_hull (s : Sys2Proof.Machine.State) (a1 : Nat) : hull (vacateCtx s a1) = hull s := by
  simp [vacateCtx, hull_mk, hull_ite, forEach_hull, foldl_hull, takeFree_hull]

@[simp] theorem leaveSync_hull (s : Sys2Proof.Machine.State) (a1 : ℕ) (a2 : Sys2Proof.Machine.SyncPkt) : hull (leaveSync s a1 a2) = hull s := by
  unfold leaveSync
  (repeat' split) <;> simp [hull_mk, hull_ite, forEach_hull, foldl_hull, takeFree_hull]

@[simp] theorem dropSync_hull (s : Sys2Proof.Machine.State) (a1 : Sys2Proof.Machine.SyncPkt) : hull (dropSync s a1) = hull s := by
  simp [dropSync, hull_mk, hull_ite, forEach_hull, foldl_hull, takeFree_hull]

@[simp] theorem badSync_hull (s : Sys2Proof.Machine.State) (a1 : Sys2Proof.Machine.SyncPkt) : hull (badSync s a1) = hull s := by
  unfold badSync
  (repeat' split) <;> simp [hull_mk, hull_ite, forEach_hull, foldl_hull, takeFree_hull]

@[simp] theorem gapSync_hull (s : Sys2Proof.Machine.State) (a1 : Sys2Proof.Machine.SyncPkt) (a2 : ℕ) (a3 : ℕ) : hull (gapSync s a1 a2 a3) = hull s := by
  unfold gapSync
  (repeat' split) <;> simp [hull_mk, hull_ite, forEach_hull, foldl_hull, takeFree_hull]

theorem onSync_hull (s : State) (sel : State → Option SyncPkt) (f : State → SyncPkt → State) (h : ∀ s p, hull (f s p) = hull s) :
    hull (onSync s sel f) = hull s := by
  have h0 : hull (forEach (s.mesh.sync.filter (fun p => decide (4 < p.type))) badSync s) = hull s := forEach_hull _ _ _ (by simp)
  unfold onSync
  dsimp only
  (repeat' split) <;> simp [h, h0]

@[simp] theorem bumpSync_hull (s : Sys2Proof.Machine.State) (a1 : Nat) (a2 : Nat) (a3 : Nat) : hull (bumpSync s a1 a2 a3) = hull s := by
  simp [bumpSync, hull_mk, hull_ite, forEach_hull, foldl_hull, takeFree_hull]

@[simp] theorem putObj_hull (s : Sys2Proof.Machine.State) (a1 : Nat) (a2 : Nat) (a3 : Sys2Proof.Machine.SyncObj) : hull (putObj s a1 a2 a3) = hull s := by
  simp [putObj, hull_mk, hull_ite, forEach_hull, foldl_hull, takeFree_hull]

@[simp] theorem syncFault_hull (s : Sys2Proof.Machine.State) (a1 : ℕ) (a2 : ℕ) (a3 : Bool) (a4 : Sys2Proof.Machine.SyncPkt) : hull (syncFault s a1 a2 a3 a4) = hull s := by
  simp [syncFault, hull_mk, hull_ite, forEach_hull, foldl_hull, takeFree_hull]

@[simp] theorem sendAnswer_hull (s : Sys2Proof.Machine.State) (a1 : ℕ) (a2 : Sys2Proof.Machine.SyncPkt) : hull (sendAnswer s a1 a2) = hull s := by
  unfold sendAnswer
  dsimp only
  (repeat' split) <;> (try simp [hull_mk, hull_ite, forEach_hull, foldl_hull, takeFree_hull]) <;> (repeat' split) <;>
    (try simp [hull_mk, hull_ite, forEach_hull, foldl_hull, takeFree_hull])

@[simp] theorem fabSync_hull (s : Sys2Proof.Machine.State) (a1 : Nat) (a2 : Nat) (a3 : Nat) (a4 : Nat) (a5 : Nat) (a6 : Nat) (a7 : Sys2Proof.Machine.SyncPkt) : hull (fabSync s a1 a2 a3 a4 a5 a6 a7) = hull s := by
  unfold fabSync
  (repeat' split) <;> simp [hull_mk, hull_ite, forEach_hull, foldl_hull, takeFree_hull]

@[simp] theorem lateCtx_hull (s : Sys2Proof.Machine.State) (a1 : Nat) (a2 : Nat) (a3 : Sys2Proof.Machine.Late → Sys2Proof.Machine.Late) : hull (lateCtx s a1 a2 a3) = hull s := by
  simp [lateCtx, hull_mk, hull_ite, forEach_hull, foldl_hull, takeFree_hull]

@[simp] theorem releaseAll_hull (s : Sys2Proof.Machine.State) (a1 : Nat) (a2 : Nat) (a3 : Sys2Proof.Machine.SyncObj) (a4 : Nat) : hull (releaseAll s a1 a2 a3 a4) = hull s := by
  simp [releaseAll, hull_mk, hull_ite, forEach_hull, foldl_hull, takeFree_hull]

@[simp] theorem completePhases_hull (s : State) (b o own n : Nat) : hull (completePhases s b o own n) = hull s := by
  induction n generalizing s with
  | zero => rfl
  | succ n ih =>
    unfold completePhases
    split
    · rfl
    · split
      · rw [ih]; simp
      · rfl

@[simp] theorem lateArrival_hull (s : Sys2Proof.Machine.State) (a1 : Nat) (a2 : Sys2Proof.Machine.SyncObj) (a3 : Nat) (a4 : Bool) : hull (lateArrival s a1 a2 a3 a4) = hull s := by
  simp [lateArrival, hull_mk, hull_ite, forEach_hull, foldl_hull, takeFree_hull]

@[simp] theorem arriveObj_hull (s : Sys2Proof.Machine.State) (a1 : Nat) (a2 : Sys2Proof.Machine.SyncPkt) (a3 : Nat) : hull (arriveObj s a1 a2 a3) = hull s := by
  unfold arriveObj
  (repeat' split) <;> simp [hull_mk, hull_ite, forEach_hull, foldl_hull, takeFree_hull]

@[simp] theorem localArrive_hull (s : Sys2Proof.Machine.State) (a1 : Nat) (a2 : Sys2Proof.Machine.SyncPkt) : hull (localArrive s a1 a2) = hull s := by
  unfold localArrive
  dsimp only
  (repeat' split) <;> simp [hull_mk, hull_ite, forEach_hull, foldl_hull, takeFree_hull]

@[simp] theorem sendGrant_hull (s : Sys2Proof.Machine.State) (a1 : Nat) (a2 : Nat) (a3 : Nat × Nat) : hull (sendGrant s a1 a2 a3) = hull s := by
  simp [sendGrant, hull_mk, hull_ite, forEach_hull, foldl_hull, takeFree_hull]

@[simp] theorem takeAnswerSync_hull (s : Sys2Proof.Machine.State) (a1 : ℕ) (a2 : Sys2Proof.Machine.SyncPkt) (a3 : Sys2Proof.Machine.Core → Sys2Proof.Machine.SyncPkt → Sys2Proof.Machine.Core) : hull (takeAnswerSync s a1 a2 a3) = hull s := by
  unfold takeAnswerSync
  (repeat' split) <;> simp [hull_mk, hull_ite, forEach_hull, foldl_hull, takeFree_hull]

@[simp] theorem putEnt_hull (s : Sys2Proof.Machine.State) (a1 : Nat) (a2 : Sys2Proof.Machine.EpEnt) : hull (putEnt s a1 a2) = hull s := by
  simp [putEnt, hull_mk, hull_ite, forEach_hull, foldl_hull, takeFree_hull]

@[simp] theorem putTx_hull (s : Sys2Proof.Machine.State) (a1 : Nat) (a2 : Sys2Proof.Machine.TxStream) : hull (putTx s a1 a2) = hull s := by
  simp [putTx, hull_mk, hull_ite, forEach_hull, foldl_hull, takeFree_hull]

@[simp] theorem putRx_hull (s : Sys2Proof.Machine.State) (a1 : Nat) (a2 : Sys2Proof.Machine.RxStream) : hull (putRx s a1 a2) = hull s := by
  simp [putRx, hull_mk, hull_ite, forEach_hull, foldl_hull, takeFree_hull]

@[simp] theorem putPair_hull (s : Sys2Proof.Machine.State) (a1 : Sys2Proof.Machine.PairKey) : hull (putPair s a1) = hull s := by
  unfold putPair
  (repeat' split) <;> simp [hull_mk, hull_ite, forEach_hull, foldl_hull, takeFree_hull]

@[simp] theorem putKey_hull (s : Sys2Proof.Machine.State) (a1 : Nat) (a2 : Sys2Proof.Machine.KeyUse) : hull (putKey s a1 a2) = hull s := by
  simp [putKey, hull_mk, hull_ite, forEach_hull, foldl_hull, takeFree_hull]

@[simp] theorem linkRx_hull (s : Sys2Proof.Machine.State) (a1 : ℕ) (a2 : ℕ) : hull (linkRx s a1 a2) = hull s := by
  unfold linkRx
  (repeat' split) <;> simp [hull_mk, hull_ite, forEach_hull, foldl_hull, takeFree_hull]

@[simp] theorem sendFab_hull (s : Sys2Proof.Machine.State) (a1 : Nat) (a2 : Nat) (a3 : Nat) (a4 : Sys2Proof.Machine.FabPkt) : hull (sendFab s a1 a2 a3 a4) = hull s := by
  simp [sendFab, hull_mk, hull_ite, forEach_hull, foldl_hull, takeFree_hull]

@[simp] theorem pumpTx_hull (p n i cls k : Nat) (s : State) : hull (pumpTx p n i cls k s) = hull s := by
  induction k generalizing s with
  | zero => rfl
  | succ k ih =>
    rw [pumpTx]
    dsimp only
    (repeat' split) <;> simp [ih]

@[simp] theorem queueTx_hull (s : Sys2Proof.Machine.State) (a1 : Nat) (a2 : Nat) (a3 : Nat) (a4 : Sys2Proof.Machine.FabPkt) (a5 : List Sys2Proof.Machine.Pkt) : hull (queueTx s a1 a2 a3 a4 a5) = hull s := by
  simp [queueTx, hull_mk, hull_ite, forEach_hull, foldl_hull, takeFree_hull]

@[simp] theorem resendTx_hull (s : Sys2Proof.Machine.State) (a1 : ℕ) (a2 : Sys2Proof.Machine.TxStream) (a3 : ℕ) : hull (resendTx s a1 a2 a3) = hull s := by
  unfold resendTx
  dsimp only
  (repeat' split) <;> (try simp [hull_mk, hull_ite, forEach_hull, foldl_hull, takeFree_hull]) <;> (repeat' split) <;>
    (try simp [hull_mk, hull_ite, forEach_hull, foldl_hull, takeFree_hull])

@[simp] theorem pumpCtl_hull (p k : Nat) (s : State) : hull (pumpCtl p k s) = hull s := by
  induction k generalizing s with
  | zero => rfl
  | succ k ih =>
    rw [pumpCtl]
    (repeat' split) <;> simp [ih]

@[simp] theorem sendCtl_hull (s : Sys2Proof.Machine.State) (a1 : Nat) (a2 : Nat) (a3 : Nat) (a4 : Nat) (a5 : Nat) (a6 : Nat) (a7 : Nat) (a8 : Bool) (a9 : Nat) : hull (sendCtl s a1 a2 a3 a4 a5 a6 a7 a8 a9) = hull s := by
  simp [sendCtl, hull_mk, hull_ite, forEach_hull, foldl_hull, takeFree_hull]

@[simp] theorem countBulk_hull (s : Sys2Proof.Machine.State) (a1 : Sys2Proof.Machine.Pkt) : hull (countBulk s a1) = hull s := by
  simp [countBulk, hull_mk, hull_ite, forEach_hull, foldl_hull, takeFree_hull]

@[simp] theorem uncountBulk_hull (s : Sys2Proof.Machine.State) (a1 : Sys2Proof.Machine.Pkt) : hull (uncountBulk s a1) = hull s := by
  simp [uncountBulk, hull_mk, hull_ite, forEach_hull, foldl_hull, takeFree_hull]

@[simp] theorem refuseArrive_hull (s : Sys2Proof.Machine.State) (a1 : Sys2Proof.Machine.Pkt) (a2 : ℕ) : hull (refuseArrive s a1 a2) = hull s := by
  unfold refuseArrive
  (repeat' split) <;> simp [hull_mk, hull_ite, forEach_hull, foldl_hull, takeFree_hull]

@[simp] theorem answerBulk_hull (s : Sys2Proof.Machine.State) (a1 : Nat) (a2 : Sys2Proof.Machine.Pkt) (a3 : List (Sys2Proof.Byte × Bool)) (a4 : Bool) (a5 : Nat) (a6 : Nat) : hull (answerBulk s a1 a2 a3 a4 a5 a6) = hull s := by
  simp [answerBulk, hull_mk, hull_ite, forEach_hull, foldl_hull, takeFree_hull]

@[simp] theorem refuseBulk_hull (s : Sys2Proof.Machine.State) (a1 : Nat) (a2 : Sys2Proof.Machine.Pkt) (a3 : Nat) : hull (refuseBulk s a1 a2 a3) = hull s := by
  simp [refuseBulk, hull_mk, hull_ite, forEach_hull, foldl_hull, takeFree_hull]

@[simp] theorem poisonTag_hull (s : Sys2Proof.Machine.State) (a1 : Nat) (a2 : Sys2Proof.Machine.TxStream) (a3 : Nat) (a4 : Nat) : hull (poisonTag s a1 a2 a3 a4) = hull s := by
  simp [poisonTag, hull_mk, hull_ite, forEach_hull, foldl_hull, takeFree_hull]

@[simp] theorem poisonTx_hull (s : Sys2Proof.Machine.State) (a1 : Nat) (a2 : Sys2Proof.Machine.TxStream) (a3 : Nat) : hull (poisonTx s a1 a2 a3) = hull s := by
  simp [poisonTx, hull_mk, hull_ite, forEach_hull, foldl_hull, takeFree_hull]

@[simp] theorem startOp_hull (s : Sys2Proof.Machine.State) (a1 : Nat) (a2 : Nat) (a3 : Sys2Proof.Machine.RxOp) (a4 : Nat) (a5 : List Sys2Proof.Byte) (a6 : Bool) : hull (startOp s a1 a2 a3 a4 a5 a6) = hull s := by
  simp [startOp, hull_mk, hull_ite, forEach_hull, foldl_hull, takeFree_hull]

@[simp] theorem serveOwn_hull (s : Sys2Proof.Machine.State) (a1 : Nat) (a2 : Nat) (a3 : Nat) (a4 : Sys2Proof.Machine.Pkt) : hull (serveOwn s a1 a2 a3 a4) = hull s := by
  unfold serveOwn
  dsimp only
  (repeat' split) <;> (try simp [hull_mk, hull_ite, forEach_hull, foldl_hull, takeFree_hull]) <;> (repeat' split) <;>
    (try simp [hull_mk, hull_ite, forEach_hull, foldl_hull, takeFree_hull])

@[simp] theorem closeMerge_hull (s : Sys2Proof.Machine.State) (a1 : Nat) : hull (closeMerge s a1) = hull s := by
  unfold closeMerge
  dsimp only
  (repeat' split) <;> (try simp [hull_mk, hull_ite, forEach_hull, foldl_hull, takeFree_hull]) <;> (repeat' split) <;>
    (try simp [hull_mk, hull_ite, forEach_hull, foldl_hull, takeFree_hull])

@[simp] theorem mergeReq_hull (s : Sys2Proof.Machine.State) (a1 : Nat) (a2 : Nat) (a3 : Sys2Proof.Machine.Pkt) : hull (mergeReq s a1 a2 a3) = hull s := by
  unfold mergeReq
  dsimp only
  (repeat' split) <;> (try simp [hull_mk, hull_ite, forEach_hull, foldl_hull, takeFree_hull]) <;> (repeat' split) <;>
    (try simp [hull_mk, hull_ite, forEach_hull, foldl_hull, takeFree_hull])

@[simp] theorem routeReq_hull (s : Sys2Proof.Machine.State) (a1 : Nat) (a2 : Nat) (a3 : Sys2Proof.Machine.Pkt) : hull (routeReq s a1 a2 a3) = hull s := by
  unfold routeReq
  dsimp only
  (repeat' split) <;> (try simp [hull_mk, hull_ite, forEach_hull, foldl_hull, takeFree_hull]) <;> (repeat' split) <;>
    (try simp [hull_mk, hull_ite, forEach_hull, foldl_hull, takeFree_hull])

@[simp] theorem lookupReq_hull (s : Sys2Proof.Machine.State) (a1 : Nat) (a2 : Sys2Proof.Machine.Pkt) : hull (lookupReq s a1 a2) = hull s := by
  unfold lookupReq
  dsimp only
  (repeat' split) <;> simp [hull_mk, hull_ite, forEach_hull, foldl_hull, takeFree_hull]

@[simp] theorem settleAcks_hull (p n i src dst cls k : Nat) (s : State) : hull (settleAcks p n i src dst cls k s) = hull s := by
  induction k generalizing s with
  | zero => rfl
  | succ k ih =>
    unfold settleAcks
    dsimp only
    split
    · rfl
    · split
      · rfl
      · split
        · rw [ih]; simp
        · split
          · simp
          · rw [ih]; simp

@[simp] theorem ackDone_hull (s : Sys2Proof.Machine.State) (a1 : Nat) (a2 : Nat) (a3 : Nat) (a4 : Nat) (a5 : Nat) (a6 : Bool) : hull (ackDone s a1 a2 a3 a4 a5 a6) = hull s := by
  unfold ackDone
  (repeat' split) <;> simp [hull_mk, hull_ite, forEach_hull, foldl_hull, takeFree_hull]

@[simp] theorem finishOp_hull (s : Sys2Proof.Machine.State) (a1 : Nat) (a2 : Sys2Proof.Machine.RxOp) : hull (finishOp s a1 a2) = hull s := by
  unfold finishOp
  dsimp only
  (repeat' split) <;> (try simp [hull_mk, hull_ite, forEach_hull, foldl_hull, takeFree_hull]) <;> (repeat' split) <;>
    (try simp [hull_mk, hull_ite, forEach_hull, foldl_hull, takeFree_hull])

@[simp] theorem opAnswer_hull (s : Sys2Proof.Machine.State) (a1 : Nat) (a2 : Sys2Proof.Machine.Pkt) : hull (opAnswer s a1 a2) = hull s := by
  unfold opAnswer
  (repeat' split) <;> simp [hull_mk, hull_ite, forEach_hull, foldl_hull, takeFree_hull]

@[simp] theorem sendMgmt_hull (s : Sys2Proof.Machine.State) (a1 : Nat) (a2 : Nat) (a3 : Nat) (a4 : Nat) (a5 : List Sys2Proof.Byte) : hull (sendMgmt s a1 a2 a3 a4 a5) = hull s := by
  unfold sendMgmt
  dsimp only
  (repeat' split) <;> (try simp [hull_mk, hull_ite, forEach_hull, foldl_hull, takeFree_hull]) <;> (repeat' split) <;>
    (try simp [hull_mk, hull_ite, forEach_hull, foldl_hull, takeFree_hull])

@[simp] theorem sendRecord_hull (s : Sys2Proof.Machine.State) (a1 : Nat) (a2 : Nat) (a3 : Nat) : hull (sendRecord s a1 a2 a3) = hull s := by
  unfold sendRecord
  (repeat' split) <;> simp [hull_mk, hull_ite, forEach_hull, foldl_hull, takeFree_hull]

@[simp] theorem noteKey_hull (s : Sys2Proof.Machine.State) (a1 : ℕ) (a2 : Sys2Proof.Machine.FabPkt) : hull (noteKey s a1 a2) = hull s := by
  unfold noteKey
  (repeat' split) <;> simp [hull_mk, hull_ite, forEach_hull, foldl_hull, takeFree_hull]

@[simp] theorem rxOp_hull (a0 : Nat) (a1 : Nat) (a2 : Sys2Proof.Machine.FabPkt) (s : Sys2Proof.Machine.State) (a4 : Nat) : hull (rxOp a0 a1 a2 s a4) = hull s := by
  simp [rxOp, hull_mk, hull_ite, forEach_hull, foldl_hull, takeFree_hull]

@[simp] theorem echoTx_hull (s : Sys2Proof.Machine.State) (a1 : Nat) (a2 : Nat) (a3 : Nat) (a4 : Nat) (a5 : Nat) : hull (echoTx s a1 a2 a3 a4 a5) = hull s := by
  simp [echoTx, hull_mk, hull_ite, forEach_hull, foldl_hull, takeFree_hull]

@[simp] theorem ackOne_hull (a0 : Nat) (a1 : Nat) (a2 : Nat) (a3 : Bool) (a4 : Nat) (a5 : Nat) (s : Sys2Proof.Machine.State) (a7 : Sys2Proof.Machine.FabPkt) : hull (ackOne a0 a1 a2 a3 a4 a5 s a7) = hull s := by
  simp [ackOne, hull_mk, hull_ite, forEach_hull, foldl_hull, takeFree_hull]

@[simp] theorem reissue_hull (s : Sys2Proof.Machine.State) (a1 : Nat) (a2 : Sys2Proof.Machine.TxStream) (a3 : Sys2Proof.Machine.FabPkt) : hull (reissue s a1 a2 a3) = hull s := by
  unfold reissue
  dsimp only
  (repeat' split) <;> (try simp [hull_mk, hull_ite, forEach_hull, foldl_hull, takeFree_hull]) <;> (repeat' split) <;>
    (try simp [hull_mk, hull_ite, forEach_hull, foldl_hull, takeFree_hull])

@[simp] theorem failStream_hull (s : Sys2Proof.Machine.State) (a1 : Nat) (a2 : Sys2Proof.Machine.TxStream) : hull (failStream s a1 a2) = hull s := by
  simp [failStream, hull_mk, hull_ite, forEach_hull, foldl_hull, takeFree_hull]

@[simp] theorem portDown_hull (s : Sys2Proof.Machine.State) (a1 : Nat) : hull (portDown s a1) = hull s := by
  simp [portDown, hull_mk, hull_ite, forEach_hull, foldl_hull, takeFree_hull]

@[simp] theorem tellPeer_hull (s : Sys2Proof.Machine.State) (a1 : Nat) (a2 : Nat) (a3 : Nat) (a4 : List Sys2Proof.Byte) : hull (tellPeer s a1 a2 a3 a4) = hull s := by
  unfold tellPeer
  (repeat' split) <;> simp [hull_mk, hull_ite, forEach_hull, foldl_hull, takeFree_hull]

@[simp] theorem startKeying_hull (s : Sys2Proof.Machine.State) (a1 : Nat) (a2 : Nat) : hull (startKeying s a1 a2) = hull s := by
  simp [startKeying, hull_mk, hull_ite, forEach_hull, foldl_hull, takeFree_hull]

@[simp] theorem tellParts_hull (s : Sys2Proof.Machine.State) (a1 : Nat) : hull (tellParts s a1) = hull s := by
  simp [tellParts, hull_mk, hull_ite, forEach_hull, foldl_hull, takeFree_hull]

theorem takeFrag_hull (s : State) (p n i : Nat) (f : FabPkt) (act : State → Nat → Nat → List Byte → State)
    (h : ∀ s n i b, hull (act s n i b) = hull s) : hull (takeFrag s p n i f act) = hull s := by
  unfold takeFrag
  dsimp only
  split
  · simp
  · split
    · rw [h]; simp
    · simp

@[simp] theorem restartStreams_hull (s : State) (n i : Nat) : hull (restartStreams s n i) = hull s := by
  unfold restartStreams
  rw [forEach_hull]
  · simp [hull_mk]
  · intro s p
    dsimp only
    rw [forEach_hull]
    · simp
    · intro s t
      exact forEach_hull _ _ _ (by simp)

@[simp] theorem wakeKeyWait_hull (s : Sys2Proof.Machine.State) (a1 : Nat) (a2 : Nat) : hull (wakeKeyWait s a1 a2) = hull s := by
  simp [wakeKeyWait, hull_mk, hull_ite, forEach_hull, foldl_hull, takeFree_hull]

@[simp] theorem renewRx_hull (s : Sys2Proof.Machine.State) (a1 : ℕ) : hull (renewRx s a1) = hull s := by
  unfold renewRx
  (repeat' split) <;> simp [hull_mk, hull_ite, forEach_hull, foldl_hull, takeFree_hull]

@[simp] theorem poisonPeer_hull (s : Sys2Proof.Machine.State) (a1 : Nat) (a2 : Option Nat) (a3 : Nat) : hull (poisonPeer s a1 a2 a3) = hull s := by
  simp [poisonPeer, hull_mk, hull_ite, forEach_hull, foldl_hull, takeFree_hull]

@[simp] theorem homeGone_hull (s : Sys2Proof.Machine.State) (a1 : Nat) : hull (homeGone s a1) = hull s := by
  simp [homeGone, hull_mk, hull_ite, forEach_hull, foldl_hull, takeFree_hull]

@[simp] theorem fenceSlot_hull (a0 : ℕ) (s : Sys2Proof.Machine.State) (a2 : ℕ) : hull (fenceSlot a0 s a2) = hull s := by
  unfold fenceSlot
  (repeat' split) <;> simp [hull_mk, hull_ite, forEach_hull, foldl_hull, takeFree_hull]

@[simp] theorem fenceCtx_hull (s : Sys2Proof.Machine.State) (a1 : Nat) : hull (fenceCtx s a1) = hull s := by
  simp [fenceCtx, hull_mk, hull_ite, forEach_hull, foldl_hull, takeFree_hull]

@[simp] theorem restartDrained_hull (s : Sys2Proof.Machine.State) (a1 : Nat) : hull (restartDrained s a1) = hull s := by
  simp [restartDrained, hull_mk, hull_ite, forEach_hull, foldl_hull, takeFree_hull]

@[simp] theorem dropMember_hull (s : Sys2Proof.Machine.State) (a1 : Nat) (a2 : Nat) : hull (dropMember s a1 a2) = hull s := by
  simp [dropMember, hull_mk, hull_ite, forEach_hull, foldl_hull, takeFree_hull]

@[simp] theorem resendHeld_hull (s : Sys2Proof.Machine.State) (a1 : Nat) : hull (resendHeld s a1) = hull s := by
  simp [resendHeld, hull_mk, hull_ite, forEach_hull, foldl_hull, takeFree_hull]

@[simp] theorem adoptMember_hull (n : Nat) (r : MembRecord) (z : State × Bool) (m : Member) :
    hull (adoptMember n r z m).1 = hull z.1 := by
  unfold adoptMember
  dsimp only
  split
  · rfl
  · split
    · simp [forEach_hull]
    · split
      · rfl
      · simp

theorem adoptAll_hull (n : Nat) (r : MembRecord) (l : List Member) (z : State × Bool) :
    hull (l.foldl (adoptMember n r) z).1 = hull z.1 := by
  induction l generalizing z with
  | nil => rfl
  | cons m l ih => exact (ih _).trans (adoptMember_hull n r z m)

@[simp] theorem adoptRecord_hull (s : State) (n : Nat) (r : MembRecord) : hull (adoptRecord s n r) = hull s := by
  unfold adoptRecord
  simp [hull_ite, adoptAll_hull, forEach_hull]

@[simp] theorem judgeRecord_hull (s : Sys2Proof.Machine.State) (a1 : ℕ) (a2 : Sys2Proof.Machine.MembRecord) (a3 : Bool) : hull (judgeRecord s a1 a2 a3) = hull s := by
  simp [judgeRecord, hull_mk, hull_ite, forEach_hull, foldl_hull, takeFree_hull]

@[simp] theorem setStation_hull (s : Sys2Proof.Machine.State) (a1 : Nat) (a2 : Nat) (a3 : Nat) (a4 : Sys2Proof.Machine.Layout) (a5 : Sys2Proof.Machine.Station) (a6 : Nat) (a7 : Bool) : hull (setStation s a1 a2 a3 a4 a5 a6 a7) = hull s := by
  simp [setStation, hull_mk, hull_ite, forEach_hull, foldl_hull, takeFree_hull]

@[simp] theorem clearPlaces_hull (s : Sys2Proof.Machine.State) (a1 : List Nat) : hull (clearPlaces s a1) = hull s := by
  simp [clearPlaces, hull_mk, hull_ite, forEach_hull, foldl_hull, takeFree_hull]

@[simp] theorem defineObjs_hull (s : Sys2Proof.Machine.State) (a1 : Nat) (a2 : List Nat) : hull (defineObjs s a1 a2) = hull s := by
  simp [defineObjs, hull_mk, hull_ite, forEach_hull, foldl_hull, takeFree_hull]

@[simp] theorem abortReqs_hull (s : Sys2Proof.Machine.State) (a1 : Nat) (a2 : Nat) : hull (abortReqs s a1 a2) = hull s := by
  unfold abortReqs
  dsimp only
  (repeat' split) <;> simp [hull_mk, hull_ite, forEach_hull, foldl_hull, takeFree_hull]

@[simp] theorem abortReloads_hull (s : State) (n : Nat) : hull (abortReloads s n) = hull s := by
  unfold abortReloads
  dsimp only
  rw [forEach_hull]
  · simp
  · intro s a
    split <;> simp

@[simp] theorem reserveCores_hull (s : Sys2Proof.Machine.State) (a1 : ℕ) (a2 : Sys2Proof.Machine.Layout) (a3 : List (ℕ × ℕ)) : hull (reserveCores s a1 a2 a3) = hull s := by
  unfold reserveCores
  (repeat' split) <;> simp [hull_mk, hull_ite, forEach_hull, foldl_hull, takeFree_hull]

@[simp] theorem installLayout_hull (s : Sys2Proof.Machine.State) (a1 : Nat) (a2 : List Sys2Proof.Byte) (a3 : List (Nat × Nat)) (a4 : Nat) (a5 : Nat) (a6 : Bool) : hull (installLayout s a1 a2 a3 a4 a5 a6) = hull s := by
  simp [installLayout, hull_mk, hull_ite, forEach_hull, foldl_hull, takeFree_hull]

@[simp] theorem finishUnload_hull (s : Sys2Proof.Machine.State) (a1 : Nat) (a2 : Nat) (a3 : Nat) (a4 : Bool) : hull (finishUnload s a1 a2 a3 a4) = hull s := by
  simp [finishUnload, hull_mk, hull_ite, forEach_hull, foldl_hull, takeFree_hull]

@[simp] theorem finishLoad_hull (s : Sys2Proof.Machine.State) (a1 : Nat) (a2 : Nat) (a3 : Nat) (a4 : Bool) : hull (finishLoad s a1 a2 a3 a4) = hull s := by
  unfold finishLoad
  (repeat' split) <;> simp [hull_mk, hull_ite, forEach_hull, foldl_hull, takeFree_hull]

@[simp] theorem swapIn_hull (s : Sys2Proof.Machine.State) (a1 : ℕ) (a2 : ℕ) (a3 : ℕ) (a4 : Sys2Proof.Machine.Layout) (a5 : Sys2Proof.Machine.Station) : hull (swapIn s a1 a2 a3 a4 a5) = hull s := by
  unfold swapIn
  (repeat' split) <;> simp [hull_mk, hull_ite, forEach_hull, foldl_hull, takeFree_hull]

@[simp] theorem finishSwap_hull (s : State) (n b : Nat) (lost : Bool) : hull (finishSwap s n b lost) = hull s := by
  unfold finishSwap
  split
  · rfl
  · have hs : ∀ (s u : State) (l : List (Nat × Station)) (f : State → Nat × Station → State),
        (∀ s p, hull (f s p) = hull s) → hull u = hull s → hull (forEach l f u) = hull s :=
      fun s u l f h hu => (forEach_hull l f u h).trans hu
    simp only [wakeCtx_hull, hull_ite, basinEvent_hull, ite_self]
    rw [forEach_hull _ _ _ (fun s k => putCore_hull _ _ _), resetChannels_hull]
    apply hs
    · intro s p
      split
      · split <;> simp
      · rfl
    · simp

@[simp] theorem afterDrain_hull (s : Sys2Proof.Machine.State) (a1 : Sys2Proof.Machine.DrainJob) : hull (afterDrain s a1) = hull s := by
  unfold afterDrain
  (repeat' split) <;> simp [hull_mk, hull_ite, forEach_hull, foldl_hull, takeFree_hull]

@[simp] theorem abortDrain_hull (s : Sys2Proof.Machine.State) (a1 : Sys2Proof.Machine.DrainJob) : hull (abortDrain s a1) = hull s := by
  unfold abortDrain
  (repeat' split) <;> simp [hull_mk, hull_ite, forEach_hull, foldl_hull, takeFree_hull]

@[simp] theorem holdBasin_hull (s : Sys2Proof.Machine.State) (a1 : Nat) : hull (holdBasin s a1) = hull s := by
  simp [holdBasin, hull_mk, hull_ite, forEach_hull, foldl_hull, takeFree_hull]

@[simp] theorem clearBasin_hull (s : Sys2Proof.Machine.State) (a1 : Nat) : hull (clearBasin s a1) = hull s := by
  simp [clearBasin, hull_mk, hull_ite, forEach_hull, foldl_hull, takeFree_hull]

@[simp] theorem dropEntries_hull (s : Sys2Proof.Machine.State) (a1 : Nat) : hull (dropEntries s a1) = hull s := by
  simp [dropEntries, hull_mk, hull_ite, forEach_hull, foldl_hull, takeFree_hull]

@[simp] theorem releaseBasins_hull (s : Sys2Proof.Machine.State) (a1 : List Nat) : hull (releaseBasins s a1) = hull s := by
  simp [releaseBasins, hull_mk, hull_ite, forEach_hull, foldl_hull, takeFree_hull]

@[simp] theorem applyNow_hull (s : Sys2Proof.Machine.State) (a1 : Nat) : hull (applyNow s a1) = hull s := by
  simp [applyNow, hull_mk, hull_ite, forEach_hull, foldl_hull, takeFree_hull]

@[simp] theorem nextReset_hull (s : Sys2Proof.Machine.State) : hull (nextReset s) = hull s := by
  unfold nextReset
  (repeat' split) <;> simp [hull_mk, hull_ite, forEach_hull, foldl_hull, takeFree_hull]

@[simp] theorem dropResets_hull (s : Sys2Proof.Machine.State) (a1 : Nat) : hull (dropResets s a1) = hull s := by
  unfold dropResets
  dsimp only
  (repeat' split) <;> simp [hull_mk, hull_ite, forEach_hull, foldl_hull, takeFree_hull]

@[simp] theorem dropWork_hull (s : Sys2Proof.Machine.State) (a1 : Nat) : hull (dropWork s a1) = hull s := by
  simp [dropWork, hull_mk, hull_ite, forEach_hull, foldl_hull, takeFree_hull]

@[simp] theorem teardownCtx_hull (s : Sys2Proof.Machine.State) (a1 : Nat) : hull (teardownCtx s a1) = hull s := by
  unfold teardownCtx
  dsimp only
  (repeat' split) <;> simp [hull_mk, hull_ite, forEach_hull, foldl_hull, takeFree_hull]

@[simp] theorem rekey_hull (s : Sys2Proof.Machine.State) : hull (rekey s) = hull s := by
  simp [rekey, hull_mk, hull_ite, forEach_hull, foldl_hull, takeFree_hull]

@[simp] theorem eraseOwner_hull (s : Sys2Proof.Machine.State) : hull (eraseOwner s) = hull s := by
  simp [eraseOwner, hull_mk, hull_ite, forEach_hull, foldl_hull, takeFree_hull]

@[simp] theorem clearCtx_hull (s : Sys2Proof.Machine.State) (a1 : Nat) : hull (clearCtx s a1) = hull s := by
  simp [clearCtx, hull_mk, hull_ite, forEach_hull, foldl_hull, takeFree_hull]

@[simp] theorem answer_hull (s : Sys2Proof.Machine.State) (a1 : Sys2Proof.Transport) (a2 : Nat) (a3 : List Nat) : hull (answer s a1 a2 a3) = hull s := by
  simp [answer, hull_mk, hull_ite, forEach_hull, foldl_hull, takeFree_hull]

@[simp] theorem answerError_hull (s : Sys2Proof.Machine.State) (a1 : Sys2Proof.Transport) (a2 : Nat) : hull (answerError s a1 a2) = hull s := by
  simp [answerError, hull_mk, hull_ite, forEach_hull, foldl_hull, takeFree_hull]

@[simp] theorem vendor_hull (s : Sys2Proof.Machine.State) (a1 : Sys2Proof.Transport) (a2 : Nat) (a3 : Nat) (a4 : List Nat) : hull (vendor s a1 a2 a3 a4) = hull s := by
  simp [vendor, hull_mk, hull_ite, forEach_hull, foldl_hull, takeFree_hull]

@[simp] theorem useNonce_hull (s : Sys2Proof.Machine.State) (a1 : Sys2Proof.Token) : hull (useNonce s a1) = hull s := by
  simp [useNonce, hull_mk, hull_ite, forEach_hull, foldl_hull, takeFree_hull]

@[simp] theorem startPush_hull (s : Sys2Proof.Machine.State) (a1 : Bool) (a2 : Option Sys2Proof.FwImage) (a3 : Bool) : hull (startPush s a1 a2 a3) = hull s := by
  simp [startPush, hull_mk, hull_ite, forEach_hull, foldl_hull, takeFree_hull]

@[simp] theorem startCmd_hull (s : Sys2Proof.Machine.State) (a1 : Nat) (a2 : Sys2Proof.Machine.HCmd) : hull (startCmd s a1 a2) = hull s := by
  simp [startCmd, hull_mk, hull_ite, forEach_hull, foldl_hull, takeFree_hull]

@[simp] theorem endCmd_hull (s : Sys2Proof.Machine.State) (a1 : Nat) (a2 : Sys2Proof.Machine.HCmd) (a3 : Nat) (a4 : Nat) (a5 : Nat) : hull (endCmd s a1 a2 a3 a4 a5) = hull s := by
  simp [endCmd, hull_mk, hull_ite, forEach_hull, foldl_hull, takeFree_hull]

@[simp] theorem failCmd_hull (s : Sys2Proof.Machine.State) (a1 : Nat) (a2 : Sys2Proof.Machine.HCmd) (a3 : Nat) : hull (failCmd s a1 a2 a3) = hull s := by
  simp [failCmd, hull_mk, hull_ite, forEach_hull, foldl_hull, takeFree_hull]

@[simp] theorem endParts_hull (s : Sys2Proof.Machine.State) (a1 : Nat) (a2 : Sys2Proof.Machine.HCmd) (a3 : List (Nat × Nat)) (a4 : Nat) : hull (endParts s a1 a2 a3 a4) = hull s := by
  simp [-takeFree_fst, endParts, hull_mk, hull_ite, forEach_hull, foldl_hull, takeFree_hull]

@[simp] theorem closeRec_hull (s : Sys2Proof.Machine.State) (a1 : Nat) (a2 : Nat) (a3 : List Sys2Proof.Byte) (a4 : Bool) : hull (closeRec s a1 a2 a3 a4) = hull s := by
  simp [closeRec, hull_mk, hull_ite, forEach_hull, foldl_hull, takeFree_hull]

@[simp] theorem sendLate_hull (s : Sys2Proof.Machine.State) (a1 : Nat) (a2 : Bool) : hull (sendLate s a1 a2) = hull s := by
  simp [sendLate, hull_mk, hull_ite, forEach_hull, foldl_hull, takeFree_hull]

@[simp] theorem failParts_hull (s : Sys2Proof.Machine.State) (a1 : Nat) (a2 : Sys2Proof.Machine.HCmd) (a3 : List Nat) (a4 : Nat) : hull (failParts s a1 a2 a3 a4) = hull s := by
  simp [failParts, hull_mk, hull_ite, forEach_hull, foldl_hull, takeFree_hull]

@[simp] theorem stageImageNow_hull (s : Sys2Proof.Machine.State) (a1 : Nat) (a2 : Sys2Proof.Envelope) (a3 : Sys2Proof.Machine.HCmd) : hull (stageImageNow s a1 a2 a3) = hull s := by
  simp [stageImageNow, hull_mk, hull_ite, forEach_hull, foldl_hull, takeFree_hull]

@[simp] theorem putShard_hull (s : Sys2Proof.Machine.State) (a1 : Nat) (a2 : Sys2Proof.Machine.Shard) : hull (putShard s a1 a2) = hull s := by
  simp [putShard, hull_mk, hull_ite, forEach_hull, foldl_hull, takeFree_hull]

@[simp] theorem liftHold_hull (s : Sys2Proof.Machine.State) (a1 : Nat) (a2 : Nat) (a3 : Nat) : hull (liftHold s a1 a2 a3) = hull s := by
  simp [liftHold, hull_mk, hull_ite, forEach_hull, foldl_hull, takeFree_hull]

theorem takeShard_hull (n : Nat) (parts : List Nat) (p : WpkgPiece) (a e : Nat) (h : Shard) (z : Piece) :
    hull (takeShard n parts p a e z h).s = hull z.s := by
  unfold takeShard endShard
  dsimp only
  (repeat' split) <;> simp [forEach_hull]

theorem takePkgHead_hull (s : State) (n len : Nat) (e : Option Envelope) (t : State) (h : takePkgHead s n len e = some t) :
    hull t = hull s := by
  unfold takePkgHead at h
  split at h
  · cases h
  · dsimp only at h
    split at h
    · split at h
      · cases h; rfl
      · cases h; simp
    · cases h

theorem takeShards_hull (n : Nat) (parts : List Nat) (piece : WpkgPiece) (a b : Nat) (l : List Shard) (z : Piece) :
    hull (l.foldl (takeShard n parts piece a b) z).s = hull z.s := by
  induction l generalizing z with
  | nil => rfl
  | cons m l ih => exact (ih _).trans (takeShard_hull n parts piece a b m z)

@[simp] theorem stageWpkgNow_hull (s : State) (n : Nat) (piece : WpkgPiece) (h : HCmd) :
    hull (stageWpkgNow s n piece h) = hull s := by
  unfold stageWpkgNow
  dsimp only
  split
  · simp
  · split
    · simp
    · rename_i s1 he
      have hs : hull s1 = hull s := by
        split at he
        · exact takePkgHead_hull _ _ _ _ _ he
        · cases he; rfl
      split
      · simp [hs]
      · split
        · simp [hs]
        · rw [endParts_hull, takeShards_hull]; exact hs

@[simp] theorem loadNow_hull (s : Sys2Proof.Machine.State) (a1 : Nat) (a2 : Sys2Proof.Machine.HCmd) : hull (loadNow s a1 a2) = hull s := by
  unfold loadNow
  dsimp only
  (repeat' split) <;> simp [hull_mk, hull_ite, forEach_hull, foldl_hull, takeFree_hull]

@[simp] theorem unloadNow_hull (s : Sys2Proof.Machine.State) (a1 : Nat) (a2 : Sys2Proof.Machine.HCmd) : hull (unloadNow s a1 a2) = hull s := by
  unfold unloadNow
  (repeat' split) <;> simp [hull_mk, hull_ite, forEach_hull, foldl_hull, takeFree_hull]

@[simp] theorem stageCmd_hull (s : Sys2Proof.Machine.State) (a1 : Nat) (a2 : Sys2Proof.Machine.HCmd) (a3 : Sys2Proof.Machine.Staged) : hull (stageCmd s a1 a2 a3) = hull s := by
  simp [stageCmd, hull_mk, hull_ite, forEach_hull, foldl_hull, takeFree_hull]

@[simp] theorem placeReq_hull (s : Sys2Proof.Machine.State) (a1 : Nat) (a2 : Sys2Proof.Machine.HCmd) (a3 : Sys2Proof.Machine.Mb) (a4 : Nat) (a5 : Sys2Proof.Machine.Req) : hull (placeReq s a1 a2 a3 a4 a5) = hull s := by
  simp [placeReq, hull_mk, hull_ite, forEach_hull, foldl_hull, takeFree_hull]

@[simp] theorem inferPlace_hull (s : Sys2Proof.Machine.State) (a1 : Nat) (a2 : Sys2Proof.Machine.HCmd) (a3 : Sys2Proof.InferIn) (a4 : Sys2Proof.Machine.Sess) (a5 : Nat) : hull (inferPlace s a1 a2 a3 a4 a5) = hull s := by
  unfold inferPlace
  dsimp only
  (repeat' split) <;> simp [hull_mk, hull_ite, forEach_hull, foldl_hull, takeFree_hull]

@[simp] theorem inferNow_hull (s : Sys2Proof.Machine.State) (a1 : Nat) (a2 : Sys2Proof.InferIn) (a3 : Sys2Proof.Machine.HCmd) : hull (inferNow s a1 a2 a3) = hull s := by
  unfold inferNow
  dsimp only
  (repeat' split) <;> simp [hull_mk, hull_ite, forEach_hull, foldl_hull, takeFree_hull]

@[simp] theorem clearPage_hull (s : Sys2Proof.Machine.State) (a1 : Nat) (a2 : Nat) : hull (clearPage s a1 a2) = hull s := by
  simp [clearPage, hull_mk, hull_ite, forEach_hull, foldl_hull, takeFree_hull]

@[simp] theorem releasePage_hull (s : Sys2Proof.Machine.State) (a1 : Nat) (a2 : Nat) (a3 : Sys2Proof.Machine.Page) : hull (releasePage s a1 a2 a3) = hull s := by
  unfold releasePage
  (repeat' split) <;> simp [hull_mk, hull_ite, forEach_hull, foldl_hull, takeFree_hull]

@[simp] theorem closeSession_hull (s : Sys2Proof.Machine.State) (a1 : Nat) (a2 : Nat) (a3 : Nat) : hull (closeSession s a1 a2 a3) = hull s := by
  unfold closeSession
  dsimp only
  (repeat' split) <;> simp [hull_mk, hull_ite, forEach_hull, foldl_hull, takeFree_hull]

@[simp] theorem writeBanks_hull (s : Sys2Proof.Machine.State) (a1 : Nat) (a2 : Nat) (a3 : Sys2Proof.Tab ℤ) : hull (writeBanks s a1 a2 a3) = hull s := by
  simp [writeBanks, hull_mk, hull_ite, forEach_hull, foldl_hull, takeFree_hull]

@[simp] theorem scaleStep_hull (s : Sys2Proof.Machine.State) (a1 : Nat) (a2 : Nat) (a3 : Sys2Proof.Machine.Layout) : hull (scaleStep s a1 a2 a3) = hull s := by
  simp [scaleStep, hull_mk, hull_ite, forEach_hull, foldl_hull, takeFree_hull]

@[simp] theorem peerEvents_hull (s : Sys2Proof.Machine.State) (a1 : Nat) (a2 : List Nat) : hull (peerEvents s a1 a2) = hull s := by
  simp [peerEvents, hull_mk, hull_ite, forEach_hull, foldl_hull, takeFree_hull]

@[simp] theorem bindStep_hull (s : Sys2Proof.Machine.State) (a1 : Nat) (a2 : Nat) (a3 : Sys2Proof.Machine.Layout) : hull (bindStep s a1 a2 a3) = hull s := by
  simp [bindStep, hull_mk, hull_ite, forEach_hull, foldl_hull, takeFree_hull]

@[simp] theorem portStep_hull (s : Sys2Proof.Machine.State) (a1 : Nat) (a2 : Nat) : hull (portStep s a1 a2) = hull s := by
  simp [portStep, hull_mk, hull_ite, forEach_hull, foldl_hull, takeFree_hull]

@[simp] theorem reconvWarn_hull (s : Sys2Proof.Machine.State) (a1 : ℕ) (a2 : Sys2Proof.Machine.Layout) (a3 : List (ℕ × ℕ)) : hull (reconvWarn s a1 a2 a3) = hull s := by
  simp [reconvWarn, hull_mk, hull_ite, forEach_hull, foldl_hull, takeFree_hull]

@[simp] theorem takeOver_hull (s : Sys2Proof.Machine.State) (a1 : Nat) (a2 : Nat) (a3 : Nat) (a4 : Nat) : hull (takeOver s a1 a2 a3 a4) = hull s := by
  unfold takeOver
  (repeat' split) <;> simp [hull_mk, hull_ite, forEach_hull, foldl_hull, takeFree_hull]

@[simp] theorem commitMove_hull (s : Sys2Proof.Machine.State) (a1 : Nat) (a2 : Nat × Nat × Nat) : hull (commitMove s a1 a2) = hull s := by
  simp [commitMove, hull_mk, hull_ite, forEach_hull, foldl_hull, takeFree_hull]

@[simp] theorem placeStep_hull (s : Sys2Proof.Machine.State) (a1 : Nat) (a2 : Sys2Proof.Machine.Layout) : hull (placeStep s a1 a2) = hull s := by
  simp [placeStep, hull_mk, hull_ite, forEach_hull, foldl_hull, takeFree_hull]

@[simp] theorem openSession_hull (s : Sys2Proof.Machine.State) (a1 : Nat) (a2 : Nat) (a3 : Nat) (a4 : Nat) (a5 : Nat) (a6 : Nat) (a7 : Bool) (a8 : Bool) : hull (openSession s a1 a2 a3 a4 a5 a6 a7 a8) = hull s := by
  unfold openSession
  dsimp only
  (repeat' split) <;> simp [hull_mk, hull_ite, forEach_hull, foldl_hull, takeFree_hull]

@[simp] theorem rebuiltPage_hull (s : Sys2Proof.Machine.State) (a1 : Nat) (a2 : Nat) (a3 : Nat) (a4 : Nat) (a5 : Nat) : hull (rebuiltPage s a1 a2 a3 a4 a5) = hull s := by
  unfold rebuiltPage
  dsimp only
  (repeat' split) <;> simp [hull_mk, hull_ite, forEach_hull, foldl_hull, takeFree_hull]

@[simp] theorem openStep_hull (a0 : Nat) (a1 : Nat) (s : Sys2Proof.Machine.State) (a3 : Sys2Proof.Machine.Staged) : hull (openStep a0 a1 s a3) = hull s := by
  unfold openStep
  (repeat' split) <;> simp [hull_mk, hull_ite, forEach_hull, foldl_hull, takeFree_hull]

@[simp] theorem satReport_hull (s : Sys2Proof.Machine.State) (a1 : Nat) (a2 : Nat) : hull (satReport s a1 a2) = hull s := by
  simp [satReport, hull_mk, hull_ite, forEach_hull, foldl_hull, takeFree_hull]

@[simp] theorem satReports_hull (s : Sys2Proof.Machine.State) (a1 : ℕ) (a2 : ℕ) (a3 : Sys2Proof.Machine.Layout) : hull (satReports s a1 a2 a3) = hull s := by
  unfold satReports
  (repeat' split) <;> simp [hull_mk, hull_ite, forEach_hull, foldl_hull, takeFree_hull]

@[simp] theorem watchReport_hull (s : Sys2Proof.Machine.State) (a1 : Nat) (a2 : Nat) : hull (watchReport s a1 a2) = hull s := by
  simp [watchReport, hull_mk, hull_ite, forEach_hull, foldl_hull, takeFree_hull]

@[simp] theorem stepStep_hull (s : Sys2Proof.Machine.State) (a1 : ℕ) (a2 : ℕ) (a3 : ℕ) (a4 : ℕ) (a5 : Sys2Proof.Machine.Layout) : hull (stepStep s a1 a2 a3 a4 a5) = hull s := by
  simp [stepStep, hull_mk, hull_ite, forEach_hull, foldl_hull, takeFree_hull]

@[simp] theorem stopUnplaceable_hull (s : Sys2Proof.Machine.State) (a1 : Nat) : hull (stopUnplaceable s a1) = hull s := by
  simp [stopUnplaceable, hull_mk, hull_ite, forEach_hull, foldl_hull, takeFree_hull]

@[simp] theorem refuseStart_hull (s : Sys2Proof.Machine.State) (a1 : Nat) (a2 : List Nat) : hull (refuseStart s a1 a2) = hull s := by
  unfold refuseStart
  dsimp only
  (repeat' split) <;> simp [hull_mk, hull_ite, forEach_hull, foldl_hull, takeFree_hull]

@[simp] theorem writeInputs_hull (s : Sys2Proof.Machine.State) (a1 : Nat) (a2 : Sys2Proof.Machine.Layout) (a3 : Sys2Proof.Machine.Mb) : hull (writeInputs s a1 a2 a3) = hull s := by
  simp [writeInputs, hull_mk, hull_ite, forEach_hull, foldl_hull, takeFree_hull]

@[simp] theorem admitMb_hull (s : Sys2Proof.Machine.State) (a1 : Nat) (a2 : Sys2Proof.Machine.Layout) : hull (admitMb s a1 a2) = hull s := by
  simp [admitMb, hull_mk, hull_ite, forEach_hull, foldl_hull, takeFree_hull]

theorem openBoundary_hull (s : State) (n cause t0 : Nat) (l : Layout) : hull (openBoundary s n cause t0 l).1 = hull s := by
  unfold openBoundary
  dsimp only
  split
  · simp
  · have ho : ∀ s : State, hull (((ctxAt s n).due).foldl (openStep n (nextStep (ctxAt s n))) s) = hull s := by
      intro s
      exact foldl_hull _ _ _ (by intro s a; simp)
    have ho' : ∀ (s : State) (m : Nat) (l : List Staged), hull (l.foldl (openStep n m) s) = hull s :=
      fun s m l => foldl_hull _ _ _ (by intro s a; simp)
    simp [apply_ite Prod.fst, hull_ite, ho', forEach_hull]

@[simp] theorem runBoundary_hull (s : State) (n cause t0 : Nat) (l : Layout) : hull (runBoundary s n cause t0 l) = hull s := by
  unfold runBoundary
  split
  · rfl
  · dsimp only
    split <;> simp [openBoundary_hull]

@[simp] theorem admitNow_hull (s : Sys2Proof.Machine.State) (a1 : Nat) (a2 : Sys2Proof.Machine.Layout) : hull (admitNow s a1 a2) = hull s := by
  unfold admitNow
  dsimp only
  (repeat' split) <;> simp [hull_mk, hull_ite, forEach_hull, foldl_hull, takeFree_hull]

@[simp] theorem answerReq_hull (a0 : Sys2Proof.Machine.Layout) (a1 : Nat) (a2 : Nat) (a3 : List Nat) (s : Sys2Proof.Machine.State) (a5 : Sys2Proof.Machine.Req) : hull (answerReq a0 a1 a2 a3 s a5) = hull s := by
  unfold answerReq
  (repeat' split) <;> simp [hull_mk, hull_ite, forEach_hull, foldl_hull, takeFree_hull]

@[simp] theorem dropReport_hull (s : Sys2Proof.Machine.State) (a1 : Nat) (a2 : Nat) (a3 : List Nat) : hull (dropReport s a1 a2 a3) = hull s := by
  simp [dropReport, hull_mk, hull_ite, forEach_hull, foldl_hull, takeFree_hull]

@[simp] theorem completeMb_hull (s : Sys2Proof.Machine.State) (a1 : Nat) (a2 : Sys2Proof.Machine.Layout) (a3 : Sys2Proof.Machine.Mb) : hull (completeMb s a1 a2 a3) = hull s := by
  simp [completeMb, hull_mk, hull_ite, forEach_hull, foldl_hull, takeFree_hull]

@[simp] theorem closeStep_hull (s : Sys2Proof.Machine.State) (a1 : Nat) (a2 : Sys2Proof.Machine.Layout) (a3 : Nat) : hull (closeStep s a1 a2 a3) = hull s := by
  simp [closeStep, hull_mk, hull_ite, forEach_hull, foldl_hull, takeFree_hull]

@[simp] theorem noticeTo_hull (s : Sys2Proof.Machine.State) (a1 : Nat) (a2 : Nat) (a3 : Nat) (a4 : List (List Sys2Proof.Byte)) : hull (noticeTo s a1 a2 a3 a4) = hull s := by
  simp [noticeTo, hull_mk, hull_ite, forEach_hull, foldl_hull, takeFree_hull]

@[simp] theorem noticeFor_hull (s : Sys2Proof.Machine.State) (a1 : Nat) (a2 : Nat) (a3 : Nat) : hull (noticeFor s a1 a2 a3) = hull s := by
  simp [noticeFor, hull_mk, hull_ite, forEach_hull, foldl_hull, takeFree_hull]

@[simp] theorem retireCore_hull (s : Sys2Proof.Machine.State) (a1 : Nat) (a2 : Nat) (a3 : Option (Nat × Nat × Nat × Bool × Nat)) : hull (retireCore s a1 a2 a3) = hull s := by
  simp [retireCore, hull_mk, hull_ite, forEach_hull, foldl_hull, takeFree_hull]

@[simp] theorem dropCheck_hull (s : Sys2Proof.Machine.State) (a1 : Sys2Proof.Machine.Check) : hull (dropCheck s a1) = hull s := by
  unfold dropCheck
  (repeat' split) <;> simp [hull_mk, hull_ite, forEach_hull, foldl_hull, takeFree_hull]

@[simp] theorem abandonCheck_hull (s : Sys2Proof.Machine.State) (a1 : Sys2Proof.Machine.Check) : hull (abandonCheck s a1) = hull s := by
  simp [abandonCheck, hull_mk, hull_ite, forEach_hull, foldl_hull, takeFree_hull]

@[simp] theorem putPath_hull (s : Sys2Proof.Machine.State) (a1 : Sys2Proof.Machine.DiePath) (a2 : Option Sys2Proof.Machine.DiePath) : hull (putPath s a1 a2) = hull s := by
  simp [putPath, hull_mk, hull_ite, forEach_hull, foldl_hull, takeFree_hull]

@[simp] theorem withdrawMove_hull (s : Sys2Proof.Machine.State) (a1 : Nat × Nat × Nat) : hull (withdrawMove s a1) = hull s := by
  simp [withdrawMove, hull_mk, hull_ite, forEach_hull, foldl_hull, takeFree_hull]

@[simp] theorem withdrawTests_hull (s : Sys2Proof.Machine.State) (a1 : Nat) : hull (withdrawTests s a1) = hull s := by
  simp [withdrawTests, hull_mk, hull_ite, forEach_hull, foldl_hull, takeFree_hull]

@[simp] theorem stopTest_hull (s : Sys2Proof.Machine.State) (a1 : Sys2Proof.Machine.DiePath) (a2 : Bool) : hull (stopTest s a1 a2) = hull s := by
  unfold stopTest
  dsimp only
  (repeat' split) <;> simp [hull_mk, hull_ite, forEach_hull, foldl_hull, takeFree_hull]

@[simp] theorem beginPath_hull (s : Sys2Proof.Machine.State) (a1 : Sys2Proof.Machine.DiePath) : hull (beginPath s a1) = hull s := by
  unfold beginPath
  (repeat' split) <;> simp [hull_mk, hull_ite, forEach_hull, foldl_hull, takeFree_hull]

@[simp] theorem startPath_hull (s : Sys2Proof.Machine.State) (a1 : Nat) (a2 : Option Nat) (a3 : Nat) (a4 : Option Nat) (a5 : Option (Nat × Nat × Nat × Bool × Nat)) : hull (startPath s a1 a2 a3 a4 a5) = hull s := by
  simp [startPath, hull_mk, hull_ite, forEach_hull, foldl_hull, takeFree_hull]

@[simp] theorem dieSuspect_hull (s : Sys2Proof.Machine.State) (a1 : Nat) (a2 : Nat) (a3 : Option Nat) : hull (dieSuspect s a1 a2 a3) = hull s := by
  simp [dieSuspect, hull_mk, hull_ite, forEach_hull, foldl_hull, takeFree_hull]

@[simp] theorem fenceStation_hull (s : Sys2Proof.Machine.State) (a1 : Nat) : hull (fenceStation s a1) = hull s := by
  simp [fenceStation, hull_mk, hull_ite, forEach_hull, foldl_hull, takeFree_hull]

@[simp] theorem openMove_hull (s : Sys2Proof.Machine.State) (a1 : Nat) (a2 : Bool) (a3 : Nat × Nat × Nat) : hull (openMove s a1 a2 a3) = hull s := by
  simp [openMove, hull_mk, hull_ite, forEach_hull, foldl_hull, takeFree_hull]

@[simp] theorem fencePath_hull (s : State) (p : DiePath) (carry : Bool) : hull (fencePath s p carry) = hull s := by
  have h0 : hull (match p.wrong with
      | none => s
      | some k => noticeFor s k p.reason (b2n carry)) = hull s := by split <;> simp
  have h3 : ∀ (s0 : State) (ks : List Nat) (ms : List (Nat × Nat × Nat)) (n : Nat) (x : State → Die),
      hull (putDie (forEach ms (fun s m => openMove s n carry m) (forEach ks fenceStation (putPath s0 p none))) p.die
        (x (forEach ms (fun s m => openMove s n carry m) (forEach ks fenceStation (putPath s0 p none))))) = hull s0 := by
    intro s0 ks ms n x
    rw [putDie_hull, forEach_hull _ _ _ (fun s m => openMove_hull _ _ _ _), forEach_hull _ _ _ (fun s m => fenceStation_hull _ _),
      putPath_hull]
  unfold fencePath
  dsimp only
  (repeat' split) <;> simp [hull_mk, forEach_hull, h0]

@[simp] theorem closePath_hull (s : Sys2Proof.Machine.State) (a1 : Sys2Proof.Machine.DiePath) : hull (closePath s a1) = hull s := by
  unfold closePath
  (repeat' split) <;> simp [hull_mk, hull_ite, forEach_hull, foldl_hull, takeFree_hull]

@[simp] theorem settlePath_hull (s : Sys2Proof.Machine.State) (a1 : Sys2Proof.Machine.DiePath) : hull (settlePath s a1) = hull s := by
  unfold settlePath
  (repeat' split) <;> simp [hull_mk, hull_ite, forEach_hull, foldl_hull, takeFree_hull]

@[simp] theorem carryLost_hull (s : Sys2Proof.Machine.State) (a1 : Nat) (a2 : Nat) : hull (carryLost s a1 a2) = hull s := by
  simp [carryLost, hull_mk, hull_ite, forEach_hull, foldl_hull, takeFree_hull]

@[simp] theorem movedRefills_hull (s : Sys2Proof.Machine.State) (a1 : Nat) (a2 : Nat) (a3 : Nat) : hull (movedRefills s a1 a2 a3) = hull s := by
  simp [movedRefills, hull_mk, hull_ite, forEach_hull, foldl_hull, takeFree_hull]

@[simp] theorem landMove_hull (s : Sys2Proof.Machine.State) (a1 : Nat) (a2 : Sys2Proof.Machine.Move) : hull (landMove s a1 a2) = hull s := by
  simp [landMove, hull_mk, hull_ite, forEach_hull, foldl_hull, takeFree_hull]

@[simp] theorem resumePath_hull (s : Sys2Proof.Machine.State) (a1 : Sys2Proof.Machine.DiePath) : hull (resumePath s a1) = hull s := by
  unfold resumePath
  (repeat' split) <;> simp [hull_mk, hull_ite, forEach_hull, foldl_hull, takeFree_hull]

@[simp] theorem requiesce_hull (s : Sys2Proof.Machine.State) (a1 : Sys2Proof.Machine.DiePath) (a2 : Bool) : hull (requiesce s a1 a2) = hull s := by
  simp [requiesce, hull_mk, hull_ite, forEach_hull, foldl_hull, takeFree_hull]

@[simp] theorem startTest_hull (s : Sys2Proof.Machine.State) (a1 : Nat) : hull (startTest s a1) = hull s := by
  simp [startTest, hull_mk, hull_ite, forEach_hull, foldl_hull, takeFree_hull]

@[simp] theorem freeForTest_hull (s : Sys2Proof.Machine.State) (a1 : Nat) : hull (freeForTest s a1) = hull s := by
  simp [freeForTest, hull_mk, hull_ite, forEach_hull, foldl_hull, takeFree_hull]

@[simp] theorem stageMove_hull (s : Sys2Proof.Machine.State) (a1 : Nat) (a2 : Nat) (a3 : Nat) (a4 : Nat) : hull (stageMove s a1 a2 a3 a4) = hull s := by
  simp [stageMove, hull_mk, hull_ite, forEach_hull, foldl_hull, takeFree_hull]

@[simp] theorem sweepCore_hull (s : Sys2Proof.Machine.State) (a1 : Nat) (a2 : Nat) (a3 : Nat) : hull (sweepCore s a1 a2 a3) = hull s := by
  unfold sweepCore
  dsimp only
  (repeat' split) <;> simp [hull_mk, hull_ite, forEach_hull, foldl_hull, takeFree_hull]

@[simp] theorem retireSuspect_hull (s : Sys2Proof.Machine.State) (a1 : Nat) : hull (retireSuspect s a1) = hull s := by
  simp [retireSuspect, hull_mk, hull_ite, forEach_hull, foldl_hull, takeFree_hull]

@[simp] theorem prioCore_hull (s : Sys2Proof.Machine.State) (a1 : Nat) : hull (prioCore s a1) = hull s := by
  unfold prioCore
  dsimp only
  (repeat' split) <;> simp [hull_mk, hull_ite, forEach_hull, foldl_hull, takeFree_hull]

@[simp] theorem disagreeEvent_hull (s : Sys2Proof.Machine.State) (a1 : Sys2Proof.Machine.Check) (a2 : Nat) : hull (disagreeEvent s a1 a2) = hull s := by
  simp [disagreeEvent, hull_mk, hull_ite, forEach_hull, foldl_hull, takeFree_hull]

@[simp] theorem checkClean_hull (s : Sys2Proof.Machine.State) (a1 : Sys2Proof.Machine.Check) : hull (checkClean s a1) = hull s := by
  simp [checkClean, hull_mk, hull_ite, forEach_hull, foldl_hull, takeFree_hull]

@[simp] theorem startReplay_hull (s : Sys2Proof.Machine.State) (a1 : Sys2Proof.Machine.Check) (a2 : Sys2Proof.Machine.CheckLog) (a3 : ℕ) : hull (startReplay s a1 a2 a3) = hull s := by
  unfold startReplay
  dsimp only
  (repeat' split) <;> (try simp [hull_mk, hull_ite, forEach_hull, foldl_hull, takeFree_hull]) <;> (repeat' split) <;>
    (try simp [hull_mk, hull_ite, forEach_hull, foldl_hull, takeFree_hull])

@[simp] theorem checkDiffers_hull (s : Sys2Proof.Machine.State) (a1 : Sys2Proof.Machine.Check) : hull (checkDiffers s a1) = hull s := by
  unfold checkDiffers
  dsimp only
  (repeat' split) <;> simp [hull_mk, hull_ite, forEach_hull, foldl_hull, takeFree_hull]

@[simp] theorem pageBad_hull (s : Sys2Proof.Machine.State) (a1 : Nat) (a2 : Nat) : hull (pageBad s a1 a2) = hull s := by
  simp [pageBad, hull_mk, hull_ite, forEach_hull, foldl_hull, takeFree_hull]

@[simp] theorem inputsSuspect_hull (s : Sys2Proof.Machine.State) (a1 : Sys2Proof.Machine.Check) : hull (inputsSuspect s a1) = hull s := by
  simp [inputsSuspect, hull_mk, hull_ite, forEach_hull, foldl_hull, takeFree_hull]

@[simp] theorem failProof_hull (s : Sys2Proof.Machine.State) (a1 : Nat) : hull (failProof s a1) = hull s := by
  simp [failProof, hull_mk, hull_ite, forEach_hull, foldl_hull, takeFree_hull]

@[simp] theorem stationWrong_hull (s : Sys2Proof.Machine.State) (a1 : Sys2Proof.Machine.Check) : hull (stationWrong s a1) = hull s := by
  simp [stationWrong, hull_mk, hull_ite, forEach_hull, foldl_hull, takeFree_hull]

@[simp] theorem decideCheck_hull (s : Sys2Proof.Machine.State) (a1 : Sys2Proof.Machine.Check) (a2 : Sys2Proof.ThirdEq) : hull (decideCheck s a1 a2) = hull s := by
  unfold decideCheck
  (repeat' split) <;> simp [hull_mk, hull_ite, forEach_hull, foldl_hull, takeFree_hull]

@[simp] theorem retireTarget_hull (s : Sys2Proof.Machine.State) (a1 : Nat) (a2 : Sys2Proof.Machine.HCmd) (a3 : Nat) : hull (retireTarget s a1 a2 a3) = hull s := by
  unfold retireTarget
  dsimp only
  (repeat' split) <;> simp [hull_mk, hull_ite, forEach_hull, foldl_hull, takeFree_hull]

@[simp] theorem retireFenced_hull (s : Sys2Proof.Machine.State) (a1 : Sys2Proof.Machine.LJob) : hull (retireFenced s a1) = hull s := by
  simp [retireFenced, hull_mk, hull_ite, forEach_hull, foldl_hull, takeFree_hull]

@[simp] theorem countRetire_hull (s : Sys2Proof.Machine.State) (a1 : Sys2Proof.Machine.LJob) : hull (countRetire s a1) = hull s := by
  simp [countRetire, hull_mk, hull_ite, forEach_hull, foldl_hull, takeFree_hull]

@[simp] theorem dropDrains_hull (s : Sys2Proof.Machine.State) (a1 : Nat) : hull (dropDrains s a1) = hull s := by
  simp [dropDrains, hull_mk, hull_ite, forEach_hull, foldl_hull, takeFree_hull]

@[simp] theorem dropPath_hull (s : Sys2Proof.Machine.State) (a1 : Sys2Proof.Machine.DiePath) : hull (dropPath s a1) = hull s := by
  simp [dropPath, hull_mk, hull_ite, forEach_hull, foldl_hull, takeFree_hull]

@[simp] theorem dropMove_hull (s : Sys2Proof.Machine.State) (a1 : Sys2Proof.Machine.Move) : hull (dropMove s a1) = hull s := by
  simp [dropMove, hull_mk, hull_ite, forEach_hull, foldl_hull, takeFree_hull]

@[simp] theorem dropTakes_hull (s : State) (n : Nat) (set : List Nat) : hull (dropTakes s n set) = hull s := by
  unfold dropTakes
  dsimp only
  rw [forEach_hull]
  · simp [forEach_hull]
  · intro s w
    split
    · rfl
    · split <;> simp

@[simp] theorem stopSet_hull (s : Sys2Proof.Machine.State) (a1 : Sys2Proof.Machine.Reset) : hull (stopSet s a1) = hull s := by
  simp [stopSet, hull_mk, hull_ite, forEach_hull, foldl_hull, takeFree_hull]

@[simp] theorem loseRequests_hull (s : Sys2Proof.Machine.State) (a1 : ℕ) : hull (loseRequests s a1) = hull s := by
  unfold loseRequests
  (repeat' split) <;> simp [hull_mk, hull_ite, forEach_hull, foldl_hull, takeFree_hull]

@[simp] theorem clearSet_hull (a0 : Nat) (s : Sys2Proof.Machine.State) (a2 : Nat) : hull (clearSet a0 s a2) = hull s := by
  simp [clearSet, hull_mk, hull_ite, forEach_hull, foldl_hull, takeFree_hull]

@[simp] theorem placeLost_hull (a0 : Nat) (s : Sys2Proof.Machine.State) (a2 : Nat) : hull (placeLost a0 s a2) = hull s := by
  unfold placeLost
  dsimp only
  (repeat' split) <;> simp [hull_mk, hull_ite, forEach_hull, foldl_hull, takeFree_hull]

@[simp] theorem restartLayout_hull (s : Sys2Proof.Machine.State) (a1 : Nat) (a2 : Nat) (a3 : List Nat) (a4 : Sys2Proof.Machine.Layout) : hull (restartLayout s a1 a2 a3 a4) = hull s := by
  simp [restartLayout, hull_mk, hull_ite, forEach_hull, foldl_hull, takeFree_hull]

@[simp] theorem readyDumps_hull (s : Sys2Proof.Machine.State) (a1 : Sys2Proof.Machine.Reset) (a2 : Nat) (a3 : Nat) (a4 : List Nat) : hull (readyDumps s a1 a2 a3 a4) = hull s := by
  simp [readyDumps, hull_mk, hull_ite, forEach_hull, foldl_hull, takeFree_hull]

@[simp] theorem holdLayout_hull (s : Sys2Proof.Machine.State) (a1 : Nat) (a2 : Nat) (a3 : List Nat) : hull (holdLayout s a1 a2 a3) = hull s := by
  simp [holdLayout, hull_mk, hull_ite, forEach_hull, foldl_hull, takeFree_hull]

@[simp] theorem finishReset_hull (s : Sys2Proof.Machine.State) (a1 : Sys2Proof.Machine.Reset) : hull (finishReset s a1) = hull s := by
  unfold finishReset
  dsimp only
  (repeat' split) <;> simp [hull_mk, hull_ite, forEach_hull, foldl_hull, takeFree_hull]

@[simp] theorem voteReg_hull (s : Sys2Proof.Machine.State) (a1 : Nat) : hull (voteReg s a1) = hull s := by
  unfold voteReg
  (repeat' split) <;> simp [hull_mk, hull_ite, forEach_hull, foldl_hull, takeFree_hull]

theorem withSite_hull (s : State) (f : Nat → State) (h : ∀ k, hull (f k) = hull s) : hull (withSite s f) = hull s := by
  unfold withSite
  split
  · rfl
  · split
    · rfl
    · exact h _

@[simp] theorem siteSnap_hull (s : Sys2Proof.Machine.State) (a1 : Nat) (a2 : Nat) (a3 : Nat) : hull (siteSnap s a1 a2 a3) = hull s := by
  simp [siteSnap, hull_mk, hull_ite, forEach_hull, foldl_hull, takeFree_hull]

@[simp] theorem snapCore_hull (s : State) (a1 a2 : Nat) : hull (snapCore s a1 a2) = hull s := by
  unfold snapCore
  apply withSite_hull
  simp

@[simp] theorem siteSnapChannels_hull (s : Sys2Proof.Machine.State) (a1 : Nat) : hull (siteSnapChannels s a1) = hull s := by
  simp [siteSnapChannels, hull_mk, hull_ite, forEach_hull, foldl_hull, takeFree_hull]

@[simp] theorem snapChannels_hull (s : State) : hull (snapChannels s) = hull s := by
  unfold snapChannels
  apply withSite_hull
  simp

@[simp] theorem siteSnapRouter_hull (s : Sys2Proof.Machine.State) (a1 : Nat) : hull (siteSnapRouter s a1) = hull s := by
  simp [siteSnapRouter, hull_mk, hull_ite, forEach_hull, foldl_hull, takeFree_hull]

@[simp] theorem snapRouter_hull (s : State) : hull (snapRouter s) = hull s := by
  unfold snapRouter
  apply withSite_hull
  simp

@[simp] theorem snapHbm_hull (s : Sys2Proof.Machine.State) (a1 : Nat) : hull (snapHbm s a1) = hull s := by
  simp [snapHbm, hull_mk, hull_ite, forEach_hull, foldl_hull, takeFree_hull]

@[simp] theorem snapPorts_hull (s : Sys2Proof.Machine.State) : hull (snapPorts s) = hull s := by
  simp [snapPorts, hull_mk, hull_ite, forEach_hull, foldl_hull, takeFree_hull]

@[simp] theorem snapTst_hull (s : Sys2Proof.Machine.State) : hull (snapTst s) = hull s := by
  simp [snapTst, hull_mk, hull_ite, forEach_hull, foldl_hull, takeFree_hull]

@[simp] theorem applyMesh_hull (s : Sys2Proof.Machine.State) : hull (applyMesh s) = hull s := by
  simp [applyMesh, hull_mk, hull_ite, forEach_hull, foldl_hull, takeFree_hull]

@[simp] theorem writeWdog_hull (s : Sys2Proof.Machine.State) (a1 : Nat) (a2 : Nat) : hull (writeWdog s a1 a2) = hull s := by
  simp [writeWdog, hull_mk, hull_ite, forEach_hull, foldl_hull, takeFree_hull]

@[simp] theorem windowWrite_hull (s : State) (o : Nat) : hull (windowWrite s o) = hull s := by
  unfold windowWrite
  split <;> simp [withSite_hull]

@[simp] theorem windowRead_hull (s : Sys2Proof.Machine.State) (a1 : Nat) (a2 : Bool) : hull (windowRead s a1 a2) = hull s := by
  simp [windowRead, hull_mk, hull_ite, forEach_hull, foldl_hull, takeFree_hull]

@[simp] theorem countStart_hull (s : Sys2Proof.Machine.State) (a1 : Nat) : hull (countStart s a1) = hull s := by
  simp [countStart, hull_mk, hull_ite, forEach_hull, foldl_hull, takeFree_hull]

@[simp] theorem nodeWrite_hull (s : Sys2Proof.Machine.State) (a1 : ℕ) (a2 : ℕ) (a3 : List Sys2Proof.W64) : hull (nodeWrite s a1 a2 a3) = hull s := by
  unfold nodeWrite
  (repeat' split) <;> simp [hull_mk, hull_ite, forEach_hull, foldl_hull, takeFree_hull]

@[simp] theorem nodeAccess_hull (s : Sys2Proof.Machine.State) (a1 : ℕ) (a2 : ℕ) (a3 : ℕ) (a4 : List Sys2Proof.W64) : hull (nodeAccess s a1 a2 a3 a4) = hull s := by
  unfold nodeAccess
  (repeat' split) <;> simp [hull_mk, hull_ite, forEach_hull, foldl_hull, takeFree_hull]

@[simp] theorem writeGlb_hull (s : Sys2Proof.Machine.State) (a1 : Nat) (a2 : Nat) (a3 : Nat) : hull (writeGlb s a1 a2 a3) = hull s := by
  unfold writeGlb
  (repeat' split) <;> simp [hull_mk, hull_ite, forEach_hull, foldl_hull, takeFree_hull]

@[simp] theorem writeSec_hull (s : Sys2Proof.Machine.State) (a1 : ℕ) (a2 : ℕ) (a3 : ℕ) (a4 : Sys2Proof.PushIn) : hull (writeSec s a1 a2 a3 a4) = hull s := by
  unfold writeSec
  (repeat' split) <;> simp [hull_mk, hull_ite, forEach_hull, foldl_hull, takeFree_hull]

@[simp] theorem writeTst_hull (s : Sys2Proof.Machine.State) (a1 : Nat) (a2 : Nat) (a3 : Nat) : hull (writeTst s a1 a2 a3) = hull s := by
  unfold writeTst
  (repeat' split) <;> simp [hull_mk, hull_ite, forEach_hull, foldl_hull, takeFree_hull]

@[simp] theorem writeCtrl_hull (s : Sys2Proof.Machine.State) (a1 : Nat) (a2 : Nat) (a3 : Nat) : hull (writeCtrl s a1 a2 a3) = hull s := by
  simp [writeCtrl, hull_mk, hull_ite, forEach_hull, foldl_hull, takeFree_hull]

@[simp] theorem writeHst_hull (s : Sys2Proof.Machine.State) (a1 : Nat) (a2 : Nat) (a3 : Nat) (a4 : Nat) : hull (writeHst s a1 a2 a3 a4) = hull s := by
  unfold writeHst
  (repeat' split) <;> simp [hull_mk, hull_ite, forEach_hull, foldl_hull, takeFree_hull]

@[simp] theorem writeBsn_hull (s : Sys2Proof.Machine.State) (a1 : Nat) (a2 : Nat) (a3 : Nat) : hull (writeBsn s a1 a2 a3) = hull s := by
  unfold writeBsn
  (repeat' split) <;> simp [hull_mk, hull_ite, forEach_hull, foldl_hull, takeFree_hull]

@[simp] theorem writeMesh_hull (s : Sys2Proof.Machine.State) (a1 : Nat) (a2 : Nat) (a3 : Nat) : hull (writeMesh s a1 a2 a3) = hull s := by
  unfold writeMesh
  (repeat' split) <;> simp [hull_mk, hull_ite, forEach_hull, foldl_hull, takeFree_hull]

@[simp] theorem writeHbm_hull (s : Sys2Proof.Machine.State) (a1 : Nat) (a2 : Nat) (a3 : Nat) (a4 : Nat) : hull (writeHbm s a1 a2 a3 a4) = hull s := by
  unfold writeHbm
  (repeat' split) <;> simp [hull_mk, hull_ite, forEach_hull, foldl_hull, takeFree_hull]

@[simp] theorem takeWrite_hull (s : Sys2Proof.Machine.State) (a1 : ℕ) (a2 : ℕ) (a3 : ℕ) (a4 : Sys2Proof.PushIn) : hull (takeWrite s a1 a2 a3 a4) = hull s := by
  unfold takeWrite
  (repeat' split) <;> simp [withSite_hull]

@[simp] theorem stopPush_hull (s : Sys2Proof.Machine.State) : hull (stopPush s) = hull s := by
  unfold stopPush
  (repeat' split) <;> simp [-takeFree_fst, hull_mk, hull_ite, forEach_hull, foldl_hull, takeFree_hull]

@[simp] theorem setThrottle_hull (s : Sys2Proof.Machine.State) (a1 : Nat) (a2 : Sys2Proof.Machine.Die) : hull (setThrottle s a1 a2) = hull s := by
  simp [setThrottle, hull_mk, hull_ite, forEach_hull, foldl_hull, takeFree_hull]

@[simp] theorem applySetting_hull (s : Sys2Proof.Machine.State) (a1 : Nat × Nat) : hull (applySetting s a1) = hull s := by
  unfold applySetting
  (repeat' split) <;> simp [hull_mk, hull_ite, forEach_hull, foldl_hull, takeFree_hull]

@[simp] theorem loadSettings_hull (s : Sys2Proof.Machine.State) : hull (loadSettings s) = hull s := by
  unfold loadSettings
  (repeat' split) <;> simp [hull_mk, hull_ite, forEach_hull, foldl_hull, takeFree_hull]

@[simp] theorem retireSite_hull (s : Sys2Proof.Machine.State) (a1 : Nat) : hull (retireSite s a1) = hull s := by
  simp [retireSite, hull_mk, hull_ite, forEach_hull, foldl_hull, takeFree_hull]

@[simp] theorem retireStack_hull (s : Sys2Proof.Machine.State) (a1 : Nat) (a2 : Nat) : hull (retireStack s a1 a2) = hull s := by
  simp [retireStack, hull_mk, hull_ite, forEach_hull, foldl_hull, takeFree_hull]

@[simp] theorem replayRec_hull (s : Sys2Proof.Machine.State) (a1 : Sys2Proof.Machine.LRec) : hull (replayRec s a1) = hull s := by
  unfold replayRec
  (repeat' split) <;> simp [hull_mk, hull_ite, forEach_hull, foldl_hull, takeFree_hull]

@[simp] theorem testAll_hull (s : Sys2Proof.Machine.State) (a1 : List Nat) : hull (testAll s a1) = hull s := by
  simp [testAll, hull_mk, hull_ite, forEach_hull, foldl_hull, takeFree_hull]

@[simp] theorem buildMap_hull (s : Sys2Proof.Machine.State) (a1 : List Nat) : hull (buildMap s a1) = hull s := by
  simp [buildMap, hull_mk, hull_ite, forEach_hull, foldl_hull, takeFree_hull]

@[simp] theorem startClocks_hull (s : Sys2Proof.Machine.State) : hull (startClocks s) = hull s := by
  simp [startClocks, hull_mk, hull_ite, forEach_hull, foldl_hull, takeFree_hull]

@[simp] theorem dropStack_hull (a0 : Nat) (s : Sys2Proof.Machine.State) (a2 : Nat) : hull (dropStack a0 s a2) = hull s := by
  simp [dropStack, hull_mk, hull_ite, forEach_hull, foldl_hull, takeFree_hull]

@[simp] theorem loadTables_hull (s : Sys2Proof.Machine.State) (a1 : List Nat) : hull (loadTables s a1) = hull s := by
  simp [loadTables, hull_mk, hull_ite, forEach_hull, foldl_hull, takeFree_hull]

@[simp] theorem trainStacks_hull (s : Sys2Proof.Machine.State) (a1 : List Nat) : hull (trainStacks s a1) = hull s := by
  simp [trainStacks, hull_mk, hull_ite, forEach_hull, foldl_hull, takeFree_hull]

@[simp] theorem sweptMap_hull (s : Sys2Proof.Machine.State) (a1 : List Nat) : hull (sweptMap s a1) = hull s := by
  simp [sweptMap, hull_mk, hull_ite, forEach_hull, foldl_hull, takeFree_hull]

@[simp] theorem freshPower_hull (s : Sys2Proof.Machine.State) : hull (freshPower s) = hull s := by
  simp [freshPower, hull_mk, hull_ite, forEach_hull, foldl_hull, takeFree_hull]

@[simp] theorem closeGroups_hull (s : Sys2Proof.Machine.State) (a1 : Nat) : hull (closeGroups s a1) = hull s := by
  unfold closeGroups
  dsimp only
  (repeat' split) <;> simp [hull_mk, hull_ite, forEach_hull, foldl_hull, takeFree_hull]

@[simp] theorem keepGroups_hull (s : Sys2Proof.Machine.State) : hull (keepGroups s) = hull s := by
  simp [keepGroups, hull_mk, hull_ite, forEach_hull, foldl_hull, takeFree_hull]

@[simp] theorem countTick_hull (s : Sys2Proof.Machine.State) : hull (countTick s) = hull s := by
  simp [countTick, hull_mk, hull_ite, forEach_hull, foldl_hull, takeFree_hull]

@[simp] theorem sendPush_hull (s : Sys2Proof.Machine.State) : hull (sendPush s) = hull s := by
  unfold sendPush
  (repeat' split) <;> simp [hull_mk, hull_ite, forEach_hull, foldl_hull, takeFree_hull]

@[simp] theorem idleTick_hull (s : Sys2Proof.Machine.State) : hull (idleTick s) = hull s := by
  simp [idleTick, hull_mk, hull_ite, forEach_hull, foldl_hull, takeFree_hull]

end Sys2Proof.Machine
end

