-- ==== Sys2Proof/Laws/Keeps.lean ====
section
/-! SUPPORT. For every command but those that act on the power entry, the life cycle, start-up or the JTAG port: its next state
keeps the hull. -/

set_option linter.all false
-- One theorem after another: side by side they ask for more memory.
set_option Elab.async false

namespace Sys2Proof.Machine

/-- The outcome, if it is a next state, keeps the hull. -/
def Keeps (s : State) (o : Host.Outcome State Fault Refusal) : Prop := ∀ t, o = .next t → hull t = hull s

theorem keeps_next {s t : State} (h : hull t = hull s) : Keeps s (.next t) := by
  intro u hu; cases hu; exact h

theorem keeps_fault (s : State) (f : Fault) : Keeps s (.fault f) := by intro u hu; cases hu

theorem keeps_runUnit (k m : Nat) (f : State → State) (s : State) (h : hull (f s) = hull s) : Keeps s (runUnit k m f s) := by
  unfold runUnit
  split
  · exact keeps_next h
  · exact keeps_fault s _

theorem keeps_runCore (k : Nat) (f : State → Core → Core × List Ev) (s : State) : Keeps s (runCore k f s) := by
  unfold runCore
  split
  · exact keeps_next (by simp)
  · exact keeps_fault s _

theorem keeps_hostCmd (n o : Nat) (f : State → HCmd → State) (s : State) (h : ∀ x, hull (f s x) = hull s) :
    Keeps s (hostCmd n o f s) := by
  apply keeps_runUnit
  split
  · rfl
  · exact h _

theorem keeps_vendorCmd (tr : Transport) (i o : Nat) (f : State → State) (s : State) (h : hull (f s) = hull s) :
    Keeps s (vendorCmd tr i o f s) := by
  apply keeps_next
  simp [hull_ite, h]

theorem keeps_tokenCmd (tr : Transport) (i o : Nat) (t : Token) (a b : State → Bool) (f : State → State) (s : State)
    (h : ∀ s, hull (f s) = hull s) : Keeps s (tokenCmd tr i o t a b f s) := by
  apply keeps_vendorCmd
  split <;> simp [h]

theorem keeps_stationOp (op k i : Nat) (f : State → Core → BitVec 128 → Core × List Ev) (s : State) :
    Keeps s (stationOp op k i f s) := by
  unfold stationOp
  split
  · exact keeps_fault s _
  · exact keeps_runCore _ _ _

theorem keeps_syncOp (a k i : Nat) (f : State → Core → BitVec 128 → SyncEnt → Core × List Ev) (s : State) :
    Keeps s (syncOp a k i f s) := keeps_stationOp _ _ _ _ _

/-- The state in a receive check's answer. -/
def rxState : Rx → State
  | .done s => s
  | .go s _ _ => s

@[simp] theorem rxState_done (s : State) : rxState (.done s) = s := rfl

@[simp] theorem rxState_go (s : State) (n i : Nat) : rxState (.go s n i) = s := rfl

theorem rx_ite {s : State} {c : Prop} [Decidable c] {a b : Rx} (ha : hull (rxState a) = hull s) (hb : hull (rxState b) = hull s) :
    hull (rxState (if c then a else b)) = hull s := by
  by_cases h : c <;> simp [h, ha, hb]

theorem seqRow_hull (s : State) (p n i : Nat) (f : FabPkt) : hull (rxState (seqRow s p n i f)) = hull s := by
  unfold seqRow
  refine rx_ite (by simp) (rx_ite ?_ (rx_ite (by simp) (by simp)))
  rw [rxState_done]
  split <;> simp

theorem epochRow_hull (s : State) (p n i : Nat) (f : FabPkt) (t : State) (h : epochRow s p n i f = some t) : hull t = hull s := by
  unfold epochRow at h
  dsimp only at h
  (repeat' split at h) <;> cases h <;> simp

theorem placeRec_hull (s : State) (n : Nat) (m : MsgRec) (z : Nat) (t : State) (h : placeRec s n m z = some t) :
    hull t = hull s := by
  unfold placeRec at h
  dsimp only at h
  (repeat' split at h) <;> cases h <;> simp [takeFree_hull]

theorem tryMerge_hull (s : State) (p : Pkt) : hull (tryMerge s p).1 = hull s := by
  unfold tryMerge
  dsimp only
  (repeat' split) <;> simp

/-- The row of the epoch, where it is asked, keeps the hull. -/
theorem epochAsk_hull (own : Bool) (s : State) (p n i : Nat) (f : FabPkt) (t : State)
    (h : (if own then none else epochRow s p n i f) = some t) : hull t = hull s := by
  cases own
  · exact epochRow_hull s p n i f t h
  · cases h

theorem rxCheck_hull (s : State) (p : Nat) (f : FabPkt) : hull (rxState (rxCheck s p f)) = hull s := by
  unfold rxCheck
  refine rx_ite (by simp) ?_
  cases ctxOfEp s f.dstId with
  | none => simp
  | some n =>
    refine rx_ite (by simp) (rx_ite (by simp) (rx_ite (by simp) (rx_ite (by simp) ?_)))
    dsimp only
    split
    · rename_i e
      exact epochAsk_hull _ _ _ _ _ _ _ e
    · exact rx_ite (by simp) (rx_ite (by simp) (seqRow_hull _ _ _ _ _))

theorem keeps_rxLink (p : Nat) (w : WirePkt) (mine : FabPkt → Bool) (act : FabPkt → State → State) (s : State)
    (h : ∀ f s, hull (act f s) = hull s) : Keeps s (rxLink p w mine act s) := by
  apply keeps_runUnit
  simp [hull_ite, h]

theorem keeps_rxPkt (p ty : Nat) (w : WirePkt) (act : FabPkt → State → Nat → Nat → State) (s : State)
    (h : ∀ f s n i, hull (act f s n i) = hull s) : Keeps s (rxPkt p ty w act s) := by
  apply keeps_rxLink
  intro f s
  have hc := rxCheck_hull s p f
  cases e : rxCheck s p f <;> simp_all

theorem keeps_rxMgmt (p code : Nat) (w : WirePkt) (act : State → Nat → Nat → List Byte → State) (s : State)
    (h : ∀ s n i b, hull (act s n i b) = hull s) : Keeps s (rxMgmt p code w act s) := by
  apply keeps_rxLink
  intro f s
  have hc := rxCheck_hull s p f
  cases e : rxCheck s p f with
  | done s1 => simp_all
  | go s1 n i => rw [e] at hc; exact (takeFrag_hull _ _ _ _ _ _ h).trans hc

theorem execCodeNop_keeps (a0 : Nat) (a1 : Nat) (s : Sys2Proof.Machine.State) : Keeps s (execCodeNop a0 a1 s) := by
  exact keeps_stationOp _ _ _ _ _

theorem execMxc_keeps (a0 : Nat) (s : Sys2Proof.Machine.State) : Keeps s (execMxc a0 s) := by
  unfold execMxc
  exact keeps_runCore _ _ _

theorem execVcc_keeps (a0 : Nat) (s : Sys2Proof.Machine.State) : Keeps s (execVcc a0 s) := by
  unfold execVcc
  exact keeps_runCore _ _ _

theorem execSdc_keeps (a0 : Nat) (s : Sys2Proof.Machine.State) : Keeps s (execSdc a0 s) := by
  unfold execSdc
  exact keeps_runCore _ _ _

theorem execSendd_keeps (a0 : Nat) (a1 : Nat) (s : Sys2Proof.Machine.State) : Keeps s (execSendd a0 a1 s) := by
  exact keeps_stationOp _ _ _ _ _

theorem execSendt_keeps (a0 : Nat) (a1 : Nat) (s : Sys2Proof.Machine.State) : Keeps s (execSendt a0 a1 s) := by
  exact keeps_stationOp _ _ _ _ _

theorem execWait_keeps (a0 : Nat) (a1 : Nat) (s : Sys2Proof.Machine.State) : Keeps s (execWait a0 a1 s) := by
  exact keeps_stationOp _ _ _ _ _

theorem execSeti_keeps (a0 : Nat) (a1 : Nat) (s : Sys2Proof.Machine.State) : Keeps s (execSeti a0 a1 s) := by
  exact keeps_stationOp _ _ _ _ _

theorem execAddi_keeps (a0 : Nat) (a1 : Nat) (s : Sys2Proof.Machine.State) : Keeps s (execAddi a0 a1 s) := by
  exact keeps_stationOp _ _ _ _ _

theorem execAdj_keeps (a0 : Nat) (a1 : Nat) (s : Sys2Proof.Machine.State) : Keeps s (execAdj a0 a1 s) := by
  exact keeps_stationOp _ _ _ _ _

theorem execLoop_keeps (a0 : Nat) (a1 : Nat) (s : Sys2Proof.Machine.State) : Keeps s (execLoop a0 a1 s) := by
  exact keeps_stationOp _ _ _ _ _

theorem execDropRep_keeps (a0 : ℕ) (a1 : Sys2Proof.Reading) (s : Sys2Proof.Machine.State) : Keeps s (execDropRep a0 a1 s) := by
  exact keeps_stationOp _ _ _ _ _

theorem execEndOp_keeps (a0 : Nat) (a1 : Nat) (a2 : Bool) (s : Sys2Proof.Machine.State) : Keeps s (execEndOp a0 a1 a2 s) := by
  exact keeps_stationOp _ _ _ _ _

theorem execArrive_keeps (a0 : Nat) (a1 : Nat) (s : Sys2Proof.Machine.State) : Keeps s (execArrive a0 a1 s) := by
  exact keeps_syncOp _ _ _ _ _

theorem execSyncWait_keeps (a0 : Nat) (a1 : Nat) (s : Sys2Proof.Machine.State) : Keeps s (execSyncWait a0 a1 s) := by
  exact keeps_syncOp _ _ _ _ _

theorem execArriveWait_keeps (a0 : Nat) (a1 : Nat) (s : Sys2Proof.Machine.State) : Keeps s (execArriveWait a0 a1 s) := by
  exact keeps_syncOp _ _ _ _ _

theorem execPost_keeps (a0 : Nat) (a1 : Nat) (s : Sys2Proof.Machine.State) : Keeps s (execPost a0 a1 s) := by
  exact keeps_syncOp _ _ _ _ _

theorem execTake_keeps (a0 : Nat) (a1 : Nat) (s : Sys2Proof.Machine.State) : Keeps s (execTake a0 a1 s) := by
  exact keeps_syncOp _ _ _ _ _

theorem execFiringComplete_keeps (a0 : Nat) (s : Sys2Proof.Machine.State) : Keeps s (execFiringComplete a0 s) := by
  unfold execFiringComplete
  exact keeps_runCore _ _ _

theorem execMxCmdStart_keeps (a0 : Nat) (s : Sys2Proof.Machine.State) : Keeps s (execMxCmdStart a0 s) := by
  unfold execMxCmdStart
  exact keeps_runCore _ _ _

theorem execMxShadowSwap_keeps (a0 : Nat) (s : Sys2Proof.Machine.State) : Keeps s (execMxShadowSwap a0 s) := by
  unfold execMxShadowSwap
  exact keeps_runCore _ _ _

theorem execMma_keeps (a0 : Nat) (a1 : Bool) (s : Sys2Proof.Machine.State) : Keeps s (execMma a0 a1 s) := by
  unfold execMma
  exact keeps_runCore _ _ _

theorem execMxNop_keeps (a0 : Nat) (s : Sys2Proof.Machine.State) : Keeps s (execMxNop a0 s) := by
  unfold execMxNop
  exact keeps_runCore _ _ _

theorem execMxClear_keeps (a0 : Nat) (s : Sys2Proof.Machine.State) : Keeps s (execMxClear a0 s) := by
  unfold execMxClear
  exact keeps_runCore _ _ _

theorem execMxDrain_keeps (a0 : Nat) (s : Sys2Proof.Machine.State) : Keeps s (execMxDrain a0 s) := by
  unfold execMxDrain
  exact keeps_runCore _ _ _

theorem execMxDrainStart_keeps (a0 : Nat) (s : Sys2Proof.Machine.State) : Keeps s (execMxDrainStart a0 s) := by
  unfold execMxDrainStart
  exact keeps_runCore _ _ _

theorem execMxDrainRow_keeps (a0 : Nat) (a1 : Bool) (s : Sys2Proof.Machine.State) : Keeps s (execMxDrainRow a0 a1 s) := by
  unfold execMxDrainRow
  exact keeps_runCore _ _ _

theorem execVcNop_keeps (a0 : Nat) (s : Sys2Proof.Machine.State) : Keeps s (execVcNop a0 s) := by
  unfold execVcNop
  exact keeps_runCore _ _ _

theorem execSets_keeps (a0 : Nat) (s : Sys2Proof.Machine.State) : Keeps s (execSets a0 s) := by
  unfold execSets
  exact keeps_runCore _ _ _

theorem execLoadc_keeps (a0 : Nat) (s : Sys2Proof.Machine.State) : Keeps s (execLoadc a0 s) := by
  unfold execLoadc
  exact keeps_runCore _ _ _

theorem execLoadlut_keeps (a0 : Nat) (s : Sys2Proof.Machine.State) : Keeps s (execLoadlut a0 s) := by
  unfold execLoadlut
  exact keeps_runCore _ _ _

theorem execChain_keeps (a0 : Nat) (s : Sys2Proof.Machine.State) : Keeps s (execChain a0 s) := by
  unfold execChain
  exact keeps_runCore _ _ _

theorem execVcQuadStart_keeps (a0 : Nat) (a1 : Bool) (s : Sys2Proof.Machine.State) : Keeps s (execVcQuadStart a0 a1 s) := by
  unfold execVcQuadStart
  exact keeps_runCore _ _ _

theorem execSdNop_keeps (a0 : Nat) (a1 : Nat) (s : Sys2Proof.Machine.State) : Keeps s (execSdNop a0 a1 s) := by
  unfold execSdNop
  exact keeps_runCore _ _ _

theorem execLoad_keeps (a0 : Nat) (a1 : Nat) (s : Sys2Proof.Machine.State) : Keeps s (execLoad a0 a1 s) := by
  unfold execLoad
  exact keeps_runCore _ _ _

theorem execStore_keeps (a0 : Nat) (s : Sys2Proof.Machine.State) : Keeps s (execStore a0 s) := by
  unfold execStore
  exact keeps_runCore _ _ _

theorem execStreamerRequest_keeps (a0 : Nat) (a1 : Nat) (s : Sys2Proof.Machine.State) : Keeps s (execStreamerRequest a0 a1 s) := by
  unfold execStreamerRequest
  exact keeps_runCore _ _ _

theorem execLineReturn_keeps (a0 : Nat) (a1 : Nat) (a2 : List Sys2Proof.Ecc) (s : Sys2Proof.Machine.State) : Keeps s (execLineReturn a0 a1 a2 s) := by
  unfold execLineReturn
  exact keeps_runCore _ _ _

theorem execOperandBeatArrive_keeps (a0 : Nat) (a1 : Nat) (a2 : Nat) (s : Sys2Proof.Machine.State) : Keeps s (execOperandBeatArrive a0 a1 a2 s) := by
  unfold execOperandBeatArrive
  exact keeps_runCore _ _ _

theorem execCeWriteBack_keeps (a0 : Nat) (s : Sys2Proof.Machine.State) : Keeps s (execCeWriteBack a0 s) := by
  unfold execCeWriteBack
  exact keeps_runCore _ _ _

theorem execPatrolScrub_keeps (a0 : Nat) (a1 : List Sys2Proof.Ecc) (s : Sys2Proof.Machine.State) : Keeps s (execPatrolScrub a0 a1 s) := by
  unfold execPatrolScrub
  exact keeps_runCore _ _ _

theorem execRemoteAccess_keeps (a0 : Nat) (a1 : List Sys2Proof.Ecc) (s : Sys2Proof.Machine.State) : Keeps s (execRemoteAccess a0 a1 s) := by
  unfold execRemoteAccess
  exact keeps_runCore _ _ _

theorem execCoreClear_keeps (a0 : Nat) (s : Sys2Proof.Machine.State) : Keeps s (execCoreClear a0 s) := by
  unfold execCoreClear
  exact keeps_runCore _ _ _

theorem execMessageInject_keeps (a0 : Nat) (a1 : Nat) (s : Sys2Proof.Machine.State) : Keeps s (execMessageInject a0 a1 s) := by
  unfold execMessageInject
  exact keeps_runCore _ _ _

theorem execMessageArrive_keeps (a0 : Nat) (a1 : Bool) (s : Sys2Proof.Machine.State) : Keeps s (execMessageArrive a0 a1 s) := by
  unfold execMessageArrive
  exact keeps_runCore _ _ _

theorem execSpillCopy_keeps (a0 : Nat) (a1 : Nat) (a2 : List Sys2Proof.Ecc) (s : Sys2Proof.Machine.State) : Keeps s (execSpillCopy a0 a1 a2 s) := by
  unfold execSpillCopy
  exact keeps_runCore _ _ _

theorem execMessageTake_keeps (a0 : Nat) (a1 : Nat) (a2 : List Sys2Proof.Ecc) (s : Sys2Proof.Machine.State) : Keeps s (execMessageTake a0 a1 a2 s) := by
  unfold execMessageTake
  exact keeps_runCore _ _ _

theorem execEntryFree_keeps (a0 : Nat) (a1 : Nat) (s : Sys2Proof.Machine.State) : Keeps s (execEntryFree a0 a1 s) := by
  unfold execEntryFree
  exact keeps_runCore _ _ _

theorem execCreditSend_keeps (a0 : Nat) (a1 : Nat) (a2 : Bool) (s : Sys2Proof.Machine.State) : Keeps s (execCreditSend a0 a1 a2 s) := by
  unfold execCreditSend
  exact keeps_runCore _ _ _

theorem execCreditArrive_keeps (a0 : Nat) (s : Sys2Proof.Machine.State) : Keeps s (execCreditArrive a0 s) := by
  unfold execCreditArrive
  exact keeps_runCore _ _ _

theorem execContributionArrive_keeps (a0 : Sys2Proof.Reading) (s : Sys2Proof.Machine.State) : Keeps s (execContributionArrive a0 s) := by
  unfold execContributionArrive
  exact keeps_runCore _ _ _

theorem execStallRead_keeps (s : Sys2Proof.Machine.State) : Keeps s (execStallRead s) := by
  unfold execStallRead
  apply keeps_next
  simp [hull_mk, hull_ite, forEach_hull, foldl_hull, takeFree_hull, withSite_hull]

theorem execHbmRequest_keeps (a0 : ℕ) (a1 : ℕ) (s : Sys2Proof.Machine.State) : Keeps s (execHbmRequest a0 a1 s) := by
  unfold execHbmRequest
  apply keeps_runUnit
  dsimp only
  (repeat' split) <;> simp [hull_mk, hull_ite, forEach_hull, foldl_hull, takeFree_hull, withSite_hull]

theorem execHbmReadComplete_keeps (a0 : Nat) (a1 : Sys2Proof.LineEcc) (a2 : Bool) (s : Sys2Proof.Machine.State) : Keeps s (execHbmReadComplete a0 a1 a2 s) := by
  unfold execHbmReadComplete
  apply keeps_runUnit
  (repeat' split) <;> simp [hull_mk, hull_ite, forEach_hull, foldl_hull, takeFree_hull, withSite_hull]

theorem execLineRestoreTimeout_keeps (a0 : Nat) (s : Sys2Proof.Machine.State) : Keeps s (execLineRestoreTimeout a0 s) := by
  unfold execLineRestoreTimeout
  apply keeps_runUnit
  (repeat' split) <;> simp [hull_mk, hull_ite, forEach_hull, foldl_hull, takeFree_hull, withSite_hull]

theorem execHbmWriteBack_keeps (a0 : Nat) (s : Sys2Proof.Machine.State) : Keeps s (execHbmWriteBack a0 s) := by
  unfold execHbmWriteBack
  apply keeps_runUnit
  simp [hull_mk, hull_ite, forEach_hull, foldl_hull, takeFree_hull, withSite_hull]

theorem execHbmSumInto_keeps (a0 : ℕ) (a1 : Sys2Proof.LineEcc) (s : Sys2Proof.Machine.State) : Keeps s (execHbmSumInto a0 a1 s) := by
  unfold execHbmSumInto
  apply keeps_runUnit
  (repeat' split) <;> simp [hull_mk, hull_ite, forEach_hull, foldl_hull, takeFree_hull, withSite_hull]

theorem execHbmScrub_keeps (a0 : ℕ) (a1 : ℕ) (a2 : Sys2Proof.ScrubRead) (a3 : Bool) (s : Sys2Proof.Machine.State) : Keeps s (execHbmScrub a0 a1 a2 a3 s) := by
  unfold execHbmScrub
  split
  · exact keeps_fault _ _
  apply keeps_runUnit
  simp [hull_mk, hull_ite, forEach_hull, foldl_hull, takeFree_hull, withSite_hull]

theorem execRowRepair_keeps (a0 : ℕ) (a1 : ℕ) (a2 : ℕ) (a3 : Sys2Proof.RowFound) (s : Sys2Proof.Machine.State) : Keeps s (execRowRepair a0 a1 a2 a3 s) := by
  unfold execRowRepair
  apply keeps_runUnit
  simp [hull_mk, hull_ite, forEach_hull, foldl_hull, takeFree_hull, withSite_hull]

theorem execRefresh_keeps (a0 : Nat) (a1 : Nat) (s : Sys2Proof.Machine.State) : Keeps s (execRefresh a0 a1 s) := by
  unfold execRefresh
  split
  · exact keeps_fault _ _
  apply keeps_runUnit
  simp [hull_mk, hull_ite, forEach_hull, foldl_hull, takeFree_hull, withSite_hull]

theorem execRecalibration_keeps (a0 : Nat) (a1 : Nat) (a2 : Bool) (a3 : Bool) (s : Sys2Proof.Machine.State) : Keeps s (execRecalibration a0 a1 a2 a3 s) := by
  unfold execRecalibration
  split
  · exact keeps_fault _ _
  apply keeps_runUnit
  simp [hull_mk, hull_ite, forEach_hull, foldl_hull, takeFree_hull, withSite_hull]

theorem execSelfRefreshEntry_keeps (a0 : Nat) (s : Sys2Proof.Machine.State) : Keeps s (execSelfRefreshEntry a0 s) := by
  unfold execSelfRefreshEntry
  apply keeps_runUnit
  simp [hull_mk, hull_ite, forEach_hull, foldl_hull, takeFree_hull, withSite_hull]

theorem execSelfRefreshExit_keeps (a0 : Nat) (s : Sys2Proof.Machine.State) : Keeps s (execSelfRefreshExit a0 s) := by
  unfold execSelfRefreshExit
  apply keeps_runUnit
  simp [hull_mk, hull_ite, forEach_hull, foldl_hull, takeFree_hull, withSite_hull]

theorem execStackWithdraw_keeps (a0 : Nat) (a1 : Sys2Proof.WithdrawCause) (s : Sys2Proof.Machine.State) : Keeps s (execStackWithdraw a0 a1 s) := by
  unfold execStackWithdraw
  apply keeps_runUnit
  (repeat' split) <;> simp [hull_mk, hull_ite, forEach_hull, foldl_hull, takeFree_hull, withSite_hull]

theorem execSessionRebuild_keeps (a0 : Nat) (s : Sys2Proof.Machine.State) : Keeps s (execSessionRebuild a0 s) := by
  unfold execSessionRebuild
  apply keeps_runUnit
  dsimp only
  (repeat' split) <;> simp [hull_mk, hull_ite, forEach_hull, foldl_hull, takeFree_hull, withSite_hull]

theorem execPacketInject_keeps (a0 : Nat) (s : Sys2Proof.Machine.State) : Keeps s (execPacketInject a0 s) := by
  unfold execPacketInject
  apply keeps_runUnit
  dsimp only
  (repeat' split) <;> simp [readPlace_hull]

theorem execPacketHop_keeps (a0 : Nat) (a1 : Sys2Proof.Dir) (s : Sys2Proof.Machine.State) : Keeps s (execPacketHop a0 a1 s) := by
  unfold execPacketHop
  apply keeps_next
  (repeat' split) <;> simp [tryMerge_hull]

theorem execColEntry_keeps (a0 : Nat) (s : Sys2Proof.Machine.State) : Keeps s (execColEntry a0 s) := by
  unfold execColEntry
  apply keeps_next
  (repeat' split) <;> simp [hull_mk, hull_ite, forEach_hull, foldl_hull, takeFree_hull, withSite_hull]

theorem execPacketEject_keeps (a0 : Nat) (s : Sys2Proof.Machine.State) : Keeps s (execPacketEject a0 s) := by
  unfold execPacketEject
  apply keeps_next
  (repeat' split) <;> simp [hull_mk, hull_ite, forEach_hull, foldl_hull, takeFree_hull, withSite_hull]

theorem execFlitReplay_keeps (a0 : Nat) (a1 : Sys2Proof.Dir) (s : Sys2Proof.Machine.State) : Keeps s (execFlitReplay a0 a1 s) := by
  unfold execFlitReplay
  apply keeps_runUnit
  simp [hull_mk, hull_ite, forEach_hull, foldl_hull, takeFree_hull, withSite_hull]

theorem execLinkFailure_keeps (a0 : ℕ) (a1 : Sys2Proof.Gapping Sys2Proof.Dir) (s : Sys2Proof.Machine.State) : Keeps s (execLinkFailure a0 a1 s) := by
  unfold execLinkFailure
  apply keeps_runUnit
  simp [hull_mk, hull_ite, forEach_hull, foldl_hull, takeFree_hull, withSite_hull]

theorem execHardGap_keeps (a0 : ℕ) (a1 : Sys2Proof.Gapping ℕ) (s : Sys2Proof.Machine.State) : Keeps s (execHardGap a0 a1 s) := by
  unfold execHardGap
  apply keeps_runUnit
  simp [hull_mk, hull_ite, forEach_hull, foldl_hull, takeFree_hull, withSite_hull]

theorem execFlipComplete_keeps (s : Sys2Proof.Machine.State) : Keeps s (execFlipComplete s) := by
  unfold execFlipComplete
  apply keeps_next
  simp [hull_mk, hull_ite, forEach_hull, foldl_hull, takeFree_hull, withSite_hull]

theorem execDrainMarkerPass_keeps (s : Sys2Proof.Machine.State) : Keeps s (execDrainMarkerPass s) := by
  unfold execDrainMarkerPass
  apply keeps_next
  simp [hull_mk, hull_ite, forEach_hull, foldl_hull, takeFree_hull, withSite_hull]

theorem execDrainSweepPass_keeps (s : Sys2Proof.Machine.State) : Keeps s (execDrainSweepPass s) := by
  unfold execDrainSweepPass
  apply keeps_next
  simp [hull_mk, hull_ite, forEach_hull, foldl_hull, takeFree_hull, withSite_hull]

theorem execCongestionEcho_keeps (a0 : ℕ) (a1 : Bool) (a2 : ℕ) (s : Sys2Proof.Machine.State) : Keeps s (execCongestionEcho a0 a1 a2 s) := by
  unfold execCongestionEcho
  split
  · exact keeps_fault _ _
  apply keeps_runUnit
  simp [hull_mk, hull_ite, forEach_hull, foldl_hull, takeFree_hull, withSite_hull]

theorem execInjectionWindowTick_keeps (a0 : ℕ) (a1 : Bool) (a2 : ℕ) (s : Sys2Proof.Machine.State) : Keeps s (execInjectionWindowTick a0 a1 a2 s) := by
  unfold execInjectionWindowTick
  split
  · exact keeps_fault _ _
  apply keeps_runUnit
  simp [hull_mk, hull_ite, forEach_hull, foldl_hull, takeFree_hull, withSite_hull]

theorem execEngineArrive_keeps (a0 : Nat) (s : Sys2Proof.Machine.State) : Keeps s (execEngineArrive a0 s) := by
  unfold execEngineArrive
  apply keeps_runUnit
  apply onSync_hull
  intro s p
  (repeat' split) <;> simp [hull_mk, hull_ite, forEach_hull, foldl_hull, takeFree_hull, withSite_hull]

theorem execEnginePost_keeps (a0 : Nat) (s : Sys2Proof.Machine.State) : Keeps s (execEnginePost a0 s) := by
  unfold execEnginePost
  apply keeps_runUnit
  apply onSync_hull
  intro s p
  try dsimp only
  (repeat' split) <;> simp [hull_mk, hull_ite, forEach_hull, foldl_hull, takeFree_hull, withSite_hull]

theorem execEngineTake_keeps (a0 : Nat) (s : Sys2Proof.Machine.State) : Keeps s (execEngineTake a0 s) := by
  unfold execEngineTake
  apply keeps_runUnit
  apply onSync_hull
  intro s p
  try dsimp only
  (repeat' split) <;> simp [hull_mk, hull_ite, forEach_hull, foldl_hull, takeFree_hull, withSite_hull]

theorem execRelease_keeps (a0 : Nat) (s : Sys2Proof.Machine.State) : Keeps s (execRelease a0 s) := by
  unfold execRelease
  apply keeps_runUnit
  apply onSync_hull
  intro s p
  try dsimp only
  (repeat' split) <;> simp [hull_mk, hull_ite, forEach_hull, foldl_hull, takeFree_hull, withSite_hull]

theorem execGrant_keeps (a0 : Nat) (s : Sys2Proof.Machine.State) : Keeps s (execGrant a0 s) := by
  unfold execGrant
  apply keeps_runUnit
  apply onSync_hull
  intro s p
  try dsimp only
  (repeat' split) <;> simp [hull_mk, hull_ite, forEach_hull, foldl_hull, takeFree_hull, withSite_hull]

theorem execFabricRequest_keeps (a0 : Nat) (s : Sys2Proof.Machine.State) : Keeps s (execFabricRequest a0 s) := by
  unfold execFabricRequest
  apply keeps_runUnit
  (repeat' split) <;> simp [hull_mk, hull_ite, forEach_hull, foldl_hull, takeFree_hull, withSite_hull]

theorem execKeyWaitTimeout_keeps (a0 : Nat) (s : Sys2Proof.Machine.State) : Keeps s (execKeyWaitTimeout a0 s) := by
  unfold execKeyWaitTimeout
  apply keeps_runUnit
  (repeat' split) <;> simp [hull_mk, hull_ite, forEach_hull, foldl_hull, takeFree_hull, withSite_hull]

theorem execFabMergeTimeout_keeps (a0 : Nat) (s : Sys2Proof.Machine.State) : Keeps s (execFabMergeTimeout a0 s) := by
  unfold execFabMergeTimeout
  apply keeps_runUnit
  simp [hull_mk, hull_ite, forEach_hull, foldl_hull, takeFree_hull, withSite_hull]

theorem execFabWrite_keeps (a0 : ℕ) (a1 : Sys2Proof.WirePkt) (s : Sys2Proof.Machine.State) : Keeps s (execFabWrite a0 a1 s) := by
  unfold execFabWrite
  apply keeps_rxPkt
  intro f s n i
  simp [hull_mk, hull_ite, forEach_hull, foldl_hull, takeFree_hull, withSite_hull]

theorem execFabRead_keeps (a0 : ℕ) (a1 : Sys2Proof.WirePkt) (s : Sys2Proof.Machine.State) : Keeps s (execFabRead a0 a1 s) := by
  unfold execFabRead
  apply keeps_rxPkt
  intro f s n i
  simp [hull_mk, hull_ite, forEach_hull, foldl_hull, takeFree_hull, withSite_hull]

theorem execFabSumInto_keeps (a0 : ℕ) (a1 : Sys2Proof.WirePkt) (s : Sys2Proof.Machine.State) : Keeps s (execFabSumInto a0 a1 s) := by
  unfold execFabSumInto
  apply keeps_rxPkt
  intro f s n i
  simp [hull_mk, hull_ite, forEach_hull, foldl_hull, takeFree_hull, withSite_hull]

theorem execReadData_keeps (a0 : ℕ) (a1 : Sys2Proof.WirePkt) (s : Sys2Proof.Machine.State) : Keeps s (execReadData a0 a1 s) := by
  unfold execReadData
  apply keeps_rxPkt
  intro f s n i
  simp [hull_mk, hull_ite, forEach_hull, foldl_hull, takeFree_hull, withSite_hull]

theorem execAck_keeps (a0 : ℕ) (a1 : Sys2Proof.WirePkt) (s : Sys2Proof.Machine.State) : Keeps s (execAck a0 a1 s) := by
  unfold execAck
  apply keeps_rxPkt
  intro f s n i
  simp [hull_mk, hull_ite, forEach_hull, foldl_hull, takeFree_hull, withSite_hull]

theorem execNack_keeps (a0 : ℕ) (a1 : Sys2Proof.WirePkt) (s : Sys2Proof.Machine.State) : Keeps s (execNack a0 a1 s) := by
  unfold execNack
  apply keeps_rxPkt
  intro f s n i
  (repeat' split) <;> simp [hull_mk, hull_ite, forEach_hull, foldl_hull, takeFree_hull, withSite_hull]

theorem execAckTimer_keeps (a0 : Nat) (s : Sys2Proof.Machine.State) : Keeps s (execAckTimer a0 s) := by
  unfold execAckTimer
  apply keeps_runUnit
  refine (forEach_hull _ _ _ ?_).trans ?_
  · intro s r
    (repeat' split) <;> simp
  · simp [forEach_hull]

theorem execFabArrive_keeps (a0 : ℕ) (a1 : Sys2Proof.WirePkt) (s : Sys2Proof.Machine.State) : Keeps s (execFabArrive a0 a1 s) := by
  unfold execFabArrive
  apply keeps_rxPkt
  intro f s n i
  (repeat' split) <;> simp [hull_mk, hull_ite, forEach_hull, foldl_hull, takeFree_hull, withSite_hull]

theorem execFabRelease_keeps (a0 : ℕ) (a1 : Sys2Proof.WirePkt) (s : Sys2Proof.Machine.State) : Keeps s (execFabRelease a0 a1 s) := by
  unfold execFabRelease
  apply keeps_rxPkt
  intro f s n i
  dsimp only
  (repeat' split) <;> simp [hull_mk, hull_ite, forEach_hull, foldl_hull, takeFree_hull, withSite_hull]

theorem execResendTimeout_keeps (a0 : Nat) (a1 : Nat) (s : Sys2Proof.Machine.State) : Keeps s (execResendTimeout a0 a1 s) := by
  unfold execResendTimeout
  apply keeps_runUnit
  (repeat' split) <;> simp [hull_mk, hull_ite, forEach_hull, foldl_hull, takeFree_hull, withSite_hull]

theorem execEpochAheadResend_keeps (a0 : Nat) (a1 : Nat) (s : Sys2Proof.Machine.State) : Keeps s (execEpochAheadResend a0 a1 s) := by
  unfold execEpochAheadResend
  apply keeps_runUnit
  (repeat' split) <;> simp [hull_mk, hull_ite, forEach_hull, foldl_hull, takeFree_hull, withSite_hull]

theorem execFabWinTick_keeps (a0 : Nat) (a1 : Nat) (s : Sys2Proof.Machine.State) : Keeps s (execFabWinTick a0 a1 s) := by
  unfold execFabWinTick
  apply keeps_runUnit
  (repeat' split) <;> simp [hull_mk, hull_ite, forEach_hull, foldl_hull, takeFree_hull, withSite_hull]

theorem execPortRetrain_keeps (a0 : Nat) (a1 : Bool) (s : Sys2Proof.Machine.State) : Keeps s (execPortRetrain a0 a1 s) := by
  unfold execPortRetrain
  apply keeps_runUnit
  simp [hull_mk, hull_ite, forEach_hull, foldl_hull, takeFree_hull, withSite_hull]

theorem execLinkBlockReplay_keeps (a0 : Nat) (a1 : Bool) (s : Sys2Proof.Machine.State) : Keeps s (execLinkBlockReplay a0 a1 s) := by
  unfold execLinkBlockReplay
  apply keeps_runUnit
  simp [hull_mk, hull_ite, forEach_hull, foldl_hull, takeFree_hull, withSite_hull]

theorem execMgmtSpdm_keeps (a0 : ℕ) (a1 : Sys2Proof.WirePkt) (a2 a3 : Bool) (a4 : Sys2Proof.PeerFacts) (s : Sys2Proof.Machine.State) : Keeps s (execMgmtSpdm a0 a1 a2 a3 a4 s) := by
  unfold execMgmtSpdm
  apply keeps_rxMgmt
  intro s n i b
  simp [hull_mk, hull_ite, forEach_hull, foldl_hull, takeFree_hull, withSite_hull]

theorem execFabKeyRenewal_keeps (a0 : Nat) (a1 : Nat) (s : Sys2Proof.Machine.State) : Keeps s (execFabKeyRenewal a0 a1 s) := by
  unfold execFabKeyRenewal
  apply keeps_runUnit
  simp [hull_mk, hull_ite, forEach_hull, foldl_hull, takeFree_hull, withSite_hull]

theorem execFabOldKeyErase_keeps (a0 : Nat) (a1 : Nat) (s : Sys2Proof.Machine.State) : Keeps s (execFabOldKeyErase a0 a1 s) := by
  unfold execFabOldKeyErase
  apply keeps_runUnit
  simp [hull_mk, hull_ite, forEach_hull, foldl_hull, takeFree_hull, withSite_hull]

theorem execRecord_keeps (a0 : ℕ) (a1 : Sys2Proof.WirePkt) (a2 : Bool) (s : Sys2Proof.Machine.State) : Keeps s (execRecord a0 a1 a2 s) := by
  unfold execRecord
  apply keeps_rxMgmt
  intro s n i b
  simp [hull_mk, hull_ite, forEach_hull, foldl_hull, takeFree_hull, withSite_hull]

theorem execMctpMembershipRecord_keeps (a0 : Sys2Proof.SignedRec) (s : Sys2Proof.Machine.State) : Keeps s (execMctpMembershipRecord a0 s) := by
  unfold execMctpMembershipRecord
  apply keeps_next
  simp [hull_mk, hull_ite, forEach_hull, foldl_hull, takeFree_hull, withSite_hull]

theorem execCtxClose_keeps (a0 : ℕ) (a1 : Sys2Proof.WirePkt) (s : Sys2Proof.Machine.State) : Keeps s (execCtxClose a0 a1 s) := by
  unfold execCtxClose
  apply keeps_rxMgmt
  intro s n i b
  simp [hull_mk, hull_ite, forEach_hull, foldl_hull, takeFree_hull, withSite_hull]

theorem execCtxCloseAck_keeps (a0 : ℕ) (a1 : Sys2Proof.WirePkt) (s : Sys2Proof.Machine.State) : Keeps s (execCtxCloseAck a0 a1 s) := by
  unfold execCtxCloseAck
  apply keeps_rxMgmt
  intro s n i b
  simp [hull_mk, hull_ite, forEach_hull, foldl_hull, takeFree_hull, withSite_hull]

theorem execPartInfo_keeps (a0 : ℕ) (a1 : Sys2Proof.WirePkt) (s : Sys2Proof.Machine.State) : Keeps s (execPartInfo a0 a1 s) := by
  unfold execPartInfo
  apply keeps_rxMgmt
  intro s n i b
  simp [hull_mk, hull_ite, forEach_hull, foldl_hull, takeFree_hull, withSite_hull]

theorem execPartInfoReq_keeps (a0 : ℕ) (a1 : Sys2Proof.WirePkt) (s : Sys2Proof.Machine.State) : Keeps s (execPartInfoReq a0 a1 s) := by
  unfold execPartInfoReq
  apply keeps_rxMgmt
  intro s n i b
  simp [hull_mk, hull_ite, forEach_hull, foldl_hull, takeFree_hull, withSite_hull]

theorem execDigestXchg_keeps (a0 : ℕ) (a1 : Sys2Proof.WirePkt) (s : Sys2Proof.Machine.State) : Keeps s (execDigestXchg a0 a1 s) := by
  unfold execDigestXchg
  apply keeps_rxMgmt
  intro s n i b
  simp [hull_mk, hull_ite, forEach_hull, foldl_hull, takeFree_hull, withSite_hull]

theorem execDigestExchangeSend_keeps (a0 : Nat) (s : Sys2Proof.Machine.State) : Keeps s (execDigestExchangeSend a0 s) := by
  unfold execDigestExchangeSend
  apply keeps_runUnit
  (repeat' split) <;> simp [hull_mk, hull_ite, forEach_hull, foldl_hull, takeFree_hull, withSite_hull]

theorem execSectionSwap_keeps (a0 : Nat) (a1 : Bool) (s : Sys2Proof.Machine.State) : Keeps s (execSectionSwap a0 a1 s) := by
  unfold execSectionSwap
  apply keeps_runUnit
  (repeat' split) <;> simp [hull_mk, hull_ite, forEach_hull, foldl_hull, takeFree_hull, withSite_hull]

theorem execDrainComplete_keeps (s : Sys2Proof.Machine.State) : Keeps s (execDrainComplete s) := by
  unfold execDrainComplete
  apply keeps_next
  (repeat' split) <;> simp [hull_mk, hull_ite, forEach_hull, foldl_hull, takeFree_hull, withSite_hull]

theorem execDrainTimeout_keeps (s : Sys2Proof.Machine.State) : Keeps s (execDrainTimeout s) := by
  unfold execDrainTimeout
  apply keeps_next
  (repeat' split) <;> simp [hull_mk, hull_ite, forEach_hull, foldl_hull, takeFree_hull, withSite_hull]

theorem execBasinClearComplete_keeps (a0 : Nat) (s : Sys2Proof.Machine.State) : Keeps s (execBasinClearComplete a0 s) := by
  unfold execBasinClearComplete
  apply keeps_runUnit
  simp [hull_mk, hull_ite, forEach_hull, foldl_hull, takeFree_hull, withSite_hull]

theorem execEnable_keeps (a0 : Nat) (a1 : Bool) (s : Sys2Proof.Machine.State) : Keeps s (execEnable a0 a1 s) := by
  unfold execEnable
  apply keeps_runUnit
  simp [hull_mk, hull_ite, forEach_hull, foldl_hull, takeFree_hull, withSite_hull]

theorem execApply_keeps (a0 : Nat) (s : Sys2Proof.Machine.State) : Keeps s (execApply a0 s) := by
  unfold execApply
  apply keeps_runUnit
  simp [hull_mk, hull_ite, forEach_hull, foldl_hull, takeFree_hull, withSite_hull]

theorem execTeardown_keeps (a0 : Nat) (s : Sys2Proof.Machine.State) : Keeps s (execTeardown a0 s) := by
  unfold execTeardown
  apply keeps_runUnit
  simp [hull_mk, hull_ite, forEach_hull, foldl_hull, takeFree_hull, withSite_hull]

theorem execFunctionLevelReset_keeps (a0 : Nat) (s : Sys2Proof.Machine.State) : Keeps s (execFunctionLevelReset a0 s) := by
  unfold execFunctionLevelReset
  apply keeps_runUnit
  simp [hull_mk, hull_ite, forEach_hull, foldl_hull, takeFree_hull, withSite_hull]

theorem execCtxQuarantine_keeps (a0 : Nat) (s : Sys2Proof.Machine.State) : Keeps s (execCtxQuarantine a0 s) := by
  unfold execCtxQuarantine
  apply keeps_runUnit
  simp [hull_mk, hull_ite, forEach_hull, foldl_hull, takeFree_hull, withSite_hull]

theorem execGetVersion_keeps (a0 : Sys2Proof.Transport) (s : Sys2Proof.Machine.State) : Keeps s (execGetVersion a0 s) := by
  unfold execGetVersion
  apply keeps_next
  simp [hull_mk, hull_ite, forEach_hull, foldl_hull, takeFree_hull, withSite_hull]

theorem execGetCapabilities_keeps (a0 : Sys2Proof.Transport) (s : Sys2Proof.Machine.State) : Keeps s (execGetCapabilities a0 s) := by
  unfold execGetCapabilities
  apply keeps_next
  simp [hull_mk, hull_ite, forEach_hull, foldl_hull, takeFree_hull, withSite_hull]

theorem execNegotiateAlgorithms_keeps (a0 : Sys2Proof.Transport) (a1 : Bool) (s : Sys2Proof.Machine.State) : Keeps s (execNegotiateAlgorithms a0 a1 s) := by
  unfold execNegotiateAlgorithms
  apply keeps_next
  simp [hull_mk, hull_ite, forEach_hull, foldl_hull, takeFree_hull, withSite_hull]

theorem execGetDigests_keeps (a0 : Sys2Proof.Transport) (s : Sys2Proof.Machine.State) : Keeps s (execGetDigests a0 s) := by
  unfold execGetDigests
  apply keeps_next
  simp [hull_mk, hull_ite, forEach_hull, foldl_hull, takeFree_hull, withSite_hull]

theorem execGetCertificate_keeps (a0 : Sys2Proof.Transport) (a1 : Nat) (s : Sys2Proof.Machine.State) : Keeps s (execGetCertificate a0 a1 s) := by
  unfold execGetCertificate
  apply keeps_next
  simp [hull_mk, hull_ite, forEach_hull, foldl_hull, takeFree_hull, withSite_hull]

theorem execChallenge_keeps (a0 : Sys2Proof.Transport) (a1 : Nat) (a2 : Nat) (s : Sys2Proof.Machine.State) : Keeps s (execChallenge a0 a1 a2 s) := by
  unfold execChallenge
  apply keeps_next
  simp [hull_mk, hull_ite, forEach_hull, foldl_hull, takeFree_hull, withSite_hull]

theorem execGetMeasurements_keeps (a0 : Sys2Proof.Transport) (a1 : Nat) (s : Sys2Proof.Machine.State) : Keeps s (execGetMeasurements a0 a1 s) := by
  unfold execGetMeasurements
  apply keeps_next
  simp [hull_mk, hull_ite, forEach_hull, foldl_hull, takeFree_hull, withSite_hull]

theorem execKeyExchange_keeps (a0 : Sys2Proof.Transport) (s : Sys2Proof.Machine.State) : Keeps s (execKeyExchange a0 s) := by
  unfold execKeyExchange
  apply keeps_next
  simp [hull_mk, hull_ite, forEach_hull, foldl_hull, takeFree_hull, withSite_hull]

theorem execFinish_keeps (a0 : Sys2Proof.Transport) (a1 : Nat) (a2 : Bool) (s : Sys2Proof.Machine.State) : Keeps s (execFinish a0 a1 a2 s) := by
  unfold execFinish
  apply keeps_next
  simp [hull_mk, hull_ite, forEach_hull, foldl_hull, takeFree_hull, withSite_hull]

theorem execKeyUpdate_keeps (a0 : Sys2Proof.Transport) (a1 : Nat) (s : Sys2Proof.Machine.State) : Keeps s (execKeyUpdate a0 a1 s) := by
  unfold execKeyUpdate
  apply keeps_next
  simp [hull_mk, hull_ite, forEach_hull, foldl_hull, takeFree_hull, withSite_hull]

theorem execHeartbeat_keeps (a0 : Sys2Proof.Transport) (a1 : Nat) (s : Sys2Proof.Machine.State) : Keeps s (execHeartbeat a0 a1 s) := by
  unfold execHeartbeat
  apply keeps_next
  simp [hull_mk, hull_ite, forEach_hull, foldl_hull, takeFree_hull, withSite_hull]

theorem execEndSession_keeps (a0 : Sys2Proof.Transport) (a1 : Nat) (s : Sys2Proof.Machine.State) : Keeps s (execEndSession a0 a1 s) := by
  unfold execEndSession
  apply keeps_next
  simp [hull_mk, hull_ite, forEach_hull, foldl_hull, takeFree_hull, withSite_hull]

theorem execGetNonce_keeps (a0 : Sys2Proof.Transport) (a1 : Nat) (s : Sys2Proof.Machine.State) : Keeps s (execGetNonce a0 a1 s) := by
  unfold execGetNonce
  apply keeps_next
  simp [hull_mk, hull_ite, forEach_hull, foldl_hull, takeFree_hull, withSite_hull]

theorem execGetTransportCert_keeps (a0 : Sys2Proof.Transport) (a1 : Nat) (s : Sys2Proof.Machine.State) : Keeps s (execGetTransportCert a0 a1 s) := by
  unfold execGetTransportCert
  apply keeps_next
  dsimp only
  (repeat' split) <;> simp [hull_mk, hull_ite, forEach_hull, foldl_hull, takeFree_hull, withSite_hull]

theorem execSetFmKey_keeps (a0 : Sys2Proof.Transport) (a1 : Nat) (a2 : Sys2Proof.Token) (a3 : Nat) (a4 : Nat) (s : Sys2Proof.Machine.State) : Keeps s (execSetFmKey a0 a1 a2 a3 a4 s) := by
  unfold execSetFmKey
  apply keeps_next
  dsimp only
  (repeat' split) <;> simp [hull_mk, hull_ite, forEach_hull, foldl_hull, takeFree_hull, withSite_hull]

theorem execLedgerClear_keeps (a0 : Sys2Proof.Transport) (a1 : Nat) (a2 : Sys2Proof.Token) (s : Sys2Proof.Machine.State) : Keeps s (execLedgerClear a0 a1 a2 s) := by
  unfold execLedgerClear
  apply keeps_next
  dsimp only
  (repeat' split) <;> simp [hull_mk, hull_ite, forEach_hull, foldl_hull, takeFree_hull, withSite_hull]

theorem execDebugUnlock_keeps (a0 : Sys2Proof.Transport) (a1 : Nat) (a2 : Sys2Proof.Token) (s : Sys2Proof.Machine.State) : Keeps s (execDebugUnlock a0 a1 a2 s) := by
  unfold execDebugUnlock
  apply keeps_next
  dsimp only
  (repeat' split) <;> simp [hull_mk, hull_ite, forEach_hull, foldl_hull, takeFree_hull, withSite_hull]

theorem execGo_keeps (a0 : Option Sys2Proof.FwImage) (s : Sys2Proof.Machine.State) : Keeps s (execGo a0 s) := by
  unfold execGo
  apply keeps_next
  simp [hull_mk, hull_ite, forEach_hull, foldl_hull, takeFree_hull, withSite_hull]

theorem execGoPersist_keeps (a0 : Option Sys2Proof.FwImage) (a1 : Bool) (s : Sys2Proof.Machine.State) : Keeps s (execGoPersist a0 a1 s) := by
  unfold execGoPersist
  apply keeps_next
  simp [hull_mk, hull_ite, forEach_hull, foldl_hull, takeFree_hull, withSite_hull]

theorem execSqDoorbell_keeps (a0 : Nat) (a1 : Nat) (a2 : Nat) (s : Sys2Proof.Machine.State) : Keeps s (execSqDoorbell a0 a1 a2 s) := by
  unfold execSqDoorbell
  apply keeps_runUnit
  simp [hull_mk, hull_ite, forEach_hull, foldl_hull, takeFree_hull, withSite_hull]

theorem execCqHead_keeps (a0 : Nat) (a1 : Nat) (s : Sys2Proof.Machine.State) : Keeps s (execCqHead a0 a1 s) := by
  unfold execCqHead
  apply keeps_runUnit
  simp [hull_mk, hull_ite, forEach_hull, foldl_hull, takeFree_hull, withSite_hull]

theorem execMsgHead_keeps (a0 : Nat) (a1 : Nat) (s : Sys2Proof.Machine.State) : Keeps s (execMsgHead a0 a1 s) := by
  unfold execMsgHead
  apply keeps_runUnit
  simp [hull_mk, hull_ite, forEach_hull, foldl_hull, takeFree_hull, withSite_hull]

theorem execDescriptorFetch_keeps (a0 : Nat) (a1 : BitVec 512) (s : Sys2Proof.Machine.State) : Keeps s (execDescriptorFetch a0 a1 s) := by
  unfold execDescriptorFetch
  apply keeps_runUnit
  (repeat' split) <;> simp [hull_mk, hull_ite, forEach_hull, foldl_hull, takeFree_hull, withSite_hull]

theorem execHostNop_keeps (a0 : Nat) (s : Sys2Proof.Machine.State) : Keeps s (execHostNop a0 s) := by
  unfold execHostNop
  apply keeps_runUnit
  (repeat' split) <;> simp [hull_mk, hull_ite, forEach_hull, foldl_hull, takeFree_hull, withSite_hull]

theorem execHostDmaFault_keeps (a0 : Nat) (a1 : Bool) (a2 : Nat) (s : Sys2Proof.Machine.State) : Keeps s (execHostDmaFault a0 a1 a2 s) := by
  unfold execHostDmaFault
  apply keeps_runUnit
  dsimp only
  (repeat' split) <;> simp [hull_mk, hull_ite, forEach_hull, foldl_hull, takeFree_hull, withSite_hull]

theorem execCompletionWrite_keeps (a0 : Nat) (s : Sys2Proof.Machine.State) : Keeps s (execCompletionWrite a0 s) := by
  unfold execCompletionWrite
  apply keeps_runUnit
  dsimp only
  (repeat' split) <;> simp [hull_mk, hull_ite, forEach_hull, foldl_hull, takeFree_hull, withSite_hull]

theorem execMessageRecordPlace_keeps (a0 : Nat) (s : Sys2Proof.Machine.State) : Keeps s (execMessageRecordPlace a0 s) := by
  unfold execMessageRecordPlace
  apply keeps_runUnit
  dsimp only
  split
  · split
    · rfl
    · split
      · rfl
      · rename_i t ht
        rw [putCtx_hull]
        exact placeRec_hull _ _ _ _ _ ht
  · rfl

theorem execInterrupt_keeps (a0 : Nat) (a1 : Bool) (a2 : Bool) (s : Sys2Proof.Machine.State) : Keeps s (execInterrupt a0 a1 a2 s) := by
  unfold execInterrupt
  apply keeps_runUnit
  simp [hull_mk, hull_ite, forEach_hull, foldl_hull, takeFree_hull, withSite_hull]

theorem execStageImage_keeps (a0 : Nat) (a1 : Sys2Proof.Envelope) (s : Sys2Proof.Machine.State) : Keeps s (execStageImage a0 a1 s) := by
  unfold execStageImage
  apply keeps_runUnit
  (repeat' split) <;> simp [hull_mk, hull_ite, forEach_hull, foldl_hull, takeFree_hull, withSite_hull]

theorem execStageWpkg_keeps (a0 : Nat) (a1 : Sys2Proof.WpkgPiece) (s : Sys2Proof.Machine.State) : Keeps s (execStageWpkg a0 a1 s) := by
  unfold execStageWpkg
  apply keeps_runUnit
  (repeat' split) <;> simp [hull_mk, hull_ite, forEach_hull, foldl_hull, takeFree_hull, withSite_hull]

theorem execLoadLayout_keeps (a0 : Nat) (s : Sys2Proof.Machine.State) : Keeps s (execLoadLayout a0 s) := by
  unfold execLoadLayout
  apply keeps_runUnit
  (repeat' split) <;> simp [hull_mk, hull_ite, forEach_hull, foldl_hull, takeFree_hull, withSite_hull]

theorem execUnloadLayout_keeps (a0 : Nat) (s : Sys2Proof.Machine.State) : Keeps s (execUnloadLayout a0 s) := by
  unfold execUnloadLayout
  apply keeps_runUnit
  (repeat' split) <;> simp [hull_mk, hull_ite, forEach_hull, foldl_hull, takeFree_hull, withSite_hull]

theorem execReloadScale_keeps (a0 : Nat) (s : Sys2Proof.Machine.State) : Keeps s (execReloadScale a0 s) := by
  unfold execReloadScale
  apply keeps_runUnit
  (repeat' split) <;> simp [hull_mk, hull_ite, forEach_hull, foldl_hull, takeFree_hull, withSite_hull]

theorem execBindPeer_keeps (a0 : Nat) (s : Sys2Proof.Machine.State) : Keeps s (execBindPeer a0 s) := by
  unfold execBindPeer
  apply keeps_runUnit
  (repeat' split) <;> simp [hull_mk, hull_ite, forEach_hull, foldl_hull, takeFree_hull, withSite_hull]

theorem execSetPorts_keeps (a0 : Nat) (s : Sys2Proof.Machine.State) : Keeps s (execSetPorts a0 s) := by
  unfold execSetPorts
  apply keeps_runUnit
  (repeat' split) <;> simp [hull_mk, hull_ite, forEach_hull, foldl_hull, takeFree_hull, withSite_hull]

theorem execInfer_keeps (a0 : Nat) (a1 : Sys2Proof.InferIn) (s : Sys2Proof.Machine.State) : Keeps s (execInfer a0 a1 s) := by
  unfold execInfer
  apply keeps_runUnit
  (repeat' split) <;> simp [hull_mk, hull_ite, forEach_hull, foldl_hull, takeFree_hull, withSite_hull]

theorem execSessionOpen_keeps (a0 : Nat) (a1 : Sys2Proof.KeyBlob) (s : Sys2Proof.Machine.State) : Keeps s (execSessionOpen a0 a1 s) := by
  unfold execSessionOpen
  apply keeps_runUnit
  (repeat' split) <;> simp [hull_mk, hull_ite, forEach_hull, foldl_hull, takeFree_hull, withSite_hull]

theorem execSessionClose_keeps (a0 : Nat) (s : Sys2Proof.Machine.State) : Keeps s (execSessionClose a0 s) := by
  unfold execSessionClose
  apply keeps_runUnit
  dsimp only
  (repeat' split) <;> simp [hull_mk, hull_ite, forEach_hull, foldl_hull, takeFree_hull, withSite_hull]

theorem execStepSync_keeps (a0 : Nat) (s : Sys2Proof.Machine.State) : Keeps s (execStepSync a0 s) := by
  unfold execStepSync
  apply keeps_runUnit
  (repeat' split) <;> simp [hull_mk, hull_ite, forEach_hull, foldl_hull, takeFree_hull, withSite_hull]

theorem execFabRecord_keeps (a0 : ℕ) (a1 : Sys2Proof.SignedRec) (s : Sys2Proof.Machine.State) : Keeps s (execFabRecord a0 a1 s) := by
  unfold execFabRecord
  apply keeps_runUnit
  (repeat' split) <;> simp [hull_mk, hull_ite, forEach_hull, foldl_hull, takeFree_hull, withSite_hull]

theorem execLateReport_keeps (a0 : Nat) (s : Sys2Proof.Machine.State) : Keeps s (execLateReport a0 s) := by
  unfold execLateReport
  apply keeps_runUnit
  (repeat' split) <;> simp [hull_mk, hull_ite, forEach_hull, foldl_hull, takeFree_hull, withSite_hull]

theorem execStepSyncPulse_keeps (s : Sys2Proof.Machine.State) : Keeps s (execStepSyncPulse s) := by
  unfold execStepSyncPulse
  apply keeps_next
  simp [hull_mk, hull_ite, forEach_hull, foldl_hull, takeFree_hull, withSite_hull]

theorem execMicrobatchAdmit_keeps (a0 : Nat) (a1 : Bool) (s : Sys2Proof.Machine.State) : Keeps s (execMicrobatchAdmit a0 a1 s) := by
  unfold execMicrobatchAdmit
  apply keeps_runUnit
  (repeat' split) <;> simp [hull_mk, hull_ite, forEach_hull, foldl_hull, takeFree_hull, withSite_hull]

theorem execMicrobatchComplete_keeps (a0 : Nat) (s : Sys2Proof.Machine.State) : Keeps s (execMicrobatchComplete a0 s) := by
  unfold execMicrobatchComplete
  apply keeps_runUnit
  dsimp only
  (repeat' split) <;> simp [hull_mk, hull_ite, forEach_hull, foldl_hull, takeFree_hull, withSite_hull]

theorem execScaleClose_keeps (a0 : Nat) (s : Sys2Proof.Machine.State) : Keeps s (execScaleClose a0 s) := by
  unfold execScaleClose
  apply keeps_runUnit
  dsimp only
  (repeat' split) <;> simp [hull_mk, hull_ite, forEach_hull, foldl_hull, takeFree_hull, withSite_hull]

theorem execDieQuiesce_keeps (a0 : Nat) (s : Sys2Proof.Machine.State) : Keeps s (execDieQuiesce a0 s) := by
  unfold execDieQuiesce
  apply keeps_runUnit
  (repeat' split) <;> simp [hull_mk, hull_ite, forEach_hull, foldl_hull, takeFree_hull, withSite_hull]

theorem execQuiesceTimeout_keeps (a0 : Nat) (s : Sys2Proof.Machine.State) : Keeps s (execQuiesceTimeout a0 s) := by
  unfold execQuiesceTimeout
  apply keeps_runUnit
  (repeat' split) <;> simp [hull_mk, hull_ite, forEach_hull, foldl_hull, takeFree_hull, withSite_hull]

theorem execStationResume_keeps (a0 : Nat) (a1 : Bool) (s : Sys2Proof.Machine.State) : Keeps s (execStationResume a0 a1 s) := by
  unfold execStationResume
  apply keeps_runUnit
  (repeat' split) <;> simp [hull_mk, hull_ite, forEach_hull, foldl_hull, takeFree_hull, withSite_hull]

theorem execCorePllRelock_keeps (a0 : Nat) (s : Sys2Proof.Machine.State) : Keeps s (execCorePllRelock a0 s) := by
  unfold execCorePllRelock
  apply keeps_runUnit
  (repeat' split) <;> simp [hull_mk, hull_ite, forEach_hull, foldl_hull, takeFree_hull, withSite_hull]

theorem execProofRunComplete_keeps (a0 : Nat) (a1 : Bool) (a2 : Bool) (s : Sys2Proof.Machine.State) : Keeps s (execProofRunComplete a0 a1 a2 s) := by
  unfold execProofRunComplete
  apply keeps_runUnit
  (repeat' split) <;> simp [hull_mk, hull_ite, forEach_hull, foldl_hull, takeFree_hull, withSite_hull]

theorem execCarryCopyComplete_keeps (a0 : Nat) (a1 : Bool) (s : Sys2Proof.Machine.State) : Keeps s (execCarryCopyComplete a0 a1 s) := by
  unfold execCarryCopyComplete
  apply keeps_next
  (repeat' split) <;> simp [hull_mk, hull_ite, forEach_hull, foldl_hull, takeFree_hull, withSite_hull]

theorem execIdleSweepStep_keeps (a0 : Nat) (s : Sys2Proof.Machine.State) : Keeps s (execIdleSweepStep a0 s) := by
  unfold execIdleSweepStep
  apply keeps_runUnit
  (repeat' split) <;> simp [hull_mk, hull_ite, forEach_hull, foldl_hull, takeFree_hull, withSite_hull]

theorem execPriorityTest_keeps (a0 : Nat) (s : Sys2Proof.Machine.State) : Keeps s (execPriorityTest a0 s) := by
  unfold execPriorityTest
  apply keeps_runUnit
  dsimp only
  (repeat' split) <;> simp [hull_mk, hull_ite, forEach_hull, foldl_hull, takeFree_hull, withSite_hull]

theorem execIdleTest_keeps (a0 : Nat) (a1 : Bool) (s : Sys2Proof.Machine.State) : Keeps s (execIdleTest a0 a1 s) := by
  unfold execIdleTest
  apply keeps_runUnit
  (repeat' split) <;> simp [hull_mk, hull_ite, forEach_hull, foldl_hull, takeFree_hull, withSite_hull]

theorem execCheckCompare_keeps (a0 : Bool) (s : Sys2Proof.Machine.State) : Keeps s (execCheckCompare a0 s) := by
  unfold execCheckCompare
  apply keeps_next
  (repeat' split) <;> simp [hull_mk, hull_ite, forEach_hull, foldl_hull, takeFree_hull, withSite_hull]

theorem execThirdCoreResult_keeps (a0 : Sys2Proof.ThirdEq) (s : Sys2Proof.Machine.State) : Keeps s (execThirdCoreResult a0 s) := by
  unfold execThirdCoreResult
  apply keeps_next
  split
  · rfl
  dsimp only
  (repeat' split) <;> simp [hull_mk, hull_ite, forEach_hull, foldl_hull, takeFree_hull, withSite_hull]

theorem execCheckTimeout_keeps (s : Sys2Proof.Machine.State) : Keeps s (execCheckTimeout s) := by
  unfold execCheckTimeout
  apply keeps_next
  (repeat' split) <;> simp [hull_mk, hull_ite, forEach_hull, foldl_hull, takeFree_hull, withSite_hull]

theorem execAgingMonitorRead_keeps (a0 : List Nat) (s : Sys2Proof.Machine.State) : Keeps s (execAgingMonitorRead a0 s) := by
  unfold execAgingMonitorRead
  split
  · exact keeps_next (by simp [forEach_hull])
  · exact keeps_fault _ _

theorem execWeightRefill_keeps (s : Sys2Proof.Machine.State) : Keeps s (execWeightRefill s) := by
  unfold execWeightRefill
  apply keeps_next
  (repeat' split) <;> simp [hull_mk, hull_ite, forEach_hull, foldl_hull, takeFree_hull, withSite_hull]

theorem execShardSweep_keeps (a0 : Nat) (a1 : Nat) (s : Sys2Proof.Machine.State) : Keeps s (execShardSweep a0 a1 s) := by
  unfold execShardSweep
  apply keeps_runUnit
  (repeat' split) <;> simp [hull_mk, hull_ite, forEach_hull, foldl_hull, takeFree_hull, withSite_hull]

theorem execShardReloaded_keeps (a0 : Nat) (a1 : Nat) (a2 : List Sys2Proof.Byte) (s : Sys2Proof.Machine.State) : Keeps s (execShardReloaded a0 a1 a2 s) := by
  unfold execShardReloaded
  apply keeps_runUnit
  (repeat' split) <;> simp [hull_mk, hull_ite, forEach_hull, foldl_hull, takeFree_hull, withSite_hull]

theorem execRetire_keeps (a0 : Nat) (s : Sys2Proof.Machine.State) : Keeps s (execRetire a0 s) := by
  unfold execRetire
  apply keeps_runUnit
  (repeat' split) <;> simp [hull_mk, hull_ite, forEach_hull, foldl_hull, takeFree_hull, withSite_hull]

theorem execLedgerRecordWritten_keeps (s : Sys2Proof.Machine.State) : Keeps s (execLedgerRecordWritten s) := by
  unfold execLedgerRecordWritten
  apply keeps_next
  (repeat' split) <;> simp [hull_mk, hull_ite, forEach_hull, foldl_hull, takeFree_hull, withSite_hull]

theorem execLedgerCompaction_keeps (s : Sys2Proof.Machine.State) : Keeps s (execLedgerCompaction s) := by
  unfold execLedgerCompaction
  apply keeps_next
  simp [hull_mk, hull_ite, forEach_hull, foldl_hull, takeFree_hull, withSite_hull]

theorem execDumpRecordDeliver_keeps (a0 : Nat) (s : Sys2Proof.Machine.State) : Keeps s (execDumpRecordDeliver a0 s) := by
  unfold execDumpRecordDeliver
  apply keeps_runUnit
  (repeat' split) <;> simp [hull_mk, hull_ite, forEach_hull, foldl_hull, takeFree_hull, withSite_hull]

theorem execDebugDump_keeps (a0 : Nat) (a1 : Sys2Proof.DumpAuth) (s : Sys2Proof.Machine.State) : Keeps s (execDebugDump a0 a1 s) := by
  unfold execDebugDump
  apply keeps_runUnit
  (repeat' split) <;> simp [hull_mk, hull_ite, forEach_hull, foldl_hull, takeFree_hull, withSite_hull]

theorem execArmLapse_keeps (a0 : Nat) (s : Sys2Proof.Machine.State) : Keeps s (execArmLapse a0 s) := by
  unfold execArmLapse
  apply keeps_runUnit
  simp [hull_mk, hull_ite, forEach_hull, foldl_hull, takeFree_hull, withSite_hull]

theorem execPartialDrainComplete_keeps (s : Sys2Proof.Machine.State) : Keeps s (execPartialDrainComplete s) := by
  unfold execPartialDrainComplete
  apply keeps_next
  (repeat' split) <;> simp [hull_mk, hull_ite, forEach_hull, foldl_hull, takeFree_hull, withSite_hull]

theorem execBasinReset_keeps (s : Sys2Proof.Machine.State) : Keeps s (execBasinReset s) := by
  unfold execBasinReset
  apply keeps_next
  (repeat' split) <;> simp [hull_mk, hull_ite, forEach_hull, foldl_hull, takeFree_hull, withSite_hull]

theorem execDumpCollectComplete_keeps (a0 : Bool) (s : Sys2Proof.Machine.State) : Keeps s (execDumpCollectComplete a0 s) := by
  unfold execDumpCollectComplete
  apply keeps_next
  (repeat' split) <;> simp [hull_mk, hull_ite, forEach_hull, foldl_hull, takeFree_hull, withSite_hull]

theorem execBasinReady_keeps (s : Sys2Proof.Machine.State) : Keeps s (execBasinReady s) := by
  unfold execBasinReady
  apply keeps_next
  (repeat' split) <;> simp [hull_mk, hull_ite, forEach_hull, foldl_hull, takeFree_hull, withSite_hull]

theorem execCoreMxSnap_keeps (s : Sys2Proof.Machine.State) : Keeps s (execCoreMxSnap s) := by
  unfold execCoreMxSnap
  apply keeps_next
  simp [hull_mk, hull_ite, forEach_hull, foldl_hull, takeFree_hull, withSite_hull]

theorem execCoreVcSnap_keeps (s : Sys2Proof.Machine.State) : Keeps s (execCoreVcSnap s) := by
  unfold execCoreVcSnap
  apply keeps_next
  simp [hull_mk, hull_ite, forEach_hull, foldl_hull, takeFree_hull, withSite_hull]

theorem execCoreSpSnap_keeps (s : Sys2Proof.Machine.State) : Keeps s (execCoreSpSnap s) := by
  unfold execCoreSpSnap
  apply keeps_next
  simp [hull_mk, hull_ite, forEach_hull, foldl_hull, takeFree_hull, withSite_hull]

theorem execCoreChSnap_keeps (s : Sys2Proof.Machine.State) : Keeps s (execCoreChSnap s) := by
  unfold execCoreChSnap
  apply keeps_next
  simp [hull_mk, hull_ite, forEach_hull, foldl_hull, takeFree_hull, withSite_hull]

theorem execMeshSnap_keeps (s : Sys2Proof.Machine.State) : Keeps s (execMeshSnap s) := by
  unfold execMeshSnap
  apply keeps_next
  simp [hull_mk, hull_ite, forEach_hull, foldl_hull, takeFree_hull, withSite_hull]

theorem execHbmSnap_keeps (a0 : Nat) (s : Sys2Proof.Machine.State) : Keeps s (execHbmSnap a0 s) := by
  unfold execHbmSnap
  apply keeps_runUnit
  simp [hull_mk, hull_ite, forEach_hull, foldl_hull, takeFree_hull, withSite_hull]

theorem execFabSnap_keeps (s : Sys2Proof.Machine.State) : Keeps s (execFabSnap s) := by
  unfold execFabSnap
  apply keeps_next
  simp [hull_mk, hull_ite, forEach_hull, foldl_hull, takeFree_hull, withSite_hull]

theorem execTstSnap_keeps (s : Sys2Proof.Machine.State) : Keeps s (execTstSnap s) := by
  unfold execTstSnap
  apply keeps_next
  simp [hull_mk, hull_ite, forEach_hull, foldl_hull, takeFree_hull, withSite_hull]

theorem execMeshApply_keeps (s : Sys2Proof.Machine.State) : Keeps s (execMeshApply s) := by
  unfold execMeshApply
  apply keeps_next
  simp [hull_mk, hull_ite, forEach_hull, foldl_hull, takeFree_hull, withSite_hull]

theorem execChanWdogWrite_keeps (a0 : Nat) (a1 : Sys2Proof.W64) (s : Sys2Proof.Machine.State) : Keeps s (execChanWdogWrite a0 a1 s) := by
  unfold execChanWdogWrite
  apply keeps_runUnit
  simp [hull_mk, hull_ite, forEach_hull, foldl_hull, takeFree_hull, withSite_hull]

theorem execGlbAlertWrite_keeps (a0 : Bool) (a1 : Sys2Proof.W64) (s : Sys2Proof.Machine.State) : Keeps s (execGlbAlertWrite a0 a1 s) := by
  unfold execGlbAlertWrite
  apply keeps_next
  (repeat' split) <;> simp [hull_mk, hull_ite, forEach_hull, foldl_hull, takeFree_hull, withSite_hull]

theorem execCoreWindowAccess_keeps (a0 : Bool) (a1 : Nat) (a2 : Bool) (s : Sys2Proof.Machine.State) : Keeps s (execCoreWindowAccess a0 a1 a2 s) := by
  unfold execCoreWindowAccess
  apply keeps_next
  simp [hull_mk, hull_ite, forEach_hull, foldl_hull, takeFree_hull, withSite_hull]

theorem execControlPacket_keeps (a0 : Sys2Proof.W64) (a1 : List Sys2Proof.W64) (a2 a3 : ℕ) (s : Sys2Proof.Machine.State) : Keeps s (execControlPacket a0 a1 a2 a3 s) := by
  unfold execControlPacket
  apply keeps_runUnit
  simp [hull_mk, hull_ite, forEach_hull, foldl_hull, takeFree_hull, withSite_hull]

theorem execRegisterWrite_keeps (a0 : ℕ) (a1 : ℕ) (a2 : Sys2Proof.W64) (a3 : Sys2Proof.WriteIn) (s : Sys2Proof.Machine.State) : Keeps s (execRegisterWrite a0 a1 a2 a3 s) := by
  unfold execRegisterWrite
  apply keeps_next
  simp [hull_mk, hull_ite, forEach_hull, foldl_hull, takeFree_hull, withSite_hull]

theorem execStackRailFault_keeps (a0 : ℕ) (a1 : Sys2Proof.Gapping Bool) (s : Sys2Proof.Machine.State) : Keeps s (execStackRailFault a0 a1 s) := by
  unfold execStackRailFault
  apply keeps_runUnit
  (repeat' split) <;> simp [hull_mk, hull_ite, forEach_hull, foldl_hull, takeFree_hull, withSite_hull]

theorem execThermalThrottle_keeps (a0 : Nat) (a1 : Nat) (a2 : ℤ) (s : Sys2Proof.Machine.State) : Keeps s (execThermalThrottle a0 a1 a2 s) := by
  unfold execThermalThrottle
  split
  · exact keeps_fault _ _
  · apply keeps_runUnit
    dsimp only
    split
    · rfl
    · simp

theorem execHbmThermalThrottle_keeps (a0 : Nat) (a1 : ℤ) (s : Sys2Proof.Machine.State) : Keeps s (execHbmThermalThrottle a0 a1 s) := by
  unfold execHbmThermalThrottle
  apply keeps_runUnit
  simp [hull_mk, hull_ite, forEach_hull, foldl_hull, takeFree_hull, withSite_hull]

theorem execRefClockLost_keeps (s : Sys2Proof.Machine.State) : Keeps s (execRefClockLost s) := by
  unfold execRefClockLost
  apply keeps_next
  simp [hull_mk, hull_ite, forEach_hull, foldl_hull, takeFree_hull, withSite_hull]

theorem execRefClockRestored_keeps (s : Sys2Proof.Machine.State) : Keeps s (execRefClockRestored s) := by
  unfold execRefClockRestored
  apply keeps_next
  simp [hull_mk, hull_ite, forEach_hull, foldl_hull, takeFree_hull, withSite_hull]

theorem execFastClockStart_keeps (a0 : Nat) (a1 : Sys2Proof.ClockSel) (s : Sys2Proof.Machine.State) : Keeps s (execFastClockStart a0 a1 s) := by
  unfold execFastClockStart
  apply keeps_runUnit
  (repeat' split) <;> simp [hull_mk, hull_ite, forEach_hull, foldl_hull, takeFree_hull, withSite_hull]

theorem execFastClockStop_keeps (a0 : Nat) (a1 : Sys2Proof.ClockSel) (s : Sys2Proof.Machine.State) : Keeps s (execFastClockStop a0 a1 s) := by
  unfold execFastClockStop
  apply keeps_runUnit
  (repeat' split) <;> simp [hull_mk, hull_ite, forEach_hull, foldl_hull, takeFree_hull, withSite_hull]

theorem execSettingsRead_keeps (s : Sys2Proof.Machine.State) : Keeps s (execSettingsRead s) := by
  unfold execSettingsRead
  apply keeps_next
  simp [hull_mk, hull_ite, forEach_hull, foldl_hull, takeFree_hull, withSite_hull]

theorem execSettingsWrite_keeps (a0 : Nat) (a1 : Nat) (a2 : Nat) (a3 : List (Nat × Nat)) (s : Sys2Proof.Machine.State) : Keeps s (execSettingsWrite a0 a1 a2 a3 s) := by
  unfold execSettingsWrite
  apply keeps_next
  simp [hull_mk, hull_ite, forEach_hull, foldl_hull, takeFree_hull, withSite_hull]

theorem execStartupClear_keeps (s : Sys2Proof.Machine.State) : Keeps s (execStartupClear s) := by
  unfold execStartupClear
  apply keeps_next
  simp [hull_mk, hull_ite, forEach_hull, foldl_hull, takeFree_hull, withSite_hull]

theorem execHostLinkTraining_keeps (a0 : Nat) (a1 : Nat) (a2 : Bool) (s : Sys2Proof.Machine.State) : Keeps s (execHostLinkTraining a0 a1 a2 s) := by
  unfold execHostLinkTraining
  apply keeps_next
  simp [hull_mk, hull_ite, forEach_hull, foldl_hull, takeFree_hull, withSite_hull]

theorem execMctpEndpointIdAssign_keeps (a0 : Nat) (s : Sys2Proof.Machine.State) : Keeps s (execMctpEndpointIdAssign a0 s) := by
  unfold execMctpEndpointIdAssign
  apply keeps_next
  simp [hull_mk, hull_ite, forEach_hull, foldl_hull, takeFree_hull, withSite_hull]

theorem execCongestionMap_keeps (a0 : List Nat) (s : Sys2Proof.Machine.State) : Keeps s (execCongestionMap a0 s) := by
  unfold execCongestionMap
  apply keeps_next
  simp [hull_mk, hull_ite, forEach_hull, foldl_hull, takeFree_hull, withSite_hull]

theorem execPowerThermal_keeps (a0 : Nat) (a1 : Nat) (a2 : Nat) (s : Sys2Proof.Machine.State) : Keeps s (execPowerThermal a0 a1 a2 s) := by
  unfold execPowerThermal
  apply keeps_next
  simp [hull_mk, hull_ite, forEach_hull, foldl_hull, takeFree_hull, withSite_hull]

theorem execGroupCounters_keeps (s : Sys2Proof.Machine.State) : Keeps s (execGroupCounters s) := by
  unfold execGroupCounters
  apply keeps_next
  simp [hull_mk, hull_ite, forEach_hull, foldl_hull, takeFree_hull, withSite_hull]

theorem execTelemRead_keeps (a0 : Nat) (a1 : Nat) (s : Sys2Proof.Machine.State) : Keeps s (execTelemRead a0 a1 s) := by
  unfold execTelemRead
  apply keeps_next
  (repeat' split) <;> simp [hull_mk, hull_ite, forEach_hull, foldl_hull, takeFree_hull, withSite_hull]

theorem execTelemSubscribe_keeps (a0 : Nat) (a1 : Nat) (s : Sys2Proof.Machine.State) : Keeps s (execTelemSubscribe a0 a1 s) := by
  unfold execTelemSubscribe
  apply keeps_next
  simp [hull_mk, hull_ite, forEach_hull, foldl_hull, takeFree_hull, withSite_hull]

theorem execLateRequest_keeps (a0 : Nat) (s : Sys2Proof.Machine.State) : Keeps s (execLateRequest a0 s) := by
  unfold execLateRequest
  apply keeps_next
  simp [hull_mk, hull_ite, forEach_hull, foldl_hull, takeFree_hull, withSite_hull]

theorem execTelemetryPushTimeout_keeps (s : Sys2Proof.Machine.State) : Keeps s (execTelemetryPushTimeout s) := by
  unfold execTelemetryPushTimeout
  apply keeps_next
  simp [hull_mk, hull_ite, forEach_hull, foldl_hull, takeFree_hull, withSite_hull]

/-! ### The commands that act on the power entry and on start-up: what they share -/

theorem halt_pending (s : State) (p : Phase) (k : Bool) : (haltModule s p k).pending = s.pending :=
  congrArg Hull.pending (stopPush_hull s)
theorem halt_fuse (s : State) (p : Phase) (k : Bool) : (haltModule s p k).fuse = s.fuse :=
  congrArg Hull.fuse (stopPush_hull s)
theorem halt_jtag (s : State) (p : Phase) (k : Bool) : (haltModule s p k).jtag = s.jtag :=
  congrArg Hull.jtag (stopPush_hull s)
theorem halt_main (s : State) (p : Phase) (k : Bool) : (haltModule s p k).pwr.mainRails = s.pwr.mainRails :=
  congrArg Hull.mainRails (stopPush_hull s)
theorem halt_aon (s : State) (p : Phase) (k : Bool) : (haltModule s p k).pwr.aonRail = s.pwr.aonRail :=
  congrArg Hull.aonRail (stopPush_hull s)
theorem halt_fault (s : State) (p : Phase) (k : Bool) : (haltModule s p k).pwr.faultLatched = s.pwr.faultLatched :=
  congrArg Hull.faultLatched (stopPush_hull s)
theorem halt_perst (s : State) (p : Phase) (k : Bool) : (haltModule s p k).pwr.perstN = s.pwr.perstN :=
  congrArg Hull.perstN (stopPush_hull s)
theorem halt_phase (s : State) (p : Phase) (k : Bool) : (haltModule s p k).sup.phase = p := rfl
theorem halt_ready (s : State) (p : Phase) (k : Bool) : (haltModule s p k).glb.ready = false := rfl

theorem setReady_facts (s : State) : hull (setReady s) = { hull s with phase := .ready, ready := true } := by
  unfold setReady
  have e : hull (forEach (List.range 16) (fun s b => putBasin s b { basinAt s b with clearing := true }) s) = hull s :=
    forEach_hull _ _ _ (by simp)
  simp only [hull, Hull.mk.injEq] at e
  obtain ⟨h1, h2, h3, h4, h5, h6, h7, h8, h9⟩ := e
  simp [hull, *]
theorem runImage_facts (s : State) (i : FwImage) (k : Nat) (b : BootIn) :
    hull (runImage s i k b) = { hull s with phase := .ready, ready := true } := by
  unfold runImage
  dsimp only
  rw [setReady_facts, trainStacks_hull, loadTables_hull, startClocks_hull, buildMap_hull, loadSettings_hull]
  rfl
theorem perst_facts (s : State) : hull (perstHigh s) = { hull s with perstN := true, jtag := if JtagIr.drives s.jtag.actsAs then { s.jtag with actsAs := .bypass, pinsDriven := false } else s.jtag } := rfl

end Sys2Proof.Machine
end

