-- ==== Sys2Proof/Laws/Memory.lean ====
section
/-! SUPPORT. The memories: a byte read after a write, and the canonical form kept by every operation that writes. -/

namespace Sys2Proof.Machine

/-! ### Canonical form -/

theorem memWfFrom_mono {a b : Nat} {m : Mem} (h : memWfFrom b m = true) (hab : a ≤ b) : memWfFrom a m = true := by
  cases m with
  | nil => rfl
  | cons c t =>
    obtain ⟨j, v⟩ := c
    simp only [memWfFrom, Bool.and_eq_true, decide_eq_true_eq] at *
    exact ⟨⟨by omega, h.1.2⟩, h.2⟩

theorem memWfFrom_filter (p : Host.Cell → Bool) (a : Nat) (m : Mem) (h : memWfFrom a m = true) :
    memWfFrom a (m.filter p) = true := by
  induction m generalizing a with
  | nil => rfl
  | cons c t ih =>
    obtain ⟨j, v⟩ := c
    simp only [memWfFrom, Bool.and_eq_true, decide_eq_true_eq] at h
    rw [List.filter_cons]
    split
    · simp only [memWfFrom, Bool.and_eq_true, decide_eq_true_eq]
      exact ⟨h.1, ih _ h.2⟩
    · exact memWfFrom_mono (ih _ h.2) (by omega)

theorem memWfFrom_memSet (l : Nat) (m : Mem) (a : Nat) (v : Byte) (h : memWfFrom l m = true) (ha : l ≤ a) :
    memWfFrom l (memSet m a v) = true := by
  induction m generalizing l with
  | nil =>
    unfold memSet
    split
    · rfl
    · simp only [memWfFrom, Bool.and_eq_true, decide_eq_true_eq]; exact ⟨⟨ha, by assumption⟩, trivial⟩
  | cons c t ih =>
    obtain ⟨j, w⟩ := c
    have h0 := h
    simp only [memWfFrom, Bool.and_eq_true, decide_eq_true_eq] at h
    unfold memSet
    split
    · split
      · simp only [memWfFrom, Bool.and_eq_true, decide_eq_true_eq]
        exact ⟨h.1, memWfFrom_filter _ _ _ h.2⟩
      · simp only [memWfFrom, Bool.and_eq_true, decide_eq_true_eq]
        exact ⟨⟨ha, by assumption⟩, ⟨by omega, h.1.2⟩, h.2⟩
    · split
      · split
        · exact memWfFrom_mono (memWfFrom_filter _ _ _ h.2) (by omega)
        · subst_vars
          simp only [memWfFrom, Bool.and_eq_true, decide_eq_true_eq]
          exact ⟨⟨ha, by assumption⟩, h.2⟩
      · simp only [memWfFrom, Bool.and_eq_true, decide_eq_true_eq]
        exact ⟨h.1, ih _ h.2 (by omega)⟩

/-- A byte written keeps the canonical form. -/
theorem memSet_wf (m : Mem) (a : Nat) (v : Byte) (h : Memory.wf m = true) : Memory.wf (memSet m a v) = true :=
  memWfFrom_memSet 0 m a v h (Nat.zero_le _)

/-- Bytes written keep the canonical form. -/
theorem memWrite_wf (m : Mem) (a : Nat) (l : List Byte) (h : Memory.wf m = true) : Memory.wf (memWrite m a l) = true := by
  induction l generalizing m a with
  | nil => exact h
  | cons b t ih => exact ih _ _ (memSet_wf m a b h)

/-- A cleared range keeps the canonical form. -/
theorem memClear_wf (m : Mem) (a n : Nat) (h : Memory.wf m = true) : Memory.wf (memClear m a n) = true :=
  memWfFrom_filter _ 0 m h

/-- Cells written one after another keep the canonical form. -/
theorem memSets_wf (m : Mem) (l : List Host.Cell) (h : Memory.wf m = true) :
    Memory.wf (l.foldl (fun m e => memSet m e.1 e.2) m) = true := by
  induction l generalizing m with
  | nil => exact h
  | cons c t ih => exact ih _ (memSet_wf _ _ _ h)

/-- Memory with nothing listed, as reset leaves it, is in the canonical form. -/
theorem nil_wf : Memory.wf [] = true := rfl

/-- Every memory of the reset state is in the canonical form. -/
theorem reset_memories (k : Nat) : Memory.wf (coreAt State.reset k).mem = true ∧ Memory.wf (hbmAt State.reset k).mem = true :=
  ⟨rfl, rfl⟩

/-! ### Reading after a write -/

theorem memGet_below {l : Nat} {m : Mem} (h : memWfFrom l m = true) {a : Nat} (ha : a < l) : memGet m a = 0 := by
  induction m generalizing l with
  | nil => rfl
  | cons c t ih =>
    obtain ⟨j, w⟩ := c
    simp only [memWfFrom, Bool.and_eq_true, decide_eq_true_eq] at h
    simp only [memGet]
    rw [if_neg (by omega)]
    exact ih h.2 (by omega)

theorem memGet_filter_ne (m : Mem) (a b : Nat) : memGet (m.filter (fun c => c.1 != a)) b = if b = a then 0 else memGet m b := by
  induction m with
  | nil => simp [memGet]
  | cons c t ih =>
    obtain ⟨j, w⟩ := c
    by_cases hj : j = a
    · subst hj
      simp only [bne_self_eq_false, Bool.false_eq_true, not_false_eq_true, List.filter_cons_of_neg, ih, memGet]
      split
      · rfl
      · rw [if_neg (by omega)]
    · have : (j != a) = true := by simp [hj]
      rw [List.filter_cons_of_pos (by simpa using hj)]
      simp only [memGet, ih]
      by_cases hb : b = a
      · subst hb; simp [hj]
      · simp [hb]

/-- A byte reads as it was last written, and no other byte changes. -/
theorem memGet_memSet (m : Mem) (a b : Nat) (v : Byte) : memGet (memSet m a v) b = if b = a then v else memGet m b := by
  induction m with
  | nil =>
    unfold memSet
    split
    · subst_vars; simp [memGet]
    · simp only [memGet]; split <;> split <;> first | rfl | omega
  | cons c t ih =>
    obtain ⟨j, w⟩ := c
    unfold memSet
    split
    · split
      · subst_vars
        simp only [memGet, memGet_filter_ne]
        by_cases hb : b = a
        · subst hb; rw [if_neg (show ¬ j = b by omega)]; simp
        · simp [hb]
      · simp only [memGet]
        by_cases hb : b = a
        · simp [hb]
        · rw [if_neg (by omega), if_neg hb]
    · split
      · split
        · subst_vars
          rw [memGet_filter_ne]
          simp only [memGet]
          by_cases hb : b = j
          · simp [hb]
          · rw [if_neg hb, if_neg hb, if_neg (by omega)]
        · subst_vars
          simp only [memGet]
          by_cases hb : b = j
          · simp [hb]
          · rw [if_neg (by omega), if_neg hb, if_neg (by omega)]
      · simp only [memGet, ih]
        by_cases hb : b = a
        · subst hb; rw [if_neg (by omega)]; simp
        · simp [hb]

@[simp] theorem memGet_memSet_self (m : Mem) (a : Nat) (v : Byte) : memGet (memSet m a v) a = v := by simp [memGet_memSet]

/-- A write elsewhere. -/
theorem memGet_memSet_ne (m : Mem) {a b : Nat} (v : Byte) (h : b ≠ a) : memGet (memSet m a v) b = memGet m b := by
  simp [memGet_memSet, h]

/-- A byte in a cleared range reads 0. -/
theorem memGet_memClear (m : Mem) (a n b : Nat) : memGet (memClear m a n) b = if a ≤ b ∧ b < a + n then 0 else memGet m b := by
  unfold memClear
  induction m with
  | nil => simp [memGet]
  | cons c t ih =>
    obtain ⟨j, w⟩ := c
    rw [List.filter_cons]
    split
    · rename_i hc
      simp only [decide_eq_true_eq] at hc
      simp only [memGet, ih]
      by_cases hj : j = b
      · subst hj; rw [if_pos rfl, if_pos rfl, if_neg (by omega)]
      · rw [if_neg hj, if_neg hj]
    · rename_i hc
      simp only [decide_eq_true_eq] at hc
      rw [ih]
      by_cases hb : a ≤ b ∧ b < a + n
      · simp [hb]
      · rw [if_neg hb, if_neg hb]; simp only [memGet]; rw [if_neg (by omega)]

end Sys2Proof.Machine
end

