-- ==== Sys2Proof/Tests/Slice0.lean ====
section
/-! SUPPORT. Tests: ill-formed commands that the check refuses, worked examples of the spec, and for each statement states and
operands that meet its hypotheses, clause by clause. -/

namespace Sys2Proof.Tests

open Machine

-- One theorem after another: checked side by side, the tests ask for more memory than a check may use.
set_option Elab.async false

/-! ### Small states -/

/-- A layout of one basin with 4 microbatches a step. -/
def lay : Layout :=
  { format := 1, basins := 1, mode := 0, dither := false, headroom := 0, winL := 0, part := 0, parts := 1, stepMb := 16,
    mbTokens := 4, slots := 1, seed := 0, desig := [], digest := 0, imageDigest := 0, stations := [], mcast := [],
    redgroup := [], syncobj := [], scaleEnt := [], groups := [], experts := [], reconv := [], sections := [], peers := [],
    map := [0], fired := [], idxRegs := [], held := false, stopped := false, replace := false, running := true }

/-- A station with this code, every word of it an operation, fired twice a microbatch. -/
def sta (code : List (BitVec 128)) : Station :=
  { slot := 7, group := 0, firePerMb := 2, tileOwn := 0, lutOwn := 0, entry := [0xFFFF, 0], windows := [0, 0x4000], pages := [],
    inEp := [], outEp := [], rateIn := [], rateOut := [], scaleMap := [], wfill := [], code := code,
    marks := List.range code.length }

/-- An operation word (R195). -/
def word (op a b c d : Nat) : BitVec 128 := BitVec.ofNat 128 (op + a * 2 ^ 8 + b * 2 ^ 16 + c * 2 ^ 32 + d * 2 ^ 64)

/-- A core that runs this code in task slot 1. -/
def running (code : List (BitVec 128)) : Core :=
  { st := .inUse, slot := some 7, station := some (sta code), slots := [(1, { st := .running, firing := 3, mb := 1, step := 1 })],
    firing := 3, begun := 4, pages := [0, 1, 2, 3], bankOn := List.range 16 }

/-- Context 2, ACTIVE, holds basin 0 and runs the layout. -/
def active : State :=
  { State.reset with basins := [(0, { ctx := some 2 })],
                     ctxs := [(2, { st := .active, layout := some lay, act := { grant := 1 }, nextMb := 8 })] }

/-- Core 5 in basin 0. -/
def withCore (c : Core) : State := { active with cores := [(5, c)] }

/-- Core 5 runs this code in task slot 1. -/
def atWord (code : List (BitVec 128)) : State := withCore (running code)

/-- What a property says of the next state. -/
def next (p : State → Bool) : Host.Outcome State Fault Refusal → Bool
  | .next t => p t
  | .fault _ => false
  | .refused _ => false

/-- The outcome is this state. -/
def goesTo (t : State) (o : Host.Outcome State Fault Refusal) : Bool := next (fun u => decide (u = t)) o

/-! ### Station code -/

theorem test_witness_StationRegisterOps :
    IssuesAt (atWord [word 0 0 0 0 0]) 5 1 (word 0 0 0 0 0) ∧ opOp (word 0 0 0 0 0) = 0 ∧
    IssuesAt (atWord [word 7 3 0 0 9]) 5 1 (word 7 3 0 0 9) ∧ opOp (word 7 3 0 0 9) = 7 ∧ opA (word 7 3 0 0 9) ≤ 3 ∧
    IssuesAt (atWord [word 8 3 0 4 9]) 5 1 (word 8 3 0 4 9) ∧ opOp (word 8 3 0 4 9) = 8 ∧ opA (word 8 3 0 4 9) ≤ 3 ∧
    IssuesAt (atWord [word 10 3 0 0 1]) 5 1 (word 10 3 0 0 1) ∧ opOp (word 10 3 0 0 1) = 10 ∧ opA (word 10 3 0 0 1) ≤ 3 ∧
    opD (word 10 3 0 0 1) ≤ (idxAt (slotAt (running [word 10 3 0 0 1]) 1) 3 + 1 : W64).toNat ∧
    opC (word 10 3 0 0 1) < codeLen (running [word 10 3 0 0 1]) ∧ codeMarked (running [word 10 3 0 0 1]) 0 = true := by
  decide +kernel

theorem test_witness_StationRegisterOpsElse :
    IssuesAt (atWord [word 10 0 0 7 1]) 5 1 (word 10 0 0 7 1) ∧ opOp (word 10 0 0 7 1) = 10 ∧
    codeLen (running [word 10 0 0 7 1]) ≤ opC (word 10 0 0 7 1) ∧
    IssuesAt (atWord [word 10 0 0 0 2]) 5 1 (word 10 0 0 0 2) ∧
    (idxAt (slotAt (running [word 10 0 0 0 2]) 1) 0 + 1 : W64).toNat < opD (word 10 0 0 0 2) ∧
    opC (word 10 0 0 0 2) < codeLen (running [word 10 0 0 0 2]) ∧ codeMarked (running [word 10 0 0 0 2]) 0 = true ∧
    IssuesAt (atWord [word 6 5 31 0 0]) 5 1 (word 6 5 31 0 0) ∧ opOp (word 6 5 31 0 0) = 6 ∧
    opA (word 6 5 31 0 0) = 5 ∧ opB (word 6 5 31 0 0) ≤ 31 ∧
    waitCount (running [word 6 5 31 7 0]) 1 5 31 < opC (word 6 5 31 7 0) ∧
    (∀ r ∈ [none, some []], IssuesAt (withCore { running [word 6 5 31 7 0] with replay := r }) 5 1 (word 6 5 31 7 0)) ∧
    IssuesAt (atWord [word 6 4 0 1 0]) 5 1 (word 6 4 0 1 0) ∧ opA (word 6 4 0 1 0) ≤ 4 := by
  decide +kernel

/-- Core 5 stands at MXC with this many matrix commands queued. -/
def atMxc (n : Nat) : Core :=
  { running [word 1 0 0 0 0, 0, 0] with
      mxq := List.replicate n { cmd := 0, slot := 1, firing := 3, mb := 1, step := 1 } }

/-- Core 5 whose task slot 1 stands at a LOAD of streamer 0, with this many descriptors queued there. -/
def atSdc (n : Nat) : Core :=
  { running [word 3 0 0 0 0, 0, 0, 0, 0] with
      strm := [(0, { q := List.replicate n { d := 0, slot := 1, firing := 3, mb := 1, step := 1 } })] }

theorem test_witness_StationIssue :
    TurnOf (withCore (atMxc 15)) 5 1 (atMxc 15).mxRot 1 ∧ (atMxc 15).mxq.length < 16 ∧
    TurnOf (withCore (atMxc 16)) 5 1 (atMxc 16).mxRot 1 ∧ 16 ≤ (atMxc 16).mxq.length ∧
    TurnOf (atWord [word 2 0 0 0 0, 0, 0, 0, 0, 0, 0]) 5 2 7 1 ∧
    (readyFor (withCore (atSdc 7)) 5 (atSdc 7) 3 1 && !sdWaits (atSdc 7) 1) = true ∧
    rotPick (atSdc 7).sdRot (fun j => readyFor (withCore (atSdc 7)) 5 (atSdc 7) 3 j && !sdWaits (atSdc 7) j) = some 1 ∧
    TurnOf (withCore (atSdc 8)) 5 3 (atSdc 8).sdRot 1 ∧ sdValid 0 = true ∧
    (∀ j < 8, readyFor (withCore (atSdc 8)) 5 (atSdc 8) 3 j = true → sdWaits (atSdc 8) j = true) ∧
    TurnOf (atWord [word 3 0 0 0 0, 3, 0, 0, 0]) 5 3 7 1 ∧
    sdTranslate (atWord [word 3 0 0 0 0, 0, 0, 0, 0]) 5 (slotAt (running []) 1) 0 = some 0 ∧
    payload (running [word 3 0 0 0 0, 3, 0, 0, 0]) 1 4 = 3 ∧ sdFormOk 3 = false := by
  decide +kernel

theorem test_witness_StationAdjust :
    IssuesAt (atWord [word 9 4 (15 * 1024 + 16) 5 0, word 4 0 0 0 0, 0]) 5 1 (word 9 4 (15 * 1024 + 16) 5 0) ∧
    opOp (word 9 4 (15 * 1024 + 16) 5 0) = 9 ∧ adjSource (slotAt (running []) 1) 4 = some 3 ∧
    nextPay (running [word 9 4 (15 * 1024 + 16) 5 0, word 4 0 0 0 0, 0]) 3 1 = some 1 ∧ 16 + 16 ≤ 1 * 128 := by
  decide +kernel

/-- Core 5 stands at a send on outbound endpoint 31 of this configuration, with this credit and 1 KiB behind it. -/
def atSend (w : BitVec 128) (cfg credit : Nat) : Core :=
  { running [w, BitVec.ofNat 128 (2 ^ 40)] with outEp := [(31, { cfg := cfg, credit := [credit] })] }

theorem test_witness_StationSends :
    IssuesAt (withCore (atSend (word 5 31 0 0 77) (1 + 2 ^ 21) 1)) 5 1 (word 5 31 0 0 77) ∧
    outKind (outAt (atSend (word 5 31 0 0 77) (1 + 2 ^ 21) 1) 31) = 1 ∧
    outOwner (outAt (atSend (word 5 31 0 0 77) (1 + 2 ^ 21) 1) 31) = 1 ∧
    IssuesAt (withCore (atSend (word 4 31 0 0 0) (2 + 2 ^ 21) 0)) 5 1 (word 4 31 0 0 0) ∧
    outKind (outAt (atSend (word 4 31 0 0 0) (2 + 2 ^ 21) 0) 31) = 2 ∧
    payload (atSend (word 4 31 0 0 0) (2 + 2 ^ 21) 0) 1 1 = 2 ^ 40 ∧
    imgBasin (withCore (atSend (word 4 31 0 0 0) (2 + 2 ^ 21) 0)) 5 0 = some 0 := by
  decide +kernel

theorem test_witness_SendRefused :
    IssuesAt (withCore (atSend (word 5 31 0 0 77) 0 1)) 5 1 (word 5 31 0 0 77) ∧
    outKind (outAt (atSend (word 5 31 0 0 77) 0 1) 31) = 0 ∧
    outOwner (outAt (atSend (word 5 31 0 0 77) (1 + 2 ^ 22) 1) 31) ≠ 1 ∧
    outKind (outAt (atSend (word 5 31 0 0 77) (3 + 2 ^ 21) 1) 31) = 3 ∧
    outOwner (outAt (atSend (word 5 31 0 0 77) (3 + 2 ^ 21) 1) 31) = 1 := by
  decide +kernel

/-! ### Firings and synchronisation -/

theorem test_witness_StationEnd :
    IssuesAt (atWord [word 13 0 0 0 0]) 5 1 (word 13 0 0 0 0) ∧ opOp (word 13 0 0 0 0) = 0x0D ∧
    proofRun (atWord [word 13 0 0 0 0]) (dieOf 5) = false ∧ mayFire (atWord [word 13 0 0 0 0]) 5 (running [word 13 0 0 0 0]) 4 = true ∧
    mayFire (withCore { running [word 13 0 0 0 0] with stopAt := some 2 }) 5
      { running [word 13 0 0 0 0] with stopAt := some 2 } 4 = false ∧
    firstAt (running [word 13 0 0 0 0]) 1 4 = true ∧ (running []).check = none ∧ active.tst.checkCfg % 2 ^ 32 ≠ 0 ∧
    chooseChecker { atWord [word 13 0 0 0 0] with dies := (List.range 64).map (fun d => (d, { margin := 1 })) } 5 [dieOf 5] = none := by
  decide +kernel

theorem test_witness_StationDropReport :
    IssuesAt (atWord [word 12 0 2 0x3FF0 0]) 5 1 (word 12 0 2 0x3FF0 0) ∧ opOp (word 12 0 2 0x3FF0 0) = 0x0C ∧
    winOk (windowOf (running []) 1) 0x3FF0 16 = true ∧ banksOn (running []) 0x3FF0 16 = true := by
  decide +kernel

/-- Core 5 with its slot past firing 3, and an inbound endpoint that took this many messages in it, at a rate of 1. -/
def ended (n : Nat) : Core :=
  { running [] with slots := [(1, { st := .afterEnd, firing := 4 })], inEp := [(0, { cfg := 4 + 2 ^ 12, takenNow := [(3, n)] })],
                    station := some { sta [] with rateIn := [1] } }

theorem test_witness_FiringCompletes :
    (ended 1).station.isSome = true ∧ firesPerMb (ended 1) ≠ 0 ∧ (ended 1).firing < (ended 1).begun ∧
    slotsEnded (ended 1) 3 = true ∧ firingBusy (ended 1) 3 = false ∧ rateFaults (ended 1) 3 = [] ∧ (ended 1).replay = none ∧
    slotsEnded { ended 1 with replay := some [] } 3 = true ∧ firingBusy { ended 1 with replay := some [] } 3 = false ∧
    next (fun t => (coreAt t 5).firing == 4) (exec (.firingComplete 5) (withCore (ended 1))) = true := by
  decide +kernel

theorem test_witness_RateMismatch :
    (ended 2).station.isSome = true ∧ firesPerMb (ended 2) ≠ 0 ∧ (ended 2).firing < (ended 2).begun ∧
    slotsEnded (ended 2) 3 = true ∧ firingBusy (ended 2) 3 = false ∧ rateFaults (ended 2) 3 = [(1, 0, 0, 2, 1)] := by
  decide +kernel

/-- Core 5 stands at this SYNC operation on object 9 of image basin 0, arrived in phases up to 65535, released up to `last`. -/
def atSync (a last : Nat) : Core :=
  { running [word 11 a 9 3 0] with sync := [{ obj := syncKey 0 9, next := [(1, 65535)], last := [(1, last)] }] }

theorem test_witness_SyncOperations :
    (∀ a < 5, IssuesAt (withCore (atSync a 7)) 5 1 (word 11 a 9 3 0) ∧ opOp (word 11 a 9 3 0) = 0x0B ∧ opA (word 11 a 9 3 0) = a) ∧
    imgBasin (withCore (atSync 0 7)) 5 (bits 9 11 8) = some 0 ∧
    syncEntry (atSync 0 7) (syncKey 0 (bits 9 7 0)) =
      some ({ obj := syncKey 0 9, next := [(1, 65535)], last := [(1, 7)] }, atSync 0 7) ∧
    tabGet [(1, 65535)] 1 0 = tabGet [(1, 65535)] 1 0 ∧ tabGet [(1, 7)] 1 0 ≠ tabGet [(1, 65535)] 1 0 ∧
    tabGet [(1, 7)] 1 0 ≠ tabGet (tabSet [(1, 65535)] 1 ((65535 + 1) % 65536)) 1 0 := by
  decide +kernel

theorem test_witness_SyncReplayed :
    ∀ a < 5, IssuesAt (withCore { atSync a 7 with replay := some [] }) 5 1 (word 11 a 9 3 0) ∧ opA (word 11 a 9 3 0) = a := by
  decide +kernel

/-- A sync packet of core 5 to object 9 of basin 0. -/
def syp (type val : Nat) : SyncPkt :=
  { type := type, epoch := false, obj := 9, home := 0, slot := 7, tslot := 1, val := val, src := 5 }

/-- Basin 0 with object 9, slots 7 and 8 on the cores of their numbers, and one sync packet in the mesh. -/
def atEngine (x : SyncObj) (p : SyncPkt) : State :=
  { active with basins := [(0, { ctx := some 2, objs := [(9, x)],
                                 place := [(7, (16391, 16391, 16391)), (8, (16392, 16392, 16392))] })],
                mesh := { active.mesh with sync := [p] } }

/-- A barrier of two in phase 65535, with these arrivals. -/
def barrier (cur : List (Nat × Nat × Nat)) : SyncObj :=
  { isToken := false, replica := false, participants := 2, phase := 65535, count := 0, cur := cur, nxt := [], waiting := [],
    lastTick := 0 }

theorem test_witness_BarrierArrival :
    (∀ c ∈ [[], [(0, 7, 1)], [(0, 8, 2)]],
      SyncTakes (atEngine (barrier c) (syp 0 65535)) (syncFor (atEngine (barrier c) (syp 0 65535)) 0 0) (syp 0 65535) ∧
      objAt (atEngine (barrier c) (syp 0 65535)) 0 9 = some (barrier c)) ∧
    epOf (ctxAt active (ownerOf active 0)) = 0 ∧
    [(0, 7, 1)].contains (0, 7, 1) = true ∧ ([] : List (Nat × Nat × Nat)).contains (0, 7, 1) = false ∧
    [(0, 8, 2)].contains (0, 7, 1) = false ∧ [(0, 8, 2)].length + 1 = (barrier []).participants ∧
    (∀ y ∈ [(0, 8, 2)] ++ [(0, 7, 1)], y.1 = 0 ∧ PlacedFor (atEngine (barrier [(0, 8, 2)]) (syp 0 65535)) 0 y.2.1 y.2.1) := by
  decide +kernel

/-- A token object with this count and these waiting TAKEs. -/
def token (count : Nat) (w : List (Nat × Nat)) : SyncObj :=
  { isToken := true, replica := false, participants := 0, phase := 0, count := count, cur := [], nxt := [], waiting := w,
    lastTick := 0 }

theorem test_witness_TokenPool :
    (∀ w ∈ [[], [(8, 0)]], SyncTakes (atEngine (token 0 w) (syp 1 1)) (syncFor (atEngine (token 0 w) (syp 1 1)) 0 1) (syp 1 1) ∧
      objAt (atEngine (token 0 w) (syp 1 1)) 0 9 = some (token 0 w) ∧
      ∀ y ∈ (token 0 w).waiting, PlacedFor (atEngine (token 0 w) (syp 1 1)) 0 y.1 y.1) ∧
    (token (2 ^ 32 - 2) []).count + (syp 1 1).val < 2 ^ 32 ∧ 2 ^ 32 ≤ (token (2 ^ 32 - 1) []).count + (syp 1 1).val ∧
    SyncTakes (atEngine (token 1 []) (syp 2 1)) (syncFor (atEngine (token 1 []) (syp 2 1)) 0 2) (syp 2 1) ∧
    objAt (atEngine (token 1 []) (syp 2 1)) 0 9 = some (token 1 []) ∧
    sumOf ((basinAt (atEngine (token 0 (List.replicate 511 (8, 0))) (syp 2 1)) 0).objs.map (fun e => e.2.waiting.length)) < 512 ∧
    512 ≤ sumOf ((basinAt (atEngine (token 0 (List.replicate 512 (8, 0))) (syp 2 1)) 0).objs.map (fun e => e.2.waiting.length)) := by
  decide +kernel

/-- Core 5 holds slot 7, whose task slot 1 waits on object 9 of basin 0. -/
def waiting (take : Bool) : Core :=
  { running [] with slots := [(1, { st := .sync, syncObj := syncKey 0 9, syncPhase := 0, takeWait := take })] }

/-- That core, HELD or not, with one answer in the mesh for it. -/
def answering (take held : Bool) (p : SyncPkt) : State :=
  { withCore { waiting take with held := held } with mesh := { active.mesh with sync := [p] } }

theorem test_witness_SyncAnswers :
    (∀ b : Bool, (waiting b).holding = false ∧ (waiting b).slot = some 7 ∧ (slotAt (waiting b) 1).st = .sync ∧
      (slotAt (waiting b) 1).syncObj = syncKey 0 9 ∧ (slotAt (waiting b) 1).takeWait = b) ∧
    (∀ h : Bool, SyncTakes (answering false h { syp 3 65535 with dst := 5 }) (answerFor (answering false h { syp 3 65535 with dst := 5 }) 5 3)
        { syp 3 65535 with dst := 5 } ∧
      SyncTakes (answering true h { syp 4 1 with dst := 5 }) (answerFor (answering true h { syp 4 1 with dst := 5 }) 5 4)
        { syp 4 1 with dst := 5 }) ∧
    (slotAt (waiting false) 1).syncPhase = (65535 + 1) % 65536 := by
  decide +kernel

/-- A sync packet in the mesh and nothing else, die 0 a new gap or not. -/
def onSync (gap : Nat) (p : SyncPkt) : State :=
  { active with mesh := { active.mesh with sync := [p] }, dies := [(0, { gapReason := gap })] }

theorem test_witness_SyncDiscarded :
    (onSync 0 (syp 5 0)).mesh.sync = [syp 5 0] ∧ 4 < (syp 5 0).type ∧ (coreAt (onSync 0 (syp 5 0)) 5).suspect = none ∧
    (∀ n ∈ [0, 1, 2], (∀ q ∈ (onSync 1 (syp n 0)).mesh.sync, q.type ≤ 4) ∧ syncGap (onSync 1 (syp n 0)) (syp n 0) = some (5, 0) ∧
      syncFor (onSync 1 (syp n 0)) 0 n = some (syp n 0)) := by
  decide +kernel

/-! ### Matrix engine and vector chains -/

/-- A number with these values at these bits. -/
def fields (l : List (Nat × Nat)) : Nat := l.foldl (fun a e => a + e.2 * 2 ^ e.1) 0

/-- A matrix command of task slot 1. -/
def mxe (l : List (Nat × Nat)) : MxEnt := { cmd := BitVec.ofNat 256 (fields l), slot := 1, firing := 3, mb := 1, step := 1 }

/-- A running matrix command that has issued nothing yet. -/
def mrun (e : MxEnt) : MxRun :=
  { ent := e, sa := 0, sb := 0, sd := 0, kDone := 0, rows := 0, loaded := false, poison := false, told := false, cleared := false }

/-- A core whose tile 0 belongs to task slot 1 under anchor 170. -/
def tiled : Core := { running [] with tiles := [(0, { owner := some 1, anchor := 170 })] }

/-- Beats of one byte value from a source. -/
def beats (n src v : Nat) : List Beat :=
  List.replicate n { data := List.replicate 64 (BitVec.ofNat 8 v), poison := false, src := src }

def cNop : MxEnt := mxe []
def cOuter : MxEnt := mxe [(0, 1), (4, 1), (12, 1), (16, 48), (22, 48), (32, 1), (48, 170), (72, 1), (192, 9)]
def cWs : MxEnt := mxe [(0, 1), (16, 2), (22, 48), (32, 1), (48, 170), (72, 1), (192, 9)]
def cDrain : MxEnt := mxe [(0, 2), (16, 2), (22, 3)]
def cClear : MxEnt := mxe [(0, 3), (48, 3)]
def cOther : MxEnt := mxe [(0, 1), (4, 1), (16, 1), (22, 1), (32, 1), (48, 171), (72, 1)]

theorem test_witness_MatrixStart :
    mxOpc cOuter.cmd ≤ 3 ∧ mxHazard { tiled with mxq := [cOuter] } cOuter.cmd = false ∧
    mxUnderrun { tiled with mxq := [cOuter], ma := beats 1 0 1, mb := beats 1 1 1 } cOuter.cmd 0 0 false = false ∧
    ({ tiled with mxq := [] } : Core).mxRun = none ∧
    mxHazard { tiled with mxq := [cOuter], drains := [{ ent := cDrain, sd := 0, row := 0, running := true }] } cOuter.cmd = true := by
  decide +kernel

theorem test_witness_MatrixPlainCommands :
    mxFault tiled cNop = none ∧ mxOpc cNop.cmd = 0 ∧ mxFault tiled cClear = none ∧ mxOpc cClear.cmd = 3 ∧
    mxFault tiled cDrain = none ∧ mxOpc cDrain.cmd = 2 := by
  decide +kernel

theorem test_witness_MatrixDiscarded :
    (mrun cOther).cleared = false ∧ mxFault tiled cOther = some evMatrixAnchorMismatch ∧ mxOpc cOther.cmd = 1 ∧
    mxFault (running []) cDrain = some evMatrixTileFault ∧ mxOpc cDrain.cmd = 2 ∧
    mxFault (running []) cClear = some evMatrixTileFault ∧ mxOpc cClear.cmd = 3 := by
  decide +kernel

theorem test_witness_MatrixShadowSwap :
    isWs cWs.cmd = true ∧ mxValid cWs.cmd = true ∧ (mrun cWs).loaded = false ∧ tilesLeft (mrun cWs) ≠ 0 ∧
    bTileBeats (mxPair cWs.cmd) ≤ (fillShadow { tiled with mxRun := some (mrun cWs), mb := beats 48 1 1 }).shadow.length := by
  decide +kernel

theorem test_witness_MatrixOuterProducts :
    mxOpc cOuter.cmd = 1 ∧ mxMode cOuter.cmd = 1 ∧ (pairOf (mxFmt cOuter.cmd)).isSome = true ∧
    mxFault { tiled with ma := beats 1 0 0x38, mb := beats 1 1 0x38 } cOuter = none ∧
    misport tiled 0 (mxNames cOuter.cmd 0) = none ∧ misport tiled 1 (mxNames cOuter.cmd 1) = none ∧ mxClearBit cOuter.cmd = true ∧
    mxDrainBit cOuter.cmd = false ∧ mxK cOuter.cmd ≠ 0 ∧ mxM cOuter.cmd ≠ 0 ∧ mxN cOuter.cmd ≠ 0 ∧
    mxK cOuter.cmd ≤ countFrom (mxSrcA cOuter.cmd) (beats 1 0 0x38) ∧
    mxK cOuter.cmd ≤ countFrom (mxSrcB cOuter.cmd) (beats 1 1 0x38) ∧
    (takeFrom (mxSrcA cOuter.cmd) 1 (beats 1 0 0x38)).1.any (·.poison) = false ∧
    (takeFrom (mxSrcB cOuter.cmd) 1 (beats 1 1 0x38)).1.any (·.poison) = false := by
  decide +kernel

theorem test_witness_MatrixWeightStationary :
    mxOpc cWs.cmd = 1 ∧ mxMode cWs.cmd = 0 ∧ pairOf (mxFmt cWs.cmd) = pairOf 0 ∧ mxValid cWs.cmd = true ∧
    mxDrainBit cWs.cmd = false ∧ (mrun cWs).kDone + 1 = mxK cWs.cmd ∧
    mxM cWs.cmd * Rate.aBeats .full ≤ countFrom (mxSrcA cWs.cmd) (beats 2 0 0x38) ∧
    (takeFrom (mxSrcA cWs.cmd) 2 (beats 2 0 0x38)).1.any (·.poison) = false := by
  decide +kernel

theorem test_witness_MatrixParity :
    mxOpc cWs.cmd = 1 ∧ mxMode cWs.cmd = 0 ∧ mxK cWs.cmd ≠ 0 ∧ tiled.suspect = none := by
  decide +kernel

/-- A drain of tile 0, one row of one column, to the store streamer and to endpoint 31. -/
def cToStore : MxEnt := mxe [(0, 2), (16, 1), (22, 1), (80, 1)]
def cToRed : MxEnt := mxe [(0, 2), (16, 1), (22, 1), (80, 2), (82, 31)]

theorem test_witness_MatrixDrainUnit :
    drainEmpty cDrain.cmd = false ∧ drainEmpty (mxe [(0, 2)]).cmd = true ∧ mxDrainTo (mxe [(0, 2)]).cmd ≠ 2 ∧
    mxDrainTo cDrain.cmd = 0 ∧ fmtOfDrain (mxDrainFmt cDrain.cmd) = some .fp32 ∧ 0 + 1 < mxM cDrain.cmd ∧ Fmt.isInt .fp32 = false ∧
    mxDrainTo cToStore.cmd = 1 ∧ mxDrainTo cToRed.cmd = 2 ∧ mxM cToRed.cmd ≤ 0 + 1 ∧
    sendRefusal (outAt (atSend 0 (3 + 2 ^ 21) 0) (mxDrainEp cToRed.cmd)) 1 true = none ∧
    sendRoom (atSend 0 (3 + 2 ^ 21) 0) (mxDrainEp cToRed.cmd) ≤ (outAt (atSend 0 (3 + 2 ^ 21) 0) (mxDrainEp cToRed.cmd)).sendQ.length := by
  decide +kernel

-- The store streamer refuses what its source buffer has no room for, whatever an implementation gives that buffer.
theorem test_storeRefuses (b : Byte × Bool) (l : List (Byte × Bool)) :
    storeRefuses [] = false ∧ storeRefuses (b :: l) = Config.storeFull (l.length + 1) := by
  simp [storeRefuses]

/-- A vector command of task slot 1. -/
def vce (l : List (Nat × Nat)) : VcEnt := { cmd := BitVec.ofNat 768 (fields l), slot := 1, firing := 3, mb := 1, step := 1 }

/-- A core with this vector command at the head of the queue. -/
def vcore (e : VcEnt) : Core := { running [] with vcq := [e] }

def vNop : VcEnt := vce []
def vSets : VcEnt := vce [(0, 4), (104, 7), (128, 2 ^ 32 - 1)]
def vAdd : VcEnt := vce [(0, 1), (13, 5), (16, 15), (28, 1), (32, 64), (64, 2), (256, 1), (288, 2 ^ 31)]
def vSum0 : VcEnt := vce [(0, 1), (13, 5), (16, 15), (28, 0), (64, 3), (66, 1), (104, 7)]

theorem test_witness_VectorHeadCommands :
    (vcore vNop).vcRun = none ∧ (vcore vSum0).vcHeld = [] ∧
    (∀ e ∈ [vAdd, vSum0], misport (vcore e) 2 (vcNames e.cmd 2) = none ∧ misport (vcore e) 3 (vcNames e.cmd 3) = none) ∧
    vcOpc vNop.cmd = 0 ∧ vcOpc vSets.cmd = 4 ∧ vcOpc vAdd.cmd = 1 ∧ chainValid vAdd.cmd = true ∧
    staticForm vAdd.cmd = false ∧ vcN vAdd.cmd ≠ 0 ∧ vcOpc vSum0.cmd = 1 ∧ chainValid vSum0.cmd = true ∧
    staticForm vSum0.cmd = false ∧ vcN vSum0.cmd = 0 ∧ vcRedEn vSum0.cmd = true ∧ vcRedOp vSum0.cmd = 0 ∧ vcRedDest vSum0.cmd = 0 := by
  decide +kernel

theorem test_witness_VectorDiscarded :
    4 < vcOpc (vce [(0, 5)]).cmd ∧ vcOpc (vce [(0, 1), (112, 1)]).cmd = 1 ∧ chainValid (vce [(0, 1), (112, 1)]).cmd = false ∧
    vcOpc (vce [(0, 1), (4, 15), (16, 15), (28, 1), (256, 0x12), (275, 7)]).cmd = 1 ∧
    chainValid (vce [(0, 1), (4, 15), (16, 15), (28, 1), (256, 0x12), (275, 7)]).cmd = true ∧
    staticForm (vce [(0, 1), (4, 15), (16, 15), (28, 1), (256, 0x12), (275, 7)]).cmd = true := by
  decide +kernel

/-- LOADC of vector 3 and LOADLUT of table 3, from load streamer 0. -/
def vLoadc : VcEnt := vce [(0, 2), (104, 3)]
def vLut : VcEnt := vce [(0, 3), (104, 3)]

theorem test_witness_VectorLoads :
    vcXSrc vLoadc.cmd ≤ 2 ∧ vcOpc vLoadc.cmd = 2 ∧ 4 ≤ countFrom (vcSrcX vLoadc.cmd) (beats 4 0 9) ∧
    ((takeFrom (vcSrcX vLoadc.cmd) 4 (beats 4 0 9)).1).any (·.poison) = false ∧
    vcOpc vLut.cmd = 3 ∧ 49 ≤ countFrom (vcSrcX vLut.cmd) (beats 49 0 9) ∧
    ((takeFrom (vcSrcX vLut.cmd) 49 (beats 49 0 9)).1).any (·.poison) = false ∧
    (lutAt { running [] with luts := [(3, { owner := some 1 })] } (vcTarget vLut.cmd)).owner = some vLut.slot ∧
    (lutAt (running []) (vcTarget vLut.cmd)).owner ≠ some vLut.slot := by
  decide +kernel

theorem test_witness_VectorOneStage :
    vcOpc vAdd.cmd = 1 ∧ vcXSrc vAdd.cmd ≤ 2 ∧ vcXFmt vAdd.cmd = 5 ∧ vcYSrc vAdd.cmd = 15 ∧ vcStages vAdd.cmd = 1 ∧
    1 ≤ stOp (vcStage vAdd.cmd 0) ∧ stOp (vcStage vAdd.cmd 0) ≤ 5 ∧ stPred (vcStage vAdd.cmd 0) = false ∧
    stSaveT (vcStage vAdd.cmd 0) = false ∧ stB (vcStage vAdd.cmd 0) = 0 ∧ stZ (vcStage vAdd.cmd 0) = 0 ∧ vcRedEn vAdd.cmd = false ∧
    vcOutW vAdd.cmd = 2 ∧ 1 ≤ vcN vAdd.cmd ∧ vcN vAdd.cmd ≤ 64 ∧ 4 ≤ countFrom (vcSrcX vAdd.cmd) (beats 4 0 9) ∧
    (takeFrom (vcSrcX vAdd.cmd) 4 (beats 4 0 9)).1.any (·.poison) = false ∧ stImm (vcStage vAdd.cmd 0) = 2 ^ 31 := by
  decide +kernel

/-! ### Streamers, scratchpad and channels -/

/-- A descriptor of task slot 1. -/
def sde (l : List (Nat × Nat)) : SdEnt := { d := BitVec.ofNat 512 (fields l), slot := 1, firing := 3, mb := 1, step := 1 }

/-- A streamer with this descriptor at its head. -/
def strm (u : Nat) (x : Strm) : Core := { running [] with strm := [(u, x)] }

def sNop : SdEnt := sde []
/-- A LOAD of one chunk of 64 bytes at this address in this space, FILL 64, for port 0 of streamer 0. -/
def sLoad (space addr : Nat) : SdEnt :=
  sde [(0, 1), (8, space), (13, 64), (32, 64), (64, addr), (128, 1), (144, 1), (160, 1), (176, 1)]
def sEmpty : SdEnt := sde [(0, 1), (13, 64)]
def sStore : SdEnt := sde [(0, 2), (4, 2), (32, 64), (128, 1), (144, 1), (160, 1), (176, 1)]
def sEmptyStore : SdEnt := sde [(0, 2), (4, 2)]

theorem test_witness_StreamerStarts :
    (∀ e ∈ [sNop, sLoad 0 0, sEmpty, sStore, sEmptyStore], e.made = false ∧ e.begun = false ∧ e.broken = false ∧ e.cut = false) ∧
    (strmAt (strm 0 { q := [sNop] }) 0).q = [] ++ sNop :: [] ∧ (strmAt (strm 0 { q := [sNop] }) 0).reqs = [] ∧
    (strmAt (strm 0 { q := [{ sLoad 0 0 with begun := true, made := true }, sLoad 0 64] }) 0).q =
      [{ sLoad 0 0 with begun := true, made := true }] ++ sLoad 0 64 :: [] ∧
    sdOpc sNop.d = 0 ∧ sdOpc (sLoad 0 64).d = 1 ∧ sdEmpty (sLoad 0 64).d = false ∧ sdOpc sEmpty.d = 1 ∧ sdEmpty sEmpty.d = true ∧
    sdOpc sStore.d = 2 ∧ sdEmpty sStore.d = false ∧ sdOpc sEmptyStore.d = 2 ∧ sdEmpty sEmptyStore.d = true := by
  decide +kernel

/-- A LOAD in progress that has requested nothing yet. -/
def loading (e : SdEnt) : Core := strm 0 { q := [{ e with begun := true }] }

theorem test_witness_StreamerRequests :
    (∀ e ∈ [sLoad 0 0x3FC0, sLoad 2 (5 * 2 ^ 36 + 64)],
      genEnt (strmAt (loading e) 0) = some { e with begun := true } ∧ headDone (strmAt (loading e) 0) { e with begun := true } = false ∧
      sdOpc e.d = 1 ∧ sdMode e.d = 0 ∧ (sdSpace e.d = 0 ∨ sdSpace e.d = 2) ∧ chunkFault (loading e) { e with begun := true } 0 = none ∧
      linesOut (strmAt (loading e) 0) < sdDepth e.d ∧
      beatsOut (strmAt (loading e) 0) (sdPort e.d) + (fifoOf (loading e) (sdPort e.d)).length ≤ 16) ∧
    (loading (sLoad 0 0x3FC0)).check = none ∧ banksOn (loading (sLoad 0 0x3FC0)) 0x3FC0 64 = true ∧ 64 + 64 ≤ 2 ^ 36 := by
  decide +kernel

/-- A local line request of 64 bytes at 0x3FC0, a read or a write. -/
def line (write : Bool) : LineReq :=
  { id := 0, space := 0, addr := 0x3FC0, len := 64, write := write,
    wdata := if write then List.replicate 64 (7, false) else [], data := none, refused := 0, lastOfChunk := true }

theorem test_witness_LocalLines :
    (∀ w : Bool, (line w).space = 0 ∧ (line w).data = none ∧ (line w).write = w ∧
      (line w).ser = (strmAt (loading (sLoad 0 0)) 0).ser) ∧
    (loading (sLoad 0 0)).arr = [] ∧ (sLoad 0 0).cut = false ∧ (∀ v ∈ [Ecc.ok, .ok], v = .ok) ∧
    (spPeek (loading (sLoad 0 0)) 0x3FC0 64).any (·.2) = false ∧ (line true).wdata.length = 64 := by
  decide +kernel

/-- A core that recomputes a firing: one logged beat of endpoint 0 for port 1 is left. -/
def replaying : Core :=
  { running [] with replay := some [(1, { data := List.replicate 64 9, poison := false, src := 2 })] }

theorem test_witness_OperandBeats :
    (List.replicate 64 ((9, false) : Byte × Bool)).length = sdFill (sLoad 0 0).d ∧ sdPort (sLoad 0 0).d = 0 ∧
    (fifoOf { running [] with ma := beats 15 0 9 } 0).length < 16 ∧ 16 ≤ (fifoOf { running [] with ma := beats 16 0 9 } 0).length ∧
    (replayBeat 1 2 [(1, { data := List.replicate 64 9, poison := false, src := 2 })]).isSome = true ∧
    next (fun t => (fifoOf (coreAt t 5) 1).length == 1 && (coreAt t 5).replay == some [])
      (exec (.operandBeatArrive 5 1 2) (withCore replaying)) = true ∧
    next (fun t => (fifoOf (coreAt t 5) 0).length == 1)
      (exec (.operandBeatArrive 5 0 0) (withCore (strm 0
        { q := [{ sLoad 0 0 with begun := true }], buf := List.replicate 64 (9, false) }))) = true := by
  decide +kernel

theorem test_witness_ScratchpadUpkeep :
    nextScrub (running []) ((running []).scrubPos % spSize) = some 0 ∧ isW (running []) 0 = false ∧
    isW (running []) (cwOf (running []) 0) = false := by
  decide +kernel

/-- An access of 64 bytes at offset 0x3FC0 of window 1, which admits remote ones. -/
def access (kind : Nat) : Pkt :=
  { blankPkt with kind := kind, addr := 2 ^ 23 + 0x3FC0, len := 64, data := if kind = 1 then List.replicate 64 7 else [],
                  pois := if kind = 1 then List.replicate 64 false else [] }

/-- A core with this access at its remote service port. -/
def served (held : Bool) (p : Pkt) : Core :=
  { running [] with held := held, svc := [p], station := some { sta [] with windows := [0, 0x804000] } }

theorem test_witness_RemoteAccesses :
    (∀ h : Bool, ∀ n ∈ [0, 1], svcHeld (served h (access n)) (access n) = false) ∧
    (∀ n ∈ [0, 1], svcRefused (served false (access n)) (access n) = false ∧
      banksOn (served false (access n)) (svcAddr (served false (access n)) (access n)) (access n).len = true) ∧
    (spPeek (served false (access 0)) (svcAddr (served false (access 0)) (access 0)) 64).any (·.2) = false ∧
    (access 1).data.length = (access 1).len ∧ (access 1).pois.length = (access 1).len := by
  decide +kernel

theorem test_witness_CoreCleared :
    ({ running [] with held := true } : Core).held = true ∧ (basinAt active (basinOf 5)).resetting = false ∧
    (basinAt { active with basins := [(0, { ctx := some 2, resetting := true })] } (basinOf 5)).resetting = true := by
  decide +kernel

/-- A token send of task slot 1. -/
def snd1 : Send := { kind := 1, data := 77, vals := [], poison := false, slot := 1, firing := 3 }

/-- A core whose outbound endpoint 31 sends to endpoint 4 of slot 9, with this credit. -/
def sender (credit : Nat) : Core :=
  { running [] with outEp := [(31, { cfg := 1 + 2 ^ 21, targets := [(9, 4)], credit := [credit], returned := [0], seq := 65535,
                                     sendQ := [snd1] })] }

/-- A drain of basin 1 in which core 5's send to slot 1033 is past the cut. -/
def holdsSend : State :=
  { withCore { sender 1 with outEp := [(31, { outAt (sender 1) 31 with targets := [(1033, 4)] })] } with
      mesh := { active.mesh with drains := [{ ctx := 2, basins := [1], cut := 1, why := .fence, start := 0, limit := 2500, tag := 0,
                                              ring := 0, noIrq := false, sweep := none, swept := false }] } }

theorem test_witness_MessageInjection :
    (∀ n ∈ [0, 1], drainHold (withCore (sender n)) 5 (sender n) (outAt (sender n) 31) snd1 = false) ∧ snd1.kind ≤ 1 ∧
    outKind (outAt (sender 0) 31) ≠ 3 ∧ minCredit (outAt (sender 1) 31) ≠ 0 ∧ minCredit (outAt (sender 0) 31) = 0 ∧
    drainHold holdsSend 5 (coreAt holdsSend 5) (outAt (coreAt holdsSend 5) 31) snd1 = true ∧ (sender 1).replay = none ∧
    ({ sender 0 with replay := some [] } : Core).replay.isSome = true := by
  decide +kernel

/-- A token message for inbound endpoint 0, of this generation and CH_SEQ. -/
def msgPkt (gen seq : Nat) : Pkt := { blankPkt with kind := 5, dstEp := 0, gen := gen, chSeq := seq, cnt := 77 }

/-- A core whose inbound endpoint 0, for the port of this number, has 4 entries and expects generation 3. -/
def receiver (port h : Nat) : Core :=
  { running [] with inEp := [(0, { cfg := 4 + port * 2 ^ 9 + 2 ^ 12 + 2 ^ 16 + 3 * 2 ^ 51, h := h })] }

theorem test_witness_MessageArrival :
    (msgPkt 3 2).gen = inExpect (inAt (receiver 2 65535) 0) ∧ ((msgPkt 3 2).chSeq + 65536 - 65535) % 65536 < inQdepth (inAt (receiver 2 65535) 0) ∧
    tabHas (inAt (receiver 2 65535) 0).fixed (2 % 4) = false ∧ (msgPkt 4 2).gen ≠ inExpect (inAt (receiver 2 65535) 0) := by
  decide +kernel

/-- The receiver with one message spilled, of this CH_SEQ. -/
def spilled (seq : Nat) : Core :=
  putIn (receiver 2 0) 0
    { inAt (receiver 2 0) 0 with spill := [(5, { token := true, data := 1, gen := 3, seq := seq, poison := false, cmark := 0 })] }

theorem test_witness_SpillCopies :
    (firstSpilled (inAt (spilled 3) 0)).isSome = true ∧ (3 + 65536 - 0) % 65536 < inQdepth (inAt (spilled 3) 0) ∧
    (spPeek (spilled 3) (localAddr (spilled 3) 1 (inSpillOff (inAt (spilled 3) 0) + 16 * 5)) 16).any (·.2) = false ∧
    (firstSpilled (inAt (spilled 4) 0)).isSome = true ∧ inQdepth (inAt (spilled 4) 0) ≤ (4 + 65536 - 0) % 65536 := by
  decide +kernel

/-- The receiver with its head message arrived and a vector command that takes it. -/
def taking : Core :=
  { receiver 2 65535 with
      inEp := [(0, { cfg := 4 + 2 * 2 ^ 9 + 2 ^ 12 + 3 * 2 ^ 51, h := 65535,
                     fixed := [(3, { token := true, data := 77, gen := 3, seq := 65535, poison := false, cmark := 0 })] })],
      vcq := [vce [(0, 1), (4, 2), (13, 5), (16, 15), (32, 64), (64, 2)]] }

theorem test_witness_MessageTaken :
    portMismatch taking 0 = none ∧ inPort (inAt taking 0) = 2 ∧ takerOf taking 0 2 = some (1, 3) ∧ inQdepth (inAt taking 0) ≠ 0 ∧
    ((inAt taking 0).fixed.find? (fun m => m.1 == 65535 % inQdepth (inAt taking 0))).isSome = true ∧
    (strmAt taking 5).active = false ∧ (fifoOf taking 2).length < 16 ∧ taking.check = none := by
  decide +kernel

/-- A credit packet for outbound endpoint 31, target 0, of 32 messages. -/
def creditPkt : Pkt := { blankPkt with kind := 6, chSeq := 31 + 31 * 1024 }

theorem test_witness_CreditReturn :
    mayFree (putIn (receiver 2 0) 0 { inAt (receiver 2 0) 0 with taken := [(5, 1)] }) 0 = true ∧
    (putIn (receiver 2 0) 0 { inAt (receiver 2 0) 0 with pend := 8 }).held = false ∧
    (inAt (putIn (receiver 2 0) 0 { inAt (receiver 2 0) 0 with pend := 8 }) 0).pend = 8 ∧
    (inAt (putIn (receiver 2 0) 0 { inAt (receiver 2 0) 0 with pend := 7 }) 0).pend < 8 ∧
    creditPkt.kind = 6 ∧ bits creditPkt.chSeq 4 0 = 31 ∧ bits creditPkt.chSeq 9 5 < (outAt (sender 0) 31).credit.length ∧
    bits creditPkt.chSeq 9 5 < (outAt (sender 0) 31).returned.length := by
  decide +kernel

/-- One contribution of two values under anchor 170 to group 6 of image basin 0. -/
def contrib : Pkt :=
  { blankPkt with kind := 7, dstEp := 0, gen := 3, chSeq := 65535, group := 6, len := 32, anchor := 170, ncontrib := 1, npkt := 1,
                  data := leBytes 16 (fields [(0, 5), (104, 170), (115, 1)]) ++ leBytes 16 (fields [(0, 6), (104, 170), (115, 1)]) }

/-- The destination of the group, which waits for two contributions. -/
def summing : Core :=
  { running [] with inEp := [(0, { cfg := 4 + 2 ^ 12 + 3 * 2 ^ 51, h := 65535, contribs := [(1, 0), (2, 0)] })],
                    arr := [contrib], mem := [(192 + 13, 170), (192 + 29, 170)] }

theorem test_witness_ContributionAdded :
    redEntry { withCore summing with ctxs := [(2, { st := .active, layout := some { lay with redgroup := [fields [(0, 6), (16, 170)]] } })] }
      5 6 0 = some (fields [(0, 6), (16, 170)]) ∧
    contrib.gen = inExpect (inAt summing 0) ∧ (65535 + 65536 - 65535) % 65536 < inQdepth (inAt summing 0) ∧
    tabHas (inAt summing 0).fixed (65535 % 4) = false ∧ contrib.anchor = bits (fields [(0, 6), (16, 170)]) 23 16 ∧
    (∀ v ∈ vals16 2 contrib.data, bits v 111 104 = 170) ∧
    contrib.ncontrib < (inAt summing 0).contribs.length * contrib.npkt ∧ 16 * (contrib.len / 16) = contrib.len ∧
    contrib.len / 16 = 2 ∧ 0 + 2 ≤ inLandSize (inAt summing 0) / 16 ∧ landAddr summing (inAt summing 0) 65535 = 192 ∧
    (∀ j < 2, bits (leNat (memRead summing.mem (192 + 16 * j) 16)) 111 104 = 170) := by
  decide +kernel

/-- Cores 5 and 6, each with a send to the other and no credit, found so by a read 40 ms ago. -/
def wedged : State :=
  { active with
      sup := { active.sup with ticks := 1000000 },
      cores := [(5, { running [] with waitFrom := some 0, outEp := [(0, { cfg := 1, targets := [(8, 0)], credit := [0], sendQ := [snd1] })] }),
                (6, { running [] with waitFrom := some 0, slot := some 8, outEp := [(0, { cfg := 1, targets := [(7, 0)], credit := [0], sendQ := [snd1] })] })] }

theorem test_witness_WedgeFound :
    stallCycles (noteWaits active) = [] ∧ stallCycles (noteWaits wedged) = [[5, 6]] ∧ (coreAt wedged 5).wedged = false ∧
    wedged.rst.cur = none ∧
    next (fun t => t.rst.cur.isSome && (basinAt t 0).wedge) (exec .stallRead wedged) = true ∧
    (coreAt (withCore { running [] with held := true }) 5).held = true := by
  decide +kernel

/-! ### Meshes and HBM -/

/-- Core 5 has this packet to inject; slot 9 runs on core 100. -/
def injecting (p : Pkt) : State :=
  { active with cores := [(5, { running [] with inj := [p] })],
                basins := [(0, { ctx := some 2, place := [(9, (16384 + 100, 16384 + 100, 16384 + 100))] })],
                ctxs := [(2, { st := .active, layout := some lay, portSet := 2 ^ 23 })] }

/-- A packet to this destination of this type. -/
def toDst (dtype dst : Nat) : Pkt := { blankPkt with dtype := dtype, dst := dst, ctx := 2, addr := 0 }

/-- The mesh holds these packets besides. -/
def withNet (s : State) (l : List Pkt) : State := { s with mesh := { s.mesh with net := l } }

theorem test_witness_PacketInjected :
    (∀ p ∈ [toDst 0 9, toDst 1 100, toDst 2 3, toDst 3 24, toDst 3 31],
      (coreAt (injecting p) 5).inj.find? (winRoom (coreAt (injecting p) 5)) = some p ∧ p.vc ≠ 5) ∧
    isGap active (dieOf 5) = false ∧ isGap { active with dies := [(0, { gapReason := 5 })] } (dieOf 5) = true ∧
    bufUse (injecting (toDst 0 9)) 5 4 0 + flitsOf (toDst 0 9) ≤ bufferFlits 5 0 ∧
    bufferFlits 5 0 < bufUse (withNet (injecting (toDst 0 9)) (List.replicate 8 { blankPkt with at_ := 5 })) 5 4 0 + flitsOf (toDst 0 9) ∧
    placedAt (injecting (toDst 0 9)) 0 false 9 = some 100 ∧
    globalPort (injecting (toDst 3 31)) (toDst 3 31) = some 23 ∧
    globalPort { injecting (toDst 3 31) with ctxs := [] } (toDst 3 31) = none ∧
    next (fun t => (t.mesh.net.map (fun q => (q.at_, q.dstCore))) == [(5, 100)]) (exec (.packetInject 5) (injecting (toDst 0 9))) = true := by
  decide +kernel

theorem test_witness_SlotUnmapped :
    (coreAt (injecting (toDst 0 8)) 5).inj.find? (winRoom (coreAt (injecting (toDst 0 8)) 5)) = some (toDst 0 8) ∧
    (toDst 0 8).dtype = 0 ∧ bufUse (injecting (toDst 0 8)) 5 4 0 + flitsOf (toDst 0 8) ≤ bufferFlits 5 0 ∧
    tabGet (basinAt (injecting (toDst 0 8)) (basinOf 5)).place (placeKey false 8) (0, 0, 0) = (0, 0, 0) := by
  decide +kernel

/-- One packet in the mesh at core 5. -/
def inMesh (p : Pkt) : State := { active with mesh := { active.mesh with net := [p] }, cores := [(5, running [])] }

/-- A request on its way from core 5 to core 100. -/
def going : Pkt := { blankPkt with id := 4, dstCore := 100, dst := 9, at_ := 5, dtype := 0, srcCore := 5 }

/-- A request on its way to core 4, whose buffer from the east is full. -/
def blocked (waited : Nat) : Pkt := { blankPkt with id := 4, dstCore := 4, at_ := 5, dtype := 1, dst := 4, srcCore := 5, waited := waited }
def crowded (waited : Nat) : State :=
  withNet active (blocked waited :: List.replicate 8 { blankPkt with id := 9, at_ := 4, inp := opposite 1 })

theorem test_witness_PacketHops :
    ((inMesh going).mesh.net.find? (fun q => q.id == going.id)) = some going ∧ hdrBad going = false ∧
    forwardTo (inMesh going) going.at_ going.dstCore = none ∧ going.kind ≠ 7 ∧ going.vc = 0 ∧
    neighbour 5 .north = some 101 ∧ neighbour 5 .west = some 4 ∧
    wantsOut (inMesh going) going = some (dirNo .west) ∧ flitsOf going ≤ outFree (inMesh going) 5 1 0 ∧
    wantsOut (inMesh going) going ≠ some (dirNo .north) ∧
    (crowded 0).mesh.net.find? (fun q => q.id == 4) = some (blocked 0) ∧ hdrBad (blocked 0) = false ∧
    wantsOut (crowded 0) (blocked 0) = some (dirNo .west) ∧ outFree (crowded 0) 5 1 0 < flitsOf (blocked 0) := by
  decide +kernel

/-- A packet at core 11 for core 12, behind a hard gap: an adaptive request, or a multicast packet that runs along its line. -/
def atGap (vc : Nat) : Pkt := { blankPkt with id := 4, dstCore := 12, at_ := 11, srcCore := 11, vc := vc, line := vc == 5, kind := 4 }
def gap1 (vc : Nat) : State := { withNet active [atGap vc] with dies := [(1, { gapReason := 5 })] }

theorem test_witness_ColAndBadHeaders :
    minimalOuts (gap1 0) (atGap 0) = [] ∧ (atGap 0).at_ ≠ (atGap 0).dstCore ∧
    colWaitOf (crowded 32) ≤ (blocked 32).waited ∧
    (∀ x ∈ minimalOuts (crowded 32) (blocked 32), outFree (crowded 32) 5 x 0 < flitsOf (blocked 32)) ∧
    colOut (gapsOf (crowded 32) false) 5 4 = some 1 ∧ flitsOf (blocked 32) ≤ outFree (crowded 32) 5 1 1 ∧
    minimalOuts (crowded 31) (blocked 31) ≠ [] ∧ (blocked 31).waited < colWaitOf (crowded 31) ∧
    hdrBad (atGap 5) = false ∧ forwardTo (gap1 5) 11 12 = none ∧ (atGap 5).kind ≠ 7 ∧ neighbour 11 .east = some 12 ∧
    wantsOut (gap1 5) (atGap 5) = some (dirNo .east) ∧ dieOf 12 ≠ dieOf 11 ∧ isGap (gap1 5) (dieOf 12) = true ∧
    hdrBad { going with rsvBad := true } = true ∧ (coreAt (inMesh { going with rsvBad := true }) 5).suspect = none ∧
    hdrBad { going with at_ := 100, reqUnit := 9 } = true := by
  decide +kernel

/-- Two contributions of one round at core 3, at the south edge. -/
def c1 : Pkt := { contrib with id := 1, vc := 4, at_ := 3, dstCore := 99, len := 32 }
def c2 : Pkt := { contrib with id := 2, vc := 4, at_ := 3, dstCore := 99, len := 32 }

theorem test_witness_ContributionsMerge :
    c1.id ≠ c2.id ∧ hdrBad c1 = false ∧ c1.kind = 7 ∧ c1.vc = 4 ∧
    forwardTo (withNet active [c1, c2]) c1.at_ c1.dstCore = none ∧ mayMerge (withNet active [c1, c2]) c1 c2 = true ∧
    wantsOut (withNet active [c1, c2]) c1 ≠ some (dirNo .south) ∧ c1.len = 16 * 2 ∧ c2.len = 16 * 2 := by
  decide +kernel

/-- A packet at its destination, core 5. -/
def landed (dtype dst kind : Nat) : Pkt :=
  { blankPkt with id := 4, dtype := dtype, dst := dst, kind := kind, at_ := 5, dstCore := 5, reqUnit := 8 }

theorem test_witness_PacketEjected :
    (∀ p ∈ [landed 0 7 0, landed 0 7 4, landed 0 7 7, landed 0 8 0, landed 2 15 0, landed 3 23 0],
      (inMesh p).mesh.net.find? (fun q => q.id == p.id) = some p ∧ p.at_ = p.dstCore ∧ p.vc ≠ 5 ∧
      hdrBad p = false ∧ forwardTo (inMesh p) p.at_ p.dstCore = none ∧ p.reqUnit < 16 ∧
      next (fun t => t.mesh.net.isEmpty) (exec (.packetEject p.id) (inMesh p)) = true) ∧
    (running []).held = false ∧ (running []).slot = some 7 ∧ (running []).suspect = none := by
  decide +kernel

/-- A multicast message at core 5, its first target, with more targets or without. -/
def copying (l : List (Nat × Nat)) : Pkt := { landed 0 7 4 with vc := 5, line := true, mc := (7, 0) :: l }

theorem test_witness_MulticastCopies :
    (∀ l ∈ [[], [(9, 1)]], (inMesh (copying l)).mesh.net.find? (fun q => q.id == 4) = some (copying l) ∧
      hdrBad (copying l) = false ∧ forwardTo (inMesh (copying l)) 5 5 = none) ∧
    placedAt { inMesh (copying [(9, 1)]) with basins := [(0, { ctx := some 2, place := [(9, (16391, 16391, 16391))] })] } 0 false 9 =
      some 7 := by
  decide +kernel

theorem test_witness_HardGapTaken :
    isGap active 63 = false ∧ linkDie 9215 .north = (63, 6) ∧ linkDie 11 .east = (0, 5) := by
  decide +kernel

/-- A drain of basin 0 for a fence. -/
def fencing : DrainJob :=
  { ctx := 2, basins := [0], cut := 8, why := .fence, start := 0, limit := 2500, tag := 0, ring := 0, noIrq := false, sweep := none,
    swept := false }

/-- A reset of basin 0 whose context's layout waits to restart. -/
def resweep : Reset :=
  { ctx := 2, set := [0], trigger := 0, slot := 0xFFFF, dumpNo := 0, stage := .ready, cut := 0, cutStep := 0, start := 0, hbmFail := false }

theorem test_witness_FlipsAndSweeps :
    ({ active with mesh := { active.mesh with flipping := true } } : State).mesh.flipping = true ∧
    routerSum { active with mesh := { active.mesh with oldBank := true } } (73 + b2n (!false)) =
      routerSum { active with mesh := { active.mesh with oldBank := true } } (75 + b2n (!false)) ∧
    nodeSum { active with mesh := { active.mesh with oldBank := true } } (b2n (!false)) =
      nodeSum { active with mesh := { active.mesh with oldBank := true } } (2 + b2n (!false)) ∧
    routerSum { active with routers := [(5, { ctr := [(74, 1)] })] } (73 + b2n (!false)) ≠
      routerSum { active with routers := [(5, { ctr := [(74, 1)] })] } (75 + b2n (!false)) ∧
    nodeSum (bumpNode active 5 1) (b2n (!false)) ≠ nodeSum (bumpNode active 5 1) (2 + b2n (!false)) ∧
    next (fun t => decide (t.mesh.drains = [{ fencing with sweep := some (0, 0) }]))
      (exec .drainSweepPass { active with mesh := { active.mesh with drains := [fencing] } }) = true ∧
    next (fun t => decide (t.mesh.drains = [{ fencing with sweep := some (0, 0), swept := true }]))
      (exec .drainSweepPass { active with mesh := { active.mesh with drains := [{ fencing with sweep := some (0, 0) }] } }) = true ∧
    restartSweeps { active with rst := { active.rst with cur := some resweep } } resweep = true := by
  decide +kernel

/-- Core 5 with an echo of this mark for outbound endpoint 31, and this many windows in which echoes are ignored. -/
def echoed (mark off : Nat) : Core := { putWin (running []) 38 1 off with echoes := [(38, mark)] }

theorem test_witness_WindowsAndReplays :
    (∀ e ∈ [(2, 0), (1, 0), (3, 4)], (echoed e.1 e.2).echoes.find? (fun x => x.1 == 38) = some (38, e.1) ∧
      (winOf (echoed e.1 e.2) 38).2 = e.2) ∧
    next (fun t => (winOf (coreAt t 5) 38).1 == 32) (exec (.congestionEcho 5 true 31) (withCore { running [] with echoes := [(38, 2)] })) = true ∧
    next (fun t => (winOf (coreAt t 5) 38).1 == 1) (exec (.congestionEcho 5 true 31) (withCore (echoed 3 0))) = true := by
  decide +kernel

/-- READY. -/
def ready : State :=
  { active with sup := { active.sup with phase := .ready }, glb := { active.glb with ready := true } }

/-- A control header: OP, destination, source and address. -/
def ctlHdr (op dst src addr : Nat) : W64 := BitVec.ofNat 64 (fields [(2, op), (6, dst), (20, src), (38, addr)])

theorem test_witness_ControlPackets :
    ready.sup.phase = .ready ∧ ctlSrc (ctlHdr 0 9215 5 0x136F) = 5 ∧ ctlDst (ctlHdr 0 9215 5 0x136F) = 9215 ∧
    ctlBad (ctlHdr 6 9215 5 0) [] = true ∧ ctlBad (ctlHdr 0 9215 5 0x136F) [] = false ∧
    ctlOpen { ready with dies := [(63, { gapReason := 5 })] } 5 9215 = false ∧ ctlOpen ready 5 9215 = true ∧
    ctlOp (ctlHdr 0 9215 5 0x136F) = 0 ∧ ctlAddr (ctlHdr 0 9215 5 0x136F) = 0x136F ∧
    ctlBad (ctlHdr 4 9215 5 0) [] = false ∧ ctlOp (ctlHdr 4 9215 5 0) = 4 ∧
    ({ ready with mesh := { ready.mesh with flipping := true } } : State).mesh.flipping = true ∧
    next (fun t => t.clk.starts == 1 && (dieAt t 63).ctlPll) (exec (.controlPacket (ctlHdr 0 9215 5 0x1000) [] 5 1) ready) = true := by
  decide +kernel

/-- Stack 0 in service with this state. -/
def stack (h : Hbm) : State := { active with hbms := [(0, { h with inService := true })] }

/-- A request of 64 bytes at the end of a stack's address space. -/
def hreq (kind : Nat) : Pkt :=
  { blankPkt with kind := kind, addr := 48000000000 - 64, len := 64, ctx := 2, data := if kind = 0 then [] else List.replicate 64 7,
                  pois := if kind = 0 then [] else List.replicate 64 false, srcCore := 5 }

theorem test_witness_HbmRequests :
    (∀ n ∈ [0, 1], hbmRefusal (stack { inQ := [hreq n] }) 0 (hreq n) = none) ∧
    (hbmAt (stack { inQ := [hreq 0] }) 0).selfRef = false ∧ (hbmAt (stack { inQ := [hreq 0] }) 0).resetting = false ∧
    (hbmAt (stack { inQ := [hreq 0], resetting := true }) 0).withdrawn = false ∧
    (hbmAt (stack { inQ := [hreq 0], selfRef := true }) 0).resetting = false ∧
    hbmRefusal (stack { inQ := [hreq 0], withdrawn := true }) 0 (hreq 0) = some evHbmWithdrawn ∧
    next (fun t => memGet (hbmAt t 0).mem (48000000000 - 1) == 7) (exec (.hbmRequest 0 0) (stack { inQ := [hreq 1] })) = true := by
  decide +kernel

theorem test_witness_HbmCheckOrder :
    (hbmAt (stack { withdrawn := true }) 0).withdrawn = true ∧ (basinAt { stack {} with basins := [] } 0).ctx ≠ some (hreq 0).ctx ∧
    48000000000 < (48000000000 - 63) + 64 ∧ (hreq 0).addr + (hreq 0).len ≤ 48000000000 ∧
    hbmRefusal (stack { holds := [{ ctx := 2, shard := 1, lo := 48000000000 - 1, len := 1 }] }) 0 (hreq 0) = some evHbmShardHeld := by
  decide +kernel

/-- A sum-into of one value onto address 0. -/
def sumReq : Pkt :=
  { blankPkt with kind := 8, len := 16, ctx := 2, data := leBytes 16 (fields [(0, 5), (104, 170), (115, 1)]), pois := List.replicate 16 false }

theorem test_witness_HbmReadsAndSums :
    (hbmAt (stack { queue := [hreq 0] }) 0).queue = [hreq 0] ∧ (hbmRead (stack { queue := [hreq 0] }) 0 (hreq 0).addr 64).2 = false ∧
    sumReq.data.length = 16 ∧ (∀ x ∈ sumReq.pois, x = false) ∧
    (esfUnpack (leNat sumReq.data)).anchor =
      (esfUnpack (leNat (memRead (hbmAt (stack { mem := [(13, 170)] }) 0).mem 0 16))).anchor := by
  decide +kernel

theorem test_witness_HbmUpkeep :
    (hbmAt (stack {}) 0).withdrawn = false ∧ (hbmAt (stack {}) 0).selfRef = false ∧ (hbmAt (stack {}) 0).resetting = false ∧
    tabGet (hbmAt (stack { scrubPos := [(31, pcLines - 2)] }) 0).scrubPos 31 0 + 1 < pcLines ∧
    tabGet (hbmAt (stack { scrubPos := [(31, pcLines - 1)] }) 0).scrubPos 31 0 < pcLines ∧
    (busyPcs ([] ++ [])).contains 31 = false ∧ (busyPcs ([hreq 0] ++ [])).contains (pcOf (hreq 0).addr) = true ∧
    repairDue { notes := [(7, (3, 0, false))] } 7 false = true ∧ repairDue { notes := [(7, (2, 0, true))] } 7 false = false ∧
    (hbmAt (stack {}) 0).srCfg ≠ 0 ∧ (hbmAt (stack {}) 0).queue = [] ∧ (hbmAt (stack {}) 0).inQ = [] := by
  decide +kernel

theorem test_witness_HbmWithdrawn :
    (hbmAt { stack { recalTries := [(15, 1)] } with basins := [] } 0).withdrawn = false ∧
    (basinAt { stack { recalTries := [(15, 1)] } with basins := [] } 0).ctx = none ∧
    tabGet (hbmAt { stack { recalTries := [(15, 1)] } with basins := [] } 0).recalTries 15 0 ≠ 0 := by
  decide +kernel

/-- One shard of basins 0 and 1. -/
def shard : Shard :=
  { id := 3, basins := 3, missing := 0, hbmOff := 8, pkgOff := 0, length := 65536, digest := 0, arrived := 0, good := 3 }

/-- A context with a package of one shard, and one line of it that waits to be restored in stack 0. -/
def restoring : State :=
  { stack { restores := [(2, 3, 524288)] } with
      ctxs := [(2, { st := .active, layout := some lay, wpkg := some { digest := 0, pkgLen := 65536, shards := [shard], scales := [] } })] }

/-- A session of one page in basin 0, to be mirrored in basin 2. -/
def rebuilding : State :=
  { stack {} with
      basins := [(0, { ctx := some 2 }), (2, { ctx := some 2 })],
      ctxs := [(2, { st := .active, act := { grant := 5, sessPool := 4 * 2 ^ 32 },
                     sessions := [{ id := 1, keyHeld := true, mirror := true, firstPage := 0, npages := 1, claimEnd := 0, closing := none,
                                    lost := false, rebuilding := true }],
                     pages := [(0, { basin := 0, mirror := none, off := 0, moff := 0 })] })] }

theorem test_witness_LinesAndPagesRestored :
    (hbmAt restoring 0).restores = [(2, 3, 524288)] ∧ (ctxAt restoring 2).wpkg.isSome = true ∧
    [shard].find? (fun h => h.id == 3) = some shard ∧ onHold restoring 0 2 3 = false ∧
    sessionIdle (ctxAt rebuilding 2) 1 = true ∧ pageStaged (ctxAt rebuilding 2) 0 = false ∧
    mirrorBasin rebuilding 2 { basin := 0, mirror := none, off := 0, moff := 0 } = some 2 ∧
    (freePages (ctxAt rebuilding 2) 2).isEmpty = false := by
  decide +kernel

/-! ### Fabric -/

/-- A port that is up, with credit on every lane. -/
def upPort : Port := { up := true, link := { credit := [(0, 99), (1, 99), (2, 99)] } }

/-- Endpoint 7 of context 2, with a keyed member entry 5 for endpoint 9 over port 3. -/
def fab : State :=
  { active with
      ctxs := [(2, { st := .active, layout := some lay, act := { grant := 1, fabId := 7 + 3 * 2 ^ 20 }, portSet := 8 })],
      fab := { table := [(5, { peer := 9, ctx := 2, valid := true, keyed := true, member := true, plane := 8, switchDest := 0,
                               keyIndex := 5, epoch := 0, peerGen := 4 })],
               ports := [(3, upPort)] } }

/-- The same with another port 3. -/
def fabPort (x : Port) : State := { fab with fab := { fab.fab with ports := [(3, x)] } }

/-- The entry of `fab` changed. -/
def fabEnt (keyed member : Bool) (plane : Nat) : State :=
  { fab with fab := { fab.fab with table := [(5, { entAt fab 5 with keyed := keyed, member := member, plane := plane })] } }

/-- The pair's keys of `fab` changed. -/
def fabKey (k : PairKey) : State := { fab with fab := { fab.fab with keys := [k] } }

/-- A packet of this type from endpoint 9 to endpoint 7, as the peer would send it. -/
def fpkt (type lines : Nat) : FabPkt :=
  { blankFab with type := type, lines := lines, dstId := 7, srcId := 9, srcGen := 4, tag := 1, payload := List.replicate (64 * lines) 0 }

/-- The packet as it comes over the link. -/
def wire (f : FabPkt) : WirePkt := { head := hdrBytes f, payload := f.payload, tag := f.tag, tagOk := f.authOk }

theorem test_witness_PortLink :
    (portAt fab 3).down = false ∧ (portAt (fabPort { down := true }) 3).down = true ∧
    (portAt (fabPort { trainFails := 1 }) 3).trainFails < 2 ∧ (portAt (fabPort { trainFails := 2 }) 3).trainFails = 2 ∧
    bitAt (ctxAt fab 2).portSet 3 = true ∧ (ctxAt fab 2).st = .active ∧ storeUnits (ctxAt fab 2).store + 2 ≤ 8192 ∧
    (portAt (fabPort { replayFails := 14 }) 3).replayFails < 15 ∧ (portAt (fabPort { replayFails := 15 }) 3).replayFails = 15 := by
  decide +kernel

/-- A GLOBAL write of one line to this endpoint. -/
def gwriteTo (ep : Nat) : Pkt :=
  { blankPkt with kind := 1, ctx := 2, addr := ep * 2 ^ 44, len := 64, data := List.replicate 64 7, pois := List.replicate 64 false,
                  srcCore := 5 }
def gwrite : Pkt := gwriteTo 9

/-- `fab` and context 3 with endpoint 8, which the two contexts' entries name, with this generation of context 3. -/
def twoCtx (gen : Nat) (keyed : Bool) : State :=
  { fab with
      ctxs := fab.ctxs ++ [(3, { st := .active, layout := some lay, act := { grant := 1, fabId := 8 + 3 * 2 ^ 20 }, gen := gen })],
      basins := [(0, { ctx := some 2 }), (1, { ctx := some 3 })],
      fab := { fab.fab with table := fab.fab.table ++
        [(6, { entAt fab 5 with peer := 8, peerGen := 0 }), (7, { entAt fab 5 with peer := 7, ctx := 3, peerGen := 0, keyed := keyed })] } }

theorem test_witness_FabricRequests :
    (portAt (fabPort { upPort with inQ := [gwrite] }) 3).inQ = [gwrite] ∧ (ctxAt fab 2).fenced = false ∧
    closingCtx (ctxAt fab 2) = false ∧ closingCtx { ctxAt fab 2 with st := .stopping } = true ∧
    ctxOfEp fab (bits gwrite.addr 63 44) = none ∧
    entFor fab 2 9 = some 5 ∧ bitAt (planeAt fab 3 5) 3 = true ∧ (entAt fab 5).keyed = true ∧ gwrite.len < 512 ∧
    (entAt (fabEnt false true 8) 5).keyed = false ∧ bitAt (planeAt (fabEnt true true 16) 3 5) 3 = false ∧
    choosePort 9 0 (maskOf ((bitList 24 (planeAt (fabEnt true true 16) 3 5)).filter (fun k => bitAt 16 k))) = some 4 ∧
    choosePort 9 0 (maskOf ((bitList 24 (planeAt (fabEnt true true 16) 3 5)).filter (fun k => bitAt 8 k))) = none ∧
    entFor active 2 9 = none ∧ ctxOfEp (twoCtx 0 true) (bits (gwriteTo 8).addr 63 44) = some 3 ∧ epOf (ctxAt (twoCtx 0 true) 2) ≠ 0 ∧
    ownRow (twoCtx 1 true) 2 3 = some 18 ∧ ownRow (twoCtx 0 false) 2 3 = some 13 ∧ ownRow (twoCtx 0 true) 2 3 = none ∧
    refusesOp (twoCtx 0 true) 3 1 0 64 0 gwrite.data = false ∧
    gwrite.data.length = 64 ∧ (txAt (fabPort { upPort with merge := [gwrite] }) 3 2 5 0).unacked = [] ∧
    (txAt (fabPort { upPort with merge := [gwrite] }) 3 2 5 0).sent = 0 ∧ (txAt (fabPort { upPort with merge := [gwrite] }) 3 2 5 0).hold = 0 ∧
    1 ≤ (txAt (fabPort { upPort with merge := [gwrite] }) 3 2 5 0).window ∧ linkRoom (fabPort { upPort with merge := [gwrite] }) 3 0 1 = true ∧
    next (fun t => t.out.length == 1) (exec (.fabMergeTimeout 3) (fabPort { upPort with merge := [gwrite] })) = true := by
  decide +kernel

/-- A packet refused by no row of R292. -/
def good : FabPkt := fpkt 1 8

/-- A receiving stream of this class that expects this SEQ. -/
def rxs (cls expected : Nat) : RxStream :=
  { src := 9, dst := 7, cls := cls, expected := expected, wait := [], ackDue := none, echo := 0, frag := 0, buf := [] }

theorem test_witness_ReceiveChecks :
    readHead (wire good) = good ∧ (portAt fab 3).up = true ∧ (portAt (fabPort {}) 3).up = false ∧
    (readHead (wire (fpkt 10 0))).type = 10 ∧ (readHead (wire { fpkt 9 1 with code := 8 })).code = 8 ∧
    hdrOk { good with lines := 9 } = false ∧ hdrOk good = true ∧ ctxOfEp fab 8 = none ∧ ctxOfEp fab 7 = some 2 ∧
    (ctxAt { fab with ctxs := [(2, { ctxAt fab 2 with quarantined := true })] } 2).quarantined = true ∧
    entFor fab 2 8 = none ∧ (entAt fab 4096).keyed = false ∧ entFor fab 2 9 = some 5 ∧ (entAt (fabEnt false true 8) 5).keyed = false ∧
    good.clear = false ∧ good.authOk = true ∧ good.kph = (pairKey fab 5).rxPhase ∧ (pairKey fab 5).oldHeld = false ∧
    (readHead (wire { good with kph := true })).kph ≠ (pairKey fab 5).rxPhase ∧ classOf 5 = 3 ∧
    (fpkt 5 0).seq < (pairKey (fabKey { entry := 5, ctrlRx := 1 }) 5).ctrlRx ∧ (entAt (fabEnt true false 8) 5).member = false ∧
    (1 ≤ (32767 + 65536 - (ctxAt fab 2).fabEpoch) % 65536 ∧ (32767 + 65536 - (ctxAt fab 2).fabEpoch) % 65536 < 32768) ∧
    32768 ≤ (32768 + 65536 - (ctxAt fab 2).fabEpoch) % 65536 ∧ epochNack good = false ∧
    good.srcGen = (entAt fab 5).peerGen ∧ 5 ≠ (entAt fab 5).peerGen ∧ dstGenOk (ctxAt fab 2) { good with dstGen := 1 } = false ∧
    FabPasses fab good 2 5 ∧ (rxAt fab 3 9 7 0).expected < 1 ∧ (entAt fab 5).valid = true ∧ AnswersNow fab 3 2 ∧
    good.seq < (rxAt (fabPort { upPort with rx := [rxs 0 1] }) 3 9 7 0).expected := by
  decide +kernel

theorem test_witness_FabricOperations :
    (∀ f ∈ [fpkt 1 8, { fpkt 2 0 with length := 512 }, { fpkt 3 1 with addr := 2 ^ 43 }, { fpkt 1 8 with addr := 15 * 2 ^ 36 }],
      Arrives fab 3 (wire f) f ∧ FabNext fab 3 f 2 5) ∧
    refusesOp fab 2 1 0 512 0 (fpkt 1 8).payload = false ∧ refusesOp fab 2 2 0 512 0 [] = false ∧
    refusesOp fab 2 3 (2 ^ 43) 64 0 (fpkt 3 1).payload = false ∧ refusesOp fab 2 1 (15 * 2 ^ 36) 512 0 (fpkt 1 8).payload = true ∧
    AnswersNow fab 3 2 := by
  decide +kernel

/-- A stream of port 3 with one packet unacknowledged. -/
def tx1 (type timeouts hold : Nat) : TxStream :=
  { ctx := 2, entry := 5, cls := 0, next := 1, unacked := [{ fpkt type 1 with reqTag := 6 }], reqs := [(6, [{ gwrite with kind := if type = 3 then 8 else 1 }])],
    sent := 1, again := 0, timeouts := timeouts, window := 250, ignoreTil := 0, hold := hold, resume := 0 }

/-- A READ's stream, whose answer has the tag 6. -/
def txRead : TxStream := { tx1 1 0 0 with unacked := [], sent := 0, reqs := [(6, [{ gwrite with kind := 0, data := [], pois := [] }])] }

/-- A NACK EPOCH_BEHIND of a peer in epoch 5. -/
def behind : FabPkt := { fpkt 6 0 with code := 8, epoch := 5 }

/-- Port 3 with this stream. -/
def sending (t : TxStream) : State := fabPort { upPort with tx := [t] }

theorem test_witness_FabricAnswers :
    (∀ y ∈ [1, 3], (portAt (sending (tx1 y 0 0)) 3).tx = [tx1 y 0 0] ∧ classOf y = 0 ∧ linkRoom (sending (tx1 y 0 0)) 3 0 1 = true) ∧
    (∀ f ∈ [fpkt 5 0, { fpkt 6 0 with code := 4 }, { fpkt 6 0 with code := 8 }, { fpkt 6 0 with code := 12 }, { fpkt 6 0 with code := 16 }],
      Arrives (sending (tx1 1 0 0)) 3 (wire f) f ∧ FabCtrl (sending (tx1 1 0 0)) f 2 5) ∧
    Arrives (sending (tx1 1 0 0)) 3 (wire behind) behind ∧ behind.epoch ≠ (ctxAt fab 2).fabEpoch ∧ behind.code = 8 ∧
    FabCtrl (sending (tx1 1 0 0)) { behind with epoch := (ctxAt fab 2).fabEpoch } 2 5 ∧
    linkRoom (sending (tx1 1 0 2)) 3 0 1 = true := by
  decide +kernel

/-- The answer to that READ. -/
def answer6 : FabPkt := { fpkt 4 1 with reqTag := 6 }

theorem test_witness_FabricAnswers_timers :
    (tx1 1 6 0).timeouts < 7 ∧ (tx1 3 7 0).timeouts = 7 ∧ (tx1 1 0 2).hold = 2 ∧ (tx1 1 0 2).resume ≤ (fpkt 1 1).seq ∧
    (entAt fab 5).keyed = true ∧ Arrives (sending txRead) 3 (wire answer6) answer6 ∧
    FabNext (sending txRead) 3 answer6 2 5 ∧ gwrite.len = 64 ∧
    (portAt (fabPort { upPort with rx := [{ rxs 0 1 with ackDue := some 0 }] }) 3).tx = [] ∧
    AnswersNow (fabPort { upPort with rx := [{ rxs 0 1 with ackDue := some 0 }] }) 3 2 ∧
    next (fun t => t.out.length == 1) (exec (.resendTimeout 3 0) (sending (tx1 1 6 0))) = true ∧
    next (fun t => !bitAt (planeAt t 3 5) 3) (exec (.resendTimeout 3 0) (sending (tx1 3 7 0))) = true := by
  decide +kernel

/-- A replica barrier at basin 0 of part `part`, in phase 4. -/
def replica (part : Nat) (cur : List (Nat × Nat × Nat)) : State :=
  { fab with basins := [(0, { ctx := some 2, objs := [(9, { barrier cur with replica := true, phase := 4 })] })],
             ctxs := [(2, { ctxAt fab 2 with layout := some { lay with part := part } })] }

/-- An ARRIVE or RELEASE packet for object 9 of image basin 0, phase 4, slot 7, task slot 1. -/
def syncPkt9 (type : Nat) : FabPkt :=
  { fpkt type 1 with payload := fitBytes 64 (leBytes 8 (fields [(4, 9), (16, 7), (30, 1), (33, 4)])) }

theorem test_witness_FabricBarriers :
    (∀ y ∈ [7, 8], Arrives (replica 0 []) 3 (wire (syncPkt9 y)) (syncPkt9 y)) ∧
    FabNext (replica 0 []) 3 (syncPkt9 7) 2 5 ∧ ((rxSync (replica 0 []) 2 (syncPkt9 7)).map (fun r => (r.1, r.2.obj, r.2.val))) = some (0, 9, 4) ∧
    (objAt (replica 0 []) 0 9).isSome = true ∧ isHome (ctxAt (replica 0 []) 2) = true ∧ AnswersNow (replica 0 []) 3 2 := by
  decide +kernel

theorem test_witness_FabricBarriers_more :
    FabNext (replica 0 [(9, 7, 1)]) 3 (syncPkt9 7) 2 5 ∧ FabNext (replica 1 []) 3 (syncPkt9 8) 2 5 ∧
    isHome (ctxAt (replica 1 []) 2) = false ∧
    next (fun t => (objAt t 0 9).map (·.cur) == some [(9, 7, 1)]) (exec (.fabArrive 3 (wire (syncPkt9 7))) (replica 0 [])) = true ∧
    next (fun t => (objAt t 0 9).map (·.phase) == some 5) (exec (.fabRelease 3 (wire (syncPkt9 8))) (replica 1 [])) = true := by
  decide +kernel

/-- A management message of one fragment with this code and body. -/
def mgmt (code : Nat) (body : List Byte) : FabPkt :=
  { fpkt 9 8 with code := code, payload := fitBytes 512 (leBytes 2 0 ++ leBytes 2 1 ++ leBytes 4 body.length ++ body) }

/-- A peer that meets R289, and one that is not DEPLOYED. -/
def peerGood : PeerFacts := { lifeCycle := 2, ownerKey := 0, fwMajor := 0, gen := 255 }
def peerBad : PeerFacts := { peerGood with lifeCycle := 1 }

/-- The module in its first deployment, under owner digest 0, with the entry of endpoint 9 not keyed. -/
def pairing : State := { fabEnt false true 8 with fuse := { fab.fuse with lcCount := 2, ownerDigest := [(0, 0)] } }

theorem test_witness_FabricKeys :
    (let f := { mgmt 1 [1, 2] with clear := true, tag := 0 }
     Arrives pairing 3 (wire f) f ∧ hdrOk f = true ∧ ctxOfEp pairing f.dstId = some 2 ∧ (ctxAt pairing 2).quarantined = false ∧
     entFor pairing 2 f.srcId = some 5 ∧ (entAt pairing 5).valid = true ∧
     (entAt pairing 5).keyed = false ∧ f.type = 9 ∧ f.code = 1 ∧ f.seq = (rxAt pairing 3 9 7 2).expected ∧ (rxAt pairing 3 9 7 2).wait = [] ∧
     leNat (f.payload.take 2) = 0 ∧ leNat ((f.payload.drop 2).take 2) = 1 ∧ leNat ((f.payload.drop 4).take 4) ≤ 504 ∧
     (rxAt pairing 3 9 7 2).frag = 0 ∧ (txAt pairing 3 2 5 2).unacked = [] ∧ (txAt pairing 3 2 5 2).sent = 0 ∧
     (txAt pairing 3 2 5 2).hold = 0 ∧ 1 ≤ (txAt pairing 3 2 5 2).window ∧ linkRoom pairing 3 2 8 = true ∧
     storeUnits (ctxAt pairing 2).store + 2 ≤ 8192 ∧ peerOk pairing true peerGood = true ∧ peerOk pairing true peerBad = false ∧ peerOk pairing false peerGood = false ∧
     next (fun t => (entAt t 5).keyed && (entAt t 5).peerGen == 255) (exec (.mgmtSpdm 3 (wire f) true true peerGood) pairing) = true) ∧
    Arrives fab 3 (wire (mgmt 1 [1, 2])) (mgmt 1 [1, 2]) ∧ FabNext fab 3 (mgmt 1 [1, 2]) 2 5 ∧ (entAt fab 5).keyed = true ∧
    renewDue fab { entry := 5, count := 2 ^ 40 } = true ∧ renewDue fab { entry := 5, count := 2 ^ 40 - 1 } = false ∧
    eraseDue { fab with sup := { fab.sup with ticks := 25000 } } { entry := 5, oldHeld := true } = true ∧
    eraseDue { fab with sup := { fab.sup with ticks := 24999 } } { entry := 5, oldHeld := true } = false := by
  decide +kernel

/-- The bytes of a record of epoch `e` in a domain that lists one endpoint. -/
def memb (domain e id : Nat) : List Byte :=
  recordBytes { magic := 0x424D454D, domain := domain, epoch := e, count := 1, members := [{ id := id, switchDest := 0, plane := 8 }],
                sig := [], formOk := true }

/-- `fab` with a registered fabric manager, and core 5 running in its basin. -/
def managed : State := { fab with trust := { fab.trust with fmKey := some 1 } }
def managedCore : State := { managed with cores := [(5, running [])] }

theorem test_witness_MembershipRecords :
    epOf (ctxAt managed 2) ≠ 0 ∧ (∀ m, m < 16 → m ≠ 2 → epOf (ctxAt managed m) = 0) ∧ (ctxAt managed 2).fenced = false ∧
    recordOk managed (recordOf (memb 3 1 7)) false = false ∧ recordOk managed (recordOf ((memb 3 1 7).drop 1)) true = false ∧
    recordOk managed (recordOf (memb 3 1 7)) true = true ∧ recordOk managed (recordOf (memb 3 1 8)) true = true ∧
    (recordOf (memb 3 1 7)).members.length = 1 ∧ bits (ctxAt managed 2).act.fabId 35 20 = (recordOf (memb 3 1 7)).domain ∧
    bits (ctxAt managed 2).act.fabId 35 20 ≠ (recordOf (memb 4 1 7)).domain ∧
    newer 32768 0 = false ∧ newer 32767 0 = true ∧ newer (recordOf (memb 3 1 7)).epoch (ctxAt managed 2).fabEpoch = true ∧
    (recordOf (memb 3 1 7)).members.any (fun m => m.id == epOf (ctxAt managed 2)) = true ∧
    entsOf { managed with fab := {} } 2 = [] ∧ (recordOf (memb 3 1 8)).members.any (fun m => m.id == epOf (ctxAt managed 2)) = false ∧
    (∀ p < 24, (portAt managed p).merge = [] ∧ (portAt managed p).keyWait = [] ∧ (portAt managed p).tx = []) ∧
    ctxCores managed 2 = [] ∧ ctxCores managedCore 2 = [5] ∧ (slotAt (coreAt managedCore 5) 1).st = .running ∧
    storeUnits (ctxAt managed 2).store + 2 ≤ 8192 ∧ Arrives managed 3 (wire (mgmt 2 (memb 3 0 7))) (mgmt 2 (memb 3 0 7)) ∧
    FabNext managed 3 (mgmt 2 (memb 3 0 7)) 2 5 ∧ (memb 3 0 7).length ≤ 504 ∧
    next (fun t => (ctxAt t 2).fenced) (exec (.mctpMembershipRecord ⟨memb 3 1 8, true⟩) managed) = true := by
  decide +kernel

/-- `fab` with a weight package of digest 3, which the peer's PART_INFO names as well. -/
def partners : State :=
  { fab with ctxs := [(2, { ctxAt fab 2 with wpkg := some { digest := 3, pkgLen := 65536, shards := [shard], scales := [] } })],
             fab := { fab.fab with partInfo := [(5, 4, 0, 0, 3)] } }

theorem test_witness_FabricMessages :
    (∀ f ∈ [mgmt 3 (leBytes 4 9), mgmt 4 [], mgmt 5 (leBytes 8 1), mgmt 6 [], mgmt 7 []],
      Arrives partners 3 (wire f) f ∧ FabNext partners 3 f 2 5 ∧ leNat (f.payload.take 2) = 0 ∧ leNat ((f.payload.drop 2).take 2) = 1 ∧
      (rxAt partners 3 9 7 2).frag = 0 ∧ leNat ((f.payload.drop 4).take 4) ≤ 504) ∧
    (txAt partners 3 2 5 2).unacked = [] ∧ (txAt partners 3 2 5 2).sent = 0 ∧ (txAt partners 3 2 5 2).hold = 0 ∧
    1 ≤ (txAt partners 3 2 5 2).window ∧ linkRoom partners 3 2 8 = true ∧
    bits (leNat (leBytes 4 9)) 19 0 = (entAt partners 5).peer ∧ isPartner partners 2 5 = true ∧ isPartner fab 2 5 = false ∧
    (ctxAt fab 2).wpkg = none ∧ entsOf partners 2 = [5] ∧ mgmtPort partners 2 5 = some 3 ∧
    next (fun t => !(entAt t 5).keyed) (exec (.ctxClose 3 (wire (mgmt 3 (leBytes 4 9)))) partners) = true ∧
    next (fun t => t.out.length == 1) (exec (.digestExchangeSend 2) partners) = true := by
  decide +kernel

/-! ### Steps, sections and drains -/

/-- A host command of this OPC. -/
def hcmd (l : List (Nat × Nat)) : HCmd := { ring := 0, idx := 0, desc := BitVec.ofNat 512 (fields l), started := false, seqNo := 0 }

/-- Context 2 with these changes. -/
def ctx2 (f : Ctx → Ctx) : State := { ready with ctxs := [(2, f (ctxAt active 2))] }

/-- Context 2 with this command fetched. -/
def cmd2 (h : HCmd) : State := ctx2 (fun x => { x with cmds := [h] })

theorem test_witness_StepPulses :
    admits active 2 = true ∧ stepSrc (ctxAt active 2) = 0 ∧ TakesCmd (cmd2 (hcmd [(0, 9)])) 2 9 (hcmd [(0, 9)]) := by
  decide +kernel

/-- Context 2 with c microbatches in step 4, the microbatch after them closed, and this latch and configuration. -/
def atStep (c cfg : Nat) (latch : Bool) : State :=
  ctx2 (fun x => { x with inStep := c, stepNum := 4, closed := some 3, latch := latch, stepCfg := cfg,
                          mbs := [{ num := 8, step := 4, reqs := [], admitted := false, complete := false, aborted := false, closed := true }] })

theorem test_witness_StepPositions :
    (∀ s ∈ [atStep 8 1 true, atStep 16 2 true, atStep 16 0 false, atStep 24 2 false, atStep 7 1 true, atStep 8 0 false],
      mayAdmit s 2 lay = true ∧ mbDue s 2 false = true ∧ (ctxAt s 2).boundary = none ∧ (ctxAt s 2).forced = false ∧
      (ctxAt s 2).nextMb ≠ 0 ∧ (ctxAt s 2).staged = [] ∧ dueCloses (ctxAt s 2) = [] ∧ changesOf s 2 = [] ∧
      s.mesh.gaps0 = s.mesh.gaps1 ∧ lay.slots ≤ goodOf s 2 ∧ boundaryWaits s 2 (nextStep (ctxAt s 2)) = false) := by
  decide +kernel

theorem test_step_positions :
    (∀ s ∈ [atStep 8 1 true, atStep 16 2 true, atStep 16 0 false, atStep 24 2 false],
      next (fun t => (ctxAt t 2).stepNum == 5 && (ctxAt t 2).inStep == 1) (exec (.microbatchAdmit 2 false) s) = true) ∧
    (∀ s ∈ [atStep 7 1 true, atStep 8 0 true],
      next (fun t => (ctxAt t 2).stepNum == 4 && (ctxAt t 2).ignored == 1) (exec (.microbatchAdmit 2 false) s) = true) := by
  decide +kernel

theorem test_witness_AdmissionWaits :
    (ctxAt (ctx2 (fun x => { x with layout := none })) 2).layout = none ∧ (ctxAt (ctx2 (fun x => { x with fenced := true })) 2).fenced = true ∧
    bufferFree (ctxAt (ctx2 (fun x => { x with mbs := [{ num := 7, step := 4, reqs := [], admitted := true, complete := false,
                                                         aborted := false, closed := true }] })) 2) = false ∧
    grantOf active 2 = [0] ∧ (basinAt { active with basins := [(0, { ctx := some 2, wedge := true })] } 0).wedge = true ∧
    (let x := ctxAt (ctx2 (fun x => { x with boundary := some (1, 0), stepNum := 4, closed := some 2 })) 2
     x.boundary = some (1, 0) ∧ x.nextMb ≠ 0 ∧ 1 ≤ x.stepNum ∧ x.closed = some 2 ∧ 2 + 1 < x.stepNum) := by
  decide +kernel

/-- A request of one token. -/
def req1 : Req :=
  { tag := 3, ring := 0, session := 1, tokens := 1, pos := 0, outAddr := 4096, sessPos := 0, noIrq := false, flush := false, drops := 0,
    aborted := none, inData := [], firstPage := 0 }

/-- Microbatch 1 with that request, admitted. -/
def mb1 : Mb := { num := 1, step := 1, reqs := [req1], admitted := true, complete := false, aborted := false, closed := true }

/-- Context 2 with microbatch 1 in hand, core 5 this far. -/
def inHand (firing : Nat) : State :=
  { ctx2 (fun x => { x with mbs := [mb1] }) with cores := [(5, { running [] with firing := firing })] }

theorem test_witness_MicrobatchDone :
    (ctxAt (inHand 4) 2).mbs = [mb1] ∧ mb1.admitted = true ∧ mb1.complete = false ∧ mbRan (inHand 4) 2 lay 1 = true ∧
    req1.aborted = none ∧ (ctxAt (inHand 4) 2).drops = [] ∧ mbRan (inHand 3) 2 lay 1 = false := by
  decide +kernel

/-- The same in step 2, with step 0 closed last. -/
def closing (firing step : Nat) : State :=
  { inHand firing with ctxs := [(2, { ctxAt (inHand firing) 2 with stepNum := step, closed := some 0 })] }

theorem test_witness_StepCloses :
    Machine.stopped (closing 4 2) 2 = false ∧ 1 < (ctxAt (closing 4 2) 2).stepNum ∧ stepRan (closing 4 2) 2 lay 1 = true ∧ lay.mode = 0 ∧
    (ctxAt (closing 4 1) 2).stepNum ≤ 1 ∧ stepRan (closing 3 2) 2 lay 1 = false ∧
    next (fun t => (ctxAt t 2).closed == some 1) (exec (.scaleClose 2) (closing 4 2)) = true := by
  decide +kernel

theorem test_witness_TrackedScale :
    windowSteps { amaxHist := [(3, 6, 200)] } { lay with winL := 1 } 3 = [3] ∧ 6 % 4096 = 6 ∧
    (nextScale { amaxHist := [(3, 6, 120)] } { lay with winL := 1 } 3 6).1 = 115 ∧
    (nextScale { amaxHist := [(3, 6, 200)] } { lay with winL := 1 } 3 6) = (127, true) := by
  decide +kernel

/-- A layout of two sections in basin 0, the first of which has run its 2 microbatches. -/
def swapping : State :=
  { ctx2 (fun x => { x with layout := some { lay with sections := [2 * 2 ^ 16, 2 ^ 8 + 2 * 2 ^ 16] } }) with cores := [(5, running [])] }

/-- A drain of basin 0 whose sweep is over. -/
def draining (why : DrainFor) (now : Nat) (c : Core) : State :=
  { ready with sup := { ready.sup with ticks := now }, cores := [(5, c)],
               mesh := { ready.mesh with drains := [{ fencing with why := why, swept := true }] } }

theorem test_witness_Drains :
    (basinAt swapping 0).ctx = some 2 ∧ swapDue swapping 2 0 { lay with sections := [2 * 2 ^ 16, 2 ^ 8 + 2 * 2 ^ 16] } = true ∧
    (ctxAt swapping 2).boundary = none ∧ (basinAt active 1).ctx = none ∧
    (∀ w ∈ [DrainFor.unload, .layoutFault], drained (draining w 0 {}) { fencing with why := w, swept := true } = true) ∧
    (ctxAt (draining .unload 0 {}) 2).st = .active ∧
    drained (draining .swap 2500 (running [])) { fencing with why := .swap, swept := true } = false ∧
    fencing.limit ≤ 2500 - fencing.start ∧ 2499 - fencing.start < fencing.limit ∧
    next (fun t => (ctxAt t 2).layout.isNone && (basinAt t 0).gen == 1) (exec .drainComplete (draining .unload 0 {})) = true ∧
    next (fun t => t.rst.cur.isSome) (exec .drainTimeout (draining .swap 2500 (running []))) = true := by
  decide +kernel

/-- Slot 7 moves from core 5 to core 6 for a test. -/
def move7 : Move := { slot := 7, from_ := 5, to_ := 6, fault := false, test := true }

/-- That move, copied or not. -/
def moving (old : Bool) : State :=
  { ready with cores := [(5, running []), (6, { running [] with holding := true })],
               mesh := { ready.mesh with moves := [move7], oldBank := old } }

theorem test_witness_CarryCopied :
    move7.from_ ≠ move7.to_ ∧ (moving true).mesh.oldBank = true ∧ (moving false).mesh.oldBank = false ∧
    (moving false).mesh.flipping = false ∧ oldSettled (running []) = true ∧ unitsIdle (running []) = true ∧
    fillsDone (moving false) 6 = true ∧ (moving false).heal.refills = [] ∧ (moving false).rst.cur = none ∧
    next (fun t => t.mesh.moves.isEmpty && !(coreAt t 6).holding) (exec (.carryCopyComplete 7 true) (moving false)) = true := by
  decide +kernel

/-! ### Contexts, rings and host commands -/

/-- READY with the host link up, context 2 with these changes. -/
def host2 (f : Ctx → Ctx) : State := { ctx2 f with hostp := { ready.hostp with up := true } }

/-- Context 2 staged for this grant. -/
def staging (g : Nat) : State := ctx2 (fun x => { x with layout := none, stg := { grant := g }, applyErr := false })

/-- Context 3, FREE, staged for this grant. -/
def staging3 (g : Nat) : State := { ready with ctxs := ready.ctxs ++ [(3, { stg := { grant := g } })] }

theorem test_witness_ContextsApplied :
    applyOk (staging3 1) 3 = false ∧ applyOk (staging 2) 2 = true ∧
    (ctxAt (staging 2) 2).layout = none ∧ (ctxAt (staging 2) 2).st = .active ∧ (basinAt (staging 2) 0).ctx = some 2 ∧
    bitAt 2 0 = false ∧ bitAt 2 1 = true ∧ applyOk (staging3 2) 3 = true ∧ (ctxAt (staging3 2) 3).st = .free ∧
    (basinAt { active with basins := [(1, { clearing := true })] } 1).clearing = true ∧
    next (fun t => decide ((ctxAt t 3).st = .active ∧ (basinAt t 1).ctx = some 3 ∧ (basinAt t 0).ctx = some 2)) (exec (.apply 3) (staging3 2)) = true := by
  decide +kernel

theorem test_witness_Teardown :
    (ctxAt active 2).st = .active ∧ (ctxAt active 3).st ≠ .active ∧ (∀ m, m < 16 → (ctxAt State.reset m).st ≠ .active) ∧
    next (fun t => decide ((ctxAt t 2).st = .stopping ∧ (ctxAt t 2).gen = 1 ∧ (coreAt t 5).held = true)) (exec (.teardown 2) active) = true := by
  decide +kernel

/-- Context 2 in this state, with a command outstanding or not. -/
def ending (st : CtxSt) (out : Nat) (q : Bool) : State := ctx2 (fun x => { x with st := st, fabOut := out, quarantined := q })

theorem test_witness_ContextsCleared :
    (∀ st ∈ [CtxSt.stopping, .clearing, .quarantine], allAnswered (ending st 0 true) 2 = true) ∧
    allAnswered (ending .stopping 1 false) 2 = false ∧ (ending .clearing 0 false).trust.transition = none ∧
    (ctxAt (ending .clearing 0 false) 2).quarantined = false ∧ (ctxAt (ending .clearing 0 true) 2).quarantined = true ∧
    next (fun t => decide ((ctxAt t 2).st = .free ∧ (basinAt t 0).ctx = none)) (exec (.contextClearComplete 2) (ending .clearing 0 false)) = true := by
  decide +kernel

/-- Context 2 enabled, with rings of 64 entries: submission ring 3 holds one descriptor, both outgoing rings as given. -/
def rings (cq msg : OutRing) (f : Ctx → Ctx) : State :=
  host2 (fun x => f { x with enable := true, cq := cq, msg := msg, sq := [(3, { head := 63, tail := 0 })],
                             act := { x.act with sqCfg := [(3, 6)], cqCfg := 2 ^ 32 + 6, msgCfg := 2 ^ 32 + 5 * 2 ^ 8 + 9 * 2 ^ 24 + 6 } })

theorem test_witness_Doorbells :
    ringSize (sqCfgOf (ctxAt (rings {} {} id) 2) 3) = 64 ∧ ringSize (sqCfgOf (ctxAt (rings {} {} id) 2) 4) = 0 ∧
    ringSize (ctxAt (rings {} {} id) 2).act.cqCfg = 64 ∧ ringSize (ctxAt (rings {} {} id) 2).act.msgCfg = 64 ∧
    ringSize (ctxAt active 2).act.cqCfg = 0 ∧ ringSize (ctxAt active 2).act.msgCfg = 0 := by
  decide +kernel

theorem test_witness_Fetching :
    fetchRing (rings {} {} id) 2 = some 3 ∧ fld (BitVec.ofNat 512 0x10) 7 0 = 0x10 ∧ ringsUp active = false ∧
    fetchRing { rings {} {} id with ctxs := (0, { st := .active }) :: (rings {} {} id).ctxs } 2 = some 3 ∧
    (ctxAt (cmd2 (hcmd [(0, 6)])) 2).cmds = [hcmd [(0, 6)]] ∧ readsHost (cmdOpc (hcmd [(0, 6)])) = true ∧
    parked (ctxAt (cmd2 (hcmd [(0, 6)])) 2) (hcmd [(0, 6)]) = false ∧
    next (fun t => (sqAt (ctxAt t 2) 3).head == 0 && (ctxAt t 2).lastRing == 3) (exec (.descriptorFetch 2 0) (rings {} {} id)) = true := by
  decide +kernel

/-- A completion record of ring 3. -/
def comp3 : Comp := comp 9 3 0 1 2 false

theorem test_witness_CompletionsWritten :
    Served (rings {} {} id) 2 ∧ (ctxAt (rings { wr := 63 } {} (fun x => { x with comps := [comp3] })) 2).comps = [comp3] ∧
    irqDue (ctxAt (rings {} {} id) 2).act.cqCfg { unann := 1 } false = true ∧
    irqDue (ctxAt (rings {} {} id) 2).act.cqCfg {} true = false ∧
    irqDue (ctxAt (rings {} {} id) 2).act.msgCfg { unann := 1 } true = true ∧
    next (fun t => (ctxAt t 2).cq.wr == 0 && !(ctxAt t 2).cq.phase && (ctxAt t 2).cq.count == 64 && (ctxAt t 2).cq.unann == 1)
      (exec (.completionWrite 2) (rings { wr := 63, count := 63 } {} (fun x => { x with comps := [comp3] }))) = true ∧
    goesTo (rings { count := 64 } {} (fun x => { x with comps := [comp3] }))
      (exec (.completionWrite 2) (rings { count := 64 } {} (fun x => { x with comps := [comp3] }))) = true := by
  decide +kernel

/-- A record of two units waits in the store. -/
def rec2 (wr head : Nat) : State :=
  rings {} { wr := wr, head := head } (fun x => { x with store := [bytesRec 3 0 0 0 [1, 2, 3]] })

theorem test_witness_RecordsPlaced :
    Served (rec2 62 62) 2 ∧ (ctxAt (rec2 62 62) 2).store = [bytesRec 3 0 0 0 [1, 2, 3]] ∧ (ctxAt (rec2 62 62) 2).lostRun = 0 ∧
    (ctxAt (rec2 62 62) 2).lateComps = [] ∧ (bytesRec 3 0 0 0 [1, 2, 3]).units = 2 ∧
    next (fun t => (ctxAt t 2).msg.wr == 0 && !(ctxAt t 2).msg.phase && (ctxAt t 2).msgSeq == 1) (exec (.messageRecordPlace 2) (rec2 62 62)) = true ∧
    next (fun t => (ctxAt t 2).msg.wr == 2 && !(ctxAt t 2).msg.phase) (exec (.messageRecordPlace 2) (rec2 63 3)) = true ∧
    goesTo (rec2 60 62) (exec (.messageRecordPlace 2) (rec2 60 62)) = true ∧
    goesTo (rec2 63 2) (exec (.messageRecordPlace 2) (rec2 63 2)) = true := by
  decide +kernel

/-- FAB_RECORD waits, under a fabric manager key, in context 2 with endpoint 7 of domain 3. -/
def recording : State :=
  { ctx2 (fun x => { x with cmds := [hcmd [(0, 0xC), (128, 424)]], act := { x.act with fabId := 7 + 3 * 2 ^ 20 } }) with
      trust := { ready.trust with fmKey := some 1 } }

theorem test_witness_PlainHostCommands :
    (∀ opc ∈ [0, 5, 0xA, 0xB, 0xC, 0xD], TakesCmd (cmd2 (hcmd [(0, opc), (128, 64)])) 2 opc (hcmd [(0, opc), (128, 64)])) ∧
    (ctxAt (ctx2 (fun x => { x with layout := none })) 2).layout = none ∧ (ctxAt active 2).layout ≠ none ∧
    cmdField (hcmd [(0, 0xC)]) 16 4 = 0 ∧ cmdField (hcmd [(0, 0xC), (128, 424)]) 16 4 = 424 ∧
    TakesCmd recording 2 0xC (hcmd [(0, 0xC), (128, 424)]) ∧
    recordOk recording (recordOf (memb 3 1 7)) false = false ∧ recordOk recording (recordOf (memb 3 1 7)) true = true ∧
    (∀ m, m < 16 → newer (recordOf (memb 3 0 7)).epoch (ctxAt recording m).fabEpoch = false) ∧
    newer (recordOf (memb 3 1 7)).epoch (ctxAt recording 2).fabEpoch = true ∧
    bits (ctxAt recording 2).act.fabId 35 20 = (recordOf (memb 3 1 7)).domain ∧ epOf (ctxAt recording 2) ≠ 0 ∧
    (∀ m, m < 16 → m ≠ 2 → epOf (ctxAt recording m) = 0) ∧ (ctxAt recording 2).fenced = false ∧
    (recordOf (memb 3 1 7)).members.any (fun m => m.id == epOf (ctxAt recording 2)) = true ∧
    (recordOf (memb 3 1 7)).members.length = 1 ∧ entsOf recording 2 = [] ∧
    storeUnits (ctxAt (cmd2 (hcmd [])) 2).store + (bytesRec 6 0 0 0 (lateBytes (ctxAt (cmd2 (hcmd [])) 2))).units ≤ 8192 ∧
    next (fun t => (ctxAt t 2).fabEpoch == 1) (exec (.fabRecord 2 ⟨memb 3 1 7, true⟩) recording) = true := by
  decide +kernel

/-- An envelope of 16 bytes that verifies. -/
def env16 (kind : Nat) : Envelope :=
  { magic := 0x564E4556, kind := kind, version := 1, serial := 0, k := 2, bodyLen := 16, keyOk := true, tagOk := true, sigOk := true,
    body := List.replicate 16 7 }

/-- DEPLOYED, with the transport key of its count. -/
def deployed (s : State) : State := { s with fuse := { s.fuse with lcCount := 2, serial := 0 }, trust := { s.trust with kT := some 2 } }

/-- A shard whose 16 bytes arrive at package offset 0x200. -/
def shard1 : Shard := { id := 1, basins := 1, missing := 0, hbmOff := 1, pkgOff := 512, length := 64, digest := 0, arrived := 0, good := 0 }

/-- A package of it. -/
def pack1 : Wpkg := { digest := 5, pkgLen := 4096, shards := [shard1], scales := [] }

/-- The piece of a package. -/
def piece (env : Option Envelope) : WpkgPiece := { env := env, plain := List.replicate 16 7, badTags := [] }

theorem test_witness_ImagesStaged :
    TakesCmd (cmd2 (hcmd [(0, 1)])) 2 1 (hcmd [(0, 1)]) ∧ cmdField (hcmd [(0, 1), (128, 928)]) 16 4 = 512 + (env16 1).bodyLen + 400 ∧
    TakesCmd (cmd2 (hcmd [(0, 1), (128, 928)])) 2 1 (hcmd [(0, 1), (128, 928)]) ∧
    envOk (cmd2 (hcmd [])) (env16 1) 1 = false ∧ envOk (deployed (cmd2 (hcmd []))) (env16 1) 1 = true ∧
    partsOf (cmd2 (hcmd [])) 2 0 = [0] ∧ partsOf (cmd2 (hcmd [])) 2 2 = [] ∧
    TakesCmd (cmd2 (hcmd [(0, 2)])) 2 2 (hcmd [(0, 2)]) ∧ cmdField (hcmd [(0, 2), (192, 16)]) 24 4 = 16 ∧
    TakesCmd (cmd2 (hcmd [(0, 2), (192, 16)])) 2 2 (hcmd [(0, 2), (192, 16)]) ∧
    (piece none).env.all (fun e => !envOk (cmd2 (hcmd [])) e 2) = true ∧
    TakesCmd (cmd2 (hcmd [(0, 2), (128, 512), (192, 16)])) 2 2 (hcmd [(0, 2), (128, 512), (192, 16)]) ∧
    cmdField (hcmd [(0, 2), (128, 512), (192, 16)]) 16 8 = shard1.pkgOff ∧ 16 < shard1.length ∧ (piece none).plain.length = 16 ∧
    next (fun t => memGet (hbmAt t 0).mem 65551 == 7 && memGet (hbmAt t 0).mem 65552 == 0)
      (exec (.stageWpkg 2 (piece none)) (ctx2 (fun x => { x with cmds := [hcmd [(0, 2), (128, 512), (192, 16)]], wpkg := some pack1 }))) = true := by
  decide +kernel

/-- An image of one basin, one microbatch a step and one station, slot 7, with no code; its package has this digest. -/
def image1 : List Byte :=
  leBytes 4 0x594C414E ++ leBytes 2 0x0600 ++ leBytes 2 0 ++ [1, 0, 0, 0, 1, 0, 1, 0] ++ leBytes 2 1 ++ leBytes 2 4 ++ leBytes 2 1 ++
  leBytes 2 2 ++ leBytes 8 0 ++ List.replicate 32 0 ++ leBytes 32 5 ++ List.replicate 32 0 ++
  leBytes 4 1 ++ leBytes 4 1 ++ leBytes 8 160 ++ leBytes 4 5 ++ leBytes 4 0 ++ leBytes 8 1456 ++
  leBytes 16 7 ++ List.replicate 16 0xFF ++ List.replicate 1264 0

/-- The image staged, no layout or this one, one command waiting. -/
def loads (l : Option Layout) (m : List Byte) (opc : Nat) : State :=
  ctx2 (fun x => { x with layout := l, image := some { image := m, parts := 1 }, wpkg := some { pack1 with shards := [] }, cmds := [hcmd [(0, opc)]] })

theorem test_witness_Loading :
    (∀ opc ∈ [3, 4], TakesCmd (loads (some lay) [] opc) 2 opc (hcmd [(0, opc)])) ∧
    ctxBusy { loads (some lay) [] 3 with mesh := { ready.mesh with drains := [fencing] } } 2 = true ∧
    ctxBusy (loads (some lay) [] 3) 2 = false ∧ (ctxAt (cmd2 (hcmd [(0, 3)])) 2).image = none ∧ needsDrain lay = true ∧
    ({ lay with imageDigest := sha256 [] } : Layout).imageDigest = sha256 [] ∧ lay.imageDigest ≠ sha256 [] ∧
    loadCheck (loads (some lay) [] 3) 2 [] = 1 ∧ (ctxAt (loads none [] 4) 2).layout = none := by
  decide +kernel

theorem test_witness_LayoutInstalled :
    image1.length = 1456 ∧ TakesCmd (loads none image1 3) 2 3 (hcmd [(0, 3)]) ∧ ctxBusy (loads none image1 3) 2 = false ∧
    loadCheck (loads none image1 3) 2 image1 = 0 ∧ placeAll (loads none image1 3) 2 (readLayout image1) = some [(7, 0)] ∧
    loadCheck (loads (some lay) image1 3) 2 image1 = 0 := by
  decide +kernel

/-- INFER of 2 tokens at session position 4, session 1, with these flags, microbatch and position. -/
def infer (flags mb pos count : Nat) : HCmd :=
  hcmd [(0, 6), (64, 1), (96, count), (112, flags), (256, mb), (320, pos), (336, 4)]

/-- Session 1 with this claim and flags. -/
def sess (claim : Nat) (closing : Option (Nat × Nat × Bool)) (lost : Bool) : Sess :=
  { id := 1, keyHeld := true, mirror := false, firstPage := 0, npages := 1, claimEnd := claim, closing := closing, lost := lost,
    rebuilding := false }

/-- Context 2 with that command and session. -/
def asked (h : HCmd) (e : Sess) (f : Layout → Layout) : State :=
  ctx2 (fun x => { x with layout := some (f lay), sessions := [e], cmds := [h] })

theorem test_witness_Requests :
    (∀ h ∈ [infer 0 0 0 2, infer 0 0 0 0, infer 0 0 0 5, infer 1 8 2 2, infer 1 8 3 2, infer 1 7 0 2],
      TakesCmd (asked h (sess 4 none false) id) 2 6 h) ∧
    cmdField (infer 0 0 0 5) 12 2 = 5 ∧ lay.mbTokens = 4 ∧ cmdField (infer 0 0 0 2) 42 4 = 4 ∧ cmdSession (infer 0 0 0 2) = 1 ∧
    cmdField (infer 1 7 0 2) 32 8 = 7 ∧ (ctxAt (asked (infer 1 7 0 2) (sess 4 none false) id) 2).nextMb = 8 ∧
    posFree (mbAt (ctxAt active 2) 8) 4 2 2 = true ∧ posFree (mbAt (ctxAt active 2) 8) 4 3 2 = false ∧
    (∀ p ∈ [(infer 0 0 0 2, sess 4 (some (0, 0, false)) false, 9), (infer 0 0 0 2, sess 4 none true, 0xD), (infer 0 0 0 5, sess 4 none false, 0xF),
            (infer 0 0 0 2, sess 5 none false, 7), (infer 1 7 0 2, sess 4 none false, 0xE), (infer 1 8 3 2, sess 4 none false, 0xE)],
      next (fun t => (ctxAt t 2).comps.map (·.status) == [p.2.2]) (exec (.infer 2 { tagOk := true, data := [] }) (asked p.1 p.2.1 id)) = true) ∧
    next (fun t => (mbAt (ctxAt t 2) 8).reqs.map (·.pos) == [2]) (exec (.infer 2 { tagOk := true, data := [] }) (asked (infer 1 8 2 2) (sess 4 none false) id)) = true ∧
    next (fun t => (mbAt (ctxAt t 2) 8).reqs.map (·.pos) == [0] && (ctxAt t 2).sessions.map (·.claimEnd) == [6])
      (exec (.infer 2 { tagOk := true, data := [] }) (asked (infer 0 0 0 2) (sess 4 none false) id)) = true := by
  decide +kernel

/-- SESSION_OPEN or SESSION_CLOSE of session 1. -/
def sessCmd (opc : Nat) : HCmd := hcmd [(0, opc), (64, 1), (96, 4), (256, 384)]

/-- A key blob of session 1 that opens, or not. -/
def blob1 (ok : Bool) : KeyBlob := { unwraps := ok, sessionId := 1, zeros := true, serial := 0 }

theorem test_witness_Sessions :
    (∀ opc ∈ [7, 8], TakesCmd (asked (sessCmd opc) (sess 4 none false) id) 2 opc (sessCmd opc)) ∧ (blob1 false).unwraps = false ∧
    (cmdField (sessCmd 7) 32 4 = 384 ∧ lcState (deployed ready).fuse = 2 ∧ (blob1 true).unwraps = true ∧
      (blob1 true).sessionId = cmdSession (sessCmd 7) ∧ (blob1 true).zeros = true ∧ (blob1 true).serial = (deployed ready).fuse.serial) ∧
    sessTaken (ctxAt (asked (sessCmd 7) (sess 4 none false) id) 2) 1 = true ∧ sessTaken (ctxAt active 2) 1 = false ∧
    (ctxAt active 2).sessions.find? (fun t => t.id == 1) = none ∧ (sess 4 (some (0, 0, false)) false).closing ≠ none := by
  decide +kernel

/-- Context 2 staged with ring 3 and the completion ring changed. -/
def changing : State :=
  ctx2 (fun x => { x with layout := none, sq := [(2, { head := 5, tail := 9 }), (3, { head := 63, tail := 0 })], ringStop := 12,
                          cq := { wr := 3 }, act := { x.act with grant := 1, sqCfg := [(2, 6), (3, 6)], cqCfg := 6 },
                          stg := { x.act with grant := 1, sqCfg := [(2, 6), (3, 7)], cqCfg := 7 } })

theorem test_witness_RingsReset :
    applyOk changing 2 = true ∧
    (tabGet (ctxAt changing 2).stg.sqBase 3 0 ≠ tabGet (ctxAt changing 2).act.sqBase 3 0 ∨
      tabGet (ctxAt changing 2).stg.sqCfg 3 0 ≠ tabGet (ctxAt changing 2).act.sqCfg 3 0) ∧
    (ctxAt changing 2).stg.cqCfg ≠ (ctxAt changing 2).act.cqCfg ∧
    next (fun t => (sqAt (ctxAt t 2) 3).head == 0 && (sqAt (ctxAt t 2) 2).head == 5 && (ctxAt t 2).ringStop == 4 && (ctxAt t 2).cq.wr == 0)
      (exec (.apply 2) changing) = true := by
  decide +kernel

/-! ### Trust -/

/-- READY at this life-cycle count, with an established session 4, a second one open and a nonce given out. -/
def trusted (count : Nat) : State :=
  { ready with
    fuse := { ready.fuse with lcCount := count },
    trust := { ready.trust with sessions := [{ tr := .mctp, id := 4, established := true, phase := 0 },
                                             { tr := .mctp, id := 5, established := false, phase := 0 }],
                                nonce := some 99, kT := transportK { ready.fuse with lcCount := count } } }

/-- A token bound to that module and count. -/
def tok (op count : Nat) (by_ : Signer) : Token := { opcode := op, k := count, serial := 1, nonce := 99, signer := by_ }

theorem test_witness_SpdmAnswers :
    spdmUp State.reset = false ∧ spdmUp (trusted 2) = true ∧
    next (fun t => t.out == [.spdm .mctp 0x04 [0x13]]) (exec (.getVersion .mctp) (trusted 2)) = true := by
  decide +kernel

theorem test_witness_SpdmSessions :
    (sessionsOn (trusted 2) .mctp).length < 4 ∧
    4 ≤ (sessionsOn { trusted 2 with trust := { (trusted 2).trust with sessions := List.replicate 4 { tr := .mctp, id := 4, established := true, phase := 0 } } } .mctp).length ∧
    (trusted 2).trust.sessions.any (fun x => (x.tr == .mctp && x.id == 5) && !x.established) = true ∧
    (trusted 2).trust.sessions.any (fun x => (x.tr == .mctp && x.id == 4) && !x.established) = false ∧
    inSession (trusted 2) .mctp 4 = true ∧ inSession (trusted 2) .mctp 5 = false := by
  decide +kernel

theorem test_witness_TokensRefused :
    (∀ c ∈ [(1, 3, tok 3 1 .nobody), (2, 4, tok 4 2 .nobody), (2, 5, tok 5 2 .villaholt), (3, 6, tok 6 3 (.owner 0)),
            (3, 7, tok 7 3 .nobody), (1, 8, tok 8 1 (.owner 0)), (2, 9, tok 9 2 .villaholt)],
      lcState (trusted c.1).fuse = c.1 ∧ c.2.2.opcode = c.2.1 ∧
      (c.2.2.serial = (trusted c.1).fuse.serial ∧ c.2.2.k = (trusted c.1).fuse.lcCount) ∧ (trusted c.1).trust.nonce = some c.2.2.nonce ∧
      (if c.2.1 = 6 ∨ c.2.1 = 7 ∨ c.2.1 = 8 then byVillaholt c.2.2 else byOwner (trusted c.1) c.2.2) = false) ∧
    inSession (trusted 2) .mctp 4 = true ∧ (trusted 2).trust.transition = none ∧ (tok 5 2 (.owner 0)).opcode ≠ 6 ∧
    ¬ (tok 5 2 (.owner 0)).k = (trusted 5).fuse.lcCount ∧
    ({ (trusted 2).trust with transition := some (.ret, .mctp) } : Trust).transition ≠ none ∧
    next (fun t => t.out == [.vendor .mctp 9 4 []] && t.trust.nonce.isNone) (exec (.lcRetire .mctp 4 (tok 9 2 .villaholt)) (trusted 2)) = true := by
  decide +kernel

/-- No context in use. -/
def unused (count : Nat) : State := { trusted count with ctxs := [] }

theorem test_witness_LifeCycle :
    (∀ c ∈ [(1, 3, tok 3 1 (.owner 6)), (2, 4, tok 4 2 (.owner 0)), (2, 5, tok 5 2 (.owner 0)), (3, 6, tok 6 3 .villaholt),
            (3, 7, tok 7 3 .villaholt), (1, 8, tok 8 1 .villaholt), (3, 8, tok 8 3 .villaholt), (2, 9, tok 9 2 (.owner 0)),
            (1, 9, tok 9 1 .villaholt)],
      let s := unused c.1
      spdmUp s = true ∧ inSession s .mctp 4 = true ∧ s.trust.transition = none ∧ c.2.2.opcode = c.2.1 ∧
      c.2.2.serial = s.fuse.serial ∧ c.2.2.k = s.fuse.lcCount ∧ s.trust.nonce = some c.2.2.nonce ∧ lcState s.fuse = c.1 ∧
      (byOwner s c.2.2 || byVillaholt c.2.2 || c.2.1 == 3) = true ∧ (∀ n, n < 16 → (ctxAt s n).st = .free) ∧ s.trust.fmSerial < 7 ∧
      s.trust.kT = transportK s.fuse) ∧
    lcState (unused 0).fuse = 0 ∧ (2 : Nat) < 32 ∧
    next (fun t => t.fuse.lcCount == 3 && t.trust.kT.isNone) (exec (.returnLc .mctp 4 (tok 5 2 (.owner 0))) (unused 2)) = true ∧
    next (fun t => t.fuse.lcRetired) (exec (.lcRetire .mctp 4 (tok 9 3 .villaholt)) (unused 3)) = true ∧
    next (fun t => t.fuse.lcCount == 1 && t.fuse.devidCert == 8) (exec (.provisioning 8) (unused 0)) = true := by
  decide +kernel

theorem test_witness_LifeCycleWaits :
    (ctxAt (trusted 2) 2).st = .active ∧ spdmUp (trusted 2) = true ∧ inSession (trusted 2) .mctp 4 = true ∧
    (trusted 2).trust.transition = none ∧ (tok 5 2 (.owner 0)).k = (trusted 2).fuse.lcCount ∧ lcState (trusted 2).fuse = 2 ∧
    (tok 5 2 (.owner 0)).serial = (trusted 2).fuse.serial ∧ (trusted 2).trust.nonce = some 99 ∧
    byOwner (trusted 2) (tok 5 2 (.owner 0)) = true ∧ byOwner (trusted 2) (tok 9 2 (.owner 0)) = true ∧
    (∀ m, m < 16 → entsOf (trusted 2) m = []) ∧ (trusted 2).fuse.lcCount < 32 ∧
    next (fun t => decide ((ctxAt t 2).st = .stopping ∧ t.fuse.lcCount = 2)) (exec (.returnLc .mctp 4 (tok 5 2 (.owner 0))) (trusted 2)) = true := by
  decide +kernel

theorem test_witness_NoncesAndCertificates :
    spdmUp (trusted 2) = true ∧ inSession (trusted 2) .mctp 4 = true ∧ (trusted 2).trust.transition = none ∧
    (trusted 2).trust.kT = some 2 ∧ (trusted 3).trust.kT = none := by
  decide +kernel

/-- An image that passes every check of R373. -/
def fw : FwImage :=
  { readOk := true, hdrOk := true, keySlot := 0, pubDigest := 0, sigOk := true, svn := 1, commitSvn := false, bodyOk := true,
    bodyLen := 1024, lenOk := true, major := 6, minor := 0, patch := 0, meas := 1 }

theorem test_image_checks :
    [fw, { fw with readOk := false }, { fw with hdrOk := false, sigOk := false }, { fw with keySlot := 3 }, { fw with pubDigest := 1 },
     { fw with sigOk := false }, { fw with svn := 0 }, { fw with bodyOk := false }, { fw with bodyLen := 15728641 }].map
      (verifyImage { ({} : Fuse) with revoked := [3], svn := 1 } true) = [0, 1, 2, 3, 4, 5, 6, 7, 8] := by
  decide +kernel

theorem test_witness_PushBegins :
    secUp State.reset = false ∧ secUp (trusted 2) = true ∧ (trusted 2).trust.rcvBusy = false ∧ (trusted 2).trust.rcvLen = 0 ∧
    ({ (trusted 2).trust with rcvBusy := true } : Trust).rcvBusy = true ∧ ({ (trusted 2).trust with rcvLen := 4 } : Trust).rcvLen ≠ 0 := by
  decide +kernel

/-! ### Self-healing -/

/-- Context 2 runs with these cores, core 5 the next of basin 0's sweep. -/
def healing (l : Tab Core) : State :=
  { ready with cores := l, basins := [(0, { ctx := some 2, sweepPos := (coresOfBasin 0).findIdx (· == 5) })] }

/-- A spare core. -/
def spare1 : Core := { lastPass := some 0 }

/-- Core 5 in the sweep's place. -/
def pos5 : Nat := (coresOfBasin 0).findIdx (· == 5)

theorem test_witness_IdleTests :
    (∀ c ∈ [({} : Core), running []],
      sweepDue (healing [(5, c)]) 0 = true ∧ nextSweep (healing [(5, c)]) 0 pos5 = some (pos5, 5) ∧ basinOf 5 = 0 ∧
      (dieAt (healing [(5, c)]) (dieOf 5)).margin = 0 ∧ c.held = false ∧ c.reserved = false ∧ Machine.moving (healing [(5, c)]) 5 = false ∧
      testAllowed (healing [(5, c)]) 5 = true) ∧
    ({} : Core).suspect = none ∧ (basinAt ready 0).underTest = none ∧ ({ st := .fenced } : Core).st ≠ .underTest ∧
    sweepDue State.reset 0 = false ∧
    testAllowed { healing [(5, {})] with pwr := { ready.pwr with inRange := false } } 5 = false ∧
    (running []).slot = some 7 ∧ pathBusy (healing [(5, running [])]) 2 = false ∧
    spareFor (healing [(5, running []), (6, spare1)]) 2 5 (isFresh (healing [(5, running []), (6, spare1)])) = some 6 ∧
    spareFor (healing [(5, running [])]) 2 5 (isFresh (healing [(5, running [])])) = none ∧
    next (fun t => tabGet t.tst.ctr 4 0 == 1 && (coreAt t 6).reserved) (exec (.idleSweepStep 0) (healing [(5, running []), (6, spare1)])) = true ∧
    next (fun t => decide ((coreAt t 5).st = .fenced))
      (exec (.idleTest 0 false) { healing [(5, { st := .underTest })] with basins := [(0, { ctx := some 2, underTest := some 5 })] }) = true := by
  decide +kernel

theorem test_witness_PriorityTests :
    (∀ c ∈ [({ suspect := some 2 } : Core), { running [] with suspect := some 2 }],
      (basinAt (healing [(5, c)]) 0).underTest = none ∧ (healing [(5, c)]).glb.ready = true ∧
      (coresOfBasin 0).find? (prioDue (healing [(5, c)])) = some 5 ∧ secondTime (healing [(5, c)]) 5 = false ∧
      testAllowed (healing [(5, c)]) 5 = true) ∧
    (coresOfBasin 0).find? (prioDue (healing [(5, { suspect := some 2, lastPrio := some 0 })])) = some 5 ∧
    secondTime (healing [(5, { suspect := some 2, lastPrio := some 0 })]) 5 = true ∧
    spareFor (healing [(5, { running [] with suspect := some 2 })]) 2 5 (freeSpare (healing [(5, { running [] with suspect := some 2 })])) = some 4 ∧
    next (fun t => decide ((coreAt t 5).st = .underTest ∧ tabGet t.tst.ctr 3 0 = 1)) (exec (.priorityTest 0) (healing [(5, { suspect := some 2 })])) = true ∧
    next (fun t => decide ((coreAt t 5).st = .fenced)) (exec (.priorityTest 0) (healing [(5, { suspect := some 2, lastPrio := some 0 })])) = true := by
  decide +kernel

/-- Core 5 is checked by core 20 in microbatch 1. -/
def check5 (third : Option Nat) : Check := { core := 5, checker := 20, third := third, slot := 7, mb := 1, start := 0, proof := false }

/-- The log of the checked firing. -/
def log5 (abandoned : Bool) (ended : Option Nat) : CheckLog :=
  { firing := 3, mb := 1, bytes := 0, msgs := [], chunks := [], stored := [], drops := [], checker := 20, abandoned := abandoned, ended := ended }

/-- The log of a recomputation of that firing, this much dropped. -/
def replayed5 (d : List Byte) : CheckLog := { log5 false (some 0) with drops := d }

/-- A core that a check reserves, with its recomputation. -/
def checker5 (r : Option CheckLog) : Core := { reserved := true, check := r, replay := r.map (fun _ => []) }

/-- A check in hand, its checker and its third core this far. -/
def checking (third : Option Nat) (l : CheckLog) (q r : Option CheckLog) : State :=
  let s := healing [(5, { running [] with check := some l }), (20, checker5 q), (1157, checker5 r)]
  { s with heal := { s.heal with checks := [check5 third] }, sup := { s.sup with ticks := 125000 },
           ctxs := [(2, { st := .active, layout := some { lay with stations := [sta []] }, act := { grant := 1 }, nextMb := 8 })] }

/-- That check before any recomputation. -/
def unchecked (third : Option Nat) (l : CheckLog) : State := checking third l none none

/-- Its digests at hand. -/
def digested (q r : List Byte) : State :=
  checking (some 1157) (log5 false (some 0)) (some (replayed5 q)) (some (replayed5 r))

theorem test_witness_FiringChecks :
    (∀ l ∈ [log5 true none, log5 false (some 0)],
      (unchecked none l).heal.checks.find? (comparable (unchecked none l)) = some (check5 none) ∧
      decidable (unchecked none l) (check5 none) 20 = some l) ∧
    replayLog (unchecked none (log5 false (some 0))) 20 = none ∧ replayLog (unchecked (some 1157) (log5 false (some 0))) 1157 = none ∧
    (ctxAt (unchecked none (log5 false (some 0))) (ownerOf (unchecked none (log5 false (some 0))) (basinOf 20))).layout =
      some { lay with stations := [sta []] } ∧
    (coreAt (unchecked none (log5 false (some 0))) 5).station = some (sta []) ∧ basinOf 1157 = basinOf 20 ∧
    waitPages (unchecked none (log5 false (some 0))) 2 0 (sta []) = [] ∧ Memory.wf (running []).mem = true ∧
    (∀ d ∈ [[], [1]],
      (checking none (log5 false (some 0)) (some (replayed5 d)) none).heal.checks.find?
        (comparable (checking none (log5 false (some 0)) (some (replayed5 d)) none)) = some (check5 none) ∧
      replayLog (checking none (log5 false (some 0)) (some (replayed5 d)) none) 20 = some (replayed5 d)) ∧
    fireDigest (log5 false (some 0)) = fireDigest (replayed5 []) ∧ fireDigest (log5 false (some 0)) ≠ fireDigest (replayed5 [1]) ∧
    (unchecked none (log5 false (some 0))).heal.checks.find? (checkLate (unchecked none (log5 false (some 0)))) = some (check5 none) ∧
    (unchecked none (log5 false (some 1))).heal.checks.find? (checkLate (unchecked none (log5 false (some 1)))) = none := by
  decide +kernel

theorem test_witness_FiringChecksThird :
    (chooseChecker (checking none (log5 false (some 0)) (some (replayed5 [])) none) 5 [dieOf 5, dieOf 20]).isSome = true ∧
    chooseChecker { checking none (log5 false (some 0)) (some (replayed5 [])) none with basins := [] } 5 [dieOf 5, dieOf 20] = none ∧
    (unchecked (some 1157) (log5 false (some 0))).heal.checks.find? (thirdDone (unchecked (some 1157) (log5 false (some 0)))) =
      some (check5 (some 1157)) ∧
    (∀ c ∈ [([1], [1], ThirdEq.checker), ([1], [], ThirdEq.station), ([1], [2], ThirdEq.none), ([], [], ThirdEq.none)],
      (digested c.1 c.2.1).heal.checks.find? (thirdDone (digested c.1 c.2.1)) = some (check5 (some 1157)) ∧
      decidable (digested c.1 c.2.1) (check5 (some 1157)) 1157 = some (log5 false (some 0)) ∧
      replayLog (digested c.1 c.2.1) 20 = some (replayed5 c.1) ∧ replayLog (digested c.1 c.2.1) 1157 = some (replayed5 c.2.1) ∧
      (digested c.1 c.2.1).heal.paths = [] ∧ (digested c.1 c.2.1).rst.cur = none ∧
      thirdEq (fireDigest (log5 false (some 0))) (fireDigest (replayed5 c.1)) (fireDigest (replayed5 c.2.1)) .none = c.2.2) ∧
    (dieAt (digested [] []) (dieOf 5)).retired = false ∧ (dieAt (digested [] []) (dieOf 20)).retired = false ∧
    dieOf 5 ≠ dieOf 20 ∧ (coreAt (digested [] []) 5).replay = none ∧ (coreAt (digested [] []) 5).station = some (sta []) ∧
    wPages (sta []) = [] := by
  decide +kernel

theorem test_firing_checks :
    next (fun t => decide ((coreAt t 20).replay = some [] ∧ (coreAt t 20).st = .spare ∧ tabGet t.tst.ctr 8 0 = 0))
      (exec (.checkCompare true) (unchecked none (log5 false (some 0)))) = true ∧
    next (fun t => decide (tabGet t.tst.ctr 8 0 = 1) && t.heal.checks.isEmpty)
      (exec (.checkCompare true) (checking none (log5 false (some 0)) (some (replayed5 [])) none)) = true ∧
    next (fun t => decide (tabGet t.tst.ctr 9 0 = 1)) (exec (.checkCompare true) (checking none (log5 false (some 0)) (some (replayed5 [1])) none)) = true ∧
    next (fun t => decide (tabGet t.tst.ctr 11 0 = 1)) (exec .checkTimeout (unchecked none (log5 false (some 0)))) = true ∧
    next (fun t => t.heal.paths.map (fun p => (p.die, p.wrong)) == [(dieOf 5, some 5)])
      (exec (.thirdCoreResult .none) (digested [1] [1])) = true ∧
    next (fun t => t.heal.paths.map (fun p => (p.die, p.wrong)) == [(dieOf 20, none)])
      (exec (.thirdCoreResult .none) (digested [1] [])) = true := by
  decide +kernel

/-- A path of die 0, opened at tick 0. -/
def path0 (begun margin settling proof failed : Bool) : DiePath :=
  { die := 0, core := none, reason := 4, ctx := some 2, cut := 2, t0 := 0, begun := begun, margin := margin, settling := settling,
    proof := proof, failed := failed, wrong := none, cmd := none }

/-- That path in hand, core 5 this far. -/
def fencing0 (p : DiePath) (firing now : Nat) : State :=
  let s := healing [(5, { running [] with firing := firing })]
  { s with heal := { s.heal with paths := [p] }, sup := { s.sup with ticks := now } }

theorem test_witness_DiePaths :
    (dieAt ready 0).retired = false ∧ ready.heal.paths = [] ∧ (dieAt { ready with dies := [(0, { retired := true })] } 0).retired = true ∧
    (∀ p ∈ [path0 false false false false false, path0 true true false false false, path0 true false false false false],
      (fencing0 p 4 0).heal.paths.find? (pathReady (fencing0 p 4 0) 0) = some p) ∧
    pathCores (fencing0 (path0 true false false false false) 4 0) (path0 true false false false false) = [5] ∧
    (pathMoves (fencing0 (path0 true false false false false) 4 0) (path0 true false false false false)).length = 1 ∧
    (fencing0 (path0 false false false false false) 4 0).heal.checks = [] ∧
    (basinAt (fencing0 (path0 false false false false false) 4 0) (basinOfDie 0)).underTest = none ∧
    (fencing0 (path0 true false false false false) 3 25000).heal.paths.find?
      (pathOverdue (fencing0 (path0 true false false false false) 3 25000) 0) = some (path0 true false false false false) ∧
    (fencing0 (path0 true false false false false) 3 24999).heal.paths.find?
      (pathOverdue (fencing0 (path0 true false false false false) 3 24999) 0) = none := by
  decide +kernel

theorem test_die_paths :
    next (fun t => (dieAt t 0).retired && decide ((coreAt t 5).st = .fenced)) (exec (.dieQuiesce 0) (fencing0 (path0 true false false false false) 4 0)) = true ∧
    next (fun t => decide ((coreAt t 5).stopAt = some 2)) (exec (.dieQuiesce 0) (fencing0 (path0 false false false false false) 4 0)) = true ∧
    next (fun t => t.rst.cur.isSome) (exec (.quiesceTimeout 0) (fencing0 (path0 true false false false false) 3 25000)) = true := by
  decide +kernel

/-- The move of slot 7 to core 20 in hand. -/
def resuming (fault : Bool) (old new : Core) : State :=
  let s := healing [(5, old), (20, new)]
  { s with mesh := { s.mesh with moves := [{ slot := 7, from_ := 5, to_ := 20, fault := fault, test := !fault }] } }

/-- The core moved from, with a byte of CARRY. -/
def carrying : Core := { running [] with mem := [(3, 9)], pages := List.replicate 72 4 }

/-- The core moved to. -/
def awaiting : Core := { st := .inUse, holding := true }

theorem test_witness_StationsResume :
    (resuming true carrying awaiting).mesh.moves.find? (faultCopy 20) = some { slot := 7, from_ := 5, to_ := 20, fault := true, test := false } ∧
    (resuming false carrying awaiting).mesh.moves.find? (stagedCopy 7) = some { slot := 7, from_ := 5, to_ := 20, fault := false, test := true } ∧
    20 < nCores ∧ Memory.wf carrying.mem = true ∧ carrying.poisonCw = [] ∧ oldSettled carrying = true ∧ unitsIdle carrying = true ∧
    oldSettled { carrying with svc := [blankPkt] } = false ∧ unitsIdle { carrying with mxRun := some (mrun (mxe [])) } = false ∧
    awaiting.st = .inUse ∧ awaiting.svc = [] ∧ ({ awaiting with st := .fenced } : Core).st ≠ .inUse ∧ carrying.st.good = true ∧
    ({ carrying with st := .fenced } : Core).st.good = false ∧
    fillsDone (resuming true carrying awaiting) 20 = true ∧ (resuming true carrying awaiting).rst.cur = none ∧
    ({ (resuming false carrying awaiting).mesh with oldBank := true } : Mesh).oldBank = true ∧ (resuming false carrying awaiting).mesh.oldBank = false ∧
    (resuming false carrying awaiting).mesh.flipping = false ∧ (basinAt (resuming false carrying awaiting) 0).underTest = none ∧
    ({ ctx := some 2, underTest := some 6 } : Basin).underTest ≠ none := by
  decide +kernel

theorem test_stations_resume :
    next (fun t => decide (memGet (coreAt t 20).mem 3 = 9 ∧ (coreAt t 20).firing = 3 ∧ (coreAt t 5).mem = []))
      (exec (.stationResume 20 true) (resuming true carrying awaiting)) = true ∧
    next (fun t => decide (memGet (coreAt t 20).mem 3 = 9 ∧ (coreAt t 5).st = .underTest))
      (exec (.carryCopyComplete 7 true) (resuming false carrying awaiting)) = true ∧
    next (fun t => t.rst.cur.isSome && t.mesh.moves.isEmpty)
      (exec (.stationResume 20 true) (resuming true carrying { awaiting with st := .fenced })) = true := by
  decide +kernel

theorem test_witness_MarginSteps :
    (fencing0 (path0 true true true false false) 4 0).heal.paths.find? (pathSettles 0) = some (path0 true true true false false) ∧
    (fencing0 (path0 true true false false false) 4 0).heal.paths.find? (pathSettles 0) = none ∧
    (∀ f : Bool, (fencing0 (path0 true true false true f) 4 0).heal.paths.find? (pathProves 0) = some (path0 true true false true f)) ∧
    (∀ k ∈ pathCores { fencing0 (path0 true true false true false) 4 0 with heal := { paths := [path0 true true false true false], proofs := [(5, 64)] } }
        (path0 true true false true false),
      proofFirings ready ≤ tabGet ({ paths := [], proofs := [(5, 64)] } : Heal).proofs k 0) ∧
    next (fun t => (dieAt t 0).margin == 1) (exec (.corePllRelock 0) (fencing0 (path0 true true true false false) 4 0)) = true := by
  decide +kernel

/-- Basin 0 holds one shard of context 2, with its copy good or on hold; basin 1 holds a good one. -/
def shards (digest : Nat) (hold : Bool) : State :=
  let s := { ctx2 (fun x => { x with wpkg := some { pack1 with shards := [{ shard1 with basins := 3, digest := digest, good := 3 }] } }) with
             basins := [(0, { ctx := some 2 }), (1, { ctx := some 2 })] }
  putHbm s 0 { hbmAt s 0 with holds := if hold then [{ ctx := 2, shard := 1, lo := 65536, len := 64 }] else [] }

/-- A page of core 5 waits for its refill. -/
def refilling : State :=
  let s := healing [(5, running [])]
  { s with heal := { s.heal with refills := [{ core := 5, page := 1, reason := 0, cleanMb := 0 }] } }

theorem test_witness_WeightsRestored :
    refilling.heal.refills.find? (refillDue refilling) = some { core := 5, page := 1, reason := 0, cleanMb := 0 } ∧
    (refillBytes refilling { core := 5, page := 1, reason := 0, cleanMb := 0 }).isSome = true ∧
    ready.heal.refills.find? (refillDue ready) = none ∧
    (basinAt (shards 0 false) 0).ctx = some 2 ∧ (shardNo (shards 0 false) 2 1).map (·.id) = some 1 ∧
    bitAt ((shardNo (shards 0 false) 2 1).map (·.good) |>.getD 0) 0 = true ∧ (hbmAt (shards 0 false) 0).withdrawn = false ∧
    onHold (shards 0 false) 0 2 1 = false ∧ onHold (shards 0 true) 0 2 1 = true ∧
    (shardNo (shards 0 true) 2 1).all (fun h => (reloadBytes (shards 0 true) 2 0 h []).isSome) = true := by
  decide +kernel

theorem test_weights_restored :
    next (fun t => onHold t 0 2 1) (exec (.shardSweep 0 1) (shards 0 false)) = true ∧
    next (fun t => !onHold t 0 2 1) (exec (.shardSweep 0 1) (shards (sha256 (List.replicate 64 0)) false)) = true ∧
    next (fun t => !onHold t 0 2 1) (exec (.shardReloaded 0 1 []) (shards (sha256 (List.replicate 64 0)) true)) = true := by
  decide +kernel

/-- RETIRE of a target of a kind. -/
def retireCmd (kind target : Nat) : HCmd := hcmd [(0, 15), (64, target), (80, kind)]

/-- Context 2 with that command and core 5 as given. -/
def retiring (kind target : Nat) (c : Core) : State := { cmd2 (retireCmd kind target) with cores := [(5, c)] }

theorem test_witness_Retirements :
    (∀ e ∈ [(2, 5), (0, 5), (0, 9215), (1, 0)], TakesCmd (retiring e.1 e.2 {}) 2 15 (retireCmd e.1 e.2) ∧
      cmdField (retireCmd e.1 e.2) 8 2 = e.2 ∧ cmdField (retireCmd e.1 e.2) 10 1 = e.1) ∧
    (basinAt (retiring 0 5 {}) (basinOf 5)).ctx = some 2 ∧ (basinAt (retiring 0 5 {}) (basinOf 9215)).ctx ≠ some 2 ∧
    (basinAt (retiring 1 0 {}) (basinOfDie 0)).ctx = some 2 ∧ Machine.moving (retiring 0 5 (running [])) 5 = false ∧
    (dieAt (retiring 0 5 {}) (dieOf 5)).retired = false ∧ (retiring 0 5 {}).heal.paths = [] ∧
    (coreAt { ready with cores := [(5, { st := .fenced })] } 5).st = .fenced ∧ (dieAt ready (dieOf 5)).retireTicks = [] ∧
    (ctxAt ready 2).st.closing = false ∧
    next (fun t => decide ((coreAt t 5).st = .fenced) && t.heal.ledgerQ.map (·.reason) == [7]) (exec (.retire 2) (retiring 0 5 {})) = true ∧
    next (fun t => decide ((coreAt t 5).st = .retired))
      (exec .ledgerRecordWritten { ready with cores := [(5, { st := .fenced })],
                                              heal := { ready.heal with ledgerQ := [{ type := 1, reason := 2, target := 5, detail := 0, cmd := none }] } }) = true := by
  decide +kernel

/-! ### Basin resets and dumps -/

/-- A reset of basin 0 at a stage. -/
def resetAt (stage : RstStage) : Reset :=
  { ctx := 2, set := [0], trigger := 0x0201, slot := 7, dumpNo := 3, stage := stage, cut := 1, cutStep := 0, start := 0, hbmFail := false }

/-- That reset in hand, core 5 this far, at this tick. -/
def resetting0 (stage : RstStage) (firing now : Nat) : State :=
  let s := healing [(5, { running [] with firing := firing, mem := [(3, 9)], ctr := [(0, 4)] })]
  { s with rst := { s.rst with cur := some (resetAt stage) }, sup := { s.sup with ticks := now } }

theorem test_witness_ResetStops :
    (resetting0 .partialDrain 3 0).rst.cur = some (resetAt .partialDrain) ∧
    (coresIn (resetting0 .partialDrain 4 0) [0]).all (fun k => ranTo (coreAt (resetting0 .partialDrain 4 0) k) (1 + 1) ||
      faultStopped (coreAt (resetting0 .partialDrain 4 0) k)) = true ∧
    (coresIn (resetting0 .partialDrain 3 0) [0]).all (fun k => ranTo (coreAt (resetting0 .partialDrain 3 0) k) (1 + 1) ||
      faultStopped (coreAt (resetting0 .partialDrain 3 0) k)) = false ∧
    noProgress (resetting0 .partialDrain 3 1249) 2 = false ∧ noProgress (resetting0 .partialDrain 3 1250) 2 = true ∧
    (resetting0 .waiting 3 0).heal.paths = [] ∧ (resetting0 .waiting 3 0).heal.checks = [] ∧ (resetting0 .waiting 3 0).mesh.moves = [] ∧
    (resetting0 .waiting 3 0).mesh.drains = [] ∧ (basinAt (resetting0 .waiting 3 0) 0).objs = [] ∧
    next (fun t => decide (t.rst.cur.map (·.stage) = some .collect) && (coreAt t 5).held) (exec .basinReset (resetting0 .waiting 3 0)) = true := by
  decide +kernel

theorem test_witness_ResetClears :
    (resetting0 .collect 3 0).rst.cur = some (resetAt .collect) ∧ tabHas (resetting0 .collect 3 0).cores 5 = true ∧
    next (fun t => decide (t.rst.cur.map (·.stage) = some .ready ∧ (coreAt t 5).mem = [] ∧ (coreAt t 5).ctr = [] ∧ (coreAt t 5).slot = some 7) &&
      t.rst.dumps.map (·.basin) == [0]) (exec (.dumpCollectComplete true) (resetting0 .collect 3 0)) = true := by
  decide +kernel

/-- Stack 0 in service. -/
def inService (s : State) : State := putHbm s 0 { hbmAt s 0 with inService := true }

/-- That reset, its routers swept or not. -/
def restarting (swept : Bool) : State :=
  let s := inService (resetting0 .ready 3 0)
  { s with rst := { s.rst with cur := some { resetAt .ready with swept := swept } } }

theorem test_witness_LayoutsRestart :
    (∀ v : Bool, (restarting v).rst.cur = some { resetAt .ready with swept := v } ∧ (ctxAt (restarting v) 2).layout = some lay ∧
      holdCause (restarting v) 2 lay = none) ∧ (ctxAt State.reset 2).layout = none ∧ holdCause (inService ready) 2 { lay with parts := 2 } = some 1 ∧
    holdCause (inService (ctx2 (fun x => { x with restarts := [0, 0] }))) 2 lay = some 0 ∧ holdCause ready 2 lay = some 2 ∧
    next (fun t => decide (t.rst.cur = none ∧ (ctxAt t 2).nextMb = 8 ∧ (basinAt t 0).gen = 1)) (exec .basinReady (restarting true)) = true := by
  decide +kernel

/-- A dump of basin 0 with one record to come, staged or not. -/
def dump0 (home : Option Nat) (index : Nat) : Dump :=
  { ctx := 2, no := 3, basin := 0, home := home, summary := [1, 2, 3], records := [(1, [4, 5])], index := index, secure := false, ready := true,
    blocks := 1, noResp := 0, staged := 1, plain := 0 }

/-- That dump to be delivered. -/
def dumping (d : Dump) : State := { ready with rst := { ready.rst with dumps := [d] } }

/-- DEBUG_DUMP for basin 0 and its token. -/
def debugCmd : HCmd := hcmd [(0, 14), (128, 64), (160, 1)]

/-- The authorization of a DEBUG_DUMP. -/
def dumpAuth (nonce : Nat) : DumpAuth := { tok := { tok 0x20 2 (.owner 0) with nonce := nonce }, ctx := 2, mask := 1, byte3 := 0 }

theorem test_witness_DumpsDelivered :
    nextDump ready 2 = none ∧ nextDump (dumping (dump0 (some 0) 0)) 2 = some (dump0 (some 0) 0) ∧
    storeUnits (ctxAt ready 2).store + (nextDumpRec ready (dump0 (some 0) 0)).1.units ≤ 8192 ∧ (ctxAt ready 2).st = .active ∧
    ¬ storeUnits [{ plainRec 1 0 0 0 with units := 8192 }] + (nextDumpRec ready (dump0 (some 0) 0)).1.units ≤ 8192 ∧
    (hbmAt ready 0).withdrawn = false ∧ TakesCmd { trusted 2 with ctxs := (cmd2 debugCmd).ctxs } 2 14 debugCmd ∧
    cmdField debugCmd 16 4 ≠ 0 ∧ cmdField debugCmd 20 2 = 1 ∧
    tokenStatus (trusted 2) (dumpAuth 99).tok 0x20 (lcState (trusted 2).fuse == 2) (byOwner (trusted 2) (dumpAuth 99).tok) = 0 ∧
    tokenStatus (trusted 2) (dumpAuth 98).tok 0x20 (lcState (trusted 2).fuse == 2) (byOwner (trusted 2) (dumpAuth 98).tok) ≠ 0 ∧
    (∀ b ∈ bitList 16 ((dumpAuth 99).mask % 65536), (basinAt (trusted 2) b).ctx = some 2) ∧
    (∀ b ∈ bitList 16 1, bitAt ((dumpAuth 99).mask % 65536) b = true) ∧
    next (fun t => (basinAt t 0).armed == some 0) (exec (.debugDump 2 (dumpAuth 99)) { trusted 2 with ctxs := (cmd2 debugCmd).ctxs }) = true ∧
    next (fun t => ((ctxAt t 2).store.map (·.type)) == [11]) (exec (.dumpRecordDeliver 2) (dumping (dump0 (some 0) 0))) = true ∧
    next (fun t => (basinAt t 0).armed.isNone)
      (exec (.armLapse 0) { ready with basins := [(0, { armed := some 1 })], sup := { ready.sup with ticks := 15000000001 } }) = true ∧
    next (fun t => (basinAt t 0).armed.isSome)
      (exec (.armLapse 0) { ready with basins := [(0, { armed := some 1 })], sup := { ready.sup with ticks := 15000000000 } }) = true := by
  decide +kernel

/-! ### Set-up registers -/

theorem test_witness_RegisterWrites :
    sizeOk 0x22 4 = false ∧ sizeOk 0x24 4 = true ∧ sizeOk 0x20 8 = true ∧ sizeOk 0x24 8 = false ∧ regsUp State.reset 0x20 = false ∧
    regsUp ready 0x20 = true ∧ inBlock 0x20 = true ∧ ready.sup.phase = .ready ∧ ready.glb.disturbed = [] ∧
    bitAt (3 : W64).toNat 0 = true ∧ bitAt (3 : W64).toNat 1 = true ∧ bitAt (1 : W64).toNat 1 = false ∧ bitAt (2 : W64).toNat 0 = false ∧
    (∀ bad : Bool, ({ ready.glb with disturbed := [(0x30018, bad)] } : Glb).disturbed = [(0x30018, bad)]) ∧
    next (fun t => t.glb.alertEn == 3) (exec (.registerWrite 0x28 8 35 ⟨false, { image := none, flashOk := true }⟩) ready) = true := by
  decide +kernel

theorem test_witness_AlertsAndThresholds :
    ready.sup.phase = .ready ∧ ready.glb.disturbed = [] ∧
    (let g := 1 + 2 * 2 ^ 8 + 100 * 2 ^ 16
     1 ≤ bits g 6 0 ∧ bits g 6 0 ≤ bits g 14 8 ∧ bits g 14 8 ≤ bits g 22 16 ∧ bits g 22 16 ≤ 100) ∧
    next (fun t => t.mesh.applyErr) (exec .meshApply { ready with mesh := { ready.mesh with thrStaged := 1 + 2 * 2 ^ 8 + 101 * 2 ^ 16 } }) = true := by
  decide +kernel

theorem test_witness_CountersSnapped :
    ready.sup.phase = .ready ∧ ready.glb.winSel < nCores ∧ (coreAt ready 0).st ≠ .shipDefect ∧ isGap ready (dieOf 0) = false ∧
    nCores ≤ ({ ready.glb with winSel := 9216 } : Glb).winSel := by
  decide +kernel

theorem test_witness_WindowAccesses :
    ready.sup.phase = .ready ∧ 0xFFF8 < 0x10000 ∧ 0xFFF8 % 8 = 0 ∧ nCores ≤ ({ ready.glb with winSel := 9216 } : Glb).winSel ∧
    isGap { ready with dies := [(0, { gapReason := 6 })] } (dieOf 0) = true ∧ isGap ready (dieOf 0) = false ∧
    next (fun t => t.out == [.regRead 0x100100 4]) (exec (.coreWindowAccess false 0x100 true) { ready with cores := [(0, { shadowCtr := [(0, 4)] })] }) = true := by
  decide +kernel

/-! ### Power, clocks, start-up and settings -/

/-- The module in a phase. -/
def inPhase (p : Phase) : State := { ready with sup := { ready.sup with phase := p } }

/-- Context 0 ACTIVE. -/
def active0 : State := { ready with ctxs := [(0, { st := .active })] }

theorem test_witness_PowerEntry :
    (inPhase .unpowered).sup.phase = .unpowered ∧ active0.sup.phase = .ready ∧ (ctxAt active0 0).st = .active ∧
    storeUnits (ctxAt active0 0).store + 2 ≤ 8192 ∧ inputInRange 5399 ≠ active0.pwr.inRange ∧ inputInRange 5400 = active0.pwr.inRange ∧
    next (fun t => decide (t.sup.phase = .held) && !t.pwr.inRange) (exec (.inputPowerRise 5300) (inPhase .unpowered)) = true ∧
    next (fun t => decide (t.sup.phase = .fault)) (exec (.faultShutdown .critical) active) = true := by
  decide +kernel

theorem test_witness_StackRails :
    isGap ready 0 = false ∧ (∀ e ∈ [1], e < 64) ∧ State.reset.sup.phase = .held ∧ memDie (basinOfDie (memDie 0)) = memDie 0 ∧
    next (fun t => (dieAt t 0).retired && (dieAt t 0).gapReason == 6) (exec (.stackRailFault 0 ⟨false, [1]⟩) ready) = true := by
  decide +kernel

theorem test_witness_ThrottleAndReference :
    ready.sup.phase ≠ .unpowered ∧ ready.clk.refOk = true ∧ ({ ready.clk with refOk := false } : Clk).refOk = false ∧
    next (fun t => (dieAt t 3).throttled) (exec (.thermalThrottle 3 1 101) ready) = true ∧
    next (fun t => !(dieAt t 3).throttled) (exec (.thermalThrottle 3 1 100) ready) = true := by
  decide +kernel

theorem test_witness_FastClocks :
    ready.sup.phase = .ready ∧ dieOf 5 = 0 ∧ (dieAt ready 0).pll = false ∧ meshDemand ready = true ∧ coreDemand ready 5 = false ∧
    meshDemand { ready with ctxs := [] } = false ∧ coreDemand (withCore (running [])) 5 = true ∧
    (dieAt ready 0).coreBranch.contains 5 = false ∧ (dieAt ready 0).ctlPll = false ∧
    (dieAt { ready with dies := [(0, { pll := true })] } 0).pll = true := by
  decide +kernel

/-- What start-up finds: every stack answers and trains. -/
def boot0 : BootIn :=
  { mgmtMode := false, mgmtAddr := 0, sfdpOctal := true, linkWidth := 16, linkRate := 64, flitMode := true, hbmFail := [], unreachable := [],
    testFail := [] }

/-- Held, with this image in flash, core 5 retired by the ledger and core 9 a ship-time defect. -/
def powered (i : Option FwImage) : State :=
  let s := State.reset
  { s with fuse := { s.fuse with shipDefect := [9] },
           flash := { s.flash with image := i, pair0 := [{ a := some { seq := 0, type := 1, reason := 1, target := 5, boot := 0, detail := 0 }, b := none }] } }

theorem test_witness_ModuleStarts :
    (powered (some fw)).sup.phase = .held ∧ (powered none).flash.image = none ∧
    verifyImage (powered (some fw)).fuse true fw = 0 ∧ verifyImage (powered (some fw)).fuse true { fw with sigOk := false } = 5 ∧
    (coreAt (powered (some fw)) 5).st = .spare ∧ 5 < nCores ∧ 5 ∉ (powered (some fw)).fuse.shipDefect ∧
    (inPhase .recovery).sup.phase = .recovery := by
  decide +kernel

theorem test_module_starts :
    next (fun t => decide (t.sup.phase = .ready ∧ (coreAt t 5).st = .retired ∧ (coreAt t 9).st = .shipDefect) && t.glb.ready)
      (exec (.startUp boot0) (powered (some fw))) = true ∧
    next (fun t => decide (t.sup.phase = .recovery ∧ t.trust.failReason = 5)) (exec (.startUp boot0) (powered (some { fw with sigOk := false }))) = true := by
  decide +kernel

/-- A push in hand. -/
def pushing (persist : Bool) (i : Option FwImage) (p : Phase) : State :=
  { inPhase p with trust := { ready.trust with rcvBusy := true, push := some { persist := persist, image := i, flashOk := true } } }

theorem test_witness_ClearsAndPushes :
    ({ ready.sup with clearing := true } : Sup).clearing = true ∧ ready.sup.clearing = false ∧ ready.trust.push = none ∧
    pushResult (pushing true (some fw) .ready).fuse { persist := true, image := some fw, flashOk := true } = 0 ∧
    pushResult (pushing true none .ready).fuse { persist := true, image := none, flashOk := true } = 9 ∧
    (pushing false (some fw) .recovery).sup.phase = .recovery := by
  decide +kernel

theorem test_witness_LinksAndJtag :
    ready.sup.phase = .ready ∧ jtagOpen ready (.inner 3) = false ∧ jtagOpen ready .extest = true ∧ JtagIr.drives .extest = true ∧
    JtagIr.drives .idcode = false ∧ jtagOpen (trusted 0) (.inner 3) = true ∧
    ({ ready.pwr with perstN := true } : Pwr).perstN = true ∧ ready.pwr.perstN = false := by
  decide +kernel

theorem test_witness_SettingsRecords :
    ready.sup.phase = .ready ∧ lcState ready.fuse ≠ 4 ∧ lcState { ready.fuse with lcRetired := true } = 4 ∧
    (pushing true none .ready).trust.push.any (fun p => p.persist) = true ∧ ready.trust.push.any (fun p => p.persist) = false ∧
    ¬ (64 ≤ ready.mgmt.writes ∨ ready.mgmt.lastWrite = some 0) ∧ 64 ≤ ({ ready.mgmt with writes := 64 } : Mgmt).writes ∧
    next (fun t => t.out == [.mctp 2 0 []] && t.mgmt.writes == 1) (exec (.settingsWrite 0x5445534E 1 1 [(0x0100, 50)]) ready) = true := by
  decide +kernel

/-! ### Telemetry -/

/-- A layout with one group. -/
def grouped : State := ctx2 (fun x => { x with layout := some { lay with groups := [2 ^ 16] } })

theorem test_witness_RecordsClosed :
    grouped.sup.phase = .ready ∧ mapMs grouped = 100 ∧ powerMs grouped ≠ 0 ∧ groupS grouped ≠ 0 ∧
    mapMs { grouped with sup := { grouped.sup with settings := [(0x0100, 0)] } } = 0 ∧ (ctxAt grouped 2).st = .active ∧
    (ctxAt grouped 2).layout.map (·.groups) = some [65536] ∧ ((withCore (running [])).cores.map (·.1)).Nodup ∧
    tabHas (withCore (running [])).cores 5 = true := by
  decide +kernel

theorem test_witness_TelemetryExport :
    ready.sup.phase = .ready ∧ ¬ (3 = 0 ∨ 5 < 3 ∨ (typeNamesCtx 3 = true ∧ 16 ≤ 15)) ∧ findRec ready 3 15 = none ∧
    (findRec { ready with telem := { ready.telem with latest := [{ type := 1, ctx := 0, bytes := [7] }] } } 1 0).isSome = true ∧
    (ctxAt ready 3).st ≠ .active ∧ (ctxAt ready 2).st = .active ∧
    storeUnits (ctxAt ready 2).store + 1 + ceilDiv (lateBytes (ctxAt ready 2)).length 32 ≤ 8192 := by
  decide +kernel

/-! ### Commands complete -/

theorem test_witness_CodeCompletes :
    IssuesAt (atWord [word 8 3 0 0 9]) 5 1 (word 8 3 0 0 9) ∧ opOp (word 8 3 0 0 9) = 8 ∧ opC (word 8 3 0 0 9) = 0 ∧
    IssuesAt (atWord [word 6 4 31 0 0]) 5 1 (word 6 4 31 0 0) ∧ opOp (word 6 4 31 0 0) = 6 ∧ opA (word 6 4 31 0 0) ≤ 4 ∧
    opC (word 6 4 31 0 0) ≤ waitCount (running [word 6 4 31 0 0]) 1 4 31 ∧
    opD (word 10 3 0 0 1) ≤ (idxAt (slotAt (running [word 10 3 0 0 1]) 1) (opA (word 10 3 0 0 1)) + 1 : W64).toNat ∧
    (atSync 0 7).replay = none ∧ bits (payload (atSend (word 4 31 0 0 0) (2 + 2 ^ 21) 0) 1 1) 41 40 = 1 ∧
    TurnOf (atWord [word 2 0 0 0 0, 0, 0, 0, 0, 0, 0]) 5 2 (running [word 2 0 0 0 0, 0, 0, 0, 0, 0, 0]).vcRot 1 ∧
    (running []).vcq.length < 8 ∧ sdValid (BitVec.ofNat 512 (payload (atSdc 7) 1 4)) = true ∧
    (strmAt (atSdc 7) (sdUnit 0)).q.length < 8 := by
  decide +kernel

theorem test_code_completes :
    next (fun t => (slotAt (coreAt t 5) 1).pc == 1 && idxAt (slotAt (coreAt t 5) 1) 3 == 9) (exec (.addi 5 1) (atWord [word 8 3 0 0 9])) = true ∧
    next (fun t => (slotAt (coreAt t 5) 1).pc == 1) (exec (.wait 5 1) (atWord [word 6 4 31 0 0])) = true ∧
    next (fun t => (slotAt (coreAt t 5) 1).pc == 2 && (outAt (coreAt t 5) 31).sendQ.length == 1)
      (exec (.sendd 5 1) (withCore (atSend (word 4 31 0 0 0) (2 + 2 ^ 21) 0))) = true ∧
    next (fun t => (slotAt (coreAt t 5) 1).pc == 1 && t.mesh.sync.length == 1) (exec (.take 5 1) (withCore (atSync 4 7))) = true ∧
    next (fun t => (slotAt (coreAt t 5) 1).pc == 3 && (coreAt t 5).mxq.length == 16) (exec (.mxc 5) (withCore (atMxc 15))) = true ∧
    next (fun t => (slotAt (coreAt t 5) 1).pc == 7 && (coreAt t 5).vcq.length == 1) (exec (.vcc 5) (atWord [word 2 0 0 0 0, 0, 0, 0, 0, 0, 0])) = true ∧
    next (fun t => (slotAt (coreAt t 5) 1).pc == 5) (exec (.sdc 5) (withCore (atSdc 7))) = true := by
  decide +kernel

theorem test_witness_EnginesComplete :
    mxUnderrun { tiled with mxq := [cNop] } cNop.cmd 0 0 false = false ∧ mxHazard { tiled with mxq := [cNop] } cNop.cmd = false ∧
    mxOpc cNop.cmd ≤ 3 ∧ (∀ e ∈ [cNop, cClear, cDrain], mxFault { tiled with mxRun := some (mrun e) } (mrun e).ent = none) ∧
    mxOpc cWs.cmd = 1 ∧ mxMode cWs.cmd = 0 ∧ (pairOf (mxFmt cWs.cmd)).isSome = true ∧ mxValid cWs.cmd = true ∧ mxDrainBit cWs.cmd = false ∧
    mxK cWs.cmd = 1 ∧
    bTileBeats (mxPair cWs.cmd) ≤ (fillShadow { tiled with mxRun := some (mrun cWs), mb := beats 48 1 1 }).shadow.length ∧
    drainEmpty cDrain.cmd = false ∧ mxDrainTo cDrain.cmd = 0 ∧ (fmtOfDrain (mxDrainFmt cDrain.cmd)) = some .fp32 ∧ 0 + 1 < mxM cDrain.cmd ∧
    vcOpc vNop.cmd = 0 ∧ vcOpc vSets.cmd = 4 ∧ vcOpc vAdd.cmd = 1 ∧ vcXFmt vAdd.cmd = 5 ∧ vcOutW vAdd.cmd = 2 ∧
    stB (vcStage vAdd.cmd 0) = 0 ∧ stZ (vcStage vAdd.cmd 0) = 0 := by
  decide +kernel

theorem test_engines_complete :
    next (fun t => (coreAt t 5).mxq.isEmpty && (coreAt t 5).mxRun.isSome) (exec (.mxCmdStart 5) (withCore { tiled with mxq := [cNop] })) = true ∧
    (∀ e ∈ [(Instr.mxNop 5, cNop), (.mxClear 5, cClear), (.mxDrain 5, cDrain)],
      next (fun t => (coreAt t 5).mxRun.isNone) (exec e.1 (withCore { tiled with mxRun := some (mrun e.2) })) = true) ∧
    next (fun t => (coreAt t 5).weights.length == bTileBeats (mxPair cWs.cmd))
      (exec (.mxShadowSwap 5) (withCore { tiled with mxRun := some (mrun cWs), mb := beats 48 1 1 })) = true ∧
    next (fun t => (coreAt t 5).drains.map (·.running) == [true])
      (exec (.mxDrainStart 5) (withCore { tiled with drains := [{ ent := cDrain, sd := 0, row := 0, running := false }] })) = true ∧
    next (fun t => (coreAt t 5).drainQ.length == 1)
      (exec (.mxDrainRow 5 false) (withCore { tiled with drains := [{ ent := cDrain, sd := 0, row := 0, running := true }] })) = true := by
  decide +kernel

-- The weight-stationary product consumes its rows and ends.
theorem test_mma_completes :
    next (fun t => (coreAt t 5).mxRun.isNone)
      (exec (.mma 5 false) (withCore { tiled with mxRun := some { mrun cWs with loaded := true, cleared := true }, ma := beats 2 0 0x38,
                                                  weights := beats 48 1 0x38 })) = true := by
  decide +kernel

theorem test_vector_completes :
    (∀ e ∈ [(Instr.vcNop 5, vNop), (.sets 5, vSets)], next (fun t => (coreAt t 5).vcq.isEmpty) (exec e.1 (withCore (vcore e.2))) = true) ∧
    next (fun t => (coreAt t 5).vcq.isEmpty && (coreAt t 5).vcRun.isSome) (exec (.chain 5) (withCore (vcore vAdd))) = true ∧
    next (fun t => (coreAt t 5).vcq.isEmpty) (exec (.loadc 5) (withCore { vcore vLoadc with vx := beats 4 0 9 })) = true ∧
    next (fun t => (coreAt t 5).vcq.isEmpty)
      (exec (.loadlut 5) (withCore { vcore vLut with vx := beats 49 0 9, luts := [(3, { owner := some 1 })] })) = true := by
  decide +kernel

/-- The chain of one stage runs, its first quad at the unit. -/
def chaining : Core :=
  { running [] with vcRun := some { ent := vAdd, vec := 0, scales := [], red := {}, poison := false, buf := [] },
                    vx := beats 4 0 9 }

theorem test_quad_completes :
    chaining.vcHeld = [] ∧ vcXSrc vAdd.cmd ≤ 2 ∧ 4 ≤ countFrom (vcSrcX vAdd.cmd) chaining.vx ∧
    next (fun t => (coreAt t 5).vcRun.isNone && (coreAt t 5).vx.isEmpty) (exec (.vcQuadStart 5 false) (withCore chaining)) = true := by
  decide +kernel

theorem test_witness_StreamersComplete :
    (sNop.made = false ∧ sNop.begun = false ∧ sNop.broken = false ∧ sNop.cut = false ∧ sdOpc sNop.d = 0) ∧
    (∀ h ∈ (strmAt (loading (sLoad 0 0x3FC0)) 0).q, headDone (strmAt (loading (sLoad 0 0x3FC0)) 0) h = false) ∧
    sdSpace (sLoad 0 0x3FC0).d = 0 ∧ (loading (sLoad 0 0x3FC0)).replay = none ∧ chunkFault (loading (sLoad 0 0x3FC0)) (sLoad 0 0x3FC0) 0 = none ∧
    (sender 1).replay = none ∧ (outAt (sender 1) 31).targets = [(9, 4)] ∧ (receiver 2 0).holding = false ∧ (msgPkt 3 2).kind = 5 ∧
    (inAt (putIn (receiver 2 0) 0 { inAt (receiver 2 0) 0 with taken := [(5, 1)] }) 0).contribs = [] ∧
    summing.rounds = [] ∧ summing.arr = [contrib] ∧ contrib.kind = 7 ∧ 0 < contrib.len / 16 := by
  decide +kernel

theorem test_streamers_complete :
    next (fun t => (coreAt t 5).wbq.isEmpty) (exec (.ceWriteBack 5) (withCore { running [] with wbq := [64] })) = true ∧
    next (fun t => (coreAt t 5).scrubPos == 64) (exec (.patrolScrub 5 []) (withCore (running []))) = true ∧
    next (fun t => !(coreAt t 5).held) (exec (.coreClear 5) (withCore { running [] with held := true })) = true ∧
    next (fun t => (coreAt t 5).svc.isEmpty) (exec (.remoteAccess 5 []) (withCore (served false (access 0)))) = true ∧
    next (fun t => (strmAt (coreAt t 5) 0).q.map (·.begun) == [true]) (exec (.load 5 0) (withCore (strm 0 { q := [sLoad 0 64] }))) = true ∧
    next (fun t => (strmAt (coreAt t 5) 2).q.map (·.begun) == [true]) (exec (.store 5) (withCore (strm 2 { q := [sStore] }))) = true ∧
    next (fun t => (strmAt (coreAt t 5) 0).q.isEmpty) (exec (.sdNop 5 0) (withCore (strm 0 { q := [sNop] }))) = true ∧
    next (fun t => (strmAt (coreAt t 5) 0).reqs.length == 1) (exec (.streamerRequest 5 0) (withCore (loading (sLoad 0 0x3FC0)))) = true ∧
    next (fun t => (strmAt (coreAt t 5) 0).reqs.map (fun r => r.data.isSome) == [true])
      (exec (.lineReturn 5 0 []) (withCore (strm 0 { q := [{ sLoad 0 0x3FC0 with begun := true }], reqs := [line false] }))) = true := by
  decide +kernel

theorem test_channels_complete :
    next (fun t => (coreAt t 5).inj.length == 1 && (outAt (coreAt t 5) 31).sendQ.isEmpty) (exec (.messageInject 5 31) (withCore (sender 1))) = true ∧
    next (fun t => (coreAt t 5).arr.isEmpty && tabHas (inAt (coreAt t 5) 0).fixed 2)
      (exec (.messageArrive 5 false) (withCore { receiver 2 65535 with arr := [msgPkt 3 2] })) = true ∧
    next (fun t => (inAt (coreAt t 5) 0).spill.isEmpty) (exec (.spillCopy 5 0 []) (withCore (spilled 3))) = true ∧
    next (fun t => (inAt (coreAt t 5) 0).h == 0) (exec (.messageTake 5 0 []) (withCore taking)) = true ∧
    next (fun t => (inAt (coreAt t 5) 0).pend == 1)
      (exec (.entryFree 5 0) (withCore (putIn (receiver 2 0) 0 { inAt (receiver 2 0) 0 with taken := [(5, 1)] }))) = true ∧
    (∀ b : Nat × Bool × Nat, b ∈ [(8, false, 0), (33, false, 1), (7, true, 0)] →
      next (fun t => (inAt (coreAt t 5) 0).pend == b.2.2)
        (exec (.creditSend 5 0 b.2.1) (withCore (putIn (receiver 2 0) 0 { inAt (receiver 2 0) 0 with pend := b.1 }))) = true) ∧
    next (fun t => nth (outAt (coreAt t 5) 31).credit 0 0 == 32)
      (exec (.creditArrive 5) (withCore { sender 0 with arr := [creditPkt] })) = true ∧
    next (fun t => (coreAt t 5).rounds.map (·.got) == [1])
      (exec (.contributionArrive ⟨5, []⟩)
        { withCore summing with ctxs := [(2, { st := .active, layout := some { lay with redgroup := [fields [(0, 6), (16, 170)]] } })] }) = true := by
  decide +kernel

theorem test_witness_MeshesComplete :
    bufUse (injecting (toDst 1 100)) 5 4 0 + flitsOf (toDst 1 100) ≤ bufferFlits 5 0 ∧ (toDst 1 100).dtype = 1 ∧
    (landed 2 15 0).dtype = 2 ∧ (landed 2 15 0).at_ = (landed 2 15 0).dstCore ∧ (landed 2 15 0).reqUnit < 16 ∧ hdrBad (landed 2 15 0) = false ∧
    isGap active 0 = false ∧ (linkDie 11 .east).1 = 0 ∧
    (echoed 2 0).echoes.find? (fun x => x.1 == 38) = some (38, 2) ∧ (winOf (echoed 2 0) 38).2 = 0 ∧ (winUse (running []) 38).2 = 0 ∧
    ctlBad (ctlHdr 0 9215 5 0x136F) [] = false ∧ ctlOpen ready 5 9215 = true ∧
    (barrier []).cur.contains (0, 7, 1) = false ∧ (barrier []).cur.length + 1 < (barrier []).participants ∧
    (token 0 []).waiting = [] ∧ (token 0 []).count = 0 ∧ (waiting false).holding = false ∧ (waiting true).held = false := by
  decide +kernel

theorem test_meshes_complete :
    next (fun t => decide (t = noteWaits active)) (exec .stallRead active) = true ∧
    next (fun t => t.mesh.net.length == 1) (exec (.packetInject 5) (injecting (toDst 1 100))) = true ∧
    next (fun t => t.mesh.net.map (·.at_) == [4]) (exec (.packetHop 4 .west) (inMesh going)) = true ∧
    next (fun t => tabGet (routerAt t 11).ctr 60 0 == 1) (exec (.colEntry 4) (gap1 0)) = true ∧
    next (fun t => tabGet (routerAt t 5).ctr (66 + dirNo .east) 0 == 1) (exec (.flitReplay 5 .east) active) = true ∧
    next (fun t => isGap t 63) (exec (.hardGap 63 ⟨5, []⟩) active) = true ∧
    next (fun t => isGap t 0) (exec (.linkFailure 11 ⟨.east, []⟩) active) = true ∧
    next (fun t => !t.mesh.flipping && t.mesh.flips == 1)
      (exec .flipComplete { active with mesh := { active.mesh with flipping := true } }) = true ∧
    next (fun t => !t.mesh.oldBank) (exec .drainMarkerPass { active with mesh := { active.mesh with oldBank := true } }) = true ∧
    next (fun t => (winOf (coreAt t 5) 38).1 == 64) (exec (.injectionWindowTick 5 true 31) (withCore (running []))) = true ∧
    next (fun t => t.out.length == 1) (exec (.controlPacket (ctlHdr 0 9215 5 0x136F) [] 5 1) ready) = true := by
  decide +kernel

theorem test_engines_of_objects_complete :
    next (fun t => (objAt t 0 9).map (·.cur) == some [(0, 7, 1)]) (exec (.engineArrive 0) (atEngine (barrier []) (syp 0 65535))) = true ∧
    next (fun t => (objAt t 0 9).map (·.count) == some (2 ^ 32 - 1)) (exec (.enginePost 0) (atEngine (token (2 ^ 32 - 2) []) (syp 1 1))) = true ∧
    next (fun t => (objAt t 0 9).map (·.waiting) == some [(7, 1)]) (exec (.engineTake 0) (atEngine (token 0 []) (syp 2 1))) = true ∧
    next (fun t => decide ((slotAt (coreAt t 5) 1).st = .running)) (exec (.release 5) (answering false false { syp 3 65535 with dst := 5 })) = true ∧
    next (fun t => decide ((slotAt (coreAt t 5) 1).st = .running)) (exec (.grant 5) (answering true false { syp 4 1 with dst := 5 })) = true := by
  decide +kernel

theorem test_accesses_complete :
    ready.sup.phase = .ready ∧ ready.glb.disturbed = [] ∧ ready.glb.winSel < nCores ∧ isGap ready (dieOf ready.glb.winSel) = false ∧
    next (fun t => t.glb.alertEn == 31) (exec (.registerWrite 0x28 8 31 ⟨false, { image := none, flashOk := true }⟩) ready) = true ∧
    next (fun t => t.out.length == 1) (exec (.coreWindowAccess false 0xFFF8 true) ready) = true := by
  decide +kernel

/-! ### The block as a whole, memory and numbers -/

/-- READY as start-up leaves the board, with commands waiting. -/
def board (l : List Instr) : State := { ready with pwr := { ready.pwr with perstN := true }, pending := l }

theorem test_witness_BoardInvariantKept :
    BoardInv (board [.refClockLost]) ∧ next (fun t => !t.clk.refOk && t.pending.isEmpty) (step (board [.refClockLost])) = true :=
  ⟨by constructor <;> decide +kernel, by decide +kernel⟩

theorem test_witness_StepRunsFront : (board [.refClockLost, .hostNop 1]).pending = .refClockLost :: [.hostNop 1] := rfl

theorem test_witness_QueueInOrder :
    next (fun t => t.pending == [.hostNop 1]) (step (board [.refClockLost, .hostNop 1])) = true ∧
    next (fun t => t.pending == [.refClockLost]) (exec (.hostNop 1) (board [.refClockLost])) = true := by
  decide +kernel

theorem test_witness_FusesOnlyBurn :
    next (fun t => t.fuse.lcCount == 1 && t.fuse.uds) (step { unused 0 with fuse := { (unused 0).fuse with uds := false }, pending := [.provisioning 8] }) = true := by
  decide +kernel

theorem test_witness_EmptyQueueTicks :
    (board []).pending = [] ∧
    next (fun t => t.sup.ticks == 0 && t.clk.oscTicks == 0)
      (step { board [] with sup := { ready.sup with ticks := 2 ^ 64 - 1, ticking := true }, clk := { ready.clk with refOk := false, oscTicks := 2 ^ 32 - 1 } }) = true ∧
    next (fun t => t.sup.ticks == 0) (step (board [])) = true := by
  decide +kernel

theorem test_witness_MemoryReadsAndWrites :
    Memory.wf [(3, 1), (9, 2)] = true ∧ Memory.wf [(3, 0)] = false ∧ Memory.wf [(9, 2), (3, 1)] = false ∧
    memWrite [(3, 1), (9, 2)] 2 [5, 0, 6] = [(2, 5), (4, 6), (9, 2)] ∧ memClear [(3, 1), (9, 2)] 3 6 = [(9, 2)] := by
  decide +kernel

/-- An element of E4M3 without a block scale. -/
def e4 (b : Nat) : Elem := { v := decodeFp .e4m3 b, x := 127 }

/-- The four products of the example before R85, under anchor 170. -/
def four : List Esf :=
  [productEsf (e4 0x3D) (e4 0x33) 0 0 170, productEsf (e4 0xC4) (e4 0x2A) 0 0 170, productEsf (e4 0x49) (e4 0x1B) 0 0 170,
   productEsf (e4 0x02) (e4 0x38) 0 0 170]

/-- The value zero under anchor 170. -/
def none170 : Esf := { w := 0, anchor := 170, terms := 0, sat := false, invalid := false, poison := false }

/-- The example before R85: grid values, both orders, the stored bytes, the drain to nearest and by the dither. -/
theorem test_four_products :
    four.map (fun v => wInt v.w) = [72, -60, 25, 0] ∧ wInt (four.foldl esfAdd none170).w = 37 ∧
    wInt (four.reverse.foldl esfAdd none170).w = 37 ∧
    leBytes 16 (esfPack (four.foldl esfAdd none170)) = [0x25, 0, 0, 0, 0, 0, 0, 0, 0, 0, 0, 0, 0, 0xAA, 0x20, 0] ∧
    (narrowFin .e4m3 false 37 (-6) none).1 = 0x31 ∧ (narrowFin .e4m3 false 37 (-6) (some 0xD00000)).1 = 0x32 ∧
    (narrowFin .e4m3 false 37 (-6) (some 0x600000)).1 = 0x31 := by
  decide +kernel

theorem test_witness_ProductsRounded :
    roundProduct false 143 (-7) 170 = (72, false) ∧ roundProduct true (2 ^ 95) 0 176 = (-2 ^ 95, false) ∧
    roundProduct false (2 ^ 95) 0 176 = (2 ^ 95 - 1, true) ∧ (productEsf { v := .nan, x := 127 } (e4 0x38) 0 0 170).invalid = true ∧
    (productEsf { v := decodeFp .e4m3 0x38, x := 255 } (e4 0x38) 0 0 170).invalid = true := by
  decide +kernel

theorem test_witness_SumsOfEsf :
    (none170).anchor = (four.headD none170).anchor ∧ four.Perm four.reverse ∧ (esfUnpack (170 * 2 ^ 104)).anchor = (esfUnpack (170 * 2 ^ 104 + 3)).anchor ∧
    (esfAdd { none170 with terms := 8000 } { none170 with terms := 200 }).terms = 8191 :=
  ⟨by decide +kernel, (List.reverse_perm four).symm, by decide +kernel, by decide +kernel⟩

theorem test_witness_SumsExactInRange :
    none170.w = 0 ∧ (four.map (fun v => wInt v.w)).sum = 37 ∧ four.length ≤ 256 ∧ (∀ v ∈ four, inWindow v.w = true) ∧
    wInt (esfAdd { none170 with w := BitVec.ofInt 104 (2 ^ 103 - 1) } { none170 with w := 1 }).w = -2 ^ 103 := by
  decide +kernel

theorem test_witness_StoredForm :
    none170.anchor < 256 ∧ none170.terms ≤ 8191 ∧ esfUnpack (2 ^ 128 - 1) =
      { w := BitVec.ofInt 104 (-1), anchor := 255, terms := 8191, sat := true, invalid := true, poison := true } := by
  decide +kernel

theorem test_witness_RoundingToFormat :
    (0xD00000 : Nat) < 2 ^ 24 ∧ roundUnits 37 (-6) (-4) (some 0xD00000) = 10 ∧ roundUnits 36 (-6) (-4) (some (2 ^ 24 - 1)) = 9 ∧
    roundUnits 38 (-6) (-4) none = 10 ∧ roundUnits 42 (-6) (-4) none = 10 := by
  decide +kernel

/-- The core of the example before R16: core (53, 70) in die 44, basin 10, whose memory die is 36 and whose partner is 5. -/
theorem test_core_numbers : coreX 6773 = 53 ∧ coreY 6773 = 70 ∧ dieOf 6773 = 44 ∧ basinOf 6773 = 10 ∧ memDie 10 = 36 ∧ 15 - 10 = 5 := by
  decide +kernel

/-- The example after R91, tensor 3 in E4M3: e of steps 3 to 12, and step 11 or 12 saturated in its watch record. -/
def tracked (n : Nat) (sat : Nat) : Ctx :=
  { amaxHist := (List.range 8).map (fun i => (i + 3, 3, 6)) ++ (if n = 10 then [] else [(11, 3, 9), (12, 3, 9)]),
    watch := [{ step := n, tensor := 3, scale := -1, amax := some 9, satNarrow := sat, satEsf := 0, invalid := 0, anchor := 0,
                clamped := false, void := false }] }

/-- The scales of steps 12, 13, 14 and 15 of that example, and of 15 when step 13 saturates nothing. -/
theorem test_tracked_scale :
    [(nextScale (tracked 10 0) { lay with winL := 8 } 10 (3 + 2 ^ 24)).1, (nextScale (tracked 11 5) { lay with winL := 8 } 11 (3 + 2 ^ 24)).1,
     (nextScale (tracked 12 5) { lay with winL := 8 } 12 (3 + 2 ^ 24)).1, (nextScale (tracked 13 0) { lay with winL := 8 } 13 (3 + 2 ^ 24)).1] =
      [-1, 3, 3, 2] := by
  decide +kernel

/-! ### The check of commands -/

theorem test_ill_formed_units :
    (∀ i ∈ [Instr.stackRailFault 64 ⟨false, []⟩, .thermalThrottle 64 0 0, .thermalThrottle 0 4 0, .hbmThermalThrottle 16 0, .fastClockStart 64 .corePll,
            .fastClockStart 0 (.coreBranch 9216), .fastClockStop 0 (.coreBranch 9216), .hardGap 64 ⟨1, []⟩, .dieQuiesce 64, .quiesceTimeout 64,
            .corePllRelock 64, .proofRunComplete 64 true true, .agingMonitorRead [3, 64], .chanWdogWrite 16 0, .hbmSnap 16, .idleTest 16 true,
            .sectionSwap 16 false, .armLapse 16, .basinClearComplete 16, .engineTake 16, .carryCopyComplete 16384 true, .stationResume 9216 true,
            .linkFailure 9216 ⟨.north, []⟩, .flitReplay 9216 .north, .coreClear 9216, .release 9216, .grant 9216, .congestionMap [9216]],
      Instr.wf i = false) := by
  decide +kernel

theorem test_ill_formed_host :
    (∀ i ∈ [Instr.sqDoorbell 16 0 0, .sqDoorbell 0 8 0, .sqDoorbell 0 0 65536, .cqHead 16 0, .cqHead 0 65536, .msgHead 0 65536, .hostNop 16,
            .functionLevelReset 16, .descriptorFetch 16 0, .telemRead 1 16, .lateRequest 16, .sessionRebuild 16, .scaleClose 16,
            .powerThermal 65536 0 0, .powerThermal 0 65536 0],
      Instr.wf i = false) ∧
    Instr.wf (.sqDoorbell 15 7 65535) = true := by
  decide +kernel

theorem test_ill_formed_core :
    (∀ i ∈ [Instr.codeNop 9216 0, .codeNop 0 8, .mxc 9216, .endOp 0 8 true, .operandBeatArrive 0 5 0, .operandBeatArrive 0 0 34, .sdNop 0 3, .load 0 2,
            .streamerRequest 0 7, .lineReturn 0 7 [], .messageInject 0 32, .spillCopy 0 32 [], .messageTake 0 32 [], .entryFree 0 32,
            .creditSend 0 32 false, .congestionEcho 0 true 32, .congestionEcho 0 false 7, .congestionEcho 9216 true 0, .injectionWindowTick 0 true 32,
            .controlPacket 0 (List.replicate 9 0) 0 0, .controlPacket 0 [] 9216 0],
      Instr.wf i = false) ∧
    Instr.wf (.congestionEcho 9215 true 31) = true := by
  decide +kernel

theorem test_ill_formed_ports :
    (∀ i ∈ [Instr.refresh 0 32, .refresh 16 0, .recalibration 0 16 false true, .rowRepair 0 0 1024 ⟨true, true, []⟩, .portRetrain 24 true, .fabricRequest 24,
            .fabKeyRenewal 0 4096, .fabOldKeyErase 24 0, .ackTimer 24, .fabWinTick 24 0],
      Instr.wf i = false) ∧
    Instr.wf (.fabKeyRenewal 23 4095) = true := by
  decide +kernel

/-- A step takes an ill-formed command off the queue and stops by name. -/
theorem test_ill_formed_stops :
    (match step { State.reset with pending := [.hbmSnap 16] } with
     | .fault .noSuchUnit => true
     | _ => false) = true := by
  decide +kernel

/-- No row of the table gives bits: no word spells a command. -/
theorem test_no_word : decodeTableWord 8 0 = none ∧ State.reset.withFetchWord 8 0 = State.reset := by
  decide +kernel

end Sys2Proof.Tests
end

/-! PROOFS. The dispatch over every command: which commands keep the hull, and what becomes of the fuses (O6). -/

namespace Sys2Proof.Machine

/-- The commands that act on the power entry, on start-up, on the fuses or on the JTAG port: those that may change the hull. -/
def movesHull : Instr → Bool
  | .inputPowerRise _ => true
  | .inputRange _ => true
  | .powerFailShutdown => true
  | .faultShutdown _ => true
  | .moduleReset => true
  | .startUp _ => true
  | .registerOwner .. => true
  | .returnLc .. => true
  | .reprovision .. => true
  | .lcRetire .. => true
  | .provisioning _ => true
  | .pushComplete _ => true
  | .jtagInstruction _ => true
  | .contextOutstandingZero _ => true
  | .contextClearComplete _ => true
  | _ => false

/-- Every other command keeps the hull. -/
theorem exec_keeps (c : Instr) (s : State) (h : movesHull c = false) : Keeps s (exec c s) := by
  cases c with
  | inputPowerRise | inputRange | powerFailShutdown | faultShutdown | moduleReset | startUp | registerOwner | returnLc
  | reprovision | lcRetire | provisioning | pushComplete | jtagInstruction | contextOutstandingZero
  | contextClearComplete => cases h
  | stackRailFault die hbmRail => exact execStackRailFault_keeps die hbmRail s
  | thermalThrottle die sensor temp => exact execThermalThrottle_keeps die sensor temp s
  | hbmThermalThrottle basin temp => exact execHbmThermalThrottle_keeps basin temp s
  | refClockLost => exact execRefClockLost_keeps s
  | refClockRestored => exact execRefClockRestored_keeps s
  | startupClear => exact execStartupClear_keeps s
  | fastClockStart die sel => exact execFastClockStart_keeps die sel s
  | fastClockStop die sel => exact execFastClockStop_keeps die sel s
  | settingsRead => exact execSettingsRead_keeps s
  | settingsWrite magic version count entries => exact execSettingsWrite_keeps magic version count entries s
  | ledgerRecordWritten => exact execLedgerRecordWritten_keeps s
  | ledgerCompaction => exact execLedgerCompaction_keeps s
  | getVersion tr => exact execGetVersion_keeps tr s
  | getCapabilities tr => exact execGetCapabilities_keeps tr s
  | negotiateAlgorithms tr offered => exact execNegotiateAlgorithms_keeps tr offered s
  | getDigests tr => exact execGetDigests_keeps tr s
  | getCertificate tr certSlot => exact execGetCertificate_keeps tr certSlot s
  | challenge tr certSlot nonce => exact execChallenge_keeps tr certSlot nonce s
  | getMeasurements tr index => exact execGetMeasurements_keeps tr index s
  | keyExchange tr => exact execKeyExchange_keeps tr s
  | finish tr session macOk => exact execFinish_keeps tr session macOk s
  | keyUpdate tr session => exact execKeyUpdate_keeps tr session s
  | heartbeat tr session => exact execHeartbeat_keeps tr session s
  | endSession tr session => exact execEndSession_keeps tr session s
  | getNonce tr session => exact execGetNonce_keeps tr session s
  | getTransportCert tr session => exact execGetTransportCert_keeps tr session s
  | setFmKey tr session tok fmSerial fmDigest => exact execSetFmKey_keeps tr session tok fmSerial fmDigest s
  | ledgerClear tr session tok => exact execLedgerClear_keeps tr session tok s
  | debugUnlock tr session tok => exact execDebugUnlock_keeps tr session tok s
  | go img => exact execGo_keeps img s
  | goPersist img flashOk => exact execGoPersist_keeps img flashOk s
  | sqDoorbell ctx ring value => exact execSqDoorbell_keeps ctx ring value s
  | cqHead ctx value => exact execCqHead_keeps ctx value s
  | msgHead ctx value => exact execMsgHead_keeps ctx value s
  | descriptorFetch ctx desc => exact execDescriptorFetch_keeps ctx desc s
  | hostDmaFault ctx ringFetch idx => exact execHostDmaFault_keeps ctx ringFetch idx s
  | completionWrite ctx => exact execCompletionWrite_keeps ctx s
  | messageRecordPlace ctx => exact execMessageRecordPlace_keeps ctx s
  | interrupt ctx msgRing timeUp => exact execInterrupt_keeps ctx msgRing timeUp s
  | hostNop ctx => exact execHostNop_keeps ctx s
  | stageImage ctx env => exact execStageImage_keeps ctx env s
  | stageWpkg ctx piece => exact execStageWpkg_keeps ctx piece s
  | loadLayout ctx => exact execLoadLayout_keeps ctx s
  | unloadLayout ctx => exact execUnloadLayout_keeps ctx s
  | reloadScale ctx => exact execReloadScale_keeps ctx s
  | infer ctx inp => exact execInfer_keeps ctx inp s
  | sessionOpen ctx blob => exact execSessionOpen_keeps ctx blob s
  | sessionClose ctx => exact execSessionClose_keeps ctx s
  | stepSync ctx => exact execStepSync_keeps ctx s
  | bindPeer ctx => exact execBindPeer_keeps ctx s
  | setPorts ctx => exact execSetPorts_keeps ctx s
  | fabRecord ctx rec => exact execFabRecord_keeps ctx rec s
  | lateReport ctx => exact execLateReport_keeps ctx s
  | debugDump ctx auth => exact execDebugDump_keeps ctx auth s
  | retire ctx => exact execRetire_keeps ctx s
  | microbatchAdmit ctx timeUp => exact execMicrobatchAdmit_keeps ctx timeUp s
  | microbatchComplete ctx => exact execMicrobatchComplete_keeps ctx s
  | enable ctx value => exact execEnable_keeps ctx value s
  | apply ctx => exact execApply_keeps ctx s
  | teardown ctx => exact execTeardown_keeps ctx s
  | functionLevelReset fn => exact execFunctionLevelReset_keeps fn s
  | ctxQuarantine ctx => exact execCtxQuarantine_keeps ctx s
  | registerWrite off size value how => exact execRegisterWrite_keeps off size value how s
  | meshApply => exact execMeshApply_keeps s
  | chanWdogWrite basin value => exact execChanWdogWrite_keeps basin value s
  | coreWindowAccess write off answers => exact execCoreWindowAccess_keeps write off answers s
  | coreMxSnap => exact execCoreMxSnap_keeps s
  | coreVcSnap => exact execCoreVcSnap_keeps s
  | coreSpSnap => exact execCoreSpSnap_keeps s
  | coreChSnap => exact execCoreChSnap_keeps s
  | meshSnap => exact execMeshSnap_keeps s
  | hbmSnap basin => exact execHbmSnap_keeps basin s
  | fabSnap => exact execFabSnap_keeps s
  | tstSnap => exact execTstSnap_keeps s
  | codeNop core slot => exact execCodeNop_keeps core slot s
  | mxc core => exact execMxc_keeps core s
  | vcc core => exact execVcc_keeps core s
  | sdc core => exact execSdc_keeps core s
  | sendd core slot => exact execSendd_keeps core slot s
  | sendt core slot => exact execSendt_keeps core slot s
  | wait core slot => exact execWait_keeps core slot s
  | seti core slot => exact execSeti_keeps core slot s
  | addi core slot => exact execAddi_keeps core slot s
  | adj core slot => exact execAdj_keeps core slot s
  | loop core slot => exact execLoop_keeps core slot s
  | dropRep core slot => exact execDropRep_keeps core slot s
  | endOp core slot sample => exact execEndOp_keeps core slot sample s
  | arrive core slot => exact execArrive_keeps core slot s
  | syncWait core slot => exact execSyncWait_keeps core slot s
  | arriveWait core slot => exact execArriveWait_keeps core slot s
  | post core slot => exact execPost_keeps core slot s
  | take core slot => exact execTake_keeps core slot s
  | firingComplete core => exact execFiringComplete_keeps core s
  | mxNop core => exact execMxNop_keeps core s
  | mma core parity => exact execMma_keeps core parity s
  | mxDrain core => exact execMxDrain_keeps core s
  | mxClear core => exact execMxClear_keeps core s
  | mxCmdStart core => exact execMxCmdStart_keeps core s
  | mxShadowSwap core => exact execMxShadowSwap_keeps core s
  | mxDrainStart core => exact execMxDrainStart_keeps core s
  | mxDrainRow core parity => exact execMxDrainRow_keeps core parity s
  | operandBeatArrive core port src => exact execOperandBeatArrive_keeps core port src s
  | vcNop core => exact execVcNop_keeps core s
  | chain core => exact execChain_keeps core s
  | loadc core => exact execLoadc_keeps core s
  | loadlut core => exact execLoadlut_keeps core s
  | sets core => exact execSets_keeps core s
  | vcQuadStart core parity => exact execVcQuadStart_keeps core parity s
  | sdNop core unit => exact execSdNop_keeps core unit s
  | load core unit => exact execLoad_keeps core unit s
  | store core => exact execStore_keeps core s
  | streamerRequest core unit => exact execStreamerRequest_keeps core unit s
  | lineReturn core unit ecc => exact execLineReturn_keeps core unit ecc s
  | ceWriteBack core => exact execCeWriteBack_keeps core s
  | patrolScrub core ecc => exact execPatrolScrub_keeps core ecc s
  | remoteAccess core ecc => exact execRemoteAccess_keeps core ecc s
  | coreClear core => exact execCoreClear_keeps core s
  | messageInject core ep => exact execMessageInject_keeps core ep s
  | messageArrive core parity => exact execMessageArrive_keeps core parity s
  | spillCopy core ep ecc => exact execSpillCopy_keeps core ep ecc s
  | messageTake core ep ecc => exact execMessageTake_keeps core ep ecc s
  | entryFree core ep => exact execEntryFree_keeps core ep s
  | creditSend core ep timeUp => exact execCreditSend_keeps core ep timeUp s
  | creditArrive core => exact execCreditArrive_keeps core s
  | contributionArrive core => exact execContributionArrive_keeps core s
  | stallRead => exact execStallRead_keeps s
  | packetInject core => exact execPacketInject_keeps core s
  | packetHop id dir => exact execPacketHop_keeps id dir s
  | colEntry id => exact execColEntry_keeps id s
  | packetEject id => exact execPacketEject_keeps id s
  | flitReplay core dir => exact execFlitReplay_keeps core dir s
  | linkFailure core dir => exact execLinkFailure_keeps core dir s
  | hardGap die reason => exact execHardGap_keeps die reason s
  | flipComplete => exact execFlipComplete_keeps s
  | drainMarkerPass => exact execDrainMarkerPass_keeps s
  | carryCopyComplete slot stateOk => exact execCarryCopyComplete_keeps slot stateOk s
  | drainSweepPass => exact execDrainSweepPass_keeps s
  | congestionEcho core outbound unit => exact execCongestionEcho_keeps core outbound unit s
  | injectionWindowTick core outbound unit => exact execInjectionWindowTick_keeps core outbound unit s
  | controlPacket hdr data node replays => exact execControlPacket_keeps hdr data node replays s
  | engineArrive basin => exact execEngineArrive_keeps basin s
  | enginePost basin => exact execEnginePost_keeps basin s
  | engineTake basin => exact execEngineTake_keeps basin s
  | release core => exact execRelease_keeps core s
  | grant core => exact execGrant_keeps core s
  | hbmRequest basin caFails => exact execHbmRequest_keeps basin caFails s
  | hbmReadComplete basin ecc rowMiss => exact execHbmReadComplete_keeps basin ecc rowMiss s
  | lineRestoreTimeout basin => exact execLineRestoreTimeout_keeps basin s
  | hbmWriteBack basin => exact execHbmWriteBack_keeps basin s
  | hbmSumInto basin ecc => exact execHbmSumInto_keeps basin ecc s
  | hbmScrub basin pc read forced => exact execHbmScrub_keeps basin pc read forced s
  | rowRepair basin row bank found => exact execRowRepair_keeps basin row bank found s
  | refresh basin pc => exact execRefresh_keeps basin pc s
  | recalibration basin ch forced ok => exact execRecalibration_keeps basin ch forced ok s
  | selfRefreshEntry basin => exact execSelfRefreshEntry_keeps basin s
  | selfRefreshExit basin => exact execSelfRefreshExit_keeps basin s
  | stackWithdraw basin cause => exact execStackWithdraw_keeps basin cause s
  | sessionRebuild ctx => exact execSessionRebuild_keeps ctx s
  | portRetrain port ok => exact execPortRetrain_keeps port ok s
  | linkBlockReplay port ok => exact execLinkBlockReplay_keeps port ok s
  | fabricRequest port => exact execFabricRequest_keeps port s
  | keyWaitTimeout port => exact execKeyWaitTimeout_keeps port s
  | fabMergeTimeout port => exact execFabMergeTimeout_keeps port s
  | fabWrite port pkt => exact execFabWrite_keeps port pkt s
  | fabRead port pkt => exact execFabRead_keeps port pkt s
  | fabSumInto port pkt => exact execFabSumInto_keeps port pkt s
  | readData port pkt => exact execReadData_keeps port pkt s
  | ack port pkt => exact execAck_keeps port pkt s
  | nack port pkt => exact execNack_keeps port pkt s
  | ackTimer port => exact execAckTimer_keeps port s
  | fabArrive port pkt => exact execFabArrive_keeps port pkt s
  | fabRelease port pkt => exact execFabRelease_keeps port pkt s
  | resendTimeout port stream => exact execResendTimeout_keeps port stream s
  | epochAheadResend port stream => exact execEpochAheadResend_keeps port stream s
  | fabWinTick port stream => exact execFabWinTick_keeps port stream s
  | fabKeyRenewal port entry => exact execFabKeyRenewal_keeps port entry s
  | fabOldKeyErase port entry => exact execFabOldKeyErase_keeps port entry s
  | mgmtSpdm port pkt finished chainOk peer => exact execMgmtSpdm_keeps port pkt finished chainOk peer s
  | record port pkt sigOk => exact execRecord_keeps port pkt sigOk s
  | mctpMembershipRecord rec => exact execMctpMembershipRecord_keeps rec s
  | ctxClose port pkt => exact execCtxClose_keeps port pkt s
  | ctxCloseAck port pkt => exact execCtxCloseAck_keeps port pkt s
  | partInfo port pkt => exact execPartInfo_keeps port pkt s
  | partInfoReq port pkt => exact execPartInfoReq_keeps port pkt s
  | digestXchg port pkt => exact execDigestXchg_keeps port pkt s
  | digestExchangeSend ctx => exact execDigestExchangeSend_keeps ctx s
  | stepSyncPulse => exact execStepSyncPulse_keeps s
  | scaleClose ctx => exact execScaleClose_keeps ctx s
  | sectionSwap basin reserveLost => exact execSectionSwap_keeps basin reserveLost s
  | drainComplete => exact execDrainComplete_keeps s
  | drainTimeout => exact execDrainTimeout_keeps s
  | idleSweepStep basin => exact execIdleSweepStep_keeps basin s
  | priorityTest basin => exact execPriorityTest_keeps basin s
  | idleTest basin pass => exact execIdleTest_keeps basin pass s
  | checkCompare agrees => exact execCheckCompare_keeps agrees s
  | thirdCoreResult eq => exact execThirdCoreResult_keeps eq s
  | checkTimeout => exact execCheckTimeout_keeps s
  | agingMonitorRead low => exact execAgingMonitorRead_keeps low s
  | dieQuiesce die => exact execDieQuiesce_keeps die s
  | quiesceTimeout die => exact execQuiesceTimeout_keeps die s
  | stationResume core stateOk => exact execStationResume_keeps core stateOk s
  | proofRunComplete die pass checkersFound => exact execProofRunComplete_keeps die pass checkersFound s
  | weightRefill => exact execWeightRefill_keeps s
  | shardSweep basin shard => exact execShardSweep_keeps basin shard s
  | shardReloaded basin shard data => exact execShardReloaded_keeps basin shard data s
  | basinReset => exact execBasinReset_keeps s
  | partialDrainComplete => exact execPartialDrainComplete_keeps s
  | dumpCollectComplete hbmRetrainOk => exact execDumpCollectComplete_keeps hbmRetrainOk s
  | basinReady => exact execBasinReady_keeps s
  | dumpRecordDeliver ctx => exact execDumpRecordDeliver_keeps ctx s
  | armLapse basin => exact execArmLapse_keeps basin s
  | telemRead type ctx => exact execTelemRead_keeps type ctx s
  | telemSubscribe mask eid => exact execTelemSubscribe_keeps mask eid s
  | lateRequest ctx => exact execLateRequest_keeps ctx s
  | congestionMap unread => exact execCongestionMap_keeps unread s
  | powerThermal ma100 watts joules => exact execPowerThermal_keeps ma100 watts joules s
  | groupCounters => exact execGroupCounters_keeps s
  | telemetryPushTimeout => exact execTelemetryPushTimeout_keeps s
  | hostLinkTraining width rate flitMode => exact execHostLinkTraining_keeps width rate flitMode s
  | mctpEndpointIdAssign eid => exact execMctpEndpointIdAssign_keeps eid s
  | corePllRelock die => exact execCorePllRelock_keeps die s
  | basinClearComplete basin => exact execBasinClearComplete_keeps basin s
  | glbAlertWrite enableReg value => exact execGlbAlertWrite_keeps enableReg value s

/-! ### What happens to the fuses (R354 to R358, R374) -/

theorem hull_fuse (s : State) : (hull s).fuse = s.fuse := rfl

theorem fuse_of_hull {s t : State} (h : hull t = hull s) : t.fuse = s.fuse := congrArg Hull.fuse h

theorem fusesBurn_refl (f : Fuse) : FusesBurn f f :=
  ⟨le_rfl, id, le_rfl, id, ⟨rfl, rfl⟩, ⟨rfl, rfl⟩, ⟨rfl, rfl⟩, fun _ _ => rfl⟩

theorem fusesBurn_of_eq {f g : Fuse} (h : g = f) : FusesBurn f g := h ▸ fusesBurn_refl f

/-- The next bit of the life-cycle counter burned. -/
theorem fusesBurn_lcCount (f : Fuse) : FusesBurn f { f with lcCount := f.lcCount + 1 } :=
  { fusesBurn_refl f with count := Nat.le_succ _ }

theorem fusesBurn_lcRetired (f : Fuse) : FusesBurn f { f with lcRetired := true } :=
  { fusesBurn_refl f with retired := fun _ => rfl }

/-- The owner digest of the new deployment lies above those of the earlier ones (R356). -/
theorem fusesBurn_ownerDigest (f : Fuse) (d : Nat) :
    FusesBurn f { f with ownerDigest := tabSet f.ownerDigest ((f.lcCount - 1) / 3) d, lcCount := f.lcCount + 1 } :=
  { fusesBurn_lcCount f with owners := fun _ hi => tabGet_tabSet_ne _ _ _ hi.ne }

/-- A BLANK part has burned no bit of its counter, so the first one takes nothing back. -/
theorem fusesBurn_provisioned (f : Fuse) (cert : Nat) (h : lcState f = 0) :
    FusesBurn f { f with uds := true, lcCount := 1, devidCert := cert } := by
  have hc : f.lcCount = 0 := by
    unfold lcState at h
    split at h
    · cases h
    · split at h
      · assumption
      · omega
  exact { fusesBurn_refl f with count := by simp [hc], uds := fun _ => rfl }

theorem fusesBurn_burnSvn (f : Fuse) (i : FwImage) : FusesBurn f (burnSvn f i) := by
  unfold burnSvn
  split
  case isTrue h => exact { fusesBurn_refl f with svn := h.2.le }
  case isFalse => exact fusesBurn_refl f

theorem eraseOwner_fuse (s : State) : (eraseOwner s).fuse = s.fuse := fuse_of_hull (eraseOwner_hull s)

theorem useNonce_fuse (s : State) (t : Token) : (useNonce s t).fuse = s.fuse := fuse_of_hull (useNonce_hull s t)

theorem runImage_fuse (s : State) (i : FwImage) (k : Nat) (b : BootIn) : (runImage s i k b).fuse = s.fuse := by
  rw [← hull_fuse, runImage_facts, ← hull_fuse]

/-- A life-cycle transition carried out burns the counter's next bit or the RETIRED fuse; one that waits burns nothing. -/
theorem finishLc_burns (s : State) : FusesBurn s.fuse (finishLc s).fuse := by
  unfold finishLc
  split
  · exact fusesBurn_refl _
  next w _ _ =>
    split
    · exact fusesBurn_refl _
    · cases w <;> simp only [rekey, emit_fuse, eraseOwner_fuse]
      · exact fusesBurn_lcCount _
      · exact fusesBurn_lcRetired _

/-- What a state with the same fuses burns when it finishes a transition. -/
theorem finishLc_burns_of_hull {s t : State} (h : hull t = hull s) : FusesBurn s.fuse (finishLc t).fuse :=
  fuse_of_hull h ▸ finishLc_burns t

theorem freeCtx_burns_of_hull {s t : State} (n : Nat) (h : hull t = hull s) : FusesBurn s.fuse (freeCtx t n).fuse :=
  finishLc_burns_of_hull (by simp [h])

theorem startLc_burns (s : State) (tr : Transport) (w : LcWait) : FusesBurn s.fuse (startLc s tr w).fuse :=
  finishLc_burns_of_hull (forEach_hull _ _ _ teardownCtx_hull)

/-! ### Outcomes that only burn -/

/-- The outcome, if it is a next state, takes back no fuse of `s`. -/
def Burns (s : State) (o : Host.Outcome State Fault Refusal) : Prop := ∀ t, o = .next t → FusesBurn s.fuse t.fuse

theorem burns_of_keeps {s : State} {o : Host.Outcome State Fault Refusal} (h : Keeps s o) : Burns s o :=
  fun t ht => fusesBurn_of_eq (fuse_of_hull (h t ht))

theorem burns_next {s t : State} (h : FusesBurn s.fuse t.fuse) : Burns s (.next t) := by
  intro u hu; cases hu; exact h

/-- A command whose next state has the fuses as they were. -/
theorem burns_next_of_eq {s t : State} (h : t.fuse = s.fuse) : Burns s (.next t) := burns_next (fusesBurn_of_eq h)

theorem burns_runUnit (k m : Nat) (f : State → State) (s : State) (h : FusesBurn s.fuse (f s).fuse) :
    Burns s (runUnit k m f s) := by
  intro t ht
  obtain ⟨-, rfl⟩ := runUnit_cases ht
  exact h

/-- A vendor command that is not taken only answers. -/
theorem burns_vendorCmd (tr : Transport) (i o : Nat) (f : State → State) (s : State) (h : FusesBurn s.fuse (f s).fuse) :
    Burns s (vendorCmd tr i o f s) := by
  apply burns_next
  split
  · exact fusesBurn_refl _
  split
  · exact fusesBurn_of_eq (fuse_of_hull (answerError_hull s tr 1))
  split
  · exact fusesBurn_of_eq (fuse_of_hull (vendor_hull s tr o 5 []))
  · exact h

/-- A token command runs on the state without its nonce, or is refused. -/
theorem burns_tokenCmd (tr : Transport) (i o : Nat) (tok : Token) (a b : State → Bool) (f : State → State) (s : State)
    (h : ∀ u, FusesBurn u.fuse (f u).fuse) : Burns s (tokenCmd tr i o tok a b f s) := by
  apply burns_vendorCmd
  rw [← useNonce_fuse s tok]
  split
  · exact h _
  · exact fusesBurn_of_eq (fuse_of_hull (vendor_hull _ _ _ _ _))

/-! ### The commands that may change the hull -/

theorem execInputPowerRise_burns (mv10 : Nat) (s : State) : Burns s (execInputPowerRise mv10 s) := by
  apply burns_next_of_eq
  split <;> rfl

theorem execInputRange_burns (mv10 : Nat) (s : State) : Burns s (execInputRange mv10 s) := by
  apply burns_next_of_eq
  cases s.sup.phase with
  | unpowered | held | recovery => rfl
  | fault => dsimp only; split <;> rfl
  | ready =>
    dsimp only
    split
    · rfl
    · exact fuse_of_hull (ctxEvent_hull _ _ _ _ _ _ _)

theorem execPowerFailShutdown_burns (s : State) : Burns s (execPowerFailShutdown s) := by
  apply burns_next_of_eq
  cases s.sup.phase with
  | unpowered | fault => rfl
  | held | recovery | ready => exact halt_fuse s .unpowered false

theorem execFaultShutdown_burns (cause : ShutCause) (s : State) : Burns s (execFaultShutdown cause s) := by
  apply burns_next_of_eq
  cases s.sup.phase with
  | unpowered | fault => rfl
  | held | recovery | ready => cases cause <;> exact halt_fuse s .fault false

theorem execModuleReset_burns (s : State) : Burns s (execModuleReset s) := by
  apply burns_next_of_eq
  cases s.sup.phase with
  | unpowered | fault => rfl
  | held | recovery | ready => exact halt_fuse s .held true

theorem execJtagInstruction_burns (ir : JtagIr) (s : State) : Burns s (execJtagInstruction ir s) := by
  apply burns_next_of_eq
  split
  · rfl
  · dsimp only
    split <;> rfl

/-- Start-up burns the security version of the image that it starts (R374). -/
theorem execStartUp_burns (boot : BootIn) (s : State) : Burns s (execStartUp boot s) := by
  apply burns_next
  cases s.sup.phase with
  | unpowered | fault | recovery | ready => exact fusesBurn_refl _
  | held =>
    dsimp only
    split
    · rw [runImage_fuse]
      exact fusesBurn_burnSvn _ _
    · exact fusesBurn_refl _

/-- A push that persists a verified image burns its security version (R374, R376). -/
theorem execPushComplete_burns (boot : BootIn) (s : State) : Burns s (execPushComplete boot s) := by
  apply burns_next
  split
  · exact fusesBurn_refl _
  next p _ =>
    dsimp only
    split
    · exact fusesBurn_refl _
    next i _ =>
      split
      · exact fusesBurn_refl _
      split
      · exact fusesBurn_refl _
      · rw [apply_ite State.fuse, runImage_fuse, ite_self]
        cases p.persist
        · exact fusesBurn_refl _
        · exact fusesBurn_burnSvn _ _

theorem execProvisioning_burns (cert : Nat) (s : State) : Burns s (execProvisioning cert s) := by
  apply burns_next
  split
  case isTrue h => exact fusesBurn_provisioned _ _ h
  case isFalse => exact fusesBurn_refl _

theorem execRegisterOwner_burns (tr : Transport) (id : Nat) (tok : Token) (d fm : Nat) (s : State) :
    Burns s (execRegisterOwner tr id tok d fm s) :=
  burns_tokenCmd _ _ _ _ _ _ _ _ fun u => fusesBurn_ownerDigest u.fuse d

theorem execReprovision_burns (tr : Transport) (id : Nat) (tok : Token) (s : State) : Burns s (execReprovision tr id tok s) :=
  burns_tokenCmd _ _ _ _ _ _ _ _ fun u => fusesBurn_lcCount u.fuse

theorem execReturnLc_burns (tr : Transport) (id : Nat) (tok : Token) (s : State) : Burns s (execReturnLc tr id tok s) :=
  burns_tokenCmd _ _ _ _ _ _ _ _ fun u => startLc_burns u tr .ret

theorem execLcRetire_burns (tr : Transport) (id : Nat) (tok : Token) (s : State) : Burns s (execLcRetire tr id tok s) :=
  burns_tokenCmd _ _ _ _ _ _ _ _ fun u => startLc_burns u tr .retire

theorem execContextOutstandingZero_burns (n : Nat) (s : State) : Burns s (execContextOutstandingZero n s) := by
  apply burns_runUnit
  dsimp only
  split
  · exact fusesBurn_refl _
  · cases (ctxAt s n).st with
    | free | active | stopping | clearing => exact fusesBurn_refl _
    | quarantine => exact freeCtx_burns_of_hull n rfl

theorem execContextClearComplete_burns (n : Nat) (s : State) : Burns s (execContextClearComplete n s) := by
  apply burns_runUnit
  cases (ctxAt s n).st with
  | free | active | stopping | quarantine => exact fusesBurn_refl _
  | clearing =>
    dsimp only
    split
    · exact fusesBurn_of_eq (fuse_of_hull (by simp))
    · exact freeCtx_burns_of_hull n (clearCtx_hull s n)

/-- A command only burns fuses: it keeps the hull, or it is one of those that may change it. -/
theorem exec_burns (c : Instr) (s : State) : Burns s (exec c s) := by
  cases h : movesHull c with
  | false => exact burns_of_keeps (exec_keeps c s h)
  | true =>
    cases c with
    | inputPowerRise mv10 => exact execInputPowerRise_burns mv10 s
    | inputRange mv10 => exact execInputRange_burns mv10 s
    | powerFailShutdown => exact execPowerFailShutdown_burns s
    | faultShutdown cause => exact execFaultShutdown_burns cause s
    | moduleReset => exact execModuleReset_burns s
    | startUp boot => exact execStartUp_burns boot s
    | registerOwner tr id tok d fm => exact execRegisterOwner_burns tr id tok d fm s
    | returnLc tr id tok => exact execReturnLc_burns tr id tok s
    | reprovision tr id tok => exact execReprovision_burns tr id tok s
    | lcRetire tr id tok => exact execLcRetire_burns tr id tok s
    | provisioning cert => exact execProvisioning_burns cert s
    | pushComplete boot => exact execPushComplete_burns boot s
    | jtagInstruction ir => exact execJtagInstruction_burns ir s
    | contextOutstandingZero n => exact execContextOutstandingZero_burns n s
    | contextClearComplete n => exact execContextClearComplete_burns n s
    | _ => cases h

/-- Settles O6: the idle tick keeps the fuses, and every command only burns them. -/
theorem fusesOnlyBurn : Obligations.FusesOnlyBurn := by
  intro s t h
  unfold step at h
  split at h
  next =>
    cases h
    exact fusesBurn_of_eq (fuse_of_hull (idleTick_hull s))
  next c rest _ => exact exec_burns c { s with pending := rest } t h

end Sys2Proof.Machine

/-! PROOFS. The registers behind BAR0 and the core window: one lemma for each way an access can end, and the statement on
set-up registers and windows (O54). -/

namespace Sys2Proof.Machine

/-! ### Reaching a register (R434, R435, R438) -/

theorem exec_registerWrite (off size : Nat) (v : W64) (how : WriteIn) (s : State) :
    exec (.registerWrite off size v how) s = execRegisterWrite off size v how s := rfl

theorem exec_go (img : Option FwImage) (s : State) : exec (.go img) s = execGo img s := rfl

theorem exec_goPersist (img : Option FwImage) (flashOk : Bool) (s : State) :
    exec (.goPersist img flashOk) s = execGoPersist img flashOk s := rfl

theorem exec_coreWindowAccess (write : Bool) (off : Nat) (answers : Bool) (s : State) :
    exec (.coreWindowAccess write off answers) s = execCoreWindowAccess write off answers s := rfl

theorem regsUp_of_ready {s : State} (h : s.sup.phase = .ready) (o : Nat) : regsUp s o = true := by simp [regsUp, h]

theorem voteReg_of_undisturbed {s : State} (h : s.glb.disturbed = []) (o : Nat) : voteReg s o = s := by simp [voteReg, h]

/-- One disturbed copy is rewritten and counted (R438). -/
theorem voteReg_of_disturbed {s : State} {o : Nat} (h : s.glb.disturbed = [(o, false)]) :
    voteReg s o = { s with glb := { s.glb with disturbed := [], voteFix := (s.glb.voteFix + 1) % 2 ^ 64 } } := by
  simp [voteReg, h]

/-- Where no two copies agree, the reference copy is taken, the failure is counted and the alert raised (R438, R452). -/
theorem voteReg_of_lost {s : State} {o : Nat} (h : s.glb.disturbed = [(o, true)]) :
    (voteReg s o).glb = { s.glb with disturbed := [], voteFail := (s.glb.voteFail + 1) % 2 ^ 64, alert := s.glb.alert ||| 16 } ∧
      (voteReg s o).mesh = s.mesh := by
  simp [voteReg, h, ctxEvent, postEvent, postMsg, takeFree]

theorem registerWrite_ignored {s : State} {off size : Nat} (v : W64) (how : WriteIn)
    (h : sizeOk off size = false ∨ regsUp s off = false) : exec (.registerWrite off size v how) s = .next s := by
  obtain h | h := h <;> simp [exec_registerWrite, execRegisterWrite, h]

theorem registerWrite_lost {s : State} {off size : Nat} (v : W64) (push : PushIn) (hsize : sizeOk off size = true)
    (hup : regsUp s off = true) (hblock : inBlock (off / 8 * 8) = true) :
    exec (.registerWrite off size v ⟨true, push⟩) s =
      .next { s with glb := { s.glb with writeLost := (s.glb.writeLost + 1) % 2 ^ 64 } } := by
  simp [exec_registerWrite, execRegisterWrite, hsize, hup, hblock]

/-- A write of 8 bytes is taken whole, after the vote. -/
theorem registerWrite_whole {s : State} {o : Nat} (v : W64) (push : PushIn) (hready : s.sup.phase = .ready) (ho : o % 8 = 0) :
    exec (.registerWrite o 8 v ⟨false, push⟩) s = .next (takeWrite (voteReg s o) o v.toNat v.toNat push) := by
  have hword : o / 8 * 8 = o := Nat.div_mul_cancel (Nat.dvd_of_mod_eq_zero ho)
  simp [exec_registerWrite, execRegisterWrite, sizeOk, regsUp_of_ready hready, mergeHalf, writtenBits, ho, hword]

/-- A write of a register's upper half keeps the lower half. -/
theorem registerWrite_upper {s : State} {o : Nat} (v : W64) (push : PushIn) (hready : s.sup.phase = .ready)
    (hcopies : s.glb.disturbed = []) (ho : o % 8 = 0) :
    exec (.registerWrite (o + 4) 4 v ⟨false, push⟩) s =
      .next (takeWrite s o (barReg s o % 2 ^ 32 + v.toNat % 2 ^ 32 * 2 ^ 32) (v.toNat % 2 ^ 32 * 2 ^ 32) push) := by
  have hword : (o + 4) / 8 * 8 = o := by omega
  have hhalf : (o + 4) % 8 = 4 := by omega
  have halign : (o + 4) % 4 = 0 := by omega
  simp [exec_registerWrite, execRegisterWrite, sizeOk, regsUp_of_ready hready, voteReg_of_undisturbed hcopies, mergeHalf,
    writtenBits, hword, hhalf, halign]

/-! ### The register that an offset names (R434) -/

theorem takeWrite_hst (s : State) {n r o : Nat} (v w : Nat) (push : PushIn) (hn : n < 16) (hr : r < 0x1000)
    (ho : o = 0x10000 + 0x1000 * n + r) : takeWrite s o v w push = writeHst s n r v w := by
  have hpage : o / 0x1000 - 0x10 = n := by omega
  have hreg : o % 0x1000 = r := by omega
  unfold takeWrite
  rw [if_neg (by omega), if_neg (by omega), if_neg (by omega), if_pos (by omega), hpage, hreg]

theorem takeWrite_bsn (s : State) {b r o : Nat} (v w : Nat) (push : PushIn) (hb : b < 16) (hr : r < 0x1000)
    (ho : o = 0x20000 + 0x1000 * b + r) : takeWrite s o v w push = writeBsn s b r v := by
  have hpage : o / 0x1000 - 0x20 = b := by omega
  have hreg : o % 0x1000 = r := by omega
  unfold takeWrite
  rw [if_neg (by omega), if_neg (by omega), if_neg (by omega), if_neg (by omega), if_pos (by omega), hpage, hreg]

theorem takeWrite_hbm (s : State) {b r o : Nat} (v w : Nat) (push : PushIn) (hb : b < 16) (hr : r < 0x1000)
    (ho : o = 0x40000 + 0x1000 * b + r) : takeWrite s o v w push = writeHbm s b r v w := by
  have hpage : o / 0x1000 - 0x40 = b := by omega
  have hreg : o % 0x1000 = r := by omega
  unfold takeWrite
  rw [if_neg (by omega), if_neg (by omega), if_neg (by omega), if_neg (by omega), if_neg (by omega), if_neg (by omega),
    if_pos (by omega), hpage, hreg]

theorem barReg_hst (s : State) {n r o : Nat} (hn : n < 16) (hr : r < 0x1000) (ho : o = 0x10000 + 0x1000 * n + r) :
    barReg s o = hstReg s n r := by
  have hpage : o / 0x1000 - 0x10 = n := by omega
  have hreg : o % 0x1000 = r := by omega
  unfold barReg
  rw [if_neg (by omega), if_neg (by omega), if_neg (by omega), if_neg (by omega), if_neg (by omega), if_pos (by omega), hpage,
    hreg]

theorem writeGlb_ignored (s : State) {o : Nat} (v w : Nat) (h : o ≠ 0x20 ∧ o ≠ 0x28 ∧ o ≠ 0x30 ∧ o ≠ 0x38) :
    writeGlb s o v w = s := by
  unfold writeGlb
  split
  case h_5 => rfl
  all_goals omega

theorem writeSec_ignored (s : State) {o : Nat} (v w : Nat) (push : PushIn)
    (h : o ≠ 0x10 ∧ o ≠ 0x18 ∧ o ≠ 0x20 ∧ o ≠ 0x28) : writeSec s o v w push = s := by
  unfold writeSec
  split
  case h_5 => rfl
  all_goals omega

theorem writeTst_ignored (s : State) {o : Nat} (v w : Nat)
    (h : o ≠ 0x00 ∧ o ≠ 0x08 ∧ o ≠ 0x10 ∧ o ≠ 0x18 ∧ o ≠ 0x28) : writeTst s o v w = s := by
  unfold writeTst
  split
  case h_6 => rfl
  all_goals omega

theorem writeMesh_ignored (s : State) {o : Nat} (v w : Nat) (h : o ≠ 0x000 ∧ o ≠ 0x008 ∧ o ≠ 0x010) :
    writeMesh s o v w = s := by
  unfold writeMesh
  split
  case h_4 => rfl
  all_goals omega

/-- No register that can be written lies at the offset: none of GLB_, SEC_, TST_, MESH_ and FAB_ that take a write, no page of a
context, a basin or a stack, and not the core window (R434). -/
abbrev Deaf (o : Nat) : Prop :=
  o ∉ [0x20, 0x28, 0x30, 0x38, 0x4010, 0x4018, 0x4020, 0x4028, 0x5000, 0x5008, 0x5010, 0x5018, 0x5028, 0x30000, 0x30008,
    0x30010, 0x50008] ∧
  ¬ (0x10000 ≤ o ∧ o < 0x30000) ∧ ¬ (0x40000 ≤ o ∧ o < 0x50000) ∧ ¬ (0x100000 ≤ o ∧ o < 0x110000)

/-- A read-only register and a reserved offset ignore a write (R437). -/
theorem takeWrite_deaf (s : State) {o : Nat} (v w : Nat) (push : PushIn) (h : Deaf o) : takeWrite s o v w push = s := by
  obtain ⟨hreg, hpages, hstacks, hwindow⟩ := h
  simp only [List.mem_cons, List.not_mem_nil, or_false, not_or] at hreg
  unfold takeWrite
  split
  · exact writeGlb_ignored s v w (by omega)
  split
  · exact writeSec_ignored s v w push (by omega)
  split
  · exact writeTst_ignored s v w (by omega)
  rw [if_neg (by omega), if_neg (by omega)]
  split
  · exact writeMesh_ignored s v w (by omega)
  rw [if_neg (by omega)]

/-! ### Writes that are taken (R375, R437, R441, R446 to R448) -/

theorem takeWrite_drainLimit (s : State) {b : Nat} (v w : Nat) (push : PushIn) (hb : b < 16) :
    takeWrite s (0x20018 + 0x1000 * b) v w push = putBasin s b { basinAt s b with drainLimit := v % 2 ^ 32 } := by
  rw [takeWrite_bsn s v w push hb (by decide : 0x018 < 0x1000) (by omega), writeBsn]

theorem takeWrite_srCfg (s : State) {b : Nat} (v w : Nat) (push : PushIn) (hb : b < 16) :
    takeWrite s (0x40018 + 0x1000 * b) v w push = putHbm s b { hbmAt s b with srCfg := v % 2 ^ 20 } := by
  rw [takeWrite_hbm s v w push hb (by decide : 0x018 < 0x1000) (by omega), writeHbm]

theorem takeWrite_stepCfg (s : State) {n : Nat} (v w : Nat) (push : PushIn) (hn : n < 16) :
    takeWrite s (0x10038 + 0x1000 * n) v w push = putCtx s n { ctxAt s n with stepCfgNew := stepCfgMask v } := by
  rw [takeWrite_hst s v w push hn (by decide : 0x038 < 0x1000) (by omega), writeHst]

/-- The grant of a context is staged until its APPLY (R324, R437). -/
theorem takeWrite_grant (s : State) {n : Nat} (v w : Nat) (push : PushIn) (hn : n < 16) :
    takeWrite s (0x10010 + 0x1000 * n) v w push =
      putCtx s n { ctxAt s n with stg := { (ctxAt s n).stg with grant := v % 65536 } } := by
  rw [takeWrite_hst s v w push hn (by decide : 0x010 < 0x1000) (by omega)]
  simp only [writeHst, stageField]

/-- A GO written to SEC_RCV_CTRL starts a push, with PERSIST as the write says (R375). -/
theorem takeWrite_secGo (s : State) (v w : Nat) (push : PushIn) :
    takeWrite s 0x4020 v w push = if bitAt w 0 then startPush s (bitAt w 1) push.image push.flashOk else s := by
  simp [takeWrite, writeSec]

/-- The congestion thresholds written to MESH_THR wait in their staged fields (R437, R447). -/
theorem takeWrite_thresholds (s : State) (v w : Nat) (push : PushIn) :
    takeWrite s 0x30010 v w push =
      { s with mesh := { s.mesh with thrStaged := v % 128 + bits v 14 8 * 2 ^ 8 + bits v 22 16 * 2 ^ 16 } } := by
  simp [takeWrite, writeMesh]

/-- Each threshold field of the staged word is the one written. -/
theorem thresholds_fields (v : Nat) :
    let t := v % 128 + bits v 14 8 * 2 ^ 8 + bits v 22 16 * 2 ^ 16
    bits t 6 0 = bits v 6 0 ∧ bits t 14 8 = bits v 14 8 ∧ bits t 22 16 = bits v 22 16 := by
  simp only [bits, Nat.reduceAdd, Nat.reduceSub, Nat.reducePow]
  omega

section
variable {s : State} (v : W64) (push : PushIn) (hready : s.sup.phase = .ready) (hcopies : s.glb.disturbed = [])
include hready hcopies

theorem registerWrite_takes {o : Nat} {t : State} (ho : o % 8 = 0) (h : takeWrite s o v.toNat v.toNat push = t) :
    exec (.registerWrite o 8 v ⟨false, push⟩) s = .next t := by
  rw [registerWrite_whole v push hready ho, voteReg_of_undisturbed hcopies, h]

theorem registerWrite_goPersist (hgo : bitAt v.toNat 0 = true) (hpersist : bitAt v.toNat 1 = true) :
    exec (.registerWrite 0x4020 8 v ⟨false, push⟩) s = exec (.goPersist push.image push.flashOk) s := by
  rw [registerWrite_takes v push hready hcopies rfl (takeWrite_secGo s _ _ push), if_pos hgo, hpersist]
  simp [exec_goPersist, execGoPersist, secUp, hready]

theorem registerWrite_go (hgo : bitAt v.toNat 0 = true) (hpersist : bitAt v.toNat 1 = false) (hflash : push.flashOk = true) :
    exec (.registerWrite 0x4020 8 v ⟨false, push⟩) s = exec (.go push.image) s := by
  rw [registerWrite_takes v push hready hcopies rfl (takeWrite_secGo s _ _ push), if_pos hgo, hpersist, hflash]
  simp [exec_go, execGo, secUp, hready]

/-- The upper half of HST_IO_CFG (R324, R435). -/
theorem registerWrite_ioCfgUpper {n : Nat} (hn : n < 16) :
    exec (.registerWrite (0x10024 + 0x1000 * n) 4 v ⟨false, push⟩) s =
      .next (putCtx s n { ctxAt s n with stg := { (ctxAt s n).stg with
        ioCfg := (ctxAt s n).stg.ioCfg % 2 ^ 32 + v.toNat % 2 ^ 32 * 2 ^ 32 } }) := by
  have ho : 0x10020 + 0x1000 * n = 0x10000 + 0x1000 * n + 0x20 := by omega
  have hword : (ctxAt s n).stg.ioCfg % 2 ^ 32 + v.toNat % 2 ^ 32 * 2 ^ 32 < 2 ^ 64 := by omega
  rw [show 0x10024 + 0x1000 * n = 0x10020 + 0x1000 * n + 4 by omega,
    registerWrite_upper v push hready hcopies (by omega), takeWrite_hst s _ _ push hn (by omega) ho,
    barReg_hst s hn (by omega) ho]
  simp only [writeHst, hstReg, stageField, Nat.mod_eq_of_lt hword]

end

/-- A register whose copies disagree is corrected and counted before the write, which a read-only register ignores (R438). -/
theorem registerWrite_disturbed {s : State} (v : W64) (push : PushIn) (hready : s.sup.phase = .ready) (bad : Bool)
    (h : s.glb.disturbed = [(0x30018, bad)]) :
    ∃ t : State, exec (.registerWrite 0x30018 8 v ⟨false, push⟩) s = .next t ∧ t.glb.disturbed = [] ∧ t.mesh = s.mesh ∧
      (bad = false → t.glb.voteFix = (s.glb.voteFix + 1) % 2 ^ 64 ∧ t.glb.alert = s.glb.alert) ∧
      (bad = true → t.glb.voteFail = (s.glb.voteFail + 1) % 2 ^ 64 ∧ t.glb.alert = s.glb.alert ||| 16) := by
  refine ⟨voteReg s 0x30018, ?_, ?_⟩
  · rw [registerWrite_whole v push hready rfl, takeWrite_deaf _ _ _ _ (by decide)]
  · cases bad with
    | false => simp [voteReg_of_disturbed h]
    | true => simp [voteReg_of_lost h]

/-- The claim on posted writes: ignored, lost, taken, and taken after a correction. -/
theorem registerWrites : Claims.RegisterWrites := by
  intro s off size v push
  refine ⟨fun h busy => registerWrite_ignored v _ h, registerWrite_lost v push, fun hready hcopies => ?_,
    fun hready bad h => registerWrite_disturbed v push hready bad h⟩
  have takes {o : Nat} {t : State} := registerWrite_takes v push hready hcopies (o := o) (t := t)
  -- The registers at a fixed offset: `takeWrite` computes to the update of the field.
  refine ⟨takes rfl rfl, takes rfl rfl, takes rfl rfl, takes rfl rfl, takes rfl rfl, fun hgo => takes rfl ?_,
    registerWrite_goPersist v push hready hcopies, registerWrite_go v push hready hcopies,
    ⟨_, takes rfl (takeWrite_thresholds s _ _ push), rfl, thresholds_fields v.toNat⟩,
    fun n hn => ⟨takes (by omega) (takeWrite_drainLimit s _ _ push hn), takes (by omega) (takeWrite_srCfg s _ _ push hn),
      takes (by omega) (takeWrite_stepCfg s _ _ push hn), takes (by omega) (takeWrite_grant s _ _ push hn),
      registerWrite_ioCfgUpper v push hready hcopies hn⟩,
    fun o ho => ?_⟩
  · rw [takeWrite_secGo, hgo, if_neg Bool.false_ne_true]
  · obtain ⟨halign, hdeaf⟩ : o % 8 = 0 ∧ Deaf o := by
      revert o
      decide
    exact takes halign (takeWrite_deaf s _ _ push hdeaf)

/-! ### The core window (R444, R445) -/

theorem windowAccess_read {s : State} {o : Nat} (answers : Bool) (hlt : o < 0x10000) (ho : o % 8 = 0) :
    exec (.coreWindowAccess false o answers) s = .next (windowRead s o answers) := by
  simp [exec_coreWindowAccess, execCoreWindowAccess, ho, Nat.not_le.mpr hlt]

theorem windowAccess_write {s : State} {o : Nat} (hlt : o < 0x10000) (ho : o % 8 = 0) :
    exec (.coreWindowAccess true o true) s = .next (windowWrite s o) := by
  simp [exec_coreWindowAccess, execCoreWindowAccess, ho, Nat.not_le.mpr hlt]

/-- An access at another alignment writes nothing and reads zero (R435). -/
theorem windowAccess_misaligned (s : State) {o : Nat} (write answers : Bool) (ho : o % 8 ≠ 0) :
    exec (.coreWindowAccess write o answers) s = .next (if write then s else emit s (.regRead (0x100000 + o) 0)) := by
  simp [exec_coreWindowAccess, execCoreWindowAccess, ho]

theorem siteReg_writeOnly (s : State) (k : Nat) {o : Nat} (h8 : 8 ≤ o) (h30 : o < 0x30) : siteReg s k o = 0 := by
  unfold siteReg
  rw [if_neg (by omega), if_neg (by omega : ¬ o = 0), if_neg (by omega : ¬ (0x100 ≤ o ∧ o < 0x368)),
    if_neg (by omega : ¬ (0x400 ≤ o ∧ o < 0xB00)), if_neg (by omega : ¬ (0xB00 ≤ o ∧ o < 0xD00)), ite_self]

section
variable {s : State} (hready : s.sup.phase = .ready)
include hready

theorem withSite_outOfRange (h : nCores ≤ s.glb.winSel) (f : Nat → State) :
    withSite s f = { s with glb := { s.glb with winStatus := s.glb.winStatus ||| 2 } } := by
  simp [withSite, regsUp_of_ready hready, h]

theorem withSite_inRange (h : s.glb.winSel < nCores) (f : Nat → State) : withSite s f = f s.glb.winSel := by
  simp [withSite, regsUp_of_ready hready, Nat.not_le.mpr h]

theorem windowWrite_outOfRange (h : nCores ≤ s.glb.winSel) (o : Nat) :
    windowWrite s o = { s with glb := { s.glb with winStatus := s.glb.winStatus ||| 2 } } := by
  unfold windowWrite
  split <;> exact withSite_outOfRange hready h _

/-- A write at an offset that is not a SNAP register's. -/
theorem windowWrite_ignored (h : s.glb.winSel < nCores) {o : Nat} (ho : ¬ (8 ≤ o ∧ o < 0x30)) : windowWrite s o = s := by
  unfold windowWrite
  split
  case h_6 => exact withSite_inRange hready h _
  all_goals omega

theorem windowRead_outOfRange (h : nCores ≤ s.glb.winSel) (o : Nat) (answers : Bool) :
    windowRead s o answers =
      emit { s with glb := { s.glb with winStatus := s.glb.winStatus ||| 2 } } (.regRead (0x100000 + o) 0) := by
  simp [windowRead, regsUp_of_ready hready, h]

theorem windowRead_noResponse (h : s.glb.winSel < nCores) {answers : Bool} (o : Nat)
    (hnone : answers = false ∨ isGap s (dieOf s.glb.winSel) = true) :
    windowRead s o answers =
      emit { s with glb := { s.glb with winStatus := s.glb.winStatus ||| 1 } } (.regRead (0x100000 + o) (2 ^ 64 - 1)) := by
  simp [windowRead, regsUp_of_ready hready, Nat.not_le.mpr h, hnone]

theorem windowRead_answered (h : s.glb.winSel < nCores) (hgap : isGap s (dieOf s.glb.winSel) = false) {o : Nat}
    (hvote : o = 0 → s.glb.disturbed = []) :
    windowRead s o true = emit s (.regRead (0x100000 + o) (siteReg s s.glb.winSel o)) := by
  have hs : (if o = 0 then voteReg s 0x100000 else s) = s := by
    split
    case isTrue h0 => exact voteReg_of_undisturbed (hvote h0) _
    case isFalse => rfl
  simp [windowRead, regsUp_of_ready hready, Nat.not_le.mpr h, hgap, hs]

end

/-- The claim on the window: a site out of range, a site in range, another alignment. -/
theorem windowAccesses : Claims.WindowAccesses := by
  intro s o hready hlt ho k wr
  have read (a : Bool) := windowAccess_read (s := s) a hlt ho
  have write := windowAccess_write (s := s) hlt ho
  have snap {p : Nat} (hp : p < 0x10000) (h8 : p % 8 = 0) := windowAccess_write (s := s) hp h8
  refine ⟨fun hout => ⟨?_, ?_⟩, fun hin => ⟨fun hgap a => ?_, ?_, fun hgap hcopies => ?_, fun hgap h8 h30 => ?_,
    snap (by decide) rfl, snap (by decide) rfl, snap (by decide) rfl, snap (by decide) rfl, snap (by decide) rfl,
    fun hsnap => ?_⟩, windowAccess_misaligned s true true (by omega), windowAccess_misaligned s false true (by omega)⟩
  · rw [read, windowRead_outOfRange hready hout]
  · rw [write, windowWrite_outOfRange hready hout]
  · rw [read, windowRead_noResponse hready hin o (.inr hgap)]
  · rw [read, windowRead_noResponse hready hin o (.inl rfl)]
  · rw [read, windowRead_answered hready hin hgap (fun _ => hcopies)]
  · rw [read, windowRead_answered hready hin hgap (by omega), siteReg_writeOnly s _ h8 h30]
  · rw [write, windowWrite_ignored hready hin hsnap]

/-- Settles O54: the posted writes of BAR0 and the accesses through the core window. -/
theorem setUpRegisters : Obligations.SetUpRegisters := ⟨registerWrites, windowAccesses⟩

end Sys2Proof.Machine

/-! PROOFS. What the shared operations leave: changes made to every unit of a list, message records and the replacement flag,
stacks that are withdrawn, and cores that are out of service. -/

namespace Sys2Proof.Machine

/-! ### Changes made to every unit of a list -/

@[simp] theorem forEach_nil {α : Type} (f : State → α → State) (s : State) : forEach [] f s = s := rfl

@[simp] theorem forEach_cons {α : Type} (a : α) (l : List α) (f : State → α → State) (s : State) :
    forEach (a :: l) f s = forEach l f (f s a) := rfl

/-- What every single change keeps, the changes of a list keep. -/
theorem forEach_keeps {α β : Type} (g : State → β) {l : List α} {f : State → α → State} (h : ∀ s, ∀ a ∈ l, g (f s a) = g s)
    (s : State) : g (forEach l f s) = g s := by
  induction l generalizing s with
  | nil => rfl
  | cons a l ih => exact (ih (fun s b hb => h s b (.tail _ hb)) _).trans (h s a (.head _))

/-- A property that every single change keeps holds after the changes of a list. -/
theorem forEach_holds {α : Type} {P : State → Prop} {l : List α} {f : State → α → State} (h : ∀ s, ∀ a ∈ l, P s → P (f s a))
    {s : State} (hs : P s) : P (forEach l f s) := by
  induction l generalizing s with
  | nil => exact hs
  | cons a l ih => exact ih (fun s b hb => h s b (.tail _ hb)) (h s a (.head _) hs)

/-- A property that the change of a unit brings about, and that the changes of the others keep, holds for each unit of the list. -/
theorem forEach_all {α : Type} {Q : α → State → Prop} {l : List α} {f : State → α → State} (made : ∀ s, ∀ a ∈ l, Q a (f s a))
    (kept : ∀ s a, ∀ b ∈ l, Q a s → Q a (f s b)) (s : State) : ∀ a ∈ l, Q a (forEach l f s) := by
  induction l generalizing s with
  | nil => simp
  | cons b l ih =>
    intro a ha
    obtain rfl | hl := List.mem_cons.1 ha
    · exact forEach_holds (fun s c hc => kept s a c (.tail _ hc)) (made s a (.head _))
    · exact ih (fun s c hc => made s c (.tail _ hc)) (fun s a c hc => kept s a c (.tail _ hc)) _ a hl

/-! ### Message records and the replacement flag (R33, R343 to R346, R443) -/

/-- A state but for what a message record, an event or the replacement flag changes: the contexts, the free values, the alerts. -/
def unrecorded (s : State) : State := { s with ctxs := [], free := 0, glb := { s.glb with alert := 0 } }

theorem evalReplace_unrecorded (s : State) (n : Nat) : unrecorded (evalReplace s n) = unrecorded s := by
  unfold evalReplace
  split
  · rfl
  · dsimp only
    split
    · rfl
    · split <;> rfl

theorem evalReplaceAll_unrecorded (s : State) : unrecorded (evalReplaceAll s) = unrecorded s :=
  forEach_keeps unrecorded (fun s n _ => evalReplace_unrecorded s n) s

section
variable {s t : State} (h : unrecorded t = unrecorded s)
include h

theorem cores_of_unrecorded : t.cores = s.cores := (congrArg State.cores h :)
theorem basins_of_unrecorded : t.basins = s.basins := (congrArg State.basins h :)
theorem dies_of_unrecorded : t.dies = s.dies := (congrArg State.dies h :)
theorem tst_of_unrecorded : t.tst = s.tst := (congrArg State.tst h :)
theorem heal_of_unrecorded : t.heal = s.heal := (congrArg State.heal h :)

end

@[simp] theorem evalReplaceAll_cores (s : State) : (evalReplaceAll s).cores = s.cores :=
  cores_of_unrecorded (evalReplaceAll_unrecorded s)
@[simp] theorem evalReplaceAll_basins (s : State) : (evalReplaceAll s).basins = s.basins :=
  basins_of_unrecorded (evalReplaceAll_unrecorded s)
@[simp] theorem evalReplaceAll_dies (s : State) : (evalReplaceAll s).dies = s.dies :=
  dies_of_unrecorded (evalReplaceAll_unrecorded s)
@[simp] theorem evalReplaceAll_tst (s : State) : (evalReplaceAll s).tst = s.tst :=
  tst_of_unrecorded (evalReplaceAll_unrecorded s)
@[simp] theorem evalReplaceAll_heal (s : State) : (evalReplaceAll s).heal = s.heal :=
  heal_of_unrecorded (evalReplaceAll_unrecorded s)

theorem noticeTo_unrecorded (s : State) (n k reason : Nat) (es : List (List Byte)) :
    unrecorded (noticeTo s n k reason es) = unrecorded s := by
  unfold noticeTo
  split <;> rfl

theorem noticeFor_unrecorded (s : State) (k reason flags : Nat) : unrecorded (noticeFor s k reason flags) = unrecorded s :=
  forEach_keeps unrecorded (fun s n _ => noticeTo_unrecorded s n k reason _) s

@[simp] theorem noticeFor_cores (s : State) (k reason flags : Nat) : (noticeFor s k reason flags).cores = s.cores :=
  cores_of_unrecorded (noticeFor_unrecorded s k reason flags)
@[simp] theorem noticeFor_basins (s : State) (k reason flags : Nat) : (noticeFor s k reason flags).basins = s.basins :=
  basins_of_unrecorded (noticeFor_unrecorded s k reason flags)
@[simp] theorem noticeFor_tst (s : State) (k reason flags : Nat) : (noticeFor s k reason flags).tst = s.tst :=
  tst_of_unrecorded (noticeFor_unrecorded s k reason flags)
@[simp] theorem noticeFor_heal (s : State) (k reason flags : Nat) : (noticeFor s k reason flags).heal = s.heal :=
  heal_of_unrecorded (noticeFor_unrecorded s k reason flags)

/-! ### A stack withdrawn (R271, R410 to R412) -/

/-- A state but for what the withdrawal of a stack changes: message records and alerts, the stacks and the TST_ counters. -/
def unstacked (s : State) : State := { unrecorded s with hbms := [], tst := {} }

theorem loseSessions_unstacked (s : State) (n b : Nat) (ids : List Nat) : unstacked (loseSessions s n b ids) = unstacked s := by
  unfold loseSessions
  split
  · rfl
  · exact forEach_keeps unstacked (f := fun s i => postMsg s n _) (fun _ _ _ => rfl) _

theorem withdrawPages_unstacked (s : State) (n b : Nat) : unstacked (withdrawPages s n b) = unstacked s := by
  refine (loseSessions_unstacked _ n b _).trans (forEach_keeps unstacked (fun s e _ => ?_) s)
  split <;> rfl

theorem withdrawStack_unstacked (s : State) (b : Nat) : unstacked (withdrawStack s b) = unstacked s := by
  unfold withdrawStack
  split
  · rfl
  · dsimp only
    split
    · rfl
    · exact withdrawPages_unstacked _ _ b

/-! ### Cores out of service (R24) -/

/-- A core that is not good in the one state is in the same state of R24 in the other. -/
def StaysOut (s t : State) : Prop := ∀ k, (coreAt s k).st.good = false → (coreAt t k).st = (coreAt s k).st

theorem StaysOut.of_cores {s t : State} (h : t.cores = s.cores) : StaysOut s t := fun k _ => by simp [coreAt, h]

theorem StaysOut.refl (s : State) : StaysOut s s := .of_cores rfl

theorem StaysOut.trans {s t u : State} (h : StaysOut s t) (g : StaysOut t u) : StaysOut s u := fun k hk => by
  rw [g k (by rw [h k hk]; exact hk), h k hk]

theorem StaysOut.good {s t : State} (h : StaysOut s t) {k : Nat} (hk : (coreAt s k).st.good = false) :
    (coreAt t k).st.good = false := by
  rw [h k hk]
  exact hk

/-- A core replaced by one in the same state of R24, or a good one replaced. -/
theorem putCore_staysOut (s : State) (j : Nat) (c : Core) (h : (coreAt s j).st.good = false → c.st = (coreAt s j).st) :
    StaysOut s (putCore s j c) := fun k hk => by
  by_cases hj : k = j
  · subst hj
    rw [coreAt_putCore, h hk]
  · rw [coreAt_putCore_ne s c hj]

theorem forEach_staysOut {α : Type} {l : List α} {f : State → α → State} (h : ∀ s, ∀ a ∈ l, StaysOut s (f s a)) (s : State) :
    StaysOut s (forEach l f s) :=
  forEach_holds (P := StaysOut s) (fun t a ha ht => ht.trans (h t a ha)) (.refl s)

theorem fenceCore_staysOut (s : State) (k : Nat) : StaysOut s (fenceCore s k) := by
  unfold fenceCore
  split
  case h_1 | h_2 | h_3 => exact .refl s
  case h_4 h | h_5 h => exact putCore_staysOut s k _ (by simp [h, CoreSt.good])
  case h_6 h => exact (putCore_staysOut s k _ (by simp [h, CoreSt.good])).trans (.of_cores rfl)

/-- A core that has been fenced is not good (R24). -/
theorem fenceCore_out (s : State) (k : Nat) : (coreAt (fenceCore s k) k).st.good = false := by
  unfold fenceCore
  split
  case h_1 h | h_2 h | h_3 h => simp [h, CoreSt.good]
  case h_4 | h_5 | h_6 => simp [CoreSt.good]

/-- A state but for what the fencing of cores changes: the cores, and the tests of their basins. -/
def unfenced (s : State) : State := { s with cores := [], basins := [] }

theorem fenceCore_unfenced (s : State) (k : Nat) : unfenced (fenceCore s k) = unfenced s := by
  unfold fenceCore
  split <;> rfl

theorem fenceDie_unfenced (s : State) (d : Nat) : unfenced (fenceDie s d) = unfenced s :=
  forEach_keeps unfenced (fun s k _ => fenceCore_unfenced s k) s

theorem fenceDie_staysOut (s : State) (d : Nat) : StaysOut s (fenceDie s d) :=
  forEach_staysOut (fun s k _ => fenceCore_staysOut s k) s

/-- None of the cores of a fenced die is good any more (R25). -/
theorem fenceDie_out (s : State) (d : Nat) : ∀ k ∈ coresOfDie d, (coreAt (fenceDie s d) k).st.good = false := by
  unfold fenceDie
  generalize coresOfDie d = l
  exact forEach_all (Q := fun k s => (coreAt s k).st.good = false) (fun s k _ => fenceCore_out s k)
    (fun s _ j _ hk => (fenceCore_staysOut s j).good hk) s

/-- A state but for what the retirement of a die or a core changes: cores, basins, dies, TST_ counters, the ledger's requests and
message records. -/
def unretired (s : State) : State := { unfenced (unrecorded s) with dies := [], tst := {}, heal := {} }

theorem unretired_of_unrecorded {s t : State} (h : unrecorded t = unrecorded s) : unretired t = unretired s :=
  (congrArg (fun u : State => { unfenced u with dies := [], tst := {}, heal := {} }) h :)

theorem unretired_of_unfenced {s t : State} (h : unfenced t = unfenced s) : unretired t = unretired s :=
  (congrArg (fun u : State => { unrecorded u with dies := [], tst := {}, heal := {} }) h :)

theorem mesh_of_unretired {s t : State} (h : unretired t = unretired s) : t.mesh = s.mesh := (congrArg State.mesh h :)

theorem dies_of_unfenced {s t : State} (h : unfenced t = unfenced s) : t.dies = s.dies := (congrArg State.dies h :)

section
variable (s : State) (d reason : Nat) (cmd : Option (Nat × Nat × Nat × Bool × Nat))

theorem retireDie_unretired : unretired (retireDie s d reason cmd) = unretired s := by
  have hfence := unretired_of_unfenced (fenceDie_unfenced (putDie s d { dieAt s d with retired := true }) d)
  unfold retireDie
  generalize fenceDie (putDie s d { dieAt s d with retired := true }) d = t at hfence
  exact (unretired_of_unrecorded (evalReplaceAll_unrecorded _)).trans hfence

@[simp] theorem retireDie_dies : (retireDie s d reason cmd).dies = tabSet s.dies d { dieAt s d with retired := true } := by
  have hfence := dies_of_unfenced (fenceDie_unfenced (putDie s d { dieAt s d with retired := true }) d)
  unfold retireDie
  generalize fenceDie (putDie s d { dieAt s d with retired := true }) d = t at hfence
  exact (evalReplaceAll_dies _).trans hfence

theorem retireDie_cores :
    (retireDie s d reason cmd).cores = (fenceDie (putDie s d { dieAt s d with retired := true }) d).cores := by
  unfold retireDie
  generalize fenceDie (putDie s d { dieAt s d with retired := true }) d = t
  exact evalReplaceAll_cores _

theorem retireDie_staysOut : StaysOut s (retireDie s d reason cmd) :=
  (fenceDie_staysOut (putDie s d _) d).trans (.of_cores (retireDie_cores s d reason cmd))

theorem retireDie_out : ∀ k ∈ coresOfDie d, (coreAt (retireDie s d reason cmd) k).st.good = false := fun k hk =>
  (StaysOut.of_cores (retireDie_cores s d reason cmd)).good (fenceDie_out _ d k hk)

end

/-! ### A core retired (R30, R384, R415) -/

section
variable (s : State) (k reason : Nat) (cmd : Option (Nat × Nat × Nat × Bool × Nat))

@[simp] theorem retireCore_cores : (retireCore s k reason cmd).cores = tabSet s.cores k { coreAt s k with st := .fenced } := by
  unfold retireCore
  rw [evalReplaceAll_cores]
  rfl

@[simp] theorem retireCore_basins : (retireCore s k reason cmd).basins = s.basins := by
  unfold retireCore
  rw [evalReplaceAll_basins]
  rfl

@[simp] theorem retireCore_tst : (retireCore s k reason cmd).tst = { s.tst with ctr := bump s.tst.ctr 18 1 } := by
  unfold retireCore
  rw [evalReplaceAll_tst]
  rfl

@[simp] theorem retireCore_heal : (retireCore s k reason cmd).heal = { s.heal with ledgerQ := s.heal.ledgerQ ++
    [{ type := 1, reason := reason, target := k, detail := 0, cmd := cmd }] } := by
  unfold retireCore
  rw [evalReplaceAll_heal]
  rfl

theorem coreAt_retireCore : coreAt (retireCore s k reason cmd) k = { coreAt s k with st := .fenced } := by
  rw [coreAt, retireCore_cores, tabGet_tabSet_self]

theorem coreAt_retireCore_ne {j : Nat} (h : j ≠ k) : coreAt (retireCore s k reason cmd) j = coreAt s j := by
  rw [coreAt, retireCore_cores, tabGet_tabSet_ne _ _ _ h, coreAt]

theorem retireCore_unretired : unretired (retireCore s k reason cmd) = unretired s := by
  unfold retireCore
  rw [unretired_of_unrecorded (evalReplaceAll_unrecorded _)]
  rfl

end

end Sys2Proof.Machine

/-! PROOFS. Contributions that merge in the mesh, and die stacks that become hard gaps (O30). -/

namespace Sys2Proof.Machine

theorem exec_packetHop (id : Nat) (d : Dir) (s : State) : exec (.packetHop id d) s = execPacketHop id d s := rfl

theorem exec_hardGap (d : Nat) (reason : Gapping Nat) (s : State) : exec (.hardGap d reason) s = execHardGap d reason s := rfl

theorem exec_linkFailure (k : Nat) (dir : Gapping Dir) (s : State) : exec (.linkFailure k dir) s = execLinkFailure k dir s := rfl

/-! ### Values of 16 bytes (R7, R72) -/

theorem leBytes_length (n v : Nat) : (leBytes n v).length = n := by
  induction n generalizing v with
  | zero => rfl
  | succ n ih => simp [leBytes, ih]

theorem leNat_leBytes (n v : Nat) : leNat (leBytes n v) = v % 256 ^ n := by
  induction n generalizing v with
  | zero => simp [leBytes, leNat, Nat.mod_one]
  | succ n ih =>
    have hsplit : v % 256 ^ (n + 1) = v % 256 + 256 * (v / 256 % 256 ^ n) := by rw [Nat.pow_succ', Nat.mod_mul]
    rw [leBytes, leNat, ih, BitVec.toNat_ofNat, hsplit]

/-- The stored form of a value fits its 16 bytes (R72). -/
theorem esfPack_lt (v : Esf) : esfPack v < 256 ^ 16 := by
  have hw := v.w.isLt
  have hflag (b : Bool) : b2n b ≤ 1 := by cases b <;> decide
  have hsat := hflag v.sat
  have hinvalid := hflag v.invalid
  have hpoison := hflag v.poison
  unfold esfPack
  omega

/-- Values stored one after another are the values read. -/
theorem vals16_flatMap (vs : List Nat) (rest : List Byte) (h : ∀ v ∈ vs, v < 256 ^ 16) :
    vals16 vs.length (vs.flatMap (leBytes 16) ++ rest) = vs := by
  induction vs with
  | nil => rfl
  | cons v vs ih =>
    have hhead : (leBytes 16 v).length = 16 := leBytes_length 16 v
    have htail := ih fun u hu => h u (.tail _ hu)
    unfold vals16 at htail ⊢
    rw [List.length_cons, List.range_succ_eq_map, List.map_cons, List.map_map, List.flatMap_cons, List.append_assoc]
    refine congrArg₂ List.cons ?_ ?_
    · rw [Nat.mul_zero, List.drop_zero, List.take_append_of_le_length (by omega), List.take_of_length_le (by omega),
        leNat_leBytes, Nat.mod_eq_of_lt (h v (.head _))]
    · refine Eq.trans (List.map_congr_left fun i _ => ?_) htail
      rw [Function.comp, show 16 * i.succ = (leBytes 16 v).length + 16 * i by omega, List.drop_length_add_append]

theorem fitBytes_of_le {n : Nat} {l : List Byte} (h : l.length ≤ n) : ∃ pad, fitBytes n l = l ++ pad := by
  refine ⟨(List.replicate n 0).take (n - l.length), ?_⟩
  rw [fitBytes, List.take_append, List.take_of_length_le h]

/-- Values stored with room for all of them are read back. -/
theorem vals16_fitBytes (vs : List Nat) {n : Nat} (hn : 16 * vs.length ≤ n) (h : ∀ v ∈ vs, v < 256 ^ 16) :
    vals16 vs.length (fitBytes n (vs.flatMap (leBytes 16))) = vs := by
  have hlen : (vs.flatMap (leBytes 16)).length = 16 * vs.length := by
    simp [List.length_flatMap, leBytes_length, Nat.mul_comm]
  obtain ⟨pad, hpad⟩ := fitBytes_of_le (hlen.le.trans hn)
  rw [hpad, vals16_flatMap vs pad h]

theorem vals16_length (n : Nat) (l : List Byte) : (vals16 n l).length = n := by simp [vals16]

/-! ### Contributions that merge (R75, R237) -/

/-- The sum of two values, as they are stored (R75). -/
def addStored (v : Nat × Nat) : Nat := esfPack (esfAdd (esfUnpack v.1) (esfUnpack v.2))

/-- Equally many values are added in pairs. -/
theorem addVals_eq_zip (l m : List Nat) (h : l.length = m.length) : addVals l m = (l.zip m).map addStored := by
  induction l generalizing m with
  | nil =>
    cases m with
    | nil => rfl
    | cons b m => simp at h
  | cons a l ih =>
    cases m with
    | nil => simp at h
    | cons b m => exact congrArg (addStored (a, b) :: ·) (ih m (by simpa using h))

theorem mergePkt_values {p q : Pkt} {n : Nat} (hp : p.len = 16 * n) (hq : q.len = 16 * n) :
    (mergePkt p q).len = 16 * n ∧ vals16 n (mergePkt p q).data = ((vals16 n p.data).zip (vals16 n q.data)).map addStored := by
  have hadd : addVals (vals16 (p.len / 16) p.data) (vals16 (q.len / 16) q.data) =
      ((vals16 n p.data).zip (vals16 n q.data)).map addStored := by
    rw [hp, hq, Nat.mul_div_cancel_left n (by decide : 0 < 16)]
    exact addVals_eq_zip _ _ (by simp [vals16_length])
  have hlen : (((vals16 n p.data).zip (vals16 n q.data)).map addStored).length = n := by simp [vals16_length]
  have hroom : 16 * n ≤ 64 * ceilDiv (16 * n) 64 := by unfold ceilDiv; omega
  have hstored : ∀ v ∈ ((vals16 n p.data).zip (vals16 n q.data)).map addStored, v < 256 ^ 16 := by
    intro v hv
    obtain ⟨w, -, rfl⟩ := List.mem_map.1 hv
    exact esfPack_lt _
  unfold mergePkt
  dsimp only
  rw [hadd]
  generalize ((vals16 n p.data).zip (vals16 n q.data)).map addStored = vs at hlen hstored
  subst hlen
  exact ⟨rfl, vals16_fitBytes vs hroom hstored⟩

/-- The output of a packet in the col, or on a multicast line, depends on nothing in the mesh but the tables (R226, R234). -/
theorem wantsOut_of_tables {s t : State} {p m : Pkt} (hvc : p.vc = 4) (h0 : t.mesh.gaps0 = s.mesh.gaps0)
    (h1 : t.mesh.gaps1 = s.mesh.gaps1)
    (hm : m.vc = p.vc ∧ m.line = p.line ∧ m.at_ = p.at_ ∧ m.dstCore = p.dstCore ∧ m.epoch = p.epoch) :
    wantsOut t m = wantsOut s p := by
  obtain ⟨hmvc, hline, hat, hdst, hepoch⟩ := hm
  simp [wantsOut, gapsOf, hmvc, hvc, hline, hat, hdst, hepoch, h0, h1]

/-- A packet does not move in a direction that its router does not take. -/
theorem hopPkt_other {s : State} {p : Pkt} {dir : Dir} (h : wantsOut s p ≠ some (dirNo dir)) : hopPkt s p dir = s := by
  unfold hopPkt
  split
  · rfl
  · rw [if_pos h]

theorem tryMerge_found {s : State} {p q : Pkt} (hkind : p.kind = 7) (hq : s.mesh.net.find? (mayMerge s p) = some q) :
    tryMerge s p = (putPkt (bumpRouter (discardAt s p.at_ q) p.at_ 61 1) (mergePkt p q), mergePkt p q) := by
  unfold tryMerge
  rw [if_neg (not_not.2 hkind), hq]

theorem packetHop_merges {s : State} {p : Pkt} (dir : Dir) (hp : s.mesh.net.find? (fun x => x.id == p.id) = some p)
    (hhdr : hdrBad p = false) (hforward : p.mc.length ≤ 1 → forwardTo s p.at_ p.dstCore = none) :
    exec (.packetHop p.id dir) s = .next (hopPkt (tryMerge s p).1 (tryMerge s p).2 dir) := by
  have hnone : (if p.mc.length ≤ 1 then forwardTo s p.at_ p.dstCore else none) = none := by
    split
    · exact hforward ‹_›
    · rfl
  simp [exec_packetHop, execPacketHop, hp, hhdr, hnone]

/-- The claim on merging: the two packets are one. -/
theorem contributionsMerge : Claims.ContributionsMerge := by
  intro s p q d n hnet hid hhdr hkind hvc hforward hmay hdir hplen hqlen
  have hself : mayMerge s p p = false := by simp [mayMerge]
  have hfindp : s.mesh.net.find? (fun x => x.id == p.id) = some p := by simp [hnet]
  have hfindq : s.mesh.net.find? (mayMerge s p) = some q := by simp [hnet, hself, hmay]
  obtain ⟨hlen, hvals⟩ := mergePkt_values hplen hqlen
  have hwants := wantsOut_of_tables (s := s) (t := putPkt (bumpRouter (discardAt s p.at_ q) p.at_ 61 1) (mergePkt p q))
    (m := mergePkt p q) hvc rfl rfl ⟨rfl, rfl, rfl, rfl, rfl⟩
  refine ⟨_, mergePkt p q, packetHop_merges d hfindp hhdr hforward, ?_, rfl, rfl, rfl, rfl, rfl, hlen, hvals⟩
  rw [tryMerge_found hkind hfindq, hopPkt_other]
  · have hid' : (mergePkt p q).id = p.id := rfl
    simp [putPkt, discardAt, countEj, hnet, hid, hid', bumpRouter]
  · exact fun h => hdir (hwants.symm.trans h)


/-! ### Die stacks that become hard gaps (R13, R25, R219, R223, R226, R227) -/

/-- What the resets and the withdrawal that follow on a gap leave as it was: the dies, the packets in the mesh, and the cores that
are out of service. -/
structure Aftermath (s t : State) : Prop where
  dies : t.dies = s.dies
  net : t.mesh.net = s.mesh.net
  stays : StaysOut s t

theorem Aftermath.of_eq {s t : State} (hdies : t.dies = s.dies) (hmesh : t.mesh = s.mesh) (hcores : t.cores = s.cores) :
    Aftermath s t :=
  ⟨hdies, congrArg Mesh.net hmesh, .of_cores hcores⟩

theorem Aftermath.refl (s : State) : Aftermath s s := .of_eq rfl rfl rfl

theorem Aftermath.trans {s t u : State} (h : Aftermath s t) (g : Aftermath t u) : Aftermath s u :=
  ⟨g.dies.trans h.dies, g.net.trans h.net, h.stays.trans g.stays⟩

theorem forEach_aftermath {α : Type} {l : List α} {f : State → α → State} (h : ∀ s a, Aftermath s (f s a)) (s : State) :
    Aftermath s (forEach l f s) :=
  forEach_holds (P := Aftermath s) (fun t a _ ht => ht.trans (h t a)) (.refl s)

theorem putCore_aftermath (s : State) (k : Nat) (c : Core) (h : c.st = (coreAt s k).st) : Aftermath s (putCore s k c) :=
  ⟨rfl, rfl, putCore_staysOut s k c fun _ => h⟩

theorem putBasin_aftermath (s : State) (b : Nat) (x : Basin) : Aftermath s (putBasin s b x) := .of_eq rfl rfl rfl

theorem putHbm_aftermath (s : State) (b : Nat) (x : Hbm) : Aftermath s (putHbm s b x) := .of_eq rfl rfl rfl

theorem enterReset_aftermath (s : State) (b : Nat) : Aftermath s (enterReset s b) := by
  have hheld (l : List Nat) : Aftermath s (forEach l (fun s k => putCore s k { coreAt s k with held := true }) s) := by
    refine forEach_aftermath (fun s k => ?_) s
    exact putCore_aftermath s k _ rfl
  exact (hheld (coresOfBasin b)).trans ((putHbm_aftermath _ b _).trans (putBasin_aftermath _ b _))

theorem triggerReset_aftermath (s : State) (n : Nat) (set : List Nat) (trig slot : Nat) (drain : Bool) :
    Aftermath s (triggerReset s n set trig slot drain) := by
  unfold triggerReset
  dsimp only
  cases s.rst.cur with
  | none => exact .of_eq rfl rfl rfl
  | some r =>
    by_cases hjoin : r.ctx = n ∧ r.stage ≠ .ready
    · by_cases hcollect : r.stage = .collect
      · simp only [if_pos hjoin, if_pos hcollect]
        refine Aftermath.trans ?_ (forEach_aftermath enterReset_aftermath _)
        exact .of_eq rfl rfl rfl
      · simp only [if_pos hjoin, if_neg hcollect]
        exact .of_eq rfl rfl rfl
    · simp only [if_neg hjoin]
      exact .of_eq rfl rfl rfl

theorem gapLoss_aftermath (s : State) (d count : Nat) (sets : Nat → List Nat) : Aftermath s (gapLoss s d count sets) := by
  refine forEach_aftermath (fun s n => ?_) s
  split
  · exact .refl s
  · refine Aftermath.trans ?_ (triggerReset_aftermath _ n _ _ _ false)
    exact .of_eq rfl rfl rfl

theorem aftermath_of_unstacked {s t : State} (h : unstacked t = unstacked s) : Aftermath s t :=
  .of_eq (congrArg State.dies h :) (congrArg State.mesh h :) (congrArg State.cores h :)

/-- What holds once a die stack has become a hard gap. -/
structure GapTaken (s t : State) (d reason : Nat) : Prop where
  gap : (dieAt t d).gapReason = reason
  retired : (dieAt t d).retired = true
  others : ∀ e, e ≠ d → dieAt t e = dieAt s e
  out : ∀ k ∈ coresOfDie d, (coreAt t k).st.good = false
  stays : StaysOut s t
  net : ∀ p ∈ t.mesh.net, p ∈ s.mesh.net ∧ dieOf p.at_ ≠ d

theorem GapTaken.aftermath {s t u : State} {d reason : Nat} (h : GapTaken s t d reason) (g : Aftermath t u) :
    GapTaken s u d reason := by
  have hdie (e : Nat) : dieAt u e = dieAt t e := by simp [dieAt, g.dies]
  exact {
    gap := by rw [hdie, h.gap]
    retired := by rw [hdie, h.retired]
    others := fun e he => by rw [hdie, h.others e he]
    out := fun k hk => g.stays.good (h.out k hk)
    stays := h.stays.trans g.stays
    net := fun p hp => h.net p (g.net ▸ hp) }

/-- A state but for the packets in the mesh and the routers. -/
def unpacked (s : State) : State := { s with routers := [], mesh := { s.mesh with net := [] } }

theorem forEach_discardAt_unpacked (l : List Pkt) (s : State) :
    unpacked (forEach l (fun s p => discardAt s p.at_ p) s) = unpacked s := by
  refine forEach_keeps unpacked (fun s p _ => ?_) s
  rfl

theorem forEach_discardAt_net (l : List Pkt) (s : State) :
    ∀ p ∈ (forEach l (fun s p => discardAt s p.at_ p) s).mesh.net, p ∈ s.mesh.net ∧ ∀ q ∈ l, p.id ≠ q.id := by
  induction l generalizing s with
  | nil => simp
  | cons q l ih =>
    intro p hp
    obtain ⟨hmem, hne⟩ := ih (discardAt s q.at_ q) p hp
    have hkept : p ∈ s.mesh.net.filter (fun x => x.id != q.id) := hmem
    obtain ⟨hold, hid⟩ := List.mem_filter.1 hkept
    refine ⟨hold, fun x hx => ?_⟩
    obtain rfl | hx := List.mem_cons.1 hx
    · exact bne_iff_ne.1 hid
    · exact hne x hx

theorem gapOne_of_gap {s : State} {d : Nat} (reason : Nat) (h : isGap s d = true) : gapOne s d reason = s := by
  simp [gapOne, h]

/-- A die stack in service, taken out with a reason. -/
theorem gapOne_taken {s : State} {d : Nat} (reason : Nat) (h : isGap s d = false) : GapTaken s (gapOne s d reason) d reason := by
  unfold gapOne
  rw [if_neg (by simp [h])]
  dsimp only
  refine GapTaken.aftermath ?_ (gapLoss_aftermath _ _ _ _)
  have hunpacked := forEach_discardAt_unpacked (s.mesh.net.filter (fun p => dieOf p.at_ == d))
    (putDie s d { dieAt s d with gapReason := reason, baseOk := false })
  have hnet := forEach_discardAt_net (s.mesh.net.filter (fun p => dieOf p.at_ == d))
    (putDie s d { dieAt s d with gapReason := reason, baseOk := false })
  generalize forEach (s.mesh.net.filter (fun p => dieOf p.at_ == d)) (fun s p => discardAt s p.at_ p)
    (putDie s d { dieAt s d with gapReason := reason, baseOk := false }) = t at hunpacked hnet
  have hdies : t.dies = tabSet s.dies d { dieAt s d with gapReason := reason, baseOk := false } :=
    (congrArg State.dies hunpacked :)
  have hcores : t.cores = s.cores := (congrArg State.cores hunpacked :)
  generalize hu : ({ t with mesh := _ } : State) = u
  have hudies : u.dies = t.dies := by rw [← hu]
  have hucores : u.cores = s.cores := by rw [← hu, ← hcores]
  have hunet : u.mesh.net = t.mesh.net := by rw [← hu]
  have hretire : GapTaken s (retireDie u d reason none) d reason := {
    gap := by simp [dieAt, hudies, hdies]
    retired := by simp [dieAt]
    others := fun e he => by simp [dieAt, hudies, hdies, tabGet_tabSet_ne _ _ _ he]
    out := retireDie_out u d reason none
    stays := (StaysOut.of_cores hucores).trans (retireDie_staysOut u d reason none)
    net := fun p hp => by
      have hmesh : (retireDie u d reason none).mesh = u.mesh := mesh_of_unretired (retireDie_unretired u d reason none)
      rw [hmesh, hunet] at hp
      obtain ⟨hold, hne⟩ := hnet p hp
      exact ⟨hold, fun hd => hne p (List.mem_filter.2 ⟨hold, by simp [hd]⟩) rfl⟩ }
  split
  · exact hretire.aftermath ((putBasin_aftermath _ _ _).trans (aftermath_of_unstacked (withdrawStack_unstacked _ _)))
  · exact hretire

/-- A stack that is a gap stays one with its reason when another is taken out, and its cores stay out of service. -/
theorem gapOne_keeps (s : State) (e reason : Nat) :
    StaysOut s (gapOne s e reason) ∧ (∀ p ∈ (gapOne s e reason).mesh.net, p ∈ s.mesh.net) ∧
      ∀ d, d ≠ e ∨ isGap s d = true → dieAt (gapOne s e reason) d = dieAt s d := by
  cases h : isGap s e with
  | true => rw [gapOne_of_gap reason h]; exact ⟨.refl s, fun _ hp => hp, fun _ _ => rfl⟩
  | false =>
    have ht := gapOne_taken reason h
    refine ⟨ht.stays, fun p hp => (ht.net p hp).1, fun d hd => ht.others d ?_⟩
    rintro rfl
    simp [h] at hd

theorem gapOne_isGap (s : State) {e reason : Nat} (hr : reason ≠ 0) : isGap (gapOne s e reason) e = true := by
  cases h : isGap s e with
  | true => rw [gapOne_of_gap reason h, h]
  | false => simp [isGap, (gapOne_taken reason h).gap, hr]

theorem isGap_gapOne {s : State} {d : Nat} (e reason : Nat) (h : isGap s d = true) : isGap (gapOne s e reason) d = true := by
  obtain ⟨-, -, hdie⟩ := gapOne_keeps s e reason
  rw [isGap, hdie d (.inr h)]
  exact h

/-- What the claim says of a stack that becomes a gap. -/
theorem makeGap_taken {s : State} {d r : Nat} (cut : List Nat) (hgap : isGap s d = false) (hr : r = 5 ∨ r = 6) :
    let t := makeGap s d r cut
    (dieAt t d).gapReason = r ∧ (dieAt t d).retired = true ∧
      (∀ e, e ≠ d → e ∉ cut → (dieAt t e).gapReason = (dieAt s e).gapReason) ∧ (∀ e ∈ cut, e < 64 → isGap t e = true) ∧
      (∀ k ∈ coresOfDie d, (coreAt t k).st.good = false) ∧ (∀ p ∈ t.mesh.net, dieOf p.at_ ≠ d) := by
  have htaken := gapOne_taken r hgap
  have hisgap : isGap (gapOne s d r) d = true := gapOne_isGap s (by omega)
  unfold makeGap
  generalize gapOne s d r = u at htaken hisgap
  have hkept : let t := forEach (cut.filter (fun e => decide (e < 64))) (fun s e => gapOne s e 5) u
      isGap t d = true ∧ StaysOut u t ∧ (∀ p ∈ t.mesh.net, p ∈ u.mesh.net) ∧
        ∀ e, e = d ∨ e ∉ cut → dieAt t e = dieAt u e := by
    refine forEach_holds (P := fun t => isGap t d = true ∧ StaysOut u t ∧ (∀ p ∈ t.mesh.net, p ∈ u.mesh.net) ∧
      ∀ e, e = d ∨ e ∉ cut → dieAt t e = dieAt u e) (fun t a ha ⟨hg, hst, hnet, hdie⟩ => ?_)
      ⟨hisgap, .refl u, fun _ hp => hp, fun _ _ => rfl⟩
    obtain ⟨hstays, hsub, hother⟩ := gapOne_keeps t a 5
    refine ⟨isGap_gapOne a 5 hg, hst.trans hstays, fun p hp => hnet p (hsub p hp), fun e he => ?_⟩
    rw [hother e, hdie e he]
    obtain rfl | he := he
    · exact .inr hg
    · exact .inl fun h => he (h ▸ (List.mem_filter.1 ha).1)
  obtain ⟨-, hstays, hnet, hdie⟩ := hkept
  refine ⟨by rw [hdie d (.inl rfl), htaken.gap], by rw [hdie d (.inl rfl), htaken.retired], fun e he hcut => ?_, fun e he hlt => ?_,
    fun k hk => hstays.good (htaken.out k hk), fun p hp => (htaken.net p (hnet p hp)).2⟩
  · rw [hdie e (.inr hcut), htaken.others e he]
  · exact forEach_all (Q := fun e t => isGap t e = true) (fun s a _ => gapOne_isGap s (by decide))
      (fun s a b _ h => isGap_gapOne b 5 h) u e (List.mem_filter.2 ⟨he, decide_eq_true hlt⟩)

theorem linkDie_reason (k : Nat) (dir : Dir) : (linkDie k dir).2 = 5 ∨ (linkDie k dir).2 = 6 := by
  unfold linkDie
  split
  · exact .inr rfl
  · split
    · exact .inr rfl
    · exact .inl rfl

/-- The claim on hard gaps. -/
theorem hardGapTaken : Claims.HardGapTaken := by
  intro s d r cut hd hgap hr becomes
  refine ⟨⟨makeGap s d r cut, ?_, makeGap_taken cut hgap hr⟩, fun k dir hk hlink => ⟨makeGap s d (linkDie k dir).2 cut, ?_, ?_⟩⟩
  · have hreason : (if r = 5 then 5 else 6) = r := by split <;> omega
    rw [exec_hardGap, execHardGap, runUnit_next _ s hd, hreason]
  · rw [exec_linkFailure, execLinkFailure, runUnit_next _ s hk, hlink]
  · exact makeGap_taken cut hgap (linkDie_reason k dir)

/-- Settles O30: contributions merge by the rules of adding, and a stack that becomes a gap is followed through the resets. -/
theorem meshMergesAndGaps : Obligations.MeshMergesAndGaps := ⟨contributionsMerge, hardGapTaken⟩

end Sys2Proof.Machine

/-! PROOFS. Flips, sweeps, injection windows, replays and control packets (O31). -/

namespace Sys2Proof.Machine

theorem exec_flipComplete (s : State) : exec .flipComplete s = execFlipComplete s := rfl

theorem exec_drainMarkerPass (s : State) : exec .drainMarkerPass s = execDrainMarkerPass s := rfl

theorem exec_congestionEcho (k : Nat) (outbound : Bool) (j : Nat) (s : State) :
    exec (.congestionEcho k outbound j) s = execCongestionEcho k outbound j s := rfl

theorem exec_injectionWindowTick (k : Nat) (outbound : Bool) (j : Nat) (s : State) :
    exec (.injectionWindowTick k outbound j) s = execInjectionWindowTick k outbound j s := rfl

theorem exec_flitReplay (k : Nat) (dir : Dir) (s : State) : exec (.flitReplay k dir) s = execFlitReplay k dir s := rfl

theorem exec_controlPacket (h : W64) (data : List W64) (m n : Nat) (s : State) :
    exec (.controlPacket h data m n) s = execControlPacket h data m n s := rfl

/-! ### Tables joined and renumbered -/

theorem tabGet_append_of_not_left {α : Type} {l m : Tab α} {k : Nat} (d : α) (h : ∀ e ∈ l, e.1 ≠ k) :
    tabGet (l ++ m) k d = tabGet m k d := by
  induction l with
  | nil => rfl
  | cons e l ih =>
    simp only [List.cons_append, tabGet, if_neg (h e (.head _))]
    exact ih fun x hx => h x (.tail _ hx)

theorem tabGet_append_of_not_right {α : Type} {l m : Tab α} {k : Nat} (d : α) (h : ∀ e ∈ m, e.1 ≠ k) :
    tabGet (l ++ m) k d = tabGet l k d := by
  induction l with
  | nil =>
    induction m with
    | nil => rfl
    | cons e m ih =>
      simp only [List.nil_append, tabGet, if_neg (h e (.head _))]
      exact ih fun x hx => h x (.tail _ hx)
  | cons e l ih => simp only [List.cons_append, tabGet, ih]

/-- A table whose numbers are changed by a rule that keeps the entry's number apart from the others. -/
theorem tabGet_renumbered {α : Type} {l : Tab α} {g : Nat → Nat} {k : Nat} (d : α) (h : ∀ e ∈ l, g e.1 = g k → e.1 = k) :
    tabGet (l.map (fun e => (g e.1, e.2))) (g k) d = tabGet l k d := by
  induction l with
  | nil => rfl
  | cons e l ih =>
    simp only [List.map_cons, tabGet, ih fun x hx => h x (.tail _ hx)]
    by_cases hk : e.1 = k
    · rw [if_pos hk, if_pos (by rw [hk])]
    · rw [if_neg hk, if_neg (fun hg => hk (h e (.head _) hg))]

/-! ### The old bank retired (R21, R230, R231) -/

/-- The number of an entry in the bank of the other epoch. -/
def otherKey (e : Bool) (k : Nat) : Nat := k % 16384 + b2n (!e) * 16384

/-- A mirror's table with the bank of one epoch in both banks (R21). -/
def copyBank (e : Bool) (place : Tab (Nat × Nat × Nat)) : Tab (Nat × Nat × Nat) :=
  let cur := place.filter (fun p => decide (p.1 / 16384 = b2n e))
  let other := cur.map (fun p => (otherKey e p.1, p.2))
  if e then other ++ cur else cur ++ other

/-- Both banks read the bank of the epoch. -/
theorem tabGet_copyBank (e : Bool) (place : Tab (Nat × Nat × Nat)) {slot : Nat} (h : slot < 16384) (bank : Bool)
    (d : Nat × Nat × Nat) :
    tabGet (copyBank e place) (placeKey bank slot) d =
      tabGet (place.filter (fun p => decide (p.1 / 16384 = b2n e))) (placeKey e slot) d := by
  have hcur : ∀ p ∈ place.filter (fun p => decide (p.1 / 16384 = b2n e)), p.1 / 16384 = b2n e := fun p hp =>
    of_decide_eq_true (List.mem_filter.1 hp).2
  unfold copyBank
  generalize place.filter (fun p => decide (p.1 / 16384 = b2n e)) = cur at hcur
  have hother : ∀ p ∈ cur.map (fun p => (otherKey e p.1, p.2)), p.1 / 16384 = b2n (!e) := by
    intro p hp
    obtain ⟨q, -, rfl⟩ := List.mem_map.1 hp
    simp only [otherKey]
    omega
  have hkey (b : Bool) : placeKey b slot / 16384 = b2n b := by
    unfold placeKey
    omega
  have hflip : b2n (!e) ≠ b2n e := by cases e <;> decide
  have hrenumbered : otherKey e (placeKey e slot) = placeKey (!e) slot := by
    simp only [otherKey, placeKey]
    omega
  have hread : tabGet (cur.map (fun p => (otherKey e p.1, p.2))) (placeKey (!e) slot) d = tabGet cur (placeKey e slot) d := by
    rw [← hrenumbered]
    refine tabGet_renumbered d fun p hp hg => ?_
    have hbank := hcur p hp
    simp only [otherKey, placeKey] at hg ⊢
    omega
  have hown (p) (hp : p ∈ cur) : p.1 ≠ placeKey (!e) slot := fun hk => hflip (by rw [← hkey (!e), ← hk, hcur p hp])
  have hforeign (p) (hp : p ∈ cur.map (fun p => (otherKey e p.1, p.2))) : p.1 ≠ placeKey e slot := fun hk =>
    hflip (by rw [← hkey e, ← hk, hother p hp])
  cases e <;> cases bank
  · exact tabGet_append_of_not_right d hforeign
  · exact (tabGet_append_of_not_left d hown).trans hread
  · exact (tabGet_append_of_not_right d hown).trans hread
  · exact tabGet_append_of_not_left d hforeign

/-- Every mirror's table with the bank of one epoch in both banks. -/
def copyBanks (e : Bool) (s : State) : State :=
  forEach (List.range 16) (fun s b => putBasin s b { basinAt s b with place := copyBank e (basinAt s b).place }) s

theorem copyBanks_agree (e : Bool) (s : State) : ∀ b ∈ List.range 16, ∀ slot < 16384,
    tabGet (basinAt (copyBanks e s) b).place (placeKey true slot) (0, 0, 0) =
      tabGet (basinAt (copyBanks e s) b).place (placeKey false slot) (0, 0, 0) := by
  have hmade (s : State) (b slot : Nat) (h : slot < 16384) :
      let t := putBasin s b { basinAt s b with place := copyBank e (basinAt s b).place }
      tabGet (basinAt t b).place (placeKey true slot) (0, 0, 0) = tabGet (basinAt t b).place (placeKey false slot) (0, 0, 0) := by
    simp only [basinAt_putBasin, tabGet_copyBank e _ h]
  refine forEach_all (Q := fun b t => ∀ slot < 16384, tabGet (basinAt t b).place (placeKey true slot) (0, 0, 0) =
    tabGet (basinAt t b).place (placeKey false slot) (0, 0, 0)) (fun s b _ => hmade s b) (fun s b c _ hb => ?_) s
  by_cases hbc : b = c
  · subst hbc
    exact hmade s b
  · simpa only [basinAt_putBasin_ne s _ hbc] using hb

theorem copyBanks_mesh (e : Bool) (s : State) : (copyBanks e s).mesh = s.mesh := by
  unfold copyBanks
  refine forEach_keeps State.mesh (fun s b _ => ?_) s
  rfl

theorem copyBanks_cores (e : Bool) (s : State) : (copyBanks e s).cores = s.cores := by
  unfold copyBanks
  refine forEach_keeps State.cores (fun s b _ => ?_) s
  rfl

theorem retireBank_basins (s : State) : (retireBank s).basins = (copyBanks s.mesh.epoch s).basins := by
  unfold retireBank copyBanks
  generalize List.range 16 = l
  rfl

theorem retireBank_mesh (s : State) : (retireBank s).mesh =
    { s.mesh with oldBank := false, gaps0 := gapsOf s s.mesh.epoch, gaps1 := gapsOf s s.mesh.epoch } := by
  have hloop := copyBanks_mesh s.mesh.epoch s
  unfold retireBank
  unfold copyBanks at hloop
  generalize List.range 16 = l at hloop ⊢
  exact congrArg (fun x : Mesh => { x with oldBank := false, gaps0 := gapsOf s s.mesh.epoch, gaps1 := gapsOf s s.mesh.epoch }) hloop

theorem retireBank_cores (s : State) : (retireBank s).cores = s.cores := by
  rw [← copyBanks_cores s.mesh.epoch s]
  unfold retireBank copyBanks
  generalize List.range 16 = l
  rfl

/-! ### Flips and sweeps (R209, R230 to R232) -/

theorem flipComplete_next {s : State} (h : s.mesh.flipping = true) : exec .flipComplete s =
    .next { s with mesh := { s.mesh with flipping := false, flipped := [], flips := (s.mesh.flips + 1) % 2 ^ 64 } } := by
  simp [exec_flipComplete, execFlipComplete, h]

/-- A pass that finds every packet of the old epoch ejected retires the old bank. -/
theorem drainMarkerPass_equal {s : State} (hold : s.mesh.oldBank = true) (hflip : s.mesh.flipping = false)
    (hrouters : routerSum s (73 + b2n (!s.mesh.epoch)) = routerSum s (75 + b2n (!s.mesh.epoch)))
    (hnodes : nodeSum s (b2n (!s.mesh.epoch)) = nodeSum s (2 + b2n (!s.mesh.epoch))) :
    exec .drainMarkerPass s = .next (retireBank s) := by
  simp [exec_drainMarkerPass, execDrainMarkerPass, hold, hflip, hrouters, hnodes]

/-- A pass that finds a packet of the old epoch on its way leaves everything as it is. -/
theorem drainMarkerPass_unequal {s : State} (h : routerSum s (73 + b2n (!s.mesh.epoch)) ≠ routerSum s (75 + b2n (!s.mesh.epoch)) ∨
    nodeSum s (b2n (!s.mesh.epoch)) ≠ nodeSum s (2 + b2n (!s.mesh.epoch))) : exec .drainMarkerPass s = .next s := by
  obtain h | h := h <;> simp [exec_drainMarkerPass, execDrainMarkerPass, h]

/-- A drain's pass compared with the one before (R232). -/
def sweepDrain (s : State) (d : DrainJob) : DrainJob :=
  let n := sweepCounts s d.basins
  { d with sweep := some n, swept := d.swept || (decide (d.sweep = some n) && n.1 == n.2) }

theorem drainSweepPass_next (s : State) : exec .drainSweepPass s = .next { s with
    mesh := { s.mesh with drains := s.mesh.drains.map (sweepDrain s) }, rst := { s.rst with cur := s.rst.cur.map (sweepReset s) } } :=
  rfl

/-- The claim on flips and sweeps. -/
theorem flipsAndSweeps : Claims.FlipsAndSweeps := by
  intro s old
  refine ⟨flipComplete_next, fun hold hflip hrouters hnodes => ⟨retireBank s, drainMarkerPass_equal hold hflip hrouters hnodes, ?_⟩,
    drainMarkerPass_unequal, fun d hd => ⟨_, drainSweepPass_next s, ?_, rfl, rfl⟩, fun r hr hsweeps => ⟨_, drainSweepPass_next s, ?_⟩⟩
  · rw [retireBank_mesh, retireBank_cores]
    refine ⟨rfl, rfl, rfl, rfl, fun b slot hb hslot => ?_⟩
    have hbasin : basinAt (retireBank s) b = basinAt (copyBanks s.mesh.epoch s) b := by rw [basinAt, retireBank_basins, basinAt]
    rw [hbasin]
    exact copyBanks_agree s.mesh.epoch s b (List.mem_range.2 hb) slot hslot
  · rw [hd]
    rfl
  · rw [hr, Option.map_some, sweepReset, if_pos hsweeps]

/-! ### Injection windows and replays (R219, R240, R251) -/

/-- The claim on windows and replays: each is one change of one core, or of one router. -/
theorem windowsAndReplays : Claims.WindowsAndReplays := by
  intro s k j outbound e dir hk hj c u d w
  have hunit : ¬ winCount outbound ≤ j := Nat.not_le.mpr hj
  refine ⟨fun hfind hmark hoff => ?_, fun hfind hskip => ?_, ?_, ?_⟩
  · have hact : ¬ (e.2 < 2 ∨ w.2 ≠ 0) := by
      rintro (h | h)
      · omega
      · exact h hoff
    simp only [exec_congestionEcho, execCongestionEcho, if_neg hunit, runCore_next _ s hk]
    rw [show (coreAt s k).echoes.find? (fun e => e.1 == winUnit outbound j) = some e from hfind]
    simp only
    rw [if_neg hact]
    rfl
  · simp only [exec_congestionEcho, execCongestionEcho, if_neg hunit, runCore_next _ s hk]
    rw [show (coreAt s k).echoes.find? (fun e => e.1 == winUnit outbound j) = some e from hfind]
    simp only
    rw [if_pos hskip]
    rfl
  · simp only [exec_injectionWindowTick, execInjectionWindowTick, if_neg hunit, runCore_next _ s hk]
    rfl
  · rw [exec_flitReplay, execFlitReplay, runUnit_next _ s hk]

/-! ### Control packets (R220, R230, R243, R244, R252) -/

theorem mem_insertNat {n x : Nat} {l : List Nat} : x ∈ insertNat n l ↔ x = n ∨ x ∈ l := by
  induction l with
  | nil => simp [insertNat]
  | cons m l ih =>
    unfold insertNat
    split
    · simp
    · split
      · simp_all
      · simp [ih, or_left_comm]

theorem mem_sortNat {x : Nat} {l : List Nat} : x ∈ sortNat l ↔ x ∈ l := by
  induction l with
  | nil => rfl
  | cons n l ih => rw [sortNat, List.foldr_cons, mem_insertNat, List.mem_cons, ← ih, sortNat]

/-- Replays counted at the node that made them (R252). -/
def countReplays (s : State) (m n : Nat) : State := if n = 0 then s else bumpRouter s m 109 n

/-- A packet's replays counted, and the control clock of its die running (R244, R252). -/
def ctlArrive (s : State) (dst m n : Nat) : State :=
  if (dieAt s (dieOf dst)).ctlPll then countReplays s m n
  else countStart (putDie (countReplays s m n) (dieOf dst) { dieAt s (dieOf dst) with ctlPll := true }) 1

/-- A state but for the routers. -/
def unrouted (s : State) : State := { s with routers := [] }

/-- A state but for what the arrival of a control packet changes: the routers, the dies and the clocks. -/
def unarrived (s : State) : State := { s with routers := [], dies := [], clk := {} }

section
variable (s : State) (dst m n : Nat)

theorem countReplays_unrouted : unrouted (countReplays s m n) = unrouted s := by
  unfold countReplays
  split <;> rfl

theorem countReplays_ctr : tabGet (routerAt (countReplays s m n) m).ctr 109 0 =
    (if n = 0 then tabGet (routerAt s m).ctr 109 0 else (tabGet (routerAt s m).ctr 109 0 + n) % 2 ^ 64) := by
  unfold countReplays
  split
  · rfl
  · simp [bumpRouter, bump]

theorem countReplays_shadow (k : Nat) : (routerAt (countReplays s m n) k).shadow = (routerAt s k).shadow := by
  unfold countReplays
  split
  · rfl
  · by_cases hk : k = m
    · subst hk
      simp [bumpRouter]
    · simp [bumpRouter, routerAt_putRouter_ne _ _ hk]

theorem ctlArrive_unarrived : unarrived (ctlArrive s dst m n) = unarrived s := by
  have hreplays : unarrived (countReplays s m n) = unarrived s :=
    (congrArg (fun u : State => { u with dies := [], clk := {} }) (countReplays_unrouted s m n) :)
  unfold ctlArrive
  split
  · exact hreplays
  · exact hreplays

theorem ctlArrive_clock : (dieAt (ctlArrive s dst m n) (dieOf dst)).ctlPll = true := by
  have hdies : (countReplays s m n).dies = s.dies := (congrArg State.dies (countReplays_unrouted s m n) :)
  unfold ctlArrive
  split
  · rwa [dieAt, hdies]
  · simp [countStart, dieAt]

theorem ctlArrive_starts : (ctlArrive s dst m n).clk.starts =
    (if (dieAt s (dieOf dst)).ctlPll then s.clk.starts else (s.clk.starts + 1) % 2 ^ 64) := by
  have hclk : (countReplays s m n).clk = s.clk := (congrArg State.clk (countReplays_unrouted s m n) :)
  unfold ctlArrive
  split
  · rw [hclk]
  · simp only [countStart, putDie_clk, hclk]

theorem ctlArrive_routers : (ctlArrive s dst m n).routers = (countReplays s m n).routers := by
  unfold ctlArrive
  split <;> rfl

theorem ctlArrive_router (k : Nat) : routerAt (ctlArrive s dst m n) k = routerAt (countReplays s m n) k := by
  rw [routerAt, ctlArrive_routers, routerAt]

end

theorem ctlSite_of_lt {n : Nat} (h : n < nCores) : ctlSite n = n := if_neg (by unfold nCores at h; omega)

/-- A node reads the shadow of one of its counters (R244, R445). -/
theorem nodeAccess_read {s : State} {addr : Nat} (dst : Nat) (data : List W64) (hlo : 0x1000 ≤ addr) (hhi : addr < 0x1370) :
    nodeAccess s 0 dst addr data = emit s (.ctlReply dst addr [tabGet (routerAt s dst).shadow ((addr - 0x1000) / 8) 0]) := by
  simp [nodeAccess, siteReg, hlo, hhi]

theorem nodeAccess_flip {s : State} (dst addr : Nat) (data : List W64) (h : s.mesh.flipping = true) :
    nodeAccess s 4 dst addr data = { s with mesh := { s.mesh with flipped := sortNat (dst :: s.mesh.flipped) } } := by
  simp [nodeAccess, h]

/-- FLIP reaches the site that it names and no other (R230). -/
theorem stampOf_flipped {s : State} (dst : Nat) (h : s.mesh.flipping = true) :
    let t := { s with mesh := { s.mesh with flipped := sortNat (dst :: s.mesh.flipped) } }
    stampOf t dst = s.mesh.epoch ∧ ∀ k, k ≠ dst → stampOf t k = stampOf s k := by
  refine ⟨?_, fun k hk => ?_⟩
  · simp [stampOf, h, mem_sortNat]
  · simp [stampOf, h, mem_sortNat, hk]

section
variable {s : State} {h : W64} {data : List W64} {m : Nat} (n : Nat) (hm : m < nCores) (hready : s.sup.phase = .ready)
  (hsrc : ctlSrc h < nCores) (hdst : ctlDst h < nCores)
include hm hready hsrc hdst

theorem controlPacket_bad (hbad : ctlBad h data = true) : exec (.controlPacket h data m n) s = .next (suspectCore s (ctlSrc h) 1) := by
  simp [exec_controlPacket, execControlPacket, runUnit_next _ s hm, ctlSite_of_lt hsrc, ctlSite_of_lt hdst, hready,
    Nat.not_le.mpr hsrc, Nat.not_le.mpr hdst, hbad, hsrc]

theorem controlPacket_blocked (hbad : ctlBad h data = false) (hopen : ctlOpen s (ctlSrc h) (ctlDst h) = false) :
    exec (.controlPacket h data m n) s = .next s := by
  simp [exec_controlPacket, execControlPacket, runUnit_next _ s hm, ctlSite_of_lt hsrc, ctlSite_of_lt hdst, hready,
    Nat.not_le.mpr hsrc, Nat.not_le.mpr hdst, hbad, hopen]

theorem controlPacket_taken (hbad : ctlBad h data = false) (hopen : ctlOpen s (ctlSrc h) (ctlDst h) = true) :
    exec (.controlPacket h data m n) s =
      .next (nodeAccess (ctlArrive s (ctlDst h) m n) (ctlOp h) (ctlDst h) (ctlAddr h) data) := by
  have hnode : ctlDst h ≠ 0x3FFF := by unfold nCores at hdst; omega
  simp [exec_controlPacket, execControlPacket, runUnit_next _ s hm, ctlSite_of_lt hsrc, ctlSite_of_lt hdst, hready,
    Nat.not_le.mpr hsrc, Nat.not_le.mpr hdst, hbad, hopen, hnode, ctlArrive, countReplays]

end

/-- The claim on control packets. -/
theorem controlPackets : Claims.ControlPackets := by
  intro s h data m n hm hready hsrc hdst src dst addr started
  have harrive := ctlArrive_unarrived s dst m n
  have hcores : (ctlArrive s dst m n).cores = s.cores := (congrArg State.cores harrive :)
  have hmesh : (ctlArrive s dst m n).mesh = s.mesh := (congrArg State.mesh harrive :)
  have hout : (ctlArrive s dst m n).out = s.out := (congrArg State.out harrive :)
  have hstarted : started (ctlArrive s dst m n) := by
    refine ⟨ctlArrive_clock s dst m n, hcores, ctlArrive_starts s dst m n, ?_⟩
    rw [ctlArrive_router, countReplays_ctr]
  have hshadow : (routerAt (ctlArrive s dst m n) dst).shadow = (routerAt s dst).shadow := by
    rw [ctlArrive_router, countReplays_shadow]
  have htaken := controlPacket_taken (data := data) n hm hready hsrc hdst
  have hstamp (k : Nat) : stampOf (ctlArrive s dst m n) k = stampOf s k := by simp only [stampOf, hmesh]
  generalize ctlArrive s (ctlDst h) m n = t at *
  refine ⟨controlPacket_bad n hm hready hsrc hdst, controlPacket_blocked n hm hready hsrc hdst,
    fun hbad hopen hop hlo hhi => ?_, fun hbad hopen hop hflip => ?_⟩
  · refine ⟨_, htaken hbad hopen, ?_⟩
    rw [hop, nodeAccess_read _ data hlo hhi, hshadow]
    exact ⟨hstarted, by rw [← hout]; rfl⟩
  · have hflip' : t.mesh.flipping = true := by rw [hmesh, hflip]
    obtain ⟨hself, hothers⟩ := stampOf_flipped dst hflip'
    refine ⟨_, htaken hbad hopen, ?_⟩
    rw [hop, nodeAccess_flip _ _ data hflip']
    exact ⟨hstarted, by rw [hself, hmesh], fun k hk => (hothers k hk).trans (hstamp k)⟩

/-- Settles O31: each command's outcome by its own lemma. -/
theorem meshManagement : Obligations.MeshManagement := ⟨flipsAndSweeps, windowsAndReplays, controlPackets⟩

end Sys2Proof.Machine

/-! PROOFS. Tokens that are refused, and the transitions of the life cycle (O47). -/

namespace Sys2Proof.Machine

theorem exec_registerOwner (tr : Transport) (id : Nat) (tok : Token) (d fm : Nat) (s : State) :
    exec (.registerOwner tr id tok d fm) s = execRegisterOwner tr id tok d fm s := rfl

theorem exec_setFmKey (tr : Transport) (id : Nat) (tok : Token) (ser fm : Nat) (s : State) :
    exec (.setFmKey tr id tok ser fm) s = execSetFmKey tr id tok ser fm s := rfl

theorem exec_returnLc (tr : Transport) (id : Nat) (tok : Token) (s : State) :
    exec (.returnLc tr id tok) s = execReturnLc tr id tok s := rfl

theorem exec_reprovision (tr : Transport) (id : Nat) (tok : Token) (s : State) :
    exec (.reprovision tr id tok) s = execReprovision tr id tok s := rfl

theorem exec_ledgerClear (tr : Transport) (id : Nat) (tok : Token) (s : State) :
    exec (.ledgerClear tr id tok) s = execLedgerClear tr id tok s := rfl

theorem exec_debugUnlock (tr : Transport) (id : Nat) (tok : Token) (s : State) :
    exec (.debugUnlock tr id tok) s = execDebugUnlock tr id tok s := rfl

theorem exec_lcRetire (tr : Transport) (id : Nat) (tok : Token) (s : State) :
    exec (.lcRetire tr id tok) s = execLcRetire tr id tok s := rfl

theorem exec_provisioning (cert : Nat) (s : State) : exec (.provisioning cert) s = execProvisioning cert s := rfl

/-! ### Vendor commands (R361, R377) -/

section
variable {s : State} {tr : Transport} {id : Nat} (op : Nat) (f : State → State)

theorem vendorCmd_down (h : spdmUp s = false) : vendorCmd tr id op f s = .next s := by simp [vendorCmd, h]

theorem vendorCmd_outside (hup : spdmUp s = true) (h : inSession s tr id = false) :
    vendorCmd tr id op f s = .next (emit s (.spdm tr 0x7F [1])) := by
  simp [vendorCmd, answerError, answer, hup, h]

theorem vendorCmd_busy (hup : spdmUp s = true) (hin : inSession s tr id = true) (h : s.trust.transition ≠ none) :
    vendorCmd tr id op f s = .next (emit s (.vendor tr op 5 [])) := by
  simp [vendorCmd, vendor, hup, hin, Option.isSome_iff_ne_none.2 h]

theorem vendorCmd_taken (hup : spdmUp s = true) (hin : inSession s tr id = true) (h : s.trust.transition = none) :
    vendorCmd tr id op f s = .next (f s) := by
  simp [vendorCmd, hup, hin, h]

end

/-! ### Tokens (R361, R362) -/

section
variable {s : State} {tr : Transport} {id op : Nat} {tok : Token} {stateOk signerOk : State → Bool} {f : State → State}
  (hup : spdmUp s = true) (hin : inSession s tr id = true) (hidle : s.trust.transition = none)
include hup hin hidle

/-- A token that fails a check: the answer carries the status, and only the nonce that the token names is consumed (R362). -/
theorem tokenCmd_refuses {status : Nat} (hstatus : tokenStatus s tok op (stateOk s) (signerOk s) = status + 1) :
    ∃ t : State, tokenCmd tr id op tok stateOk signerOk f s = .next t ∧
      t.out = s.out ++ [.vendor tr op (status + 1) []] ∧ t.fuse = s.fuse ∧ t.flash = s.flash ∧ t.trust.kT = s.trust.kT ∧
      t.trust.fmKey = s.trust.fmKey ∧ t.ctxs = s.ctxs ∧
      t.trust.nonce = (if s.trust.nonce = some tok.nonce then none else s.trust.nonce) := by
  refine ⟨vendor (useNonce s tok) tr op (status + 1) [], ?_, ?_⟩
  · rw [tokenCmd, vendorCmd_taken op _ hup hin hidle, hstatus]
  · by_cases h : s.trust.nonce = some tok.nonce <;> simp [vendor, useNonce, emit, h]

end

/-- A token that passes its checks, but for those on the module's state and on the signer. -/
def TokenTaken (s : State) (tr : Transport) (id : Nat) (tok : Token) (op : Nat) : Prop :=
  spdmUp s = true ∧ inSession s tr id = true ∧ s.trust.transition = none ∧ tok.opcode = op ∧
    tok.serial = s.fuse.serial ∧ tok.k = s.fuse.lcCount ∧ s.trust.nonce = some tok.nonce

/-- A state whose nonce has been consumed. -/
def withoutNonce (s : State) : State := { s with trust := { s.trust with nonce := none } }

/-- A token that is accepted: its nonce is consumed, and the command runs (R362). -/
theorem tokenCmd_accepts {s : State} {tr : Transport} {id op : Nat} {tok : Token} {stateOk signerOk : State → Bool}
    {f : State → State} {o : Host.Outcome State Fault Refusal} (ho : o = tokenCmd tr id op tok stateOk signerOk f s)
    (ht : TokenTaken s tr id tok op) (hstate : stateOk s = true) (hsigner : signerOk s = true) : o = .next (f (withoutNonce s)) := by
  obtain ⟨hup, hin, hidle, hop, hserial, hcount, hnonce⟩ := ht
  have hstatus : tokenStatus s tok op (stateOk s) (signerOk s) = 0 := by
    simp [tokenStatus, hop, hstate, hserial, hcount, hnonce, hsigner]
  rw [ho, tokenCmd, vendorCmd_taken op _ hup hin hidle, hstatus, useNonce, if_pos hnonce]
  rfl

/-- What a token command answers where it does not run: outside a session, while a transition is in hand, and where a check fails;
`ok` and `signed` are the verdicts on the life-cycle state and on the signer. -/
def RefusesToken (s : State) (tr : Transport) (id op : Nat) (tok : Token) (o : Host.Outcome State Fault Refusal) (ok signed : Bool) :
    Prop :=
  let bound := tok.serial = s.fuse.serial ∧ tok.k = s.fuse.lcCount
  let refused (status : Nat) : Prop := ∃ t : State, o = .next t ∧
    t.out = s.out ++ [.vendor tr op status []] ∧ t.fuse = s.fuse ∧ t.flash = s.flash ∧ t.trust.kT = s.trust.kT ∧
    t.trust.fmKey = s.trust.fmKey ∧ t.ctxs = s.ctxs ∧
    t.trust.nonce = (if s.trust.nonce = some tok.nonce then none else s.trust.nonce)
  (spdmUp s = false → o = .next s) ∧
  (spdmUp s = true → inSession s tr id = false → o = .next (emit s (.spdm tr 0x7F [1]))) ∧
  (spdmUp s = true → inSession s tr id = true → s.trust.transition ≠ none → o = .next (emit s (.vendor tr op 5 []))) ∧
  (spdmUp s = true → inSession s tr id = true → s.trust.transition = none →
    ((tok.opcode ≠ op ∨ ok = false) → refused 1) ∧
    (tok.opcode = op → ok = true → ¬ bound → refused 2) ∧
    (tok.opcode = op → ok = true → bound → s.trust.nonce ≠ some tok.nonce → refused 3) ∧
    (tok.opcode = op → ok = true → bound → s.trust.nonce = some tok.nonce → signed = false → refused 4))

theorem tokenCmd_refusesToken {s : State} {tr : Transport} {id op : Nat} {tok : Token} {stateOk signerOk : State → Bool}
    {f : State → State} {o : Host.Outcome State Fault Refusal} (ho : o = tokenCmd tr id op tok stateOk signerOk f s) :
    RefusesToken s tr id op tok o (stateOk s) (signerOk s) := by
  subst ho
  refine ⟨vendorCmd_down op _, vendorCmd_outside op _, vendorCmd_busy op _, fun hup hin hidle => ?_⟩
  refine ⟨fun h => tokenCmd_refuses hup hin hidle ?_, fun hop hok h => tokenCmd_refuses hup hin hidle ?_,
    fun hop hok h hn => tokenCmd_refuses hup hin hidle ?_, fun hop hok h hn hs => tokenCmd_refuses hup hin hidle ?_⟩
  · rw [tokenStatus, if_pos h]
  · have hbad : tok.serial ≠ s.fuse.serial ∨ tok.k ≠ s.fuse.lcCount := not_and_or.1 h
    simp [tokenStatus, hop, hok, hbad]
  · obtain ⟨hserial, hcount⟩ := h
    simp [tokenStatus, hop, hok, hserial, hcount, hn]
  · obtain ⟨hserial, hcount⟩ := h
    simp [tokenStatus, hop, hok, hserial, hcount, hn, hs]

/-- The claim on tokens: each of the commands is a token command. -/
theorem tokensRefused : Claims.TokensRefused := by
  intro s tr id d fm ser tok c lc hc
  simp only [List.mem_cons, List.not_mem_nil, or_false] at hc
  obtain rfl | rfl | rfl | rfl | rfl | rfl | rfl := hc
  · exact tokenCmd_refusesToken (exec_registerOwner tr id tok d fm s)
  · exact tokenCmd_refusesToken (exec_setFmKey tr id tok ser fm s)
  · exact tokenCmd_refusesToken (exec_returnLc tr id tok s)
  · exact tokenCmd_refusesToken (exec_reprovision tr id tok s)
  · exact tokenCmd_refusesToken (exec_ledgerClear tr id tok s)
  · exact tokenCmd_refusesToken (exec_debugUnlock tr id tok s)
  · exact tokenCmd_refusesToken (exec_lcRetire tr id tok s)

/-! ### What a transition erases (R356) -/

theorem teardownCtx_of_free {s : State} {n : Nat} (h : (ctxAt s n).st = .free) : teardownCtx s n = s := by
  simp [teardownCtx, h]

theorem forEach_eq_self {α : Type} {l : List α} {f : State → α → State} {s : State} (h : ∀ a ∈ l, f s a = s) :
    forEach l f s = s := by
  induction l with
  | nil => rfl
  | cons a l ih =>
    rw [forEach_cons, h a (.head _)]
    exact ih fun b hb => h b (.tail _ hb)

/-- A state but for the ports of the fabric. -/
def unported (s : State) : State := { s with fab := { s.fab with ports := [] } }

/-- A state without the owner's tokens, the fabric manager's key, and the fabric's pair keys (R356). -/
def withoutOwner (s : State) : State := { s with
  flash := { s.flash with ownerToken := none, fmToken := none }, trust := { s.trust with fmKey := none, fmSerial := 0 },
  rst := { s.rst with dumps := [] }, fab := { s.fab with keys := [] } }

theorem eraseOwner_unported (s : State) : unported (eraseOwner s) = unported (withoutOwner s) := by
  unfold eraseOwner
  generalize List.range 24 = l
  refine (forEach_keeps unported (fun s p _ => ?_) _).trans ?_ <;> rfl

theorem eraseOwner_ports (s : State) : ∀ p ∈ List.range 24, (portAt (eraseOwner s) p).keys = [] := by
  unfold eraseOwner
  refine forEach_all (Q := fun p t => (portAt t p).keys = []) (fun s p _ => by rw [portAt_putPort]) (fun s p q _ h => ?_) _
  by_cases hpq : p = q
  · subst hpq
    rw [portAt_putPort]
  · rwa [portAt_putPort_ne _ _ hpq]

/-- The fuses after a transition, and the vendor command that it answers (R356). -/
def LcWait.burn (w : LcWait) (f : Fuse) : Fuse :=
  match w with
  | .ret => { f with lcCount := f.lcCount + 1 }
  | .retire => { f with lcRetired := true }
def LcWait.opcode (w : LcWait) : Nat :=
  match w with
  | .ret => 5
  | .retire => 9

/-- A transition carried out: the owner's tokens and keys are gone, and the fuses are burned. -/
def finishedLc (s : State) (w : LcWait) (tr : Transport) : State :=
  let e := eraseOwner s
  emit (rekey { e with trust := { e.trust with transition := none }, fuse := w.burn e.fuse }) (.vendor tr w.opcode 0 [])

/-- A transition in hand while every context is FREE (R356, R377). -/
theorem finishLc_idle {s : State} {tr : Transport} {w : LcWait} (hw : s.trust.transition = some (w, tr))
    (hfree : (List.range 16).all (fun n => (ctxAt s n).st == .free) = true) : finishLc s = finishedLc s w tr := by
  unfold finishLc
  rw [hw]
  simp only [hfree]
  cases w <;> rfl

/-- A transition in hand while a context is in use (R377). -/
theorem finishLc_waits {s : State} {n : Nat} (hn : n < 16) (h : (ctxAt s n).st ≠ .free) : finishLc s = s := by
  have hbusy : (List.range 16).all (fun n => (ctxAt s n).st == .free) = false :=
    List.all_eq_false.2 ⟨n, List.mem_range.2 hn, by simpa using h⟩
  unfold finishLc
  split
  · rfl
  · rw [if_pos (by rw [hbusy]; rfl)]

/-- A state in which a transition is in hand (R377). -/
def withTransition (s : State) (tr : Transport) (w : LcWait) : State :=
  { s with trust := { s.trust with transition := some (w, tr) } }

theorem startLc_eq (s : State) (tr : Transport) (w : LcWait) :
    startLc s tr w = finishLc (forEach (List.range 16) teardownCtx (withTransition s tr w)) := rfl

/-- What a transition that is carried out at once leaves. -/
theorem startLc_idle {s t : State} {tr : Transport} {w : LcWait} (h : ∀ n, n < 16 → (ctxAt s n).st = .free)
    (ht : t = startLc s tr w) :
    t.out = s.out ++ [.vendor tr w.opcode 0 []] ∧ t.trust.nonce = s.trust.nonce ∧ t.trust.kT = transportK t.fuse ∧ t.ctxs = s.ctxs ∧
      t.fuse = w.burn s.fuse ∧ t.flash.ownerToken = none ∧ t.flash.fmToken = none ∧ t.trust.fmKey = none ∧ t.fab.keys = [] ∧
      ∀ p, p < 24 → (portAt t p).keys = [] := by
  have hdown : forEach (List.range 16) teardownCtx (withTransition s tr w) = withTransition s tr w :=
    forEach_eq_self fun n hn => teardownCtx_of_free (h n (List.mem_range.1 hn))
  have hfree : (List.range 16).all (fun n => (ctxAt (withTransition s tr w) n).st == .free) = true :=
    List.all_eq_true.2 fun n hn => beq_iff_eq.2 (h n (List.mem_range.1 hn))
  rw [startLc_eq, hdown, finishLc_idle rfl hfree, finishedLc] at ht
  subst ht
  have herased := eraseOwner_unported (withTransition s tr w)
  have hports := eraseOwner_ports (withTransition s tr w)
  generalize eraseOwner (withTransition s tr w) = e at herased hports
  have hout : e.out = s.out := (congrArg State.out herased :)
  have hfuse : e.fuse = s.fuse := (congrArg State.fuse herased :)
  have hctxs : e.ctxs = s.ctxs := (congrArg State.ctxs herased :)
  have hnonce : e.trust.nonce = s.trust.nonce := (congrArg (fun u : State => u.trust.nonce) herased :)
  have howner : e.flash.ownerToken = none := (congrArg (fun u : State => u.flash.ownerToken) herased :)
  have hfm : e.flash.fmToken = none := (congrArg (fun u : State => u.flash.fmToken) herased :)
  have hkey : e.trust.fmKey = none := (congrArg (fun u : State => u.trust.fmKey) herased :)
  have hkeys : e.fab.keys = [] := (congrArg (fun u : State => u.fab.keys) herased :)
  refine ⟨?_, hnonce, rfl, hctxs, ?_, howner, hfm, hkey, hkeys, fun p hp => hports p (List.mem_range.2 hp)⟩
  · rw [← hout]
    rfl
  · rw [← hfuse]
    rfl

/-! ### Transitions that are accepted (R354 to R357) -/

theorem lcState_lcCount_succ {f : Fuse} {k n : Nat} (hk : f.lcCount = k) (hs : lcState f = n) (hn : n = 1 ∨ n = 2 ∨ n = 3) :
    lcState { f with lcCount := k + 1 } = n % 3 + 1 := by
  subst hk
  unfold lcState at hs ⊢
  cases hret : f.lcRetired with
  | true => simp [hret] at hs; omega
  | false =>
    simp only [hret, Bool.false_eq_true, if_false] at hs ⊢
    split at hs
    · omega
    · rw [if_neg (by omega)]
      omega

/-- The transport pair is erased outside PROVISIONED and DEPLOYED (R357). -/
theorem transportK_none {f : Fuse} {n : Nat} (h : lcState f = n + 3) : transportK f = none := by simp [transportK, h]

/-- A table whose entries are changed by a rule that may look at their numbers. -/
theorem tabGet_map {α β : Type} (f : Nat × α → β) (t : Tab α) (k : Nat) (d : α) :
    tabGet (t.map (fun e => (e.1, f e))) k (f (k, d)) = f (k, tabGet t k d) := by
  induction t with
  | nil => rfl
  | cons e t ih =>
    obtain ⟨j, x⟩ := e
    simp only [List.map_cons, tabGet, ih]
    by_cases h : j = k
    · subst h
      simp
    · simp [h]

/-- What LEDGER_CLEAR makes of a core: a RETIRED one of a die in service is SPARE again (R24). -/
def unretire (s : State) (c : Nat × Core) : Core :=
  if c.2.st = .retired ∧ (dieAt s (dieOf c.1)).gapReason = 0 then { c.2 with st := .spare } else c.2

theorem unretire_spare (s : State) {k : Nat} (hst : (coreAt s k).st = .retired) (hgap : (dieAt s (dieOf k)).gapReason = 0) :
    (tabGet (s.cores.map (fun c => (c.1, unretire s c))) k {}).st = .spare := by
  have hunlisted : unretire s (k, {}) = {} := if_neg (by simp)
  have hread := tabGet_map (unretire s) s.cores k {}
  rw [hunlisted] at hread
  rw [hread, unretire, if_pos ⟨hst, hgap⟩]

/-- The claim on the life cycle. -/
theorem lifeCycle : Claims.LifeCycle := by
  intro s tr id d fm ser cert tok lc k taken does noCtx erased
  refine ⟨fun ht hlc hsign => ?_, fun ht hlc hsign hser hkT => ?_, fun ht hlc hk hsign hno => ?_, fun ht hlc hsign => ?_,
    fun ht hlc hsign hkT => ?_, fun ht hlc hsign hkT => ?_, fun ht hsign hno => ?_, fun hlc => ?_, fun hlc => ?_⟩
  · refine ⟨_, [], tokenCmd_accepts (exec_registerOwner tr id tok d fm s) ht (beq_iff_eq.2 hlc) (decide_eq_true hsign), ?_⟩
    exact ⟨rfl, rfl, rfl, rfl, rfl, rfl, rfl, lcState_lcCount_succ rfl hlc (.inl rfl)⟩
  · have hnext := tokenCmd_accepts (exec_setFmKey tr id tok ser fm s) ht (beq_iff_eq.2 hlc) hsign
    rw [if_pos (show (withoutNonce s).trust.fmSerial < ser from hser)] at hnext
    exact ⟨_, [], hnext, rfl, rfl, hkT, rfl, rfl, rfl, rfl, rfl⟩
  · have hok : (lcState s.fuse == 2 && decide (s.fuse.lcCount < 32)) = true := by
      rw [Bool.and_eq_true]
      exact ⟨beq_iff_eq.2 hlc, decide_eq_true hk⟩
    have hnext := tokenCmd_accepts (exec_returnLc tr id tok s) ht hok hsign
    obtain ⟨hout, hnonce, hkT, hctxs, hfuse, herased⟩ := startLc_idle (s := withoutNonce s) (tr := tr) (w := .ret) hno rfl
    have hreturned : lcState (startLc (withoutNonce s) tr .ret).fuse = 3 := by
      rw [hfuse]
      exact lcState_lcCount_succ rfl hlc (.inr (.inl rfl))
    exact ⟨_, [], hnext, hout, hnonce, hkT, hctxs, hfuse, herased, hreturned, hkT.trans (transportK_none hreturned)⟩
  · refine ⟨_, [], tokenCmd_accepts (exec_reprovision tr id tok s) ht (beq_iff_eq.2 hlc) hsign, ?_⟩
    exact ⟨rfl, rfl, rfl, rfl, rfl, rfl, lcState_lcCount_succ rfl hlc (.inr (.inr rfl))⟩
  · refine ⟨_, [], tokenCmd_accepts (exec_ledgerClear tr id tok s) ht (beq_iff_eq.2 hlc) hsign, ?_⟩
    exact ⟨rfl, rfl, hkT, rfl, rfl, rfl, rfl, rfl, fun c hst hgap => unretire_spare s hst hgap⟩
  · have hok : (lcState s.fuse == 1 || lcState s.fuse == 3) = true := by
      rw [Bool.or_eq_true, beq_iff_eq, beq_iff_eq]
      exact hlc
    exact ⟨_, [], tokenCmd_accepts (exec_debugUnlock tr id tok s) ht hok hsign, rfl, rfl, hkT, rfl, rfl, rfl⟩
  · have hok : (lcState s.fuse == 1 || lcState s.fuse == 2 || lcState s.fuse == 3) = true := by
      rw [Bool.or_eq_true, Bool.or_eq_true, beq_iff_eq, beq_iff_eq, beq_iff_eq]
      obtain ⟨h, -⟩ | ⟨h | h, -⟩ := hsign
      · exact .inl (.inr h)
      · exact .inl (.inl h)
      · exact .inr h
    have hsigned : (if lcState s.fuse = 2 then byOwner s tok else byVillaholt tok) = true := by
      obtain ⟨h, hs⟩ | ⟨h, hs⟩ := hsign
      · rwa [if_pos h]
      · rwa [if_neg (fun h2 => by omega)]
    have hnext := tokenCmd_accepts (exec_lcRetire tr id tok s) ht hok hsigned
    obtain ⟨hout, hnonce, hkT, hctxs, hfuse, herased⟩ := startLc_idle (s := withoutNonce s) (tr := tr) (w := .retire) hno rfl
    have hretired : lcState (startLc (withoutNonce s) tr .retire).fuse = 4 := by
      rw [hfuse]
      rfl
    exact ⟨_, [], hnext, hout, hnonce, hkT, hctxs, hfuse, herased, hretired, hkT.trans (transportK_none hretired)⟩
  · have hnext : exec (.provisioning cert) s = _ := exec_provisioning cert s
    rw [execProvisioning, if_pos hlc] at hnext
    exact ⟨_, hnext, rfl, rfl⟩
  · rw [exec_provisioning, execProvisioning, if_neg hlc]

/-! ### Transitions that wait for a teardown (R350, R356, R377) -/

/-- A state but for what a teardown without keyed peers changes: the contexts, the cores, and the work in hand. -/
def untorn (s : State) : State := { s with ctxs := [], cores := [], mesh := {}, heal := {}, rst := {} }

theorem entsOf_of_untorn {s t : State} (h : untorn t = untorn s) (n : Nat) : entsOf t n = entsOf s n :=
  (congrArg (fun u : State => entsOf u n) h :)

theorem tellParts_of_noEntries {s : State} {n : Nat} (h : entsOf s n = []) : tellParts s n = s := by simp [tellParts, h]

theorem holdBasin_ctxs (s : State) (b : Nat) : (holdBasin s b).ctxs = s.ctxs := by
  unfold holdBasin
  generalize coresOfBasin b = l
  exact forEach_keeps State.ctxs (fun s k _ => putCore_ctxs s k _) s

theorem holdBasin_untorn (s : State) (b : Nat) : untorn (holdBasin s b) = untorn s := by
  unfold holdBasin
  generalize coresOfBasin b = l
  refine forEach_keeps untorn (fun s k _ => ?_) s
  rfl

theorem dropResets_frame (s : State) (n : Nat) : (dropResets s n).ctxs = s.ctxs ∧ untorn (dropResets s n) = untorn s := by
  unfold dropResets
  dsimp only
  split
  · exact ⟨rfl, rfl⟩
  · split
    · unfold nextReset
      split <;> exact ⟨rfl, rfl⟩
    · exact ⟨rfl, rfl⟩

theorem dropWork_frame (s : State) (n : Nat) : (dropWork s n).ctxs = s.ctxs ∧ untorn (dropWork s n) = untorn s :=
  dropResets_frame _ n

/-- A context replaced, what it had in hand dropped, and its cores HELD: a teardown but for its messages (R350). -/
def heldCtx (s : State) (n : Nat) (y : Ctx) : State := forEach (grantOf s n) holdBasin (dropWork (putCtx s n y) n)

theorem heldCtx_untorn (s : State) (n : Nat) (y : Ctx) : untorn (heldCtx s n y) = untorn s :=
  (forEach_keeps untorn (fun s b _ => holdBasin_untorn s b) _).trans (dropWork_frame (putCtx s n y) n).2

theorem heldCtx_ctxs (s : State) (n : Nat) (y : Ctx) : (heldCtx s n y).ctxs = (putCtx s n y).ctxs :=
  (forEach_keeps State.ctxs (fun s b _ => holdBasin_ctxs s b) _).trans (dropWork_frame (putCtx s n y) n).1

theorem teardownCtx_eq {s : State} {n : Nat} (hact : (ctxAt s n).st = .active) (hents : entsOf s n = []) :
    ∃ y : Ctx, y.st = .stopping ∧ teardownCtx s n = heldCtx s n y := by
  unfold teardownCtx
  simp only [hact, hents, List.filter_nil, forEach_nil]
  exact ⟨_, rfl, tellParts_of_noEntries ((entsOf_of_untorn (heldCtx_untorn s n _) n).trans hents)⟩

/-- The teardown of an ACTIVE context that has no peers. -/
theorem teardownCtx_alone {s : State} {n : Nat} (hact : (ctxAt s n).st = .active) (hents : entsOf s n = []) :
    untorn (teardownCtx s n) = untorn s ∧ (ctxAt (teardownCtx s n) n).st = .stopping ∧
      ∀ m, m ≠ n → ctxAt (teardownCtx s n) m = ctxAt s m := by
  obtain ⟨y, hstop, hdown⟩ := teardownCtx_eq hact hents
  have hctx (m : Nat) : ctxAt (teardownCtx s n) m = ctxAt (putCtx s n y) m := by rw [hdown, ctxAt, heldCtx_ctxs, ctxAt]
  exact ⟨by rw [hdown, heldCtx_untorn], by rw [hctx, ctxAt_putCtx, hstop], fun m hm => by rw [hctx, ctxAt_putCtx_ne s y hm]⟩

theorem teardownCtx_of_inactive {s : State} {n : Nat} (h : (ctxAt s n).st ≠ .active) : teardownCtx s n = s := by
  unfold teardownCtx
  dsimp only
  split
  · exact absurd ‹_› h
  all_goals rfl

/-- Contexts without peers torn down one after another: each that is ACTIVE is STOPPING after it. -/
theorem forEach_teardownCtx {l : List Nat} {s : State} (hents : ∀ m ∈ l, entsOf s m = []) :
    untorn (forEach l teardownCtx s) = untorn s ∧
      ∀ n, ((ctxAt s n).st = .stopping ∨ ((ctxAt s n).st = .active ∧ n ∈ l)) → (ctxAt (forEach l teardownCtx s) n).st = .stopping := by
  induction l generalizing s with
  | nil => exact ⟨rfl, fun n h => by simpa using h⟩
  | cons m l ih =>
    have hm := hents m (.head _)
    by_cases hact : (ctxAt s m).st = .active
    · obtain ⟨huntorn, hstop, hother⟩ := teardownCtx_alone hact hm
      obtain ⟨hrest, hstops⟩ := ih (s := teardownCtx s m) fun n hn => (entsOf_of_untorn huntorn n).trans (hents n (.tail _ hn))
      refine ⟨hrest.trans huntorn, fun n hn => hstops n ?_⟩
      by_cases hnm : n = m
      · subst hnm
        exact .inl hstop
      · rw [hother n hnm]
        simpa [hnm] using hn
    · rw [forEach_cons, teardownCtx_of_inactive hact]
      obtain ⟨hrest, hstops⟩ := ih (s := s) fun n hn => hents n (.tail _ hn)
      refine ⟨hrest, fun n hn => hstops n ?_⟩
      obtain hn | ⟨hn, hl⟩ := hn
      · exact .inl hn
      · obtain rfl | hl := List.mem_cons.1 hl
        · exact absurd hn hact
        · exact .inr ⟨hn, hl⟩

/-- A transition that finds an ACTIVE context tears it down and waits. -/
theorem startLc_waits {s t : State} {tr : Transport} {w : LcWait} {n : Nat} (hn : n < 16) (hact : (ctxAt s n).st = .active)
    (hents : ∀ m, m < 16 → entsOf s m = []) (ht : t = startLc s tr w) :
    t.fuse = s.fuse ∧ (ctxAt t n).st = .stopping ∧ t.out = s.out ∧ t.trust.transition = some (w, tr) := by
  obtain ⟨huntorn, hstops⟩ := forEach_teardownCtx (l := List.range 16) (s := withTransition s tr w) fun m hm =>
    hents m (List.mem_range.1 hm)
  have hstop := hstops n (.inr ⟨hact, List.mem_range.2 hn⟩)
  rw [startLc_eq, finishLc_waits hn (by rw [hstop]; decide)] at ht
  rw [← ht] at huntorn hstop
  exact ⟨(congrArg State.fuse huntorn :), hstop, (congrArg State.out huntorn :),
    (congrArg (fun u : State => u.trust.transition) huntorn :)⟩

/-- The claim on transitions that wait. -/
theorem lifeCycleWaits : Claims.LifeCycleWaits := by
  intro s tr id n op tok hn hact hup hin hidle hop hserial hcount hnonce hlc hsign hents
  have ht : TokenTaken s tr id tok op := ⟨hup, hin, hidle, hop, hserial, hcount, hnonce⟩
  refine ⟨fun h5 hk => ?_, fun h9 => ?_⟩
  · subst h5
    have hok : (lcState s.fuse == 2 && decide (s.fuse.lcCount < 32)) = true := by simp [hlc, hk]
    exact ⟨_, tokenCmd_accepts (exec_returnLc tr id tok s) ht hok hsign, startLc_waits (s := withoutNonce s) hn hact hents rfl⟩
  · subst h9
    have hok : (lcState s.fuse == 1 || lcState s.fuse == 2 || lcState s.fuse == 3) = true := by simp [hlc]
    exact ⟨_, tokenCmd_accepts (exec_lcRetire tr id tok s) ht hok (by rwa [if_pos hlc]),
      startLc_waits (s := withoutNonce s) hn hact hents rfl⟩

/-- Settles O47: refused tokens, transitions carried out at once, and transitions that wait for their contexts. -/
theorem lifeCycleSteps : Obligations.LifeCycleSteps := ⟨tokensRefused, lifeCycle, lifeCycleWaits⟩

end Sys2Proof.Machine

/-! PROOFS. The idle tests and the priority tests of cores (O49). -/

namespace Sys2Proof.Machine

theorem exec_idleSweepStep (b : Nat) (s : State) : exec (.idleSweepStep b) s = execIdleSweepStep b s := rfl

theorem exec_idleTest (b : Nat) (pass : Bool) (s : State) : exec (.idleTest b pass) s = execIdleTest b pass s := rfl

theorem exec_priorityTest (b : Nat) (s : State) : exec (.priorityTest b) s = execPriorityTest b s := rfl

/-! ### Counters (R416) -/

theorem tabGet_bump (t : Tab Nat) (i n : Nat) : tabGet (bump t i n) i 0 = (tabGet t i 0 + n) % 2 ^ 64 := by simp [bump]

theorem tabGet_bump_ne (t : Tab Nat) {i j : Nat} (n : Nat) (h : j ≠ i) : tabGet (bump t i n) j 0 = tabGet t j 0 := by
  simp [bump, tabGet_tabSet_ne _ _ _ h]

/-- A core retired is counted (R416), and no other counter moves. -/
theorem retireCore_counted (s : State) (k reason : Nat) (cmd : Option (Nat × Nat × Nat × Bool × Nat)) :
    tabGet (retireCore s k reason cmd).tst.ctr 18 0 = (tabGet s.tst.ctr 18 0 + 1) % 2 ^ 64 := by
  rw [retireCore_tst, tabGet_bump]

theorem retireCore_ctr_ne (s : State) (k reason : Nat) (cmd : Option (Nat × Nat × Nat × Bool × Nat)) {i : Nat} (h : i ≠ 18) :
    tabGet (retireCore s k reason cmd).tst.ctr i 0 = tabGet s.tst.ctr i 0 := by
  rw [retireCore_tst, tabGet_bump_ne _ _ h]

/-! ### A test begins (R24, R136, R381) -/

section
variable (s : State) (k : Nat)

theorem startTest_cores : (startTest s k).cores = tabSet s.cores k { coreAt s k with st := .underTest, bankOn := List.range 48 } := by
  unfold startTest
  dsimp only
  split <;> rfl

theorem startTest_basins : (startTest s k).basins = tabSet s.basins (basinOf k) { basinAt s (basinOf k) with underTest := some k } := by
  unfold startTest
  dsimp only
  split <;> rfl

theorem startTest_ctr : (startTest s k).tst.ctr =
    (if (coreAt s k).suspect.isSome then bump (bump s.tst.ctr 0 1) 3 1 else bump s.tst.ctr 0 1) := by
  unfold startTest
  dsimp only
  split <;> rfl

theorem startTest_frame : (startTest s k).ctxs = s.ctxs ∧ (startTest s k).mesh = s.mesh ∧ (startTest s k).heal = s.heal := by
  unfold startTest
  dsimp only
  split <;> exact ⟨rfl, rfl, rfl⟩

theorem startTest_core : coreAt (startTest s k) k = { coreAt s k with st := .underTest, bankOn := List.range 48 } := by
  rw [coreAt, startTest_cores, tabGet_tabSet_self]

theorem startTest_core_ne {j : Nat} (h : j ≠ k) : coreAt (startTest s k) j = coreAt s j := by
  rw [coreAt, startTest_cores, tabGet_tabSet_ne _ _ _ h, coreAt]

theorem startTest_basin : basinAt (startTest s k) (basinOf k) = { basinAt s (basinOf k) with underTest := some k } := by
  rw [basinAt, startTest_basins, tabGet_tabSet_self]

theorem startTest_counted : tabGet (startTest s k).tst.ctr 0 0 = (tabGet s.tst.ctr 0 0 + 1) % 2 ^ 64 := by
  rw [startTest_ctr]
  split
  · rw [tabGet_bump_ne _ _ (by decide), tabGet_bump]
  · rw [tabGet_bump]

/-- A priority test is counted as one (R416). -/
theorem startTest_priority (h : (coreAt s k).suspect.isSome = true) :
    tabGet (startTest s k).tst.ctr 3 0 = (tabGet s.tst.ctr 3 0 + 1) % 2 ^ 64 := by
  rw [startTest_ctr, if_pos h, tabGet_bump, tabGet_bump_ne _ _ (by decide)]

end

/-! ### A migration is staged (R383) -/

theorem stageMove_core (s : State) (n slot k j : Nat) : coreAt (stageMove s n slot k j) j = { coreAt s j with reserved := true } :=
  coreAt_putCore s j _

theorem stageMove_core_ne (s : State) (n slot k : Nat) {i j : Nat} (h : i ≠ j) : coreAt (stageMove s n slot k j) i = coreAt s i :=
  coreAt_putCore_ne s _ h

theorem stageMove_counted (s : State) (n slot k j : Nat) :
    tabGet (stageMove s n slot k j).tst.ctr 4 0 = (tabGet s.tst.ctr 4 0 + 1) % 2 ^ 64 := tabGet_bump s.tst.ctr 4 1

/-! ### The sweep (R381 to R383) -/

/-- A basin's sweep goes on past a place. -/
def sweepOn (s : State) (b i : Nat) : State := putBasin s b { basinAt s b with sweepPos := (i + 1) % 576 }

theorem idleSweepStep_notDue {s : State} {b : Nat} (hb : b < 16) (h : sweepDue s b = false) : exec (.idleSweepStep b) s = .next s := by
  simp [exec_idleSweepStep, execIdleSweepStep, runUnit_next _ s hb, h]

theorem idleSweepStep_at {s : State} {b i k : Nat} (hb : b < 16) (hdue : sweepDue s b = true)
    (hnext : nextSweep s b (basinAt s b).sweepPos = some (i, k)) : exec (.idleSweepStep b) s = .next (sweepCore s b i k) := by
  simp [exec_idleSweepStep, execIdleSweepStep, runUnit_next _ s hb, hdue, hnext]

section
variable {s : State} {b i k : Nat} (hmargin : (dieAt s (dieOf k)).margin = 0) (hheld : (coreAt s k).held = false)
  (hreserved : (coreAt s k).reserved = false) (hmoving : moving s k = false)
include hmargin hheld hreserved hmoving

theorem sweepCore_postponed (h : testAllowed s k = false) : sweepCore s b i k = bumpTst s 5 1 := by
  simp [sweepCore, hmargin, hheld, hreserved, hmoving, h]

theorem sweepCore_spare (h : testAllowed s k = true) (hst : (coreAt s k).st = .spare) :
    sweepCore s b i k = sweepOn (startTest s k) b i := by
  simp [sweepCore, hmargin, hheld, hreserved, hmoving, h, hst, sweepOn]

variable {slot n : Nat} (h : testAllowed s k = true) (hst : (coreAt s k).st = .inUse) (hslot : (coreAt s k).slot = some slot)
  (hctx : (basinAt s b).ctx = some n) (hbusy : pathBusy s n = false)
include h hst hslot hctx hbusy

theorem sweepCore_moves {j : Nat} (hspare : spareFor s n k (isFresh s) = some j) :
    sweepCore s b i k = sweepOn (stageMove s n slot k j) b i := by
  simp [sweepCore, hmargin, hheld, hreserved, hmoving, h, hst, hslot, hctx, hbusy, hspare, sweepOn]

theorem sweepCore_skips (hspare : spareFor s n k (isFresh s) = none) : sweepCore s b i k = sweepOn (bumpTst s 6 1) b i := by
  simp [sweepCore, hmargin, hheld, hreserved, hmoving, h, hst, hslot, hctx, hbusy, hspare, sweepOn]

end

/-! ### A test ends (R24, R156, R381, R384) -/

theorem idleTest_none {s : State} {b : Nat} (hb : b < 16) (pass : Bool) (h : (basinAt s b).underTest = none) :
    exec (.idleTest b pass) s = .next s := by
  simp [exec_idleTest, execIdleTest, runUnit_next _ s hb, h]

section
variable {s : State} {b k : Nat} (hb : b < 16) (hunder : (basinAt s b).underTest = some k)
include hb hunder

theorem idleTest_gone (pass : Bool) (hst : (coreAt s k).st ≠ .underTest) :
    exec (.idleTest b pass) s = .next (putBasin s b { basinAt s b with underTest := none }) := by
  simp [exec_idleTest, execIdleTest, runUnit_next _ s hb, hunder, hst]

/-- A core as a test that it passed leaves it. -/
def passedCore (s : State) (k : Nat) : Core := { clearedCore (coreAt s k) with
  st := .spare, suspect := none, lastPass := some s.sup.ticks,
  lastPrio := if (coreAt s k).suspect.isSome then some s.sup.ticks else (coreAt s k).lastPrio, window := [] }

theorem idleTest_passes (hst : (coreAt s k).st = .underTest) : exec (.idleTest b true) s =
    .next (bumpTst (putCore (putBasin s b { basinAt s b with underTest := none }) k (passedCore s k)) 1 1) := by
  simp only [exec_idleTest, execIdleTest, runUnit_next _ s hb, hunder, hst, ne_eq, not_true_eq_false, if_false, if_true]
  rfl

/-- A state in which a failed test has been counted, and what its core had run has been noticed. -/
def failedNoticed (s : State) (b k : Nat) : State :=
  noticeFor (bumpTst (putBasin s b { basinAt s b with underTest := none }) 2 1) k ((coreAt s k).suspect.getD 1) 1

theorem idleTest_fails (hst : (coreAt s k).st = .underTest) : exec (.idleTest b false) s =
    .next (retireCore (putCore (failedNoticed s b k) k (clearedCore (coreAt (failedNoticed s b k) k))) k
      ((coreAt s k).suspect.getD 1) none) := by
  simp only [exec_idleTest, execIdleTest, runUnit_next _ s hb, hunder, hst, ne_eq, not_true_eq_false, if_false, Bool.false_eq_true]
  rfl

end

/-- The claim on idle tests. -/
theorem idleTests : Claims.IdleTests := by
  intro s b hb x cnt
  refine ⟨idleSweepStep_notDue hb, fun i k hdue hnext hbasin hmargin hheld hreserved hmoving => ?_,
    fun pass => idleTest_none hb pass, fun k pass hunder => idleTest_gone hb hunder pass, fun k hunder hst => ⟨?_, ?_⟩⟩
  · have hstep := idleSweepStep_at hb hdue hnext
    refine ⟨fun h => ?_, fun h hst hsuspect => ?_, fun slot n h hst hslot hctx hbusy => ⟨fun j hspare => ?_, fun hspare => ?_⟩⟩
    · rw [hstep, sweepCore_postponed hmargin hheld hreserved hmoving h]
    · rw [sweepCore_spare hmargin hheld hreserved hmoving h hst] at hstep
      obtain ⟨hctxs, hmesh, hheal⟩ := startTest_frame s k
      subst hbasin
      refine ⟨_, hstep, startTest_core s k, ?_, ?_, startTest_counted s k, fun j hj => startTest_core_ne s k hj, hctxs, hmesh, hheal⟩
      · rw [sweepOn, basinAt_putBasin, startTest_basin]
      · rw [sweepOn, basinAt_putBasin]
    · rw [sweepCore_moves hmargin hheld hreserved hmoving h hst hslot hctx hbusy hspare] at hstep
      refine ⟨_, hstep, rfl, stageMove_core s n slot k j, fun i hi => stageMove_core_ne s n slot k hi,
        stageMove_counted s n slot k j, ?_⟩
      rw [sweepOn, basinAt_putBasin]
    · rw [sweepCore_skips hmargin hheld hreserved hmoving h hst hslot hctx hbusy hspare] at hstep
      refine ⟨_, hstep, rfl, rfl, tabGet_bump s.tst.ctr 6 1, ?_⟩
      rw [sweepOn, basinAt_putBasin]
  · refine ⟨_, idleTest_passes hb hunder hst, ?_, coreAt_putCore _ k _, tabGet_bump s.tst.ctr 1 1,
      fun j hj => coreAt_putCore_ne _ _ hj, rfl⟩
    exact congrArg Basin.underTest (basinAt_putBasin s b _)
  · have hcores : (failedNoticed s b k).cores = s.cores := noticeFor_cores _ k _ 1
    have hbasins : (failedNoticed s b k).basins = tabSet s.basins b { x with underTest := none } := noticeFor_basins _ k _ 1
    have hheal : (failedNoticed s b k).heal = s.heal := noticeFor_heal _ k _ 1
    have hctr : (failedNoticed s b k).tst.ctr = bump s.tst.ctr 2 1 := congrArg Tst.ctr (noticeFor_tst _ k _ 1)
    have hfails := idleTest_fails hb hunder hst
    have hcore : coreAt (failedNoticed s b k) k = coreAt s k := by rw [coreAt, hcores, coreAt]
    generalize failedNoticed s b k = u at hfails hcores hbasins hheal hctr hcore
    refine ⟨_, hfails, ?_, ?_, fun j hj => ?_, ?_, ?_, ?_⟩
    · rw [basinAt, retireCore_basins, putCore_basins, hbasins, tabGet_tabSet_self]
    · rw [coreAt_retireCore, coreAt_putCore, hcore]
    · rw [coreAt_retireCore_ne _ _ _ _ hj, coreAt_putCore_ne _ _ hj, coreAt, hcores, coreAt]
    · rw [retireCore_heal, putCore_heal, hheal]
    · refine (retireCore_ctr_ne _ _ _ _ (by decide)).trans ?_
      rw [putCore_tst, hctr, tabGet_bump]
    · refine (retireCore_counted _ _ _ _).trans ?_
      rw [putCore_tst, hctr, tabGet_bump_ne _ _ (by decide)]

/-! ### Priority tests (R379, R383) -/

/-- A basin whose test order no longer names a core. -/
def untestOrder (s : State) (b k : Nat) : State :=
  putBasin s b { basinAt s b with testOrder := (basinAt s b).testOrder.filter (· != k) }

theorem priorityTest_due {s : State} {b k : Nat} (hb : b < 16) (hunder : (basinAt s b).underTest = none) (hready : s.glb.ready = true)
    (hfind : (coresOfBasin b).find? (prioDue s) = some k) : exec (.priorityTest b) s = .next (prioCore (untestOrder s b k) k) := by
  simp [exec_priorityTest, execPriorityTest, runUnit_next _ s hb, hunder, hready, hfind, untestOrder]

theorem untestOrder_ctx (s : State) (b k j : Nat) : (basinAt (untestOrder s b k) j).ctx = (basinAt s j).ctx := by
  unfold untestOrder
  by_cases h : j = b
  · subst h
    rw [basinAt_putBasin]
  · rw [basinAt_putBasin_ne s _ h]

theorem pathBusy_untestOrder (s : State) (b k n : Nat) : pathBusy (untestOrder s b k) n = pathBusy s n := by
  have hctx := untestOrder_ctx s b k
  simp only [pathBusy, hctx]
  rfl

theorem spareFor_untestOrder (s : State) (b k n : Nat) (f : Nat → Bool) : spareFor (untestOrder s b k) n k f = spareFor s n k f := by
  have hctx := untestOrder_ctx s b k
  simp only [spareFor, grantOf, hctx]

section
variable {s : State} {k : Nat}

theorem prioCore_spare (hsecond : secondTime s k = false) (hst : (coreAt s k).st = .spare) (hheld : (coreAt s k).held = false)
    (hreserved : (coreAt s k).reserved = false) (h : testAllowed s k = true) : prioCore s k = startTest s k := by
  simp [prioCore, hsecond, hst, hheld, hreserved, h]

theorem prioCore_moves {slot n j : Nat} (hsecond : secondTime s k = false) (hst : (coreAt s k).st = .inUse)
    (hslot : (coreAt s k).slot = some slot) (hctx : (basinAt s (basinOf k)).ctx = some n) (hbusy : pathBusy s n = false)
    (hspare : spareFor s n k (freeSpare s) = some j) : prioCore s k = stageMove s n slot k j := by
  simp [prioCore, hsecond, hst, hslot, hctx, hbusy, hspare]

theorem prioCore_second (hsecond : secondTime s k = true) (hst : (coreAt s k).st = .spare) :
    prioCore s k = retireCore (noticeFor s k ((coreAt s k).suspect.getD 1) 1) k ((coreAt s k).suspect.getD 1) none := by
  simp [prioCore, hsecond, hst, retireSuspect]

end

/-- The claim on priority tests. -/
theorem priorityTests : Claims.PriorityTests := by
  intro s b k hb hunder hready hfind hbasin c cnt
  have hstep := priorityTest_due hb hunder hready hfind
  subst hbasin
  refine ⟨fun hsecond hst hheld hreserved h => ?_, fun slot n j hsecond hst hslot hctx hbusy hspare => ?_, fun hsecond hst => ?_⟩
  · have hsuspect : (coreAt s k).suspect.isSome = true := by
      have hdue := List.find?_some hfind
      simp only [prioDue, wantsTest, Bool.and_eq_true] at hdue
      exact hdue.1.1.1
    rw [prioCore_spare (s := untestOrder s (basinOf k) k) hsecond hst hheld hreserved h] at hstep
    refine ⟨_, hstep, startTest_core _ k, ?_, startTest_counted _ k, startTest_priority _ k hsuspect,
      fun j hj => startTest_core_ne _ k hj⟩
    rw [startTest_basin]
  · rw [prioCore_moves (s := untestOrder s (basinOf k) k) hsecond hst hslot ((untestOrder_ctx s _ k _).trans hctx)
      ((pathBusy_untestOrder s _ k n).trans hbusy) ((spareFor_untestOrder s _ k n _).trans hspare)] at hstep
    exact ⟨_, hstep, rfl, stageMove_core _ n slot k j, fun i hi => stageMove_core_ne _ n slot k hi⟩
  · rw [prioCore_second (s := untestOrder s (basinOf k) k) hsecond hst] at hstep
    have hu := noticeFor_unrecorded (untestOrder s (basinOf k) k) k ((coreAt (untestOrder s (basinOf k) k) k).suspect.getD 1) 1
    generalize noticeFor (untestOrder s (basinOf k) k) k _ 1 = u at hstep hu
    have hcores : u.cores = s.cores := (cores_of_unrecorded hu).trans rfl
    have hcore : coreAt u k = coreAt s k := by rw [coreAt, hcores, coreAt]
    refine ⟨_, hstep, ?_, fun j hj => ?_, ?_, ?_⟩
    · rw [coreAt_retireCore, hcore]
    · rw [coreAt_retireCore_ne _ _ _ _ hj, coreAt, hcores, coreAt]
    · rw [retireCore_heal, heal_of_unrecorded hu]
      rfl
    · refine (retireCore_ctr_ne _ _ _ _ (by decide)).trans ?_
      rw [tst_of_unrecorded hu]
      rfl

/-- Settles O49: each way a sweep, a test and a priority test can end. -/
theorem coreTests : Obligations.CoreTests := ⟨idleTests, priorityTests⟩

end Sys2Proof.Machine

/-! PROOFS. A reset, the clears of start-up, and what the settings and the ledger's replay keep. -/

namespace Sys2Proof.Machine

theorem exec_moduleReset (s : State) : exec .moduleReset s = execModuleReset s := rfl

theorem exec_startUp (boot : BootIn) (s : State) : exec (.startUp boot) s = execStartUp boot s := rfl

theorem exec_startupClear (s : State) : exec .startupClear s = execStartupClear s := rfl

theorem exec_pushComplete (boot : BootIn) (s : State) : exec (.pushComplete boot) s = execPushComplete boot s := rfl

/-! ### PERST_N low (R440, R456, R462) -/

theorem stopPush_none {s : State} (h : s.trust.push = none) : stopPush s = s := by simp [stopPush, h]

/-- A push cut off changes the flash and draws a free value. -/
def unpushed (s : State) : State := { s with flash := {}, free := 0 }

theorem stopPush_unpushed (s : State) : unpushed (stopPush s) = unpushed s := by
  unfold stopPush
  split
  · rfl
  · split
    · rfl
    · split
      · rfl
      · dsimp only
        split <;> rfl

theorem stopPush_hbms (s : State) : (stopPush s).hbms = s.hbms := (congrArg State.hbms (stopPush_unpushed s) :)

theorem stopPush_cores (s : State) : (stopPush s).cores = s.cores := (congrArg State.cores (stopPush_unpushed s) :)

/-- A stack as a reset that keeps its contents leaves it. -/
def haltedHbm (h : Hbm) : Hbm := { ({} : Hbm) with
  mem := h.mem, poisonCw := h.poisonCw, temp := h.temp, halfRate := h.halfRate, usedSpares := h.usedSpares }

/-- A core as a reset that keeps its scratchpad leaves it. -/
def haltedCore (c : Core) : Core := { ({} : Core) with mem := c.mem, poisonCw := c.poisonCw }

theorem hbmAt_haltModule (s : State) (p : Phase) (b : Nat) : hbmAt (haltModule s p true) b = haltedHbm (hbmAt s b) := by
  rw [hbmAt, hbmAt, ← stopPush_hbms s]
  exact tabGet_map (fun e => haltedHbm e.2) (stopPush s).hbms b {}

theorem coreAt_haltModule (s : State) (p : Phase) (k : Nat) : coreAt (haltModule s p true) k = haltedCore (coreAt s k) := by
  rw [coreAt, coreAt, ← stopPush_cores s]
  exact tabGet_map (fun e => haltedCore e.2) (stopPush s).cores k {}

theorem haltModule_flash {s : State} (p : Phase) (keep : Bool) (h : s.trust.push = none) : (haltModule s p keep).flash = s.flash :=
  (rfl : _ = (stopPush s).flash).trans (congrArg State.flash (stopPush_none h))

/-- The state that PERST_N leaves when it goes low. -/
def resetHeld (s : State) : State :=
  { haltModule s .held true with pwr := { (haltModule s .held true).pwr with perstN := false } }

theorem moduleReset_powered {s : State} (h : s.sup.phase = .ready ∨ s.sup.phase = .held ∨ s.sup.phase = .recovery) :
    exec .moduleReset s = .next (resetHeld s) := by
  obtain h | h | h := h <;> simp [exec_moduleReset, execModuleReset, resetHeld, h]

/-! ### Tables read where nothing is listed -/

theorem tabGet_of_unlisted {α : Type} {t : Tab α} {k : Nat} (d : α) (h : ∀ e ∈ t, e.1 ≠ k) : tabGet t k d = d := by
  induction t with
  | nil => rfl
  | cons e t ih =>
    rw [tabGet, if_neg (h e (.head _))]
    exact ih fun e he => h e (.tail _ he)

/-! ### The clears of start-up (R156, R350, R465) -/

theorem freedCore_mem (c : Core) : (freedCore c).mem = [] := by
  unfold freedCore
  cases c.st <;> rfl

/-- The cores of a basin cleared, the first part of a basin's clear. -/
def freeListed (s : State) (b : Nat) : State := forEach (listedIn s b) (fun s k => putCore s k (freedCore (coreAt s k))) s

theorem freeCore_mem_kept (s : State) (j k : Nat) (h : (coreAt s k).mem = []) :
    (coreAt (putCore s j (freedCore (coreAt s j))) k).mem = [] := by
  by_cases hk : k = j
  · subst hk
    rw [coreAt_putCore, freedCore_mem]
  · rw [coreAt_putCore_ne _ _ hk, h]

theorem freeListed_mem_kept (s : State) (b k : Nat) (h : (coreAt s k).mem = []) : (coreAt (freeListed s b) k).mem = [] :=
  forEach_holds (P := fun s => (coreAt s k).mem = []) (fun s j _ => freeCore_mem_kept s j k) h

theorem freeListed_mem (s : State) {b k : Nat} (h : basinOf k = b) : (coreAt (freeListed s b) k).mem = [] := by
  by_cases hk : k ∈ listedIn s b
  · exact forEach_all (Q := fun k s => (coreAt s k).mem = [])
      (fun s j _ => by rw [coreAt_putCore, freedCore_mem]) (fun s k j _ => freeCore_mem_kept s j k) s k hk
  · refine freeListed_mem_kept s b k ?_
    have hnone : coreAt s k = {} := tabGet_of_unlisted _ fun e he hek =>
      hk (List.mem_map.2 ⟨e, List.mem_filter.2 ⟨he, by simp [hek, h]⟩, hek⟩)
    rw [hnone]

theorem freeListed_basins (s : State) (b : Nat) : (freeListed s b).basins = s.basins :=
  forEach_keeps State.basins (fun s k _ => putCore_basins s k _) s

theorem freeListed_hbms (s : State) (b : Nat) : (freeListed s b).hbms = s.hbms :=
  forEach_keeps State.hbms (fun s k _ => putCore_hbms s k _) s

/-- A basin as its clear leaves it. -/
def clearedBasin (x : Basin) : Basin := { x with
  ctx := none, clearing := false, resetting := false, armed := none, objs := [], wedge := false,
  sectIdx := 0, sectFrom := 0, testOrder := x.testOrder, underTest := none }

/-- A stack as the clear of its basin leaves it. -/
def clearedHbm (h : Hbm) : Hbm := { h with mem := [], poisonCw := [], holds := [], restores := [], sweeps := [] }

theorem clearBasin_eq (s : State) (b : Nat) : clearBasin s b =
    putBasin (putHbm (freeListed s b) b (clearedHbm (hbmAt (freeListed s b) b))) b (clearedBasin (basinAt (freeListed s b) b)) := rfl

theorem basinAt_clearBasin (s : State) (b : Nat) : basinAt (clearBasin s b) b = clearedBasin (basinAt s b) := by
  rw [clearBasin_eq, basinAt_putBasin, basinAt, freeListed_basins, basinAt]

theorem basinAt_clearBasin_ne (s : State) {b a : Nat} (h : a ≠ b) : basinAt (clearBasin s b) a = basinAt s a := by
  rw [clearBasin_eq, basinAt_putBasin_ne _ _ h, basinAt_putHbm, basinAt, freeListed_basins, basinAt]

theorem hbmAt_clearBasin (s : State) (b : Nat) : (hbmAt (clearBasin s b) b).mem = [] := by
  rw [clearBasin_eq, hbmAt_putBasin, hbmAt_putHbm, clearedHbm]

theorem hbmAt_clearBasin_ne (s : State) {b a : Nat} (h : a ≠ b) : hbmAt (clearBasin s b) a = hbmAt s a := by
  rw [clearBasin_eq, hbmAt_putBasin, hbmAt_putHbm_ne _ _ h, hbmAt, freeListed_hbms, hbmAt]

/-- What the start-up clear of a basin leaves there (R465). -/
def BasinBlank (b : Nat) (s : State) : Prop :=
  (basinAt s b).clearing = false ∧ (basinAt s b).ctx = none ∧ (hbmAt s b).mem = [] ∧ ∀ k, basinOf k = b → (coreAt s k).mem = []

theorem clearBasin_blank (s : State) (b : Nat) : BasinBlank b (clearBasin s b) := by
  refine ⟨?_, ?_, hbmAt_clearBasin s b, fun k hk => freeListed_mem s hk⟩
  · rw [basinAt_clearBasin, clearedBasin]
  · rw [basinAt_clearBasin, clearedBasin]

theorem clearBasin_keeps_blank (s : State) (a b : Nat) (h : BasinBlank a s) : BasinBlank a (clearBasin s b) := by
  by_cases hab : a = b
  · subst hab
    exact clearBasin_blank s a
  · obtain ⟨hclearing, hctx, hmem, hcores⟩ := h
    unfold BasinBlank
    rw [basinAt_clearBasin_ne s hab, hbmAt_clearBasin_ne s hab]
    exact ⟨hclearing, hctx, hmem, fun k hk => freeListed_mem_kept s b k (hcores k hk)⟩

theorem clears_blank (s : State) : ∀ b ∈ List.range 16, BasinBlank b (forEach (List.range 16) clearBasin s) :=
  forEach_all (Q := BasinBlank) (fun s b _ => clearBasin_blank s b) (fun s a b _ => clearBasin_keeps_blank s a b) s

theorem startupClear_due {s : State} (h : s.sup.clearing = true) : exec .startupClear s =
    .next { forEach (List.range 16) clearBasin s with
      sup := { (forEach (List.range 16) clearBasin s).sup with clearing := false } } := by
  simp [exec_startupClear, execStartupClear, h]

/-- The claim on the clears of start-up. -/
theorem startupClears (s : State) : (s.sup.clearing = true →
      ∃ t : State, exec .startupClear s = .next t ∧ t.sup.clearing = false ∧
        (∀ b, b < 16 → (basinAt t b).clearing = false ∧ (basinAt t b).ctx = none ∧ ∀ a, memGet (hbmAt t b).mem a = 0) ∧
        ∀ k, tabHas s.cores k = true → basinOf k < 16 → ∀ a, memGet (coreAt t k).mem a = 0) ∧
    (s.sup.clearing = false → exec .startupClear s = .next s) := by
  refine ⟨fun h => ?_, fun h => by simp [exec_startupClear, execStartupClear, h]⟩
  have hblank := clears_blank s
  have hstep := startupClear_due h
  generalize forEach (List.range 16) clearBasin s = u at hblank hstep
  refine ⟨_, hstep, rfl, fun b hb => ?_, fun k _ hk a => ?_⟩
  · obtain ⟨hclearing, hctx, hmem, -⟩ := hblank b (List.mem_range.2 hb)
    exact ⟨hclearing, hctx, fun a => (congrArg (memGet · a) hmem).trans rfl⟩
  · obtain ⟨-, -, -, hcores⟩ := hblank _ (List.mem_range.2 hk)
    exact (congrArg (memGet · a) (hcores k rfl)).trans rfl

/-! ### What the steps of start-up keep: the keys, the image in flash and the firmware's version (R463) -/

/-- What step 5 of start-up has set and no later step changes. -/
def imaged (s : State) : Trust × Option FwImage × Nat := (s.trust, s.flash.image, s.sup.fwMajor)

section
variable {s t : State} (h : imaged t = imaged s)
include h

theorem trust_of_imaged : t.trust = s.trust := congrArg Prod.fst h
theorem image_of_imaged : t.flash.image = s.flash.image := congrArg (fun v => v.2.1) h
theorem version_of_imaged : t.sup.fwMajor = s.sup.fwMajor := congrArg (fun v => v.2.2) h

end

/-- A state but for what a setting may write: the registers of stacks, tests, mesh, basins and GLB_, and message records. -/
def unset (s : State) : State := { unrecorded s with glb := {}, hbms := [], tst := {}, mesh := {}, basins := [] }

theorem voteReg_unset (s : State) (o : Nat) : unset (voteReg s o) = unset s := by
  unfold voteReg
  split
  · rfl
  · dsimp only
    split <;> rfl

theorem applyMesh_unset (s : State) : unset (applyMesh s) = unset s := voteReg_unset s 0x30010

theorem writeHbm_unset {s : State} {b o v w : Nat} (h : o = 0x08 ∨ o = 0x10 ∨ o = 0x18) : unset (writeHbm s b o v w) = unset s := by
  obtain rfl | rfl | rfl := h <;> rfl

theorem writeTst_unset {s : State} {o v w : Nat} (h : o = 0x00 ∨ o = 0x08 ∨ o = 0x10 ∨ o = 0x18) :
    unset (writeTst s o v w) = unset s := by
  obtain rfl | rfl | rfl | rfl := h <;> rfl

theorem writeBsn_unset {s : State} {b o v : Nat} (h : o = 0x10 ∨ o = 0x18) : unset (writeBsn s b o v) = unset s := by
  obtain rfl | rfl := h <;> rfl

theorem applySetting_unset (s : State) (e : Nat × Nat) : unset (applySetting s e) = unset s := by
  unfold applySetting
  dsimp only
  split
  case h_1 | h_2 | h_3 => exact forEach_keeps unset (fun s b _ => writeHbm_unset (by decide)) s
  case h_4 | h_5 | h_6 | h_7 => exact writeTst_unset (by decide)
  case h_8 => rfl
  case h_9 =>
    split
    · rfl
    · exact applyMesh_unset _
  case h_10 | h_11 => exact forEach_keeps unset (fun s b _ => writeBsn_unset (by decide)) s
  case h_12 => rfl
  case h_13 => rfl

/-- A state but for what step 6 of start-up changes. -/
def unsettled (s : State) : State := { unset s with
  flash := { s.flash with settingsA := none, settingsB := none }, sup := { s.sup with settings := [], settingsSeq := 0 } }

theorem unsettled_of_unset {s t : State} (h : unset t = unset s) : unsettled t = unsettled s :=
  (congrArg (fun u : State => { u with
    flash := { u.flash with settingsA := none, settingsB := none }, sup := { u.sup with settings := [], settingsSeq := 0 } }) h :)

theorem loadSettings_unsettled (s : State) : unsettled (loadSettings s) = unsettled s := by
  unfold loadSettings
  split
  · rfl
  next r _ =>
    exact (unsettled_of_unset (forEach_keeps (l := r.entries) unset (fun s e _ => applySetting_unset s e) _)).trans rfl

theorem loadSettings_cores (s : State) : (loadSettings s).cores = s.cores := (congrArg State.cores (loadSettings_unsettled s) :)

theorem loadSettings_imaged (s : State) : imaged (loadSettings s) = imaged s := (congrArg imaged (loadSettings_unsettled s) :)

/-- The ledger of the pair that start-up takes. -/
def startLedger (f : Flash) : List LPos := ledgerPair { f with usePair1 := pairInUse f }

theorem loadSettings_ledger (s : State) : startLedger (loadSettings s).flash = startLedger s.flash :=
  (congrArg (fun u : State => startLedger u.flash) (loadSettings_unsettled s) :)

theorem imaged_of_unretired {s t : State} (h : unretired t = unretired s) : imaged t = imaged s := (congrArg imaged h :)

theorem sup_of_unretired {s t : State} (h : unretired t = unretired s) : t.sup = s.sup := (congrArg State.sup h :)

theorem retireSite_unretired (s : State) (k : Nat) : unretired (retireSite s k) = unretired s := by
  unfold retireSite
  split <;> rfl

theorem retireStack_unretired (s : State) (d reason : Nat) : unretired (retireStack s d reason) = unretired s := by
  unfold retireStack
  exact (forEach_keeps unretired (fun s k _ => retireSite_unretired s k) _).trans rfl

theorem replayRec_unretired (s : State) (r : LRec) : unretired (replayRec s r) = unretired s := by
  unfold replayRec
  split
  · split
    · exact retireSite_unretired s _
    · rfl
  · exact retireStack_unretired s _ _
  · rfl
  · rfl

end Sys2Proof.Machine

/-! PROOFS. The core map of start-up: ship-time defects, the ledger replayed, the tests of a damaged ledger. -/

namespace Sys2Proof.Machine

/-- A state but for what step 7 of start-up changes. -/
def unmapped (s : State) : State := { unretired s with glb := {}, flash :=
  { s.flash with pair0 := [], pair1 := [], usePair1 := false, ledgerRepairs := 0, ledgerSkips := 0 } }

theorem unmapped_of_unretired {s t : State} (h : unretired t = unretired s) : unmapped t = unmapped s :=
  (congrArg (fun u : State => { u with glb := {}, flash :=
    { u.flash with pair0 := [], pair1 := [], usePair1 := false, ledgerRepairs := 0, ledgerSkips := 0 } }) h :)

theorem imaged_of_unmapped {s t : State} (h : unmapped t = unmapped s) : imaged t = imaged s := (congrArg imaged h :)

/-! ### The core map (R24, R27 to R29) -/

/-- The records of the ledger in the order of their replay. -/
def ledgerRecs (l : List LPos) : List LRec := (l.filterMap posRec).foldr insertRec []

/-- The flash after the replay's repairs and counts (R28). -/
def repairedFlash (f : Flash) : Flash :=
  let g := { f with usePair1 := pairInUse f }
  let l := ledgerPair g
  { putLedger g (l.map repairPos) with
    ledgerRepairs := g.ledgerRepairs + repairCount l, ledgerSkips := g.ledgerSkips + ((ledgerRecs l).filter recSkipped).length }

/-- The ship-time defects entered in the core map, of cores and of routers (R24, R223). -/
def withDefects (s : State) : State :=
  forEach s.fuse.routerDefect (fun s d => retireStack s d 6)
    (forEach s.fuse.shipDefect (fun s k => putCore s k { coreAt s k with st := .shipDefect }) s)

/-- The core map with the ledger replayed, before any test (R27, R28). -/
def replayed (s : State) : State :=
  forEach ((ledgerRecs (startLedger s.flash)).filter (fun r => !recSkipped r)) replayRec
    (withDefects { s with flash := repairedFlash s.flash })

/-- The core map marked as built on a damaged ledger or on a sound one. -/
def ledgerMarked (s : State) (bad : Bool) : State := { s with glb := { s.glb with ledgerDamaged := bad } }

theorem buildMap_eq (s : State) (fails : List Nat) : buildMap s fails =
    if ledgerBad (startLedger s.flash) then testAll (ledgerMarked (replayed s) (ledgerBad (startLedger s.flash))) fails
    else ledgerMarked (replayed s) (ledgerBad (startLedger s.flash)) := rfl

/-- A core that fails the test of a damaged ledger (R29). -/
def failStartTest (s : State) (k : Nat) : State :=
  if CoreSt.good (coreAt s k).st then retireCore s k 1 none else askLedger s 1 1 k 0 none

/-- A core that passes it. -/
def passStartTest (s : State) (k : Nat) : State := putCore s k { coreAt s k with lastPass := some s.sup.ticks }

theorem failStartTest_unretired (s : State) (k : Nat) : unretired (failStartTest s k) = unretired s := by
  unfold failStartTest
  split
  · exact retireCore_unretired s k 1 none
  · rfl

theorem failStartTest_staysOut (s : State) (k : Nat) : StaysOut s (failStartTest s k) := by
  unfold failStartTest
  split
  next h =>
    intro j hj
    have hne : j ≠ k := fun e => by simp [e, h] at hj
    rw [coreAt_retireCore_ne _ _ _ _ hne]
  · exact .of_cores rfl

/-- The test counters of a damaged ledger's tests (R416). -/
def countTests (s : State) (all failed : Nat) : State := bumpTst (bumpTst (bumpTst s 0 all) 1 (all - failed)) 2 failed

/-- The cores that a damaged ledger has tested. -/
def testedCores (s : State) : List Nat := (List.range nCores).filter (fun k => (coreAt s k).st != .shipDefect)

theorem testAll_eq (s : State) (fails : List Nat) : testAll s fails =
    forEach ((testedCores s).filter (fun k => fails.contains k)) failStartTest
      (countTests (forEach ((testedCores s).filter (fun k => !fails.contains k)) passStartTest s)
        (testedCores s).length ((testedCores s).filter (fun k => fails.contains k)).length) := rfl

theorem passStartTest_unretired (s : State) (k : Nat) : unretired (passStartTest s k) = unretired s := rfl

theorem passStartTest_staysOut (s : State) (k : Nat) : StaysOut s (passStartTest s k) := putCore_staysOut s k _ (fun _ => rfl)

theorem bumpTst_unretired (s : State) (i n : Nat) : unretired (bumpTst s i n) = unretired s := rfl

theorem countTests_unretired (s : State) (all failed : Nat) : unretired (countTests s all failed) = unretired s := by
  rw [countTests, bumpTst_unretired, bumpTst_unretired, bumpTst_unretired]

theorem countTests_cores (s : State) (all failed : Nat) : (countTests s all failed).cores = s.cores := rfl

theorem testAll_unretired (s : State) (fails : List Nat) : unretired (testAll s fails) = unretired s := by
  rw [testAll_eq, forEach_keeps unretired (fun s k _ => failStartTest_unretired s k), countTests_unretired,
    forEach_keeps unretired (fun s k _ => passStartTest_unretired s k)]

/-- The tests of a damaged ledger bring no core back into service. -/
theorem testAll_staysOut (s : State) (fails : List Nat) : StaysOut s (testAll s fails) := by
  rw [testAll_eq]
  exact ((forEach_staysOut (fun s k _ => passStartTest_staysOut s k) s).trans (.of_cores (countTests_cores _ _ _))).trans
    (forEach_staysOut (fun s k _ => failStartTest_staysOut s k) _)

theorem withDefects_unretired (s : State) : unretired (withDefects s) = unretired s :=
  (forEach_keeps unretired (fun s d _ => retireStack_unretired s d 6) _).trans
    (forEach_keeps unretired (f := fun s k => putCore s k _) (fun _ _ _ => rfl) s)

theorem repairedFlash_unmapped (s : State) : unmapped { s with flash := repairedFlash s.flash } = unmapped s := by
  unfold repairedFlash
  dsimp only
  generalize pairInUse s.flash = pair
  cases pair <;> rfl

theorem replayed_unmapped (s : State) : unmapped (replayed s) = unmapped s :=
  (unmapped_of_unretired ((forEach_keeps unretired (fun s r _ => replayRec_unretired s r) _).trans
    (withDefects_unretired _))).trans (repairedFlash_unmapped s)

theorem ledgerMarked_unmapped (s : State) (bad : Bool) : unmapped (ledgerMarked s bad) = unmapped s := rfl

theorem buildMap_unmapped (s : State) (fails : List Nat) : unmapped (buildMap s fails) = unmapped s := by
  rw [buildMap_eq]
  split
  · rw [unmapped_of_unretired (testAll_unretired _ fails), ledgerMarked_unmapped, replayed_unmapped]
  · rw [ledgerMarked_unmapped, replayed_unmapped]

theorem replayed_staysOut (s : State) (fails : List Nat) : StaysOut (replayed s) (buildMap s fails) := by
  rw [buildMap_eq]
  have hmark : StaysOut (replayed s) (ledgerMarked (replayed s) (ledgerBad (startLedger s.flash))) := .of_cores rfl
  split
  · exact hmark.trans (testAll_staysOut _ fails)
  · exact hmark

/-- The core map's two entries that last: a ship-time defect, a core RETIRED. -/
def Lasting (x : CoreSt) : Prop := x = .shipDefect ∨ x = .retired

theorem Lasting.out {x : CoreSt} (h : Lasting x) : x.good = false := by
  obtain rfl | rfl := h <;> rfl

theorem retireSite_st (s : State) (k : Nat) :
    (coreAt (retireSite s k) k).st = if (coreAt s k).st = .shipDefect then .shipDefect else .retired := by
  unfold retireSite
  split
  next h => exact h
  next => rw [coreAt_putCore]

theorem coreAt_retireSite_ne (s : State) {k j : Nat} (h : j ≠ k) : coreAt (retireSite s k) j = coreAt s j := by
  unfold retireSite
  split
  · rfl
  · exact coreAt_putCore_ne _ _ h

/-- In a step that only enters records in the core map, ship-time defects stay, RETIRED cores stay, and no defect is added. -/
structure MapGrows (s t : State) : Prop where
  lasting : ∀ j x, Lasting x → (coreAt s j).st = x → (coreAt t j).st = x
  undefective : ∀ j, (coreAt s j).st ≠ .shipDefect → (coreAt t j).st ≠ .shipDefect

theorem MapGrows.of_cores {s t : State} (h : t.cores = s.cores) : MapGrows s t :=
  ⟨fun j x _ hj => by simpa [coreAt, h] using hj, fun j hj => by simpa [coreAt, h] using hj⟩

theorem MapGrows.trans {s t u : State} (h : MapGrows s t) (g : MapGrows t u) : MapGrows s u :=
  ⟨fun j x hx hj => g.lasting j x hx (h.lasting j x hx hj), fun j hj => g.undefective j (h.undefective j hj)⟩

theorem forEach_mapGrows {α : Type} {l : List α} {f : State → α → State} (h : ∀ s a, MapGrows s (f s a)) (s : State) :
    MapGrows s (forEach l f s) :=
  forEach_holds (P := MapGrows s) (fun t a _ ht => ht.trans (h t a)) (.of_cores rfl)

theorem retireSite_mapGrows (s : State) (k : Nat) : MapGrows s (retireSite s k) := by
  refine ⟨fun j x hx hj => ?_, fun j hj => ?_⟩
  · by_cases h : j = k
    · subst h
      rw [retireSite_st, hj]
      obtain rfl | rfl := hx <;> simp
    · rw [coreAt_retireSite_ne s h, hj]
  · by_cases h : j = k
    · subst h
      simp [retireSite_st, hj]
    · rwa [coreAt_retireSite_ne s h]

theorem retireStack_mapGrows (s : State) (d reason : Nat) : MapGrows s (retireStack s d reason) := by
  unfold retireStack
  dsimp only
  generalize coresOfDie d = l
  exact (MapGrows.of_cores (putDie_cores s d _)).trans (forEach_mapGrows (fun s k => retireSite_mapGrows s k) _)

theorem replayRec_mapGrows (s : State) (r : LRec) : MapGrows s (replayRec s r) := by
  unfold replayRec
  split
  · split
    · exact retireSite_mapGrows s _
    · exact .of_cores rfl
  · exact retireStack_mapGrows s _ _
  · exact .of_cores rfl
  · exact .of_cores rfl

theorem mem_insertRec {r q : LRec} {l : List LRec} : q ∈ insertRec r l ↔ q = r ∨ q ∈ l := by
  induction l with
  | nil => simp [insertRec]
  | cons p l ih =>
    rw [insertRec]
    split
    · simp
    · simp [ih, or_left_comm]

theorem mem_foldr_insertRec {q : LRec} {l : List LRec} : q ∈ l.foldr insertRec [] ↔ q ∈ l := by
  induction l with
  | nil => simp
  | cons p l ih => simp [mem_insertRec, ih]

/-- The cores of the defect list are ship-time defects in the map. -/
theorem withDefects_defect (s : State) : ∀ k ∈ s.fuse.shipDefect, (coreAt (withDefects s) k).st = .shipDefect := by
  intro k hk
  unfold withDefects
  refine (forEach_mapGrows (fun s d => retireStack_mapGrows s d 6) _).lasting k _ (.inl rfl) ?_
  refine forEach_all (Q := fun k s => (coreAt s k).st = .shipDefect) (fun s k _ => by rw [coreAt_putCore])
    (fun s a b _ ha => ?_) s k hk
  by_cases h : a = b
  · subst h
    rw [coreAt_putCore]
  · rwa [coreAt_putCore_ne _ _ h]

/-- No other core becomes one. -/
theorem withDefects_undefective {s : State} {k : Nat} (hk : k ∉ s.fuse.shipDefect) (h : (coreAt s k).st ≠ .shipDefect) :
    (coreAt (withDefects s) k).st ≠ .shipDefect := by
  unfold withDefects
  refine (forEach_mapGrows (fun s d => retireStack_mapGrows s d 6) _).undefective k ?_
  refine forEach_holds (P := fun s => (coreAt s k).st ≠ .shipDefect) (fun s j hj hs => ?_) h
  rwa [coreAt_putCore_ne _ _ (fun e : k = j => hk (e ▸ hj))]

theorem buildMap_defect (s : State) (fails : List Nat) {k : Nat} (hk : k ∈ s.fuse.shipDefect) :
    (coreAt (buildMap s fails) k).st = .shipDefect := by
  have h : (coreAt (replayed s) k).st = .shipDefect :=
    (forEach_mapGrows (fun s r => replayRec_mapGrows s r) _).lasting k _ (.inl rfl) (withDefects_defect _ k hk)
  rw [replayed_staysOut s fails k (by rw [h]; rfl), h]

/-- A record of type 1 leaves its core RETIRED, or a ship-time defect as it was (R24, R27). -/
def RecordedOut (r : LRec) (s : State) : Prop := r.type = 1 → r.target < nCores → Lasting (coreAt s r.target).st

theorem replayRec_recordedOut (s : State) (r : LRec) : RecordedOut r (replayRec s r) := by
  intro htype hlt
  simp only [replayRec, htype, if_pos hlt, retireSite_st]
  split
  · exact .inl rfl
  · exact .inr rfl

theorem buildMap_retired (s : State) (fails : List Nat) {p : LPos} {r : LRec} (hp : p ∈ startLedger s.flash) (hr : posRec p = some r)
    (htype : r.type = 1) (hlt : r.target < nCores) (hk : r.target ∉ s.fuse.shipDefect) (hst : (coreAt s r.target).st ≠ .shipDefect) :
    (coreAt (buildMap s fails) r.target).st = .retired := by
  have hmem : r ∈ (ledgerRecs (startLedger s.flash)).filter (fun r => !recSkipped r) := by
    have hrec : r ∈ ledgerRecs (startLedger s.flash) := mem_foldr_insertRec.2 (List.mem_filterMap.2 ⟨p, hp, hr⟩)
    exact List.mem_filter.2 ⟨hrec, by simp [recSkipped, htype, hlt]⟩
  have hout : RecordedOut r (replayed s) :=
    forEach_all (fun s r _ => replayRec_recordedOut s r)
      (fun s r q _ h ht hl => by
        obtain h | h := h ht hl
        · exact .inl ((replayRec_mapGrows s q).lasting _ _ (.inl rfl) h)
        · exact .inr ((replayRec_mapGrows s q).lasting _ _ (.inr rfl) h)) _ r hmem
  have hsound : (coreAt (replayed s) r.target).st ≠ .shipDefect :=
    (forEach_mapGrows (fun s r => replayRec_mapGrows s r) _).undefective _ (withDefects_undefective hk hst)
  have h : (coreAt (replayed s) r.target).st = .retired := (hout htype hlt).resolve_left hsound
  rw [replayed_staysOut s fails _ (by rw [h]; rfl), h]

end Sys2Proof.Machine

/-! PROOFS. Start-up from the core map to READY, and the end of a push. -/

namespace Sys2Proof.Machine

/-! ### Clocks, col tables, stacks, READY (R226, R270, R271, R463, R465, R492) -/

/-- A state but for the dies. -/
def undied (s : State) : State := { s with dies := [] }

/-- Every clock of the dies running. -/
def clocked (s : State) : State := forEach (List.range 64) (fun s d => putDie s d { dieAt s d with pll := true, ctlPll := true }) s

theorem clocked_undied (s : State) : undied (clocked s) = undied s :=
  forEach_keeps undied (f := fun s d => putDie s d { dieAt s d with pll := true, ctlPll := true }) (fun _ _ _ => rfl) s

theorem startClocks_eq (s : State) : startClocks s =
    countStart { clocked s with sup := { (clocked s).sup with ticking := true, ticks := 0 } } 128 := rfl

theorem startClocks_cores (s : State) : (startClocks s).cores = s.cores := by
  have h := clocked_undied s
  rw [startClocks_eq]
  generalize clocked s = t at h
  exact (congrArg State.cores h :)

theorem startClocks_imaged (s : State) : imaged (startClocks s) = imaged s := by
  have h := clocked_undied s
  rw [startClocks_eq]
  generalize clocked s = t at h
  exact (congrArg imaged h :)

/-- The tick counters start from 0 (R492). -/
theorem startClocks_ticks (s : State) : (startClocks s).sup.ticking = true ∧ (startClocks s).sup.ticks = 0 := ⟨rfl, rfl⟩

theorem dropStack_unretired (reason : Nat) (s : State) (d : Nat) : unretired (dropStack reason s d) = unretired s := by
  unfold dropStack
  split
  · rfl
  · exact (retireDie_unretired _ d reason none).trans rfl

theorem dropStack_staysOut (reason : Nat) (s : State) (d : Nat) : StaysOut s (dropStack reason s d) := by
  unfold dropStack
  split
  · exact .refl s
  · exact (StaysOut.of_cores (putDie_cores s d _)).trans (retireDie_staysOut _ d reason none)

/-- The stacks without their rails, and those no col table can reach, dropped (R226, R455). -/
def stacksDropped (s : State) (unreachable : List Nat) : State :=
  let s1 := forEach ((List.range 64).filter (fun d => !(dieAt s d).railOn)) (dropStack 6) s
  forEach ((List.range 64).filter (fun d => unreachable.contains d)) (dropStack 5) s1

theorem stacksDropped_unretired (s : State) (l : List Nat) : unretired (stacksDropped s l) = unretired s :=
  (forEach_keeps unretired (fun s d _ => dropStack_unretired 5 s d) _).trans
    (forEach_keeps unretired (fun s d _ => dropStack_unretired 6 s d) s)

theorem stacksDropped_staysOut (s : State) (l : List Nat) : StaysOut s (stacksDropped s l) :=
  (forEach_staysOut (fun s d _ => dropStack_staysOut 6 s d) s).trans (forEach_staysOut (fun s d _ => dropStack_staysOut 5 s d) _)

theorem loadTables_eq (s : State) (l : List Nat) : loadTables s l = { stacksDropped s l with mesh := { (stacksDropped s l).mesh with
    epoch := false, oldBank := false, gaps0 := (List.range 64).filter (isGap (stacksDropped s l)),
    gaps1 := (List.range 64).filter (isGap (stacksDropped s l)) } } := rfl

theorem loadTables_imaged (s : State) (l : List Nat) : imaged (loadTables s l) = imaged s := by
  have h := imaged_of_unretired (stacksDropped_unretired s l)
  rw [loadTables_eq]
  generalize stacksDropped s l = t at h
  exact h

theorem loadTables_sup (s : State) (l : List Nat) : (loadTables s l).sup = s.sup := by
  have h := sup_of_unretired (stacksDropped_unretired s l)
  rw [loadTables_eq]
  generalize stacksDropped s l = t at h
  exact h

theorem loadTables_staysOut (s : State) (l : List Nat) : StaysOut s (loadTables s l) := by
  rw [loadTables_eq]
  exact (stacksDropped_staysOut s l).trans (.of_cores rfl)

/-- Both banks hold the tables of the same gaps, and the epoch is 0 (R226, R463). -/
theorem loadTables_mesh (s : State) (l : List Nat) :
    (loadTables s l).mesh.epoch = false ∧ (loadTables s l).mesh.gaps0 = (loadTables s l).mesh.gaps1 := by
  rw [loadTables_eq]
  exact ⟨rfl, rfl⟩

theorem trainStacks_unstacked (s : State) (fails : List Nat) : unstacked (trainStacks s fails) = unstacked s := by
  unfold trainStacks
  refine forEach_keeps unstacked (fun s b _ => ?_) s
  split
  · exact withdrawStack_unstacked s b
  · rfl

section
variable {s t : State} (h : unstacked t = unstacked s)
include h

theorem imaged_of_unstacked : imaged t = imaged s := (congrArg imaged h :)
theorem sup_of_unstacked : t.sup = s.sup := (congrArg State.sup h :)
theorem mesh_of_unstacked : t.mesh = s.mesh := (congrArg State.mesh h :)
theorem cores_of_unstacked : t.cores = s.cores := (congrArg State.cores h :)

end

/-- Every basin being cleared. -/
def clearsBegun (s : State) : State := forEach (List.range 16) (fun s b => putBasin s b { basinAt s b with clearing := true }) s

/-- A state but for the basins. -/
def unbasined (s : State) : State := { s with basins := [] }

theorem clearsBegun_unbasined (s : State) : unbasined (clearsBegun s) = unbasined s :=
  forEach_keeps unbasined (f := fun s b => putBasin s b { basinAt s b with clearing := true }) (fun _ _ _ => rfl) s

theorem clearsBegun_clearing (s : State) : ∀ b ∈ List.range 16, (basinAt (clearsBegun s) b).clearing = true := by
  refine forEach_all (Q := fun b s => (basinAt s b).clearing = true) (fun s b _ => by rw [basinAt_putBasin]) (fun s a b _ ha => ?_) s
  by_cases h : a = b
  · subst h
    rw [basinAt_putBasin]
  · rwa [basinAt_putBasin_ne _ _ h]

theorem setReady_eq (s : State) : setReady s = { clearsBegun s with
    sup := { (clearsBegun s).sup with phase := .ready, clearing := true }, glb := { (clearsBegun s).glb with ready := true } } := rfl

/-- Every basin is being cleared at READY (R465). -/
theorem setReady_clearing (s : State) {b : Nat} (hb : b < 16) : (basinAt (setReady s) b).clearing = true := by
  have h := clearsBegun_clearing s b (List.mem_range.2 hb)
  rw [setReady_eq]
  generalize clearsBegun s = t at h
  exact h

/-- What READY keeps of the state before it. -/
theorem setReady_frame (s : State) : imaged (setReady s) = imaged s ∧ (setReady s).mesh = s.mesh ∧ (setReady s).cores = s.cores ∧
    (setReady s).sup = { s.sup with phase := .ready, clearing := true } := by
  have h := clearsBegun_unbasined s
  rw [setReady_eq]
  generalize clearsBegun s = t at h
  exact ⟨(congrArg imaged h :), (congrArg State.mesh h :), (congrArg State.cores h :),
    congrArg (fun u : Sup => { u with phase := .ready, clearing := true }) (congrArg State.sup h :)⟩

/-! ### A verified image started (R463) -/

/-- The trust state and the version that an image brings with it (R357, R362). -/
def identified (s : State) (i : FwImage) (source : Nat) : State := { s with
  trust := { s.trust with
    devid := s.fuse.uds, aliasKey := s.fuse.uds, kT := transportK s.fuse, measD := i.meas, bootSource := source,
    fmKey := match s.flash.fmToken with
             | some (_, d) => some d
             | none => s.flash.ownerToken.map (·.2),
    fmSerial := (s.flash.fmToken.map (·.1)).getD 0 },
  sup := { s.sup with fwMajor := i.major, fwMinor := i.minor, fwPatch := i.patch, fwSvn := i.svn } }

/-- The module with its settings and its core map, before its clocks start. -/
def mapped (s : State) (i : FwImage) (source : Nat) (boot : BootIn) : State :=
  buildMap (loadSettings (identified s i source)) boot.testFail

/-- The module with its clocks and its col tables, before its stacks are trained. -/
def tabled (s : State) (i : FwImage) (source : Nat) (boot : BootIn) : State :=
  loadTables (startClocks (mapped s i source boot)) boot.unreachable

theorem runImage_eq (s : State) (i : FwImage) (source : Nat) (boot : BootIn) :
    runImage s i source boot = setReady (trainStacks (tabled s i source boot) boot.hbmFail) := rfl

section
variable (s : State) (i : FwImage) (source : Nat) (boot : BootIn)

theorem runImage_imaged : imaged (runImage s i source boot) = imaged (identified s i source) := by
  rw [runImage_eq, (setReady_frame _).1, imaged_of_unstacked (trainStacks_unstacked _ _), tabled, loadTables_imaged,
    startClocks_imaged, mapped, imaged_of_unmapped (buildMap_unmapped _ _), loadSettings_imaged]

theorem runImage_trust : (runImage s i source boot).trust = (identified s i source).trust :=
  trust_of_imaged (runImage_imaged s i source boot)

theorem runImage_image : (runImage s i source boot).flash.image = s.flash.image :=
  (image_of_imaged (runImage_imaged s i source boot)).trans rfl

theorem runImage_version : (runImage s i source boot).sup.fwMajor = i.major :=
  version_of_imaged (runImage_imaged s i source boot)

theorem runImage_sup : (runImage s i source boot).sup =
    { (startClocks (mapped s i source boot)).sup with phase := .ready, clearing := true } := by
  obtain ⟨-, -, -, h⟩ := setReady_frame (trainStacks (tabled s i source boot) boot.hbmFail)
  rw [runImage_eq, h, sup_of_unstacked (trainStacks_unstacked _ _), tabled, loadTables_sup]

theorem runImage_phase : (runImage s i source boot).sup.phase = .ready := by rw [runImage_sup]

theorem runImage_mesh : (runImage s i source boot).mesh = (tabled s i source boot).mesh := by
  obtain ⟨-, h, -, -⟩ := setReady_frame (trainStacks (tabled s i source boot) boot.hbmFail)
  rw [runImage_eq, h, mesh_of_unstacked (trainStacks_unstacked _ _)]

theorem runImage_clearing {b : Nat} (hb : b < 16) : (basinAt (runImage s i source boot) b).clearing = true := by
  rw [runImage_eq, setReady_clearing _ hb]

/-- After the core map no core comes back into service. -/
theorem mapped_staysOut : StaysOut (mapped s i source boot) (runImage s i source boot) := by
  obtain ⟨-, -, h, -⟩ := setReady_frame (trainStacks (tabled s i source boot) boot.hbmFail)
  refine (StaysOut.of_cores (startClocks_cores _)).trans ((loadTables_staysOut _ boot.unreachable).trans (.of_cores ?_))
  rw [runImage_eq, h, cores_of_unstacked (trainStacks_unstacked _ _), tabled]

theorem loadSettings_fuse (s : State) : (loadSettings s).fuse = s.fuse := (congrArg State.fuse (loadSettings_unsettled s) :)

theorem runImage_defect {k : Nat} (hk : k ∈ s.fuse.shipDefect) : (coreAt (runImage s i source boot) k).st = .shipDefect := by
  have h : (coreAt (mapped s i source boot) k).st = .shipDefect := buildMap_defect _ _ (by rwa [loadSettings_fuse])
  rw [mapped_staysOut s i source boot k (by rw [h]; rfl), h]

theorem runImage_retired {p : LPos} {r : LRec} (hp : p ∈ startLedger s.flash) (hr : posRec p = some r) (htype : r.type = 1)
    (hlt : r.target < nCores) (hk : r.target ∉ s.fuse.shipDefect) (hst : (coreAt s r.target).st = .spare) :
    (coreAt (runImage s i source boot) r.target).st = .retired := by
  have hcores : (loadSettings (identified s i source)).cores = s.cores := loadSettings_cores _
  have h : (coreAt (mapped s i source boot) r.target).st = .retired := by
    refine buildMap_retired _ _ (p := p) ?_ hr htype hlt (by rwa [loadSettings_fuse]) ?_
    · rw [loadSettings_ledger]
      exact hp
    · rw [coreAt, hcores, ← coreAt, hst]
      simp
  rw [mapped_staysOut s i source boot r.target (by rw [h]; rfl), h]

end

/-! ### PERST_N high (R373, R374, R463) -/

theorem burnSvn_shipDefect (f : Fuse) (i : FwImage) : (burnSvn f i).shipDefect = f.shipDefect := by
  unfold burnSvn
  split <;> rfl

/-- The module in recovery with the code of the first check that failed. -/
def inRecovery (s : State) (code : Nat) : State :=
  { s with sup := { s.sup with phase := .recovery }, trust := { s.trust with bootSource := 3, failReason := code } }

theorem startUp_blank {s : State} {boot : BootIn} (hheld : s.sup.phase = .held) (h : s.flash.image = none) :
    exec (.startUp boot) s = .next (inRecovery (releaseReset s boot) 2) := by
  have himage : (releaseReset s boot).flash.image = none := h
  simp [exec_startUp, execStartUp, hheld, himage, inRecovery]

theorem startUp_bad {s : State} {boot : BootIn} {i : FwImage} (hheld : s.sup.phase = .held) (h : s.flash.image = some i)
    (hbad : verifyImage s.fuse true i ≠ 0) :
    exec (.startUp boot) s = .next (inRecovery (releaseReset s boot) (verifyImage s.fuse true i)) := by
  have himage : (releaseReset s boot).flash.image = some i := h
  have hfuse : (releaseReset s boot).fuse = s.fuse := rfl
  simp [exec_startUp, execStartUp, hheld, himage, hfuse, hbad, inRecovery]

/-- The state in which a verified image starts: out of reset, with the counter's fuses burned (R374). -/
def burned (s : State) (boot : BootIn) (i : FwImage) : State :=
  { releaseReset s boot with fuse := burnSvn s.fuse i }

theorem startUp_good {s : State} {boot : BootIn} {i : FwImage} (hheld : s.sup.phase = .held) (h : s.flash.image = some i)
    (hgood : verifyImage s.fuse true i = 0) : exec (.startUp boot) s = .next (runImage (burned s boot i) i 0 boot) := by
  have himage : (releaseReset s boot).flash.image = some i := h
  have hfuse : (releaseReset s boot).fuse = s.fuse := rfl
  simp [exec_startUp, execStartUp, hheld, himage, hfuse, hgood, burned]

theorem startUp_up {s : State} (boot : BootIn) (h : s.sup.phase = .ready ∨ s.sup.phase = .recovery) :
    exec (.startUp boot) s = .next s := by
  obtain h | h := h <;> simp [exec_startUp, execStartUp, h]

/-- The claim on PERST_N. -/
theorem resetAndStart : Claims.ModuleStarts := by
  intro s boot
  refine ⟨fun h => ?_, fun hheld => ⟨fun h => ?_, fun i h hbad => ?_, fun i h hgood => ?_⟩, startUp_up boot⟩
  · refine ⟨_, moduleReset_powered h, rfl, rfl, halt_main s .held true, rfl, rfl, rfl, rfl, rfl, rfl, rfl, halt_fuse s .held true,
      haltModule_flash .held true, fun b => ?_, fun k => ?_⟩
    · have hb : hbmAt (resetHeld s) b = haltedHbm (hbmAt s b) := hbmAt_haltModule s .held b
      rw [hb]
      exact ⟨rfl, rfl⟩
    · have hk : coreAt (resetHeld s) k = haltedCore (coreAt s k) := coreAt_haltModule s .held k
      rw [hk]
      exact ⟨rfl, rfl, rfl⟩
  · exact ⟨_, startUp_blank hheld h, rfl, rfl, rfl, rfl, rfl⟩
  · exact ⟨_, startUp_bad hheld h hbad, rfl, rfl, rfl, rfl, rfl⟩
  · have hhull := runImage_facts (burned s boot i) i 0 boot
    have hfuse := runImage_fuse (burned s boot i) i 0 boot
    have htrust := runImage_trust (burned s boot i) i 0 boot
    have hsup := runImage_sup (burned s boot i) i 0 boot
    have hversion := runImage_version (burned s boot i) i 0 boot
    have hmesh := runImage_mesh (burned s boot i) i 0 boot
    obtain ⟨hepoch, hgaps⟩ := loadTables_mesh (startClocks (mapped (burned s boot i) i 0 boot)) boot.unreachable
    obtain ⟨hticking, hticks⟩ := startClocks_ticks (mapped (burned s boot i) i 0 boot)
    refine ⟨_, startUp_good hheld h hgood, runImage_phase _ i 0 boot, congrArg Hull.ready hhull, ?_, congrArg Hull.perstN hhull,
      hfuse, ?_, fun b hb => runImage_clearing _ i 0 boot hb, ?_, ?_, ?_, ?_, hversion, fun k hk => ?_,
      fun p hp r hr htype hlt hk hst => ?_⟩
    · rw [hsup]
    · rw [htrust, hfuse]
      rfl
    · rw [hmesh]
      exact hepoch
    · rw [hmesh]
      exact hgaps
    · rw [hsup]
      exact hticking
    · rw [hsup]
      exact hticks
    · exact runImage_defect _ i 0 boot ((burnSvn_shipDefect s.fuse i).symm ▸ hk)
    · exact runImage_retired _ i 0 boot hp hr htype hlt (fun e => hk (burnSvn_shipDefect s.fuse i ▸ e)) hst

/-! ### The end of a push (R373 to R376) -/

/-- The checks of an image are numbered to 8 (R373). -/
theorem verifyImage_le (f : Fuse) (flash : Bool) (i : FwImage) : verifyImage f flash i ≤ 8 := by
  unfold verifyImage
  repeat' split
  all_goals decide

/-- The trust state with a push's result reported (R375). -/
def pushReported (s : State) (res : Nat) : State := { s with trust := { s.trust with
  push := none, rcvBusy := false, rcvDone := true, rcvResult := res, rcvPhase := if res = 0 then 4 else 5 } }

/-- A persisted image in flash, with its counter burned (R374, R376). -/
def persisted (s : State) (p : Push) (i : FwImage) : State :=
  if p.persist then { s with flash := { s.flash with image := some i }, fuse := burnSvn s.fuse i } else s

theorem persisted_trust (s : State) (p : Push) (i : FwImage) : (persisted s p i).trust = s.trust := by
  unfold persisted
  split <;> rfl

theorem persisted_sup (s : State) (p : Push) (i : FwImage) : (persisted s p i).sup = s.sup := by
  unfold persisted
  split <;> rfl

theorem persisted_of_persist {s : State} {p : Push} {i : FwImage} (h : p.persist = true) :
    (persisted s p i).flash.image = some i ∧ (persisted s p i).fuse = burnSvn s.fuse i := by
  rw [persisted, if_pos h]
  exact ⟨rfl, rfl⟩

theorem persisted_of_volatile {s : State} {p : Push} {i : FwImage} (h : p.persist = false) : persisted s p i = s := by
  simp [persisted, h]

/-- Only a push that is to persist fails for its flash. -/
theorem pushResult_flash {f : Fuse} {p : Push} (h : pushResult f p = 0x0A) : p.persist = true := by
  unfold pushResult at h
  split at h
  · cases h
  next i _ =>
    have hle := verifyImage_le f false i
    dsimp only at h
    split at h
    · omega
    · split at h
      next hp => exact hp.1
      · cases h

/-- A trust state that reports the end of a push (R375). -/
structure Reports (t : Trust) (res : Nat) : Prop where
  push : t.push = none
  busy : t.rcvBusy = false
  done : t.rcvDone = true
  result : t.rcvResult = res
  phase : t.rcvPhase = if res = 0 then 4 else 5

theorem Reports.ok_iff {t : Trust} {res : Nat} (h : Reports t res) : t.rcvPhase = 4 ↔ res = 0 := by
  rw [h.phase]
  split <;> simp [*]

theorem pushReported_reports (s : State) (res : Nat) : Reports (pushReported s res).trust res := ⟨rfl, rfl, rfl, rfl, rfl⟩

/-- The identity that an image brings changes nothing of the report. -/
theorem identified_reports {s : State} {res : Nat} (i : FwImage) (source : Nat) (h : Reports s.trust res) :
    Reports (identified s i source).trust res := ⟨h.push, h.busy, h.done, h.result, h.phase⟩

/-- The state in which a push that failed for its flash leaves a torn image there. -/
def torn (s : State) (i : FwImage) : State := { s with flash := { s.flash with image := some { i with bodyOk := false } } }

section
variable {s : State} {p : Push} {i : FwImage} (boot : BootIn) (hpush : s.trust.push = some p)
include hpush

theorem pushComplete_unread (h : p.image = none) :
    exec (.pushComplete boot) s = .next (pushReported s (pushResult s.fuse p)) := by
  simp [exec_pushComplete, execPushComplete, hpush, h, pushReported]

theorem pushComplete_failed (h : p.image = some i) (hres : pushResult s.fuse p ≠ 0) (hflash : pushResult s.fuse p ≠ 0x0A) :
    exec (.pushComplete boot) s = .next (pushReported s (pushResult s.fuse p)) := by
  simp [exec_pushComplete, execPushComplete, hpush, h, hres, hflash, pushReported]

theorem pushComplete_torn (h : p.image = some i) (hres : pushResult s.fuse p = 0x0A) :
    exec (.pushComplete boot) s = .next (torn (pushReported s (pushResult s.fuse p)) i) := by
  simp [exec_pushComplete, execPushComplete, hpush, h, hres, pushReported, torn]

theorem pushComplete_done (h : p.image = some i) (hres : pushResult s.fuse p = 0) (hphase : s.sup.phase ≠ .recovery) :
    exec (.pushComplete boot) s = .next (persisted (pushReported s (pushResult s.fuse p)) p i) := by
  simp [exec_pushComplete, execPushComplete, hpush, h, hres, hphase, pushReported, persisted]

theorem pushComplete_starts (h : p.image = some i) (hres : pushResult s.fuse p = 0) (hphase : s.sup.phase = .recovery) :
    exec (.pushComplete boot) s =
      .next (runImage (persisted (pushReported s (pushResult s.fuse p)) p i) i (if p.persist then 2 else 1) boot) := by
  simp [exec_pushComplete, execPushComplete, hpush, h, hres, hphase, pushReported, persisted]

end

/-- What is claimed of the state that the end of a push leaves. -/
structure PushEnded (s : State) (p : Push) (t : State) : Prop where
  reports : Reports t.trust (pushResult s.fuse p)
  stored : ∀ i, p.image = some i → pushResult s.fuse p = 0 → p.persist = true →
    t.flash.image = some i ∧ t.fuse = burnSvn s.fuse i
  volatile : p.persist = false → t.fuse = s.fuse ∧ (pushResult s.fuse p ≠ 0 → t.flash = s.flash)
  starts : pushResult s.fuse p = 0 → s.sup.phase = .recovery →
    t.sup.phase = .ready ∧ t.trust.bootSource = (if p.persist then 2 else 1)
  stays : pushResult s.fuse p ≠ 0 ∨ s.sup.phase ≠ .recovery → t.sup.phase = s.sup.phase

/-- A push that failed is reported and changes nothing else. -/
theorem pushReported_ended {s : State} {p : Push} (h : pushResult s.fuse p ≠ 0) :
    PushEnded s p (pushReported s (pushResult s.fuse p)) where
  reports := pushReported_reports s _
  stored _ _ hres := absurd hres h
  volatile _ := ⟨rfl, fun _ => rfl⟩
  starts hres := absurd hres h
  stays _ := rfl

theorem torn_ended {s : State} {p : Push} (i : FwImage) (h : pushResult s.fuse p = 0x0A) :
    PushEnded s p (torn (pushReported s (pushResult s.fuse p)) i) where
  reports := pushReported_reports s _
  stored _ _ hres := by simp [h] at hres
  volatile hv := by simp [pushResult_flash h] at hv
  starts hres := by simp [h] at hres
  stays _ := rfl

theorem persisted_ended {s : State} {p : Push} {i : FwImage} (h : p.image = some i) (hres : pushResult s.fuse p = 0)
    (hphase : s.sup.phase ≠ .recovery) : PushEnded s p (persisted (pushReported s (pushResult s.fuse p)) p i) where
  reports := by
    rw [persisted_trust]
    exact pushReported_reports s _
  stored j hj _ hp := by
    obtain rfl : i = j := Option.some.inj (h.symm.trans hj)
    exact persisted_of_persist hp
  volatile hv := by
    rw [persisted_of_volatile hv]
    exact ⟨rfl, fun hne => absurd hres hne⟩
  starts _ hrec := absurd hrec hphase
  stays _ := by
    rw [persisted_sup]
    rfl

theorem started_ended {s : State} {p : Push} {i : FwImage} (boot : BootIn) (h : p.image = some i) (hres : pushResult s.fuse p = 0)
    (hphase : s.sup.phase = .recovery) : PushEnded s p
      (runImage (persisted (pushReported s (pushResult s.fuse p)) p i) i (if p.persist then 2 else 1) boot) where
  reports := by
    rw [runImage_trust]
    refine identified_reports i _ ?_
    rw [persisted_trust]
    exact pushReported_reports s _
  stored j hj _ hp := by
    obtain rfl : i = j := Option.some.inj (h.symm.trans hj)
    rw [runImage_image, runImage_fuse]
    exact persisted_of_persist hp
  volatile hv := by
    rw [runImage_fuse, persisted_of_volatile hv]
    exact ⟨rfl, fun hne => absurd hres hne⟩
  starts _ _ := by
    rw [runImage_trust]
    exact ⟨runImage_phase _ i _ boot, rfl⟩
  stays hne := by
    obtain hne | hne := hne
    · exact absurd hres hne
    · exact absurd hphase hne

theorem pushComplete_ended {s : State} {p : Push} (boot : BootIn) (hpush : s.trust.push = some p) :
    ∃ t, exec (.pushComplete boot) s = .next t ∧ PushEnded s p t := by
  cases h : p.image with
  | none =>
    have hres : pushResult s.fuse p ≠ 0 := by simp [pushResult, h]
    exact ⟨_, pushComplete_unread boot hpush h, pushReported_ended hres⟩
  | some i =>
    by_cases hflash : pushResult s.fuse p = 0x0A
    · exact ⟨_, pushComplete_torn boot hpush h hflash, torn_ended i hflash⟩
    · by_cases hres : pushResult s.fuse p = 0
      · by_cases hphase : s.sup.phase = .recovery
        · exact ⟨_, pushComplete_starts boot hpush h hres hphase, started_ended boot h hres hphase⟩
        · exact ⟨_, pushComplete_done boot hpush h hres hphase, persisted_ended h hres hphase⟩
      · exact ⟨_, pushComplete_failed boot hpush h hres hflash, pushReported_ended hres⟩

/-- The claim on clears and pushes. -/
theorem clearsAndPushes : Claims.ClearsAndPushes := by
  intro s boot
  obtain ⟨hclears, hidle⟩ := startupClears s
  refine ⟨hclears, hidle, fun h => by simp [exec_pushComplete, execPushComplete, h], fun p hpush => ?_⟩
  obtain ⟨t, hstep, ht⟩ := pushComplete_ended boot hpush
  exact ⟨t, hstep, ht.reports.push, ht.reports.busy, ht.reports.done, ht.reports.result, ht.reports.ok_iff, ht.stored,
    ht.volatile, ht.starts, ht.stays⟩

/-- Settles O57: what a reset leaves, what each step of start-up brings about, and how clears and pushes end. -/
theorem moduleStarts : Obligations.ModuleStarts := ⟨resetAndStart, clearsAndPushes⟩

end Sys2Proof.Machine

/-! PROOFS. Station code: what an operation at a slot's code offset does, and how commands and descriptors enter the queues
(O14). -/

namespace Sys2Proof.Machine

/-! ### An operation at its slot's code offset (R195, R200) -/

theorem exec_mxc (k : Nat) (s : State) : exec (.mxc k) s = execMxc k s := rfl
theorem exec_vcc (k : Nat) (s : State) : exec (.vcc k) s = execVcc k s := rfl
theorem exec_sdc (k : Nat) (s : State) : exec (.sdc k) s = execSdc k s := rfl

theorem goOn_putIdx (c : Core) (i r n : Nat) (v : W64) : goOn (putIdx c i r v) i n =
    putSlot c i { slotAt c i with st := .running, pc := (slotAt c i).pc + n, adj := [], idx := tabSet (slotAt c i).idx r v } := by
  simp [goOn, putIdx]

section
variable {s : State} {k i : Nat} {w : BitVec 128} (h : IssuesAt s k i w)
include h

theorem opAt_of_issuesAt : opAt s k (coreAt s k) i = some w := by
  obtain ⟨-, hi, hruns, hissues, -, hw⟩ := h
  simp [opAt, hi, hruns, hissues, hw]

theorem opReserved_of_issuesAt (hop : opOp w ≤ 0x0D) : opReserved (coreAt s k) i w = false := by
  obtain ⟨-, -, -, -, hpc, -⟩ := h
  simp [opReserved, hpc, hop]

/-- A station operation performs its action where its slot stands at it. -/
theorem stationOp_next {op : Nat} {f : State → Core → BitVec 128 → Core × List Ev} {d : Core} {l : List Ev} (hop : opOp w = op)
    (hle : op ≤ 0x0D) (hf : f s (coreAt s k) w = (d, l)) : stationOp op k i f s = .next (applyEvs k (putCore s k d) l) := by
  have hi : ¬ 8 ≤ i := Nat.not_le.mpr h.2.1
  have hres := opReserved_of_issuesAt h (hop ▸ hle)
  rw [stationOp, if_neg hi, runCore_next _ _ h.1]
  simp [opAt_of_issuesAt h, hres, hop, hf]

/-! ### Registers, jumps and waits (R195, R200) -/

theorem codeNop_next (hop : opOp w = 0x00) : exec (.codeNop k i) s = .next (putCore s k (goOn (coreAt s k) i 1)) :=
  stationOp_next h (l := []) hop (by decide) (by rfl)

theorem seti_next (hop : opOp w = 0x07) (hA : opA w ≤ 3) : exec (.seti k i) s =
    .next (putCore s k (goOn (putIdx (coreAt s k) i (opA w) (BitVec.ofNat 64 (opD w))) i 1)) :=
  stationOp_next h (l := []) hop (by decide) (by rw [if_neg (Nat.not_lt.mpr hA)])

theorem addi_next (hop : opOp w = 0x08) (hA : opA w ≤ 3) : exec (.addi k i) s = .next (putCore s k
    (goOn (putIdx (coreAt s k) i (opA w) (addMod (idxAt (slotAt (coreAt s k) i) (opA w)) (opD w) (opC w))) i 1)) :=
  stationOp_next h (l := []) hop (by decide) (by rw [if_neg (Nat.not_lt.mpr hA)])

theorem loop_invalid (hop : opOp w = 0x0A)
    (hbad : 3 < opA w ∨ codeLen (coreAt s k) ≤ opC w ∨ codeMarked (coreAt s k) (opC w) = false) : exec (.loop k i) s =
    .next (applyEvs k (putCore s k (codeFault (coreAt s k) i).1) (codeFault (coreAt s k) i).2) :=
  stationOp_next h hop (by decide) (if_pos hbad)

/-- A LOOP that is valid advances its register, then goes on at the next word or at its target. -/
theorem loop_next (hop : opOp w = 0x0A) (hA : opA w ≤ 3) (hlen : opC w < codeLen (coreAt s k))
    (hmark : codeMarked (coreAt s k) (opC w) = true) : exec (.loop k i) s =
    .next (putCore s k (putSlot (coreAt s k) i
      { slotAt (coreAt s k) i with
        st := .running
        pc := if opD w ≤ (idxAt (slotAt (coreAt s k) i) (opA w) + 1 : W64).toNat then (slotAt (coreAt s k) i).pc + 1 else opC w
        adj := []
        idx := tabSet (slotAt (coreAt s k) i).idx (opA w) (idxAt (slotAt (coreAt s k) i) (opA w) + 1) })) := by
  refine stationOp_next h (l := []) hop (by decide) ?_
  have hgood : ¬ (3 < opA w ∨ codeLen (coreAt s k) ≤ opC w ∨ codeMarked (coreAt s k) (opC w) = false) := by
    simp [hA, hlen, hmark]
  rw [if_neg hgood]
  dsimp only
  split <;> simp [goOn_putIdx]

theorem wait_next (hop : opOp w = 0x06) (hA : opA w ≤ 4 ∨ (opA w = 5 ∧ opB w ≤ 31)) : exec (.wait k i) s =
    .next (putCore s k (putSlot (coreAt s k) i
      (if opC w ≤ waitCount (coreAt s k) i (opA w) (opB w) ∨ (opA w = 5 ∧ (coreAt s k).replay.isSome = true)
       then { slotAt (coreAt s k) i with st := .running, pc := (slotAt (coreAt s k) i).pc + 1, adj := [] }
       else { slotAt (coreAt s k) i with st := .waitOp }))) := by
  refine stationOp_next h (l := []) hop (by decide) ?_
  have hgood : ¬ (5 < opA w ∨ (opA w = 5 ∧ 31 < opB w)) := by omega
  rw [if_neg hgood]
  split <;> rfl

/-- An ADJ keeps its addend for the field that it names of the payload that follows (R196). -/
theorem adj_next {n v : Nat} (hop : opOp w = 0x09) (hsrc : adjSource (slotAt (coreAt s k) i) (opA w % 8) = some v)
    (hpay : nextPay (coreAt s k) (codeLen (coreAt s k)) ((slotAt (coreAt s k) i).pc + 1) = some n)
    (hfits : opB w % 1024 + (opB w / 1024 + 1) ≤ n * 128) : exec (.adj k i) s =
    .next (putCore s k (putSlot (coreAt s k) i
      { slotAt (coreAt s k) i with
        st := .running
        pc := (slotAt (coreAt s k) i).pc + 1
        adj := (slotAt (coreAt s k) i).adj ++ [(opB w % 1024, opB w / 1024 + 1, v * opC w)] })) :=
  stationOp_next h (l := []) hop (by decide) (by simp [hsrc, hpay, hfits])

end

/-- The claim on register operations, jumps and waits. -/
theorem stationRegisterOps : Claims.StationRegisterOps := by
  intro s k i w h
  refine ⟨codeNop_next h, fun hop hA => ?_, fun hop hA => ?_, fun hop hA hdone hlen hmark => ?_,
    fun hop hA hmore hlen hmark => ?_, loop_invalid h, wait_next h⟩
  · rw [seti_next h hop hA, goOn_putIdx]
  · rw [addi_next h hop hA, goOn_putIdx]
    rfl
  · rw [loop_next h hop hA hlen hmark, if_pos hdone]
  · rw [loop_next h hop hA hlen hmark, if_neg (Nat.not_le.mpr hmore)]

/-- The claim on ADJ. -/
theorem stationAdjust : Claims.StationAdjust := by
  intro s k i n v w h hop c t off width hsrc hpay hfits
  have hstep := adj_next h hop hsrc hpay hfits
  refine ⟨hstep, fun r hr => ?_⟩
  obtain rfl := Host.Outcome.next.inj (hstep.symm.trans hr)
  simp [c]

/-! ### The rotating order (R41) -/

theorem rotPick_holds {rot i : Nat} {p : Nat → Bool} (h : rotPick rot p = some i) : p i = true := List.find?_some h

theorem rotPick_none {p : Nat → Bool} (rot : Nat) (h : ∀ j, p j = false) : rotPick rot p = none :=
  List.find?_eq_none.mpr fun j _ => by simp [h j]

/-- The slot taken among many is taken among fewer, where it is one of them. -/
theorem rotPick_among {rot i : Nat} {p q : Nat → Bool} (h : rotPick rot p = some i) (hi : q i = true)
    (hsub : ∀ j, q j = true → p j = true) : rotPick rot q = some i := by
  obtain ⟨-, before, after, hlist, hbefore⟩ := List.find?_eq_some_iff_append.mp h
  refine List.find?_eq_some_iff_append.mpr ⟨hi, before, after, hlist, fun j hj => ?_⟩
  have hp := hbefore j hj
  cases hq : q j with
  | false => rfl
  | true => simp [hsub j hq] at hp

/-! ### Issue into the queues (R41, R102, R151) -/

/-- Waiting for queue room changes the states of slots alone. -/
theorem waitRoom_frame (s : State) (k : Nat) (c : Core) (op : Nat) :
    { waitRoom s k c op with slots := c.slots } = c ∧ ∀ i, (slotAt (waitRoom s k c op) i).pc = (slotAt c i).pc := by
  refine List.foldlRecOn (motive := fun d : Core => { d with slots := c.slots } = c ∧ ∀ i, (slotAt d i).pc = (slotAt c i).pc)
    _ _ ⟨rfl, fun _ => rfl⟩ fun d hd i _ => ?_
  split
  · refine ⟨hd.1, fun j => ?_⟩
    by_cases hj : j = i
    · subst hj
      rw [slotAt_putSlot]
      exact hd.2 j
    · rw [slotAt_putSlot_ne _ _ hj]
      exact hd.2 j
  · exact hd

theorem waitRoom_mxq (s : State) (k : Nat) (c : Core) (op : Nat) : (waitRoom s k c op).mxq = c.mxq :=
  (congrArg Core.mxq (waitRoom_frame s k c op).1 :)

theorem waitRoom_strm (s : State) (k : Nat) (c : Core) (op : Nat) : (waitRoom s k c op).strm = c.strm :=
  (congrArg Core.strm (waitRoom_frame s k c op).1 :)

theorem waitRoom_ctr (s : State) (k : Nat) (c : Core) (op : Nat) : (waitRoom s k c op).ctr = c.ctr :=
  (congrArg Core.ctr (waitRoom_frame s k c op).1 :)

/-- The matrix command at the code offset of a slot, as it is queued. -/
def mxEntAt (c : Core) (i : Nat) : MxEnt :=
  { cmd := BitVec.ofNat 256 (payload c i 2), slot := i, firing := (slotAt c i).firing, mb := (slotAt c i).mb,
    step := (slotAt c i).step }

/-- The vector command at the code offset of a slot, as it is queued. -/
def vcEntAt (c : Core) (i : Nat) : VcEnt :=
  { cmd := BitVec.ofNat 768 (payload c i 6), slot := i, firing := (slotAt c i).firing, mb := (slotAt c i).mb,
    step := (slotAt c i).step }

/-- The descriptor at the code offset of a slot. -/
def descAt (c : Core) (i : Nat) : BitVec 512 := BitVec.ofNat 512 (payload c i 4)

/-- A translated descriptor of a slot behind those queued at a streamer. -/
def queueDesc (c : Core) (i : Nat) (u : Strm) (e : BitVec 512) : Strm :=
  { u with q := u.q ++ [{ d := e, slot := i, firing := (slotAt c i).firing, mb := (slotAt c i).mb, step := (slotAt c i).step }] }

section
variable {s : State} {k i : Nat}

theorem mxc_queues (h : TurnOf s k 0x01 (coreAt s k).mxRot i) (hroom : (coreAt s k).mxq.length < 16) : exec (.mxc k) s =
    .next (putCore s k { goOn (coreAt s k) i 3 with
      mxq := (coreAt s k).mxq ++ [mxEntAt (coreAt s k) i],
      mxRot := i }) := by
  simp [exec_mxc, execMxc, mxEntAt, runCore_next _ _ h.1, h.2, Nat.not_le.mpr hroom]

theorem mxc_waits (h : TurnOf s k 0x01 (coreAt s k).mxRot i) (hfull : 16 ≤ (coreAt s k).mxq.length) : exec (.mxc k) s =
    .next (putCore s k (bumpCore (waitRoom s k (coreAt s k) 0x01) 8 1)) := by
  simp [exec_mxc, execMxc, runCore_next _ _ h.1, h.2, hfull]

theorem vcc_queues (h : TurnOf s k 0x02 (coreAt s k).vcRot i) (hroom : (coreAt s k).vcq.length < 8) : exec (.vcc k) s =
    .next (putCore s k { goOn (coreAt s k) i 7 with
      vcq := (coreAt s k).vcq ++ [vcEntAt (coreAt s k) i],
      vcRot := i }) := by
  simp [exec_vcc, execVcc, vcEntAt, runCore_next _ _ h.1, h.2, Nat.not_le.mpr hroom]

theorem sdFormOk_of_valid {d : BitVec 512} (h : sdValid d = true) : sdFormOk d = true := (Bool.and_eq_true_iff.mp h).1

theorem sdWaits_eq (c : Core) (i : Nat) :
    sdWaits c i = (sdFormOk (descAt c i) && decide (8 ≤ (strmAt c (sdUnit (descAt c i))).q.length)) := rfl

theorem sdc_queues (hk : k < nCores)
    (hpick : rotPick (coreAt s k).sdRot (fun j => readyFor s k (coreAt s k) 0x03 j && !sdWaits (coreAt s k) j) = some i)
    (hvalid : sdValid (descAt (coreAt s k) i) = true) (hroom : (strmAt (coreAt s k) (sdUnit (descAt (coreAt s k) i))).q.length < 8)
    {e : BitVec 512} (he : sdTranslate s k (slotAt (coreAt s k) i) (descAt (coreAt s k) i) = some e) : exec (.sdc k) s =
    .next (putCore s k { putStrm (goOn (coreAt s k) i 5) (sdUnit (descAt (coreAt s k) i))
        (queueDesc (coreAt s k) i (strmAt (coreAt s k) (sdUnit (descAt (coreAt s k) i))) e) with
      sdRot := i }) := by
  unfold descAt at *
  simp [exec_sdc, execSdc, queueDesc, runCore_next _ _ hk, hpick, sdFormOk_of_valid hvalid, hvalid, he, Nat.not_le.mpr hroom]

/-- Where every ready slot waits for its own streamer's queue, the one whose turn it is waits with the others. -/
theorem sdc_waits (h : TurnOf s k 0x03 (coreAt s k).sdRot i)
    (hall : ∀ j, readyFor s k (coreAt s k) 0x03 j = true → sdWaits (coreAt s k) j = true)
    (hvalid : sdValid (descAt (coreAt s k) i) = true)
    (he : ∃ e, sdTranslate s k (slotAt (coreAt s k) i) (descAt (coreAt s k) i) = some e) : exec (.sdc k) s =
    .next (putCore s k (bumpCore (waitRoom s k (coreAt s k) 0x03) 61 1)) := by
  obtain ⟨e, he⟩ := he
  have hnone : rotPick (coreAt s k).sdRot (fun j => readyFor s k (coreAt s k) 0x03 j && !sdWaits (coreAt s k) j) = none :=
    rotPick_none _ fun j => by
      cases hj : readyFor s k (coreAt s k) 0x03 j with
      | false => rfl
      | true => simp [hall j hj]
  have hwaits := hall i (rotPick_holds h.2)
  have hfull : 8 ≤ (strmAt (coreAt s k) (sdUnit (descAt (coreAt s k) i))).q.length := by
    rw [sdWaits_eq, sdFormOk_of_valid hvalid] at hwaits
    simpa using hwaits
  unfold descAt at *
  simp [exec_sdc, execSdc, runCore_next _ _ h.1, hnone, h.2, sdFormOk_of_valid hvalid, hvalid, he, hfull]

/-- A descriptor of a bad form waits for no queue: it is discarded in its slot's turn. -/
theorem sdc_discards (h : TurnOf s k 0x03 (coreAt s k).sdRot i) (hbad : sdFormOk (descAt (coreAt s k) i) = false) :
    exec (.sdc k) s = .next (applyEvs k (putCore s k (sdFault (coreAt s k) i (sdTag (descAt (coreAt s k) i))).1)
      (sdFault (coreAt s k) i (sdTag (descAt (coreAt s k) i))).2) := by
  have hpick : rotPick (coreAt s k).sdRot (fun j => readyFor s k (coreAt s k) 0x03 j && !sdWaits (coreAt s k) j) = some i :=
    rotPick_among h.2 (by simp [rotPick_holds h.2, sdWaits_eq, hbad]) fun j hj => (Bool.and_eq_true_iff.mp hj).1
  unfold descAt at *
  simp [exec_sdc, execSdc, runCore_next _ _ h.1, hpick, hbad]

end

/-- The claim on issue into the three queues. -/
theorem stationIssue : Claims.StationIssue := by
  intro s k i
  refine ⟨mxc_queues, fun h hfull => ⟨_, mxc_waits h hfull, ?_⟩, vcc_queues,
    fun hk hpick hvalid hroom _ he => sdc_queues hk hpick hvalid hroom he,
    fun h hall hvalid he => ⟨_, sdc_waits h hall hvalid he, ?_⟩, sdc_discards⟩
  · simp [waitRoom_mxq, waitRoom_ctr, (waitRoom_frame s k _ 0x01).2 i]
  · simp [waitRoom_strm, waitRoom_ctr, (waitRoom_frame s k _ 0x03).2 i]

/-- Settles O14: register operations, issue into the queues, and ADJ. -/
theorem stationCode : Obligations.StationCode := ⟨stationRegisterOps, stationIssue, stationAdjust⟩

end Sys2Proof.Machine

/-! PROOFS. The matrix engine: what its shared operations leave unchanged, and how its commands start, act on their tile and
are discarded (O19). -/

namespace Sys2Proof.Machine

theorem exec_mxCmdStart (k : Nat) (s : State) : exec (.mxCmdStart k) s = execMxCmdStart k s := rfl
theorem exec_mxNop (k : Nat) (s : State) : exec (.mxNop k) s = execMxNop k s := rfl
theorem exec_mxClear (k : Nat) (s : State) : exec (.mxClear k) s = execMxClear k s := rfl
theorem exec_mxDrain (k : Nat) (s : State) : exec (.mxDrain k) s = execMxDrain k s := rfl
theorem exec_mxShadowSwap (k : Nat) (s : State) : exec (.mxShadowSwap k) s = execMxShadowSwap k s := rfl
theorem exec_mma (k : Nat) (parity : Bool) (s : State) : exec (.mma k parity) s = execMma k parity s := rfl

/-- What the command of a core that is not HELD answers, from what its action gives. -/
theorem runLive_eq {k : Nat} {f : State → Core → Core × List Ev} {s : State} {d : Core} {l : List Ev} (hk : k < nCores)
    (hlive : (coreAt s k).held = false) (hf : f s (coreAt s k) = (d, l)) :
    runLive k f s = .next (applyEvs k (putCore s k d) l) := by
  rw [runLive_next f s hk hlive, hf]

/-! ### The shadow set (R54) -/

/-- Filling the shadow set moves beats from MB and changes nothing else. -/
theorem fillShadow_eq (c : Core) : fillShadow c = { c with shadow := (fillShadow c).shadow, mb := (fillShadow c).mb } := by
  unfold fillShadow
  split <;> rfl

@[simp] theorem fillShadow_slots (c : Core) : (fillShadow c).slots = c.slots := by rw [fillShadow_eq]
@[simp] theorem fillShadow_tiles (c : Core) : (fillShadow c).tiles = c.tiles := by rw [fillShadow_eq]
@[simp] theorem fillShadow_mem (c : Core) : (fillShadow c).mem = c.mem := by rw [fillShadow_eq]
@[simp] theorem fillShadow_ma (c : Core) : (fillShadow c).ma = c.ma := by rw [fillShadow_eq]
@[simp] theorem fillShadow_mxq (c : Core) : (fillShadow c).mxq = c.mxq := by rw [fillShadow_eq]
@[simp] theorem fillShadow_mxRun (c : Core) : (fillShadow c).mxRun = c.mxRun := by rw [fillShadow_eq]
@[simp] theorem fillShadow_weights (c : Core) : (fillShadow c).weights = c.weights := by rw [fillShadow_eq]
@[simp] theorem fillShadow_drains (c : Core) : (fillShadow c).drains = c.drains := by rw [fillShadow_eq]
@[simp] theorem slotAt_fillShadow (c : Core) (i : Nat) : slotAt (fillShadow c) i = slotAt c i := by rw [fillShadow_eq]; rfl
@[simp] theorem tileAt_fillShadow (c : Core) (i : Nat) : tileAt (fillShadow c) i = tileAt c i := by rw [fillShadow_eq]; rfl

/-! ### Done counters, lost firings and complete commands (R44, R62, R70, R195) -/

theorem doneAt_bumpDone (c : Core) (i d : Nat) : doneAt (slotAt (bumpDone c i d) i) d = doneAt (slotAt c i) d + 1 := by
  simp [bumpDone, doneAt]

/-- A slot that a fault stops stays stopped when its firing is noted as lost. -/
theorem stopSlot_lost (c : Core) (i f code : Nat) : (slotAt (loseFiring (stopSlot c i code) i f) i).st = .stopped ∧
    (slotAt (loseFiring (stopSlot c i code) i f) i).stopEv = code := by
  simp [loseFiring, stopSlot]

@[simp] theorem mxComplete_tiles (s : State) (c : Core) (e : MxEnt) : (mxComplete s c e).tiles = c.tiles := rfl
@[simp] theorem mxComplete_mxRun (s : State) (c : Core) (e : MxEnt) : (mxComplete s c e).mxRun = c.mxRun := rfl

theorem tileAt_mxComplete (s : State) (c : Core) (e : MxEnt) (i : Nat) : tileAt (mxComplete s c e) i = tileAt c i := rfl

/-- A complete command counts for its slot as done. -/
theorem doneAt_mxComplete (s : State) (c : Core) (e : MxEnt) :
    doneAt (slotAt (mxComplete s c e) e.slot) 0 = doneAt (slotAt c e.slot) 0 + 1 := doneAt_bumpDone c e.slot 0

/-- A discarded command leaves the engine, stops its slot and is counted; its beats go back to MB, and no tile changes. -/
theorem mxDiscard_frame (c : Core) (e : MxEnt) (code : Nat) : (mxDiscard c e code).1.mxRun = none ∧
    (mxDiscard c e code).1.tiles = c.tiles ∧ (slotAt (mxDiscard c e code).1 e.slot).st = .stopped ∧
    (slotAt (mxDiscard c e code).1 e.slot).stopEv = code ∧ (mxDiscard c e code).1.mb = c.weights ++ c.shadow ++ c.mb ∧
    tabGet (mxDiscard c e code).1.ctr 13 0 = (tabGet c.ctr 13 0 + 1) % 2 ^ 64 := by
  simp [mxDiscard, giveBack, loseFiring, stopSlot, tabGet_bump]

theorem mxValid_of_fault_none {c : Core} {e : MxEnt} (h : mxFault c e = none) : mxValid e.cmd = true := by
  by_contra hv
  rw [mxFault, if_pos (by simpa using hv)] at h
  cases h

/-! ### The head command starts (R42, R51, R64, R69) -/

/-- A command as it starts: its three scale entries latched, nothing of it issued. -/
def mxStarted (c : Core) (e : MxEnt) : MxRun :=
  { ent := e, sa := scaleEntry c e.step (mxAScale e.cmd), sb := scaleEntry c e.step (mxBScale e.cmd),
    sd := scaleEntry c e.step (mxDScale e.cmd), kDone := 0, rows := 0, loaded := false, poison := false, told := false,
    cleared := false }

section
variable {s : State} {k : Nat} (hk : k < nCores) (hlive : (coreAt s k).held = false)
include hk hlive

section
variable (hrun : (coreAt s k).mxRun = none)
include hrun

theorem mxCmdStart_idle (hq : (coreAt s k).mxq = []) :
    exec (.mxCmdStart k) s = .next (putCore s k (bumpCore (coreAt s k) 5 1)) := by
  rw [exec_mxCmdStart]
  exact runLive_eq (l := []) hk hlive (by simp [hrun, hq])

variable {e : MxEnt} {rest : List MxEnt} (hq : (coreAt s k).mxq = e :: rest) (hopc : mxOpc e.cmd ≤ 3)
include hq hopc

theorem mxCmdStart_waits (hhaz : mxHazard (coreAt s k) e.cmd = true) :
    exec (.mxCmdStart k) s = .next (putCore s k (bumpCore (coreAt s k) 1 1)) := by
  rw [exec_mxCmdStart]
  exact runLive_eq (l := []) hk hlive (by simp [hrun, hq, Nat.not_lt.mpr hopc, hhaz])

theorem mxCmdStart_starts (hhaz : mxHazard (coreAt s k) e.cmd = false)
    (hunder : mxUnderrun (coreAt s k) e.cmd 0 0 false = false) : exec (.mxCmdStart k) s =
    .next (putCore s k (fillShadow { coreAt s k with mxq := rest, mxRun := some (mxStarted (coreAt s k) e) })) := by
  rw [exec_mxCmdStart]
  exact runLive_eq (l := []) hk hlive (by simp [hrun, hq, Nat.not_lt.mpr hopc, hhaz, hunder, mxStarted])

end

/-! ### NOP, CLEAR and DRAIN (R44, R55, R57, R59) -/

section
variable {r : MxRun} (hrun : (coreAt s k).mxRun = some r)
include hrun

theorem mxNop_completes (hopc : mxOpc r.ent.cmd = 0) (hvalid : mxValid r.ent.cmd = true) : exec (.mxNop k) s =
    .next (putCore s k (fillShadow (mxComplete s { coreAt s k with mxRun := none } r.ent))) := by
  rw [exec_mxNop]
  exact runLive_eq (l := []) hk hlive (by simp [hrun, hopc, hvalid])

/-- The core after a CLEAR of tile `ti` under an anchor. -/
def tileCleared (c : Core) (ti anchor : Nat) : Core :=
  { putTile c ti (clearedTile (tileAt c ti) anchor) with mxRun := none }

theorem mxClear_completes (hopc : mxOpc r.ent.cmd = 3) (hfault : mxFault (coreAt s k) r.ent = none) : exec (.mxClear k) s =
    .next (putCore s k
      (fillShadow (mxComplete s (tileCleared (coreAt s k) (mxTile r.ent.cmd) (mxAnchor r.ent.cmd)) r.ent))) := by
  rw [exec_mxClear]
  exact runLive_eq (l := []) hk hlive (by simp [hrun, hopc, hfault, tileCleared])

theorem mxDrain_queued (hopc : mxOpc r.ent.cmd = 2) (hfault : mxFault (coreAt s k) r.ent = none) : exec (.mxDrain k) s =
    .next (putCore s k (fillShadow { coreAt s k with
      mxRun := none, drains := (coreAt s k).drains ++ [{ ent := r.ent, sd := r.sd, row := 0, running := false }] })) := by
  rw [exec_mxDrain]
  exact runLive_eq (l := []) hk hlive (by simp [hrun, hopc, hfault])

/-! ### Discarded commands (R43, R56, R61) -/

variable {code : Nat} (hfault : mxFault (coreAt s k) r.ent = some code)
include hfault

theorem mma_discards (hopc : mxOpc r.ent.cmd = 1) (hcleared : r.cleared = false) (parity : Bool) : exec (.mma k parity) s =
    .next (applyEvs k (putCore s k (mxDiscard (coreAt s k) r.ent code).1) (mxDiscard (coreAt s k) r.ent code).2) := by
  rw [exec_mma]
  exact runLive_eq hk hlive (by simp [hrun, hopc, hcleared, hfault])

theorem mxDrain_discards (hopc : mxOpc r.ent.cmd = 2) : exec (.mxDrain k) s =
    .next (applyEvs k (putCore s k (mxDiscard (coreAt s k) r.ent code).1) (mxDiscard (coreAt s k) r.ent code).2) := by
  rw [exec_mxDrain]
  exact runLive_eq hk hlive (by simp [hrun, hopc, hfault])

theorem mxClear_discards (hopc : mxOpc r.ent.cmd = 3) : exec (.mxClear k) s =
    .next (applyEvs k (putCore s k (mxDiscard (coreAt s k) r.ent code).1) (mxDiscard (coreAt s k) r.ent code).2) := by
  rw [exec_mxClear]
  exact runLive_eq hk hlive (by simp [hrun, hopc, hfault])

end

/-! ### The shadow set swaps in (R54) -/

/-- The core with the beats of a whole B tile in its weight registers. -/
def swappedCore (d : Core) (r : MxRun) (n : Nat) : Core :=
  { d with weights := d.shadow.take n, shadow := d.shadow.drop n,
           mxRun := some { r with loaded := true, rows := 0, poison := r.poison || (d.shadow.take n).any (·.poison) } }

theorem mxShadowSwap_swaps {r : MxRun} (hrun : (coreAt s k).mxRun = some r) (hws : isWs r.ent.cmd = true)
    (hvalid : mxValid r.ent.cmd = true) (hloaded : r.loaded = false) (hleft : tilesLeft r ≠ 0)
    (hbeats : bTileBeats (mxPair r.ent.cmd) ≤ (fillShadow (coreAt s k)).shadow.length) : exec (.mxShadowSwap k) s =
    .next (putCore s k (fillShadow (swappedCore (fillShadow (coreAt s k)) r (bTileBeats (mxPair r.ent.cmd))))) := by
  rw [exec_mxShadowSwap]
  exact runLive_eq (l := []) hk hlive (by simp [hrun, hws, hvalid, hloaded, hleft, hbeats, swappedCore])

end

/-- The claim on the start of the head command. -/
theorem matrixStart : Claims.MatrixStart := by
  intro s k e rest hk c hlive hrun
  refine ⟨mxCmdStart_idle hk hlive hrun, fun hq hopc hhaz hunder => ?_, fun hq hopc => mxCmdStart_waits hk hlive hrun hq hopc⟩
  refine ⟨_, mxCmdStart_starts hk hlive hrun hq hopc hhaz hunder, ?_⟩
  simp [c, mxStarted]

/-- The claim on NOP, CLEAR and DRAIN. -/
theorem matrixPlainCommands : Claims.MatrixPlainCommands := by
  intro s k r hk c cmd ti sl hlive hrun hfault
  refine ⟨fun hopc => ⟨_, mxNop_completes hk hlive hrun hopc (mxValid_of_fault_none hfault), ?_⟩,
    fun hopc => ⟨_, mxClear_completes hk hlive hrun hopc hfault, ?_⟩,
    fun hopc => ⟨_, mxDrain_queued hk hlive hrun hopc hfault, ?_⟩⟩
  · rw [slotAt_fillShadow, doneAt_mxComplete]
    exact ⟨by simp, by simp [c], rfl⟩
  · rw [slotAt_fillShadow, doneAt_mxComplete]
    refine ⟨by simp [tileCleared], ?_, fun j hj => ?_, rfl⟩
    · rw [tileAt_fillShadow, tileAt_mxComplete]
      exact tileAt_putTile c ti _
    · rw [tileAt_fillShadow, tileAt_mxComplete]
      exact tileAt_putTile_ne c _ hj
  · simp [c]

/-- The claim on discarded commands. -/
theorem matrixDiscarded : Claims.MatrixDiscarded := by
  intro s k r code hk c sl hlive hrun hcleared hfault
  exact ⟨(mxDiscard c r.ent code).1, fun hopc b => mma_discards hk hlive hrun hfault hopc hcleared b,
    mxDrain_discards hk hlive hrun hfault, mxClear_discards hk hlive hrun hfault, mxDiscard_frame c r.ent code⟩

/-- The claim on the swap of the shadow set. -/
theorem matrixShadowSwap : Claims.MatrixShadowSwap := by
  intro s k r hk c d n hlive hrun hws hvalid hloaded hleft hbeats
  refine ⟨_, mxShadowSwap_swaps hk hlive hrun hws hvalid hloaded hleft hbeats, ?_⟩
  simp [swappedCore, c, d, n]

/-- Settles O19: the start of the head command, the plain commands, the discarded ones, and the swap of the shadow set. -/
theorem matrixCommands : Obligations.MatrixCommands :=
  ⟨matrixStart, matrixPlainCommands, matrixDiscarded, matrixShadowSwap⟩

end Sys2Proof.Machine

/-! PROOFS. Products landing in a tile: one accumulator under the products of a row, of the rows of a command and of its steps,
and the statement on the products of OUTER and WS commands (O20). -/

namespace Sys2Proof.Machine

/-! ### Products landing in one row (R46, R75) -/

theorem macInto_fst (a : Acc) (inv : Nat) (ps : List Esf) : (macInto a inv ps).1 = ps.foldl accAdd a := by
  unfold macInto
  induction ps generalizing a inv with
  | nil => rfl
  | cons p ps ih => exact ih _ _

/-- The products `ps anchor n` landing in accumulator (row, n). -/
def landAt (row : Nat) (ps : Nat → Nat → List Esf) (z : Tile × Nat) (n : Nat) : Tile × Nat :=
  let q := macInto (accAt z.1 row n) z.2 (ps z.1.anchor n)
  ({ z.1 with acc := tabSet z.1.acc (48 * row + n) q.1 }, q.2)

theorem landAt_anchor (row : Nat) (ps : Nat → Nat → List Esf) (z : Tile × Nat) (n : Nat) :
    (landAt row ps z n).1.anchor = z.1.anchor := rfl

/-- Products land in their own accumulator and no other: a row has 48 columns (R55). -/
theorem accAt_landAt {row n : Nat} (ps : Nat → Nat → List Esf) (z : Tile × Nat) {i j : Nat} (hn : n < 48) (hj : j < 48) :
    accAt (landAt row ps z n).1 i j =
      if i = row ∧ j = n then (ps z.1.anchor j).foldl accAdd (accAt z.1 i j) else accAt z.1 i j := by
  by_cases hij : i = row ∧ j = n
  · obtain ⟨rfl, rfl⟩ := hij
    rw [if_pos ⟨rfl, rfl⟩, ← macInto_fst _ z.2]
    exact tabGet_tabSet_self _ _ _ _
  · rw [if_neg hij]
    exact tabGet_tabSet_ne _ _ _ (by omega)

/-- The products `ps anchor n` landing in the accumulators of a row, in columns below `cols`. -/
def landRow (cols row : Nat) (ps : Nat → Nat → List Esf) (z : Tile × Nat) : Tile × Nat :=
  (List.range cols).foldl (landAt row ps) z

theorem landRow_succ (n row : Nat) (ps : Nat → Nat → List Esf) (z : Tile × Nat) :
    landRow (n + 1) row ps z = landAt row ps (landRow n row ps z) n := by
  simp only [landRow, List.range_succ, List.foldl_append, List.foldl_cons, List.foldl_nil]

theorem landRow_anchor (cols row : Nat) (ps : Nat → Nat → List Esf) (z : Tile × Nat) :
    (landRow cols row ps z).1.anchor = z.1.anchor := by
  induction cols with
  | zero => rfl
  | succ n ih => rw [landRow_succ, landAt_anchor, ih]

/-- What a row of products leaves in each accumulator. -/
theorem accAt_landRow {cols row : Nat} (ps : Nat → Nat → List Esf) (z : Tile × Nat) {i j : Nat} (hcols : cols ≤ 48) (hj : j < 48) :
    accAt (landRow cols row ps z).1 i j =
      if i = row ∧ j < cols then (ps z.1.anchor j).foldl accAdd (accAt z.1 i j) else accAt z.1 i j := by
  induction cols with
  | zero => simp [landRow]
  | succ n ih =>
    rw [landRow_succ, accAt_landAt _ _ hcols hj, landRow_anchor, ih (Nat.le_of_succ_le hcols)]
    by_cases hij : i = row ∧ j = n
    · obtain ⟨rfl, rfl⟩ := hij
      simp
    · have : (i = row ∧ j < n + 1) ↔ (i = row ∧ j < n) := by omega
      simp only [hij, if_false, this]

/-! ### Products landing in the rows of a tile (R46, R53) -/

/-- The products `ps m anchor n` landing in rows below `rows` and columns below `cols`. -/
def landRows (rows cols : Nat) (ps : Nat → Nat → Nat → List Esf) (z : Tile × Nat) : Tile × Nat :=
  (List.range rows).foldl (fun z m => landRow cols m (ps m) z) z

theorem landRows_succ (n cols : Nat) (ps : Nat → Nat → Nat → List Esf) (z : Tile × Nat) :
    landRows (n + 1) cols ps z = landRow cols n (ps n) (landRows n cols ps z) := by
  simp only [landRows, List.range_succ, List.foldl_append, List.foldl_cons, List.foldl_nil]

theorem landRows_anchor (rows cols : Nat) (ps : Nat → Nat → Nat → List Esf) (z : Tile × Nat) :
    (landRows rows cols ps z).1.anchor = z.1.anchor := by
  induction rows with
  | zero => rfl
  | succ n ih => rw [landRows_succ, landRow_anchor, ih]

/-- What the rows of products leave in each accumulator. -/
theorem accAt_landRows {rows cols : Nat} (ps : Nat → Nat → Nat → List Esf) (z : Tile × Nat) {i j : Nat} (hcols : cols ≤ 48)
    (hj : j < 48) : accAt (landRows rows cols ps z).1 i j =
      if i < rows ∧ j < cols then (ps i z.1.anchor j).foldl accAdd (accAt z.1 i j) else accAt z.1 i j := by
  induction rows with
  | zero => simp [landRows]
  | succ n ih =>
    rw [landRows_succ, accAt_landRow _ _ hcols hj, landRows_anchor, ih]
    by_cases hi : i = n
    · subst hi
      simp
    · have : (i < n + 1 ∧ j < cols) ↔ (i < n ∧ j < cols) := by omega
      simp only [hi, false_and, if_false, this]

/-- The products of a WS row from its beats (R46, R47). -/
def wsProducts (r : MxRun) (w beats : List Beat) (anchor n : Nat) : List Esf :=
  (List.range (mxPair r.ent.cmd).rate.kWs).map (fun k =>
    productEsf (aElemWs (mxPair r.ent.cmd) beats k) (bElemWs (mxPair r.ent.cmd) w k n) r.sa r.sb anchor)

theorem wsRow_eq (r : MxRun) (w : List Beat) (row : Nat) (beats : List Beat) (z : Tile × Nat) :
    wsRow r w row beats z = landRow (mxN r.ent.cmd) row (wsProducts r w beats) z := rfl

/-- The beats of row `m` of a WS command. -/
def rowBeats (r : MxRun) (beats : List Beat) (m : Nat) : List Beat :=
  (beats.drop (m * (mxPair r.ent.cmd).rate.aBeats)).take (mxPair r.ent.cmd).rate.aBeats

theorem rowBeats_succ (r : MxRun) (beats : List Beat) (m : Nat) :
    rowBeats r (beats.drop (mxPair r.ent.cmd).rate.aBeats) m = rowBeats r beats (m + 1) := by
  rw [rowBeats, rowBeats, List.drop_drop, Nat.succ_mul, Nat.add_comm]

/-- The rows of a WS command issue one after the other, each with its own beats. -/
theorem wsRows_eq_foldl (r : MxRun) (w : List Beat) (n row : Nat) (beats : List Beat) (z : Tile × Nat) :
    wsRows r w n row beats z = (List.range n).foldl (fun z m => wsRow r w (row + m) (rowBeats r beats m) z) z := by
  induction n generalizing row beats z with
  | zero => rfl
  | succ n ih =>
    simp only [wsRows, ih, List.range_succ_eq_map, List.foldl_cons, List.foldl_map, rowBeats_succ, Nat.add_right_comm row 1,
      Nat.add_assoc]
    simp [rowBeats]

theorem wsRows_eq (r : MxRun) (w : List Beat) (n : Nat) (beats : List Beat) (z : Tile × Nat) :
    wsRows r w n 0 beats z = landRows n (mxN r.ent.cmd) (fun m => wsProducts r w (rowBeats r beats m)) z := by
  simp only [wsRows_eq_foldl, Nat.zero_add, wsRow_eq, landRows]

/-- What the rows of a WS command leave in an accumulator inside M by N. -/
theorem accAt_wsRows (r : MxRun) (w beats : List Beat) (z : Tile × Nat) {n i j : Nat} (hi : i < n) (hj : j < mxN r.ent.cmd)
    (hN : mxN r.ent.cmd ≤ 48) : accAt (wsRows r w n 0 beats z).1 i j =
      (wsProducts r w (rowBeats r beats i) z.1.anchor j).foldl accAdd (accAt z.1 i j) := by
  rw [wsRows_eq, accAt_landRows _ _ hN (by omega), if_pos ⟨hi, hj⟩]

/-! ### Products of the steps of an OUTER command (R46, R47, R53) -/

/-- The products of an OUTER step at row `m`, column `n` (R46, R47). -/
def outerProducts (r : MxRun) (ab : Beat × Beat) (m anchor n : Nat) : List Esf :=
  (List.range (mxPair r.ent.cmd).rate.kOuter).map (fun j =>
    productEsf (elemOuter (mxPair r.ent.cmd).a (mxPair r.ent.cmd).rate ab.1 j m)
      (elemOuter (mxPair r.ent.cmd).b (mxPair r.ent.cmd).rate ab.2 j n) r.sa r.sb anchor)

theorem outerStep_eq (r : MxRun) (a b : Beat) (z : Tile × Nat) :
    outerStep r a b z = landRows (mxM r.ent.cmd) (mxN r.ent.cmd) (outerProducts r (a, b)) z := rfl

/-- What the steps of an OUTER command leave in an accumulator inside M by N. -/
theorem accAt_outerSteps (r : MxRun) (as bs : List Beat) (z : Tile × Nat) {i j : Nat} (hi : i < mxM r.ent.cmd)
    (hj : j < mxN r.ent.cmd) (hN : mxN r.ent.cmd ≤ 48) : accAt (outerSteps r as bs z).1 i j =
      ((as.zip bs).flatMap (fun ab => outerProducts r ab i z.1.anchor j)).foldl accAdd (accAt z.1 i j) := by
  induction as generalizing bs z with
  | nil => simp [outerSteps]
  | cons a as ih =>
    cases bs with
    | nil => simp [outerSteps]
    | cons b bs =>
      rw [outerSteps, ih, outerStep_eq, landRows_anchor, accAt_landRows _ _ hN (by omega), if_pos ⟨hi, hj⟩, List.zip_cons_cons,
        List.flatMap_cons, List.foldl_append]

/-! ### A multiplication issues (R42, R60, R66, R67, R69) -/

/-- Counting a wait changes no unit of the core. -/
theorem mmaWait_eq (c : Core) (r : MxRun) : mmaWait c r = { c with ctr := (mmaWait c r).ctr } := by
  unfold mmaWait
  split
  · rfl
  · split <;> rfl

@[simp] theorem mmaWait_slots (c : Core) (r : MxRun) : (mmaWait c r).slots = c.slots := by rw [mmaWait_eq]
@[simp] theorem mmaWait_tiles (c : Core) (r : MxRun) : (mmaWait c r).tiles = c.tiles := by rw [mmaWait_eq]
@[simp] theorem mmaWait_ma (c : Core) (r : MxRun) : (mmaWait c r).ma = c.ma := by rw [mmaWait_eq]
@[simp] theorem mmaWait_mb (c : Core) (r : MxRun) : (mmaWait c r).mb = c.mb := by rw [mmaWait_eq]
@[simp] theorem mmaWait_weights (c : Core) (r : MxRun) : (mmaWait c r).weights = c.weights := by rw [mmaWait_eq]
@[simp] theorem tileAt_mmaWait (c : Core) (r : MxRun) (i : Nat) : tileAt (mmaWait c r) i = tileAt c i := by
  rw [mmaWait_eq]; rfl

theorem mmaWait_ctr_ne (c : Core) (r : MxRun) {i : Nat} (h2 : i ≠ 2) (h3 : i ≠ 3) :
    tabGet (mmaWait c r).ctr i 0 = tabGet c.ctr i 0 := by
  unfold mmaWait
  split
  · exact tabGet_bump_ne _ _ h2
  · split
    · exact tabGet_bump_ne _ _ h3
    · rfl

theorem mxPoison_none (c : Core) (r : MxRun) : mxPoison c r false = (c, []) := rfl
theorem mxParity_none (c : Core) (tile slot tag : Nat) : mxParity c tile slot tag false = (c, []) := rfl

/-- The core as a multiplication finds it at a step: its tile cleared where this is the first step and CLEAR is 1. -/
def mmaTile (c : Core) (r : MxRun) : Core :=
  if !r.cleared && mxClearBit r.ent.cmd && mxM r.ent.cmd != 0 && mxN r.ent.cmd != 0
  then putTile c (mxTile r.ent.cmd) (clearedTile (tileAt c (mxTile r.ent.cmd)) (mxAnchor r.ent.cmd)) else c

/-- A multiplication that is checked and has taken no poison goes on with the beats that have arrived, behind what a parity error
does. -/
theorem mma_goes_on {s : State} {k : Nat} {r : MxRun} {parity : Bool} (hk : k < nCores) (hlive : (coreAt s k).held = false)
    (hrun : (coreAt s k).mxRun = some r) (hopc : mxOpc r.ent.cmd = 1) (hpoison : r.poison = false)
    (hcheck : r.cleared = true ∨ mxFault (coreAt s k) r.ent = none ∧ misport (coreAt s k) 0 (mxNames r.ent.cmd 0) = none ∧
      misport (coreAt s k) 1 (mxNames r.ent.cmd 1) = none) {c : Core} {l : List Ev} {m : Core × List Ev}
    (hparity : mxParity (mmaTile (coreAt s k) r) (mxTile r.ent.cmd) r.ent.slot (mxTag r.ent.cmd) parity = (c, l))
    (hm : mmaRun s c { r with cleared := true, told := r.told || r.poison } = m) :
    exec (.mma k parity) s = .next (applyEvs k (putCore s k m.1) (l ++ m.2)) := by
  have hfault : (if r.cleared then none else mxFault (coreAt s k) r.ent) = none := by
    rcases hcheck with h | h <;> simp [h]
  have hports : (if r.cleared then none else
      (misport (coreAt s k) 0 (mxNames r.ent.cmd 0)).or (misport (coreAt s k) 1 (mxNames r.ent.cmd 1))) = none := by
    rcases hcheck with h | h <;> simp [h]
  rw [exec_mma]
  refine runLive_eq hk hlive ?_
  simp only [hrun, hopc, ne_eq, not_true_eq_false, if_false, hfault, hports]
  rw [← mmaTile, hpoison, Bool.false_and, mxPoison_none, hparity, ← hpoison, hm]
  rfl

/-- A multiplication has issued whole without a drain: its tile stands as given, the others as they were, and the command counts
as done. -/
structure IssuedWith (c : Core) (e : MxEnt) (t : Tile) (m : Core × List Ev) : Prop where
  quiet : m.2 = []
  free : m.1.mxRun = none
  tile : tileAt m.1 (mxTile e.cmd) = t
  others : ∀ j, j ≠ mxTile e.cmd → tileAt m.1 j = tileAt c j
  done : doneAt (slotAt m.1 e.slot) 0 = doneAt (slotAt c e.slot) 0 + 1

theorem mxIssued_undrained (s : State) {c d : Core} {r : MxRun} {t : Tile} (hdrain : mxDrainBit r.ent.cmd = false)
    (hslots : d.slots = c.slots) (htiles : d.tiles = tabSet c.tiles (mxTile r.ent.cmd) t) :
    IssuedWith c r.ent t (mxIssued s d r, []) := by
  have hm : mxIssued s d r = fillShadow (mxComplete s { d with mxRun := none, weights := [] } r.ent) := by
    simp [mxIssued, hdrain]
  have htile (j : Nat) : tileAt (mxIssued s d r) j = tileAt (putTile c (mxTile r.ent.cmd) t) j := by
    rw [hm, tileAt_fillShadow, tileAt_mxComplete, tileAt, tileAt]
    simp only [htiles, putTile_tiles]
  refine ⟨rfl, ?_, ?_, fun j hj => ?_, ?_⟩
  · simp [hm]
  · rw [htile, tileAt_putTile]
  · rw [htile, tileAt_putTile_ne _ _ hj]
  · rw [hm, slotAt_fillShadow, doneAt_mxComplete]
    simp only [slotAt, hslots]

section
variable (s : State) {c : Core} {r : MxRun} {t : Tile} (hdrain : mxDrainBit r.ent.cmd = false)
  (htile : tileAt c (mxTile r.ent.cmd) = t)
include hdrain htile

/-- An OUTER multiplication whose beats have all arrived issues every step (R53, R60). -/
theorem mmaRun_outer (hmode : mxMode r.ent.cmd = 1) (hK : mxK r.ent.cmd ≠ 0) (hdone : r.kDone = 0)
    (hA : mxK r.ent.cmd ≤ countFrom (mxSrcA r.ent.cmd) c.ma) (hB : mxK r.ent.cmd ≤ countFrom (mxSrcB r.ent.cmd) c.mb)
    (hpa : (takeFrom (mxSrcA r.ent.cmd) (mxK r.ent.cmd) c.ma).1.any (·.poison) = false)
    (hpb : (takeFrom (mxSrcB r.ent.cmd) (mxK r.ent.cmd) c.mb).1.any (·.poison) = false) :
    IssuedWith c r.ent (outerSteps r (takeFrom (mxSrcA r.ent.cmd) (mxK r.ent.cmd) c.ma).1
      (takeFrom (mxSrcB r.ent.cmd) (mxK r.ent.cmd) c.mb).1 (t, 0)).1 (mmaRun s c r) := by
  have hn : min (mxK r.ent.cmd) (min (countFrom (mxSrcA r.ent.cmd) c.ma) (countFrom (mxSrcB r.ent.cmd) c.mb)) =
      mxK r.ent.cmd := by omega
  unfold mmaRun
  simp only [hK, hmode, if_false, mmaWait_ma, mmaWait_mb, hn, hpa, hpb, tileAt_mmaWait, htile, Bool.or_false, Bool.false_and,
    mxPoison_none, hdone, Nat.sub_zero, Nat.zero_add, Nat.lt_irrefl, one_ne_zero]
  exact mxIssued_undrained s hdrain (by simp) (by simp)

/-- The last tile of a WS multiplication whose A rows have all arrived issues every row (R53). -/
theorem mmaRun_lastTile (hmode : mxMode r.ent.cmd = 0) (hloaded : r.loaded = true) (hrows : r.rows = 0)
    (hlast : r.kDone + 1 = mxK r.ent.cmd)
    (hA : mxM r.ent.cmd * (mxPair r.ent.cmd).rate.aBeats ≤ countFrom (mxSrcA r.ent.cmd) c.ma)
    (hpa : (takeFrom (mxSrcA r.ent.cmd) (mxM r.ent.cmd * (mxPair r.ent.cmd).rate.aBeats) c.ma).1.any (·.poison) = false) :
    IssuedWith c r.ent (wsRows r c.weights (mxM r.ent.cmd) 0
      (takeFrom (mxSrcA r.ent.cmd) (mxM r.ent.cmd * (mxPair r.ent.cmd).rate.aBeats) c.ma).1 (t, 0)).1
      (mmaRun s c r) := by
  have hK : mxK r.ent.cmd ≠ 0 := by omega
  have hpos : 0 < (mxPair r.ent.cmd).rate.aBeats := by cases (mxPair r.ent.cmd).rate <;> decide
  have hn : min (mxM r.ent.cmd) (countFrom (mxSrcA r.ent.cmd) c.ma / (mxPair r.ent.cmd).rate.aBeats) = mxM r.ent.cmd :=
    min_eq_left ((Nat.le_div_iff_mul_le hpos).mpr hA)
  unfold mmaRun
  simp only [hK, hmode, hloaded, hrows, if_false, if_true, Bool.true_eq_false, mmaWait_ma, Nat.sub_zero, hn, hpa, tileAt_mmaWait, htile,
    mmaWait_weights, Bool.or_false, Bool.false_and, mxPoison_none, hlast, Nat.zero_add, Nat.lt_irrefl]
  exact mxIssued_undrained s hdrain (by simp) (by simp)

end

/-! ### The statement (R44, R46, R47, R53, R60, R75) -/

theorem mxPair_eq {cmd : BitVec 256} {p : Pair} (h : pairOf (mxFmt cmd) = some p) : mxPair cmd = p := by rw [mxPair, h]; rfl

/-- A valid multiplication has at most 48 columns (R46, R61). -/
theorem mxN_le {cmd : BitVec 256} (hopc : mxOpc cmd = 1) (hvalid : mxValid cmd = true) : mxN cmd ≤ 48 := by
  cases hp : pairOf (mxFmt cmd) with
  | none => simp [mxValid, hopc, hp] at hvalid
  | some p =>
    have hdim : p.rate.dim ≤ 48 := by cases p.rate <;> decide
    have hN : mxN cmd ≤ p.rate.dim := by
      simp only [mxValid, hopc, hp, Bool.and_eq_true, Bool.or_eq_true, decide_eq_true_eq] at hvalid
      simp at hvalid
      omega
    omega

/-- A multiplication as its step begins. -/
def begun (r : MxRun) : MxRun := { r with cleared := true, told := r.told || r.poison }

/-- The claim on OUTER multiplications. -/
theorem matrixOuterProducts : Claims.MatrixOuterProducts := by
  intro s k r p hk c cmd ti n as bs hlive hrun hopc hmode hpair hfault hportA hportB hclear hdrain hcleared hpoison htold hdone
    hn hM hN hA hB hpa hpb
  obtain rfl := mxPair_eq hpair
  have hN48 : mxN cmd ≤ 48 := mxN_le hopc (mxValid_of_fault_none hfault)
  have htile : mmaTile c r = putTile c ti (clearedTile (tileAt c ti) (mxAnchor cmd)) :=
    if_pos (by simp [show mxClearBit r.ent.cmd = true from hclear, hcleared, show mxM r.ent.cmd ≠ 0 from hM,
      show mxN r.ent.cmd ≠ 0 from hN])
  have hrest := mmaRun_outer s (c := mmaTile c r) (r := begun r) hdrain (htile ▸ tileAt_putTile c ti _) hmode hn hdone
    (htile ▸ hA) (htile ▸ hB) (htile ▸ hpa) (htile ▸ hpb)
  have hstep := mma_goes_on hk hlive hrun hopc hpoison (.inr ⟨hfault, hportA, hportB⟩) (mxParity_none _ _ _ _)
    (rfl : mmaRun s (mmaTile c r) (begun r) = _)
  rw [List.nil_append, hrest.quiet] at hstep
  refine ⟨_, hstep, hrest.free, fun i j hi hj => ?_, fun t ht => ?_, ?_⟩
  · refine (congrArg (accAt · i j) hrest.tile).trans ((accAt_outerSteps (begun r) _ _ _ hi hj hN48).trans ?_)
    rw [htile]
    rfl
  · rw [hrest.others t ht, htile, tileAt_putTile_ne _ _ ht]
  · exact hrest.done.trans (by rw [htile]; rfl)

/-- The claim on the last tile of a WS multiplication. -/
theorem matrixWeightStationary : Claims.MatrixWeightStationary := by
  intro s k r p hk c cmd ti g as hlive hrun hopc hmode hpair hvalid hdrain hcleared hpoison htold hloaded hrows hlast hA hpa
  obtain rfl := mxPair_eq hpair
  have hN48 : mxN cmd ≤ 48 := mxN_le hopc hvalid
  have htile : mmaTile c r = c := if_neg (by simp [hcleared])
  have hrest := mmaRun_lastTile s (c := c) (r := begun r) hdrain rfl hmode hloaded hrows hlast hA hpa
  have hstep := mma_goes_on hk hlive hrun hopc hpoison (.inl hcleared) (mxParity_none _ _ _ _)
    (rfl : mmaRun s (mmaTile c r) (begun r) = _)
  rw [List.nil_append, htile, hrest.quiet] at hstep
  refine ⟨_, hstep, hrest.free, fun i j hi hj => ?_, hrest.others, hrest.done⟩
  exact (congrArg (accAt · i j) hrest.tile).trans (accAt_wsRows (begun r) _ _ _ hi hj hN48)

/-- Settles O20: the products of OUTER and of WS multiplications. -/
theorem matrixProducts : Obligations.MatrixProducts := ⟨matrixOuterProducts, matrixWeightStationary⟩

end Sys2Proof.Machine

/-! PROOFS. Parity errors of the matrix engine and the drain unit (O21). -/

namespace Sys2Proof.Machine

theorem exec_mxDrainStart (k : Nat) (s : State) : exec (.mxDrainStart k) s = execMxDrainStart k s := rfl
theorem exec_mxDrainRow (k : Nat) (parity : Bool) (s : State) : exec (.mxDrainRow k parity) s = execMxDrainRow k parity s := rfl

/-! ### Parity errors (R67, R378) -/

/-- A multiplication without a B tile waits for it, and its tile stays as it is. -/
theorem mmaRun_unloaded (s : State) (c : Core) {r : MxRun} (hmode : mxMode r.ent.cmd = 0) (hK : mxK r.ent.cmd ≠ 0)
    (hloaded : r.loaded = false) : mmaRun s c r =
    (putTile { mmaWait c r with mxRun := some r } (mxTile r.ent.cmd) (tileAt c (mxTile r.ent.cmd)), []) := by
  simp [mmaRun, hmode, hK, hloaded]

/-- The claim on parity errors of a multiplication. -/
theorem matrixParity : Claims.MatrixParity := by
  intro s k r hk c cmd hlive hrun hopc hmode hK hloaded hcleared hpoison _
  have htile : mmaTile c r = c := if_neg (by simp [hcleared])
  have hstep := mma_goes_on (parity := true) hk hlive hrun hopc hpoison (.inl hcleared) rfl
    (mmaRun_unloaded (r := begun r) s _ hmode hK hloaded)
  refine ⟨_, hstep, ?_, ?_, ?_⟩
  · rw [htile]
    exact (congrArg Tile.poisonAll (tileAt_putTile _ _ _)).trans (congrArg Tile.poisonAll (tileAt_putTile _ _ _))
  · rw [htile]
    exact (mmaWait_ctr_ne _ _ (by decide) (by decide)).trans (tabGet_bump c.ctr 12 1)
  · rw [htile]
    exact mmaWait_slots _ _

/-! ### The drain unit (R57, R58, R64, R168, R506) -/

section
variable {s : State} {k : Nat} {d : Drain} {rest : List Drain} (hk : k < nCores) (hlive : (coreAt s k).held = false)
  (hdrains : (coreAt s k).drains = d :: rest)
include hk hlive hdrains

theorem mxDrainStart_runs (hidle : d.running = false) (hrows : drainEmpty d.ent.cmd = false) : exec (.mxDrainStart k) s =
    .next (putCore s k { coreAt s k with drains := { d with running := true } :: rest }) := by
  rw [exec_mxDrainStart]
  exact runLive_eq (l := []) hk hlive (by simp [hdrains, hidle, hrows])

/-- A drain of no rows is done at once. -/
theorem mxDrainStart_empty (hidle : d.running = false) (hrows : drainEmpty d.ent.cmd = true) (hto : mxDrainTo d.ent.cmd ≠ 2) :
    exec (.mxDrainStart k) s = .next (putCore s k (drainDone s (coreAt s k) d)) := by
  rw [exec_mxDrainStart]
  exact runLive_eq (l := []) hk hlive (by simp [hdrains, hidle, hrows, hto])

variable (hrunning : d.running = true)
include hrunning

/-- A row is held while the drain queue holds 8. -/
theorem mxDrainRow_queueFull (hto : mxDrainTo d.ent.cmd = 0) (hfull : 8 ≤ (coreAt s k).drainQ.length)
    (hfmt : (fmtOfDrain (mxDrainFmt d.ent.cmd)).isSome = true) :
    exec (.mxDrainRow k false) s = .next (putCore s k (bumpCore (coreAt s k) 9 1)) := by
  obtain ⟨f, hf⟩ := Option.isSome_iff_exists.mp hfmt
  rw [exec_mxDrainRow]
  exact runLive_eq (l := []) hk hlive (by simp [hdrains, hrunning, mxParity_none, hto, hf, hfull])

/-- A row is held while the store streamer takes no more, whatever its format. -/
theorem mxDrainRow_storeFull (hto : mxDrainTo d.ent.cmd = 1) (hfull : storeRefuses (strmAt (coreAt s k) 2).src0 = true) :
    exec (.mxDrainRow k false) s = .next (putCore s k (bumpCore (coreAt s k) 9 1)) := by
  rw [exec_mxDrainRow]
  refine runLive_eq (l := []) hk hlive ?_
  cases hf : fmtOfDrain (mxDrainFmt d.ent.cmd) with
  | none => simp [hdrains, hrunning, mxParity_none, hto, hf, hfull]
  | some f => simp [hdrains, hrunning, mxParity_none, hto, hf, hfull]

/-- A contribution is held while its endpoint has no credit. -/
theorem mxDrainRow_noCredit (hto : mxDrainTo d.ent.cmd = 2) (hlast : mxM d.ent.cmd ≤ d.row + 1)
    (hsend : sendRefusal (outAt (coreAt s k) (mxDrainEp d.ent.cmd)) d.ent.slot true = none)
    (hcredit : sendRoom (coreAt s k) (mxDrainEp d.ent.cmd) ≤ (outAt (coreAt s k) (mxDrainEp d.ent.cmd)).sendQ.length) :
    exec (.mxDrainRow k false) s =
      .next (putCore s k (bumpOut (bumpCore (coreAt s k) 9 1) (mxDrainEp d.ent.cmd) 1 1)) := by
  rw [exec_mxDrainRow]
  exact runLive_eq (l := []) hk hlive
    (by simp [hdrains, hrunning, mxParity_none, hto, Nat.not_lt.mpr hlast, drainRed, hsend, hcredit])

/-- A narrowed row of the drain unit as the drain queue takes it. -/
def queuedRow (c : Core) (d : Drain) (ns : List Narrowed) : DrainRow :=
  { lanes := ns.map (fun n => BitVec.ofNat 32 n.bits), fmt := mxDrainFmt d.ent.cmd,
    poison := (List.range (mxN d.ent.cmd)).any (fun n => (tileEsf (tileAt c (mxTile d.ent.cmd)) d.row n).poison) }

/-- A row that is not the last goes behind those queued, narrowed and observed. -/
theorem mxDrainRow_queues {f : Fmt} (hto : mxDrainTo d.ent.cmd = 0) (hroom : (coreAt s k).drainQ.length < 8)
    (hf : fmtOfDrain (mxDrainFmt d.ent.cmd) = some f) (hmore : d.row + 1 < mxM d.ent.cmd) (hint : f.isInt = false) :
    exec (.mxDrainRow k false) s = .next (applyEvs k
      (putCore s k { coreAt s k with
        drains := { d with row := d.row + 1 } :: rest,
        drainQ := (coreAt s k).drainQ ++ [queuedRow (coreAt s k) d (drainRow s k (coreAt s k) d f)] })
      [obsEv (layoutOf s k) d.ent.step (mxTensor d.ent.cmd) (drainRow s k (coreAt s k) d f)]) := by
  rw [exec_mxDrainRow]
  exact runLive_eq hk hlive
    (by simp [hdrains, hrunning, mxParity_none, hto, hf, Nat.not_le.mpr hroom, rowDone, hmore, hint, queuedRow])

end

/-- The claim on the drain unit. -/
theorem matrixDrainUnit : Claims.MatrixDrainUnit := by
  intro s k d rest hk c cmd hlive hdrains
  refine ⟨mxDrainStart_runs hk hlive hdrains, fun hidle hrows hto => ⟨_, mxDrainStart_empty hk hlive hdrains hidle hrows hto, ?_⟩,
    mxDrainRow_queueFull hk hlive hdrains, mxDrainRow_storeFull hk hlive hdrains, mxDrainRow_noCredit hk hlive hdrains,
    fun f hrunning hto hroom hf hmore hint => mxDrainRow_queues hk hlive hdrains hrunning hto hroom hf hmore hint⟩
  exact ⟨congrArg (List.drop 1) hdrains, rfl, doneAt_mxComplete s _ d.ent⟩

/-- Settles O21: parity errors of a multiplication, and the drain unit. -/
theorem matrixTiles : Obligations.MatrixTiles := ⟨matrixParity, matrixDrainUnit⟩

end Sys2Proof.Machine

/-! PROOFS. The chain unit: how vector commands start, load and are discarded (O22). -/

namespace Sys2Proof.Machine

theorem exec_vcNop (k : Nat) (s : State) : exec (.vcNop k) s = execVcNop k s := rfl
theorem exec_sets (k : Nat) (s : State) : exec (.sets k) s = execSets k s := rfl
theorem exec_chain (k : Nat) (s : State) : exec (.chain k) s = execChain k s := rfl
theorem exec_loadc (k : Nat) (s : State) : exec (.loadc k) s = execLoadc k s := rfl
theorem exec_loadlut (k : Nat) (s : State) : exec (.loadlut k) s = execLoadlut k s := rfl

/-! ### The head of the queue, and commands complete or discarded (R102, R103, R120) -/

theorem vcHead_eq {c : Core} {e : VcEnt} {rest : List VcEnt} (hrun : c.vcRun = none) (hq : c.vcq = e :: rest) :
    vcHead c = some (e, rest) := by
  simp [vcHead, hrun, hq]

@[simp] theorem vcComplete_vcRun (s : State) (c : Core) (e : VcEnt) : (vcComplete s c e).vcRun = none := rfl
@[simp] theorem vcComplete_vcq (s : State) (c : Core) (e : VcEnt) : (vcComplete s c e).vcq = c.vcq := rfl
@[simp] theorem vcComplete_mem (s : State) (c : Core) (e : VcEnt) : (vcComplete s c e).mem = c.mem := rfl

/-- Completion changes the slot of a command in its done counter alone. -/
theorem slotAt_vcComplete (s : State) (c : Core) (e : VcEnt) : slotAt (vcComplete s c e) e.slot =
    { slotAt c e.slot with done := tabSet (slotAt c e.slot).done 1 (doneAt (slotAt c e.slot) 1 + 1) } := by
  rw [vcComplete]
  exact slotAt_putSlot c e.slot _

@[simp] theorem doneAt_vcComplete (s : State) (c : Core) (e : VcEnt) :
    doneAt (slotAt (vcComplete s c e) e.slot) 1 = doneAt (slotAt c e.slot) 1 + 1 := by
  rw [slotAt_vcComplete]
  exact tabGet_tabSet_self _ _ _ _

@[simp] theorem scal_vcComplete (s : State) (c : Core) (e : VcEnt) :
    (slotAt (vcComplete s c e) e.slot).scal = (slotAt c e.slot).scal := by
  rw [slotAt_vcComplete]

@[simp] theorem const_vcComplete (s : State) (c : Core) (e : VcEnt) :
    (slotAt (vcComplete s c e) e.slot).const = (slotAt c e.slot).const := by
  rw [slotAt_vcComplete]

theorem stopSlot_lost_scal (c : Core) (i f code : Nat) :
    (slotAt (loseFiring (stopSlot c i code) i f) i).scal = (slotAt c i).scal := by
  simp [loseFiring, stopSlot]

/-- A discarded command stops its slot and writes nothing. -/
theorem vcDiscard_frame (c : Core) (e : VcEnt) (code : Nat) (count : Bool) :
    (vcDiscard c e code count).1.vcq = c.vcq ∧ (vcDiscard c e code count).1.mem = c.mem ∧
    (vcDiscard c e code count).1.luts = c.luts ∧ (slotAt (vcDiscard c e code count).1 e.slot).st = .stopped ∧
    (slotAt (vcDiscard c e code count).1 e.slot).stopEv = code ∧
    (slotAt (vcDiscard c e code count).1 e.slot).scal = (slotAt c e.slot).scal :=
  ⟨rfl, rfl, rfl, (stopSlot_lost _ _ _ _).1, (stopSlot_lost _ _ _ _).2, stopSlot_lost_scal _ _ _ _⟩

theorem vcIssued_unheld (s : State) {c : Core} (e : VcEnt) (h : c.vcHeld = []) : vcIssued s c e = vcComplete s c e := by
  simp [vcIssued, h]

/-- A command whose result was delivered without an event is issued. -/
theorem ite_issued (s : State) {x : Core × List Ev} {d : Core} (e : VcEnt) (h : x = (d, [])) :
    (if x.2 = [] then (vcIssued s x.1 e, x.2) else x) = (vcIssued s d e, []) := by
  subst h
  exact if_pos rfl

/-! A command that leaves the queue leaves the slots, the tables and the endpoints as they are. -/

@[simp] theorem slotAt_popped (c : Core) (rest : List VcEnt) (i : Nat) : slotAt { c with vcq := rest } i = slotAt c i := rfl

theorem lutAt_popped (c : Core) (rest : List VcEnt) (i : Nat) : lutAt { c with vcq := rest } i = lutAt c i := rfl

theorem misport_popped (c : Core) (rest : List VcEnt) (p : Nat) (ep : Option Nat) :
    misport { c with vcq := rest } p ep = misport c p ep := rfl

/-! ### NOP, SETS and CHAIN at the head (R51, R99 to R101, R110, R115, R118, R120) -/

/-- A CHAIN as it starts: the drain scales of its stages latched, no vector issued. -/
def chainStarted (c : Core) (e : VcEnt) : VcRun :=
  { ent := e, vec := 0, scales := (stagesOf e.cmd).map (fun w => scaleEntry c e.step (cvtScale w)), red := redNew e.cmd,
    poison := false, buf := [] }

/-- The core with a CHAIN under way. -/
def chaining (c : Core) (e : VcEnt) (rest : List VcEnt) : Core := { c with vcq := rest, vcRun := some (chainStarted c e) }

@[simp] theorem chaining_vcq (c : Core) (e : VcEnt) (rest : List VcEnt) : (chaining c e rest).vcq = rest := rfl
@[simp] theorem slotAt_chaining (c : Core) (e : VcEnt) (rest : List VcEnt) (i : Nat) :
    slotAt (chaining c e rest) i = slotAt c i := rfl

/-- A scalar register of a slot written (R100, R118). -/
def putScal (c : Core) (i r : Nat) (v : Scal) : Core :=
  putSlot c i { slotAt c i with scal := tabSet (slotAt c i).scal r v }

@[simp] theorem putScal_vcq (c : Core) (i r : Nat) (v : Scal) : (putScal c i r v).vcq = c.vcq := rfl
@[simp] theorem putScal_mem (c : Core) (i r : Nat) (v : Scal) : (putScal c i r v).mem = c.mem := rfl
@[simp] theorem scal_putScal (c : Core) (i r : Nat) (v : Scal) :
    (slotAt (putScal c i r v) i).scal = tabSet (slotAt c i).scal r v := by simp [putScal]
@[simp] theorem doneAt_putScal (c : Core) (i r d : Nat) (v : Scal) :
    doneAt (slotAt (putScal c i r v) i) d = doneAt (slotAt c i) d := by simp [putScal, doneAt]

/-- The core with SETS's scalar register written. -/
def scalarSet (c : Core) (e : VcEnt) : Core :=
  putScal c e.slot (vcRedS e.cmd) { v := BitVec.ofNat 128 (fld e.cmd 159 128), esf := false, poison := false }

/-- The sum of a segment, poisoned where the segment is (R119). -/
def segmentSum (r : RedAcc) : Esf := { r.sum with poison := r.sum.poison || r.poison }

/-- A segment's sum goes to its scalar register (R118). -/
def sumDelivered (c : Core) (e : VcEnt) (r : RedAcc) : Core :=
  putScal (bumpCore c 29 1) e.slot (vcRedS e.cmd)
    { v := BitVec.ofNat 128 (esfPack (segmentSum r)), esf := true, poison := (segmentSum r).poison }

theorem redResult_scalarSum (c : Core) {e : VcEnt} (r : RedAcc) (hop : vcRedOp e.cmd = 0) (hdest : vcRedDest e.cmd = 0) :
    redResult c e r = (sumDelivered c e r, []) := by
  simp [redResult, hop, hdest, sumDelivered, segmentSum, putScal]

section
variable {s : State} {k : Nat} {e : VcEnt} {rest : List VcEnt} (hk : k < nCores) (hlive : (coreAt s k).held = false)
  (hrun : (coreAt s k).vcRun = none) (hq : (coreAt s k).vcq = e :: rest)
include hk hlive hrun hq

theorem vcNop_completes (hopc : vcOpc e.cmd = 0) :
    exec (.vcNop k) s = .next (putCore s k (vcComplete s { coreAt s k with vcq := rest } e)) := by
  rw [exec_vcNop]
  exact runLive_eq (l := []) hk hlive (by simp [vcHead_eq hrun hq, hopc])

theorem sets_completes (hopc : vcOpc e.cmd = 4) :
    exec (.sets k) s = .next (putCore s k (vcComplete s (scalarSet { coreAt s k with vcq := rest } e) e)) := by
  rw [exec_sets]
  refine runLive_eq (l := []) hk hlive ?_
  simp only [vcHead_eq hrun hq]
  exact if_neg (not_not_intro hopc)

/-- A reserved OPC and a CHAIN that is not valid are discarded. -/
theorem chain_invalid (hbad : 4 < vcOpc e.cmd ∨ (vcOpc e.cmd = 1 ∧ chainValid e.cmd = false)) : exec (.chain k) s =
    .next (applyEvs k (putCore s k (vcDiscard { coreAt s k with vcq := rest } e evVecCmdInvalid true).1)
      [.fault evVecCmdInvalid e.slot noFld (vcTag e.cmd) 0 0 0]) := by
  rw [exec_chain]
  refine runLive_eq hk hlive ?_
  obtain hres | ⟨hopc, hvalid⟩ := hbad
  · simp [vcHead_eq hrun hq, hres, vcDiscard]
  · simp [vcHead_eq hrun hq, hopc, hvalid, vcDiscard]

variable (hopc : vcOpc e.cmd = 1) (hvalid : chainValid e.cmd = true)
include hopc hvalid

theorem chain_badForm (hform : staticForm e.cmd = true) : exec (.chain k) s =
    .next (applyEvs k (putCore s k (vcDiscard { coreAt s k with vcq := rest } e evVecOperandForm true).1)
      [.fault evVecOperandForm e.slot noFld (vcTag e.cmd) 0 0 0]) := by
  rw [exec_chain]
  exact runLive_eq hk hlive (by simp [vcHead_eq hrun hq, hopc, hvalid, hform, vcDiscard])

variable (hform : staticForm e.cmd = false) (hportX : misport (coreAt s k) 2 (vcNames e.cmd 2) = none)
  (hportY : misport (coreAt s k) 3 (vcNames e.cmd 3) = none)
include hform hportX hportY

theorem chain_starts (hN : vcN e.cmd ≠ 0) : exec (.chain k) s =
    .next (putCore s k (chaining (coreAt s k) e rest)) := by
  rw [exec_chain]
  refine runLive_eq (l := []) hk hlive ?_
  simp only [vcHead_eq hrun hq, hopc, hvalid, hform, misport_popped, hportX, hportY]
  exact if_neg hN

/-- A CHAIN of no elements delivers the result of an empty reduction, and then is issued. -/
theorem chain_empty {d : Core} (hN : vcN e.cmd = 0) (hred : vcRedEn e.cmd = true)
    (hres : redResult (chaining (coreAt s k) e rest) e (redNew e.cmd) = (d, [])) :
    exec (.chain k) s = .next (putCore s k (vcIssued s d e)) := by
  rw [exec_chain]
  refine runLive_eq (l := []) hk hlive ?_
  simp only [vcHead_eq hrun hq, hopc, hvalid, hform, misport_popped, hportX, hportY, hN, hred]
  exact ite_issued s e hres

/-- A SUM of no elements into a scalar register writes the empty sum and is complete. -/
theorem chain_emptySum (hN : vcN e.cmd = 0) (hred : vcRedEn e.cmd = true) (hop : vcRedOp e.cmd = 0)
    (hdest : vcRedDest e.cmd = 0) (hheld : (coreAt s k).vcHeld = []) : exec (.chain k) s =
    .next (putCore s k (vcComplete s (sumDelivered (chaining (coreAt s k) e rest) e (redNew e.cmd)) e)) := by
  rw [chain_empty hk hlive hrun hq hopc hvalid hform hportX hportY hN hred (redResult_scalarSum _ _ hop hdest), vcIssued_unheld]
  exact hheld

end

/-- The claim on commands at the head of the queue. -/
theorem vectorHeadCommands : Claims.VectorHeadCommands := by
  intro s k e rest hk c cmd t v empty ports hlive hrun hq
  refine ⟨fun hopc => ⟨_, vcNop_completes hk hlive hrun hq hopc, ?_⟩,
    fun hopc => ⟨_, sets_completes hk hlive hrun hq hopc, ?_⟩,
    fun hopc hvalid hform hports hN => chain_starts hk hlive hrun hq hopc hvalid hform hports.1 hports.2 hN,
    fun hopc hvalid hform hports hN hred hop hdest hheld =>
      ⟨_, chain_emptySum hk hlive hrun hq hopc hvalid hform hports.1 hports.2 hN hred hop hdest hheld, ?_⟩⟩
  · simp [c, t]
  · simp [scalarSet, c, t, v, cmd]
  · simp [sumDelivered, segmentSum, redNew, c, t, empty, cmd]

/-- The claim on discarded commands. -/
theorem vectorDiscarded : Claims.VectorDiscarded := by
  intro s k e rest hk c hlive hrun hq
  refine ⟨fun code => (vcDiscard { c with vcq := rest } e code true).1, chain_invalid hk hlive hrun hq,
    chain_badForm hk hlive hrun hq, fun code => ?_⟩
  obtain ⟨hvcq, hmem, hluts, hst, hev, hscal⟩ := vcDiscard_frame { c with vcq := rest } e code true
  exact ⟨hvcq, hst, hev, hmem, hluts, hscal⟩

/-! ### LOADC and LOADLUT (R100, R103, R119) -/

theorem takeFrom_length (src n : Nat) (l : List Beat) : (takeFrom src n l).1.length = min n (countFrom src l) := by
  induction l generalizing n with
  | nil => simp [takeFrom, countFrom]
  | cons b l ih =>
    by_cases hb : b.src = src
    · cases n with
      | zero => simp [takeFrom, hb, ih]
      | succ n =>
        have hcount : countFrom src (b :: l) = countFrom src l + 1 := by simp [countFrom, hb]
        simp [takeFrom, hb, ih, hcount]
    · have hcount : countFrom src (b :: l) = countFrom src l := by simp [countFrom, hb]
      simp [takeFrom, hb, ih, hcount]

/-- A load as it starts, without beats. -/
def loadStarted (e : VcEnt) : VcRun := { ent := e, vec := 0, scales := [], red := {}, poison := false, buf := [] }

@[simp] theorem loadStarted_ent (e : VcEnt) : (loadStarted e).ent = e := rfl
@[simp] theorem loadStarted_buf (e : VcEnt) : (loadStarted e).buf = [] := rfl
@[simp] theorem loadStarted_poison (e : VcEnt) : (loadStarted e).poison = false := rfl

theorem loadStart_head {c : Core} {e : VcEnt} {rest : List VcEnt} {opc : Nat} (hrun : c.vcRun = none) (hq : c.vcq = e :: rest)
    (hopc : vcOpc e.cmd = opc) : loadStart c opc = some (loadStarted e, { c with vcq := rest }) := by
  simp [loadStart, hrun, hq, hopc, loadStarted]

/-- The core with `n` beats of a command's X source taken from the port and counted. -/
def beatsTaken (c : Core) (e : VcEnt) (n : Nat) : Core :=
  bumpCore { c with vx := (takeFrom (vcSrcX e.cmd) n c.vx).2 } 15 (takeFrom (vcSrcX e.cmd) n c.vx).1.length

@[simp] theorem beatsTaken_vcq (c : Core) (e : VcEnt) (n : Nat) : (beatsTaken c e n).vcq = c.vcq := rfl
@[simp] theorem beatsTaken_mem (c : Core) (e : VcEnt) (n : Nat) : (beatsTaken c e n).mem = c.mem := rfl
@[simp] theorem slotAt_beatsTaken (c : Core) (e : VcEnt) (n i : Nat) : slotAt (beatsTaken c e n) i = slotAt c i := rfl

/-- A load whose beats have all arrived, none of them poisoned, takes them all. -/
theorem loadBeats_all {c : Core} {e : VcEnt} {n : Nat} (hclean : (takeFrom (vcSrcX e.cmd) n c.vx).1.any (·.poison) = false) :
    loadBeats c (loadStarted e) n =
      ({ loadStarted e with buf := (takeFrom (vcSrcX e.cmd) n c.vx).1 }, beatsTaken c e n) := by
  simp [loadBeats, loadStarted, hclean, beatsTaken]

/-- A load whose beats have all arrived does not underrun. -/
theorem vcUnder_of_arrived (c : Core) {src have_ need : Nat} (h : need ≤ have_) : vcUnder c src have_ need = false := by
  simp [vcUnder, Nat.not_lt.mpr h]

theorem vcPoison_none (c : Core) (e : VcEnt) : vcPoison c e false = (c, []) := rfl

/-- The constant vector that 64 lanes of bytes give (R100). -/
def constOf (bs : List Byte) : Vec :=
  { lanes := (List.range 64).map (fun l => BitVec.ofNat 32 (leNat ((bs.drop (4 * l)).take 4))), poison := false }

/-- The core with a slot's constant vector written. -/
def constSet (c : Core) (e : VcEnt) (v : Vec) : Core :=
  putSlot c e.slot { slotAt c e.slot with const := tabSet (slotAt c e.slot).const (vcTarget e.cmd) v }

@[simp] theorem constSet_vcq (c : Core) (e : VcEnt) (v : Vec) : (constSet c e v).vcq = c.vcq := rfl
@[simp] theorem constSet_mem (c : Core) (e : VcEnt) (v : Vec) : (constSet c e v).mem = c.mem := rfl

theorem slotAt_constSet (c : Core) (e : VcEnt) (v : Vec) : slotAt (constSet c e v) e.slot =
    { slotAt c e.slot with const := tabSet (slotAt c e.slot).const (vcTarget e.cmd) v } := slotAt_putSlot c e.slot _

@[simp] theorem const_constSet (c : Core) (e : VcEnt) (v : Vec) :
    (slotAt (constSet c e v) e.slot).const = tabSet (slotAt c e.slot).const (vcTarget e.cmd) v := by rw [slotAt_constSet]

@[simp] theorem doneAt_constSet (c : Core) (e : VcEnt) (v : Vec) (d : Nat) :
    doneAt (slotAt (constSet c e v) e.slot) d = doneAt (slotAt c e.slot) d := by
  rw [slotAt_constSet]
  rfl

/-- The lookup table that a slot loads from bytes (R100, R103). -/
def lutOf (i : Nat) (bs : List Byte) : Lut := { owner := some i, data := some (bs.take 3104), poison := false }

/-- The core with a command's lookup table written. -/
def lutSet (c : Core) (e : VcEnt) (l : Lut) : Core := { c with luts := tabSet c.luts (vcTarget e.cmd) l }

@[simp] theorem lutAt_vcComplete (s : State) (c : Core) (e : VcEnt) (i : Nat) : lutAt (vcComplete s c e) i = lutAt c i := rfl
@[simp] theorem lutAt_lutSet (c : Core) (e : VcEnt) (l : Lut) : lutAt (lutSet c e l) (vcTarget e.cmd) = l := by simp [lutAt, lutSet]

@[simp] theorem lutSet_vcq (c : Core) (e : VcEnt) (l : Lut) : (lutSet c e l).vcq = c.vcq := rfl
@[simp] theorem lutSet_mem (c : Core) (e : VcEnt) (l : Lut) : (lutSet c e l).mem = c.mem := rfl
@[simp] theorem slotAt_lutSet (c : Core) (e : VcEnt) (l : Lut) (i : Nat) : slotAt (lutSet c e l) i = slotAt c i := rfl


section
variable {s : State} {k : Nat} {e : VcEnt} {rest : List VcEnt} (hk : k < nCores) (hlive : (coreAt s k).held = false)
  (hrun : (coreAt s k).vcRun = none) (hq : (coreAt s k).vcq = e :: rest) (hsrc : vcXSrc e.cmd ≤ 2)
include hk hlive hrun hq hsrc

theorem loadc_completes (hopc : vcOpc e.cmd = 2) (hbeats : 4 ≤ countFrom (vcSrcX e.cmd) (coreAt s k).vx)
    (hclean : (takeFrom (vcSrcX e.cmd) 4 (coreAt s k).vx).1.any (·.poison) = false) : exec (.loadc k) s =
    .next (putCore s k (vcComplete s (constSet (beatsTaken { coreAt s k with vcq := rest } e 4) e
      (constOf ((takeFrom (vcSrcX e.cmd) 4 (coreAt s k).vx).1.flatMap (·.data)))) e)) := by
  have hload := loadBeats_all (c := { coreAt s k with vcq := rest }) hclean
  have hlen := takeFrom_length (vcSrcX e.cmd) 4 (coreAt s k).vx
  rw [min_eq_left hbeats] at hlen
  rw [exec_loadc]
  refine runLive_eq (l := []) hk hlive ?_
  simp [loadStart_head hrun hq hopc, hload, Nat.not_lt.mpr hsrc, vcUnder_of_arrived _ hbeats, hlen, vcPoison_none, constSet, constOf]

theorem loadlut_completes (hopc : vcOpc e.cmd = 3) (hbeats : 49 ≤ countFrom (vcSrcX e.cmd) (coreAt s k).vx)
    (hclean : (takeFrom (vcSrcX e.cmd) 49 (coreAt s k).vx).1.any (·.poison) = false)
    (howner : (lutAt (coreAt s k) (vcTarget e.cmd)).owner = some e.slot) : exec (.loadlut k) s =
    .next (putCore s k (vcComplete s (lutSet (beatsTaken { coreAt s k with vcq := rest } e 49) e
      (lutOf e.slot ((takeFrom (vcSrcX e.cmd) 49 (coreAt s k).vx).1.flatMap (·.data)))) e)) := by
  have hload := loadBeats_all (c := { coreAt s k with vcq := rest }) hclean
  have hlen := takeFrom_length (vcSrcX e.cmd) 49 (coreAt s k).vx
  rw [min_eq_left hbeats] at hlen
  rw [exec_loadlut]
  refine runLive_eq (l := []) hk hlive ?_
  simp [loadStart_head hrun hq hopc, hload, Nat.not_lt.mpr hsrc, lutAt_popped, howner, vcUnder_of_arrived _ hbeats, hlen,
    vcPoison_none, lutSet, lutOf]

/-- A LOADLUT into a table that its slot does not own is discarded. -/
theorem loadlut_discards (hopc : vcOpc e.cmd = 3) (howner : (lutAt (coreAt s k) (vcTarget e.cmd)).owner ≠ some e.slot) :
    exec (.loadlut k) s =
      .next (applyEvs k (putCore s k (vcDiscard { coreAt s k with vcq := rest } e evVecTableFault true).1)
        [.fault evVecTableFault e.slot noFld (vcTag e.cmd) 0 0 0]) := by
  rw [exec_loadlut]
  refine runLive_eq hk hlive ?_
  simp [loadStart_head hrun hq hopc, Nat.not_lt.mpr hsrc, lutAt_popped, howner, vcDiscard]

end

/-- The claim on the two loads. -/
theorem vectorLoads : Claims.VectorLoads := by
  intro s k e rest hk c cmd b hlive hrun hq hsrc
  refine ⟨fun hopc hbeats hclean => ⟨_, loadc_completes hk hlive hrun hq hsrc hopc hbeats hclean, ?_⟩,
    fun hopc hbeats hclean howner => ⟨_, loadlut_completes hk hlive hrun hq hsrc hopc hbeats hclean howner, ?_⟩,
    fun hopc howner => ⟨_, loadlut_discards hk hlive hrun hq hsrc hopc howner, rfl, (stopSlot_lost _ _ _ _).1⟩⟩
  · simp [c, cmd, b, constOf]
  · simp [c, cmd, b, lutOf]

/-- Settles O22: the commands at the head of the queue, the discarded ones, and the two loads. -/
theorem vectorCommands : Obligations.VectorCommands := ⟨vectorHeadCommands, vectorDiscarded, vectorLoads⟩

end Sys2Proof.Machine

/-! PROOFS. ESF-96 values: the stored form (O9), products rounded to the grid (O10), sums in any order (O11) and exact in their
range (O12), and the rounding to a format (O13). -/

namespace Sys2Proof.Machine

/-! ### The stored form (R72) -/

theorem b2n_bitAt (n i : Nat) : b2n (bitAt n i) = n / 2 ^ i % 2 := by
  unfold b2n bitAt
  rcases Nat.mod_two_eq_zero_or_one (n / 2 ^ i) with h | h <;> simp [h]

theorem bitAt_eq_of_b2n {n i : Nat} {b : Bool} (h : n / 2 ^ i % 2 = b2n b) : bitAt n i = b := by
  cases b <;> simp [bitAt, h, b2n]

theorem b2n_le_one (b : Bool) : b2n b ≤ 1 := by cases b <;> decide

section
variable (v : Esf)

theorem esfPack_w : BitVec.ofNat 104 (esfPack v) = v.w := by
  refine BitVec.eq_of_toNat_eq ?_
  have hw := v.w.isLt
  rw [BitVec.toNat_ofNat, esfPack]
  omega

theorem bits_esfPack_w : bits (esfPack v) 103 0 = v.w.toNat := by
  have h := congrArg BitVec.toNat (esfPack_w v)
  rw [BitVec.toNat_ofNat] at h
  simp only [bits, Nat.pow_zero, Nat.div_one, Nat.sub_zero]
  exact h

theorem bits_esfPack_anchor : bits (esfPack v) 111 104 = v.anchor % 256 := by
  have hw := v.w.isLt
  simp only [bits, esfPack]
  omega

theorem bitAt_esfPack_sat : bitAt (esfPack v) 112 = v.sat := by
  have hw := v.w.isLt
  have hsat := b2n_le_one v.sat
  refine bitAt_eq_of_b2n ?_
  simp only [esfPack]
  omega

theorem bitAt_esfPack_invalid : bitAt (esfPack v) 113 = v.invalid := by
  have hw := v.w.isLt
  have hsat := b2n_le_one v.sat
  have hinvalid := b2n_le_one v.invalid
  refine bitAt_eq_of_b2n ?_
  simp only [esfPack]
  omega

theorem bitAt_esfPack_poison : bitAt (esfPack v) 114 = v.poison := by
  have hw := v.w.isLt
  have hsat := b2n_le_one v.sat
  have hinvalid := b2n_le_one v.invalid
  have hpoison := b2n_le_one v.poison
  refine bitAt_eq_of_b2n ?_
  simp only [esfPack]
  omega

theorem bits_esfPack_terms : bits (esfPack v) 127 115 = min v.terms 8191 := by
  have hw := v.w.isLt
  have hsat := b2n_le_one v.sat
  have hinvalid := b2n_le_one v.invalid
  have hpoison := b2n_le_one v.poison
  simp only [bits, esfPack]
  omega

end

/-- A stored value whose anchor and count fit their fields is read back. -/
theorem esfUnpack_esfPack {v : Esf} (hanchor : v.anchor < 256) (hterms : v.terms ≤ 8191) : esfUnpack (esfPack v) = v := by
  simp [esfUnpack, esfPack_w, bits_esfPack_anchor, bitAt_esfPack_sat, bitAt_esfPack_invalid, bitAt_esfPack_poison,
    bits_esfPack_terms, Nat.mod_eq_of_lt hanchor, min_eq_left hterms]

theorem esfPack_esfUnpack {n : Nat} (h : n < 2 ^ 128) : esfPack (esfUnpack n) = n := by
  simp only [esfPack, esfUnpack, b2n_bitAt, bits, BitVec.toNat_ofNat]
  omega

/-- Settles O9: each field of the stored form, and the two round trips. -/
theorem storedForm : Obligations.StoredForm := by
  refine ⟨fun v hanchor hterms => ⟨by simpa using esfPack_lt v, esfUnpack_esfPack hanchor hterms, bits_esfPack_w v, ?_,
    bitAt_esfPack_sat v, bitAt_esfPack_invalid v, bitAt_esfPack_poison v, ?_⟩, fun n hn => esfPack_esfUnpack hn⟩
  · rw [bits_esfPack_anchor, Nat.mod_eq_of_lt hanchor]
  · rw [bits_esfPack_terms, min_eq_left hterms]

/-! ### Rounding to the nearest integer (R74, R81, R84) -/

/-- The nearest integer, ties to even. -/
def roundEven (t : ℚ) : ℤ :=
  if 1 / 2 < t - (⌊t⌋ : ℤ) ∨ (t - (⌊t⌋ : ℤ) = 1 / 2 ∧ ⌊t⌋ % 2 = 1) then ⌊t⌋ + 1 else ⌊t⌋

/-- The nearest integer lies on the other side of zero for the opposite number. -/
theorem roundEven_neg (t : ℚ) : roundEven (-t) = -roundEven t := by
  have hfloor := Int.floor_le t
  have hlt := Int.lt_floor_add_one t
  by_cases hint : t = (⌊t⌋ : ℤ)
  · have h : ⌊-t⌋ = -⌊t⌋ := by rw [hint, ← Int.cast_neg, Int.floor_intCast, Int.floor_intCast]
    have hself : t - (⌊t⌋ : ℤ) = 0 := by linarith
    have hself' : -t - ((-⌊t⌋ : ℤ) : ℚ) = 0 := by push_cast; linarith
    simp only [roundEven, h, hself, hself']
    norm_num
  · have hpos : (⌊t⌋ : ℚ) < t := lt_of_le_of_ne hfloor (Ne.symm hint)
    have h : ⌊-t⌋ = -⌊t⌋ - 1 := by
      rw [Int.floor_eq_iff]
      push_cast
      constructor <;> linarith
    have hf : -t - ((-⌊t⌋ - 1 : ℤ) : ℚ) = 1 - (t - (⌊t⌋ : ℤ)) := by push_cast; ring
    simp only [roundEven, h, hf]
    generalize t - (⌊t⌋ : ℤ) = f
    rcases lt_trichotomy f (1 / 2) with hf | rfl | hf
    · rw [if_pos (.inl (by linarith)), if_neg (by rintro (h | ⟨h, -⟩) <;> linarith)]
      ring
    · norm_num
      split <;> split <;> omega
    · rw [if_neg (by rintro (h | ⟨h, -⟩) <;> linarith), if_pos (.inl hf)]
      ring


/-- A whole number stays. -/
theorem roundEven_natCast (n : ℕ) : roundEven n = n := by simp [roundEven]

/-- What a quotient of naturals has above its whole part. -/
theorem natDiv_sub_floor (a d : ℕ) : (a : ℚ) / d - (⌊(a : ℚ) / d⌋ : ℤ) = (a % d : ℕ) / d :=
  Int.fract_div_natCast_eq_div_natCast_mod

theorem roundEven_natDiv (a : ℕ) {d : ℕ} (hd : 0 < d) : roundEven ((a : ℚ) / d) =
    (if d < 2 * (a % d) ∨ (2 * (a % d) = d ∧ a / d % 2 = 1) then a / d + 1 else a / d : ℕ) := by
  have hd' : (0 : ℚ) < d := by exact_mod_cast hd
  have hhalf : (1 : ℚ) / 2 < (a % d : ℕ) / d ↔ d < 2 * (a % d) := by
    rw [div_lt_div_iff₀ two_pos hd', one_mul, mul_comm]
    exact_mod_cast Iff.rfl
  have htie : ((a % d : ℕ) : ℚ) / d = 1 / 2 ↔ 2 * (a % d) = d := by
    rw [div_eq_div_iff hd'.ne' two_ne_zero, one_mul, mul_comm]
    exact_mod_cast Iff.rfl
  have hodd : ((a / d : ℕ) : ℤ) % 2 = 1 ↔ a / d % 2 = 1 := by omega
  rw [roundEven, natDiv_sub_floor, Rat.floor_natCast_div_natCast, ← Int.natCast_ediv]
  simp only [hhalf, htie, hodd]
  split <;> simp

theorem two_zpow_toNat {k : ℤ} (h : 0 ≤ k) : (2 : ℚ) ^ k = (2 ^ k.toNat : ℕ) := by
  rw [Nat.cast_pow, Nat.cast_ofNat, ← zpow_natCast, Int.toNat_of_nonneg h]

/-- A magnitude in last places that are no coarser than its own. -/
theorem units_of_le (m : ℕ) {e q : ℤ} (h : q ≤ e) : (m : ℚ) * 2 ^ e / 2 ^ q = (m * 2 ^ (e - q).toNat : ℕ) := by
  rw [mul_div_assoc, ← zpow_sub₀ two_ne_zero, two_zpow_toNat (sub_nonneg.2 h), Nat.cast_mul]

/-- A magnitude in last places that are coarser than its own. -/
theorem units_of_lt (m : ℕ) {e q : ℤ} (h : e < q) : (m : ℚ) * 2 ^ e / 2 ^ q = (m : ℚ) / (2 ^ (q - e).toNat : ℕ) := by
  rw [mul_div_assoc, ← zpow_sub₀ two_ne_zero, ← neg_sub q e, zpow_neg, two_zpow_toNat (sub_nonneg.2 h.le), ← div_eq_mul_inv]

theorem roundUnits_nearest (m : ℕ) (e q : ℤ) : (roundUnits m e q none : ℤ) = roundEven ((m : ℚ) * 2 ^ e / 2 ^ q) := by
  unfold roundUnits
  split
  next h => rw [units_of_le m h, roundEven_natCast]
  next h => rw [units_of_lt m (not_le.1 h), roundEven_natDiv m (Nat.two_pow_pos _)]

theorem roundNearest_eq (m : ℕ) (e q : ℤ) : (roundNearest m (e - q) : ℤ) = roundEven ((m : ℚ) * 2 ^ e / 2 ^ q) := by
  rw [← roundUnits_nearest]
  simp [roundNearest, roundUnits]

/-! ### Products (R49, R52, R73, R74) -/

/-- The grid value of a product is its nearest multiple of the grid, clamped into the window. -/
theorem roundProduct_eq (neg : Bool) (m : ℕ) (e : ℤ) (anchor : ℕ) {q : ℤ}
    (hq : q = roundEven ((if neg then -1 else 1) * ((m : ℚ) * 2 ^ e) / 2 ^ ((anchor : ℤ) - 176))) :
    roundProduct neg m e anchor =
      if 2 ^ 95 - 1 < q then (2 ^ 95 - 1, true) else if q < -2 ^ 95 then (-2 ^ 95, true) else (q, false) := by
  have hround := roundNearest_eq m e ((anchor : ℤ) - 176)
  unfold roundProduct
  cases neg with
  | false =>
    simp only [Bool.false_eq_true, if_false, one_mul, ← hround] at hq ⊢
    have hlow : ¬ q < -2 ^ 95 := by omega
    rw [if_neg hlow, hq]
    exact if_congr (by omega) rfl rfl
  | true =>
    simp only [if_true, neg_one_mul, neg_div, roundEven_neg, ← hround] at hq ⊢
    have hhigh : ¬ 2 ^ 95 - 1 < q := by omega
    rw [if_neg hhigh, hq]
    exact if_congr (by omega) rfl rfl

theorem productEsf_invalid {a b : Elem} (sa sb : ℤ) (anchor : ℕ)
    (h : a.x = 255 ∨ b.x = 255 ∨ (∀ n m e, a.v ≠ .fin n m e) ∨ (∀ n m e, b.v ≠ .fin n m e)) :
    productEsf a b sa sb anchor = { anchor := anchor, terms := 1, invalid := true } := by
  unfold productEsf
  split
  next na ma ea nb mb eb ha hb =>
    have hscale : a.x = 255 ∨ b.x = 255 := by
      rcases h with h | h | h | h
      · exact .inl h
      · exact .inr h
      · exact absurd ha (h _ _ _)
      · exact absurd hb (h _ _ _)
    rw [if_pos hscale]
  next => rfl

/-- Settles O10: the rounding of every product, valid and invalid products, and their landing. -/
theorem productsRounded : Obligations.ProductsRounded := by
  refine ⟨fun neg m e anchor => roundProduct_eq neg m e anchor rfl, fun na nb ma mb x y anchor ea eb sa sb hx hy => ?_,
    fun a b sa sb anchor h => productEsf_invalid sa sb anchor h, fun a p => rfl⟩
  simp [productEsf, hx, hy]

/-! ### Sums (R75) -/

theorem esfAdd_comm {a b : Esf} (h : a.anchor = b.anchor) : esfAdd a b = esfAdd b a := by
  simp [esfAdd, h, BitVec.add_comm, Nat.add_comm, Bool.or_comm]

theorem esfAdd_assoc (a b c : Esf) : esfAdd (esfAdd a b) c = esfAdd a (esfAdd b c) := by
  have hterms : min (min (a.terms + b.terms) 8191 + c.terms) 8191 = min (a.terms + min (b.terms + c.terms) 8191) 8191 := by omega
  simp [esfAdd, hterms, BitVec.add_assoc, Bool.or_assoc]

/-- Two values that land in a sum may change places. -/
theorem esfAdd_right_comm (z a b : Esf) : esfAdd (esfAdd z a) b = esfAdd (esfAdd z b) a := by
  have hterms : min (min (z.terms + a.terms) 8191 + b.terms) 8191 = min (min (z.terms + b.terms) 8191 + a.terms) 8191 := by omega
  simp [esfAdd, hterms, add_right_comm, Bool.or_right_comm]

theorem foldl_esfAdd_perm (z : Esf) {l r : List Esf} (h : l.Perm r) : l.foldl esfAdd z = r.foldl esfAdd z :=
  have : RightCommutative esfAdd := ⟨esfAdd_right_comm⟩
  h.foldl_eq z

/-- A product lands in an accumulator as it would in the value that the accumulator holds. -/
theorem accEsf_accAdd (anchor : ℕ) (all : Bool) (a : Acc) (p : Esf) :
    accEsf anchor all (accAdd a p) = esfAdd (accEsf anchor all a) p := by
  simp [accEsf, accAdd, esfAdd, Bool.or_right_comm]

theorem sumInto16_sameAnchor {x y : ℕ} (h : (esfUnpack x).anchor = (esfUnpack y).anchor) :
    sumInto16 x y = (esfPack (esfAdd (esfUnpack x) (esfUnpack y)), false) := by
  simp [sumInto16, h]

/-- Settles O11: what a sum is, its order, and the units that add. -/
theorem sumsOfEsf : Obligations.SumsOfEsf := by
  refine ⟨fun a b h => ⟨BitVec.toNat_add a.w b.w, rfl, rfl, Bool.or_eq_true_iff, Bool.or_eq_true_iff, Bool.or_eq_true_iff,
    esfAdd_comm h⟩, fun a b c _ _ => esfAdd_assoc a b c, fun z l r h => foldl_esfAdd_perm z h, accEsf_accAdd,
    fun x y h => sumInto16_sameAnchor h, fun p q n hp hq => (mergePkt_values hp hq).2⟩

/-! ### Exact sums (R71, R77) -/

/-- The exact sum of some grid values. -/
def exactSum (l : List Esf) : ℤ := (l.map (fun v => wInt v.w)).sum

theorem foldl_esfAdd_w (z : Esf) (l : List Esf) : (l.foldl esfAdd z).w = z.w + BitVec.ofInt 104 (exactSum l) := by
  induction l generalizing z with
  | nil => simp [exactSum]
  | cons v l ih =>
    have hsum : exactSum (v :: l) = wInt v.w + exactSum l := by simp [exactSum]
    rw [List.foldl_cons, ih, hsum, BitVec.ofInt_add, wInt, BitVec.ofInt_toInt, esfAdd, BitVec.add_assoc]

/-- A flag of a sum is set where the sum began with it or some value has it. -/
theorem foldl_esfAdd_flag {flag : Esf → Bool} (hflag : ∀ a b, flag (esfAdd a b) = (flag a || flag b)) (z : Esf) (l : List Esf) :
    flag (l.foldl esfAdd z) = (flag z || l.any flag) := by
  induction l generalizing z with
  | nil => simp
  | cons v l ih => rw [List.foldl_cons, ih, hflag, List.any_cons, Bool.or_assoc]

theorem wInt_ofInt {i : ℤ} (hlow : -2 ^ 103 ≤ i) (hhigh : i ≤ 2 ^ 103 - 1) : wInt (BitVec.ofInt 104 i) = i := by
  rw [wInt, BitVec.toInt_ofInt]
  exact Int.bmod_eq_of_le (by norm_num; omega) (by norm_num; omega)

theorem exactSum_bounds {l : List Esf} (h : ∀ v ∈ l, inWindow v.w = true) :
    -(2 ^ 95 : ℤ) * l.length ≤ exactSum l ∧ exactSum l ≤ (2 ^ 95 - 1) * l.length := by
  induction l with
  | nil => simp [exactSum]
  | cons v l ih =>
    have hsum : exactSum (v :: l) = wInt v.w + exactSum l := by simp [exactSum]
    have hv := h v (.head _)
    simp only [inWindow, Bool.and_eq_true, decide_eq_true_eq] at hv
    have hl := ih fun u hu => h u (.tail _ hu)
    rw [hsum, List.length_cons]
    push_cast
    omega

/-- Settles O12: W modulo 2^104 by the sum of the grid values, and the bounds of 256 of them. -/
theorem sumsExactInRange : Obligations.SumsExactInRange := by
  refine ⟨fun z l hz => ?_, fun z l hz hlen hwin => ?_⟩
  · have hw : (l.foldl esfAdd z).w = BitVec.ofInt 104 (exactSum l) := by rw [foldl_esfAdd_w, hz, zero_add]
    exact ⟨hw, fun hlow hhigh => hw ▸ wInt_ofInt hlow hhigh, foldl_esfAdd_flag (flag := (·.sat)) (fun _ _ => rfl) z l,
      foldl_esfAdd_flag (flag := (·.invalid)) (fun _ _ => rfl) z l, foldl_esfAdd_flag (flag := (·.poison)) (fun _ _ => rfl) z l⟩
  · have hbounds := exactSum_bounds hwin
    rw [foldl_esfAdd_w, hz, zero_add]
    exact wInt_ofInt (by omega) (by omega)

/-! ### The dither, and rounding by it (R81, R83, R84) -/

theorem dither_lt (seed tensor elem step : ℕ) : dither seed tensor elem step < 2 ^ 24 := by
  unfold dither
  rw [BitVec.toNat_ushiftRight, Nat.shiftRight_eq_div_pow]
  exact Nat.div_lt_of_lt_mul (BitVec.isLt _)

/-- The dither of R84 acts on the fraction of a magnitude above its lower neighbour. -/
theorem roundUnits_dither (m : ℕ) (e q : ℤ) {u : ℕ} (hu : u < 2 ^ 24) {t : ℚ} (ht : t = (m : ℚ) * 2 ^ e / 2 ^ q) :
    (roundUnits m e q (some u) : ℤ) = if (2 : ℤ) ^ 24 ≤ ⌊(t - (⌊t⌋ : ℤ)) * 2 ^ 24⌋ + u then ⌊t⌋ + 1 else ⌊t⌋ := by
  unfold roundUnits
  split
  next h =>
    rw [ht, units_of_le m h]
    simp only [Int.floor_natCast, Int.cast_natCast, sub_self, zero_mul, Int.floor_zero, zero_add]
    rw [if_neg (by omega)]
  next h =>
    have hfrac (r d : ℕ) : ⌊(r : ℚ) / d * 2 ^ 24⌋ = (r * 2 ^ 24 / d : ℕ) := by
      rw [div_mul_eq_mul_div, Int.natCast_ediv, ← Rat.floor_natCast_div_natCast]
      push_cast
      rfl
    rw [ht, units_of_lt m (not_le.1 h), natDiv_sub_floor, hfrac, Rat.floor_natCast_div_natCast, ← Int.natCast_ediv]
    dsimp only
    split
    next hup => rw [if_pos (by exact_mod_cast hup)]; rfl
    next hup => rw [if_neg (by exact_mod_cast hup)]

/-- Settles O13: the dither, the rounding by it, and the rounding to nearest. -/
theorem roundingToFormat : Obligations.RoundingToFormat := by
  refine ⟨dither_lt, fun m e q u hu => ?_⟩
  intro t f
  have hdither := roundUnits_dither m e q hu (t := t) rfl
  refine ⟨hdither, fun hf => ?_, roundUnits_nearest m e q⟩
  have hfrac : t - (⌊t⌋ : ℤ) = 0 := hf
  rw [hdither, hfrac, if_neg (by simp; omega)]

end Sys2Proof.Machine

/-! PROOFS. Requests at an HBM stack (O32). -/

namespace Sys2Proof.Machine

theorem exec_hbmRequest (b caFails : Nat) (s : State) : exec (.hbmRequest b caFails) s = execHbmRequest b caFails s := rfl

theorem exec_hbmReadComplete (b : Nat) (ecc : LineEcc) (rowMiss : Bool) (s : State) :
    exec (.hbmReadComplete b ecc rowMiss) s = execHbmReadComplete b ecc rowMiss s := rfl

theorem exec_hbmSumInto (b : Nat) (ecc : LineEcc) (s : State) : exec (.hbmSumInto b ecc) s = execHbmSumInto b ecc s := rfl

/-! ### Runs of bytes (R7) -/

/-- A run of bytes reads as it was written, and no other byte changes. -/
theorem memGet_memWrite (m : Mem) (a b : Nat) (l : List Byte) :
    memGet (memWrite m a l) b = if a ≤ b ∧ b < a + l.length then nth l (b - a) 0 else memGet m b := by
  induction l generalizing m a with
  | nil => rw [if_neg (by simp)]; rfl
  | cons v l ih =>
    rw [memWrite, ih, memGet_memSet]
    rcases Nat.lt_trichotomy b a with h | rfl | h
    · rw [if_neg (by omega), if_neg (by omega), if_neg (by omega)]
    · simp [nth]
    · rw [if_neg (show ¬ b = a by omega)]
      refine if_congr (by simp; omega) ?_ rfl
      rw [nth, nth, show b - a = (b - (a + 1)) + 1 by omega, List.getD_cons_succ]

theorem memRead_length (m : Mem) (a n : Nat) : (memRead m a n).length = n := by simp [memRead]

theorem memRead_memWrite (m : Mem) (a : Nat) (l : List Byte) : memRead (memWrite m a l) a l.length = l := by
  refine List.ext_getElem (by simp [memRead]) fun i h _ => ?_
  have hi : i < l.length := by simpa [memRead] using h
  simp [memRead, memGet_memWrite, nth, hi]

/-! ### The queue of a controller and its answers (R257) -/

theorem hbmSettle_nil {h : Hbm} (hq : h.queue = []) : hbmSettle h = h := by
  cases h
  simp_all [hbmSettle]

theorem hbmSettle_single {h : Hbm} {p : Pkt} (hq : h.queue = [p]) (hkind : p.kind ≠ 1) : hbmSettle h = h := by
  cases h
  simp_all [hbmSettle]

theorem hbmSettle_write {h : Hbm} {p : Pkt} (hq : h.queue = [p]) (hkind : p.kind = 1) :
    hbmSettle h = { hbmStore h p with queue := [] } := by
  simp [hbmSettle, hq, hkind]

theorem hbmAt_hbmAnswer (s : State) (b c : Nat) (p : Pkt) (bytes : List (Byte × Bool)) (poison : Bool) (code : Nat) :
    hbmAt (hbmAnswer s b p bytes poison code) c = hbmAt s c := rfl

/-- The packet that a controller's answer puts before its injection router (R257). -/
def hbmReply (b : Nat) (p : Pkt) (bytes : List (Byte × Bool)) (poison : Bool) (code : Nat) : Pkt :=
  { answerTo p bytes poison code with srcCore := hbmRouter b p.addr }

theorem inj_hbmAnswer (s : State) (b : Nat) (p : Pkt) (bytes : List (Byte × Bool)) (poison : Bool) (code : Nat) :
    (coreAt (hbmAnswer s b p bytes poison code) (hbmRouter b p.addr)).inj =
      (coreAt s (hbmRouter b p.addr)).inj ++ [hbmReply b p bytes poison code] := by
  simp [hbmAnswer, injAt, hbmReply]

/-! ### Requests (R256, R257, R268, R269, R271) -/

section
variable {s : State} {b : Nat} {p : Pkt} {rest : List Pkt} (hb : b < 16) (hin : (hbmAt s b).inQ = p :: rest)
include hb hin

theorem hbmRequest_asleep (hwith : (hbmAt s b).withdrawn = false) (hreset : (hbmAt s b).resetting = false)
    (hself : (hbmAt s b).selfRef = true) : exec (.hbmRequest b 0) s = .next s := by
  rw [exec_hbmRequest, execHbmRequest, runUnit_next _ _ hb]
  simp [hin, hwith, hreset, hself]

theorem hbmRequest_resetting (hwith : (hbmAt s b).withdrawn = false) (hreset : (hbmAt s b).resetting = true) :
    exec (.hbmRequest b 0) s = .next (hbmAnswer (putHbm s b { hbmAt s b with inQ := rest }) b p (poisonZeros p.len) true
      evHbmResetLost) := by
  rw [exec_hbmRequest, execHbmRequest, runUnit_next _ _ hb]
  simp [hin, hwith, hreset]

variable (hserves : (hbmAt s b).withdrawn = true ∨ ((hbmAt s b).selfRef = false ∧ (hbmAt s b).resetting = false))
include hserves

theorem hbmRequest_refused {code : Nat} (hcode : hbmRefusal s b p = some code) : exec (.hbmRequest b 0) s =
    .next (hbmAnswer (putHbm s b { hbmAt s b with inQ := rest, ctr := bump (hbmAt s b).ctr 98 1 }) b p (poisonZeros p.len) true
      code) := by
  have hawake : ((hbmAt s b).selfRef && !(hbmAt s b).withdrawn && !(hbmAt s b).resetting) = false := by
    rcases hserves with h | ⟨h, -⟩ <;> simp [h]
  have hup : ((hbmAt s b).resetting && !(hbmAt s b).withdrawn) = false := by rcases hserves with h | ⟨-, h⟩ <;> simp [h]
  rw [exec_hbmRequest, execHbmRequest, runUnit_next _ _ hb]
  simp [hin, hawake, hup, hcode, bumpHbm]

/-- A request that passes the checks stands in the ordered queue; a write is acknowledged there. -/
theorem hbmRequest_passes (hpass : hbmRefusal s b p = none) (hq : (hbmAt s b).queue = []) : exec (.hbmRequest b 0) s =
    .next (let t := putHbm s b (hbmSettle { hbmAt s b with inQ := rest, queue := [{ p with refused := 0 }] })
      if p.kind = 1 then hbmAnswer t b { p with refused := 0 } [] false 0 else t) := by
  have hawake : ((hbmAt s b).selfRef && !(hbmAt s b).withdrawn && !(hbmAt s b).resetting) = false := by
    rcases hserves with h | ⟨h, -⟩ <;> simp [h]
  have hup : ((hbmAt s b).resetting && !(hbmAt s b).withdrawn) = false := by rcases hserves with h | ⟨-, h⟩ <;> simp [h]
  rw [exec_hbmRequest, execHbmRequest, runUnit_next _ _ hb]
  simp [hin, hawake, hup, hpass, hq]

end

/-- The claim on requests. -/
theorem hbmRequests : Claims.HbmRequests := by
  intro s b p rest hb h k refusedBy serves hin
  refine ⟨fun hserves hpass hkind hq => ?_, fun hserves hpass hkind hq => ?_, fun code hserves hcode => ?_,
    fun hwith hreset => ?_, fun hwith hreset hself => hbmRequest_asleep hb hin hwith hreset hself⟩
  · rw [hbmRequest_passes hb hin hserves hpass hq, hbmSettle_single rfl (by simp [hkind])]
    simp [hkind, h]
  · refine ⟨_, hbmRequest_passes hb hin hserves hpass hq, ?_⟩
    rw [hbmSettle_write (p := { p with refused := 0 }) rfl hkind]
    dsimp only
    rw [if_pos hkind]
    refine ⟨by rw [hbmAt_hbmAnswer, hbmAt_putHbm]; rfl, by rw [hbmAt_hbmAnswer, hbmAt_putHbm], fun a => ?_,
      _, inj_hbmAnswer _ b { p with refused := 0 } _ _ _, ?_⟩
    · rw [hbmAt_hbmAnswer, hbmAt_putHbm]
      exact memGet_memWrite h.mem p.addr a p.data
    · simp [hbmReply, answerTo, hkind]
  · refine ⟨_, hbmRequest_refused hb hin hserves hcode, ⟨?_, ?_, ?_, _, inj_hbmAnswer _ b p _ _ _, rfl, rfl⟩, ?_⟩ <;>
      simp [hbmAt_hbmAnswer, h, tabGet_bump]
  · refine ⟨_, hbmRequest_resetting hb hin hwith hreset, ⟨?_, ?_, ?_, _, inj_hbmAnswer _ b p _ _ _, rfl, rfl⟩, ?_⟩ <;>
      simp [hbmAt_hbmAnswer, h]

/-- The checks in their order (R256). -/
theorem hbmRefusal_eq (s : State) (b : Nat) (p : Pkt) : hbmRefusal s b p =
    if (hbmAt s b).withdrawn = true then some evHbmWithdrawn
    else if (basinAt s b).ctx ≠ some p.ctx then some evHbmGrantFault
    else if 48000000000 < p.addr + p.len then some evHbmRange
    else if ∃ x ∈ (hbmAt s b).holds, p.addr < x.lo + x.len ∧ x.lo < p.addr + p.len then some evHbmShardHeld
    else none := by
  simp [hbmRefusal, hbmSpace]

/-- The claim on the order of the checks. -/
theorem hbmCheckOrder : Claims.HbmCheckOrder := by
  intro s b p
  dsimp only
  rw [hbmRefusal_eq]
  refine ⟨fun hwith => if_pos hwith, fun hwith hctx => ?_, fun hwith hctx hrange => ?_,
    fun hwith hctx hrange x hx hlo hhi => ?_, ?_⟩
  · simp [hwith, hctx]
  · simp [hwith, hctx, hrange]
  · rw [if_neg (by simp [hwith]), if_neg (not_not.2 hctx), if_neg (not_lt.2 hrange), if_pos ⟨x, hx, hlo, hhi⟩]
  · by_cases hwith : (hbmAt s b).withdrawn = true
    · simp [hwith]
    by_cases hctx : (basinAt s b).ctx = some p.ctx
    · by_cases hrange : 48000000000 < p.addr + p.len
      · simp [hwith, hctx, hrange]
      · have hclear : (¬ ∃ x ∈ (hbmAt s b).holds, p.addr < x.lo + x.len ∧ x.lo < p.addr + p.len) ↔
            ∀ x ∈ (hbmAt s b).holds, p.addr + p.len ≤ x.lo ∨ x.lo + x.len ≤ p.addr := by
          simp only [not_exists, not_and, Nat.not_lt]
          exact forall₂_congr fun x _ => by omega
        simp [hwith, hctx, hrange, Nat.not_lt.1 hrange, ← hclear]
    · simp [hwith, hctx]

/-! ### Reads and sums (R75, R257, R258, R259, R261) -/

/-- The outcomes of a line without an error. -/
abbrev soundLine : LineEcc := { cw := [], odCe := false, odUe := false }

/-- Sound codewords change nothing but the counters of their stack. -/
theorem hbmOutcomes_sound (s : State) (b a n : Nat) : (hbmOutcomes s b a n soundLine).cores = s.cores ∧
    hbmAt (hbmOutcomes s b a n soundLine) b = { hbmAt s b with ctr := (hbmAt (hbmOutcomes s b a n soundLine) b).ctr } := by
  unfold hbmOutcomes
  dsimp only [soundLine]
  rw [List.zip_nil_right, forEach_nil]
  simp only [Bool.false_eq_true, if_false]
  split
  · exact ⟨rfl, rfl⟩
  · exact ⟨rfl, by rw [bumpHbm, hbmAt_putHbm]⟩

/-- A wait counts and changes nothing else. -/
theorem stallQueue_eq (h : Hbm) (pc : Nat) : stallQueue h pc = { h with ctr := (stallQueue h pc).ctr } := by
  unfold stallQueue
  split <;> rfl

/-- A read without poison delivers the stored bytes. -/
theorem hbmReadComplete_clean {s : State} {b : Nat} {p : Pkt} (hb : b < 16) (hq : (hbmAt s b).queue = [p]) (hkind : p.kind = 0)
    (hca : p.refused = 0) (hclean : (hbmRead s b p.addr p.len).2 = false) :
    ∃ h, exec (.hbmReadComplete b soundLine false) s = .next (hbmOutcomes (hbmAnswer (putHbm s b h) b p
        ((memRead (hbmAt s b).mem p.addr p.len).map (fun x => (x, false))) false 0) b p.addr p.len soundLine) ∧
      h.queue = [] ∧ h.mem = (hbmAt s b).mem := by
  have hnext : hbmNext 0 [] [p] = some (p, []) := by simp [hbmNext, hkind]
  have hsettle (h : Hbm) (pc : Nat) (hh : h.queue = []) : hbmSettle (stallQueue h pc) = stallQueue h pc :=
    hbmSettle_nil (by rw [stallQueue_eq, hh])
  rw [exec_hbmReadComplete, execHbmReadComplete, runUnit_next _ _ hb]
  simp only [hq, hnext, hclean, hca]
  rw [hsettle _ _ rfl]
  exact ⟨_, rfl, by rw [stallQueue_eq], by rw [stallQueue_eq]⟩

theorem vals16_one {l : List Byte} (h : l.length = 16) : vals16 1 l = [leNat l] := by
  simp [vals16, List.range_succ, List.take_of_length_le h.le]

/-- The values of a packet without poison are added as they come. -/
theorem sumVals_clean {p : Pkt} (hpoison : p.poison = false) (hpois : ∀ x ∈ p.pois, x = false) :
    sumVals p = vals16 (p.data.length / 16) p.data := by
  have hclean : ∀ x ∈ poisOf p, x = false := by
    unfold poisOf
    split
    · exact hpois
    · intro x hx
      rw [(List.mem_replicate.1 hx).2, hpoison]
  refine List.map_congr_left fun i _ => if_neg ?_
  simp only [List.any_eq_true, id_eq, exists_eq_right]
  exact fun h => absurd (hclean _ (List.mem_of_mem_drop (List.mem_of_mem_take h))) (by simp)

/-- A sum-into of one value under the target's anchor, its line sound. -/
theorem hbmSumInto_clean {s : State} {b : Nat} {p : Pkt} (hb : b < 16) (hq : (hbmAt s b).queue = [p]) (hkind : p.kind = 8)
    (hlen : p.data.length = 16) (hpoison : p.poison = false) (hpois : ∀ x ∈ p.pois, x = false)
    (hanchor : (esfUnpack (leNat p.data)).anchor = (esfUnpack (leNat (memRead (hbmAt s b).mem p.addr 16))).anchor) :
    ∃ h, exec (.hbmSumInto b soundLine) s =
        .next (hbmAnswer (putHbm (hbmOutcomes s b p.addr 16 soundLine) b h) b p [] false 0) ∧ h.queue = [] ∧
      h.mem = memWrite (hbmAt s b).mem p.addr (leBytes 16 (addStored (leNat (memRead (hbmAt s b).mem p.addr 16), leNat p.data))) := by
  have hnext : hbmNext 8 [] [p] = some (p, []) := by simp [hbmNext, hkind]
  have hold : vals16 1 (memRead (hbmAt s b).mem p.addr 16) = [leNat (memRead (hbmAt s b).mem p.addr 16)] :=
    vals16_one (memRead_length _ _ _)
  have hnew : sumVals p = [leNat p.data] := by rw [sumVals_clean hpoison hpois, hlen, vals16_one hlen]
  have hsum := sumInto16_sameAnchor hanchor.symm
  have hsettle (h : Hbm) (pc : Nat) (hh : h.queue = []) : hbmSettle (stallQueue h pc) = stallQueue h pc :=
    hbmSettle_nil (by rw [stallQueue_eq, hh])
  have hmem := congrArg Hbm.mem (hbmOutcomes_sound s b p.addr 16).2
  rw [exec_hbmSumInto, execHbmSumInto, runUnit_next _ _ hb]
  simp only [hq, hnext, hlen, Nat.div_self (by decide : 0 < 16), Nat.mul_one, hold, hnew, List.zip_cons_cons, List.zip_nil_right,
    List.map_cons, List.map_nil, hsum]
  rw [hsettle _ _ rfl, if_neg (by simp [nth, List.range_succ])]
  refine ⟨_, rfl, by rw [stallQueue_eq], ?_⟩
  rw [stallQueue_eq]
  simp [hmem, addStored]

/-- A stored value reads back as it was written. -/
theorem leNat_memRead_memWrite (m : Mem) (a : Nat) {v : Nat} (hv : v < 256 ^ 16) :
    leNat (memRead (memWrite m a (leBytes 16 v)) a 16) = v := by
  have hread := memRead_memWrite m a (leBytes 16 v)
  rw [leBytes_length] at hread
  rw [hread, leNat_leBytes, Nat.mod_eq_of_lt hv]

/-- The claim on reads and sums. -/
theorem hbmReadsAndSums : Claims.HbmReadsAndSums := by
  intro s b p hb h k hq
  refine ⟨fun hkind hca hclean => ?_, fun hkind _ hlen hpoison hpois hanchor => ?_⟩
  · obtain ⟨d, hexec, hqueue, hmem⟩ := hbmReadComplete_clean hb hq hkind hca hclean
    obtain ⟨hcores, hstack⟩ := hbmOutcomes_sound (hbmAnswer (putHbm s b d) b p
      ((memRead (hbmAt s b).mem p.addr p.len).map (fun x => (x, false))) false 0) b p.addr p.len
    refine ⟨_, hbmReply b p ((memRead h.mem p.addr p.len).map (fun x => (x, false))) false 0, hexec, ?_, ?_, ?_, ?_⟩
    · rw [hstack, hbmAt_hbmAnswer, hbmAt_putHbm, hmem]
    · rw [hstack, hbmAt_hbmAnswer, hbmAt_putHbm, hqueue]
    · rw [coreAt, hcores, ← coreAt, inj_hbmAnswer]
      rfl
    · simp [hbmReply, answerTo, hkind, Function.comp_def]
  · obtain ⟨d, hexec, hqueue, hmem⟩ := hbmSumInto_clean hb hq hkind hlen hpoison hpois hanchor
    refine ⟨_, hexec, ?_, ?_, fun a ha => ?_⟩
    · rw [hbmAt_hbmAnswer, hbmAt_putHbm, hqueue]
    · rw [hbmAt_hbmAnswer, hbmAt_putHbm, hmem]
      exact leNat_memRead_memWrite h.mem p.addr (esfPack_lt _)
    · rw [hbmAt_hbmAnswer, hbmAt_putHbm, hmem, memGet_memWrite, leBytes_length, if_neg (by omega)]

/-- Settles O32: requests, the order of their checks, and reads and sums. -/
theorem hbmAccesses : Obligations.HbmAccesses := ⟨hbmRequests, hbmCheckOrder, hbmReadsAndSums⟩

end Sys2Proof.Machine

/-! PROOFS. A contribution added into its landing slot (O27). -/

namespace Sys2Proof.Machine

theorem exec_contributionArrive (r : Reading) (s : State) : exec (.contributionArrive r) s = execContributionArrive r s := rfl

/-! ### Values added into memory (R75, R140, R238) -/

/-- Memory with values added into it one after the other, 16 bytes each. -/
def memAdd : Mem → Nat → List Nat → Mem
  | m, _, [] => m
  | m, a, v :: l => memAdd (memWrite m a (leBytes 16 (sumInto16 (leNat (memRead m a 16)) v).1)) (a + 16) l

theorem memGet_memAdd_of_outside (m : Mem) (a : Nat) (l : List Nat) {b : Nat} (hb : b < a ∨ a + 16 * l.length ≤ b) :
    memGet (memAdd m a l) b = memGet m b := by
  induction l generalizing m a with
  | nil => rfl
  | cons v l ih =>
    rw [List.length_cons] at hb
    rw [memAdd, ih _ _ (by omega), memGet_memWrite, leBytes_length, if_neg (by omega)]

theorem memRead_congr {m n : Mem} {a k : Nat} (h : ∀ i, i < k → memGet m (a + i) = memGet n (a + i)) :
    memRead m a k = memRead n a k :=
  List.map_congr_left fun i hi => h i (List.mem_range.1 hi)

theorem addStored_lt (v : Nat × Nat) : addStored v < 256 ^ 16 := esfPack_lt _

/-- Values with the anchors of what they meet are added to it, each in its own 16 bytes. -/
theorem leNat_memRead_memAdd (m : Mem) (a : Nat) (l : List Nat)
    (h : ∀ j, j < l.length → (esfUnpack (leNat (memRead m (a + 16 * j) 16))).anchor = (esfUnpack (nth l j 0)).anchor) {j : Nat}
    (hj : j < l.length) :
    leNat (memRead (memAdd m a l) (a + 16 * j) 16) = addStored (leNat (memRead m (a + 16 * j) 16), nth l j 0) := by
  induction l generalizing m a j with
  | nil => cases hj
  | cons v l ih =>
    have hfirst : (sumInto16 (leNat (memRead m a 16)) v).1 = addStored (leNat (memRead m a 16), v) :=
      congrArg Prod.fst (sumInto16_sameAnchor (h 0 (by simp)))
    have hlt := addStored_lt (leNat (memRead m a 16), v)
    rw [memAdd, hfirst]
    generalize hsum : addStored (leNat (memRead m a 16), v) = sum at hlt
    cases j with
    | zero =>
      have hkeep := memRead_congr (m := memAdd (memWrite m a (leBytes 16 sum)) (a + 16) l) (n := memWrite m a (leBytes 16 sum))
        (a := a) (k := 16) fun i hi => memGet_memAdd_of_outside _ _ _ (.inl (by omega))
      simp only [Nat.mul_zero, Nat.add_zero]
      rw [hkeep, leNat_memRead_memWrite m a hlt, ← hsum]
      rfl
    | succ j =>
      have hlater (i : Nat) : memRead (memWrite m a (leBytes 16 sum)) (a + 16 + 16 * i) 16 = memRead m (a + 16 * (i + 1)) 16 := by
        rw [show a + 16 + 16 * i = a + 16 * (i + 1) by ring]
        exact memRead_congr fun x _ => by rw [memGet_memWrite, leBytes_length, if_neg (by omega)]
      have hrest := ih (memWrite m a (leBytes 16 sum)) (a + 16)
        (fun i hi => by rw [hlater]; exact h (i + 1) (by simpa using hi)) (j := j) (by simpa using hj)
      rw [hlater, show a + 16 + 16 * j = a + 16 * (j + 1) by ring] at hrest
      rw [hrest]
      rfl

/-! ### A landing slot (R130 to R132, R140, R238) -/

/-- What additions leave of a core: everything but the scratchpad, its poison and the counters. -/
def unsummed (c : Core) : Core := { c with mem := [], poisonCw := [], ctr := [] }

theorem spPeek_bytes (c : Core) (a n : Nat) : (spPeek c a n).map (·.1) = memRead c.mem a n := by
  simp [spPeek, memRead]

/-- A read without an error delivers the stored bytes and raises nothing. -/
theorem eccRead_sound (c : Core) (a n tslot tag : Nat) : ((eccRead c a n [] tslot tag).1.map (·.1) = memRead c.mem a n) ∧
    (eccRead c a n [] tslot tag).2.1.mem = c.mem ∧ unsummed (eccRead c a n [] tslot tag).2.1 = unsummed c ∧
    (eccRead c a n [] tslot tag).2.2 = [] := by
  have hcore : eccAll (spRead c a n).2 ((cwsOf c a n).zip []) tslot tag = ((spRead c a n).2, []) := by
    simp [eccAll]
  unfold eccRead
  dsimp only
  rw [hcore]
  refine ⟨?_, rfl, rfl, rfl⟩
  split
  · rw [List.map_map]; exact spPeek_bytes c a n
  · exact spPeek_bytes c a n

theorem unsummed_spWrite (c : Core) (a : Nat) (bs : List (Byte × Bool)) : unsummed (spWrite c a bs) = unsummed c := rfl

theorem addValues_sound (w : Nat) (l : List Nat) (c : Core) (a : Nat) : (addValues w l c a []).1.mem = memAdd c.mem a l ∧
    unsummed (addValues w l c a []).1 = unsummed c ∧ (addValues w l c a []).2.1 = [] := by
  induction l generalizing c a with
  | nil => exact ⟨rfl, rfl, rfl⟩
  | cons v l ih =>
    obtain ⟨hbytes, hreadMem, hreadCore, hreadEvs⟩ := eccRead_sound c a 16 w noFld
    unfold addValues
    dsimp only
    rw [List.take_nil, List.drop_nil]
    generalize eccRead c a 16 [] w noFld = z at *
    obtain ⟨hmem, hcore, hevs⟩ := ih (spWrite z.2.1 a ((leBytes 16 (sumInto16 (leNat (z.1.map (·.1))) v).1).map
      (fun b => (b, z.1.any (·.2))))) (a + 16)
    refine ⟨?_, ?_, by rw [hreadEvs, hevs]; rfl⟩
    · rw [hmem, memAdd, spWrite, bumpCore_mem, bumpCore_mem, hreadMem, hbytes, List.map_map]
      simp [Function.comp_def]
    · rw [hcore, unsummed_spWrite, hreadCore]

/-- The values that fit are added into the landing slot, and the rest of the core stays but for what adding counts. -/
theorem addLanding_sound (c : Core) (i : InEp) (seq pkt : Nat) {vs : List Nat} (hfit : 16 * pkt + vs.length ≤ inLandSize i / 16) :
    (addLanding c i seq pkt vs []).1.mem = memAdd c.mem (landAddr c i seq + 256 * pkt) vs ∧
    unsummed (addLanding c i seq pkt vs []).1 = unsummed c ∧ (addLanding c i seq pkt vs []).2 = [] := by
  have hall : vs.take (inLandSize i / 16 - 16 * pkt) = vs := List.take_of_length_le (by omega)
  unfold addLanding
  dsimp only
  rw [hall]
  exact addValues_sound _ _ _ _

/-- A round without a packet begins with the packet's count. -/
theorem roundFor_new {c : Core} (p : Pkt) (h : c.rounds = []) : roundFor c p =
    { ep := p.dstEp, seq := p.chSeq, npkt := p.npkt, got := 0, vals := 0, poison := false, cmark := 0 } := by
  simp [roundFor, h]

/-- The core with its arrival taken. -/
def taken (c : Core) : Core := { c with arr := [] }

/-- The round that the first packet of a contribution begins (R238). -/
def roundBegun (p : Pkt) : Round :=
  { ep := p.dstEp, seq := p.chSeq, npkt := p.npkt, got := p.ncontrib, vals := 16 * p.pkt + p.len / 16, poison := p.poison,
    cmark := p.cmark }

theorem inAt_taken (c : Core) (e : Nat) : inAt (taken c) e = inAt c e := rfl

/-- A contribution under its group's anchor that leaves its round open is added, and counts in the round. -/
theorem contributionArrive_adds {s : State} {k : Nat} {p : Pkt} {w : Nat} (hk : k < nCores) (hlive : (coreAt s k).held = false)
    (hhold : (coreAt s k).holding = false) (harr : (coreAt s k).arr = [p]) (hkind : p.kind = 7)
    (hgroup : redEntry s k p.group p.defBasin = some w) (hgen : p.gen = inExpect (inAt (coreAt s k) p.dstEp))
    (hwindow : (p.chSeq + 65536 - (inAt (coreAt s k) p.dstEp).h) % 65536 < inQdepth (inAt (coreAt s k) p.dstEp))
    (hfree : tabHas (inAt (coreAt s k) p.dstEp).fixed (p.chSeq % inQdepth (inAt (coreAt s k) p.dstEp)) = false)
    (hrounds : (coreAt s k).rounds = []) (hanchor : p.anchor = bits w 23 16)
    (hvals : ∀ v ∈ vals16 (p.len / 16) p.data, bits v 111 104 = p.anchor)
    (hshare : p.ncontrib < (inAt (coreAt s k) p.dstEp).contribs.length * p.npkt) (hpos : 0 < p.len / 16)
    (hevs : (addLanding (taken (coreAt s k)) (inAt (coreAt s k) p.dstEp) p.chSeq p.pkt (vals16 (p.len / 16) p.data) []).2 = []) :
    exec (.contributionArrive ⟨k, []⟩) s = .next (putCore s k (putRound (addLanding (taken (coreAt s k))
      (inAt (coreAt s k) p.dstEp) p.chSeq p.pkt (vals16 (p.len / 16) p.data) []).1 (roundBegun p) true)) := by
  have hfound : (coreAt s k).arr.find? (fun p => p.kind == 7) = some p := by simp [harr, hkind]
  have htaken : ({ coreAt s k with arr := (coreAt s k).arr.erase p } : Core) = taken (coreAt s k) := by simp [taken, harr]
  have hempty : (vals16 (p.len / 16) p.data).isEmpty = false := by
    rw [List.isEmpty_eq_false_iff, ← List.length_pos_iff, vals16_length]
    exact hpos
  have hagree : (p.anchor != bits w 23 16 || (vals16 (p.len / 16) p.data).any (fun v => bits v 111 104 != p.anchor)) = false := by
    simpa [hanchor] using hanchor ▸ hvals
  have hround : roundFor (taken (coreAt s k)) p =
      { ep := p.dstEp, seq := p.chSeq, npkt := p.npkt, got := 0, vals := 0, poison := false, cmark := 0 } :=
    roundFor_new p hrounds
  rw [exec_contributionArrive, execContributionArrive]
  refine runLive_eq hk hlive (l := []) ?_
  rw [if_neg (by simp [hhold]), hfound]
  dsimp only
  rw [htaken, inAt_taken, hround, hgroup, Option.getD_some, hagree, hempty]
  simp only [hgen, ne_eq, not_true_eq_false, if_false, hfree, Nat.not_le.2 hwindow, decide_false, Bool.or_false, Bool.false_eq_true,
    Bool.and_false, Bool.false_and, Bool.false_or, Nat.zero_add, Nat.zero_max, vals16_length, Nat.not_le.2 hshare, hevs, List.append_nil]
  rfl

theorem putRound_first {c : Core} (r : Round) (h : c.rounds = []) : (putRound c r true).rounds = [r] := by simp [putRound, h]

/-- Settles O27: a contribution under its group's anchor lands in its slot and its round goes on. -/
theorem contributionAdded : Obligations.ContributionAdded := by
  intro s k p w hk c i n a hlive hhold harr hkind hgroup hgen hwindow hfree hrounds hanchor hvals hshare hpos hlen hfit hland
  obtain ⟨hmem, hcore, hevs⟩ := addLanding_sound (taken c) i p.chSeq p.pkt (vs := vals16 n p.data)
    (by rw [vals16_length]; exact hfit)
  refine ⟨_, contributionArrive_adds hk hlive hhold harr hkind hgroup hgen hwindow hfree hrounds hanchor hvals hshare hpos hevs,
    congrArg Core.arr hcore, ?_, fun j hj => ?_, fun x hx => ?_⟩
  · exact putRound_first _ ((congrArg Core.rounds hcore).trans hrounds)
  · have hsum := leNat_memRead_memAdd c.mem a (vals16 n p.data) (fun i hi => ?_) (j := j) (by rwa [vals16_length])
    · exact (congrArg (fun m => leNat (memRead m (a + 16 * j) 16)) hmem).trans hsum
    · rw [vals16_length] at hi
      have hmem : nth (vals16 n p.data) i 0 ∈ vals16 n p.data := by
        have hi : i < (vals16 n p.data).length := by rwa [vals16_length]
        rw [nth, List.getD_eq_getElem _ _ hi]
        exact List.getElem_mem hi
      exact (hland i hi).trans (hvals _ hmem).symm
  · have hkeep := memGet_memAdd_of_outside c.mem a (vals16 n p.data) (b := x) (by rwa [vals16_length])
    exact (congrArg (memGet · x) hmem).trans hkeep

end Sys2Proof.Machine

/-! PROOFS. Microbatches admitted and done, and steps closed (O39). -/

namespace Sys2Proof.Machine

theorem exec_microbatchAdmit (n : Nat) (up : Bool) (s : State) : exec (.microbatchAdmit n up) s = execMicrobatchAdmit n up s := rfl

theorem exec_microbatchComplete (n : Nat) (s : State) : exec (.microbatchComplete n) s = execMicrobatchComplete n s := rfl

theorem exec_scaleClose (n : Nat) (s : State) : exec (.scaleClose n) s = execScaleClose n s := rfl

/-! ### What holds an admission back (R296, R306, R308, R336) -/

theorem microbatchAdmit_unlaid {s : State} {n : Nat} (up : Bool) (hn : n < 16) (h : (ctxAt s n).layout = none) :
    exec (.microbatchAdmit n up) s = .next s := by
  rw [exec_microbatchAdmit, execMicrobatchAdmit, runUnit_next _ _ hn, h]

/-- What keeps a layout from admitting anything. -/
theorem mayAdmit_false {s : State} {n : Nat} {l : Layout} (h : (ctxAt s n).fenced = true ∨ (ctxAt s n).st ≠ .active ∨
    resetPending s n = true ∨ l.held = true ∨ l.stopped = true ∨ bufferFree (ctxAt s n) = false) : mayAdmit s n l = false := by
  rcases h with h | h | h | h | h | h <;> simp [mayAdmit, h]

section
variable {s : State} {n : Nat} {l : Layout} (up : Bool) (hn : n < 16) (hl : (ctxAt s n).layout = some l)
include hn hl

theorem microbatchAdmit_barred (h : mayAdmit s n l = false) : exec (.microbatchAdmit n up) s = .next s := by
  rw [exec_microbatchAdmit, execMicrobatchAdmit, runUnit_next _ _ hn, hl]
  simp [h]

/-- A boundary that cannot complete yet leaves everything as it is. -/
theorem microbatchAdmit_waits {cause t0 : Nat} (hdecided : (ctxAt s n).boundary = some (cause, t0))
    (h : boundaryWaits s n (nextStep (ctxAt s n)) = true) : exec (.microbatchAdmit n up) s = .next s := by
  have hstays : admitNow s n l = s := by simp [admitNow, hdecided, runBoundary, h]
  rw [exec_microbatchAdmit, execMicrobatchAdmit, runUnit_next _ _ hn, hl]
  simp [hstays]

end

theorem boundaryWaits_of_wedge {s : State} {n b : Nat} (m : Nat) (hb : b ∈ grantOf s n) (hw : (basinAt s b).wedge = true) :
    boundaryWaits s n m = true := by
  have h : (grantOf s n).any (fun b => (basinAt s b).wedge) = true := List.any_eq_true.2 ⟨b, hb, hw⟩
  simp [boundaryWaits, h]

/-- The step two before the one that a boundary opens has not closed. -/
theorem boundaryWaits_of_open {s : State} {n : Nat} (hmb : (ctxAt s n).nextMb ≠ 0) (hstep : 1 ≤ (ctxAt s n).stepNum)
    (h : (ctxAt s n).closed = none ∨ ∃ k, (ctxAt s n).closed = some k ∧ k + 1 < (ctxAt s n).stepNum) :
    boundaryWaits s n (nextStep (ctxAt s n)) = true := by
  have htwo : 2 ≤ (ctxAt s n).stepNum + 1 := by omega
  rcases h with h | ⟨k, h, hk⟩
  · simp [boundaryWaits, nextStep, hmb, h, hstep]
  · have hlt : k + 2 < (ctxAt s n).stepNum + 1 := by omega
    simp [boundaryWaits, nextStep, hmb, h, hstep, hlt]

/-- The claim on admissions that wait. -/
theorem admissionWaits : Claims.AdmissionWaits := by
  intro s n up hn x
  refine ⟨microbatchAdmit_unlaid up hn, fun l hl => ⟨fun h => microbatchAdmit_barred up hn hl (mayAdmit_false h),
    fun cause t0 b hdecided hb hw => microbatchAdmit_waits up hn hl hdecided (boundaryWaits_of_wedge _ hb hw),
    fun cause t0 hdecided hmb hstep h => microbatchAdmit_waits up hn hl hdecided (boundaryWaits_of_open hmb hstep h)⟩⟩

/-! ### A microbatch completes (R338) -/

/-- The context after an outstanding request's record of success or poison. -/
theorem endReqs_answered {x : Ctx} {mb st : Nat} {r : Req} (hst : x.st = .active) (hlive : r.aborted = none)
    (hok : st = 0 ∨ st = 6) : endReqs x [(mb, r)] st = { x with comps := x.comps ++ [reqComp mb r st] } := by
  simp [endReqs, postComp, hst, CtxSt.closing, hlive, lowerClaim, hok]

section
variable {s : State} {n : Nat} {l : Layout} {m : Mb} (hn : n < 16) (hl : (ctxAt s n).layout = some l)
  (hst : (ctxAt s n).st = .active) (hmbs : (ctxAt s n).mbs = [m]) (hadm : m.admitted = true) (hopen : m.complete = false)
include hn hl hmbs hadm hopen

theorem microbatchComplete_next : exec (.microbatchComplete n) s =
    .next (if mbRan s n l m.num = true ∧ (ctxAt s n).st = .active then completeMb s n l m else s) := by
  rw [exec_microbatchComplete, execMicrobatchComplete, runUnit_next _ _ hn]
  simp [hl, hmbs, hadm, hopen]

end

/-- The status of a request's record: POISONED where an output byte was read with poison (R332, R338). -/
def outputStatus (o : List Byte × Bool) : Nat := if o.2 then 6 else 0

/-- The state after a microbatch of one request has completed. -/
def answered (s : State) (n : Nat) (l : Layout) (m : Mb) (r : Req) : State :=
  let o := reqOutput s n l m.num r
  putCtx (emit s (.outputs n r.outAddr (outputStatus o) o.1)) n { ctxAt s n with
    comps := (ctxAt s n).comps ++ [reqComp m.num { r with drops := 0 } (outputStatus o)],
    mbs := [{ m with complete := true, reqs := [] }] }

theorem completeMb_single {s : State} {n : Nat} (l : Layout) {m : Mb} {r : Req} (hst : (ctxAt s n).st = .active)
    (hmbs : (ctxAt s n).mbs = [m]) (hreqs : m.reqs = [r]) (hlive : r.aborted = none) (hdrops : (ctxAt s n).drops = []) :
    completeMb s n l m = answered s n l m r := by
  have hok : outputStatus (reqOutput s n l m.num r) = 0 ∨ outputStatus (reqOutput s n l m.num r) = 6 := by
    unfold outputStatus
    split <;> simp
  have hend := endReqs_answered (mb := m.num) (r := { r with drops := 0 }) hst hlive hok
  have hanswer : answerReq l n m.num [] s r = putCtx (emit s (.outputs n r.outAddr (outputStatus (reqOutput s n l m.num r))
      (reqOutput s n l m.num r).1)) n { ctxAt s n with
        comps := (ctxAt s n).comps ++ [reqComp m.num { r with drops := 0 } (outputStatus (reqOutput s n l m.num r))] } := by
    unfold answerReq
    dsimp only
    split
    next st h => rw [hlive] at h; cases h
    next => exact congrArg (putCtx _ n) hend
  simp [completeMb, hdrops, hreqs, insertReq, hanswer, dropReport, hmbs, answered]

/-- The claim on microbatches that complete. -/
theorem microbatchDone : Claims.MicrobatchDone := by
  intro s n l m r hn x hl hst hmbs hadm hopen
  have hnext := microbatchComplete_next hn hl hmbs hadm hopen
  refine ⟨fun hran hreqs hlive hdrops => ⟨_, hnext, ?_⟩, fun hran => ?_⟩
  · rw [if_pos ⟨hran, hst⟩, completeMb_single l hst hmbs hreqs hlive hdrops]
    refine ⟨by rw [answered, ctxAt_putCtx], rfl, ?_, rfl, rfl⟩
    rw [answered, ctxAt_putCtx]
    simp [x, reqComp, outputStatus]
  · rw [hnext, if_neg (by simp [hran])]

/-! ### Banks of the tensor scale tables (R86) -/

/-- The entries of a bank carry its numbers. -/
theorem mem_bankOf {y : Station} {bank : Nat} {tab : Tab Int} {e : Nat × Int} (h : e ∈ bankOf y bank tab) :
    256 * bank ≤ e.1 ∧ e.1 < 256 * bank + 256 := by
  obtain ⟨i, hi, he⟩ := List.mem_filterMap.1 h
  have hlt := List.mem_range.1 hi
  dsimp only at he
  split at he
  · cases he
    exact ⟨by omega, by omega⟩
  · cases he

theorem withBank_station (c : Core) (bank : Nat) (tab : Tab Int) : (withBank c bank tab).station = c.station := by
  unfold withBank
  split <;> simp_all

theorem withBank_mem (c : Core) (bank : Nat) (tab : Tab Int) : (withBank c bank tab).mem = c.mem := by
  unfold withBank
  split <;> rfl

/-- A bank written again with the same state stays. -/
theorem withBank_withBank (c : Core) {bank : Nat} (hbank : bank < 2) (tab : Tab Int) :
    withBank (withBank c bank tab) bank tab = withBank c bank tab := by
  cases hy : c.station with
  | none => simp [withBank, hy]
  | some y =>
    have h0 : (bankOf y 0 tab).filter (fun e => decide (256 ≤ e.1)) = [] :=
      List.filter_eq_nil_iff.2 fun e he => by have := mem_bankOf he; simp; omega
    have h1 : (bankOf y 1 tab).filter (fun e => decide (e.1 < 256)) = [] :=
      List.filter_eq_nil_iff.2 fun e he => by have := mem_bankOf he; simp; omega
    obtain rfl | rfl : bank = 0 ∨ bank = 1 := by omega
    · simp [withBank, hy, h0]
    · simp [withBank, hy, h1]

/-- One core's bank written. -/
def bankWritten (bank : Nat) (tab : Tab Int) (s : State) (k : Nat) : State := putCore s k (withBank (coreAt s k) bank tab)

theorem writeBanks_eq (s : State) (n bank : Nat) (tab : Tab Int) :
    writeBanks s n bank tab = forEach (stationCores s n) (bankWritten bank tab) s := rfl

theorem coreAt_bankWritten {bank : Nat} (hbank : bank < 2) (tab : Tab Int) (l : List Nat) (s : State) (j : Nat) :
    coreAt (forEach l (bankWritten bank tab) s) j = if j ∈ l then withBank (coreAt s j) bank tab else coreAt s j := by
  induction l generalizing s with
  | nil => simp
  | cons k l ih =>
    rw [forEach_cons, ih, bankWritten]
    by_cases hj : j = k
    · subst hj
      simp [withBank_withBank _ hbank]
    · simp [coreAt_putCore_ne s _ hj, hj]

/-- A state without its cores: what writing into cores keeps. -/
def uncored (s : State) : State := { s with cores := [] }

theorem writeBanks_uncored (s : State) (n bank : Nat) (tab : Tab Int) : uncored (writeBanks s n bank tab) = uncored s :=
  forEach_keeps (f := bankWritten bank tab) uncored (fun _ _ _ => rfl) s

/-! ### A step closes (R86, R87, R89, R90, R92) -/

/-- What tracking keeps of a context: everything but the next scale state and the watch records. -/
def untracked (x : Ctx) : Ctx := { x with scaleNext := [], watch := [] }

theorem trackScale_untracked (x : Ctx) (l : Layout) (k : Nat) : untracked (trackScale x l k) = untracked x := by
  unfold trackScale
  split
  · rfl
  · generalize hstart : ({ x with scaleNext := x.scale } : Ctx) = y
    have hkeep : untracked y = untracked x := by subst hstart; rfl
    rw [← hkeep]
    clear hstart hkeep
    induction l.scaleEnt generalizing y with
    | nil => rfl
    | cons e es ih =>
      rw [List.foldl_cons, ih]
      split <;> rfl

theorem trackScale_stepNum (x : Ctx) (l : Layout) (k : Nat) : (trackScale x l k).stepNum = x.stepNum :=
  (congrArg Ctx.stepNum (trackScale_untracked x l k) :)

theorem trackScale_scale (x : Ctx) (l : Layout) (k : Nat) : (trackScale x l k).scale = x.scale :=
  (congrArg Ctx.scale (trackScale_untracked x l k) :)

theorem closedWatch_void (x : Ctx) (l : Layout) (k : Nat) : ∀ w ∈ closedWatch x l k, w.step = k → w.void = x.voids.contains k := by
  intro w hw hstep
  obtain ⟨v, -, rfl⟩ := List.mem_map.1 hw
  split at hstep
  · rw [if_pos ‹_›]
  · exact absurd hstep ‹_›

section
variable (s : State) (n k : Nat) (l : Layout)

/-- The context of a step that closes, its scale state computed. -/
def closedCtx : Ctx :=
  let x := ctxAt s n
  let obs := (x.watch.filter (fun w => w.step == k && !x.voids.contains k)).filterMap (fun w => w.amax.map (fun a => (k, w.tensor, a)))
  { trackScale { x with
      watch := (closedWatch x l k).filter (fun w => decide (k < w.step + 4)),
      amaxHist := (x.amaxHist ++ obs).filter (fun a => decide (k < a.1 + l.winL + x.voids.length)) } l k with closed := some k }

theorem closeStep_eq : closeStep s n l k =
    writeBanks (putCtx s n (closedCtx s n k l)) n (k % 2) (closedCtx s n k l).scaleNext := rfl

theorem closeStep_uncored : uncored (closeStep s n l k) = uncored (putCtx s n (closedCtx s n k l)) := writeBanks_uncored _ _ _ _

theorem ctxAt_closeStep : ctxAt (closeStep s n l k) n = closedCtx s n k l := by
  have hctxs : (closeStep s n l k).ctxs = (putCtx s n (closedCtx s n k l)).ctxs :=
    (congrArg State.ctxs (closeStep_uncored s n k l) :)
  rw [ctxAt, hctxs]
  exact ctxAt_putCtx s n _

/-- What closing a step leaves of the context, and that the step is then the last closed one. -/
theorem closedCtx_frame : (closedCtx s n k l).closed = some k ∧ (closedCtx s n k l).stepNum = (ctxAt s n).stepNum ∧
    (closedCtx s n k l).scale = (ctxAt s n).scale := ⟨rfl, trackScale_stepNum _ l k, trackScale_scale _ l k⟩

theorem closedCtx_frozen (hmode : l.mode = 0) : (closedCtx s n k l).scaleNext = (ctxAt s n).scaleNext ∧
    ∀ w ∈ (closedCtx s n k l).watch, w.step = k → w.void = (ctxAt s n).voids.contains k := by
  have hsame (z : Ctx) : trackScale z l k = z := if_pos hmode
  unfold closedCtx
  dsimp only
  rw [hsame]
  exact ⟨rfl, fun w hw => closedWatch_void _ l k w (List.mem_of_mem_filter hw)⟩

theorem coreAt_closeStep (j : Nat) : coreAt (closeStep s n l k) j =
    if j ∈ stationCores s n then withBank (coreAt s j) (k % 2) (closedCtx s n k l).scaleNext else coreAt s j := by
  rw [closeStep_eq, writeBanks_eq, coreAt_bankWritten (Nat.mod_lt k two_pos)]
  rfl

end

section
variable {s : State} {n k : Nat} {l : Layout} (hn : n < 16) (hl : (ctxAt s n).layout = some l)
  (hk : k = match (ctxAt s n).closed with | none => 0 | some c => c + 1)
include hn hl hk

theorem scaleClose_next : exec (.scaleClose n) s =
    .next (if k < (ctxAt s n).stepNum ∧ stepRan s n l k = true ∧ stopped s n = false then closeStep s n l k else s) := by
  subst hk
  rw [exec_scaleClose, execScaleClose, runUnit_next _ _ hn]
  dsimp only
  rw [hl] <;> rfl

end

/-- The claim on steps that close. -/
theorem stepCloses : Claims.StepCloses := by
  intro s n k l hn x hl hstop hk
  have hnext := scaleClose_next hn hl hk
  refine ⟨fun hopen hran => ⟨_, hnext, ?_⟩, fun h => ?_⟩
  · rw [if_pos ⟨hopen, hran, hstop⟩, ctxAt_closeStep]
    obtain ⟨hclosed, hstep, hscale⟩ := closedCtx_frame s n k l
    refine ⟨hclosed, hstep, closedCtx_frozen s n k l, hscale, fun j y hj _ => ?_, ?_⟩
    · rw [coreAt_closeStep, if_pos hj]
      exact ⟨rfl, withBank_mem _ _ _⟩
    · exact (congrArg State.hbms (closeStep_uncored s n k l) :)
  · have hnot : ¬ (k < (ctxAt s n).stepNum ∧ stepRan s n l k = true ∧ stopped s n = false) := by
      rintro ⟨hopen, hran, -⟩
      rcases h with h | h
      · exact absurd hopen (Nat.not_lt.2 h)
      · exact absurd hran (by simp [h])
    rw [hnext, if_neg hnot]

/-- Settles O39: admissions that wait, microbatches that complete, and steps that close. -/
theorem microbatches : Obligations.Microbatches := ⟨admissionWaits, microbatchDone, stepCloses⟩

end Sys2Proof.Machine

/-! PROOFS. The tracked scale, drains that begin, end and run out, and the copy of a station moved for a test (O40). -/

namespace Sys2Proof.Machine

theorem exec_sectionSwap (b : Nat) (lost : Bool) (s : State) : exec (.sectionSwap b lost) s = execSectionSwap b lost s := rfl

theorem exec_drainComplete (s : State) : exec .drainComplete s = execDrainComplete s := rfl

theorem exec_drainTimeout (s : State) : exec .drainTimeout s = execDrainTimeout s := rfl

theorem exec_carryCopyComplete (slot : Nat) (ok : Bool) (s : State) :
    exec (.carryCopyComplete slot ok) s = execCarryCopyComplete slot ok s := rfl

/-! ### The scale of a tracked tensor (R89) -/

/-- One observation in the window, and no saturation in the step: the scale follows it alone. -/
theorem nextScale_single {x : Ctx} {l : Layout} {n ent : Nat} {e : Int} (hhist : x.amaxHist = [(n, ent % 4096, e)])
    (hwin : windowSteps x l n = [n]) (hsat : ∀ w ∈ x.watch, w.step = n → w.tensor = ent % 4096 → w.satNarrow = 0) :
    nextScale x l n ent = (max (-128) (min 127 (e + 1 - topExp (bits ent 26 24) + l.headroom)),
      decide (e + 1 - topExp (bits ent 26 24) + l.headroom < -128) ||
        decide (127 < e + 1 - topExp (bits ent 26 24) + l.headroom)) := by
  have hes : (x.amaxHist.filter (fun a => a.2.1 == ent % 4096 && (windowSteps x l n).contains a.1)).map (·.2.2) = [e] := by
    simp [hhist, hwin]
  unfold nextScale
  dsimp only
  rw [hes]
  cases hw : x.watch.find? (fun w => w.step == n && w.tensor == ent % 4096) with
  | none => rfl
  | some w =>
    have hnone : w.satNarrow = 0 := by
      have hmatch := List.find?_some hw
      simp only [Bool.and_eq_true, beq_iff_eq] at hmatch
      exact hsat w (List.mem_of_find?_eq_some hw) hmatch.1 hmatch.2
    cases ha : w.amax <;> simp [ha, hnone]

/-- The claim on the tracked scale. -/
theorem trackedScale : Claims.TrackedScale := by
  intro x l n ent e t hhist hwin hsat
  rw [nextScale_single hhist hwin hsat]
  simp

/-! ### A drain begins (R207, R213) -/

/-- A core held back at a microbatch. -/
def stoppedAt (m : Option Nat) (s : State) (k : Nat) : State := putCore s k { coreAt s k with stopAt := m }

theorem stopAfter_eq (s : State) (ks : List Nat) (m : Option Nat) : stopAfter s ks m = forEach ks (stoppedAt m) s := rfl

theorem stopAfter_stopAt (s : State) (ks : List Nat) (m : Option Nat) : ∀ k ∈ ks, (coreAt (stopAfter s ks m) k).stopAt = m := by
  rw [stopAfter_eq]
  refine forEach_all (Q := fun k s => (coreAt s k).stopAt = m) (fun s k _ => ?_) (fun s a b _ ha => ?_) s
  · simp [stoppedAt]
  · by_cases h : a = b
    · simp [stoppedAt, h]
    · simpa [stoppedAt, coreAt_putCore_ne _ _ h] using ha

theorem stopAfter_uncored (s : State) (ks : List Nat) (m : Option Nat) : uncored (stopAfter s ks m) = uncored s :=
  forEach_keeps (f := stoppedAt m) uncored (fun _ _ _ => rfl) s

/-- The drain of some basins that begins in a state. -/
def drainBegun (s : State) (n : Nat) (bs : List Nat) (why : DrainFor) (tag ring : Nat) (noIrq : Bool) : DrainJob :=
  { ctx := n, basins := bs, cut := cutOf s (coresIn s bs), why := why, start := s.sup.ticks, limit := drainTicks s bs, tag := tag,
    ring := ring, noIrq := noIrq, sweep := none, swept := false }

theorem startDrain_stopAt (s : State) (n : Nat) (bs : List Nat) (why : DrainFor) (tag ring : Nat) (noIrq : Bool) :
    ∀ k ∈ coresIn s bs, (coreAt (startDrain s n bs why tag ring noIrq) k).stopAt = some (cutOf s (coresIn s bs)) :=
  stopAfter_stopAt s (coresIn s bs) (some (cutOf s (coresIn s bs)))

theorem startDrain_drains {s : State} (n : Nat) (bs : List Nat) (why : DrainFor) (tag ring : Nat) (noIrq : Bool)
    (h : s.mesh.drains = []) : (startDrain s n bs why tag ring noIrq).mesh.drains = [drainBegun s n bs why tag ring noIrq] := by
  have hmesh : (stopAfter s (coresIn s bs) (some (cutOf s (coresIn s bs)))).mesh = s.mesh :=
    (congrArg State.mesh (stopAfter_uncored s _ _) :)
  simp [startDrain, hmesh, h, drainBegun]

section
variable {s : State} {b n : Nat} (hb : b < 16)
include hb

theorem sectionSwap_unowned (lost : Bool) (h : (basinAt s b).ctx = none) : exec (.sectionSwap b lost) s = .next s := by
  rw [exec_sectionSwap, execSectionSwap, runUnit_next _ _ hb, h]

theorem sectionSwap_begins {l : Layout} (lost : Bool) (hctx : (basinAt s b).ctx = some n) (hl : (ctxAt s n).layout = some l)
    (hdue : swapDue s n b l = true) (hboundary : (ctxAt s n).boundary = none) (hdrains : s.mesh.drains = [])
    (hstaged : s.mesh.staged = []) (hmoves : s.mesh.moves = []) :
    exec (.sectionSwap b lost) s = .next (startDrain s n [b] .swap (b2n lost) 0 true) := by
  rw [exec_sectionSwap, execSectionSwap, runUnit_next _ _ hb]
  simp [hctx, hl, hdue, hboundary, hdrains, hstaged, hmoves]

end

/-! ### What messages to peers and to contexts leave -/

/-- A state but for the Wewell ports and what the module sends. -/
def unsent (s : State) : State := { s with fab := {}, out := [] }

theorem putPort_unsent (s : State) (p : Nat) (x : Port) : unsent (putPort s p x) = unsent s := rfl
theorem bumpPort_unsent (s : State) (p i n : Nat) : unsent (bumpPort s p i n) = unsent s := rfl
theorem putKey_unsent (s : State) (p : Nat) (k : KeyUse) : unsent (putKey s p k) = unsent s := rfl
theorem putPair_unsent (s : State) (k : PairKey) : unsent (putPair s k) = unsent s := rfl
theorem putTx_unsent (s : State) (p : Nat) (t : TxStream) : unsent (putTx s p t) = unsent s := rfl
theorem emit_unsent (s : State) (o : Output) : unsent (emit s o) = unsent s := rfl

theorem sendFab_unsent (s : State) (p n i : Nat) (f : FabPkt) : unsent (sendFab s p n i f) = unsent s := by
  unfold sendFab
  dsimp only
  rw [emit_unsent, bumpPort_unsent, bumpPort_unsent, putPort_unsent, putPair_unsent]
  split
  · rfl
  · exact putKey_unsent s p _

theorem pumpTx_unsent (p n i cls k : Nat) (s : State) : unsent (pumpTx p n i cls k s) = unsent s := by
  induction k generalizing s with
  | zero => rfl
  | succ k ih =>
    unfold pumpTx
    dsimp only
    split
    · split
      · rw [ih, sendFab_unsent, putTx_unsent]
        split
        · exact bumpPort_unsent s p 7 1
        · rfl
      · exact bumpPort_unsent s p _ 1
    · rfl

theorem queueTx_unsent (s : State) (p n i : Nat) (f : FabPkt) (reqs : List Pkt) : unsent (queueTx s p n i f reqs) = unsent s := by
  unfold queueTx
  dsimp only
  rw [pumpTx_unsent, putTx_unsent]
  split
  · exact putPort_unsent s p _
  · rfl

theorem tellPeer_unsent (s : State) (n i code : Nat) (msg : List Byte) : unsent (tellPeer s n i code msg) = unsent s := by
  unfold tellPeer
  split
  · rfl
  · exact forEach_keeps unsent (fun s j _ => queueTx_unsent s _ n i _ []) s

theorem tellParts_unsent (s : State) (n : Nat) : unsent (tellParts s n) = unsent s :=
  forEach_keeps unsent (fun s i _ => tellPeer_unsent s n i 5 _) s

theorem tellParts_ctxs (s : State) (n : Nat) : (tellParts s n).ctxs = s.ctxs := (congrArg State.ctxs (tellParts_unsent s n) :)
theorem tellParts_basins (s : State) (n : Nat) : (tellParts s n).basins = s.basins :=
  (congrArg State.basins (tellParts_unsent s n) :)
theorem tellParts_mesh (s : State) (n : Nat) : (tellParts s n).mesh = s.mesh := (congrArg State.mesh (tellParts_unsent s n) :)

/-- A context but for its store of message records. -/
def unposted (x : Ctx) : Ctx := { x with store := [], msgLost := 0, lostRun := 0 }

theorem unposted_st (x : Ctx) : (unposted x).st = x.st := rfl
theorem unposted_layout (x : Ctx) : (unposted x).layout = x.layout := rfl
theorem unposted_mbs (x : Ctx) : (unposted x).mbs = x.mbs := rfl

theorem postRec_unposted (x : Ctx) (r : MsgRec) : unposted (postRec x r) = unposted x := by
  unfold postRec
  split
  · rfl
  · split <;> rfl

theorem postMsg_unposted (s : State) (n m : Nat) (r : MsgRec) : unposted (ctxAt (postMsg s m r) n) = unposted (ctxAt s n) := by
  by_cases h : n = m
  · subst h
    rw [postMsg, ctxAt_putCtx, postRec_unposted]
  · rw [postMsg, ctxAt_putCtx_ne _ _ h]

theorem ctxAt_tellParts (s : State) (m n : Nat) : ctxAt (tellParts s m) n = ctxAt s n := by rw [ctxAt, tellParts_ctxs, ctxAt]

theorem ctxAt_complete_active {s : State} {n : Nat} (k : Comp) (h : (ctxAt s n).st = .active) :
    ctxAt (complete s n k) n = { ctxAt s n with comps := (ctxAt s n).comps ++ [k] } := by
  have hopen : ¬ (ctxAt s n).st.closing = true := by simp [h, CtxSt.closing]
  rw [complete, ctxAt_putCtx, postComp, if_neg hopen]

theorem postComp_st (x : Ctx) (k : Comp) : (postComp x k).st = x.st := by
  unfold postComp
  split <;> rfl

/-! ### Channels reset and generations advanced (R177, R209) -/

theorem applyEv_stale_unposted {i : InEp} {ep new : Nat} {e : Ev} (he : e ∈ staleEvents i ep new) (k n : Nat) (s : State) :
    unposted (ctxAt (applyEv k s e) n) = unposted (ctxAt s n) := by
  obtain ⟨m, -, rfl⟩ := List.mem_map.1 he
  unfold applyEv
  split
  · exact postMsg_unposted (takeFree s).2 n _ _
  · rfl

theorem applyEv_stale_unrecorded {i : InEp} {ep new : Nat} {e : Ev} (he : e ∈ staleEvents i ep new) (k : Nat) (s : State) :
    unrecorded (applyEv k s e) = unrecorded s := by
  obtain ⟨m, -, rfl⟩ := List.mem_map.1 he
  unfold applyEv
  split <;> rfl

/-- What a change of the cores and the events of stale messages keep, the reset of channels keeps. -/
theorem resetChannels_keeps {β : Type} (g : State → β) (hcore : ∀ s k c, g (putCore s k c) = g s)
    (hstale : ∀ (i : InEp) (ep new : Nat), ∀ e ∈ staleEvents i ep new, ∀ k s, g (applyEv k s e) = g s) (s : State) (n : Nat)
    (bs : List Nat) : g (resetChannels s n bs) = g s := by
  refine forEach_keeps g (fun s k _ => ?_) s
  refine (forEach_keeps g (f := applyEv k) (fun s e he => ?_) _).trans (hcore s k _)
  obtain ⟨ep, -, hep⟩ := List.mem_flatMap.1 he
  exact hstale _ ep _ e hep k s

theorem resetChannels_unposted (s : State) (m : Nat) (bs : List Nat) (n : Nat) :
    unposted (ctxAt (resetChannels s m bs) n) = unposted (ctxAt s n) :=
  resetChannels_keeps (fun s => unposted (ctxAt s n)) (fun _ _ _ => rfl)
    (fun _ _ _ _ he k s => applyEv_stale_unposted he k n s) s m bs

theorem resetChannels_unrecorded (s : State) (m : Nat) (bs : List Nat) :
    uncored (unrecorded (resetChannels s m bs)) = uncored (unrecorded s) :=
  resetChannels_keeps (fun s => uncored (unrecorded s)) (fun _ _ _ => rfl)
    (fun _ _ _ _ he k s => congrArg uncored (applyEv_stale_unrecorded he k s)) s m bs

/-- A basin's generation advanced by one, modulo 16 (R177). -/
def nextGen (s : State) (b : Nat) : State := putBasin s b { basinAt s b with gen := ((basinAt s b).gen + 1) % 16 }

theorem basinAt_nextGen (s : State) (a b : Nat) : basinAt (nextGen s a) b =
    if b = a then { basinAt s b with gen := ((basinAt s b).gen + 1) % 16 } else basinAt s b := by
  split
  next h => rw [h, nextGen, basinAt_putBasin]
  next h => exact basinAt_putBasin_ne s _ h

theorem basinAt_forEach_nextGen {bs : List Nat} (hnodup : bs.Nodup) {b : Nat} (hb : b ∈ bs) (s : State) :
    basinAt (forEach bs nextGen s) b = { basinAt s b with gen := ((basinAt s b).gen + 1) % 16 } := by
  induction bs generalizing s with
  | nil => cases hb
  | cons a l ih =>
    obtain ⟨ha, hl⟩ := List.nodup_cons.1 hnodup
    rw [forEach_cons]
    obtain rfl | hmem := List.mem_cons.1 hb
    · have hrest (t : State) : ∀ c ∈ l, basinAt (nextGen t c) b = basinAt t b := fun c hc => by
        rw [basinAt_nextGen, if_neg (by rintro rfl; exact ha hc)]
      rw [forEach_keeps (fun t => basinAt t b) hrest, basinAt_nextGen, if_pos rfl]
    · rw [ih hl hmem, basinAt_nextGen, if_neg (by rintro rfl; exact ha hmem)]

theorem advanceGens_unposted (s : State) (m : Nat) (bs : List Nat) (n : Nat) :
    unposted (ctxAt (advanceGens s m bs) n) = unposted (ctxAt s n) := by
  refine (resetChannels_unposted _ m bs n).trans (congrArg unposted ?_)
  exact forEach_keeps (fun s => ctxAt s n) (f := nextGen) (fun _ _ _ => rfl) s

theorem advanceGens_mesh (s : State) (m : Nat) (bs : List Nat) : (advanceGens s m bs).mesh = s.mesh := by
  refine (congrArg State.mesh (resetChannels_unrecorded _ m bs) :).trans ?_
  exact forEach_keeps State.mesh (f := nextGen) (fun _ _ _ => rfl) s

theorem basinAt_advanceGens (s : State) (m : Nat) {bs : List Nat} (hnodup : bs.Nodup) {b : Nat} (hb : b ∈ bs) :
    basinAt (advanceGens s m bs) b = { basinAt s b with gen := ((basinAt s b).gen + 1) % 16 } := by
  rw [← basinAt_forEach_nextGen hnodup hb s]
  exact congrArg (fun t => tabGet t b {}) (congrArg State.basins (resetChannels_unrecorded _ m bs) :)

/-! ### A layout taken off its basins (R209, R331, R332) -/

/-- What the end of a layout keeps of the module until its generations advance: the drains, the states of the contexts and the
generations of the basins. -/
structure Standing (s t : State) : Prop where
  mesh : t.mesh = s.mesh
  st : ∀ n, (ctxAt t n).st = (ctxAt s n).st
  gen : ∀ b, (basinAt t b).gen = (basinAt s b).gen

theorem Standing.refl (s : State) : Standing s s := ⟨rfl, fun _ => rfl, fun _ => rfl⟩

theorem Standing.trans {s t u : State} (h : Standing s t) (g : Standing t u) : Standing s u :=
  ⟨g.mesh.trans h.mesh, fun n => (g.st n).trans (h.st n), fun b => (g.gen b).trans (h.gen b)⟩

theorem forEach_standing {α : Type} {l : List α} {f : State → α → State} (h : ∀ s a, Standing s (f s a)) (s : State) :
    Standing s (forEach l f s) :=
  forEach_holds (P := Standing s) (fun t a _ ht => ht.trans (h t a)) (.refl s)

theorem putCtx_standing (s : State) (n : Nat) (x : Ctx) (h : x.st = (ctxAt s n).st) : Standing s (putCtx s n x) where
  mesh := rfl
  st m := by
    by_cases hm : m = n
    · rw [hm, ctxAt_putCtx, h]
    · rw [ctxAt_putCtx_ne s x hm]
  gen _ := rfl

theorem putBasin_standing (s : State) (b : Nat) (x : Basin) (h : x.gen = (basinAt s b).gen) : Standing s (putBasin s b x) where
  mesh := rfl
  st _ := rfl
  gen c := by
    by_cases hc : c = b
    · rw [hc, basinAt_putBasin, h]
    · rw [basinAt_putBasin_ne s x hc]

theorem complete_standing (s : State) (n : Nat) (k : Comp) : Standing s (complete s n k) :=
  putCtx_standing s n _ (postComp_st _ k)

theorem failWith_standing (s : State) (n tag ring status : Nat) (q : Bool) : Standing s (failWith s n tag ring status q) :=
  Standing.trans (t := (takeFree s).2) ⟨rfl, fun _ => rfl, fun _ => rfl⟩ (complete_standing _ n _)

theorem endReqs_st (x : Ctx) (l : List (Nat × Req)) (status : Nat) : (endReqs x l status).st = x.st := by
  have hfold : ∀ (l : List (Nat × Req)) (x : Ctx),
      (l.foldl (fun x p => postComp x (reqComp p.1 p.2 (p.2.aborted.getD status))) x).st = x.st := by
    intro l
    induction l with
    | nil => exact fun _ => rfl
    | cons p l ih => exact fun x => (ih _).trans (postComp_st x _)
  exact hfold l x

theorem abortReqs_standing (s : State) (n status : Nat) : Standing s (abortReqs s n status) := by
  unfold abortReqs
  dsimp only
  split
  · refine putCtx_standing s n _ ?_
    exact endReqs_st _ _ _
  · refine Standing.trans ?_ (failWith_standing _ n _ _ _ _)
    refine putCtx_standing s n _ ?_
    exact endReqs_st _ _ _

theorem abortReloads_standing (s : State) (n : Nat) : Standing s (abortReloads s n) := by
  refine Standing.trans ?_ (forEach_standing (fun s a => ?_) _)
  · exact putCtx_standing s n _ (by rfl)
  · split
    · exact failWith_standing s n _ _ 5 _
    all_goals exact .refl s

theorem vacate_standing (s : State) (k : Nat) : Standing s (vacate s k) := by
  unfold vacate
  dsimp only
  split
  · exact ⟨rfl, fun _ => rfl, fun _ => rfl⟩
  all_goals exact .refl s

theorem clearPlaces_standing (s : State) (bs : List Nat) : Standing s (clearPlaces s bs) := by
  refine forEach_standing (fun s b => ?_) s
  exact putBasin_standing s b _ (by rfl)

/-- The state in which a layout's requests, reloads, stations and places are gone. -/
def emptied (s : State) (n : Nat) (bs : List Nat) : State := clearPlaces (vacateCtx (abortReloads (abortReqs s n 5) n) n) bs

theorem emptied_standing (s : State) (n : Nat) (bs : List Nat) : Standing s (emptied s n bs) :=
  ((abortReqs_standing s n 5).trans ((abortReloads_standing _ n).trans (forEach_standing vacate_standing _))).trans
    (clearPlaces_standing _ bs)

/-- A basin's sync objects at their definitions in the context's layout. -/
def objsDefined (n : Nat) (s : State) (b : Nat) : State :=
  putBasin s b { basinAt s b with objs := match (ctxAt s n).layout with
                                          | none => []
                                          | some l => defObjs l b }

theorem defineObjs_eq (s : State) (n : Nat) (bs : List Nat) : defineObjs s n bs = forEach bs (objsDefined n) s := rfl

theorem defineObjs_ctxs (s : State) (n : Nat) (bs : List Nat) : (defineObjs s n bs).ctxs = s.ctxs := by
  rw [defineObjs_eq]
  exact forEach_keeps State.ctxs (f := objsDefined n) (fun _ _ _ => rfl) s

theorem defineObjs_standing (s : State) (n : Nat) (bs : List Nat) : Standing s (defineObjs s n bs) := by
  rw [defineObjs_eq]
  exact forEach_standing (f := objsDefined n) (fun s b => putBasin_standing s b _ rfl) s

/-- Without a layout no sync object is left. -/
theorem defineObjs_unlaid {s : State} {n : Nat} (h : (ctxAt s n).layout = none) {bs : List Nat} :
    ∀ b ∈ bs, (basinAt (defineObjs s n bs) b).objs = [] := by
  have hall : ∀ b ∈ bs, (ctxAt (defineObjs s n bs) n).layout = none → (basinAt (defineObjs s n bs) b).objs = [] := by
    rw [defineObjs_eq]
    refine forEach_all (Q := fun b s => (ctxAt s n).layout = none → (basinAt s b).objs = []) (fun s b _ => ?_)
      (fun s a b _ ha => ?_) s
    · intro hlay
      have hlay : (ctxAt s n).layout = none := hlay
      rw [objsDefined, basinAt_putBasin, hlay]
    · intro hlay
      have hlay : (ctxAt s n).layout = none := hlay
      by_cases hab : a = b
      · rw [objsDefined, hab, basinAt_putBasin, hlay]
      · rw [objsDefined, basinAt_putBasin_ne _ _ hab]
        exact ha hlay
  refine fun b hb => hall b hb ?_
  rw [ctxAt, defineObjs_ctxs]
  exact h

/-- A context with its layout unloaded. -/
def unlaid (x : Ctx) : Ctx := { x with layout := none, loadPending := none, mbs := [] }

theorem unlaid_st (x : Ctx) : (unlaid x).st = x.st := rfl

/-- The state of an unload before the generations advance. -/
def unloaded (s : State) (n : Nat) : State :=
  let s1 := emptied s n (grantOf s n)
  defineObjs (putCtx s1 n (unlaid (ctxAt s1 n))) n (grantOf s n)

theorem finishUnload_eq (s : State) (n tag ring : Nat) (q : Bool) : finishUnload s n tag ring q =
    tellParts (complete (advanceGens (unloaded s n) n (grantOf s n)) n (comp tag ring 0 0 0 q)) n := rfl

theorem unloaded_standing (s : State) (n : Nat) : Standing s (unloaded s n) := by
  refine ((emptied_standing s n (grantOf s n)).trans ?_).trans (defineObjs_standing _ n _)
  exact putCtx_standing _ n _ (by rfl)

theorem ctxAt_unloaded (s : State) (n : Nat) : ctxAt (unloaded s n) n = unlaid (ctxAt (emptied s n (grantOf s n)) n) := by
  rw [unloaded, ctxAt, defineObjs_ctxs]
  exact ctxAt_putCtx _ n _

theorem unloaded_objs (s : State) (n : Nat) : ∀ b ∈ grantOf s n, (basinAt (unloaded s n) b).objs = [] := by
  refine defineObjs_unlaid ?_
  rw [ctxAt_putCtx]
  rfl

theorem grantOf_nodup (s : State) (n : Nat) : (grantOf s n).Nodup := List.nodup_range.filter _

/-- What an unload leaves of its context. -/
theorem ctxAt_finishUnload {s : State} {n : Nat} (tag ring : Nat) (q : Bool) (hst : (ctxAt s n).st = .active) :
    ∃ x : Ctx, x.layout = none ∧ x.mbs = [] ∧
      ctxAt (finishUnload s n tag ring q) n = { x with comps := x.comps ++ [comp tag ring 0 0 0 q] } := by
  have hctx := (advanceGens_unposted (unloaded s n) n (grantOf s n) n).trans (congrArg unposted (ctxAt_unloaded s n))
  refine ⟨ctxAt (advanceGens (unloaded s n) n (grantOf s n)) n, ?_, ?_, ?_⟩
  · rw [← unposted_layout, hctx]
    rfl
  · rw [← unposted_mbs, hctx]
    rfl
  have hactive : (ctxAt (advanceGens (unloaded s n) n (grantOf s n)) n).st = .active := by
    rw [← unposted_st, hctx, unposted_st, unlaid_st, (emptied_standing s n _).st n, hst]
  rw [finishUnload_eq, ctxAt_tellParts, ctxAt_complete_active _ hactive]

theorem basinAt_finishUnload (s : State) (n tag ring : Nat) (q : Bool) {b : Nat} (hb : b ∈ grantOf s n) :
    (basinAt (finishUnload s n tag ring q) b).gen = ((basinAt s b).gen + 1) % 16 ∧
      (basinAt (finishUnload s n tag ring q) b).objs = [] := by
  have hbasin : basinAt (finishUnload s n tag ring q) b = basinAt (advanceGens (unloaded s n) n (grantOf s n)) b := by
    rw [finishUnload_eq, basinAt, tellParts_basins]
    rfl
  rw [hbasin, basinAt_advanceGens _ n (grantOf_nodup s n) hb]
  exact ⟨by rw [(unloaded_standing s n).gen b], unloaded_objs s n b hb⟩

theorem finishUnload_mesh (s : State) (n tag ring : Nat) (q : Bool) : (finishUnload s n tag ring q).mesh = s.mesh := by
  rw [finishUnload_eq, tellParts_mesh]
  exact (advanceGens_mesh _ n _).trans (unloaded_standing s n).mesh

/-! ### A drain ends or runs out of time (R207, R208, R419) -/

section
variable {s : State} {d : DrainJob} (hdrains : s.mesh.drains = [d])
include hdrains

theorem dropDrain_drains : (dropDrain s d).mesh.drains = [] := by simp [dropDrain, hdrains]

theorem drainComplete_ends (h : drained s d = true) : exec .drainComplete s = .next (afterDrain (dropDrain s d) d) := by
  rw [exec_drainComplete, execDrainComplete, hdrains]
  simp [h]

theorem drainComplete_stays (h : drained s d = false) : exec .drainComplete s = .next s := by
  rw [exec_drainComplete, execDrainComplete, hdrains]
  simp [h]

theorem drainTimeout_stays (h : s.sup.ticks - d.start < d.limit) : exec .drainTimeout s = .next s := by
  have hlate : decide (d.limit ≤ s.sup.ticks - d.start) = false := decide_eq_false (Nat.not_le.2 h)
  rw [exec_drainTimeout, execDrainTimeout, hdrains]
  simp [hlate]

theorem drainTimeout_swap (h : drained s d = false) (hlate : d.limit ≤ s.sup.ticks - d.start) (hwhy : d.why = .swap) :
    exec .drainTimeout s = .next (triggerReset (ctxEvent (dropDrain s d) d.ctx evDrainTimeout (maskOf d.basins) 0 0 0)
      d.ctx d.basins evDrainTimeout 0xFFFF false) := by
  rw [exec_drainTimeout, execDrainTimeout, hdrains]
  simp [h, hlate, abortDrain, hwhy]

end

/-- The reset that a trigger without a partial drain begins where none is in hand (R419). -/
def resetBegun (s : State) (n : Nat) (set : List Nat) (trig slot : Nat) : Reset :=
  { ctx := n, set := sortNat set, trigger := trig, slot := slot, dumpNo := s.rst.dumpNo + 1, stage := .waiting,
    cut := resetCut s n set false, cutStep := (ctxAt s n).stepNum, start := s.sup.ticks, hbmFail := false }

theorem triggerReset_first {s : State} (n : Nat) (set : List Nat) (trig slot : Nat) (h : s.rst.cur = none) :
    triggerReset s n set trig slot false =
      { s with rst := { s.rst with cur := some (resetBegun s n set trig slot), dumpNo := s.rst.dumpNo + 1 } } := by
  unfold triggerReset
  rw [h]
  rfl

/-- The claim on drains. -/
theorem drains : Claims.Drains := by
  intro s b n l d hb hn
  refine ⟨?_, fun h => sectionSwap_unowned hb false h, ?_, ?_, fun hd h => drainComplete_stays hd h, ?_,
    fun hd h => drainTimeout_stays hd h⟩
  · intro hctx hl hdue hboundary hdrains hstaged hmoves
    exact ⟨_, drainBegun s n [b] .swap (b2n false) 0 true,
      sectionSwap_begins hb false hctx hl hdue hboundary hdrains hstaged hmoves,
      startDrain_drains n [b] .swap _ 0 true hdrains, rfl, rfl, rfl, rfl, rfl, rfl, startDrain_stopAt s n [b] .swap _ 0 true⟩
  · rintro hd h hwhy rfl hst
    obtain ⟨x, hlayout, hmbs, hctx⟩ := ctxAt_finishUnload (s := dropDrain s d) d.tag d.ring d.noIrq hst
    refine ⟨finishUnload (dropDrain s d) d.ctx d.tag d.ring d.noIrq, ?_, ?_, ?_⟩
    · rw [drainComplete_ends hd h, afterDrain, hwhy]
    · rw [finishUnload_mesh, dropDrain_drains hd]
    · rw [hctx]
      refine ⟨hlayout, hmbs, fun c hc => basinAt_finishUnload (dropDrain s d) d.ctx d.tag d.ring d.noIrq hc, ?_⟩
      simp
  · intro hd h hwhy
    rw [drainComplete_ends hd h, afterDrain, hwhy]
  · intro hd h hlate hwhy hrst
    have hfree : (ctxEvent (dropDrain s d) d.ctx evDrainTimeout (maskOf d.basins) 0 0 0).rst.cur = none := hrst
    refine ⟨_, resetBegun (ctxEvent (dropDrain s d) d.ctx evDrainTimeout (maskOf d.basins) 0 0 0) d.ctx d.basins evDrainTimeout
      0xFFFF, drainTimeout_swap hd h hlate hwhy, ?_⟩
    rw [triggerReset_first _ _ _ _ hfree]
    exact ⟨dropDrain_drains hd, rfl, rfl, rfl, rfl, rfl, rfl⟩

/-! ### The copy of a station moved for a test (R155, R178, R383, R396) -/

/-- What a slot that begins a firing leaves of its core: the memory, the channels, the sync table and the station. -/
structure SameCopy (c d : Core) : Prop where
  holding : d.holding = c.holding
  inEp : d.inEp = c.inEp
  outEp : d.outEp = c.outEp
  sync : d.sync = c.sync
  station : d.station = c.station
  mem : d.mem = c.mem

theorem SameCopy.refl (c : Core) : SameCopy c c := ⟨rfl, rfl, rfl, rfl, rfl, rfl⟩

theorem SameCopy.trans {c d e : Core} (h : SameCopy c d) (g : SameCopy d e) : SameCopy c e :=
  ⟨g.holding.trans h.holding, g.inEp.trans h.inEp, g.outEp.trans h.outEp, g.sync.trans h.sync, g.station.trans h.station,
    g.mem.trans h.mem⟩

theorem logFor_sameCopy (c : Core) (f : Nat) (g : CheckLog → CheckLog) : SameCopy c (logFor c f g) := by
  unfold logFor
  split
  · exact .refl c
  · split
    · exact ⟨rfl, rfl, rfl, rfl, rfl, rfl⟩
    · exact .refl c

theorem beginFiring_sameCopy (s : State) (k : Nat) (c : Core) (i f : Nat) : SameCopy c (beginFiring s k c i f) := by
  refine SameCopy.trans ?_ (logFor_sameCopy _ _ _)
  exact ⟨rfl, rfl, rfl, rfl, rfl, rfl⟩

theorem wakeSlots_sameCopy (s : State) (k : Nat) (c : Core) : SameCopy c (wakeSlots s k c) := by
  unfold wakeSlots
  generalize List.range 8 = l
  induction l generalizing c with
  | nil => exact .refl c
  | cons i l ih =>
    rw [List.foldl_cons]
    refine SameCopy.trans ?_ (ih _)
    dsimp only
    split
    · exact beginFiring_sameCopy s k c i _
    · exact .refl c

section
variable (s : State) (k : Nat)

theorem freeForTest_mesh : (freeForTest s k).mesh = s.mesh := by
  unfold freeForTest
  split
  · rfl
  · dsimp only
    split
    · exact (startTest_frame _ k).2.1
    · rfl

theorem freeForTest_rst : (freeForTest s k).rst = s.rst := by
  unfold freeForTest
  split
  · rfl
  · dsimp only
    split
    · unfold startTest
      dsimp only
      split <;> rfl
    · rfl

theorem coreAt_freeForTest_ne {j : Nat} (h : j ≠ k) : coreAt (freeForTest s k) j = coreAt s j := by
  unfold freeForTest
  split
  · exact coreAt_putCore_ne s _ h
  · dsimp only
    split
    · exact (startTest_core_ne _ k h).trans (coreAt_putCore_ne s _ h)
    · exact coreAt_putCore_ne s _ h

end

/-- A move taken off the list. -/
def moveDone (s : State) (m : Move) : State := { s with mesh := { s.mesh with moves := s.mesh.moves.erase m } }

/-- The new core with the carried state, stopped where the old one or its section stops. -/
def landedCore (s : State) (n : Nat) (m : Move) : Core :=
  let c := carried (coreAt s m.from_) (coreAt s m.to_)
  { c with stopAt := match (coreAt s m.to_).stopAt with
                     | some a => some a
                     | none => sectStop s n c }

theorem movedRefills_none {s : State} (n slot k : Nat) (h : s.heal.refills = []) : movedRefills s n slot k = s := by
  have hheal : { s.heal with refills := [] } = s.heal := by rw [← h]
  unfold movedRefills
  dsimp only
  rw [h]
  exact congrArg (fun e => { s with heal := e }) hheal

theorem serveHeld_none (k : Nat) {c : Core} (h : c.svc = []) : serveHeld k c = (c, []) := by
  have hsame : { c with svc := [] } = c := by rw [← h]
  unfold serveHeld
  rw [h]
  exact congrArg (fun d => (d, ([] : List Ev))) hsame

/-- A move lands on its new core: what it held is served, then its slots go on (R155). -/
def landFrom (s : State) (n : Nat) (m : Move) : State :=
  let z := serveHeld m.to_ (landedCore s n m)
  let s1 := applyEvs m.to_ (putCore (moveDone s m) m.to_ z.1) z.2
  putCore s1 m.to_ (wakeSlots s1 m.to_ (coreAt s1 m.to_))

/-- A move that ends with no page to refill and no access held: the new core has the carried state and its slots go on. -/
theorem landMove_plain {s : State} {m : Move} (n : Nat) (hrefills : s.heal.refills = []) (hsvc : (coreAt s m.to_).svc = []) :
    landMove s n m = putCore (putCore (moveDone s m) m.to_ (landedCore s n m)) m.to_
      (wakeSlots (putCore (moveDone s m) m.to_ (landedCore s n m)) m.to_ (landedCore s n m)) := by
  have hserve : serveHeld m.to_ (landedCore s n m) = (landedCore s n m, []) := serveHeld_none m.to_ hsvc
  have hland : landMove s n m = landFrom (movedRefills s n m.slot m.from_) n m := rfl
  rw [hland, movedRefills_none n m.slot m.from_ hrefills, landFrom, hserve]
  simp only [applyEvs, List.foldl_nil, coreAt_putCore]

section
variable {s : State} {m : Move} (hmoves : s.mesh.moves = [m]) (hfault : m.fault = false)
include hmoves hfault

theorem stagedCopy_found : s.mesh.moves.find? (stagedCopy m.slot) = some m := by
  rw [hmoves]
  simp [stagedCopy, hfault]

theorem carryCopyComplete_waits (ok : Bool) (h : s.mesh.oldBank = true ∨ s.mesh.flipping = true) :
    exec (.carryCopyComplete m.slot ok) s = .next s := by
  have hbusy : (s.mesh.oldBank || s.mesh.flipping) = true := Bool.or_eq_true_iff.2 h
  rw [exec_carryCopyComplete, execCarryCopyComplete, stagedCopy_found hmoves hfault]
  simp [hbusy]

variable (hbank : s.mesh.oldBank = false) (hflip : s.mesh.flipping = false)
include hbank hflip

theorem carryCopyComplete_lands (hin : (coreAt s m.to_).st = .inUse) (hsettled : oldSettled (coreAt s m.from_) = true)
    (hidle : unitsIdle (coreAt s m.from_) = true) (hfills : fillsDone s m.to_ = true) :
    exec (.carryCopyComplete m.slot true) s =
      .next (freeForTest (landMove s (ownerOf s (basinOf m.to_)) m) m.from_) := by
  rw [exec_carryCopyComplete, execCarryCopyComplete, stagedCopy_found hmoves hfault]
  simp [hbank, hflip, hin, hsettled, hidle, hfills]

theorem carryCopyComplete_lost : exec (.carryCopyComplete m.slot false) s =
    .next (carryLost (freeForTest (moveDone s m) m.from_) (ownerOf s (basinOf m.to_)) (basinOf m.from_)) := by
  rw [exec_carryCopyComplete, execCarryCopyComplete, stagedCopy_found hmoves hfault]
  simp [hbank, hflip, moveDone]

end

theorem carryLost_resets {s : State} (n b : Nat) (h : s.rst.cur = none) : ∃ r, (carryLost s n b).rst.cur = some r ∧
    r.set = [b] ∧ r.trigger = evQuiesceTimeout ∧ (carryLost s n b).mesh = s.mesh := by
  have hfree : (bumpTst (basinEvent s b evQuiesceTimeout 0 0 0) 21 1).rst.cur = none := h
  rw [carryLost, triggerReset_first _ _ _ _ hfree]
  exact ⟨_, rfl, rfl, rfl, rfl⟩

/-- The core that a station has moved to, once the move has ended. -/
theorem landMove_core {s : State} {m : Move} (n : Nat) (hrefills : s.heal.refills = []) (hsvc : (coreAt s m.to_).svc = []) :
    SameCopy (landedCore s n m) (coreAt (landMove s n m) m.to_) := by
  rw [landMove_plain n hrefills hsvc, coreAt_putCore]
  exact wakeSlots_sameCopy _ _ _

/-- The claim on the copy that ends a move. -/
theorem carryCopied : Claims.CarryCopied := by
  intro s m hmoves hfault hfrom hto hne old new
  have hgone : (moveDone s m).mesh.moves = [] := by simp [moveDone, hmoves]
  refine ⟨fun h => carryCopyComplete_waits hmoves hfault true h, ?_, ?_⟩
  · intro hbank hflip hin hsettled hidle hfills hrefills hsvc
    refine ⟨_, carryCopyComplete_lands hmoves hfault hbank hflip hin hsettled hidle hfills, ?_⟩
    rw [freeForTest_mesh, coreAt_freeForTest_ne _ _ hne.symm]
    obtain ⟨hholding, hinEp, houtEp, hsync, hstation, hmem⟩ := landMove_core (ownerOf s (basinOf m.to_)) hrefills hsvc
    refine ⟨?_, hholding, hinEp, houtEp, hsync, hstation, hmem⟩
    rw [landMove_plain _ hrefills hsvc]
    exact hgone
  · intro hbank hflip hrst
    have hfree : (freeForTest (moveDone s m) m.from_).rst.cur = none := by
      rw [freeForTest_rst]
      exact hrst
    obtain ⟨r, hcur, hset, htrig, hmesh⟩ := carryLost_resets (ownerOf s (basinOf m.to_)) (basinOf m.from_) hfree
    refine ⟨_, r, carryCopyComplete_lost hmoves hfault hbank hflip, ?_, hcur, hset, htrig⟩
    rw [hmesh, freeForTest_mesh, hgone]

/-- Settles O40: the tracked scale, the drains and the copy of a moved station. -/
theorem scaleAndDrains : Obligations.ScaleAndDrains := ⟨trackedScale, drains, carryCopied⟩

end Sys2Proof.Machine

/-! PROOFS. Checks of sampled firings (O50). -/

namespace Sys2Proof.Machine

theorem exec_checkCompare (agrees : Bool) (s : State) : exec (.checkCompare agrees) s = execCheckCompare agrees s := rfl

theorem exec_checkTimeout (s : State) : exec .checkTimeout s = execCheckTimeout s := rfl

theorem exec_thirdCoreResult (eq : ThirdEq) (s : State) : exec (.thirdCoreResult eq) s = execThirdCoreResult eq s := rfl

theorem tabGet_bumpTst (s : State) (i n : Nat) : tabGet (bumpTst s i n).tst.ctr i 0 = (tabGet s.tst.ctr i 0 + n) % 2 ^ 64 :=
  tabGet_bump _ _ _

theorem tabGet_bumpTst_ne (s : State) {i j : Nat} (n : Nat) (h : j ≠ i) :
    tabGet (bumpTst s i n).tst.ctr j 0 = tabGet s.tst.ctr j 0 := tabGet_bump_ne _ _ h

/-! ### A check ends (R156, R385, R390) -/

/-- A core of a check freed: cleared, its state and its window kept. -/
def coreFreed (s : State) (k : Nat) : State := putCore s k { clearedCore (coreAt s k) with window := (coreAt s k).window }

/-- The checker and the third core of a check freed, and the check off the list. -/
def checkersFreed (s : State) (c : Check) : State :=
  let s1 := coreFreed { s with heal := { s.heal with checks := s.heal.checks.erase c } } c.checker
  match c.third with
  | none => s1
  | some j => coreFreed s1 j

theorem dropCheck_eq (s : State) (c : Check) : dropCheck s c =
    putCore (checkersFreed s c) c.core { coreAt (checkersFreed s c) c.core with check := none } := rfl

theorem coreFreed_st (s : State) (k i : Nat) : (coreAt (coreFreed s k) i).st = (coreAt s i).st := by
  by_cases h : i = k
  · rw [h, coreFreed, coreAt_putCore]
    rfl
  · rw [coreFreed, coreAt_putCore_ne _ _ h]

theorem checkersFreed_st (s : State) (c : Check) (i : Nat) : (coreAt (checkersFreed s c) i).st = (coreAt s i).st := by
  unfold checkersFreed
  dsimp only
  split
  · exact coreFreed_st _ _ i
  · exact (coreFreed_st _ _ i).trans (coreFreed_st _ _ i)

theorem checkersFreed_uncored (s : State) (c : Check) :
    uncored (checkersFreed s c) = uncored { s with heal := { s.heal with checks := s.heal.checks.erase c } } := by
  unfold checkersFreed
  dsimp only
  split <;> rfl

theorem dropCheck_uncored (s : State) (c : Check) :
    uncored (dropCheck s c) = uncored { s with heal := { s.heal with checks := s.heal.checks.erase c } } :=
  checkersFreed_uncored s c

section
variable (s : State) (c : Check)

theorem dropCheck_heal : (dropCheck s c).heal = { s.heal with checks := s.heal.checks.erase c } :=
  (congrArg State.heal (dropCheck_uncored s c) :)
theorem dropCheck_ctxs : (dropCheck s c).ctxs = s.ctxs := (congrArg State.ctxs (dropCheck_uncored s c) :)
theorem dropCheck_tst : (dropCheck s c).tst = s.tst := (congrArg State.tst (dropCheck_uncored s c) :)
theorem dropCheck_dies : (dropCheck s c).dies = s.dies := (congrArg State.dies (dropCheck_uncored s c) :)
theorem dropCheck_paths : (dropCheck s c).heal.paths = s.heal.paths := by rw [dropCheck_heal]
theorem dropCheck_rst : (dropCheck s c).rst = s.rst := (congrArg State.rst (dropCheck_uncored s c) :)

/-- A station core that is no checker loses nothing but its log. -/
theorem coreAt_dropCheck {s : State} {c : Check} (hchecker : c.core ≠ c.checker)
    (hthird : ∀ j, c.third = some j → c.core ≠ j) :
    coreAt (dropCheck s c) c.core = { coreAt s c.core with check := none } := by
  have hsame : coreAt (checkersFreed s c) c.core = coreAt s c.core := by
    unfold checkersFreed
    dsimp only
    split
    · exact coreAt_putCore_ne _ _ hchecker
    next j hj => exact (coreAt_putCore_ne _ _ (hthird j hj)).trans (coreAt_putCore_ne _ _ hchecker)
  rw [dropCheck_eq, coreAt_putCore, hsame]

end

/-- What holds once a check has ended: it is off the list, and its station's core has no log and the state it had. -/
structure CheckEnded (s t : State) (c : Check) : Prop where
  checks : t.heal.checks = s.heal.checks.erase c
  log : (coreAt t c.core).check = none
  st : (coreAt t c.core).st = (coreAt s c.core).st

theorem dropCheck_ended (s : State) (c : Check) : CheckEnded s (dropCheck s c) c where
  checks := by rw [dropCheck_heal]
  log := by rw [dropCheck_eq, coreAt_putCore]
  st := by
    rw [dropCheck_eq, coreAt_putCore]
    exact checkersFreed_st s c c.core

/-- What changes neither the checks nor a core keeps the end of a check. -/
theorem CheckEnded.of_eq {s t u : State} {c : Check} (h : CheckEnded s t c) (hheal : u.heal.checks = t.heal.checks)
    (hlog : (coreAt u c.core).check = (coreAt t c.core).check) (hst : (coreAt u c.core).st = (coreAt t c.core).st) :
    CheckEnded s u c := ⟨hheal.trans h.checks, hlog.trans h.log, hst.trans h.st⟩

/-- A counter advanced before the check ends is no matter. -/
theorem CheckEnded.of_counted {s t : State} {c : Check} {i n : Nat} (h : CheckEnded (bumpTst s i n) t c) : CheckEnded s t c :=
  ⟨h.checks, h.log, h.st⟩

theorem abandonCheck_ended (s : State) (c : Check) : CheckEnded s (abandonCheck s c) c :=
  (dropCheck_ended s c).of_eq rfl rfl rfl

theorem abandonCheck_counted (s : State) (c : Check) :
    tabGet (abandonCheck s c).tst.ctr 11 0 = (tabGet s.tst.ctr 11 0 + 1) % 2 ^ 64 := by
  rw [abandonCheck, tabGet_bumpTst, dropCheck_tst]

theorem abandonCheck_counted_ne (s : State) (c : Check) {i : Nat} (h : i ≠ 11) :
    tabGet (abandonCheck s c).tst.ctr i 0 = tabGet s.tst.ctr i 0 := by
  rw [abandonCheck, tabGet_bumpTst_ne _ _ h, dropCheck_tst]

theorem abandonCheck_frame (s : State) (c : Check) :
    ((abandonCheck s c).dies, (abandonCheck s c).heal.paths) = (s.dies, s.heal.paths) :=
  Prod.ext (dropCheck_dies s c) (dropCheck_paths s c)

/-! ### Equal digests (R389, R391, R400) -/

theorem cleanAt_frame (c : Core) (m : Nat) : (cleanAt c m).check = c.check ∧ (cleanAt c m).st = c.st := by
  unfold cleanAt
  split <;> exact ⟨rfl, rfl⟩

/-- A check of a proof run counted for its core (R400). -/
def proofCounted (s : State) (c : Check) : State :=
  if c.proof then { s with heal := { s.heal with proofs := tabSet s.heal.proofs c.core (tabGet s.heal.proofs c.core 0 + 1) } }
  else s

theorem proofCounted_frame (s : State) (c : Check) : (proofCounted s c).heal.checks = s.heal.checks ∧
    (proofCounted s c).cores = s.cores ∧ (proofCounted s c).tst = s.tst ∧ (proofCounted s c).ctxs = s.ctxs := by
  unfold proofCounted
  split <;> exact ⟨rfl, rfl, rfl, rfl⟩

/-- A clean check before it counts for a proof run. -/
def windowCleaned (s : State) (c : Check) : State :=
  putCore (bumpTst (dropCheck s c) 8 1) c.core (cleanAt (coreAt (bumpTst (dropCheck s c) 8 1) c.core) c.mb)

theorem checkClean_eq (s : State) (c : Check) : checkClean s c = proofCounted (windowCleaned s c) c := rfl

theorem checkClean_ended (s : State) (c : Check) : CheckEnded s (checkClean s c) c := by
  obtain ⟨hchecks, hcores, -, -⟩ := proofCounted_frame (windowCleaned s c) c
  obtain ⟨hlog, hst⟩ := cleanAt_frame (coreAt (bumpTst (dropCheck s c) 8 1) c.core) c.mb
  have hcore : coreAt (checkClean s c) c.core = cleanAt (coreAt (bumpTst (dropCheck s c) 8 1) c.core) c.mb := by
    rw [checkClean_eq, coreAt, hcores]
    exact coreAt_putCore _ _ _
  refine (dropCheck_ended s c).of_eq hchecks ?_ ?_
  · rw [hcore, hlog]
    rfl
  · rw [hcore, hst]
    rfl

theorem checkClean_frame (s : State) (c : Check) : (checkClean s c).ctxs = s.ctxs ∧
    tabGet (checkClean s c).tst.ctr 8 0 = (tabGet s.tst.ctr 8 0 + 1) % 2 ^ 64 := by
  obtain ⟨-, -, htst, hctxs⟩ := proofCounted_frame (windowCleaned s c) c
  refine ⟨(congrArg State.ctxs (checkClean_eq s c)).trans (hctxs.trans (dropCheck_ctxs s c)), ?_⟩
  rw [checkClean_eq, htst]
  exact (tabGet_bumpTst _ _ _).trans (by rw [dropCheck_tst])

/-! ### Different digests (R389) -/

theorem chooseChecker_bumpTst (s : State) (i n k : Nat) (l : List Nat) :
    chooseChecker (bumpTst s i n) k l = chooseChecker s k l := rfl

theorem disagreeEvent_unrecorded (s : State) (c : Check) (row : Nat) : unrecorded (disagreeEvent s c row) = unrecorded s := rfl

/-- A third core taken for a check. -/
def thirdTaken (s : State) (c : Check) (j : Nat) : State :=
  let s2 := bumpTst (putCore (bumpTst s 9 1) j { coreAt s j with reserved := true }) 10 1
  { s2 with heal := { s2.heal with checks := s2.heal.checks.map (fun d => if d = c then { c with third := some j } else d) } }

theorem checkDiffers_third {s : State} {c : Check} {j : Nat} (h : chooseChecker s c.core [dieOf c.core, dieOf c.checker] = some j) :
    checkDiffers s c = thirdTaken s c j := by
  unfold checkDiffers
  dsimp only
  rw [chooseChecker_bumpTst, h]
  rfl

theorem checkDiffers_givenUp {s : State} {c : Check} (h : chooseChecker s c.core [dieOf c.core, dieOf c.checker] = none) :
    checkDiffers s c = disagreeEvent (abandonCheck (bumpTst s 9 1) c) c 0xFF := by
  unfold checkDiffers
  dsimp only
  rw [chooseChecker_bumpTst, h]

theorem thirdTaken_counted (s : State) (c : Check) (j : Nat) :
    tabGet (thirdTaken s c j).tst.ctr 9 0 = (tabGet s.tst.ctr 9 0 + 1) % 2 ^ 64 ∧
      tabGet (thirdTaken s c j).tst.ctr 10 0 = (tabGet s.tst.ctr 10 0 + 1) % 2 ^ 64 := by
  constructor
  · refine (tabGet_bumpTst_ne _ 1 (by decide)).trans ?_
    exact tabGet_bumpTst s 9 1
  · refine (tabGet_bumpTst _ 10 1).trans ?_
    rw [show tabGet (putCore (bumpTst s 9 1) j { coreAt s j with reserved := true }).tst.ctr 10 0 = tabGet s.tst.ctr 10 0 from
      tabGet_bumpTst_ne s 1 (by decide)]

/-- A check given up for want of a third core. -/
theorem givenUp_ended (s : State) (c : Check) : CheckEnded s (disagreeEvent (abandonCheck (bumpTst s 9 1) c) c 0xFF) c :=
  CheckEnded.of_eq (t := abandonCheck (bumpTst s 9 1) c) (abandonCheck_ended (bumpTst s 9 1) c).of_counted rfl rfl rfl

theorem givenUp_counted (s : State) (c : Check) :
    tabGet (disagreeEvent (abandonCheck (bumpTst s 9 1) c) c 0xFF).tst.ctr 9 0 = (tabGet s.tst.ctr 9 0 + 1) % 2 ^ 64 ∧
      tabGet (disagreeEvent (abandonCheck (bumpTst s 9 1) c) c 0xFF).tst.ctr 11 0 = (tabGet s.tst.ctr 11 0 + 1) % 2 ^ 64 := by
  have htst : (disagreeEvent (abandonCheck (bumpTst s 9 1) c) c 0xFF).tst = (abandonCheck (bumpTst s 9 1) c).tst :=
    tst_of_unrecorded (disagreeEvent_unrecorded _ c _)
  rw [htst, abandonCheck_counted_ne _ _ (by decide), abandonCheck_counted, tabGet_bumpTst, tabGet_bumpTst_ne _ _ (by decide)]
  exact ⟨rfl, rfl⟩

/-! ### A recomputation begins (R388) -/

theorem memGet_filter (p : Nat → Bool) (m : Mem) (a : Nat) :
    memGet (m.filter (fun e => p e.1)) a = if p a then memGet m a else 0 := by
  induction m with
  | nil => simp [memGet]
  | cons e t ih =>
    obtain ⟨j, v⟩ := e
    rw [List.filter_cons]
    by_cases hj : j = a
    · subst hj
      cases hp : p j <;> simp [memGet, ih, hp]
    · cases p j <;> simp [memGet, ih, hj]

/-- Cells written over a memory: each byte listed is read, every other one stays. -/
theorem memGet_memSets {lo : Nat} {l : Mem} (h : memWfFrom lo l = true) (m : Mem) (a : Nat) :
    memGet (l.foldl (fun m e => memSet m e.1 e.2) m) a = if memGet l a = 0 then memGet m a else memGet l a := by
  induction l generalizing lo m with
  | nil => simp [memGet]
  | cons e t ih =>
    obtain ⟨j, v⟩ := e
    simp only [memWfFrom, Bool.and_eq_true, decide_eq_true_eq] at h
    obtain ⟨⟨-, hv⟩, ht⟩ := h
    rw [List.foldl_cons, ih ht]
    by_cases hj : j = a
    · subst hj
      have hlisted : memGet ((j, v) :: t) j = v := by simp [memGet]
      rw [if_pos (memGet_below ht (Nat.lt_succ_self j)), memGet_memSet_self, hlisted, if_neg hv]
    · rw [memGet_memSet_ne _ _ (Ne.symm hj)]
      simp [memGet, hj]

theorem replayCore_carry (s : State) {c : Check} (l : CheckLog) (j i : Nat) (lay : Layout) (y : Station)
    (hwf : Memory.wf (coreAt s c.core).mem = true) {a : Nat} (ha : isCarry (coreAt s c.core) a = true) :
    memGet (replayCore s c l j i lay y).mem a = memGet (coreAt s c.core).mem a := by
  have hmem := memGet_memSets (memWfFrom_filter (fun e => isCarry (coreAt s c.core) e.1) 0 _ hwf)
    ((stationCore s (ownerOf s (basinOf j)) j i lay y l.firing false (coreAt s j)).mem.filter
      (fun e => !isCarry (coreAt s c.core) e.1)) a
  rw [memGet_filter (isCarry (coreAt s c.core)), memGet_filter (fun e => !isCarry (coreAt s c.core) e), if_pos ha, ha] at hmem
  refine hmem.trans ?_
  split
  next h => exact h.symm
  next => rfl

/-- What a recomputation that begins on a core leaves. -/
structure ReplayStarted (s t : State) (c : Check) (l : CheckLog) (j : Nat) : Prop where
  replay : (coreAt t j).replay = some l.beats
  scale : (coreAt t j).scaleTab = l.scale
  slot : (coreAt t j).slot = none
  st : (coreAt t j).st = (coreAt s j).st
  reserved : (coreAt t j).reserved = true
  carry : ∀ a, isCarry (coreAt s c.core) a = true → memGet (coreAt t j).mem a = memGet (coreAt s c.core).mem a
  others : ∀ i, i ≠ j → coreAt t i = coreAt s i
  heal : t.heal = s.heal

theorem startReplay_started {s : State} {c : Check} (l : CheckLog) {j : Nat} {lay : Layout} {y : Station}
    (hlay : (ctxAt s (ownerOf s (basinOf j))).layout = some lay) (hy : (coreAt s c.core).station = some y)
    (hwait : waitPages s (ownerOf s (basinOf j)) (basinOf j) y = []) (hwf : Memory.wf (coreAt s c.core).mem = true) :
    ReplayStarted s (startReplay s c l j) c l j := by
  have heq : startReplay s c l j =
      putCore s j (replayCore s c l j (lay.stations.findIdx (fun x => x == y)) lay y) := by
    unfold startReplay
    dsimp only
    rw [hlay, hy]
    dsimp only
    rw [hwait]
    rfl
  rw [heq]
  have hcore := coreAt_putCore s j (replayCore s c l j (lay.stations.findIdx (fun x => x == y)) lay y)
  exact {
    replay := by rw [hcore]; rfl
    scale := by rw [hcore]; rfl
    slot := by rw [hcore]; rfl
    st := by rw [hcore]; rfl
    reserved := by rw [hcore]; rfl
    carry := fun a ha => by rw [hcore]; exact replayCore_carry s l j _ lay y hwf ha
    others := fun i hi => coreAt_putCore_ne s _ hi
    heal := rfl }

/-! ### A die path begins (R378, R393) -/

theorem stopTest_unfenced (s : State) (p : DiePath) (margin : Bool) : unfenced (stopTest s p margin) = unfenced s := by
  unfold stopTest
  dsimp only
  split
  · rfl
  · split
    · split <;> rfl
    · rfl

theorem withdrawMove_unfenced (s : State) (m : Nat × Nat × Nat) : unfenced (withdrawMove s m) = unfenced s := by
  unfold withdrawMove
  dsimp only
  split <;> rfl

theorem heal_of_unfenced {s t : State} (h : unfenced t = unfenced s) : t.heal = s.heal := (congrArg State.heal h :)

theorem withdrawTests_frame (s : State) (n : Nat) : (withdrawTests s n).dies = s.dies ∧ (withdrawTests s n).heal = s.heal := by
  have hmoves (l : List (Nat × Nat × Nat)) : unfenced (forEach l withdrawMove s) = unfenced s :=
    forEach_keeps unfenced (fun s m _ => withdrawMove_unfenced s m) s
  exact ⟨(dies_of_unfenced (hmoves ((changesOf s n).filter (isStagedMove s))) :),
    (heal_of_unfenced (hmoves ((changesOf s n).filter (isStagedMove s))) :)⟩

/-- A path as it begins. -/
def begunPath (s : State) (p : DiePath) : DiePath :=
  { p with begun := true, cut := cutOf s (pathCores s p), margin := pathFallsBack s p }

/-- The checks given up when a path begins. -/
def abandoned (s : State) (p : DiePath) : State :=
  let hit (k : Nat) : Bool := (pathSites p).contains k
  forEach (s.heal.checks.filter (fun c => hit c.checker || (match c.third with
                                                            | none => false
                                                            | some j => hit j))) abandonCheck s

/-- The stations of a path held at its cut, and its test stopped. -/
def pathHeld (s : State) (p : DiePath) : State :=
  stopAfter (stopTest (putPath s p (some (begunPath s p))) p (begunPath s p).margin) (pathCores s p)
    (some (cutOf s (pathCores s p)))

theorem beginPath_eq (s : State) (p : DiePath) : beginPath s p =
    match p.ctx with
    | none => abandoned (pathHeld s p) p
    | some n => withdrawTests (abandoned (pathHeld s p) p) n := rfl

theorem abandoned_frame (s : State) (p : DiePath) :
    (abandoned s p).dies = s.dies ∧ (abandoned s p).heal.paths = s.heal.paths := by
  have hkeep : ((abandoned s p).dies, (abandoned s p).heal.paths) = (s.dies, s.heal.paths) :=
    forEach_keeps (fun s => (s.dies, s.heal.paths)) (fun s c _ => abandonCheck_frame s c) s
  exact ⟨congrArg Prod.fst hkeep, congrArg Prod.snd hkeep⟩

theorem pathHeld_unfenced (s : State) (p : DiePath) : unfenced (pathHeld s p) = unfenced (putPath s p (some (begunPath s p))) := by
  refine Eq.trans ?_ (stopTest_unfenced _ p (begunPath s p).margin)
  exact congrArg (fun u : State => { u with basins := [] }) (stopAfter_uncored _ (pathCores s p) _)

/-- The only path of the module, once it has begun. -/
theorem beginPath_single {s : State} {p : DiePath} (h : s.heal.paths = [p]) :
    (beginPath s p).dies = s.dies ∧ (beginPath s p).heal.paths = [begunPath s p] := by
  have hput : (putPath s p (some (begunPath s p))).heal.paths = [begunPath s p] := by simp [putPath, h]
  have hkept := pathHeld_unfenced s p
  have hheld : (pathHeld s p).dies = s.dies ∧ (pathHeld s p).heal.paths = [begunPath s p] :=
    ⟨(dies_of_unfenced hkept).trans rfl, (congrArg Heal.paths (heal_of_unfenced hkept)).trans hput⟩
  obtain ⟨hdies, hpaths⟩ := abandoned_frame (pathHeld s p) p
  have hleft : (abandoned (pathHeld s p) p).dies = s.dies ∧ (abandoned (pathHeld s p) p).heal.paths = [begunPath s p] :=
    ⟨hdies.trans hheld.1, hpaths.trans hheld.2⟩
  rw [beginPath_eq]
  split
  · exact hleft
  · obtain ⟨hsame, hheal⟩ := withdrawTests_frame (abandoned (pathHeld s p) p) ‹_›
    rw [hsame, hheal]
    exact hleft

theorem suspectDie_suspect (s : State) (d reason : Nat) : (dieAt (suspectDie s d reason) d).suspect ≠ none := by
  unfold suspectDie
  split
  · simp
  next r h => simp [h]

theorem suspectDie_frame (s : State) (d reason : Nat) :
    (dieAt (suspectDie s d reason) d).retired = (dieAt s d).retired ∧ (suspectDie s d reason).heal = s.heal := by
  unfold suspectDie
  split
  · simp
  · exact ⟨rfl, rfl⟩

/-- The path of a whole die as it opens (R393). -/
def diePath (s : State) (d reason : Nat) (wrong : Option Nat) : DiePath :=
  { die := d, core := none, reason := reason, ctx := (basinAt s (basinOfDie d)).ctx, cut := 0, t0 := s.sup.ticks, begun := false,
    margin := false, settling := false, proof := false, failed := false, wrong := wrong, cmd := none }

/-- A path on the list of those that are open. -/
def pathOpened (s : State) (p : DiePath) : State := { s with heal := { s.heal with paths := s.heal.paths ++ [p] } }

theorem startPath_opens {s : State} {d : Nat} (reason : Nat) (wrong : Option Nat) (hret : (dieAt s d).retired = false)
    (hpaths : s.heal.paths = []) : startPath s d none reason wrong none =
      if mayBegin (pathOpened s (diePath s d reason wrong)) (diePath s d reason wrong)
      then beginPath (pathOpened s (diePath s d reason wrong)) (diePath s d reason wrong)
      else pathOpened s (diePath s d reason wrong) := by
  unfold startPath
  rw [hret, hpaths]
  simp only [List.any_nil, Bool.or_self, Bool.false_eq_true, if_false, List.nil_append]
  rw [pathOpened, hpaths]
  rfl

/-- What a path of a whole die that has opened is, begun or not. -/
structure OpenPath (s : State) (d reason : Nat) (wrong : Option Nat) : Prop where
  suspect : (dieAt s d).suspect ≠ none
  path : ∃ p ∈ s.heal.paths, p.die = d ∧ p.core = none ∧ p.reason = reason ∧ p.wrong = wrong

theorem startPath_openPath {s : State} {d : Nat} (reason : Nat) (wrong : Option Nat) (hsusp : (dieAt s d).suspect ≠ none)
    (hret : (dieAt s d).retired = false) (hpaths : s.heal.paths = []) :
    OpenPath (startPath s d none reason wrong none) d reason wrong := by
  have hopened : (pathOpened s (diePath s d reason wrong)).heal.paths = [diePath s d reason wrong] := by simp [pathOpened, hpaths]
  rw [startPath_opens reason wrong hret hpaths]
  split
  · obtain ⟨hdies, hbegun⟩ := beginPath_single hopened
    refine ⟨?_, begunPath (pathOpened s (diePath s d reason wrong)) (diePath s d reason wrong), ?_, rfl, rfl, rfl, rfl⟩
    · rw [dieAt, hdies]
      exact hsusp
    · rw [hbegun]
      exact List.mem_singleton_self _
  · refine ⟨hsusp, diePath s d reason wrong, ?_, rfl, rfl, rfl, rfl⟩
    rw [hopened]
    exact List.mem_singleton_self _

/-- A die that becomes suspect with no path open is marked, and its path is open. -/
theorem dieSuspect_openPath {s : State} {d : Nat} (reason : Nat) (wrong : Option Nat) (hret : (dieAt s d).retired = false)
    (hpaths : s.heal.paths = []) : OpenPath (dieSuspect s d reason wrong) d reason wrong := by
  obtain ⟨hretired, hheal⟩ := suspectDie_frame s d reason
  have heq : dieSuspect s d reason wrong = startPath (suspectDie s d reason) d none reason wrong none := by
    unfold dieSuspect
    rw [hret]
    rfl
  rw [heq]
  exact startPath_openPath reason wrong (suspectDie_suspect s d reason) (hretired.trans hret) (by rw [hheal, hpaths])

/-! ### The third digest decides (R389, R402, R403) -/

/-- A check that ends after its disagreement is reported. -/
def reported (s : State) (c : Check) (row : Nat) : State := dropCheck (disagreeEvent s c row) c

theorem reported_frame (s : State) (c : Check) (row : Nat) : (reported s c row).dies = s.dies ∧
    (reported s c row).heal.paths = s.heal.paths ∧ (reported s c row).rst = s.rst :=
  ⟨dropCheck_dies _ c, dropCheck_paths _ c, dropCheck_rst _ c⟩

theorem decideCheck_checker {s : State} {c : Check} (hpaths : s.heal.paths = []) (hret : (dieAt s (dieOf c.core)).retired = false) :
    OpenPath (decideCheck s c .checker) (dieOf c.core) 2 (some c.core) := by
  obtain ⟨hdies, hsame, -⟩ := reported_frame s c 1
  have hnone : (reported s c 1).heal.paths = [] := hsame.trans hpaths
  have heq : decideCheck s c .checker = dieSuspect (reported s c 1) (dieOf c.core) 2 (some c.core) := by
    change stationWrong (reported s c 1) c = _
    simp [stationWrong, hnone]
  rw [heq]
  exact dieSuspect_openPath 2 _ (by rw [dieAt, hdies]; exact hret) hnone

theorem decideCheck_station {s : State} {c : Check} (hpaths : s.heal.paths = [])
    (hret : (dieAt s (dieOf c.checker)).retired = false) : OpenPath (decideCheck s c .station) (dieOf c.checker) 2 none := by
  obtain ⟨hdies, hsame, -⟩ := reported_frame s c 2
  have hstays : (dieAt (reported s c 2) (dieOf c.checker)).retired = false := by
    rw [dieAt, hdies]
    exact hret
  exact dieSuspect_openPath 2 none hstays (hsame.trans hpaths)

/-- A refill of a page of a core is asked for. -/
def RefillAsked (k pg : Nat) (s : State) : Prop := ∃ r ∈ s.heal.refills, r.core = k ∧ r.page = pg

theorem suspectCore_heal (s : State) (k reason : Nat) : (suspectCore s k reason).heal = s.heal := by
  unfold suspectCore
  split <;> rfl

/-- The refill of a page put on the list, unless it is there. -/
def refillListed (s : State) (k pg reason clean : Nat) : State :=
  if s.heal.refills.any (fun r => r.core == k && r.page == pg) then s
  else { s with heal := { s.heal with
    refills := s.heal.refills ++ [{ core := k, page := pg, reason := reason, cleanMb := clean }] } }

theorem refillListed_asked (s : State) (k pg reason clean : Nat) : RefillAsked k pg (refillListed s k pg reason clean) := by
  unfold refillListed
  split
  next h =>
    obtain ⟨r, hr, hmatch⟩ := List.any_eq_true.1 h
    simp only [Bool.and_eq_true, beq_iff_eq] at hmatch
    exact ⟨r, hr, hmatch⟩
  next => exact ⟨_, List.mem_append_right _ (List.mem_singleton_self _), rfl, rfl⟩

theorem refillListed_keeps {k pg : Nat} {s : State} (h : RefillAsked k pg s) (j q reason clean : Nat) :
    RefillAsked k pg (refillListed s j q reason clean) := by
  obtain ⟨r, hr, hmatch⟩ := h
  unfold refillListed
  split
  · exact ⟨r, hr, hmatch⟩
  · exact ⟨r, List.mem_append_left _ hr, hmatch⟩

/-- What a core asks of the module is done wherever the core is heard. -/
theorem applyEv_heard {k : Nat} {s : State} {e : Ev} (h : hears (coreAt s k) e = true) : applyEv k s e = effectOf k s e := if_pos h

theorem applyEv_suspect (k : Nat) (s : State) (reason : Nat) : applyEv k s (.suspect reason) = suspectCore s k reason :=
  applyEv_heard (by simp [hears])

theorem applyEv_refill (k : Nat) (s : State) (pg reason clean : Nat) :
    applyEv k s (.refill pg reason clean) = refillListed s k pg reason clean :=
  applyEv_heard (by simp [hears])

/-- A bad page of a core counted and reported. -/
def pageReported (s : State) (k : Nat) : State :=
  applyEv k (applyEv k s (.tst 14)) (.post evWeightDigestFail noFld noFld noFld 0 0 0)

theorem pageReported_heal (s : State) (k : Nat) : (pageReported s k).heal = s.heal := by
  rw [pageReported, applyEv_heard (by simp [hears]), applyEv_heard (by simp [hears])]
  rfl

theorem pageBad_eq (s : State) (k pg : Nat) : pageBad s k pg = applyEv k
    (applyEv k (pageReported s k) (.refill pg 0x10 (tabGet (coreAt s k).pageCleanMb pg 0))) (.suspect 1) := rfl

theorem pageBad_heal (s : State) (k pg : Nat) : (pageBad s k pg).heal =
    (refillListed (pageReported s k) k pg 0x10 (tabGet (coreAt s k).pageCleanMb pg 0)).heal := by
  rw [pageBad_eq, applyEv_suspect, suspectCore_heal, applyEv_refill]

theorem pageBad_asks (s : State) (k pg : Nat) : RefillAsked k pg (pageBad s k pg) := by
  rw [RefillAsked, pageBad_heal]
  exact refillListed_asked _ k pg _ _

theorem pageBad_keeps {k pg : Nat} {s : State} (j q : Nat) (h : RefillAsked k pg s) : RefillAsked k pg (pageBad s j q) := by
  have hreported : RefillAsked k pg (pageReported s j) := by
    rw [RefillAsked, pageReported_heal]
    exact h
  rw [RefillAsked, pageBad_heal]
  exact refillListed_keeps hreported j q _ _

/-- A page of a core reads as its signed bytes (R402). -/
def pageGood (c : Core) (pg : Nat) : Bool := sha256 (memRead c.mem (pg * 65536) 65536) == tabGet c.fillDigest pg 0

/-- The W-class pages of a station core that must be refilled. -/
def badPages (c : Core) (y : Station) : List Nat := (wPages y).filter (fun p => !pageGood c p)

theorem inputsSuspect_station {s : State} {c : Check} {y : Station} (hy : (coreAt s c.core).station = some y) :
    inputsSuspect s c = if (badPages (coreAt s c.core) y).isEmpty then
      triggerReset (bumpTst s 13 (wPages y).length) (ownerOf s (c.slot / 1024 % 16)) [c.slot / 1024 % 16] evCheckDisagree
        c.slot false
    else forEach (badPages (coreAt s c.core) y) (fun s p => pageBad s c.core p) (bumpTst s 13 (wPages y).length) := by
  unfold inputsSuspect
  dsimp only
  rw [hy]
  rfl

theorem inputsSuspect_refills {s : State} {c : Check} {y : Station} (hy : (coreAt s c.core).station = some y) {p : Nat}
    (hp : p ∈ wPages y) (hbad : pageGood (coreAt s c.core) p = false) : RefillAsked c.core p (inputsSuspect s c) := by
  have hmem : p ∈ badPages (coreAt s c.core) y := List.mem_filter.2 ⟨hp, by rw [hbad]; rfl⟩
  have hsome : ¬ (badPages (coreAt s c.core) y).isEmpty = true := fun h => by
    rw [List.isEmpty_iff.1 h] at hmem
    cases hmem
  rw [inputsSuspect_station hy, if_neg hsome]
  exact forEach_all (Q := RefillAsked c.core) (fun s q _ => pageBad_asks s c.core q)
    (fun s q b _ h => pageBad_keeps c.core b h) _ p hmem

theorem inputsSuspect_resets {s : State} {c : Check} {y : Station} (hy : (coreAt s c.core).station = some y)
    (hgood : (wPages y).all (pageGood (coreAt s c.core)) = true) (hrst : s.rst.cur = none) :
    (inputsSuspect s c).rst.cur = some (resetBegun (bumpTst s 13 (wPages y).length) (ownerOf s (c.slot / 1024 % 16))
      [c.slot / 1024 % 16] evCheckDisagree c.slot) := by
  have hnone : (badPages (coreAt s c.core) y).isEmpty = true := by
    rw [List.isEmpty_iff, badPages, List.filter_eq_nil_iff]
    intro p hp
    simp [List.all_eq_true.1 hgood p hp]
  rw [inputsSuspect_station hy, if_pos hnone, triggerReset_first _ _ _ _ (show (bumpTst s 13 _).rst.cur = none from hrst)]

/-- All three digests differ: pages that fail their digest are refilled, and with none the station's home basin is reset. -/
structure InputsHashed (s t : State) (c : Check) (y : Station) : Prop where
  refills : ∀ p ∈ wPages y, pageGood (coreAt s c.core) p = false → RefillAsked c.core p t
  reset : (wPages y).all (pageGood (coreAt s c.core)) = true → s.rst.cur = none → ∃ r : Reset, t.rst.cur = some r ∧
    r.set = [c.slot / 1024 % 16] ∧ r.trigger = evCheckDisagree ∧ r.stage = .waiting

theorem decideCheck_none {s : State} {c : Check} {y : Station} (hy : (coreAt s c.core).station = some y)
    (hchecker : c.core ≠ c.checker) (hthird : ∀ j, c.third = some j → c.core ≠ j) :
    InputsHashed s (decideCheck s c .none) c y := by
  have hcore : coreAt (reported s c 4) c.core = { coreAt s c.core with check := none } :=
    coreAt_dropCheck (s := disagreeEvent s c 4) hchecker hthird
  have hstation : (coreAt (reported s c 4) c.core).station = some y := by rw [hcore]; exact hy
  have hpages : pageGood (coreAt (reported s c 4) c.core) = pageGood (coreAt s c.core) := by rw [hcore]; rfl
  obtain ⟨-, -, hrst⟩ := reported_frame s c 4
  have heq : decideCheck s c .none = inputsSuspect (reported s c 4) c := rfl
  rw [heq]
  constructor
  · exact fun p hp hbad => inputsSuspect_refills hstation hp (by rw [hpages]; exact hbad)
  · exact fun hgood hidle => ⟨_, inputsSuspect_resets hstation (by rw [hpages]; exact hgood) (by rw [hrst]; exact hidle),
      rfl, rfl, rfl⟩

/-! ### The commands (R386 to R390) -/

section
variable {s : State} {c : Check} {l : CheckLog}

section
variable (hfind : s.heal.checks.find? (comparable s) = some c) (hlog : decidable s c c.checker = some l)
include hfind hlog

theorem checkCompare_abandons (v : Bool) (h : l.abandoned = true) : exec (.checkCompare v) s = .next (abandonCheck s c) := by
  rw [exec_checkCompare, execCheckCompare, hfind]
  simp [hlog, h]

variable (hkept : l.abandoned = false)
include hkept

theorem checkCompare_starts (v : Bool) (h : replayLog s c.checker = none) :
    exec (.checkCompare v) s = .next (startReplay s c l c.checker) := by
  rw [exec_checkCompare, execCheckCompare, hfind]
  simp [hlog, hkept, h]

theorem checkCompare_decides (v : Bool) {r : CheckLog} (h : replayLog s c.checker = some r) :
    exec (.checkCompare v) s = .next (if v && fireDigest l == fireDigest r then checkClean s c else checkDiffers s c) := by
  rw [exec_checkCompare, execCheckCompare, hfind]
  simp [hlog, hkept, h]

end

theorem checkTimeout_abandons (h : s.heal.checks.find? (checkLate s) = some c) :
    exec .checkTimeout s = .next (abandonCheck s c) := by
  rw [exec_checkTimeout, execCheckTimeout, h]

theorem checkTimeout_stays (h : s.heal.checks.find? (checkLate s) = none) : exec .checkTimeout s = .next s := by
  rw [exec_checkTimeout, execCheckTimeout, h]

section
variable (hfind : s.heal.checks.find? (thirdDone s) = some c) {j : Nat} (hthird : c.third = some j)
  (hlog : decidable s c j = some l) (eq : ThirdEq)
include hfind hthird hlog

theorem thirdCoreResult_starts (hkept : l.abandoned = false) (h : replayLog s j = none) :
    exec (.thirdCoreResult eq) s = .next (startReplay s c l j) := by
  rw [exec_thirdCoreResult, execThirdCoreResult, hfind]
  simp [hthird, hlog, hkept, h]

theorem thirdCoreResult_decides {q r : CheckLog} (hchecker : replayLog s c.checker = some q) (h : replayLog s j = some r) :
    exec (.thirdCoreResult eq) s =
      .next (decideCheck s c (thirdEq (fireDigest l) (fireDigest q) (fireDigest r) eq)) := by
  rw [exec_thirdCoreResult, execThirdCoreResult, hfind]
  simp [hthird, hlog, hchecker, h]

end

end

/-- Settles O50: each outcome of a check, of its time-out and of its third core. -/
theorem firingChecks : Obligations.FiringChecks := by
  intro s c l cnt ended starts placeable differs
  have hstarts {i : Instr} {j : Nat} {lay : Layout} {y : Station} (h : exec i s = .next (startReplay s c l j))
      (hplace : placeable j lay y) : starts i j := by
    obtain ⟨hlay, hy, hwait, hwf⟩ := hplace
    obtain ⟨hreplay, hscale, hslot, hst, hres, hcarry, hothers, hheal⟩ := startReplay_started l hlay hy hwait hwf
    exact ⟨_, h, hreplay, hscale, hslot, hst, hres, hcarry, hothers, hheal⟩
  have hended {t : State} (h : CheckEnded s t c) : ended t := ⟨h.checks, h.log, h.st⟩
  have hdiffers {v : Bool} (h : exec (.checkCompare v) s = .next (checkDiffers s c)) : differs v := by
    refine ⟨fun j hj => ⟨thirdTaken s c j, ?_, coreAt_putCore _ j _, rfl, fun i hi => coreAt_putCore_ne _ _ hi,
      thirdTaken_counted s c j⟩, fun hnone => ⟨_, ?_, hended (givenUp_ended s c), givenUp_counted s c⟩⟩
    · rw [h, checkDiffers_third hj]
    · rw [h, checkDiffers_givenUp hnone]
  refine ⟨fun hfind hlog => ⟨?_, ?_, ?_⟩, ?_, checkTimeout_stays, ?_, ?_⟩
  · exact fun v h => ⟨_, checkCompare_abandons hfind hlog v h, hended (abandonCheck_ended s c), abandonCheck_counted s c,
      dropCheck_ctxs s c⟩
  · exact fun v lay y hkept hnone hplace => hstarts (checkCompare_starts hfind hlog hkept v hnone) hplace
  · intro r hkept hr
    refine ⟨fun heq => ⟨checkClean s c, ?_, hended (checkClean_ended s c), ?_⟩, fun hne => hdiffers ?_, hdiffers ?_⟩
    · rw [checkCompare_decides hfind hlog hkept true hr]
      simp [heq]
    · exact (checkClean_frame s c).symm
    · rw [checkCompare_decides hfind hlog hkept true hr]
      simp [hne]
    · rw [checkCompare_decides hfind hlog hkept false hr]
      simp
  · exact fun hfind => ⟨_, checkTimeout_abandons hfind, hended (abandonCheck_ended s c), abandonCheck_counted s c⟩
  · exact fun j eq lay y hfind hthird hlog hkept hnone hplace =>
      hstarts (thirdCoreResult_starts hfind hthird hlog eq hkept hnone) hplace
  · intro j eq q r hfind hthird hlog hq hr hpaths v
    have hnext : exec (.thirdCoreResult eq) s = .next (decideCheck s c v) := thirdCoreResult_decides hfind hthird hlog eq hq hr
    refine ⟨fun hv hret => ?_, fun hv hret => ?_, ?_⟩
    · obtain ⟨hsusp, hpath⟩ := decideCheck_checker hpaths hret
      exact ⟨_, hv ▸ hnext, hsusp, hpath⟩
    · obtain ⟨hsusp, hpath⟩ := decideCheck_station hpaths hret
      exact ⟨_, hv ▸ hnext, hsusp, hpath⟩
    · intro y hv hy _ hchecker hj good
      have hother : ∀ i, c.third = some i → c.core ≠ i := fun i hi => by
        rw [hthird] at hi
        cases hi
        exact hj.symm
      obtain ⟨hrefills, hreset⟩ := decideCheck_none hy hchecker hother
      exact ⟨_, hv ▸ hnext, hrefills, hreset⟩

end Sys2Proof.Machine

/-! PROOFS. One vector through one stage with an immediate operand (O23). -/

namespace Sys2Proof.Machine

theorem exec_vcQuadStart (k : Nat) (parity : Bool) (s : State) : exec (.vcQuadStart k parity) s = execVcQuadStart k parity s := rfl

/-! ### Lanes (R96, R97, R99) -/

theorem nth_range_map {α : Type} (f : Nat → α) (d : α) {n l : Nat} (h : l < n) : nth ((List.range n).map f) l d = f l := by
  simp [nth, List.getD, h]

/-- A list made over the numbers below `m` with nothing at `n` and above is the one made over those below `n`. -/
theorem range_flatMap_ite {α : Type} {n m : Nat} (f : Nat → List α) (h : n ≤ m) :
    (List.range m).flatMap (fun l => if l < n then f l else []) = (List.range n).flatMap f := by
  obtain ⟨d, rfl⟩ := Nat.exists_eq_add_of_le h
  have hbelow : (List.range n).flatMap (fun l => if l < n then f l else []) = (List.range n).flatMap f :=
    List.flatMap_congr fun l hl => if_pos (List.mem_range.1 hl)
  rw [List.range_add, List.flatMap_append, hbelow]
  simp

/-- Lane `l` of a vector of 32-bit elements (R96). -/
def laneWord (bs : List Beat) (l : Nat) : W32 := BitVec.ofNat 32 (leNat (((bs.flatMap (·.data)).drop (4 * l)).take 4))

theorem unpack_word {fmt : Nat} (h : fmt = 5 ∨ fmt = 6) (bs : List Beat) (l : Nat) : unpack fmt bs l = .w (laneWord bs l) := by
  obtain rfl | rfl := h <;> rfl

theorem beatsPer_word {fmt : Nat} (h : fmt = 5 ∨ fmt = 6) : beatsPer fmt = 4 := by
  obtain rfl | rfl := h <;> rfl

theorem nth_activeLanes (cmd : BitVec 768) (v : Nat) {l : Nat} (h : l < 64) :
    nth (activeLanes cmd v none) l false = decide (64 * v + l < vcN cmd) := nth_range_map _ _ h

/-- The bytes that the active lanes of a command's only vector give, whole lanes without poison (R99, R148). -/
def wordBytes (n : Nat) (x : Nat → W32) : List (Byte × Bool) :=
  (List.range n).flatMap (fun l => (leBytes 4 (x l).toNat).map (fun b => (b, false)))

theorem wordBytes_ne_nil {n : Nat} (x : Nat → W32) (h : 1 ≤ n) : wordBytes n x ≠ [] := by
  obtain ⟨n, rfl⟩ := Nat.exists_eq_add_of_le' h
  simp [wordBytes, List.range_succ, leBytes]

/-- What an inactive lane holds reaches no output. -/
theorem vecOut_words {cmd : BitVec 768} (x y : Nat → W32) (hwidth : vcOutW cmd = 2) (hN : vcN cmd ≤ 64) :
    vecOut cmd (activeLanes cmd 0 none)
      ((List.range 64).map (fun l => .w (if nth (activeLanes cmd 0 none) l false then x l else y l))) false =
    wordBytes (vcN cmd) x := by
  rw [vecOut, if_neg (by omega), wordBytes, ← range_flatMap_ite _ hN]
  refine List.flatMap_congr fun l hl => ?_
  have hl : l < 64 := List.mem_range.1 hl
  rw [nth_range_map _ _ hl, nth_activeLanes _ _ hl, hwidth]
  by_cases h : l < vcN cmd <;> simp [h, laneW]

/-! ### A stage with an immediate operand (R104 to R107) -/

/-- An arithmetic, logic or shift stage that acts in every active lane, with its immediate for B and Z, and leaves T. -/
structure ImmStage (w : Nat) : Prop where
  op : 1 ≤ stOp w ∧ stOp w ≤ 5 ∨ 8 ≤ stOp w ∧ stOp w ≤ 15
  pred : stPred w = false
  saveT : stSaveT w = false
  srcB : stB w = 0
  srcZ : stZ w = 0

/-- The stage is none of NOP, CMP, SEL, CVT and LUT. -/
theorem ImmStage.op_ne {w : Nat} (hw : ImmStage w) :
    stOp w ≠ 0x00 ∧ stOp w ≠ 0x10 ∧ stOp w ≠ 0x11 ∧ stOp w ≠ 0x12 ∧ stOp w ≠ 0x13 := by
  have := hw.op
  omega

/-- The result of a stage with an immediate operand in one lane; a 16-bit one has zeros above it (log 135). -/
def immResult (w : Nat) (v : W32) : W32 :=
  (laneOp (stOp w) (stTy w) v (BitVec.ofNat 32 (stImm w)) (BitVec.ofNat 32 (stImm w))).1

/-- Lanes of 32 bits and an immediate operand hold no ESF-96 value. -/
theorem formFault_imm (t : Slot) {w : Nat} (act : Active) (hw : ImmStage w) (x : Nat → W32) :
    formFault t w act ((List.range 64).map (fun l => .w (x l))) = false := by
  obtain ⟨-, -, -, hcvt, -⟩ := hw.op_ne
  have himm : srcEsf t 0 = false := rfl
  simp only [formFault, beq_eq_false_iff_ne.2 hcvt, hw.srcB, hw.srcZ, himm, Bool.false_and, Bool.and_false, Bool.or_false,
    Bool.false_eq_true, if_false]
  refine List.any_eq_false.2 fun v hv => ?_
  obtain ⟨l, -, hl⟩ := List.mem_map.1 (List.of_mem_zip hv).1
  simp [← hl]

/-- What a stage with an immediate operand does to a vector whose lanes hold 32 bits each: the active lanes hold its result, and
nothing is poisoned, narrowed or refused by it. -/
structure ImmStaged (act : Active) (w : Nat) (x : Nat → W32) (st d : ChainSt) : Prop where
  lanes : d.lanes = (List.range 64).map (fun l => .w (if nth act l false then immResult w (x l) else x l))
  poison : d.poison = st.poison
  obs : d.obs = st.obs
  form : d.form = st.form

theorem runStage_imm (lay : Option Layout) (c : Core) (t : Slot) (y : List W32) (base step : Nat) (sd : Int) (act : Active)
    {w : Nat} {st : ChainSt} {x : Nat → W32} (hw : ImmStage w) (hlanes : st.lanes = (List.range 64).map (fun l => .w (x l))) :
    ImmStaged act w x st (runStage lay c t y base step sd act w st) := by
  -- These five decide the match on OP in `runStage`: the stage is one of those that `laneOp` computes.
  obtain ⟨hnop, hcmp, hsel, hcvt, hlut⟩ := hw.op_ne
  have hform := formFault_imm t act hw x
  have hnarrows : ∀ f : Nat → LaneV × Bool × Nat × Nat × Option Narrowed, (∀ l, (f l).2.2.2.2 = none) →
      ((List.range 64).map f).filterMap (·.2.2.2.2) = [] := fun f hf => by simp [hf]
  simp only [runStage, hlanes, hform, hw.pred, hw.srcB, hw.srcZ]
  rw [hnarrows _ fun l => by split <;> [rfl; (split <;> rfl)]]
  refine ⟨?_, by simp [srcPoison, hlut], by simp, by simp⟩
  rw [List.map_map]
  refine List.map_congr_left fun l hl => ?_
  cases hact : nth act l false <;> simp [hact, nth_range_map _ _ (List.mem_range.1 hl), laneW, operand, immResult]

theorem stagesOf_one {cmd : BitVec 768} (h : vcStages cmd = 1) : stagesOf cmd = [vcStage cmd 0] := by
  simp [stagesOf, h, List.range_succ]

/-- The tap of the reduction unit changes nothing else that a chain carries. -/
theorem runStages_imm (lay : Option Layout) (c : Core) (t : Slot) (y : List W32) (base step tap : Nat) (act : Active)
    (sds : List Int) {cmd : BitVec 768} {st : ChainSt} {x : Nat → W32} (hone : vcStages cmd = 1) (hw : ImmStage (vcStage cmd 0))
    (hlanes : st.lanes = (List.range 64).map (fun l => .w (x l))) :
    ImmStaged act (vcStage cmd 0) x st (runStages lay c t y base step tap act 0 (stagesOf cmd) sds st) := by
  have hstage := runStage_imm lay c t y base step (sds.headD 0) act hw hlanes
  simp only [stagesOf_one hone, runStages]
  split
  · exact ⟨hstage.lanes, hstage.poison, hstage.obs, hstage.form⟩
  · exact hstage

/-! ### One vector through its stage (R97, R99, R113) -/

/-- A core that has taken a vector's beats from the X half and run its stages, before the output leaves. -/
structure VectorTaken (c d : Core) (cmd : BitVec 768) (i : Nat) : Prop where
  vx : d.vx = (takeFrom (vcSrcX cmd) 4 c.vx).2
  mem : d.mem = c.mem
  held : d.vcHeld = c.vcHeld
  streamer : strmAt d 2 = strmAt c 2
  counted : doneAt (slotAt d i) 1 = doneAt (slotAt c i) 1

/-- A command of one vector of 32-bit elements from a port and one stage with an immediate operand, without a reduction. -/
structure OneStage (cmd : BitVec 768) : Prop where
  srcX : vcXSrc cmd ≤ 2
  fmtX : vcXFmt cmd = 5 ∨ vcXFmt cmd = 6
  srcY : vcYSrc cmd = 15
  stages : vcStages cmd = 1
  stage : ImmStage (vcStage cmd 0)
  red : vcRedEn cmd = false
  width : vcOutW cmd = 2
  nonempty : 1 ≤ vcN cmd
  single : vcN cmd ≤ 64

theorem OneStage.notDrain {cmd : BitVec 768} (h : OneStage cmd) : vcXSrc cmd ≠ 3 := by
  have := h.srcX
  omega

theorem OneStage.notNone {cmd : BitVec 768} (h : OneStage cmd) : vcXSrc cmd ≠ 15 := by
  have := h.srcX
  omega

/-- The output of such a command: the result of its stage for each element. -/
def stageOut (cmd : BitVec 768) (bs : List Beat) : List (Byte × Bool) :=
  wordBytes (vcN cmd) (fun l => immResult (vcStage cmd 0) (laneWord bs l))

theorem runVector_oneStage (s : State) (k : Nat) {c : Core} {r : VcRun} (hcmd : OneStage r.ent.cmd) (hvec : r.vec = 0)
    (hclean : (takeFrom (vcSrcX r.ent.cmd) 4 c.vx).1.any (·.poison) = false) :
    ∃ d, VectorTaken c d r.ent.cmd r.ent.slot ∧
      runVector s k c r false = ((vcOutput d (stageOut r.ent.cmd (takeFrom (vcSrcX r.ent.cmd) 4 c.vx).1), []),
        some { r with vec := 1 }) := by
  generalize hrun : runVector s k c r false = o
  unfold runVector at hrun
  extract_lets cmd e row badFmt x y c' act base inPoison lanes0 ys t p0 st0 st1 tap c1 c2 pz r1 ev _ _ _ at hrun
  have hrow : row = none := if_neg hcmd.notDrain
  have hfmt : badFmt = false := by simp [badFmt, hrow]
  have hx : x = takeFrom (vcSrcX cmd) 4 c.vx := by simp [x, hcmd.srcX, beatsPer_word hcmd.fmtX, cmd]
  have hy : y = ([], c.vy) := by simp [y, cmd, hcmd.srcY]
  have hact : act = activeLanes cmd 0 none := by simp [act, hvec, hrow]
  have hlanes0 : st0.lanes = (List.range 64).map (fun l => .w (laneWord x.1 l)) := by
    simp [st0, lanes0, hrow, hcmd.notNone, cmd, unpack_word hcmd.fmtX]
  have hpoison0 : st0.poison = false := by simp [st0, inPoison, hrow, hx, hy, hclean, cmd]
  have hstaged : ImmStaged act (vcStage cmd 0) (laneWord x.1) st0 st1 :=
    runStages_imm _ _ _ _ _ _ _ _ _ hcmd.stages hcmd.stage hlanes0
  have hpoison : st1.poison = false := hstaged.poison.trans hpoison0
  have hobs : st1.obs = [] := hstaged.obs
  have hform : st1.form = false := hstaged.form
  have hout : vecOut cmd act st1.lanes st1.poison = stageOut cmd x.1 := by
    rw [hpoison, hstaged.lanes, hact]
    exact vecOut_words _ _ hcmd.width hcmd.single
  have hred : vcRedEn cmd = false := hcmd.red
  have hpz : pz = (c2, []) := by simp [pz, hpoison, vcPoison_none]
  have hev : ev = [] := by simp [ev, hpz, hobs, vecObs]
  have hr1 : r1 = { r with vec := 1 } := by simp [r1, hvec, hpoison]
  refine ⟨c1, ⟨by simp [c1, c', hx, cmd], by simp [c1, c'], by simp [c1, c'], by simp [c1, c', strmAt],
    by simp [c1, c', doneAt, t, e, slotAt]⟩, ?_⟩
  simp only [← hrun, hfmt, hform, hred, Bool.false_eq_true, if_false, hpz, hev, hr1, c2, hout, hx, cmd]

/-! ### Output to the store streamer, and the end of the command (R64, R102, R123) -/

/-- With no output held there is nothing to offer again. -/
theorem vcRelease_unheld (s : State) {c : Core} (h : c.vcHeld = []) : vcRelease s [] c = c := by
  rw [vcRelease, ← h]

/-- The core whose streamer has taken output of the chain unit behind what waits there. -/
def streamerTook (c : Core) (bs : List (Byte × Bool)) : Core :=
  putStrm c 2 { strmAt c 2 with src1 := (strmAt c 2).src1 ++ bs }

@[simp] theorem strmAt_streamerTook (c : Core) (bs : List (Byte × Bool)) :
    (strmAt (streamerTook c bs) 2).src1 = (strmAt c 2).src1 ++ bs := by simp [streamerTook]
@[simp] theorem streamerTook_vx (c : Core) (bs : List (Byte × Bool)) : (streamerTook c bs).vx = c.vx := rfl
@[simp] theorem streamerTook_mem (c : Core) (bs : List (Byte × Bool)) : (streamerTook c bs).mem = c.mem := rfl
@[simp] theorem streamerTook_vcHeld (c : Core) (bs : List (Byte × Bool)) : (streamerTook c bs).vcHeld = c.vcHeld := rfl
@[simp] theorem slotAt_streamerTook (c : Core) (bs : List (Byte × Bool)) (i : Nat) :
    slotAt (streamerTook c bs) i = slotAt c i := rfl

/-- The core that holds the output with which its command ends. -/
def lastHeld (c : Core) (e : VcEnt) (bs : List (Byte × Bool)) : Core :=
  { c with vcRun := none, vcHeld := [{ bytes := bs, done := some e }] }

@[simp] theorem lastHeld_vcRun (c : Core) (e : VcEnt) (bs : List (Byte × Bool)) : (lastHeld c e bs).vcRun = none := rfl
@[simp] theorem lastHeld_vx (c : Core) (e : VcEnt) (bs : List (Byte × Bool)) : (lastHeld c e bs).vx = c.vx := rfl
@[simp] theorem lastHeld_mem (c : Core) (e : VcEnt) (bs : List (Byte × Bool)) : (lastHeld c e bs).mem = c.mem := rfl
@[simp] theorem lastHeld_vcHeld (c : Core) (e : VcEnt) (bs : List (Byte × Bool)) :
    (lastHeld c e bs).vcHeld = [{ bytes := bs, done := some e }] := rfl
@[simp] theorem strmAt_lastHeld (c : Core) (e : VcEnt) (bs : List (Byte × Bool)) (u : Nat) :
    strmAt (lastHeld c e bs) u = strmAt c u := rfl
@[simp] theorem slotAt_lastHeld (c : Core) (e : VcEnt) (bs : List (Byte × Bool)) (i : Nat) :
    slotAt (lastHeld c e bs) i = slotAt c i := rfl

/-- Output that the streamer takes leaves, and the command is complete with it. -/
theorem vcIssued_taken (s : State) {c : Core} {bs : List (Byte × Bool)} (e : VcEnt) (hbs : bs ≠ []) (hheld : c.vcHeld = [])
    (hroom : storeRefuses (strmAt c 2).src1 = false) :
    vcIssued s (vcOutput c bs) e = vcComplete s (streamerTook c bs) e := by
  have hout : vcOutput c bs = streamerTook c bs := by simp [vcOutput, hbs, hheld, hroom, streamerTook]
  rw [hout]
  exact vcIssued_unheld s e hheld

/-- Output that the streamer refuses (log 14) is held, and the command ends with it. -/
theorem vcIssued_refused (s : State) {c : Core} {bs : List (Byte × Bool)} (e : VcEnt) (hbs : bs ≠ []) (hheld : c.vcHeld = [])
    (hfull : storeRefuses (strmAt c 2).src1 = true) : vcIssued s (vcOutput c bs) e = lastHeld c e bs := by
  simp [vcOutput, hbs, hheld, hfull, vcIssued, lastHeld]

@[simp] theorem vcComplete_vx (s : State) (c : Core) (e : VcEnt) : (vcComplete s c e).vx = c.vx := rfl
@[simp] theorem vcComplete_vcHeld (s : State) (c : Core) (e : VcEnt) : (vcComplete s c e).vcHeld = c.vcHeld := rfl
@[simp] theorem strmAt_vcComplete (s : State) (c : Core) (e : VcEnt) (u : Nat) : strmAt (vcComplete s c e) u = strmAt c u := rfl

/-! ### The quad (R113, R123) -/

theorem lutFault_oneStage (c : Core) (i : Nat) {cmd : BitVec 768} (h : OneStage cmd) : lutFault c i cmd = none := by
  obtain ⟨-, -, -, -, hlut⟩ := h.stage.op_ne
  simp [lutFault, stagesOf_one h.stages, hlut]

theorem vcVectors_one {cmd : BitVec 768} (hsome : 1 ≤ vcN cmd) (hone : vcN cmd ≤ 64) : vcVectors cmd = 1 := by
  unfold vcVectors ceilDiv
  omega

/-- The quad of a command of one vector is that vector. -/
theorem quadOf_oneStage (c : Core) {r : VcRun} (h : OneStage r.ent.cmd) (hvec : r.vec = 0) : quadOf c r = 1 := by
  simp [quadOf, quadSize, h.notDrain, h.notNone, h.srcY, hvec, vcVectors_one h.nonempty h.single, beatsPer_word h.fmtX]

theorem quadReady_oneStage {c : Core} {r : VcRun} (h : OneStage r.ent.cmd) (hbeats : 4 ≤ countFrom (vcSrcX r.ent.cmd) c.vx) :
    quadReady c r 1 = true := by
  simp [quadReady, h.notDrain, h.srcY, beatsPer_word h.fmtX, hbeats]

/-- The only vector of a command leaves its output and issues the command. -/
theorem vcQuadStart_oneStage {s : State} {k : Nat} {r : VcRun} (hk : k < nCores) (hlive : (coreAt s k).held = false)
    (hheld : (coreAt s k).vcHeld = []) (hrun : (coreAt s k).vcRun = some r) (hopc : vcOpc r.ent.cmd = 1)
    (hcmd : OneStage r.ent.cmd) (hvec : r.vec = 0) (hbeats : 4 ≤ countFrom (vcSrcX r.ent.cmd) (coreAt s k).vx)
    (hclean : (takeFrom (vcSrcX r.ent.cmd) 4 (coreAt s k).vx).1.any (·.poison) = false) :
    ∃ d, VectorTaken (coreAt s k) d r.ent.cmd r.ent.slot ∧ exec (.vcQuadStart k false) s = .next (putCore s k
      (vcIssued s (vcOutput d (stageOut r.ent.cmd (takeFrom (vcSrcX r.ent.cmd) 4 (coreAt s k).vx).1)) r.ent)) := by
  obtain ⟨d, htaken, hvector⟩ := runVector_oneStage s k hcmd hvec hclean
  refine ⟨d, htaken, ?_⟩
  rw [exec_vcQuadStart]
  refine runLive_eq (l := []) hk hlive ?_
  simp [vcRelease_unheld s hheld, hheld, hrun, hopc, quadOf_oneStage _ hcmd hvec, lutFault_oneStage _ _ hcmd,
    quadReady_oneStage hcmd hbeats, runQuad, hvector, vcVectors_one hcmd.nonempty hcmd.single]

/-- Settles O23: the only vector leaves its output, which the store streamer takes or the unit holds. -/
theorem vectorOneStage : Obligations.VectorOneStage := by
  intro s k r hk c cmd w bs x imm out hlive hheld hrun hopc hsrcX hfmtX hsrcY hstages hop hpred hsaveT hB hZ hred hwidth hsome
    hone hvec _ hbeats hclean
  have hcmd : OneStage cmd := ⟨hsrcX, hfmtX, hsrcY, hstages, ⟨hop, hpred, hsaveT, hB, hZ⟩, hred, hwidth, hsome, hone⟩
  obtain ⟨d, htaken, hnext⟩ := vcQuadStart_oneStage hk hlive hheld hrun hopc hcmd hvec hbeats hclean
  obtain ⟨hvx, hmem, hheldD, hstrm, hdone⟩ := htaken
  have hout : stageOut cmd bs = out := rfl
  have hne : out ≠ [] := wordBytes_ne_nil _ hsome
  have hempty : d.vcHeld = [] := hheldD.trans hheld
  refine ⟨_, hnext, ?_⟩
  rw [hout]
  cases hfull : storeRefuses (strmAt c 2).src1
  case false =>
    rw [vcIssued_taken s r.ent hne hempty (by rw [hstrm, hfull])]
    simp [hvx, hmem, hstrm, hempty, hdone, c, cmd]
  case true =>
    rw [vcIssued_refused s r.ent hne hempty (by rw [hstrm, hfull])]
    simp [hvx, hmem, hstrm, hdone, c, cmd]

end Sys2Proof.Machine

/-! PROOFS. Memories in the canonical form (O8). -/

namespace Sys2Proof.Machine

theorem memWfFrom_cons {a j : Nat} {v : Byte} {t : Mem} :
    memWfFrom a ((j, v) :: t) = true ↔ a ≤ j ∧ v ≠ 0 ∧ memWfFrom (j + 1) t = true := by
  simp [memWfFrom, and_assoc]

@[simp] theorem memGet_head (j : Nat) (v : Byte) (t : Mem) : memGet ((j, v) :: t) j = v := if_pos rfl

/-- Below its first listed byte a memory reads 0. -/
theorem memGet_before {a i j : Nat} {v : Byte} {t : Mem} (h : memWfFrom a ((j, v) :: t) = true) (hi : i < j) :
    memGet ((j, v) :: t) i = 0 :=
  memGet_below (memWfFrom_cons.2 ⟨le_rfl, (memWfFrom_cons.1 h).2⟩) hi

/-- Two memories in the canonical form that read alike are equal: a first entry that only one of them lists would be a byte that
they read differently. -/
theorem eq_of_memGet_eq {a b : Nat} {m n : Mem} (hm : memWfFrom a m = true) (hn : memWfFrom b n = true)
    (h : ∀ x, memGet m x = memGet n x) : m = n := by
  induction m generalizing a b n with
  | nil =>
    cases n with
    | nil => rfl
    | cons e n => exact absurd (by simpa [memGet] using (h e.1).symm) (memWfFrom_cons.1 hn).2.1
  | cons e m ih =>
    obtain ⟨i, v⟩ := e
    obtain ⟨-, hv, hm'⟩ := memWfFrom_cons.1 hm
    cases n with
    | nil => exact absurd (by simpa [memGet] using h i) hv
    | cons e n =>
      obtain ⟨j, w⟩ := e
      obtain ⟨-, hw, hn'⟩ := memWfFrom_cons.1 hn
      have hij : i = j := by
        rcases Nat.lt_trichotomy i j with hlt | heq | hgt
        · exact absurd ((memGet_head i v m).symm.trans ((h i).trans (memGet_before hn hlt))) hv
        · exact heq
        · exact absurd ((memGet_head j w n).symm.trans ((h j).symm.trans (memGet_before hm hgt))) hw
      subst hij
      have hvw : v = w := by simpa using h i
      have htail : ∀ x, memGet m x = memGet n x := fun x => by
        by_cases hx : i = x
        · subst hx
          rw [memGet_below hm' (Nat.lt_succ_self i), memGet_below hn' (Nat.lt_succ_self i)]
        · simpa [memGet, hx] using h x
      rw [hvw, ih hm' hn' htail]

/-- Settles O8. -/
theorem memoryReadsAndWrites : Obligations.MemoryReadsAndWrites :=
  ⟨fun m a b v _ => memGet_memSet m a b v, fun m a b l _ => memGet_memWrite m a b l, memGet_memClear,
    fun m a n l h => ⟨memWrite_wf m a l h, memClear_wf m a n h⟩, fun _ _ hm hn h => eq_of_memGet_eq hm hn h⟩

end Sys2Proof.Machine

/-! PROOFS. Lines of the scratchpad: local, scrubbed and remote (O25). -/

namespace Sys2Proof.Machine

theorem exec_lineReturn (k u : Nat) (ecc : List Ecc) (s : State) :
    exec (.lineReturn k u ecc) s = execLineReturn k u ecc s := rfl
theorem exec_ceWriteBack (k : Nat) (s : State) : exec (.ceWriteBack k) s = execCeWriteBack k s := rfl
theorem exec_patrolScrub (k : Nat) (ecc : List Ecc) (s : State) : exec (.patrolScrub k ecc) s = execPatrolScrub k ecc s := rfl
theorem exec_remoteAccess (k : Nat) (ecc : List Ecc) (s : State) :
    exec (.remoteAccess k ecc) s = execRemoteAccess k ecc s := rfl

/-! ### Reads and writes whose codewords are without error (R130 to R133) -/

theorem eccAll_ok (c : Core) {l : List (Nat × Ecc)} (tslot tag : Nat) (h : ∀ e ∈ l, e.2 = .ok) :
    eccAll c l tslot tag = (c, []) := by
  have hcore : l.foldl eccOne (c, []) = (c, []) :=
    List.foldlRecOn (motive := (· = (c, []))) _ _ rfl fun z hz e he => by rw [eccOne, h e he]; exact hz
  have hnone : l.any (fun e => e.2 == .ue) = false := List.any_eq_false.2 fun e he => by simp [h e he]
  simp [eccAll, hcore, hnone]

theorem zip_ok {l : List Nat} {ecc : List Ecc} (h : ∀ v ∈ ecc, v = .ok) : ∀ e ∈ l.zip ecc, e.2 = .ok :=
  fun e he => h e.2 (List.of_mem_zip (a := e.1) (b := e.2) he).2

/-- Bytes outside the poison pattern are delivered without poison (R132). -/
theorem spPeek_clean {c : Core} {a n : Nat} (h : (spPeek c a n).any (·.2) = false) :
    spPeek c a n = clean (memRead c.mem a n) := by
  rw [clean, ← spPeek_bytes, List.map_map]
  refine (List.map_id _).symm.trans (List.map_congr_left fun b hb => ?_)
  have hclean := List.any_eq_false.1 h b hb
  exact Prod.ext rfl (by simpa using hclean)

/-- A read changes one counter of the core (R132). -/
theorem spRead_core (c : Core) (a n : Nat) :
    (spRead c a n).2 = bumpCore c 67 ((cwsOf c a n).filter (fun w => c.poisonCw.contains w)).length := rfl

theorem eccRead_ok {c : Core} {a n : Nat} {ecc : List Ecc} (tslot tag : Nat) (hecc : ∀ v ∈ ecc, v = .ok)
    (hclean : (spPeek c a n).any (·.2) = false) :
    eccRead c a n ecc tslot tag = (clean (memRead c.mem a n), (spRead c a n).2, []) := by
  have hue : Ecc.ue ∉ ecc := fun h => nomatch hecc _ h
  have hgood : (ecc.contains .ue || (spRead c a n).1.any (·.2)) = false := by simpa [hue, spRead] using hclean
  unfold eccRead
  dsimp only
  rw [eccAll_ok _ tslot tag (zip_ok hecc), hgood]
  exact Prod.ext (spPeek_clean hclean) rfl

/-- A write whose codewords are without error differs from a plain one in the poison pattern alone (R132, R133). -/
theorem eccWrite_ok (c : Core) (a : Nat) (bs : List (Byte × Bool)) {ecc : List Ecc} (tslot tag : Nat) (h : ∀ v ∈ ecc, v = .ok) :
    eccWrite c a bs ecc tslot tag =
      ({ spWrite c a bs with poisonCw := (eccWrite c a bs ecc tslot tag).1.poisonCw }, []) := by
  unfold eccWrite
  dsimp only
  rw [eccAll_ok c tslot tag (zip_ok h)]

/-- A byte of the scratchpad after a write: the byte written there, or the byte that was there. -/
theorem memGet_spWrite (c : Core) (a : Nat) (bs : List (Byte × Bool)) (x : Nat) : memGet (spWrite c a bs).mem x =
    if a ≤ x ∧ x < a + bs.length then (nth bs (x - a) (0, false)).1 else memGet c.mem x := by
  have hmem : (spWrite c a bs).mem = memWrite c.mem a (bs.map (·.1)) := rfl
  rw [hmem, memGet_memWrite, List.length_map]
  split
  next h =>
    have hx : x - a < bs.length := by omega
    simp [nth, hx]
  next => rfl

/-! ### A descriptor with a line outstanding, and descriptors that end (R138, R151) -/

theorem headDone_outstanding {x : Strm} {e : SdEnt} {r : LineReq} (hcut : e.cut = false) (hr : r ∈ x.reqs)
    (hser : r.ser = x.ser) : headDone x e = false := by
  have hown : (x.reqs.filter (fun q => q.ser == x.ser)).isEmpty = false :=
    List.isEmpty_eq_false_iff_exists_mem.2 ⟨r, List.mem_filter.2 ⟨hr, by simp [hser]⟩⟩
  simp [headDone, hcut, hown]

/-- While a line of the head is outstanding, nothing ends. -/
theorem settle_outstanding (s : State) {c : Core} {u : Nat} {e : SdEnt} {rest : List SdEnt} {r : LineReq} (hu : u ≤ 2)
    (hq : (strmAt c u).q = e :: rest) (hcut : e.cut = false) (hr : r ∈ (strmAt c u).reqs) (hser : r.ser = (strmAt c u).ser) :
    settle s c u = c := by
  have hopen := headDone_outstanding hcut hr hser
  rw [settle, if_neg (by omega), hq, List.length_cons, sdEnds, hq]
  simp [hopen]

theorem sdPop_mem (s : State) (c : Core) (u : Nat) (e : SdEnt) : (sdPop s c u e).mem = c.mem := by
  unfold sdPop
  split <;> rfl

theorem sdEnds_mem (s : State) (u n : Nat) (c : Core) : (sdEnds s u n c).mem = c.mem := by
  induction n generalizing c with
  | zero => rfl
  | succ n ih =>
    unfold sdEnds
    dsimp only
    split
    · rfl
    · split
      · rw [ih, sdPop_mem]
      · rfl

theorem settle_mem (s : State) (c : Core) (u : Nat) : (settle s c u).mem = c.mem := by
  unfold settle
  dsimp only
  split
  · split <;> rfl
  · exact sdEnds_mem s u _ c

theorem bumpLine_mem (c : Core) (u space : Nat) : (bumpLine c u space).mem = c.mem := by
  unfold bumpLine
  split <;> rfl

theorem bumpStrm_mem (c : Core) (u j : Nat) : (bumpStrm c u j).mem = c.mem := by
  unfold bumpStrm
  split <;> rfl

theorem strmAt_bumpLine (c : Core) (u space v : Nat) : strmAt (bumpLine c u space) v = strmAt c v := by
  unfold bumpLine
  split <;> rfl

/-! ### Local lines (R130, R133, R151) -/

/-- The accepted writes of the store streamer leave its outstanding lines (R151). -/
def acceptedLeave (u : Nat) (c : Core) : Core :=
  if u = 2 then putStrm c 2 { strmAt c 2 with reqs := (strmAt c 2).reqs.filter (fun r => r.data.isNone) } else c

theorem acceptedLeave_mem (u : Nat) (c : Core) : (acceptedLeave u c).mem = c.mem := by
  unfold acceptedLeave
  split <;> rfl

/-- With no response that has arrived, the oldest local request is served. -/
theorem lineReturn_local {s : State} {k u : Nat} {ecc : List Ecc} {d : Core} (hk : k < nCores)
    (hlive : (coreAt s k).held = false) (harr : (coreAt s k).arr = []) (h : takeLocal (coreAt s k) u ecc = (d, [])) :
    exec (.lineReturn k u ecc) s = .next (putCore s k (settle s (acceptedLeave u d) u)) := by
  rw [exec_lineReturn, execLineReturn]
  refine runLive_eq (l := []) hk hlive ?_
  simp [harr, h, acceptedLeave]

theorem setData_single {x : Strm} {r : LineReq} (l : List (Byte × Bool)) (hreqs : x.reqs = [r]) (hdata : r.data = none) :
    setData x r.id l = { x with reqs := [{ r with data := some l }] } := by
  simp [setData, hreqs, hdata]

/-- The only outstanding line of a streamer is a local one that has not been served. -/
structure LocalLine (x : Strm) (r : LineReq) : Prop where
  only : x.reqs = [r]
  space : r.space = 0
  unserved : r.data = none

/-- The core once the bytes of a local line have been read: the line holds them (R147). -/
def lineRead (c : Core) (u : Nat) (r : LineReq) : Core :=
  bumpLine (putStrm (spRead c r.addr r.len).2 u
    { strmAt c u with reqs := [{ r with data := some (clean (memRead c.mem r.addr r.len)) }] }) u 0

theorem strmAt_lineRead (c : Core) (u : Nat) (r : LineReq) : strmAt (lineRead c u r) u =
    { strmAt c u with reqs := [{ r with data := some (clean (memRead c.mem r.addr r.len)) }] } := by
  rw [lineRead, strmAt_bumpLine, strmAt_putStrm]

theorem lineRead_mem (c : Core) (u : Nat) (r : LineReq) : (lineRead c u r).mem = c.mem := by
  rw [lineRead, bumpLine_mem]
  rfl

theorem takeLocal_read {c : Core} {u : Nat} {r : LineReq} {ecc : List Ecc} (hline : LocalLine (strmAt c u) r)
    (hwrite : r.write = false) (hecc : ∀ v ∈ ecc, v = .ok) (hclean : (spPeek c r.addr r.len).any (·.2) = false) :
    takeLocal c u ecc = (lineRead c u r, []) := by
  obtain ⟨hreqs, hspace, hdata⟩ := hline
  have hset := setData_single (clean (memRead c.mem r.addr r.len)) hreqs hdata
  have hstrm : strmAt (spRead c r.addr r.len).2 u = strmAt c u := rfl
  have hfind : (strmAt c u).reqs.find? (fun r => r.space == 0 && r.data.isNone) = some r := by simp [hreqs, hspace, hdata]
  unfold takeLocal
  dsimp only
  rw [hfind]
  dsimp only
  rw [eccRead_ok _ _ hecc hclean, hwrite]
  simp [lineRead, hstrm, hset]

theorem takeLocal_write {c : Core} {u : Nat} {r : LineReq} {ecc : List Ecc} (hline : LocalLine (strmAt c u) r)
    (hwrite : r.write = true) (hecc : ∀ v ∈ ecc, v = .ok) :
    ∃ d, takeLocal c u ecc = (d, []) ∧ d.mem = (spWrite c r.addr r.wdata).mem := by
  obtain ⟨hreqs, hspace, hdata⟩ := hline
  have hfind : (strmAt c u).reqs.find? (fun r => r.space == 0 && r.data.isNone) = some r := by simp [hreqs, hspace, hdata]
  unfold takeLocal
  dsimp only
  rw [hfind]
  dsimp only
  rw [eccWrite_ok _ _ _ _ _ hecc, hwrite, if_pos rfl]
  exact ⟨_, rfl, by rw [bumpStrm_mem, bumpLine_mem]; rfl⟩

/-- The claim on local lines. -/
theorem localLines : Claims.LocalLines := by
  intro s k u e rest r ecc hk c x hlive hecc harr hq hcut hreqs hser hspace hdata
  have hline : LocalLine x r := ⟨hreqs, hspace, hdata⟩
  refine ⟨fun hu hwrite hclean => ?_, fun hu hwrite => ?_⟩
  · have hserved := lineReturn_local hk hlive harr (takeLocal_read hline hwrite hecc hclean)
    have hstays : settle s (lineRead c u r) u = lineRead c u r :=
      settle_outstanding s (by omega) (by rw [strmAt_lineRead]; exact hq) hcut
        (by rw [strmAt_lineRead]; exact List.mem_singleton_self _) (by rw [strmAt_lineRead]; exact hser)
    rw [acceptedLeave, if_neg (by omega), hstays] at hserved
    exact ⟨_, hserved, lineRead_mem c u r, by rw [strmAt_lineRead]⟩
  · subst hu
    obtain ⟨d, hd, hmem⟩ := takeLocal_write hline hwrite hecc
    refine ⟨_, lineReturn_local hk hlive harr hd, fun a => ?_⟩
    rw [settle_mem, acceptedLeave_mem, hmem, memGet_spWrite]

/-! ### The patrol (R130, R131, R135) -/

/-- A sorted list begins with its least number. -/
theorem sortNat_least {x : Nat} {l : List Nat} (hx : x ∈ l) (hleast : ∀ y ∈ l, x ≤ y) : ∃ t, sortNat l = x :: t := by
  induction l with
  | nil => cases hx
  | cons n l ih =>
    have hsort : sortNat (n :: l) = insertNat n (sortNat l) := rfl
    rw [hsort]
    by_cases hxn : x = n
    · subst hxn
      cases hl : sortNat l with
      | nil => exact ⟨[], rfl⟩
      | cons y t =>
        have hxy : x ≤ y := hleast y (List.mem_cons_of_mem _ (mem_sortNat.1 (hl ▸ List.mem_cons_self)))
        rcases Nat.lt_or_eq_of_le hxy with hlt | rfl
        · exact ⟨y :: t, if_pos hlt⟩
        · exact ⟨t, by simp [insertNat]⟩
    · have hxl : x ∈ l := (List.mem_cons.1 hx).resolve_left hxn
      have hlt : x < n := Nat.lt_of_le_of_ne (hleast n List.mem_cons_self) hxn
      obtain ⟨t, ht⟩ := ih hxl fun y hy => hleast y (List.mem_cons_of_mem _ hy)
      exact ⟨insertNat n t, by rw [ht, insertNat, if_neg (by omega), if_neg (by omega)]⟩

theorem isW_samePage (c : Core) {a b : Nat} (h : a / 0x10000 = b / 0x10000) : isW c a = isW c b := by
  rw [isW, isW, pageEntry, pageEntry, h]

/-- From an address in an A-class page no codeword begins below that of the address itself, also where the next page is W-class
(R129). -/
theorem cwOf_le {c : Core} {a : Nat} (h : isW c a = false) (i : Nat) : cwOf c a ≤ cwOf c (a + i) := by
  have hcw : cwOf c a = a / 8 * 8 := by simp [cwOf, cwLen, h]
  rw [hcw]
  cases hi : isW c (a + i) with
  | false =>
    have hcwi : cwOf c (a + i) = (a + i) / 8 * 8 := by simp [cwOf, cwLen, hi]
    omega
  | true =>
    have hcwi : cwOf c (a + i) = (a + i) / 16 * 16 := by simp [cwOf, cwLen, hi]
    have hpage : (a + i) / 0x10000 ≠ a / 0x10000 := fun hp => by simp [isW_samePage c hp, h] at hi
    omega

theorem cwsOf_first {c : Core} {a n : Nat} (h : isW c a = false) (hn : 0 < n) : ∃ t, cwsOf c a n = cwOf c a :: t := by
  refine sortNat_least (List.mem_map.2 ⟨0, List.mem_range.2 hn, rfl⟩) fun y hy => ?_
  obtain ⟨i, -, rfl⟩ := List.mem_map.1 hy
  exact cwOf_le h i

/-- A line whose first codeword, of an A-class page, is uncorrectable raises one event and makes the core suspect (R131). -/
theorem eccRead_ue {c : Core} {a n : Nat} (tslot tag : Nat) (hn : 0 < n) (hA : isW c a = false)
    (hcw : isW c (cwOf c a) = false) : (eccRead c a n [.ue] tslot tag).2 =
      (bumpCore (spRead c a n).2 66 1, [.post evSpUncorrectable tslot noFld tag 0 0 0, .suspect 3]) := by
  obtain ⟨t, ht⟩ := cwsOf_first hA hn
  have hread : isW (spRead c a n).2 (cwOf c a) = false := hcw
  simp [eccRead, eccAll, eccOne, ht, hread]

theorem pageCheck_A {c : Core} {a : Nat} (h : List Byte) (hA : isW c a = false) :
    pageCheck c a h = ({ c with scrubBuf := [] }, []) := by
  simp [pageCheck, hA]

/-- The core past the patrol's line at `a`: read, counted, and nothing of it to be hashed (R135). -/
def patrolled (c : Core) (a : Nat) : Core := { bumpCore { c with scrubPos := (a + 64) % spSize } 74 1 with scrubBuf := [] }

@[simp] theorem patrolled_mem (c : Core) (a : Nat) : (patrolled c a).mem = c.mem := rfl
@[simp] theorem patrolled_slots (c : Core) (a : Nat) : (patrolled c a).slots = c.slots := rfl
@[simp] theorem patrolled_scrubPos (c : Core) (a : Nat) : (patrolled c a).scrubPos = (a + 64) % spSize := rfl

/-- The patrol reads its next line with the outcomes given; a line of an A-class page asks for nothing more. -/
theorem patrolScrub_reads {s : State} {k a : Nat} {ecc : List Ecc} {d : Core} {l : List Ev}
    (hk : k < nCores) (hnext : nextScrub (coreAt s k) ((coreAt s k).scrubPos % spSize) = some a)
    (hread : (eccRead (coreAt s k) a 64 ecc noFld noFld).2 = (d, l)) (hA : isW d a = false) :
    exec (.patrolScrub k ecc) s = .next (applyEvs k (putCore s k (patrolled d a)) l) := by
  have hcheck (h : List Byte) := pageCheck_A (c := bumpCore { d with scrubPos := (a + 64) % spSize } 74 1) h hA
  rw [exec_patrolScrub, execPatrolScrub, runCore_next _ _ hk, hnext]
  dsimp only
  rw [hread]
  dsimp only
  rw [hcheck, ite_self, List.append_nil]
  rfl

/-- The claim on the scratchpad's own traffic. -/
theorem scratchpadUpkeep : Claims.ScratchpadUpkeep := by
  intro s k a hk c
  refine ⟨?_, fun hnext hA => ⟨?_, fun hcw => ?_⟩⟩
  · rw [exec_ceWriteBack, execCeWriteBack, runCore_next _ _ hk]
    rfl
  · have hread : (eccRead c a 64 [] noFld noFld).2 = ((spRead c a 64).2, []) := by simp [eccRead, eccAll]
    exact ⟨_, patrolScrub_reads hk hnext hread hA, by simp [spRead_core]⟩
  · have hread := eccRead_ue (n := 64) noFld noFld (by decide) hA hcw
    exact ⟨_, patrolScrub_reads hk hnext hread hA, by simp [spRead_core]⟩

/-! ### The remote service port (R136, R137, R140, R141) -/

/-- The only access, which need not wait, is served and leaves the port. -/
theorem remoteAccess_serves {s : State} {k : Nat} {p : Pkt} {ecc : List Ecc} {d : Core} (hk : k < nCores)
    (hsvc : (coreAt s k).svc = [p]) (hfree : svcHeld (coreAt s k) p = false)
    (h : serve k { coreAt s k with svc := [] } p ecc = (d, [])) :
    exec (.remoteAccess k ecc) s = .next (putCore s k d) := by
  rw [exec_remoteAccess, execRemoteAccess, runCore_next _ _ hk]
  simp [hsvc, hfree, h]

@[simp] theorem injAt_svc (c : Core) (k : Nat) (p : Pkt) : (injAt c k p).svc = c.svc := rfl
@[simp] theorem injAt_mem (c : Core) (k : Nat) (p : Pkt) : (injAt c k p).mem = c.mem := rfl
@[simp] theorem injAt_inj (c : Core) (k : Nat) (p : Pkt) : (injAt c k p).inj = c.inj ++ [{ p with srcCore := k }] := rfl

theorem serve_refused (k : Nat) {c : Core} {p : Pkt} (ecc : List Ecc) (h : svcRefused c p = true) :
    serve k c p ecc = (injAt (bumpCore c 71 1) k (refusePkt p evSpRemoteRefused), []) := if_pos h

section
variable {c : Core} {p : Pkt} (hpass : svcRefused c p = false) (hbanks : banksOn c (svcAddr c p) p.len = true)
include hpass hbanks

theorem serve_read (k : Nat) (hkind : p.kind = 0) (hclean : (spPeek c (svcAddr c p) p.len).any (·.2) = false) :
    serve k c p [] = (injAt (spRead (bumpCore c 70 1) (svcAddr c p) p.len).2 k
      (answerTo p (clean (memRead c.mem (svcAddr c p) p.len)) false 0), []) := by
  have hread : eccRead (bumpCore c 70 1) (svcAddr c p) p.len [] (bits p.addr 25 23) noFld = _ := eccRead_ok _ _ (by simp) hclean
  rw [serve, hpass, hbanks]
  simp [hkind, hread]

theorem serve_write (k : Nat) (hkind : p.kind = 1) (hpois : p.pois.length = p.data.length) :
    ∃ q, serve k c p [] = (injAt { spWrite (bumpCore c 70 1) (svcAddr c p) (p.data.zip p.pois) with poisonCw := q } k
      (answerTo p [] false 0), []) := by
  have hwrite := eccWrite_ok (bumpCore c 70 1) (svcAddr c p) (p.data.zip p.pois) (ecc := []) (bits p.addr 25 23) noFld (by simp)
  have hpoisOf : poisOf p = p.pois := if_pos hpois
  refine ⟨(eccWrite (bumpCore c 70 1) (svcAddr c p) (p.data.zip p.pois) [] (bits p.addr 25 23) noFld).1.poisonCw, ?_⟩
  rw [serve, hpass, hbanks, hpoisOf]
  dsimp only
  rw [hwrite]
  simp [hkind]

end

/-- The claim on remote accesses. -/
theorem remoteAccesses : Claims.RemoteAccesses := by
  intro s k p hk c a hsvc hfree
  refine ⟨fun hheld => ?_, fun hpass hbanks hkind hclean => ?_, fun hpass hbanks hkind hlen hpois => ?_⟩
  · have hrefused : svcRefused { c with svc := [] } p = true := by simp [svcRefused, hheld]
    exact ⟨_, remoteAccess_serves hk hsvc hfree (serve_refused k [] hrefused), by simp [c]⟩
  · exact ⟨_, remoteAccess_serves hk hsvc hfree (serve_read (c := { c with svc := [] }) hpass hbanks k hkind hclean),
      by simp [spRead_core], by simp [spRead_core], by simp [spRead_core, a, svcAddr, localAddr, windowOf]⟩
  · obtain ⟨q, hq⟩ := serve_write (c := { c with svc := [] }) hpass hbanks k hkind (hpois.trans hlen.symm)
    refine ⟨_, remoteAccess_serves hk hsvc hfree hq, by simp [spWrite], by simp [spWrite], fun x => ?_⟩
    refine (memGet_spWrite (bumpCore { c with svc := [] } 70 1) a (p.data.zip p.pois) x).trans ?_
    have hzip : (p.data.zip p.pois).length = p.len := by simp [hlen, hpois]
    rw [hzip]
    split
    next h =>
      have hx : x - a < p.len := by omega
      simp [nth, hlen, hpois, hx]
    next => rfl

/-- Settles O25. -/
theorem scratchpadLines : Obligations.ScratchpadLines := ⟨localLines, scratchpadUpkeep, remoteAccesses⟩

end Sys2Proof.Machine

/-! PROOFS. Ends of firings: END, drop reports, firings complete, and rates that differ (O16). -/

namespace Sys2Proof.Machine

theorem exec_endOp (k i : Nat) (sample : Bool) (s : State) : exec (.endOp k i sample) s = execEndOp k i sample s := rfl
theorem exec_dropRep (k : Nat) (r : Reading) (s : State) : exec (.dropRep k r) s = execDropRep k r s := rfl
theorem exec_firingComplete (k : Nat) (s : State) : exec (.firingComplete k) s = execFiringComplete k s := rfl

/-! ### What the check log leaves of a core (R386) -/

/-- An entry in the check log changes nothing else of the core. -/
theorem logFor_frame (c : Core) (f : Nat) (g : CheckLog → CheckLog) :
    logFor c f g = { c with check := (logFor c f g).check } := by
  unfold logFor
  split
  · rfl
  · split <;> rfl

theorem slots_logFor (c : Core) (f : Nat) (g : CheckLog → CheckLog) : (logFor c f g).slots = c.slots := by rw [logFor_frame]
theorem mem_logFor (c : Core) (f : Nat) (g : CheckLog → CheckLog) : (logFor c f g).mem = c.mem := by rw [logFor_frame]
theorem replay_logFor (c : Core) (f : Nat) (g : CheckLog → CheckLog) : (logFor c f g).replay = c.replay := by rw [logFor_frame]
theorem begun_logFor (c : Core) (f : Nat) (g : CheckLog → CheckLog) : (logFor c f g).begun = c.begun := by rw [logFor_frame]
theorem slotAt_logFor (c : Core) (f : Nat) (g : CheckLog → CheckLog) (i : Nat) : slotAt (logFor c f g) i = slotAt c i := by
  rw [slotAt, slots_logFor, slotAt]

/-! ### END (R197, R385) -/

/-- A slot that begins its part of a firing stands at its ENTRY, with its done counts as the firing's starting values. -/
theorem beginFiring_slot (s : State) (k : Nat) (c : Core) (i f : Nat) : (slotAt (beginFiring s k c i f) i).pc = entryOf c i ∧
    (slotAt (beginFiring s k c i f) i).firing = f ∧ (slotAt (beginFiring s k c i f) i).mb = f / firesPerMb c ∧
    (slotAt (beginFiring s k c i f) i).base = (slotAt c i).done := by
  have hslot (d : Core) : slotAt (logBegin d i) i = slotAt d i := slotAt_logFor _ _ _ _
  rw [beginFiring]
  dsimp only
  rw [hslot]
  simp [slotAt, putSlot]

theorem beginFiring_begun (s : State) (k : Nat) (c : Core) (i f : Nat) : (beginFiring s k c i f).begun = max c.begun (f + 1) :=
  begun_logFor _ _ _

section
variable {s : State} {k i : Nat} {w : BitVec 128} (h : IssuesAt s k i w) (hop : opOp w = 0x0D)
  (hproof : proofRun s (dieOf k) = false)
include h hop hproof

/-- END of a firing that is not sampled only comes to the next one. -/
theorem endOp_unsampled : exec (.endOp k i false) s =
    .next (putCore s k (nextFiring s k (coreAt s k) i ((slotAt (coreAt s k) i).firing + 1))) :=
  stationOp_next h (l := []) hop (by decide) (by simp [hproof])

/-- A firing sampled without a core to check it goes unchecked and is counted (R385). -/
theorem endOp_unchecked (hfirst : firstAt (coreAt s k) i ((slotAt (coreAt s k) i).firing + 1) = true)
    (hcheck : (coreAt s k).check = none) (hcfg : s.tst.checkCfg % 2 ^ 32 ≠ 0) (hnone : chooseChecker s k [dieOf k] = none) :
    exec (.endOp k i true) s =
      .next (bumpTst (putCore s k (nextFiring s k (coreAt s k) i ((slotAt (coreAt s k) i).firing + 1))) 11 1) := by
  have hdraw : (firstAt (coreAt s k) i ((slotAt (coreAt s k) i).firing + 1) && (coreAt s k).check.isNone &&
      (proofRun s (dieOf k) || (true && decide (s.tst.checkCfg % 2 ^ 32 ≠ 0)))) = true := by
    simpa [hfirst, hcheck, hproof] using hcfg
  have hgone (d : Core) (f : Nat) (proof : Bool) : sampleFiring s k d i f proof = (d, [.tst 11]) := by rw [sampleFiring, hnone]
  have hstep : exec (.endOp k i true) s = .next (applyEvs k
      (putCore s k (nextFiring s k (coreAt s k) i ((slotAt (coreAt s k) i).firing + 1))) [.tst 11]) :=
    stationOp_next h hop (by decide) ((if_pos hdraw).trans (hgone _ _ _))
  rw [hstep, applyEvs_cons, applyEvs_nil, applyEv_heard (by simp [hears])]
  rfl

end

/-- The claim on END. -/
theorem stationEnd : Claims.StationEnd := by
  intro s k i w h hop c f d hproof
  refine ⟨endOp_unsampled h hop hproof, fun hmay => ?_, fun hwait => ?_, fun _ hfirst hcheck hcfg hnone =>
    endOp_unchecked h hop hproof hfirst hcheck hcfg hnone⟩
  · obtain ⟨hpc, hfiring, hmb, hbase⟩ := beginFiring_slot s k c i f
    have hd : d = beginFiring s k c i f := if_pos hmay
    rw [hd]
    exact ⟨hpc, hfiring, hmb, hbase, beginFiring_begun s k c i f⟩
  · have hd : d = putSlot c i { slotAt c i with st := .afterEnd, firing := f, adj := [] } := if_neg (by simp [hwait])
    rw [hd, slotAt_putSlot]
    exact ⟨rfl, rfl, rfl⟩

/-! ### Firings complete (R197, R199, R388, R391) -/

/-- Every slot of the core has ended its firing in hand, and nothing of the firing is left. -/
structure FiringOver (c : Core) : Prop where
  station : c.station.isSome = true
  rate : firesPerMb c ≠ 0
  begun : c.firing < c.begun
  ended : slotsEnded c c.firing = true
  idle : firingBusy c c.firing = false

/-- A completed firing noted in the core's last microbatch, its slots run and its suspect window; a recomputation notes nothing
(R388, R391). -/
def firingNoted (s : State) (k : Nat) (c : Core) : Core :=
  if c.replay.isSome then c
  else { c with lastMb := c.firing / firesPerMb c, ran := addRan c.ran (c.slot.getD 0xFFFF),
                window := addWin c.window (ownerOf s (basinOf k)) (c.slot.getD 0xFFFF) (c.firing / firesPerMb c) }

/-- The core past a completed firing (R197). -/
def firingPassed (s : State) (k : Nat) (c : Core) : Core :=
  logFor (dropCounts { firingNoted s k c with
    firing := c.firing + 1, latched := c.latched.filter (fun e => decide (c.firing < e.1)) } c.firing) c.firing
    (fun l => { l with ended := some s.sup.ticks })

theorem firingPassed_frame (s : State) (k : Nat) (c : Core) : (firingPassed s k c).firing = c.firing + 1 ∧
    (firingPassed s k c).slots = c.slots ∧ (firingPassed s k c).mem = c.mem ∧
    (firingPassed s k c).window = (firingNoted s k c).window ∧ (firingPassed s k c).lastMb = (firingNoted s k c).lastMb := by
  have hnoted : (firingNoted s k c).slots = c.slots ∧ (firingNoted s k c).mem = c.mem := by
    unfold firingNoted
    split <;> exact ⟨rfl, rfl⟩
  rw [firingPassed, logFor_frame]
  exact ⟨rfl, hnoted.1, hnoted.2, rfl, rfl⟩

/-- The owners of the endpoints that differ stop; that they do is the model's own choice (R62, R199). -/
def rateStops (c : Core) (l : List (Nat × Nat × Nat × Nat × Nat)) : Core := l.foldl (fun d b => stopSlot d b.1 evRateMismatch) c

/-- RATE_MISMATCH of an endpoint (R199). -/
def rateEvent (b : Nat × Nat × Nat × Nat × Nat) : Ev := .fault evRateMismatch b.1 b.2.1 noFld b.2.2.1 b.2.2.2.1 b.2.2.2.2

/-- A firing that is over completes; `bad` are the differences of its rates, none in a recomputation (R199, R388). -/
theorem firingComplete_next {s : State} {k : Nat} {bad : List (Nat × Nat × Nat × Nat × Nat)} (hk : k < nCores)
    (hover : FiringOver (coreAt s k))
    (hbad : (if (coreAt s k).replay.isSome then [] else rateFaults (coreAt s k) (coreAt s k).firing) = bad) :
    exec (.firingComplete k) s =
      .next (applyEvs k (putCore s k (rateStops (firingPassed s k (coreAt s k)) bad)) (bad.map rateEvent)) := by
  obtain ⟨hstation, hrate, hbegun, hended, hidle⟩ := hover
  have hnone : (coreAt s k).station.isNone = false := by simpa [← Option.not_isSome] using hstation
  have hgoes : ¬ ((coreAt s k).station.isNone || firesPerMb (coreAt s k) == 0 ||
      decide ((coreAt s k).begun ≤ (coreAt s k).firing) || !slotsEnded (coreAt s k) (coreAt s k).firing ||
      firingBusy (coreAt s k) (coreAt s k).firing) = true := by
    simp [hnone, hrate, hended, hidle, hbegun]
  rw [exec_firingComplete, execFiringComplete, runCore_next _ _ hk]
  dsimp only
  rw [if_neg hgoes, hbad]
  rfl

/-- The claim on firings that complete. -/
theorem firingCompletes : Claims.FiringCompletes := by
  intro s k hk c hstation hrate hbegun hended hidle
  have hover : FiringOver c := ⟨hstation, hrate, hbegun, hended, hidle⟩
  obtain ⟨hfiring, hslots, hmem, hwindow, hlast⟩ := firingPassed_frame s k c
  refine ⟨fun hlive hrates => ?_, fun hreplay => ?_⟩
  · have hnoted : firingNoted s k c = _ := if_neg (by simp [hlive])
    refine ⟨_, firingComplete_next hk hover (bad := []) ((if_neg (by simp [c, hlive])).trans hrates), hfiring, ?_, hslots,
      hmem, ?_⟩
    · exact hlast.trans (by rw [hnoted])
    · exact hwindow.trans (by rw [hnoted])
  · have hnoted : firingNoted s k c = c := if_pos hreplay
    refine ⟨_, firingComplete_next hk hover (bad := []) (if_pos hreplay), hfiring, hslots, hmem, ?_, ?_⟩
    · exact hwindow.trans (by rw [hnoted])
    · exact hlast.trans (by rw [hnoted])

/-- The claim on rates that differ. -/
theorem rateMismatch : Claims.RateMismatch := by
  intro s k b hk c hstation hrate hbegun hended hidle hlive hrates
  have hstopped : slotAt (stopSlot (firingPassed s k c) b.1 evRateMismatch) b.1 =
      { slotAt (firingPassed s k c) b.1 with st := .stopped, stopEv := evRateMismatch } := slotAt_putSlot _ _ _
  have hone : (if c.replay.isSome then [] else rateFaults c c.firing) = [b] := (if_neg (by simp [hlive])).trans hrates
  exact ⟨_, firingComplete_next hk ⟨hstation, hrate, hbegun, hended, hidle⟩ hone, (congrArg Slot.st hstopped :),
    (congrArg Slot.stopEv hstopped :)⟩

/-! ### Reads with errors in their codewords (R130, R131) -/

/-- What the decoding of codewords asks of the module: an event, a suspicion of the core, a refill of a page. -/
def decodingEv : Ev → Prop
  | .post _ _ _ _ _ _ _ => True
  | .suspect _ => True
  | .refill _ _ _ => True
  | _ => False

/-- Decoding changes the core's counters and its write-back queue, and asks for nothing but what decoding asks for. -/
structure Decoded (c : Core) (z : Core × List Ev) : Prop where
  core : z.1 = { c with ctr := z.1.ctr, wbq := z.1.wbq }
  evs : ∀ e ∈ z.2, decodingEv e

theorem eccOne_decoded {c : Core} {z : Core × List Ev} (h : Decoded c z) (we : Nat × Ecc) : Decoded c (eccOne z we) := by
  obtain ⟨a, v⟩ := we
  obtain ⟨hcore, hevs⟩ := h
  cases v with
  | ok => exact ⟨hcore, hevs⟩
  | ce => exact ⟨by dsimp only [eccOne]; rw [hcore]; rfl, hevs⟩
  | ue =>
    refine ⟨by dsimp only [eccOne]; rw [hcore]; rfl, fun e he => ?_⟩
    obtain he | he := List.mem_append.1 he
    · exact hevs e he
    · split at he
      · obtain rfl := List.mem_singleton.1 he
        trivial
      · cases he

theorem eccAll_decoded (c : Core) (l : List (Nat × Ecc)) (tslot tag : Nat) : Decoded c (eccAll c l tslot tag) := by
  obtain ⟨hcore, hevs⟩ : Decoded c (l.foldl eccOne (c, [])) :=
    List.foldlRecOn (motive := Decoded c) _ _ ⟨rfl, nofun⟩ fun z hz we _ => eccOne_decoded hz we
  refine ⟨hcore, fun e he => ?_⟩
  obtain he | he := List.mem_append.1 he
  · split at he
    · obtain rfl | rfl : e = _ ∨ e = _ := by simpa using he
      · trivial
      · trivial
    · cases he
  · exact hevs e he

theorem eccRead_decoded (c : Core) (a n : Nat) (ecc : List Ecc) (tslot tag : Nat) :
    Decoded c (eccRead c a n ecc tslot tag).2 := by
  obtain ⟨hcore, hevs⟩ := eccAll_decoded (spRead c a n).2 ((cwsOf c a n).zip ecc) tslot tag
  exact ⟨hcore.trans rfl, hevs⟩

/-- Whatever the decoding finds, a read delivers the stored bytes. -/
theorem eccRead_bytes (c : Core) (a n : Nat) (ecc : List Ecc) (tslot tag : Nat) :
    (eccRead c a n ecc tslot tag).1.map (·.1) = memRead c.mem a n := by
  unfold eccRead
  dsimp only
  split
  · rw [List.map_map]; exact spPeek_bytes c a n
  · exact spPeek_bytes c a n

theorem memRead_part (m : Mem) (a : Nat) {o n l : Nat} (h : o + n ≤ l) :
    ((memRead m a l).drop o).take n = memRead m (a + o) n := by
  refine List.ext_getElem (by simp [memRead]; omega) fun i _ _ => ?_
  simp [memRead, Nat.add_assoc]

/-- What the effects of decoding leave: of the core everything but its suspicion, the drop reports, and who holds the basins. -/
structure DecodingLeaves (k : Nat) (s t : State) : Prop where
  core : coreAt t k = { coreAt s k with suspect := (coreAt t k).suspect }
  drops : ∀ n, (ctxAt t n).drops = (ctxAt s n).drops
  basins : t.basins = s.basins

theorem DecodingLeaves.refl (k : Nat) (s : State) : DecodingLeaves k s s := ⟨rfl, fun _ => rfl, rfl⟩

theorem DecodingLeaves.trans {k : Nat} {s t u : State} (h : DecodingLeaves k s t) (g : DecodingLeaves k t u) :
    DecodingLeaves k s u :=
  ⟨by rw [g.core, h.core], fun n => (g.drops n).trans (h.drops n), g.basins.trans h.basins⟩

theorem drops_postMsg (s : State) (n m : Nat) (r : MsgRec) : (ctxAt (postMsg s m r) n).drops = (ctxAt s n).drops :=
  (congrArg Ctx.drops (postMsg_unposted s n m r) :)

theorem suspectCore_decodingLeaves (s : State) (k reason : Nat) : DecodingLeaves k s (suspectCore s k reason) := by
  unfold suspectCore
  split
  · exact ⟨by simp, fun _ => rfl, rfl⟩
  · exact .refl k s

theorem applyEv_decodingLeaves {e : Ev} (he : decodingEv e) (k : Nat) (s : State) : DecodingLeaves k s (applyEv k s e) := by
  cases e with
  | post code tslot ep tag a0 a1 a2 =>
    unfold applyEv
    split
    · exact ⟨rfl, fun n => drops_postMsg (takeFree s).2 n _ _, rfl⟩
    · exact .refl k s
  | suspect reason => rw [applyEv_suspect]; exact suspectCore_decodingLeaves s k reason
  | refill page reason clean =>
    rw [applyEv_refill]
    unfold refillListed
    split
    · exact .refl k s
    · exact ⟨rfl, fun _ => rfl, rfl⟩
  | _ => exact he.elim

theorem applyEvs_decodingLeaves {l : List Ev} (hl : ∀ e ∈ l, decodingEv e) (k : Nat) (s : State) :
    DecodingLeaves k s (applyEvs k s l) :=
  List.foldlRecOn (motive := DecodingLeaves k s) _ _ (.refl k s) fun _ ht e he =>
    ht.trans (applyEv_decodingLeaves (hl e he) k _)

/-! ### DROPREP (R130, R131, R204) -/

theorem applyEvs_append (k : Nat) (s : State) (l m : List Ev) : applyEvs k s (l ++ m) = applyEvs k (applyEvs k s l) m :=
  List.foldl_append

theorem coreAt_applyEv_drops (k j : Nat) (s : State) (mb : Nat) (l : List Nat) (full : Nat) :
    coreAt (applyEv k s (.drops mb l full)) j = coreAt s j := by
  unfold applyEv
  split <;> rfl

/-- The drop entries that a read of `n` entries from `a` reports (R204). -/
def reportedDrops (c : Core) (a n : Nat) : List Nat := (List.range n).map (fun j => leNat (memRead c.mem (a + 8 * j) 8))

theorem reportedDrops_eq (c : Core) (a n : Nat) :
    (List.range n).map (fun j => leNat (((memRead c.mem a (8 * n)).drop (8 * j)).take 8)) = reportedDrops c a n :=
  List.map_congr_left fun j hj => by
    have hj : j < n := List.mem_range.1 hj
    rw [memRead_part _ _ (by omega)]

/-- The core past a DROPREP that reports `n` entries from `a`: the slot goes on, and the bytes delivered stand in the check log
(R204, R387). -/
def dropsRead (c : Core) (i a n : Nat) (ecc : List Ecc) : Core :=
  goOn (logFor (eccRead c a (8 * n) ecc i noFld).2.1 (slotAt c i).firing
    (fun l => { l with drops := l.drops ++ memRead c.mem a (8 * n) })) i 1

theorem dropsRead_frame (c : Core) (i a n : Nat) (ecc : List Ecc) :
    (slotAt (dropsRead c i a n ecc) i).pc = (slotAt c i).pc + 1 ∧
    (dropsRead c i a n ecc).mem = c.mem ∧ (dropsRead c i a n ecc).replay = c.replay := by
  obtain ⟨hcore, -⟩ := eccRead_decoded c a (8 * n) ecc i noFld
  rw [dropsRead, logFor_frame, hcore]
  exact ⟨congrArg Slot.pc (slotAt_putSlot _ _ _), rfl, rfl⟩

theorem dropRep_next {s : State} {k i a : Nat} {w : BitVec 128} (ecc : List Ecc) (h : IssuesAt s k i w) (hop : opOp w = 0x0C)
    (ha : winBase (windowOf (coreAt s k) i) + opC w = a) (hwin : winOk (windowOf (coreAt s k) i) (opC w) (8 * opB w) = true)
    (hbanks : banksOn (coreAt s k) a (8 * opB w) = true) : exec (.dropRep k ⟨i, ecc⟩) s =
    .next (applyEvs k (putCore s k (dropsRead (coreAt s k) i a (opB w) ecc))
      ((eccRead (coreAt s k) a (8 * opB w) ecc i noFld).2.2 ++
        [.drops (slotAt (coreAt s k) i).mb (reportedDrops (coreAt s k) a (opB w)) 0])) := by
  refine stationOp_next h hop (by decide) ?_
  dsimp only
  rw [ha, hwin, hbanks, eccRead_bytes, reportedDrops_eq]
  rfl

theorem ctxAt_applyEv_drops {k : Nat} {s : State} (mb : Nat) (l : List Nat) (hlive : (coreAt s k).replay = none) :
    (ctxAt (applyEv k s (.drops mb l 0)) (ownerOf s (basinOf k))).drops =
      (ctxAt s (ownerOf s (basinOf k))).drops ++ l.map (fun e => (mb, e)) := by
  rw [applyEv_heard (by simp [hears, hlive])]
  simp [effectOf]

/-- The claim on drop reports. -/
theorem stationDropReport : Claims.StationDropReport := by
  intro s k i w ecc h hop c win a n hwin hbanks
  obtain ⟨-, hevs⟩ := eccRead_decoded c a (8 * opB w) ecc i noFld
  obtain ⟨hpc, hmem, hreplay⟩ := dropsRead_frame c i a (opB w) ecc
  obtain ⟨hcore, hdrops, hbasins⟩ := applyEvs_decodingLeaves hevs k (putCore s k (dropsRead c i a (opB w) ecc))
  rw [coreAt_putCore] at hcore
  refine ⟨_, dropRep_next ecc h hop rfl hwin hbanks, ?_⟩
  rw [applyEvs_append, applyEvs_cons, applyEvs_nil, coreAt_applyEv_drops]
  generalize applyEvs k (putCore s k (dropsRead c i a (opB w) ecc)) (eccRead c a (8 * opB w) ecc i noFld).2.2 = t at *
  have howner : n = ownerOf t (basinOf k) := by
    unfold n ownerOf basinAt
    rw [hbasins, putCore_basins]
  refine ⟨by rw [hcore]; exact hpc, by rw [hcore]; exact hmem, fun hlive => ?_⟩
  rw [howner, ctxAt_applyEv_drops _ _ (by rw [hcore]; exact hreplay.trans hlive), hdrops, reportedDrops, List.map_map]
  rfl

/-- Settles O16. -/
theorem firingsEnd : Obligations.FiringsEnd := ⟨stationEnd, firingCompletes, stationDropReport, rateMismatch⟩

end Sys2Proof.Machine

/-! PROOFS. Cores cleared, cores that are HELD, and wedges found (O28). -/

namespace Sys2Proof.Machine

theorem exec_coreClear (k : Nat) (s : State) : exec (.coreClear k) s = execCoreClear k s := rfl
theorem exec_stallRead (s : State) : exec .stallRead s = execStallRead s := rfl
theorem exec_sdNop (k u : Nat) (s : State) : exec (.sdNop k u) s = execSdNop k u s := rfl
theorem exec_load (k u : Nat) (s : State) : exec (.load k u) s = execLoad k u s := rfl
theorem exec_store (k : Nat) (s : State) : exec (.store k) s = execStore k s := rfl
theorem exec_streamerRequest (k u : Nat) (s : State) : exec (.streamerRequest k u) s = execStreamerRequest k u s := rfl
theorem exec_operandBeatArrive (k p src : Nat) (s : State) :
    exec (.operandBeatArrive k p src) s = execOperandBeatArrive k p src s := rfl
theorem exec_messageInject (k e : Nat) (s : State) : exec (.messageInject k e) s = execMessageInject k e s := rfl
theorem exec_messageArrive (k : Nat) (parity : Bool) (s : State) :
    exec (.messageArrive k parity) s = execMessageArrive k parity s := rfl
theorem exec_spillCopy (k e : Nat) (ecc : List Ecc) (s : State) :
    exec (.spillCopy k e ecc) s = execSpillCopy k e ecc s := rfl
theorem exec_messageTake (k e : Nat) (ecc : List Ecc) (s : State) :
    exec (.messageTake k e ecc) s = execMessageTake k e ecc s := rfl
theorem exec_entryFree (k e : Nat) (s : State) : exec (.entryFree k e) s = execEntryFree k e s := rfl
theorem exec_creditSend (k e : Nat) (timeUp : Bool) (s : State) :
    exec (.creditSend k e timeUp) s = execCreditSend k e timeUp s := rfl
theorem exec_creditArrive (k : Nat) (s : State) : exec (.creditArrive k) s = execCreditArrive k s := rfl

/-! ### A core cleared (R156, R157, R421) -/

/-- A cleared core's streamers are as new but for their request numbers (R157). -/
theorem strmAt_clearedCore (c : Core) (u : Nat) : strmAt (clearedCore c) u = { nextId := (strmAt c u).nextId } :=
  tabGet_map (fun e : Nat × Strm => ({ nextId := e.2.nextId } : Strm)) c.strm u {}

/-- The claim on clears. -/
theorem coreCleared : Claims.CoreCleared := by
  intro s k hk c
  refine ⟨fun hheld hfree => ?_, fun hreset => ?_⟩
  · have hclear : exec (.coreClear k) s = .next (putCore s k (clearedCore c)) := by
      rw [exec_coreClear, execCoreClear, runCore_next _ _ hk, if_pos (by simpa [c, hfree] using hheld)]
      rfl
    refine ⟨_, hclear, fun a => rfl, rfl, rfl, rfl, rfl, rfl, rfl, rfl, rfl, rfl, rfl, fun u => ?_⟩
    rw [strmAt_clearedCore]
    exact ⟨rfl, rfl, rfl⟩
  · rw [exec_coreClear, execCoreClear, runCore_next _ _ hk, if_neg (by simp [hreset])]
    rfl

/-! ### A core that is HELD (R156) -/

theorem runLive_held {k : Nat} (f : State → Core → Core × List Ev) {s : State} (hk : k < nCores)
    (hheld : (coreAt s k).held = true) : runLive k f s = .next (putCore s k (coreAt s k)) := by
  rw [runLive, runCore_next _ _ hk, if_pos hheld]
  rfl

/-- A command of a unit of core `k`: it acts only while the core is not HELD. -/
def OfLiveUnit (k : Nat) (i : Instr) : Prop := ∃ f, ∀ s, exec i s = runLive k f s

/-- The commands of a core's units, streamers and endpoints. -/
def unitCommands (k n : Nat) (b : Bool) (ecc : List Ecc) : List Instr :=
  [.mxCmdStart k, .mxShadowSwap k, .mma k b, .mxNop k, .mxClear k, .mxDrain k, .mxDrainStart k, .mxDrainRow k b, .vcNop k, .sets k,
    .loadc k, .loadlut k, .chain k, .vcQuadStart k b, .sdNop k n, .load k n, .store k, .streamerRequest k n, .lineReturn k n ecc,
    .operandBeatArrive k n n, .messageInject k n, .messageArrive k b, .spillCopy k n ecc, .messageTake k n ecc, .entryFree k n,
    .creditSend k n b, .creditArrive k, .contributionArrive ⟨k, ecc⟩]

theorem unitCommands_ofLiveUnit (k n : Nat) (b : Bool) (ecc : List Ecc) : ∀ i ∈ unitCommands k n b ecc, OfLiveUnit k i := by
  simp only [unitCommands, List.forall_mem_cons]
  exact ⟨⟨_, exec_mxCmdStart k⟩, ⟨_, exec_mxShadowSwap k⟩, ⟨_, exec_mma k b⟩, ⟨_, exec_mxNop k⟩, ⟨_, exec_mxClear k⟩,
    ⟨_, exec_mxDrain k⟩, ⟨_, exec_mxDrainStart k⟩, ⟨_, exec_mxDrainRow k b⟩, ⟨_, exec_vcNop k⟩, ⟨_, exec_sets k⟩,
    ⟨_, exec_loadc k⟩, ⟨_, exec_loadlut k⟩, ⟨_, exec_chain k⟩, ⟨_, exec_vcQuadStart k b⟩, ⟨_, exec_sdNop k n⟩, ⟨_, exec_load k n⟩,
    ⟨_, exec_store k⟩, ⟨_, exec_streamerRequest k n⟩, ⟨_, exec_lineReturn k n ecc⟩, ⟨_, exec_operandBeatArrive k n n⟩,
    ⟨_, exec_messageInject k n⟩, ⟨_, exec_messageArrive k b⟩, ⟨_, exec_spillCopy k n ecc⟩, ⟨_, exec_messageTake k n ecc⟩,
    ⟨_, exec_entryFree k n⟩, ⟨_, exec_creditSend k n b⟩, ⟨_, exec_creditArrive k⟩, ⟨_, exec_contributionArrive ⟨k, ecc⟩⟩,
    List.forall_mem_nil _⟩

/-- The claim on cores that are HELD. -/
theorem heldCoreIdle : Claims.HeldCoreIdle := by
  intro s k n b ecc hk hheld i hi
  obtain ⟨f, hf⟩ := unitCommands_ofLiveUnit k n b ecc i hi
  rw [hf, runLive_held f hk hheld]

/-! ### A wedge found (R179, R180, R419, R420) -/

/-- A core as a read of the stall state leaves it: since which read it has waited on a channel (R179). -/
def waitNoted (s : State) (k : Nat) (c : Core) : Core :=
  { c with waitFrom := if chanWait s k c then some (c.waitFrom.getD s.sup.ticks) else none }

theorem coreAt_noteWaits (s : State) (k : Nat) : coreAt (noteWaits s) k = waitNoted s k (coreAt s k) :=
  tabGet_map (fun e : Nat × Core => waitNoted s e.1 e.2) s.cores k {}

/-- A core but for what the search for wedges notes in it. -/
def unwedged (c : Core) : Core := { c with wedged := false, waitFrom := none }

/-- A core marked as reported in a wedge (R180). -/
def coreWedged (s : State) (k : Nat) : State := putCore s k { coreAt s k with wedged := true }

/-- A basin marked as having a wedge (R180). -/
def basinWedged (s : State) (b : Nat) : State := putBasin s b { basinAt s b with wedge := true }

def coresWedged (cyc : List Nat) (s : State) : State := forEach cyc coreWedged s

def basinsWedged (bs : List Nat) (s : State) : State := forEach bs basinWedged s

theorem coresWedged_marked (cyc : List Nat) (s : State) : ∀ k ∈ cyc, (coreAt (coresWedged cyc s) k).wedged = true :=
  forEach_all (Q := fun k s => (coreAt s k).wedged = true) (fun s k _ => by simp [coreWedged]) (fun s k j _ h => by
    by_cases hkj : k = j
    · subst hkj; simp [coreWedged]
    · rw [coreWedged, coreAt_putCore_ne _ _ hkj]; exact h) s

theorem coresWedged_frame (cyc : List Nat) (s : State) (k : Nat) :
    unwedged (coreAt (coresWedged cyc s) k) = unwedged (coreAt s k) :=
  forEach_keeps (fun s => unwedged (coreAt s k)) (fun s j _ => by
    by_cases hkj : k = j
    · subst hkj; rw [coreWedged, coreAt_putCore]; rfl
    · rw [coreWedged, coreAt_putCore_ne _ _ hkj]) s

theorem coresWedged_rst (cyc : List Nat) (s : State) : (coresWedged cyc s).rst = s.rst :=
  forEach_keeps (f := coreWedged) State.rst (fun _ _ _ => rfl) s

theorem basinsWedged_marked (bs : List Nat) (s : State) : ∀ b ∈ bs, (basinAt (basinsWedged bs s) b).wedge = true :=
  forEach_all (Q := fun b s => (basinAt s b).wedge = true) (fun s b _ => by simp [basinWedged]) (fun s b a _ h => by
    by_cases hba : b = a
    · subst hba; simp [basinWedged]
    · rw [basinWedged, basinAt_putBasin_ne _ _ hba]; exact h) s

theorem basinsWedged_cores (bs : List Nat) (s : State) : (basinsWedged bs s).cores = s.cores :=
  forEach_keeps (f := basinWedged) State.cores (fun _ _ _ => rfl) s

theorem basinsWedged_rst (bs : List Nat) (s : State) : (basinsWedged bs s).rst = s.rst :=
  forEach_keeps (f := basinWedged) State.rst (fun _ _ _ => rfl) s

/-- The basins that hold a core of a cycle (R180). -/
def cycleBasins (cyc : List Nat) : List Nat := sortNat (cyc.map basinOf)

/-- The CHANNEL_WEDGE record of a cycle (R180, R348). -/
def wedgeRec (s : State) (cyc : List Nat) : MsgRec :=
  bytesRec 4 ((cycleChans s cyc).take 64).length cyc.length (maskOf (cycleBasins cyc))
    (((cycleChans s cyc).take 64).flatMap wedgeBytes)

/-- A wedge recorded in its cores, its basins and its context. -/
def wedgeRecorded (s : State) (cyc : List Nat) : State :=
  postMsg (basinsWedged (cycleBasins cyc) (coresWedged cyc s)) (ownerOf s (basinOf (cyc.headD 0))) (wedgeRec s cyc)

theorem wedgeRecorded_rst (s : State) (cyc : List Nat) : (wedgeRecorded s cyc).rst = s.rst :=
  (basinsWedged_rst _ _).trans (coresWedged_rst _ _)

theorem coreAt_wedgeRecorded (s : State) (cyc : List Nat) (k : Nat) :
    coreAt (wedgeRecorded s cyc) k = coreAt (coresWedged cyc s) k :=
  congrArg (fun t : Tab Core => tabGet t k {}) (basinsWedged_cores (cycleBasins cyc) (coresWedged cyc s))

/-- A wedge of which some core has not been reported is recorded, and resets its basins without a partial drain. -/
theorem raiseWedge_new {s : State} {cyc : List Nat} (hnew : ∃ k ∈ cyc, (coreAt s k).wedged = false) :
    raiseWedge s cyc = triggerReset (wedgeRecorded s cyc) (ownerOf s (basinOf (cyc.headD 0))) (cycleBasins cyc) 4 0xFFFF false :=
  if_neg (by simpa using hnew)

/-- The claim on wedges. -/
theorem wedgeFound : Claims.WedgeFound := by
  intro s cyc bs
  refine ⟨fun hnone => by rw [exec_stallRead, execStallRead, hnone, forEach_nil], fun hone hnew hcur => ?_⟩
  have hnew' : ∃ k ∈ cyc, (coreAt (noteWaits s) k).wedged = false := by
    obtain ⟨k, hk, hw⟩ := hnew
    exact ⟨k, hk, by rw [coreAt_noteWaits]; exact hw⟩
  have hcur' : (wedgeRecorded (noteWaits s) cyc).rst.cur = none := by rw [wedgeRecorded_rst]; exact hcur
  refine ⟨raiseWedge (noteWaits s) cyc,
    resetBegun (wedgeRecorded (noteWaits s) cyc) (ownerOf s (basinOf (cyc.headD 0))) bs 4 0xFFFF,
    by rw [exec_stallRead, execStallRead, hone, forEach_cons, forEach_nil], ?_⟩
  rw [raiseWedge_new hnew', triggerReset_first _ _ _ _ hcur']
  have hcore (k : Nat) : unwedged (coreAt (wedgeRecorded (noteWaits s) cyc) k) = unwedged (coreAt s k) := by
    rw [coreAt_wedgeRecorded, coresWedged_frame, coreAt_noteWaits]
    rfl
  refine ⟨rfl, rfl, rfl, rfl, basinsWedged_marked bs _, fun k hk => ?_, fun k => ?_⟩
  · exact (congrArg Core.wedged (coreAt_wedgeRecorded _ _ _)).trans (coresWedged_marked cyc _ k hk)
  · exact ⟨(congrArg Core.mem (hcore k) :), (congrArg Core.slots (hcore k) :), (congrArg Core.inEp (hcore k) :),
      (congrArg Core.outEp (hcore k) :)⟩

/-- Settles O28. -/
theorem coresClearedAndWedged : Obligations.CoresClearedAndWedged := ⟨coreCleared, heldCoreIdle, wedgeFound⟩

end Sys2Proof.Machine

/-! PROOFS. Sends of station code: queued behind those of their endpoint, or refused (O15). -/

namespace Sys2Proof.Machine

/-! ### Why a send of station code is refused (R166) -/

/-- The owner's send on a UNICAST or MULTICAST endpoint is not refused (R161, R166). -/
theorem sendRefusal_none {o : OutEp} {i : Nat} (hkind : outKind o = 1 ∨ outKind o = 2) (howner : outOwner o = i) :
    sendRefusal o i false = none := by
  obtain hkind | hkind := hkind <;> simp [sendRefusal, hkind, howner]

theorem sendRefusal_invalid {o : OutEp} {i : Nat} (hbad : outKind o = 0 ∨ outOwner o ≠ i) :
    sendRefusal o i false = some evChSendInvalid := by
  by_cases hkind : outKind o = 0
  · simp [sendRefusal, hkind]
  · simp [sendRefusal, hkind, hbad.resolve_left hkind]

theorem sendRefusal_reduce {o : OutEp} {i : Nat} (hkind : outKind o = 3) (howner : outOwner o = i) :
    sendRefusal o i false = some evChKindMismatch := by
  simp [sendRefusal, hkind, howner]

/-! ### A send on its endpoint (R166 to R168) -/

/-- A slot past its send of `n` words: held for credit where the sends already waiting take all the room (R168). -/
def slotPastSend (c : Core) (ep i n : Nat) : Slot :=
  { slotAt c i with
    st := if sendRoom c ep ≤ (outAt c ep).sendQ.length then .credit else .running
    pc := (slotAt c i).pc + n
    adj := [] }

theorem stationSend_queued {c : Core} {ep i : Nat} (n : Nat) (x : Send) (h : sendRefusal (outAt c ep) i false = none) :
    stationSend c ep i n x = (putSlot (queueSend c ep x) i (slotPastSend c ep i n), []) := by
  by_cases hroom : sendRoom c ep ≤ (outAt c ep).sendQ.length <;>
    simp [stationSend, h, hroom, goOn, queueSend, slotPastSend]

theorem stationSend_refused {c : Core} {ep i code : Nat} (n : Nat) (x : Send)
    (h : sendRefusal (outAt c ep) i false = some code) :
    stationSend c ep i n x = refuseSend c ep i (if x.kind = 0 then bits x.data 87 72 else noFld) code := by
  simp [stationSend, h]

/-! ### SENDT and SENDD at a slot's code offset -/

/-- The token that a SENDT of slot `i` sends (R164). -/
def tokenSend (c : Core) (i data : Nat) : Send :=
  { kind := 1, data := data, vals := [], poison := false, slot := i, firing := (slotAt c i).firing }

/-- The descriptor message that a SENDD of slot `i` sends: its payload with the physical basin `b` (R164, R187). -/
def descSend (c : Core) (i b : Nat) : Send :=
  { kind := 0, data := putBits (payload c i 1) 36 4 b, vals := [], poison := false, slot := i, firing := (slotAt c i).firing }

section
variable {s : State} {k i : Nat} {w : BitVec 128} (h : IssuesAt s k i w)
include h

/-- A SENDT that names an endpoint of the core sends its token there. -/
theorem sendt_next {d : Core} {l : List Ev} (hop : opOp w = 0x05) (hep : opA w < 32)
    (hsend : stationSend (coreAt s k) (opA w) i 1 (tokenSend (coreAt s k) i (opD w)) = (d, l)) :
    exec (.sendt k i) s = .next (applyEvs k (putCore s k d) l) :=
  stationOp_next h hop (by decide) (by rw [if_neg (Nat.not_le.mpr hep)]; exact hsend)

/-- A SENDD whose payload is well formed, and names a basin that is granted, sends it to the endpoint of the core that it
names. -/
theorem sendd_next {b : Nat} {d : Core} {l : List Ev} (hop : opOp w = 0x04) (hep : opA w < 32)
    (hspace : bits (payload (coreAt s k) i 1) 41 40 = 1 ∨ bits (payload (coreAt s k) i 1) 41 40 = 2)
    (hlow : bits (payload (coreAt s k) i 1) 47 42 = 0) (hhigh : bits (payload (coreAt s k) i 1) 127 88 = 0)
    (hbasin : imgBasin s k (bits (payload (coreAt s k) i 1) 39 36) = some b)
    (hsend : stationSend (coreAt s k) (opA w) i 2 (descSend (coreAt s k) i b) = (d, l)) :
    exec (.sendd k i) s = .next (applyEvs k (putCore s k d) l) := by
  refine stationOp_next h hop (by decide) ?_
  obtain hspace | hspace := hspace <;> 
    simpa [hspace, hlow, hhigh, hbasin, Nat.not_le.mpr hep, descSend] using hsend

theorem sendt_refused {code : Nat} (hop : opOp w = 0x05) (hep : opA w < 32)
    (hcode : sendRefusal (outAt (coreAt s k) (opA w)) i false = some code) : exec (.sendt k i) s =
    .next (applyEvs k (putCore s k (stopSlot (bumpCore (coreAt s k) 76 1) i code)) [.fault code i (opA w) noFld 0 0 0]) :=
  sendt_next h hop hep (stationSend_refused 1 _ hcode)

end

/-- The claim on sends that are queued. -/
theorem stationSends : Claims.StationSends := by
  intro s k i w h c t o m go sent hep hkind howner
  have hopen := sendRefusal_none hkind howner
  exact ⟨fun hop => sendt_next h hop hep (stationSend_queued 1 _ hopen),
    fun _ hop hspace hlow hhigh hbasin =>
      sendd_next h hop hep hspace hlow hhigh hbasin (stationSend_queued 2 _ hopen)⟩

/-- The claim on sends that are refused. -/
theorem sendRefused : Claims.SendRefused := by
  intro s k i w h hop hep c o after
  exact ⟨fun hbad => sendt_refused h hop hep (sendRefusal_invalid hbad),
    fun hkind howner => sendt_refused h hop hep (sendRefusal_reduce hkind howner)⟩

/-- Settles O15: sends that are queued, and sends that are refused. -/
theorem stationSending : Obligations.StationSending := ⟨stationSends, sendRefused⟩

end Sys2Proof.Machine

/-! PROOFS. What the set-up and the end of a layout leave of the module: the basins, the stacks, the resets in hand and what
the contexts hold beside their requests (R177, R187, R209, R332). -/

namespace Sys2Proof.Machine

/-! ### The frame of a layout's set-up -/

/-- What the work on a layout keeps beside the cores and the contexts: the generations and owners of the basins, the basins
that no reset holds, the stacks, the resets and the supervisor. -/
structure Grounded (s t : State) : Prop where
  gen : ∀ b, (basinAt t b).gen = (basinAt s b).gen
  owner : ∀ b, (basinAt t b).ctx = (basinAt s b).ctx
  freed : ∀ b, (basinAt s b).resetting = false → (basinAt t b).resetting = false
  hbms : t.hbms = s.hbms
  rst : t.rst = s.rst
  sup : t.sup = s.sup

theorem Grounded.of_basins {s t : State} (hbasins : t.basins = s.basins) (hhbms : t.hbms = s.hbms) (hrst : t.rst = s.rst)
    (hsup : t.sup = s.sup) : Grounded s t where
  gen b := by rw [basinAt, hbasins, basinAt]
  owner b := by rw [basinAt, hbasins, basinAt]
  freed b h := by rw [basinAt, hbasins]; exact h
  hbms := hhbms
  rst := hrst
  sup := hsup

theorem Grounded.trans {s t u : State} (h : Grounded s t) (g : Grounded t u) : Grounded s u where
  gen b := (g.gen b).trans (h.gen b)
  owner b := (g.owner b).trans (h.owner b)
  freed b hb := g.freed b (h.freed b hb)
  hbms := g.hbms.trans h.hbms
  rst := g.rst.trans h.rst
  sup := g.sup.trans h.sup

theorem Grounded.of_unrecorded {s t : State} (h : unrecorded t = unrecorded s) : Grounded s t :=
  .of_basins (basins_of_unrecorded h) (congrArg State.hbms h :) (congrArg State.rst h :) (congrArg State.sup h :)

theorem Grounded.grantOf_eq {s t : State} (h : Grounded s t) (n : Nat) : grantOf t n = grantOf s n :=
  List.filter_congr fun b _ => by rw [h.owner b]

/-- What the set-up of stations, channels and sync objects keeps: the frame, and the contexts but for their message records. -/
structure SetUp (s t : State) : Prop extends Grounded s t where
  ctx : ∀ n, unposted (ctxAt t n) = unposted (ctxAt s n)

theorem SetUp.of_ctxs {s t : State} (h : Grounded s t) (hctxs : t.ctxs = s.ctxs) : SetUp s t :=
  ⟨h, fun n => by rw [ctxAt, hctxs, ctxAt]⟩

theorem SetUp.refl (s : State) : SetUp s s := .of_ctxs (.of_basins rfl rfl rfl rfl) rfl

theorem SetUp.trans {s t u : State} (h : SetUp s t) (g : SetUp t u) : SetUp s u :=
  ⟨h.toGrounded.trans g.toGrounded, fun n => (g.ctx n).trans (h.ctx n)⟩

theorem forEach_setUp {α : Type} {l : List α} {f : State → α → State} (h : ∀ s a, SetUp s (f s a)) (s : State) :
    SetUp s (forEach l f s) :=
  forEach_holds (P := SetUp s) (fun t a _ ht => ht.trans (h t a)) (.refl s)

section
variable {s t : State} (h : SetUp s t) (n : Nat)
include h

theorem SetUp.layout : (ctxAt t n).layout = (ctxAt s n).layout := (congrArg Ctx.layout (h.ctx n) :)
theorem SetUp.mbs : (ctxAt t n).mbs = (ctxAt s n).mbs := (congrArg Ctx.mbs (h.ctx n) :)
theorem SetUp.nextMb : (ctxAt t n).nextMb = (ctxAt s n).nextMb := (congrArg Ctx.nextMb (h.ctx n) :)
theorem SetUp.restarts : (ctxAt t n).restarts = (ctxAt s n).restarts := (congrArg Ctx.restarts (h.ctx n) :)
theorem SetUp.comps : (ctxAt t n).comps = (ctxAt s n).comps := (congrArg Ctx.comps (h.ctx n) :)

end

/-! ### Its operations -/

theorem putCore_setUp (s : State) (k : Nat) (c : Core) : SetUp s (putCore s k c) :=
  .of_ctxs (.of_basins rfl rfl rfl rfl) rfl

theorem basinAt_putBasin_cases (s : State) (b : Nat) (x : Basin) (c : Nat) :
    (c = b ∧ basinAt (putBasin s b x) c = x) ∨ basinAt (putBasin s b x) c = basinAt s c := by
  by_cases h : c = b
  · exact .inl ⟨h, h ▸ basinAt_putBasin s c x⟩
  · exact .inr (basinAt_putBasin_ne s x h)

/-- A basin whose generation and owner stay, and which enters no reset. -/
theorem putBasin_setUp {s : State} {b : Nat} {x : Basin} (hgen : x.gen = (basinAt s b).gen) (howner : x.ctx = (basinAt s b).ctx)
    (hfreed : (basinAt s b).resetting = false → x.resetting = false) : SetUp s (putBasin s b x) := by
  refine .of_ctxs ⟨fun c => ?_, fun c => ?_, fun c hc => ?_, rfl, rfl, rfl⟩ rfl <;>
    obtain ⟨rfl, h⟩ | h := basinAt_putBasin_cases s b x c <;> rw [h]
  · exact hgen
  · exact howner
  · exact hfreed hc
  · exact hc

theorem ctxEvent_setUp (s : State) (n code basins a0 a1 a2 : Nat) : SetUp s (ctxEvent s n code basins a0 a1 a2) :=
  ⟨.of_basins rfl rfl rfl rfl, fun m => postMsg_unposted (takeFree s).2 m n _⟩

theorem writePlace_setUp (s : State) (bank : Bool) (slot : Nat) (core : Option Nat) : SetUp s (writePlace s bank slot core) := by
  refine forEach_setUp (fun s b => ?_) s
  exact putBasin_setUp rfl rfl id

theorem writePlaces_setUp (s : State) (slot : Nat) (core : Option Nat) : SetUp s (writePlaces s slot core) :=
  (writePlace_setUp s false slot core).trans (writePlace_setUp _ true slot core)

theorem clearPlaces_setUp (s : State) (bs : List Nat) : SetUp s (clearPlaces s bs) := by
  refine forEach_setUp (fun s b => ?_) s
  exact putBasin_setUp rfl rfl id

theorem vacate_setUp (s : State) (k : Nat) : SetUp s (vacate s k) := by
  unfold vacate
  dsimp only
  split
  · exact putCore_setUp s k _
  all_goals exact .refl s

theorem vacateCtx_setUp (s : State) (n : Nat) : SetUp s (vacateCtx s n) := forEach_setUp vacate_setUp s

theorem setStation_setUp (s : State) (n k i : Nat) (l : Layout) (y : Station) (f : Nat) (keep : Bool) :
    SetUp s (setStation s n k i l y f keep) := .of_ctxs (.of_basins rfl rfl rfl rfl) rfl

theorem reserveCores_setUp (s : State) (n : Nat) (l : Layout) (place : List (Nat × Nat)) : SetUp s (reserveCores s n l place) :=
  forEach_setUp (fun s _ => putCore_setUp s _ _) s

theorem defineObjs_setUp (s : State) (n : Nat) (bs : List Nat) : SetUp s (defineObjs s n bs) :=
  forEach_setUp (f := objsDefined n) (fun _ _ => putBasin_setUp rfl rfl id) s

theorem resetChannels_setUp (s : State) (n : Nat) (bs : List Nat) : SetUp s (resetChannels s n bs) := by
  have h := resetChannels_unrecorded s n bs
  exact ⟨.of_basins (congrArg State.basins h :) (congrArg State.hbms h :) (congrArg State.rst h :) (congrArg State.sup h :),
    fun m => resetChannels_unposted s n bs m⟩

theorem placeLost_setUp (n : Nat) (s : State) (slot : Nat) : SetUp s (placeLost n s slot) := by
  unfold placeLost
  dsimp only
  split
  · exact .refl s
  · exact .of_ctxs (.of_basins rfl rfl rfl rfl) rfl

/-! ### Generations (R177, R209) -/

/-- The state in which the generations of some basins have advanced and their channels are as they were. -/
def gensAdvanced (s : State) (bs : List Nat) : State := forEach bs nextGen s

theorem gensAdvanced_unbasined (s : State) (bs : List Nat) : { gensAdvanced s bs with basins := [] } = { s with basins := [] } :=
  forEach_keeps (fun s => { s with basins := [] }) (f := nextGen) (fun _ _ _ => rfl) s

theorem basinAt_gensAdvanced (s : State) {bs : List Nat} (hnodup : bs.Nodup) (b : Nat) : basinAt (gensAdvanced s bs) b =
    if b ∈ bs then { basinAt s b with gen := ((basinAt s b).gen + 1) % 16 } else basinAt s b := by
  split
  next h => exact basinAt_forEach_nextGen hnodup h s
  next h =>
    refine forEach_keeps (fun s => basinAt s b) (f := nextGen) (fun s a ha => ?_) s
    rw [basinAt_nextGen, if_neg (ne_of_mem_of_not_mem ha h).symm]

/-! ### Requests and reloads that end (R331, R332, R433) -/

/-- A context but for its requests and the commands that wait for a boundary or an admission. -/
def unasked (x : Ctx) : Ctx :=
  { x with comps := [], sessions := [], mbs := [], loadPending := none, staged := [], due := [], boundary := none }

theorem postComp_unasked (x : Ctx) (k : Comp) : unasked (postComp x k) = unasked x := by
  unfold postComp
  split <;> rfl

theorem endReqs_unasked (x : Ctx) (l : List (Nat × Req)) (status : Nat) : unasked (endReqs x l status) = unasked x := by
  have hfold (x : Ctx) :
      unasked (l.foldl (fun x p => postComp x (reqComp p.1 p.2 (p.2.aborted.getD status))) x) = unasked x := by
    induction l generalizing x with
    | nil => rfl
    | cons p l ih => exact (ih _).trans (postComp_unasked x _)
  exact hfold x

/-- A context replaced by one that differs in what is asked of it alone. -/
theorem putCtx_unasked {s : State} {n : Nat} {x : Ctx} (h : unasked x = unasked (ctxAt s n)) (m : Nat) :
    unasked (ctxAt (putCtx s n x) m) = unasked (ctxAt s m) := by
  by_cases hm : m = n
  · rw [hm, ctxAt_putCtx, h]
  · rw [ctxAt_putCtx_ne s x hm]

theorem failWith_unasked (s : State) (n tag ring status : Nat) (q : Bool) (m : Nat) :
    unasked (ctxAt (failWith s n tag ring status q) m) = unasked (ctxAt s m) :=
  putCtx_unasked (s := (takeFree s).2) (postComp_unasked _ _) m

theorem failWith_mbs (s : State) (n tag ring status : Nat) (q : Bool) (m : Nat) :
    (ctxAt (failWith s n tag ring status q) m).mbs = (ctxAt s m).mbs := by
  by_cases hm : m = n
  · rw [hm, failWith, complete, ctxAt_putCtx, postComp]
    split <;> rfl
  · rw [failWith, complete, ctxAt_putCtx_ne _ _ hm, ctxAt_takeFree]

/-- A microbatch as it is left when the requests of its context are ended (R332). -/
def mbEnded (m : Mb) : Mb := if m.complete then m else { m with reqs := [], complete := true, aborted := true }

theorem mbEnded_complete (m : Mb) : (mbEnded m).complete = true := by
  unfold mbEnded
  split
  · assumption
  · rfl

/-- A context whose outstanding requests have ended with a status. -/
def reqsEnded (x : Ctx) (status : Nat) : Ctx :=
  let live := x.mbs.filter (fun m => !m.complete)
  let y := endReqs x (live.flatMap (fun m => m.reqs.map (fun r => (m.num, r)))) status
  { y with loadPending := none, mbs := (y.mbs.filter (fun m => m.admitted)).map mbEnded }

theorem reqsEnded_unasked (x : Ctx) (status : Nat) : unasked (reqsEnded x status) = unasked x :=
  (rfl : _ = unasked (endReqs x _ status)).trans (endReqs_unasked x _ status)

theorem postComp_loadPending (x : Ctx) (k : Comp) : (postComp x k).loadPending = x.loadPending := by
  unfold postComp
  split <;> rfl

theorem endReqs_loadPending (x : Ctx) (l : List (Nat × Req)) (status : Nat) :
    (endReqs x l status).loadPending = x.loadPending := by
  have hfold (x : Ctx) :
      (l.foldl (fun x p => postComp x (reqComp p.1 p.2 (p.2.aborted.getD status))) x).loadPending = x.loadPending := by
    induction l generalizing x with
    | nil => rfl
    | cons p l ih => exact (ih _).trans (postComp_loadPending x _)
  exact hfold x

theorem abortReqs_eq (s : State) (n status : Nat) : abortReqs s n status =
    match (ctxAt s n).loadPending with
    | none => putCtx s n (reqsEnded (ctxAt s n) status)
    | some (t, r, q) => failWith (putCtx s n (reqsEnded (ctxAt s n) status)) n t r status q := by
  rw [← endReqs_loadPending]
  rfl

/-- What the end of the outstanding requests keeps: it replaces the context and may complete a load. -/
theorem abortReqs_keeps {β : Type} (g : State → β) {s : State} {n status : Nat}
    (hctx : g (putCtx s n (reqsEnded (ctxAt s n) status)) = g s)
    (hfail : ∀ s tag ring q, g (failWith s n tag ring status q) = g s) : g (abortReqs s n status) = g s := by
  rw [abortReqs_eq]
  split
  · exact hctx
  · exact (hfail _ _ _ _).trans hctx

/-- What the end of the staged reloads keeps: it replaces the context and completes commands. -/
theorem abortReloads_keeps {β : Type} (g : State → β) {s : State} {n : Nat}
    (hctx : ∀ l, g (putCtx s n { ctxAt s n with staged := l, due := [], boundary := none }) = g s)
    (hfail : ∀ s tag ring q, g (failWith s n tag ring 5 q) = g s) : g (abortReloads s n) = g s := by
  unfold abortReloads
  refine (forEach_keeps g (fun s a _ => ?_) _).trans (hctx _)
  split
  · exact hfail s _ _ _
  all_goals rfl

/-- Every request and every staged reload of a context ended with ABORTED (R332). -/
def workEnded (s : State) (n : Nat) : State := abortReloads (abortReqs s n 5) n

theorem abortReqs_unrecorded (s : State) (n status : Nat) : unrecorded (abortReqs s n status) = unrecorded s :=
  abortReqs_keeps unrecorded rfl fun _ _ _ _ => rfl

theorem abortReloads_unrecorded (s : State) (n : Nat) : unrecorded (abortReloads s n) = unrecorded s :=
  abortReloads_keeps unrecorded (fun _ => rfl) fun _ _ _ _ => rfl

theorem workEnded_unrecorded (s : State) (n : Nat) : unrecorded (workEnded s n) = unrecorded s :=
  (abortReloads_unrecorded _ n).trans (abortReqs_unrecorded s n 5)

theorem workEnded_grounded (s : State) (n : Nat) : Grounded s (workEnded s n) := .of_unrecorded (workEnded_unrecorded s n)

theorem workEnded_unasked (s : State) (n m : Nat) : unasked (ctxAt (workEnded s n) m) = unasked (ctxAt s m) := by
  refine (abortReloads_keeps (fun s => unasked (ctxAt s m)) (fun _ => putCtx_unasked (by rfl) m)
    fun s tag ring q => failWith_unasked s n tag ring 5 q m).trans ?_
  exact abortReqs_keeps (fun s => unasked (ctxAt s m)) (putCtx_unasked (reqsEnded_unasked _ 5) m)
    fun s tag ring q => failWith_unasked s n tag ring 5 q m

/-- Every microbatch that is left is complete. -/
theorem workEnded_complete (s : State) (n : Nat) : ∀ m ∈ (ctxAt (workEnded s n) n).mbs, m.complete = true := by
  have hreloads : (ctxAt (workEnded s n) n).mbs = (ctxAt (abortReqs s n 5) n).mbs :=
    abortReloads_keeps (fun t => (ctxAt t n).mbs) (fun _ => by rw [ctxAt_putCtx])
      fun t tag ring q => failWith_mbs t n tag ring 5 q n
  have hreqs : (ctxAt (abortReqs s n 5) n).mbs = (reqsEnded (ctxAt s n) 5).mbs := by
    rw [abortReqs_eq]
    split
    · rw [ctxAt_putCtx]
    · rw [failWith_mbs, ctxAt_putCtx]
  rw [hreloads, hreqs]
  intro m hm
  obtain ⟨m', -, rfl⟩ := List.mem_map.1 hm
  exact mbEnded_complete m'

/-- A context of which nothing is asked keeps its completion records. -/
theorem workEnded_idle {s : State} {n : Nat} (hmbs : (ctxAt s n).mbs = []) (hload : (ctxAt s n).loadPending = none)
    (hdue : (ctxAt s n).due = []) (hstaged : (ctxAt s n).staged = []) :
    (ctxAt (workEnded s n) n).comps = (ctxAt s n).comps := by
  have hreqs : abortReqs s n 5 = putCtx s n { ctxAt s n with loadPending := none, mbs := [] } := by
    rw [abortReqs_eq, hload]
    simp [reqsEnded, endReqs, hmbs]
  unfold workEnded abortReloads
  rw [hreqs, ctxAt_putCtx]
  simp [hdue, hstaged]

end Sys2Proof.Machine

/-! PROOFS. Layouts loaded, installed and unloaded (O45). -/

namespace Sys2Proof.Machine

theorem exec_loadLayout (n : Nat) (s : State) : exec (.loadLayout n) s = execLoadLayout n s := rfl

theorem exec_unloadLayout (n : Nat) (s : State) : exec (.unloadLayout n) s = execUnloadLayout n s := rfl

/-! ### A command of a host ring starts and ends (R327 to R329) -/

theorem startCmd_st (s : State) (n : Nat) (h : HCmd) : (ctxAt (startCmd s n h) n).st = (ctxAt s n).st := by
  rw [startCmd, ctxAt_putCtx]

theorem startCmd_comps (s : State) (n : Nat) (h : HCmd) : (ctxAt (startCmd s n h) n).comps = (ctxAt s n).comps := by
  rw [startCmd, ctxAt_putCtx]

theorem startCmd_layout (s : State) (n : Nat) (h : HCmd) : (ctxAt (startCmd s n h) n).layout = (ctxAt s n).layout := by
  rw [startCmd, ctxAt_putCtx]

theorem failWith_active {s : State} {n : Nat} (tag ring status : Nat) (q : Bool) (hst : (ctxAt s n).st = .active) :
    ∃ k : Comp, ctxAt (failWith s n tag ring status q) n = { ctxAt s n with comps := (ctxAt s n).comps ++ [k] } ∧
      k.tag = tag ∧ k.ring = ring ∧ k.status = status ∧ k.noIrq = q :=
  ⟨_, ctxAt_complete_active (s := (takeFree s).2) _ hst, rfl, rfl, rfl, rfl⟩

section
variable {s : State} {n : Nat} (h : HCmd) (hst : (ctxAt s n).st = .active)
include hst

theorem ctxAt_endCmd (status r0 r1 : Nat) : ctxAt (endCmd s n h status r0 r1) n = { ctxAt (startCmd s n h) n with
    comps := (ctxAt s n).comps ++ [comp (cmdTag h) h.ring status r0 r1 (cmdNoIrq h)] } := by
  rw [endCmd, ctxAt_complete_active _ ((startCmd_st s n h).trans hst), startCmd_comps]

theorem endCmd_answered (status r0 r1 : Nat) : Answered s (endCmd s n h status r0 r1) n h status r0 r1 := by
  rw [Answered, ctxAt_endCmd h hst]

theorem endCmd_layout (status r0 r1 : Nat) : (ctxAt (endCmd s n h status r0 r1) n).layout = (ctxAt s n).layout := by
  rw [ctxAt_endCmd h hst, startCmd_layout]

theorem failCmd_ended (status : Nat) : Ended s (failCmd s n h status) n h status ∧
    (ctxAt (failCmd s n h status) n).layout = (ctxAt s n).layout := by
  obtain ⟨k, hctx, hk⟩ := failWith_active (cmdTag h) h.ring status (cmdNoIrq h) ((startCmd_st s n h).trans hst)
  rw [Ended, failCmd, hctx]
  exact ⟨⟨k, by rw [startCmd_comps], hk⟩, startCmd_layout s n h⟩

end

section
variable {s : State} {n opc : Nat} {h : HCmd} (ht : TakesCmd s n opc h)
include ht

/-- What a command of a host ring answers where the context takes it. -/
theorem hostCmd_next (f : State → HCmd → State) : hostCmd n opc f s = .next (f s h) := by
  obtain ⟨hn, -, hcmd⟩ := ht
  rw [hostCmd, runUnit_next _ s hn, hcmd]

end

/-! ### A drain that a command starts (R207) -/

theorem startDrain_ctxs (s : State) (n : Nat) (bs : List Nat) (why : DrainFor) (tag ring : Nat) (q : Bool) :
    (startDrain s n bs why tag ring q).ctxs = s.ctxs :=
  (congrArg State.ctxs (stopAfter_uncored s (coresIn s bs) (some (cutOf s (coresIn s bs)))) :)

theorem startDrain_appends (s : State) (n : Nat) (bs : List Nat) (why : DrainFor) (tag ring : Nat) (q : Bool) :
    (startDrain s n bs why tag ring q).mesh.drains = s.mesh.drains ++ [drainBegun s n bs why tag ring q] :=
  congrArg (fun m : Mesh => m.drains ++ [drainBegun s n bs why tag ring q])
    (congrArg State.mesh (stopAfter_uncored s (coresIn s bs) (some (cutOf s (coresIn s bs)))) :)

/-- A drain of the whole grant that begins for a command. -/
def cmdDrain (s : State) (n : Nat) (h : HCmd) (why : DrainFor) : State :=
  startDrain (startCmd s n h) n (grantOf s n) why (cmdTag h) h.ring (cmdNoIrq h)

/-- What the drain for a command leaves: it is on the list, and nothing has ended. -/
theorem cmdDrain_begun (s : State) (n : Nat) (h : HCmd) (why : DrainFor) :
    ∃ d, (cmdDrain s n h why).mesh.drains = s.mesh.drains ++ [d] ∧ d.ctx = n ∧ d.why = why ∧ d.basins = grantOf s n ∧
      d.tag = cmdTag h ∧ (ctxAt (cmdDrain s n h why) n).comps = (ctxAt s n).comps ∧
      (ctxAt (cmdDrain s n h why) n).layout = (ctxAt s n).layout := by
  have hctx : ctxAt (cmdDrain s n h why) n = ctxAt (startCmd s n h) n := by rw [ctxAt, cmdDrain, startDrain_ctxs, ctxAt]
  exact ⟨drainBegun (startCmd s n h) n (grantOf s n) why (cmdTag h) h.ring (cmdNoIrq h),
    startDrain_appends (startCmd s n h) n _ why _ _ _, rfl, rfl, rfl, rfl, by rw [hctx, startCmd_comps],
    by rw [hctx, startCmd_layout]⟩

/-! ### What a load and an unload do (R188, R189, R207, R216, R331) -/

theorem loadCheck_startCmd (s : State) (n : Nat) (h : HCmd) (m : List Byte) : loadCheck (startCmd s n h) n m = loadCheck s n m := by
  have hfields (l : Layout) : fieldsBad (startCmd s n h) n m l = fieldsBad s n m l := by
    unfold fieldsBad
    rw [startCmd, ctxAt_putCtx]
    rfl
  have hwpkg (l : Layout) : wpkgBad (startCmd s n h) n l = wpkgBad s n l := by
    unfold wpkgBad
    rw [startCmd, ctxAt_putCtx]
  unfold loadCheck
  simp only [hfields, hwpkg]
  rfl

section
variable {s : State} {n : Nat} {h : HCmd}

theorem loadNow_busy (hbusy : ctxBusy s n = true) : loadNow s n h = s := if_pos hbusy

section
variable (hfree : ctxBusy s n = false)
include hfree

theorem loadNow_noImage (himage : (ctxAt s n).image = none) : loadNow s n h = failCmd s n h 0x0101 := by
  simp [loadNow, hfree, himage]

variable {g : Staging} (himage : (ctxAt s n).image = some g)
include himage

theorem loadNow_unlaid (hlayout : (ctxAt s n).layout = none) :
    loadNow s n h = finishLoad (startCmd s n h) n (cmdTag h) h.ring (cmdNoIrq h) := by
  simp [loadNow, hfree, himage, hlayout]

variable {l : Layout} (hlayout : (ctxAt s n).layout = some l)
include hlayout

theorem loadNow_refused (hother : l.imageDigest ≠ sha256 g.image) (hcheck : loadCheck s n g.image ≠ 0) :
    loadNow s n h = failCmd s n h (0x0100 + loadCheck s n g.image) := by
  simp [loadNow, hfree, himage, hlayout, hother, hcheck]

variable (hneeds : needsDrain l = true)
include hneeds

theorem loadNow_running (hsame : l.imageDigest = sha256 g.image) : loadNow s n h = endCmd s n h 0 0 0 := by
  simp [loadNow, hfree, himage, hlayout, hneeds, hsame]

theorem loadNow_drains (hother : l.imageDigest ≠ sha256 g.image) (hcheck : loadCheck s n g.image = 0) :
    loadNow s n h = cmdDrain s n h .load := by
  simp [loadNow, hfree, himage, hlayout, hneeds, hother, hcheck, cmdDrain]

end

/-- A load check that fails ends a load that found no layout running. -/
theorem finishLoad_refused {g : Staging} (himage : (ctxAt s n).image = some g) (hlayout : (ctxAt s n).layout = none)
    (hst : (ctxAt s n).st = .active) (hcheck : loadCheck s n g.image ≠ 0) (tag ring : Nat) (q : Bool) :
    finishLoad s n tag ring q = failWith s n tag ring (0x0100 + loadCheck s n g.image) q := by
  obtain ⟨c, hc⟩ := Nat.exists_eq_succ_of_ne_zero hcheck
  have hunlaid (status : Nat) : (ctxAt (failWith s n tag ring status q) n).layout = none := by
    obtain ⟨k, hctx, -⟩ := failWith_active tag ring status q hst
    rw [hctx]
    exact hlayout
  simp [finishLoad, himage, hc, hunlaid, Nat.add_assoc]

theorem finishLoad_installs {g : Staging} {place : List (Nat × Nat)} (himage : (ctxAt s n).image = some g)
    (hcheck : loadCheck s n g.image = 0) (hplace : placeAll s n (readLayout g.image) = some place) (tag ring : Nat) (q : Bool) :
    finishLoad s n tag ring q = installLayout s n g.image place tag ring q := by
  simp [finishLoad, himage, hcheck, hplace]

theorem unloadNow_unlaid (hlayout : (ctxAt s n).layout = none) : unloadNow s n h = failCmd s n h 4 := by
  simp [unloadNow, hlayout]

theorem unloadNow_busy {l : Layout} (hlayout : (ctxAt s n).layout = some l) (hbusy : ctxBusy s n = true) : unloadNow s n h = s := by
  simp [unloadNow, hlayout, hbusy]

theorem unloadNow_drains {l : Layout} (hlayout : (ctxAt s n).layout = some l) (hfree : ctxBusy s n = false)
    (hneeds : needsDrain l = true) : unloadNow s n h = cmdDrain s n h .unload := by
  simp [unloadNow, hlayout, hfree, hneeds, cmdDrain]

end

theorem startCmd_image (s : State) (n : Nat) (h : HCmd) : (ctxAt (startCmd s n h) n).image = (ctxAt s n).image := by
  rw [startCmd, ctxAt_putCtx]

/-- The claim on loads and unloads. -/
theorem loading : Claims.Loading := by
  intro s n opc h ht x drains
  have hst : (ctxAt s n).st = .active := ht.2.1
  have hload : opc = 3 → exec (.loadLayout n) s = .next (loadNow s n h) := by
    rintro rfl
    rw [exec_loadLayout, execLoadLayout]
    exact hostCmd_next ht fun s h => loadNow s n h
  have hunload : opc = 4 → exec (.unloadLayout n) s = .next (unloadNow s n h) := by
    rintro rfl
    rw [exec_unloadLayout, execUnloadLayout]
    exact hostCmd_next ht fun s h => unloadNow s n h
  refine ⟨fun hopc hbusy => ?_, fun hopc hfree himage => ?_, fun g l hopc hfree himage hlayout hneeds => ⟨?_, ?_, ?_⟩,
    fun g hopc hfree himage hlayout hcheck => ?_, fun hopc hlayout => ?_, fun l hopc hlayout hbusy => ?_,
    fun l hopc hlayout hfree hneeds => ?_⟩
  · rw [hload hopc, loadNow_busy hbusy]
  · exact ⟨_, by rw [hload hopc, loadNow_noImage hfree himage], (failCmd_ended h hst _).1⟩
  · exact fun hsame => ⟨_, by rw [hload hopc, loadNow_running hfree himage hlayout hneeds hsame], endCmd_answered h hst 0 0 0,
      (endCmd_layout h hst 0 0 0).trans hlayout, rfl⟩
  · intro hother hcheck
    obtain ⟨hended, hkept⟩ := failCmd_ended h hst (0x0100 + loadCheck s n g.image)
    exact ⟨_, by rw [hload hopc, loadNow_refused hfree himage hlayout hother hcheck], hended, hkept.trans hlayout, rfl⟩
  · exact fun hother hcheck => ⟨_, by rw [hload hopc, loadNow_drains hfree himage hlayout hneeds hother hcheck],
      cmdDrain_begun s n h .load⟩
  · obtain ⟨hended, hkept⟩ := failCmd_ended h hst (0x0100 + loadCheck s n g.image)
    refine ⟨failCmd s n h (0x0100 + loadCheck s n g.image), ?_, hended, hkept.trans hlayout, rfl⟩
    rw [hload hopc, loadNow_unlaid hfree himage hlayout, finishLoad_refused ((startCmd_image s n h).trans himage)
      ((startCmd_layout s n h).trans hlayout) ((startCmd_st s n h).trans hst) (by rwa [loadCheck_startCmd]), loadCheck_startCmd,
      failCmd]
  · exact ⟨_, by rw [hunload hopc, unloadNow_unlaid hlayout], (failCmd_ended h hst 4).1⟩
  · rw [hunload hopc, unloadNow_busy hlayout hbusy]
  · exact ⟨_, by rw [hunload hopc, unloadNow_drains hlayout hfree hneeds], cmdDrain_begun s n h .unload⟩

/-! ### A layout installed (R187, R189, R209, R304, R308, R313) -/

theorem placeAll_startCmd (s : State) (n : Nat) (h : HCmd) (l : Layout) : placeAll (startCmd s n h) n l = placeAll s n l := rfl

/-- A context with the replacement flag of its layout taken off. -/
def unflag (x : Ctx) : Ctx := { x with layout := x.layout.map (fun l => { l with replace := false }) }

/-- A context but for its message records and the replacement flag of its layout. -/
def unflagged (x : Ctx) : Ctx := unflag (unposted x)

theorem unflagged_of_unposted {x y : Ctx} (h : unposted x = unposted y) : unflagged x = unflagged y := congrArg unflag h

theorem evalReplace_unflagged (s : State) (m n : Nat) : unflagged (ctxAt (evalReplace s m) n) = unflagged (ctxAt s n) := by
  unfold evalReplace
  split
  · rfl
  next l hl =>
    dsimp only
    split
    · rfl
    · split
      · refine (unflagged_of_unposted (postMsg_unposted _ n m _)).trans ?_
        by_cases hnm : n = m
        · subst hnm
          rw [ctxAt_putCtx]
          simp [unflagged, unflag, unposted, hl]
        · rw [ctxAt_putCtx_ne _ _ hnm]
      · rfl

theorem evalReplaceAll_unflagged (s : State) (n : Nat) : unflagged (ctxAt (evalReplaceAll s) n) = unflagged (ctxAt s n) :=
  forEach_keeps (fun s => unflagged (ctxAt s n)) (fun s m _ => evalReplace_unflagged s m n) s

theorem evalReplaceAll_grounded (s : State) : Grounded s (evalReplaceAll s) := .of_unrecorded (evalReplaceAll_unrecorded s)

theorem tellParts_grounded (s : State) (n : Nat) : Grounded s (tellParts s n) := by
  have h := tellParts_unsent s n
  exact .of_basins (congrArg State.basins h :) (congrArg State.hbms h :) (congrArg State.rst h :) (congrArg State.sup h :)

/-- Basins whose schedules begin with their first section. -/
def sectionsBegun (s : State) (bs : List Nat) : State :=
  forEach bs (fun s b => putBasin s b { basinAt s b with sectIdx := 0, sectFrom := 0 }) s

/-- The basins of a context as a load finds them: nothing is placed on them, and each begins its schedule. -/
def basinsFreed (s : State) (n : Nat) : State := sectionsBegun (emptied s n (grantOf s n)) (grantOf s n)

/-- A context that begins a layout, its generations advanced. -/
def layoutBegun (s : State) (n : Nat) (l : Layout) (tag ring : Nat) (q : Bool) : State :=
  let s2 := advanceGens (basinsFreed s n) n (grantOf s n)
  putCtx s2 n (ctxForLayout (ctxAt s2 n) l tag ring q)

/-- The stations, channels and sync objects of a layout set up by a placement. -/
def stationsSet (s : State) (n : Nat) (bs : List Nat) (l : Layout) (place : List (Nat × Nat)) : State :=
  let s4 := forEach place (fun s p => writePlaces s p.1 (some p.2)) s
  let s5 := forEach (residentOn s4 l place) (fun s r => setStation s n r.1 r.2.1 l r.2.2 0 false) (reserveCores s4 n l place)
  defineObjs (resetChannels s5 n bs) n bs

theorem installLayout_eq (s : State) (n : Nat) (m : List Byte) (place : List (Nat × Nat)) (tag ring : Nat) (q : Bool) :
    installLayout s n m place tag ring q =
      let l := translate (grantOf s n) (readLayout m)
      tellParts (evalReplaceAll (stationsSet (layoutBegun s n l tag ring q) n (grantOf s n) l place)) n := rfl

theorem emptied_setUp (s : State) (n : Nat) (bs : List Nat) : SetUp (workEnded s n) (emptied s n bs) :=
  (vacateCtx_setUp _ n).trans (clearPlaces_setUp _ bs)

theorem sectionsBegun_setUp (s : State) (bs : List Nat) : SetUp s (sectionsBegun s bs) := by
  refine forEach_setUp (fun s b => ?_) s
  exact putBasin_setUp rfl rfl id

theorem basinsFreed_setUp (s : State) (n : Nat) : SetUp (workEnded s n) (basinsFreed s n) :=
  (emptied_setUp s n (grantOf s n)).trans (sectionsBegun_setUp _ (grantOf s n))

theorem stationsSet_setUp (s : State) (n : Nat) (bs : List Nat) (l : Layout) (place : List (Nat × Nat)) :
    SetUp s (stationsSet s n bs l place) := by
  have hplaces := forEach_setUp (f := fun s p => writePlaces s p.1 (some p.2)) (l := place)
    (fun s p => writePlaces_setUp s p.1 (some p.2)) s
  refine ((hplaces.trans (reserveCores_setUp _ n l place)).trans (forEach_setUp (fun s r => ?_) _)).trans
    ((resetChannels_setUp _ n bs).trans (defineObjs_setUp _ n bs))
  exact setStation_setUp s n r.1 r.2.1 l r.2.2 0 false

/-- The generation of a granted basin has advanced once when the layout's stations are set up. -/
theorem layoutBegun_gen (s : State) (n : Nat) (l : Layout) (tag ring : Nat) (q : Bool) {b : Nat} (hb : b ∈ grantOf s n) :
    (basinAt (layoutBegun s n l tag ring q) b).gen = ((basinAt s b).gen + 1) % 16 := by
  have hfreed : (basinAt (basinsFreed s n) b).gen = (basinAt s b).gen :=
    ((basinsFreed_setUp s n).gen b).trans ((workEnded_grounded s n).gen b)
  rw [layoutBegun, basinAt_putCtx, basinAt_advanceGens _ n (grantOf_nodup s n) hb, hfreed]

/-- A load of which no earlier request is outstanding ends no command before its layout begins. -/
theorem ctxAt_layoutBegun {s : State} {n : Nat} (l : Layout) (tag ring : Nat) (q : Bool) (hmbs : (ctxAt s n).mbs = [])
    (hload : (ctxAt s n).loadPending = none) (hdue : (ctxAt s n).due = []) (hstaged : (ctxAt s n).staged = []) :
    ∃ x : Ctx, ctxAt (layoutBegun s n l tag ring q) n = ctxForLayout x l tag ring q ∧ x.comps = (ctxAt s n).comps := by
  refine ⟨ctxAt (advanceGens (basinsFreed s n) n (grantOf s n)) n, ctxAt_putCtx _ n _, ?_⟩
  have hadvanced := congrArg Ctx.comps (advanceGens_unposted (basinsFreed s n) n (grantOf s n) n)
  exact hadvanced.trans (((basinsFreed_setUp s n).comps n).trans (workEnded_idle hmbs hload hdue hstaged))

/-- What a context holds at the start of a layout, its message records and the replacement flag apart. -/
theorem layout_started {x y : Ctx} {l : Layout} {tag ring : Nat} {q : Bool}
    (h : unflagged y = unflagged (ctxForLayout x l tag ring q)) :
    y.layout.map (fun l => { l with replace := false }) = some { l with replace := false } ∧ y.nextMb = 0 ∧ y.stepNum = 0 ∧
      y.mbNum = 0 ∧ y.inStep = 0 ∧ y.advanced = 0 ∧ y.heldCnt = 0 ∧ y.ignored = 0 ∧ y.miss = 0 ∧ y.stepWait = 0 ∧
      y.forced = true ∧ y.comps = x.comps ∧ y.loadPending = some (tag, ring, q) :=
  ⟨(congrArg Ctx.layout h :), (congrArg Ctx.nextMb h :), (congrArg Ctx.stepNum h :), (congrArg Ctx.mbNum h :),
    (congrArg Ctx.inStep h :), (congrArg Ctx.advanced h :), (congrArg Ctx.heldCnt h :), (congrArg Ctx.ignored h :),
    (congrArg Ctx.miss h :), (congrArg Ctx.stepWait h :), (congrArg Ctx.forced h :), (congrArg Ctx.comps h :),
    (congrArg Ctx.loadPending h :)⟩

/-- What an installation leaves: the context at the start of the layout, and the generations advanced. -/
theorem installLayout_started {s : State} {n : Nat} (m : List Byte) (place : List (Nat × Nat)) (tag ring : Nat) (q : Bool)
    (hmbs : (ctxAt s n).mbs = []) (hload : (ctxAt s n).loadPending = none) (hdue : (ctxAt s n).due = [])
    (hstaged : (ctxAt s n).staged = []) :
    (∃ x : Ctx, x.comps = (ctxAt s n).comps ∧ unflagged (ctxAt (installLayout s n m place tag ring q) n) =
      unflagged (ctxForLayout x (translate (grantOf s n) (readLayout m)) tag ring q)) ∧
    ∀ b ∈ grantOf s n, (basinAt (installLayout s n m place tag ring q) b).gen = ((basinAt s b).gen + 1) % 16 := by
  rw [installLayout_eq]
  dsimp only
  generalize translate (grantOf s n) (readLayout m) = l
  obtain ⟨x, hx, hcomps⟩ := ctxAt_layoutBegun l tag ring q hmbs hload hdue hstaged
  have hset := stationsSet_setUp (layoutBegun s n l tag ring q) n (grantOf s n) l place
  refine ⟨⟨x, hcomps, ?_⟩, fun b hb => ?_⟩
  · rw [ctxAt_tellParts, evalReplaceAll_unflagged, unflagged_of_unposted (hset.ctx n), hx]
  · rw [((evalReplaceAll_grounded _).trans (tellParts_grounded _ n)).gen b, hset.gen b, layoutBegun_gen s n l tag ring q hb]

/-- The claim on a layout that is installed. -/
theorem layoutInstalled : Claims.LayoutInstalled := by
  intro s n h g place ht x hfree himage hlayout hmbs hload hdue hstaged hcheck hplace
  have hstart : ctxAt (startCmd s n h) n = { ctxAt s n with cmds := (ctxAt (startCmd s n h) n).cmds } := by
    rw [startCmd, ctxAt_putCtx]
  have hfound : (ctxAt (startCmd s n h) n).image = some g := by rw [hstart]; exact himage
  obtain ⟨⟨z, hcomps, hctx⟩, hgen⟩ := installLayout_started (s := startCmd s n h) (n := n) g.image place (cmdTag h) h.ring
    (cmdNoIrq h) (by rw [hstart]; exact hmbs) (by rw [hstart]; exact hload) (by rw [hstart]; exact hdue)
    (by rw [hstart]; exact hstaged)
  refine ⟨installLayout (startCmd s n h) n g.image place (cmdTag h) h.ring (cmdNoIrq h), ?_, ?_⟩
  · rw [exec_loadLayout, execLoadLayout, hostCmd_next ht, loadNow_unlaid hfree himage hlayout,
      finishLoad_installs hfound (by rw [loadCheck_startCmd]; exact hcheck) (by rw [placeAll_startCmd]; exact hplace)]
  · obtain ⟨hlay, hnext, hstep, hmb, hin, hadv, hheld, hign, hmiss, hwait, hforced, hkept, hpending⟩ := layout_started hctx
    exact ⟨hlay, hnext, hstep, hmb, hin, hadv, hheld, hign, hmiss, hwait, hforced,
      hkept.trans (hcomps.trans (startCmd_comps s n h)), hpending, hgen⟩

/-- Settles O45: loads and unloads with what they wait for and what they answer, and the layout that a load installs. -/
theorem layoutsLoaded : Obligations.LayoutsLoaded := ⟨loading, layoutInstalled⟩

end Sys2Proof.Machine

/-! PROOFS. The end of a basin reset: layouts that are held and layouts that restart (O52, step 6 of R421 and R422). -/

namespace Sys2Proof.Machine

theorem exec_basinReady (s : State) : exec .basinReady s = execBasinReady s := rfl

/-! ### The reset ends and the next one begins (R421, R427, R433) -/

/-- What holds once a reset is over: the next one is in hand, its set is out of reset, and its dumps may be delivered. -/
def ResetOver (s t : State) (r : Reset) : Prop :=
  t.rst.cur = s.rst.next.head? ∧ t.rst.next = s.rst.next.tail ∧ (∀ b ∈ r.set, (basinAt t b).resetting = false) ∧
    ∀ d ∈ t.rst.dumps, d.no = r.dumpNo → d.ready = true

/-- The dumps of a reset made ready, and the next reset taken up. -/
def resetClosed (s : State) (r : Reset) (outcome m : Nat) (ids : List Nat) : State := nextReset (readyDumps s r outcome m ids)

/-- A state but for its resets. -/
def unreset (s : State) : State := { s with rst := {} }

theorem nextReset_unreset (s : State) : unreset (nextReset s) = unreset s := by
  unfold nextReset
  split <;> rfl

theorem nextReset_rst (s : State) :
    (nextReset s).rst = { s.rst with cur := s.rst.next.head?, next := s.rst.next.tail } := by
  unfold nextReset
  split
  next h => rw [h]; exact congrArg (fun l => { s.rst with cur := none, next := l }) h
  next h => rw [h]; rfl

section
variable (s : State) (r : Reset) (outcome m : Nat) (ids : List Nat)

theorem resetClosed_unreset : unreset (resetClosed s r outcome m ids) = unreset s := nextReset_unreset _
theorem resetClosed_cores : (resetClosed s r outcome m ids).cores = s.cores :=
  (congrArg State.cores (resetClosed_unreset s r outcome m ids) :)
theorem resetClosed_hbms : (resetClosed s r outcome m ids).hbms = s.hbms :=
  (congrArg State.hbms (resetClosed_unreset s r outcome m ids) :)
theorem ctxAt_resetClosed (n : Nat) : ctxAt (resetClosed s r outcome m ids) n = ctxAt s n :=
  (congrArg (ctxAt · n) (resetClosed_unreset s r outcome m ids) :)
theorem basinAt_resetClosed (b : Nat) : basinAt (resetClosed s r outcome m ids) b = basinAt s b :=
  (congrArg (basinAt · b) (resetClosed_unreset s r outcome m ids) :)

/-- Every dump of the reset is ready. -/
theorem readyDumps_ready : ∀ d ∈ (readyDumps s r outcome m ids).rst.dumps, d.no = r.dumpNo → d.ready = true := by
  intro d hd hno
  obtain ⟨e, -, rfl⟩ := List.mem_map.1 hd
  split at hno
  next h => rw [if_pos h]
  next h =>
    rw [if_neg h]
    simpa [hno] using h

end

theorem resetClosed_over {s u : State} {r : Reset} (outcome m : Nat) (ids : List Nat) (hrst : u.rst = s.rst)
    (hfreed : ∀ b ∈ r.set, (basinAt u b).resetting = false) : ResetOver s (resetClosed u r outcome m ids) r := by
  have hclosed : (resetClosed u r outcome m ids).rst =
      { (readyDumps u r outcome m ids).rst with cur := u.rst.next.head?, next := u.rst.next.tail } := nextReset_rst _
  refine ⟨?_, ?_, fun b hb => ?_, ?_⟩
  · rw [hclosed, ← hrst]
  · rw [hclosed, ← hrst]
  · rw [basinAt_resetClosed]
    exact hfreed b hb
  · rw [hclosed]
    exact readyDumps_ready u r outcome m ids

/-! ### BASIN_RESET is raised (R421, R432) -/

/-- A basin that leaves its reset. -/
def leaveReset (s : State) (b : Nat) : State := putBasin s b { basinAt s b with resetting := false }

/-- The state in which the set of a reset is out of reset and BASIN_RESET is raised. -/
def resetTold (s : State) (r : Reset) : State :=
  ctxEvent (forEach r.set leaveReset s) r.ctx evBasinReset (maskOf r.set) r.dumpNo (maskOf r.set) r.trigger

theorem leaveReset_setUp (s : State) (b : Nat) : SetUp s (leaveReset s b) := putBasin_setUp rfl rfl fun _ => rfl

theorem resetTold_setUp (s : State) (r : Reset) : SetUp s (resetTold s r) :=
  (forEach_setUp leaveReset_setUp s).trans (ctxEvent_setUp _ _ _ _ _ _ _)

theorem resetTold_cores (s : State) (r : Reset) : (resetTold s r).cores = s.cores :=
  forEach_keeps (f := leaveReset) State.cores (fun _ _ _ => rfl) s

theorem resetTold_freed (s : State) (r : Reset) : ∀ b ∈ r.set, (basinAt (resetTold s r) b).resetting = false :=
  forEach_all (Q := fun b s => (basinAt s b).resetting = false) (fun s b _ => by rw [leaveReset, basinAt_putBasin])
    (fun s b c _ hb => (leaveReset_setUp s c).freed b hb) s

/-- The state in which, besides, the requests of the context have ended with ABORTED (R422). -/
def resetAborted (s : State) (r : Reset) : State := workEnded (resetTold s r) r.ctx

section
variable (s : State) (r : Reset)

theorem resetAborted_grounded : Grounded s (resetAborted s r) :=
  (resetTold_setUp s r).toGrounded.trans (workEnded_grounded _ _)

theorem resetAborted_freed : ∀ b ∈ r.set, (basinAt (resetAborted s r) b).resetting = false := fun b hb =>
  (workEnded_grounded _ _).freed b (resetTold_freed s r b hb)

theorem resetAborted_cores : (resetAborted s r).cores = s.cores :=
  (cores_of_unrecorded (workEnded_unrecorded _ _)).trans (resetTold_cores s r)

theorem resetAborted_layout : (ctxAt (resetAborted s r) r.ctx).layout = (ctxAt s r.ctx).layout :=
  (congrArg Ctx.layout (workEnded_unasked (resetTold s r) r.ctx r.ctx) :).trans ((resetTold_setUp s r).layout r.ctx)

theorem resetAborted_nextMb : (ctxAt (resetAborted s r) r.ctx).nextMb = (ctxAt s r.ctx).nextMb :=
  (congrArg Ctx.nextMb (workEnded_unasked (resetTold s r) r.ctx r.ctx) :).trans ((resetTold_setUp s r).nextMb r.ctx)

theorem resetAborted_restarts : (ctxAt (resetAborted s r) r.ctx).restarts = (ctxAt s r.ctx).restarts :=
  (congrArg Ctx.restarts (workEnded_unasked (resetTold s r) r.ctx r.ctx) :).trans ((resetTold_setUp s r).restarts r.ctx)

theorem resetAborted_complete : ∀ m ∈ (ctxAt (resetAborted s r) r.ctx).mbs, m.complete = true := workEnded_complete _ _

end

/-! ### Held or restarted (R422) -/

theorem recentRestarts_congr {s t : State} {x y : Ctx} (hsup : t.sup = s.sup) (h : y.restarts = x.restarts) :
    recentRestarts t y = recentRestarts s x := by
  rw [recentRestarts, recentRestarts, hsup, h]

theorem holdCause_congr {s t : State} {n : Nat} (h : Grounded s t) (hrestarts : (ctxAt t n).restarts = (ctxAt s n).restarts)
    (l : Layout) : holdCause t n l = holdCause s n l := by
  have hhbm (b : Nat) : hbmAt t b = hbmAt s b := by rw [hbmAt, h.hbms, hbmAt]
  simp only [holdCause, h.grantOf_eq, hhbm, recentRestarts_congr h.sup hrestarts]

theorem holdCause_resetAborted (s : State) (r : Reset) (l : Layout) :
    holdCause (resetAborted s r) r.ctx l = holdCause s r.ctx l :=
  holdCause_congr (resetAborted_grounded s r) (resetAborted_restarts s r) l

/-- A layout as it is held. -/
def heldLayout (l : Layout) : Layout := { l with held := true, running := false }

theorem holdLayout_unrecorded (s : State) (n cause : Nat) (aborted : List Nat) :
    unrecorded (holdLayout s n cause aborted) = unrecorded s := by
  unfold holdLayout
  dsimp only
  split <;> rfl

theorem holdLayout_unposted (s : State) (n cause : Nat) (aborted : List Nat) :
    unposted (ctxAt (holdLayout s n cause aborted) n) =
      unposted { ctxAt s n with layout := (ctxAt s n).layout.map heldLayout } := by
  have hput (u : State) (code basins a0 a1 a2 : Nat)
      (hu : ctxAt u n = { ctxAt s n with layout := (ctxAt s n).layout.map heldLayout }) :
      unposted (ctxAt (ctxEvent u n code basins a0 a1 a2) n) =
        unposted { ctxAt s n with layout := (ctxAt s n).layout.map heldLayout } :=
    ((ctxEvent_setUp u n code basins a0 a1 a2).ctx n).trans (congrArg unposted hu)
  unfold holdLayout
  dsimp only
  split <;> exact hput _ _ _ _ _ _ (ctxAt_putCtx _ n _)

/-- The admitted microbatches that a reset cuts off (R422). -/
def mbsCut (s : State) (r : Reset) : List Mb := (ctxAt (resetTold s r) r.ctx).mbs.filter (fun m => m.admitted && !m.complete)

/-- The sessions with a request in one of them (R427). -/
def sessionsCut (s : State) (r : Reset) : List Nat := sortNat ((mbsCut s r).flatMap (fun m => m.reqs.map (·.session)))

section
variable {s : State} {r : Reset}

theorem finishReset_unlaid (hlayout : (ctxAt s r.ctx).layout = none) :
    finishReset s r = resetClosed (resetTold s r) r 2 (ctxAt (resetTold s r) r.ctx).nextMb [] := by
  have hnone : (ctxAt (resetTold s r) r.ctx).layout = none := ((resetTold_setUp s r).layout r.ctx).trans hlayout
  unfold resetTold leaveReset at *
  unfold finishReset
  simp only [hnone]
  rfl

variable {l : Layout} (hlayout : (ctxAt s r.ctx).layout = some l)
include hlayout

theorem finishReset_held {c : Nat} (hcause : holdCause s r.ctx l = some c) : finishReset s r =
    resetClosed (holdLayout (resetAborted s r) r.ctx c ((mbsCut s r).map (·.num))) r 1 (ctxAt (resetTold s r) r.ctx).nextMb
      (sessionsCut s r) := by
  have hsome : (ctxAt (resetTold s r) r.ctx).layout = some l := ((resetTold_setUp s r).layout r.ctx).trans hlayout
  have hheld := (holdCause_resetAborted s r l).trans hcause
  unfold resetAborted workEnded resetTold leaveReset at *
  unfold finishReset
  simp only [hsome, hheld]
  rfl

theorem finishReset_restarts (hcause : holdCause s r.ctx l = none) : ∃ basins a1 a2, finishReset s r =
    resetClosed (ctxEvent (restartLayout (resetAborted s r) r.ctx (ctxAt s r.ctx).nextMb r.set l) r.ctx evLayoutRestarted basins
      (ctxAt s r.ctx).nextMb a1 a2) r 0 (ctxAt s r.ctx).nextMb (sessionsCut s r) := by
  have hsome : (ctxAt (resetTold s r) r.ctx).layout = some l := ((resetTold_setUp s r).layout r.ctx).trans hlayout
  have hfree := (holdCause_resetAborted s r l).trans hcause
  rw [← (resetTold_setUp s r).nextMb r.ctx]
  refine ⟨maskOf (grantOf s r.ctx), (mbsCut s r).length, (ctxAt (restartLayout (resetAborted s r) r.ctx
    (ctxAt (resetTold s r) r.ctx).nextMb r.set l) r.ctx).restarts.length, ?_⟩
  unfold resetAborted workEnded resetTold leaveReset at *
  unfold finishReset
  simp only [hsome, hfree]
  rfl

end

/-! ### A layout restarted (R177, R209, R308, R422) -/

theorem gensAdvanced_hbms (s : State) (bs : List Nat) : (gensAdvanced s bs).hbms = s.hbms :=
  (congrArg State.hbms (gensAdvanced_unbasined s bs) :)

theorem ctxAt_gensAdvanced (s : State) (bs : List Nat) (n : Nat) : ctxAt (gensAdvanced s bs) n = ctxAt s n :=
  (congrArg (ctxAt · n) (gensAdvanced_unbasined s bs) :)

theorem gensAdvanced_rst (s : State) (bs : List Nat) : (gensAdvanced s bs).rst = s.rst :=
  (congrArg State.rst (gensAdvanced_unbasined s bs) :)

theorem gensAdvanced_resetting (s : State) (bs : List Nat) (b : Nat) :
    (basinAt (gensAdvanced s bs) b).resetting = (basinAt s b).resetting := by
  refine forEach_keeps (fun s => (basinAt s b).resetting) (f := nextGen) (fun s a _ => ?_) s
  rw [basinAt_nextGen]
  split <;> rfl

/-- The state in which lost slots have cores again and the basins run from microbatch `m`. -/
def slotsReplaced (s : State) (n m : Nat) (l : Layout) : State :=
  forEach (grantOf s n) (fun s b => putBasin s b { basinAt s b with sectFrom := m }) (forEach (lostSlots s l) (placeLost n) s)

theorem slotsReplaced_setUp (s : State) (n m : Nat) (l : Layout) : SetUp s (slotsReplaced s n m l) := by
  refine (forEach_setUp (placeLost_setUp n) s).trans (forEach_setUp (fun s b => ?_) _)
  exact putBasin_setUp rfl rfl id

/-- A context whose layout restarts as `l`, with the ticks of its restarts. -/
def restartedCtx (x : Ctx) (l : Layout) (ticks : List Nat) : Ctx :=
  { x with layout := some l, forced := true, owed := true, restarts := ticks }

/-- The state in which the context holds the layout that restarts, behind a forced boundary. -/
def restartEntered (s : State) (n m : Nat) (l : Layout) : State :=
  let s1 := slotsReplaced s n m l
  putCtx s1 n (restartedCtx (ctxAt s1 n) l (recentRestarts s (ctxAt s1 n) ++ [s.sup.ticks]))

theorem restartEntered_grounded (s : State) (n m : Nat) (l : Layout) : Grounded s (restartEntered s n m l) :=
  (slotsReplaced_setUp s n m l).toGrounded.trans (.of_basins rfl rfl rfl rfl)

/-- The cores of the slots of a layout that restarts. -/
def placeKept (s : State) (l : Layout) : List (Nat × Nat) :=
  (sortNat (l.stations.map (·.slot))).filterMap (fun t => (coreOfSlot s t).map (fun k => (t, k)))

/-- A station set up again at the first firing of microbatch `m`. -/
def stationRestarted (n m : Nat) (set : List Nat) (l : Layout) (s : State) (e : Nat × Nat × Station) : State :=
  setStation s n e.1 e.2.1 l e.2.2 (m * e.2.2.firePerMb) (!set.contains (basinOf e.1) && (coreAt s e.1).station.isSome)

/-- The stations of a layout set up again. -/
def stationsRestarted (s : State) (n m : Nat) (set : List Nat) (l : Layout) : State :=
  forEach (residentOn s l (placeKept s l)) (stationRestarted n m set l) (reserveCores s n l (placeKept s l))

theorem restartLayout_eq (s : State) (n m : Nat) (set : List Nat) (l : Layout) : restartLayout s n m set l =
    let bs := grantOf s n
    let s3 := resetChannels (gensAdvanced (restartEntered s n m (firedAt l m)) bs) n bs
    defineObjs (resetChannels (stationsRestarted s3 n m set (firedAt l m)) n bs) n bs := rfl

theorem stationsRestarted_setUp (s : State) (n m : Nat) (set : List Nat) (l : Layout) :
    SetUp s (stationsRestarted s n m set l) := by
  refine (reserveCores_setUp s n l (placeKept s l)).trans (forEach_setUp (fun s e => ?_) _)
  exact setStation_setUp s n e.1 e.2.1 l e.2.2 _ _

theorem restartLayout_setUp (s : State) (n m : Nat) (set : List Nat) (l : Layout) :
    SetUp (gensAdvanced (restartEntered s n m (firedAt l m)) (grantOf s n)) (restartLayout s n m set l) := by
  rw [restartLayout_eq]
  exact (resetChannels_setUp _ n (grantOf s n)).trans ((stationsRestarted_setUp _ n m set (firedAt l m)).trans
    ((resetChannels_setUp _ n (grantOf s n)).trans (defineObjs_setUp _ n (grantOf s n))))

/-- The context of a layout that has restarted, its message records apart. -/
theorem restartLayout_unposted (s : State) (n m : Nat) (set : List Nat) (l : Layout) :
    unposted (ctxAt (restartLayout s n m set l) n) =
      unposted (restartedCtx (ctxAt s n) (firedAt l m) (recentRestarts s (ctxAt s n) ++ [s.sup.ticks])) := by
  have hreplaced := slotsReplaced_setUp s n m (firedAt l m)
  rw [(restartLayout_setUp s n m set l).ctx n, ctxAt_gensAdvanced, restartEntered, ctxAt_putCtx,
    recentRestarts_congr rfl (hreplaced.restarts n)]
  exact congrArg (restartedCtx · (firedAt l m) (recentRestarts s (ctxAt s n) ++ [s.sup.ticks])) (hreplaced.ctx n)

theorem restartLayout_gen (s : State) (n m : Nat) (set : List Nat) (l : Layout) (b : Nat) :
    (basinAt (restartLayout s n m set l) b).gen =
      if b ∈ grantOf s n then ((basinAt s b).gen + 1) % 16 else (basinAt s b).gen := by
  have hentered := (restartEntered_grounded s n m (firedAt l m)).gen b
  rw [(restartLayout_setUp s n m set l).gen b, basinAt_gensAdvanced _ (grantOf_nodup s n), ← hentered]
  split <;> rfl

theorem restartLayout_freed (s : State) (n m : Nat) (set : List Nat) (l : Layout) {b : Nat}
    (h : (basinAt s b).resetting = false) : (basinAt (restartLayout s n m set l) b).resetting = false :=
  (restartLayout_setUp s n m set l).freed b
    ((gensAdvanced_resetting _ _ b).trans ((restartEntered_grounded s n m (firedAt l m)).freed b h))

theorem restartLayout_hbms (s : State) (n m : Nat) (set : List Nat) (l : Layout) : (restartLayout s n m set l).hbms = s.hbms :=
  (restartLayout_setUp s n m set l).hbms.trans ((gensAdvanced_hbms _ _).trans (restartEntered_grounded s n m (firedAt l m)).hbms)

theorem restartLayout_rst (s : State) (n m : Nat) (set : List Nat) (l : Layout) : (restartLayout s n m set l).rst = s.rst :=
  (restartLayout_setUp s n m set l).rst.trans ((gensAdvanced_rst _ _).trans (restartEntered_grounded s n m (firedAt l m)).rst)

/-! ### The command (R209, R421, R422) -/

section
variable {s : State} {r : Reset} (hcur : s.rst.cur = some r)
include hcur

theorem basinReady_finishes (hready : r.stage = .ready) (h : r.swept = true ∨ willRestart s r.ctx = false) :
    exec .basinReady s = .next (finishReset s r) := by
  rw [exec_basinReady, execBasinReady, hcur]
  exact congrArg Host.Outcome.next (if_pos ⟨hready, h⟩)

theorem basinReady_waits (hswept : r.swept = false) (h : willRestart s r.ctx = true) : exec .basinReady s = .next s := by
  rw [exec_basinReady, execBasinReady, hcur]
  simp [hswept, h]

end

theorem willRestart_laid {s : State} {n : Nat} {l : Layout} (h : (ctxAt s n).layout = some l) :
    willRestart s n = (holdCause s n l).isNone := by
  simp [willRestart, h]

theorem willRestart_unlaid {s : State} {n : Nat} (h : (ctxAt s n).layout = none) : willRestart s n = false := by
  simp [willRestart, h]

/-- What a context holds with its layout held, its message records apart. -/
theorem held_ctx {x y : Ctx} (h : unposted y = unposted { x with layout := x.layout.map heldLayout }) :
    y.layout = x.layout.map heldLayout ∧ y.mbs = x.mbs ∧ y.nextMb = x.nextMb :=
  ⟨(congrArg Ctx.layout h :), (congrArg Ctx.mbs h :), (congrArg Ctx.nextMb h :)⟩

/-- What a context holds with its layout restarted, its message records apart. -/
theorem restarted_ctx {x y : Ctx} {l : Layout} {ticks : List Nat} (h : unposted y = unposted (restartedCtx x l ticks)) :
    y.layout = some l ∧ y.forced = true ∧ y.nextMb = x.nextMb ∧ y.restarts = ticks ∧ y.mbs = x.mbs :=
  ⟨(congrArg Ctx.layout h :), (congrArg Ctx.forced h :), (congrArg Ctx.nextMb h :), (congrArg Ctx.restarts h :),
    (congrArg Ctx.mbs h :)⟩

section
variable {s : State} {r : Reset}

/-- A reset of a context without a layout only ends. -/
theorem finishReset_over (hlayout : (ctxAt s r.ctx).layout = none) : ResetOver s (finishReset s r) r ∧
    (finishReset s r).cores = s.cores ∧ (finishReset s r).hbms = s.hbms := by
  rw [finishReset_unlaid hlayout, resetClosed_cores, resetClosed_hbms]
  have htold := resetTold_setUp s r
  exact ⟨resetClosed_over 2 _ _ htold.rst (resetTold_freed s r), resetTold_cores s r, htold.hbms⟩

variable {l : Layout} (hlayout : (ctxAt s r.ctx).layout = some l)
include hlayout

/-- What a held layout leaves of its context. -/
theorem resetAborted_held (c : Nat) (aborted : List Nat) :
    (ctxAt (holdLayout (resetAborted s r) r.ctx c aborted) r.ctx).layout = some (heldLayout l) ∧
      (∀ m ∈ (ctxAt (holdLayout (resetAborted s r) r.ctx c aborted) r.ctx).mbs, m.complete = true) ∧
      (ctxAt (holdLayout (resetAborted s r) r.ctx c aborted) r.ctx).nextMb = (ctxAt s r.ctx).nextMb := by
  obtain ⟨hlay, hmbs, hnext⟩ := held_ctx (holdLayout_unposted (resetAborted s r) r.ctx c aborted)
  refine ⟨?_, ?_, hnext.trans (resetAborted_nextMb s r)⟩
  · rw [hlay, resetAborted_layout, hlayout]
    rfl
  · rw [hmbs]
    exact resetAborted_complete s r

/-- A layout that may not restart is held, with the frame of the claim. -/
theorem finishReset_holds {c : Nat} (hcause : holdCause s r.ctx l = some c) : ResetOver s (finishReset s r) r ∧
    (ctxAt (finishReset s r) r.ctx).layout = some (heldLayout l) ∧
    (∀ m ∈ (ctxAt (finishReset s r) r.ctx).mbs, m.complete = true) ∧
    (ctxAt (finishReset s r) r.ctx).nextMb = (ctxAt s r.ctx).nextMb ∧
    (∀ b, (basinAt (finishReset s r) b).gen = (basinAt s b).gen) ∧ (finishReset s r).cores = s.cores := by
  rw [finishReset_held hlayout hcause, ctxAt_resetClosed, resetClosed_cores]
  generalize (mbsCut s r).map (·.num) = aborted
  have hunrec := holdLayout_unrecorded (resetAborted s r) r.ctx c aborted
  have hground := (resetAborted_grounded s r).trans (.of_unrecorded hunrec)
  obtain ⟨hheld, hmbs, hnext⟩ := resetAborted_held hlayout c aborted
  refine ⟨resetClosed_over 1 _ _ hground.rst fun b hb => ?_, hheld, hmbs, hnext, fun b => ?_, ?_⟩
  · exact (Grounded.of_unrecorded hunrec).freed b (resetAborted_freed s r b hb)
  · rw [basinAt_resetClosed]
    exact hground.gen b
  · exact (cores_of_unrecorded hunrec).trans (resetAborted_cores s r)

/-- A layout that restarts does so at the next microbatch, behind a forced boundary and under new generations. -/
theorem finishReset_restarted (hcause : holdCause s r.ctx l = none) : ResetOver s (finishReset s r) r ∧
    unposted (ctxAt (finishReset s r) r.ctx) = unposted (restartedCtx (ctxAt (resetAborted s r) r.ctx)
      (firedAt l (ctxAt s r.ctx).nextMb) (recentRestarts s (ctxAt s r.ctx) ++ [s.sup.ticks])) ∧
    (∀ b, (basinAt (finishReset s r) b).gen =
      if b ∈ grantOf s r.ctx then ((basinAt s b).gen + 1) % 16 else (basinAt s b).gen) ∧ (finishReset s r).hbms = s.hbms := by
  obtain ⟨basins, a1, a2, heq⟩ := finishReset_restarts hlayout hcause
  rw [heq, ctxAt_resetClosed, resetClosed_hbms]
  generalize (ctxAt s r.ctx).nextMb = m
  have hground := resetAborted_grounded s r
  have htold := ctxEvent_setUp (restartLayout (resetAborted s r) r.ctx m r.set l) r.ctx evLayoutRestarted basins m a1 a2
  refine ⟨resetClosed_over 0 _ _ ?_ fun b hb => ?_, ?_, fun b => ?_, ?_⟩
  · rw [htold.rst, restartLayout_rst, hground.rst]
  · exact htold.freed b (restartLayout_freed _ _ _ _ _ (resetAborted_freed s r b hb))
  · rw [htold.ctx, restartLayout_unposted, recentRestarts_congr hground.sup (resetAborted_restarts s r), hground.sup]
  · rw [basinAt_resetClosed, htold.gen, restartLayout_gen, hground.grantOf_eq, hground.gen]
  · rw [htold.hbms, restartLayout_hbms, hground.hbms]

end

/-- The claim on step 6. -/
theorem layoutsRestart : Claims.LayoutsRestart := by
  intro s r hcur hready n x done
  refine ⟨fun hlayout => ?_, fun l c hlayout hcause => ?_, fun l hlayout hcause hswept => ?_, fun l hlayout hcause hswept => ?_⟩
  · exact ⟨_, basinReady_finishes hcur hready (.inr (willRestart_unlaid hlayout)), finishReset_over hlayout⟩
  · refine ⟨_, basinReady_finishes hcur hready (.inr ?_), finishReset_holds hlayout hcause⟩
    rw [willRestart_laid hlayout, hcause]
    rfl
  · refine basinReady_waits hcur hswept ?_
    rw [willRestart_laid hlayout, hcause]
    rfl
  · obtain ⟨hover, hctx, hgen, hhbms⟩ := finishReset_restarted hlayout hcause
    obtain ⟨hlay, hforced, hnext, hrestarts, hmbs⟩ := restarted_ctx hctx
    refine ⟨_, basinReady_finishes hcur hready (.inl hswept), hover, hlay, hforced, hnext.trans (resetAborted_nextMb s r),
      hrestarts, ?_, fun b hb => ?_, fun b _ hb => ?_, hhbms⟩
    · rw [hmbs]
      exact resetAborted_complete s r
    · rw [hgen b, if_pos hb]
    · rw [hgen b, if_neg hb]

end Sys2Proof.Machine

/-! PROOFS. The stop of a basin reset: partial drains, and step 1 (O52, R420 and R421). -/

namespace Sys2Proof.Machine

theorem exec_partialDrainComplete (s : State) : exec .partialDrainComplete s = execPartialDrainComplete s := rfl

theorem exec_basinReset (s : State) : exec .basinReset s = execBasinReset s := rfl

/-! ### What is given up leaves the stacks as they are (R396, R417, R433) -/

theorem takeOver_hbms (s : State) (n slot j f : Nat) : (takeOver s n slot j f).hbms = s.hbms := by
  unfold takeOver
  split
  · rfl
  · split
    · rfl
    · split <;> rfl

theorem openMove_hbms (s : State) (n : Nat) (carry : Bool) (m : Nat × Nat × Nat) : (openMove s n carry m).hbms = s.hbms := by
  unfold openMove
  dsimp only
  split
  · exact takeOver_hbms s n _ _ _
  · rfl

theorem hbms_of_unrecorded {s t : State} (h : unrecorded t = unrecorded s) : t.hbms = s.hbms := (congrArg State.hbms h :)

theorem hbms_of_unretired {s t : State} (h : unretired t = unretired s) : t.hbms = s.hbms := (congrArg State.hbms h :)

theorem stopUnplaceable_hbms (s : State) (n : Nat) : (stopUnplaceable s n).hbms = s.hbms :=
  hbms_of_unrecorded ((abortReloads_unrecorded _ n).trans (abortReqs_unrecorded s n 0x19))

theorem fencePath_hbms (s : State) (p : DiePath) (carry : Bool) : (fencePath s p carry).hbms = s.hbms := by
  unfold fencePath
  extract_lets ms ks short s0 n s1 s2 die s3 mesh s4 cmd s5
  have h0 : s0.hbms = s.hbms := by
    unfold s0
    split
    · rfl
    · exact hbms_of_unrecorded (noticeFor_unrecorded s _ _ _)
  have h2 : s2.hbms = s.hbms :=
    (forEach_keeps State.hbms (fun s m _ => openMove_hbms s n carry m) _).trans
      ((forEach_keeps (f := fenceStation) State.hbms (fun _ _ _ => rfl) _).trans h0)
  have h4 : s4.hbms = s.hbms := by
    unfold s4
    split <;> exact h2
  have h5 : s5.hbms = s.hbms := by
    unfold s5
    split
    · exact (hbms_of_unretired (retireCore_unretired s4 _ _ _)).trans h4
    · exact (hbms_of_unretired (retireDie_unretired s4 _ _ _)).trans h4
  split
  · exact h5
  · split
    · exact (stopUnplaceable_hbms s5 n).trans h5
    · exact h5

theorem dropPath_hbms (s : State) (p : DiePath) : (dropPath s p).hbms = s.hbms := by
  unfold dropPath
  split
  · rfl
  · split
    · rfl
    · exact fencePath_hbms s p false

theorem dropDrains_hbms (s : State) (n : Nat) : (dropDrains s n).hbms = s.hbms := by
  refine forEach_keeps State.hbms (fun s d _ => ?_) s
  unfold abortDrain
  split <;> rfl

theorem abandonCheck_hbms (s : State) (c : Check) : (abandonCheck s c).hbms = s.hbms :=
  (congrArg State.hbms (dropCheck_uncored s c) :)

/-- What was in hand for a context given up: its drains, its die paths, its moves and its checks (R433). -/
def workGivenUp (s : State) (n : Nat) : State :=
  let s1 := (s.heal.paths.filter (fun p => p.ctx == some n)).foldl dropPath (dropDrains s n)
  let s2 := (s1.mesh.moves.filter (fun m => (basinAt s1 (basinOf m.to_)).ctx == some n)).foldl dropMove s1
  forEach (s2.heal.checks.filter (fun c => (basinAt s2 (basinOf c.core)).ctx == some n)) abandonCheck s2

theorem workGivenUp_hbms (s : State) (n : Nat) : (workGivenUp s n).hbms = s.hbms := by
  unfold workGivenUp
  extract_lets s1 s2
  have hpaths : s1.hbms = s.hbms :=
    (forEach_keeps (f := dropPath) State.hbms (fun s p _ => dropPath_hbms s p) _).trans (dropDrains_hbms s n)
  have hmoves : s2.hbms = s.hbms := (forEach_keeps (f := dropMove) State.hbms (fun _ _ _ => rfl) s1).trans hpaths
  exact (forEach_keeps State.hbms (fun s c _ => abandonCheck_hbms s c) s2).trans hmoves

/-- A context of which nothing is in hand gives nothing up. -/
theorem workGivenUp_idle {s : State} (n : Nat) (hpaths : s.heal.paths = []) (hchecks : s.heal.checks = [])
    (hmoves : s.mesh.moves = []) (hdrains : s.mesh.drains = []) : workGivenUp s n = s := by
  have hdropped : dropDrains s n = s := by rw [dropDrains, hdrains, List.filter_nil, forEach_nil]
  simp only [workGivenUp, hdropped, hpaths, hmoves, hchecks, List.filter_nil, List.foldl_nil, forEach_nil]

/-! ### Basins stop (R156, R268, R269, R421) -/

/-- A basin in step 1 of a reset: it and its stack are in reset, and its cores are HELD. -/
structure InReset (b : Nat) (s : State) : Prop where
  basin : (basinAt s b).resetting = true
  stack : (hbmAt s b).resetting = true
  cores : ∀ k ∈ coresOfBasin b, (coreAt s k).held = true

/-- What the stop of basins keeps: units in reset and HELD cores stay so, and no array changes. -/
structure Stopping (s t : State) : Prop where
  basin : ∀ b, (basinAt s b).resetting = true → (basinAt t b).resetting = true
  stack : ∀ b, (hbmAt s b).resetting = true → (hbmAt t b).resetting = true
  held : ∀ k, (coreAt s k).held = true → (coreAt t k).held = true
  mem : ∀ b, (hbmAt t b).mem = (hbmAt s b).mem

theorem Stopping.refl (s : State) : Stopping s s := ⟨fun _ h => h, fun _ h => h, fun _ h => h, fun _ => rfl⟩

theorem Stopping.trans {s t u : State} (h : Stopping s t) (g : Stopping t u) : Stopping s u :=
  ⟨fun b hb => g.basin b (h.basin b hb), fun b hb => g.stack b (h.stack b hb), fun k hk => g.held k (h.held k hk),
    fun b => (g.mem b).trans (h.mem b)⟩

theorem forEach_stopping {α : Type} {l : List α} {f : State → α → State} (h : ∀ s a, Stopping s (f s a)) (s : State) :
    Stopping s (forEach l f s) :=
  forEach_holds (P := Stopping s) (fun t a _ ht => ht.trans (h t a)) (.refl s)

theorem Stopping.inReset {s t : State} (h : Stopping s t) {b : Nat} (hb : InReset b s) : InReset b t :=
  ⟨h.basin b hb.basin, h.stack b hb.stack, fun k hk => h.held k (hb.cores k hk)⟩

theorem Stopping.of_units {s t : State} (hcores : t.cores = s.cores) (hbasins : t.basins = s.basins) (hhbms : t.hbms = s.hbms) :
    Stopping s t where
  basin b h := by rw [basinAt, hbasins]; exact h
  stack b h := by rw [hbmAt, hhbms]; exact h
  held k h := by rw [coreAt, hcores]; exact h
  mem b := by rw [hbmAt, hhbms, hbmAt]

theorem putCore_stopping {s : State} {k : Nat} {c : Core} (h : (coreAt s k).held = true → c.held = true) :
    Stopping s (putCore s k c) where
  basin _ hb := hb
  stack _ hb := hb
  held j hj := by
    by_cases hjk : j = k
    · subst hjk
      rw [coreAt_putCore]
      exact h hj
    · rw [coreAt_putCore_ne s c hjk]
      exact hj
  mem _ := rfl

theorem putBasin_stopping {s : State} {b : Nat} {x : Basin} (h : (basinAt s b).resetting = true → x.resetting = true) :
    Stopping s (putBasin s b x) where
  basin c hc := by
    obtain ⟨rfl, hx⟩ | hx := basinAt_putBasin_cases s b x c <;> rw [hx]
    · exact h hc
    · exact hc
  stack _ hc := hc
  held _ hk := hk
  mem _ := rfl

theorem putHbm_stopping {s : State} {b : Nat} {x : Hbm} (h : (hbmAt s b).resetting = true → x.resetting = true)
    (hmem : x.mem = (hbmAt s b).mem) : Stopping s (putHbm s b x) where
  basin _ hc := hc
  stack c hc := by
    by_cases hcb : c = b
    · subst hcb
      rw [hbmAt_putHbm]
      exact h hc
    · rw [hbmAt_putHbm_ne s x hcb]
      exact hc
  held _ hk := hk
  mem c := by
    by_cases hcb : c = b
    · rw [hcb, hbmAt_putHbm, hmem]
    · rw [hbmAt_putHbm_ne s x hcb]

/-- A core HELD. -/
def coreHeld (s : State) (k : Nat) : State := putCore s k { coreAt s k with held := true }

/-- A stack whose controller has begun to reset: in self-refresh, its queue to be answered as R269 states. -/
def resetStack (h : Hbm) : Hbm :=
  { h with resetting := true, inQ := h.queue ++ h.inQ, queue := [], wbq := [],
           selfRef := h.selfRef || (!h.withdrawn && !h.selfRef),
           ctr := if !h.withdrawn && !h.selfRef then bump h.ctr 202 1 else h.ctr }

/-- A basin and its stack in reset. -/
def basinStopped (s : State) (b : Nat) : State :=
  let s1 := putHbm s b (resetStack (hbmAt s b))
  putBasin s1 b { basinAt s1 b with resetting := true }

theorem enterReset_eq (s : State) (b : Nat) : enterReset s b = basinStopped (holdBasin s b) b := rfl

theorem coreHeld_stopping (s : State) (k : Nat) : Stopping s (coreHeld s k) := putCore_stopping fun _ => rfl

section
variable (s : State) (b : Nat)

theorem basinStopped_stopping : Stopping s (basinStopped s b) := by
  have hhbm : Stopping s (putHbm s b (resetStack (hbmAt s b))) := putHbm_stopping (fun _ => rfl) rfl
  exact hhbm.trans (putBasin_stopping fun _ => rfl)

theorem basinAt_basinStopped : (basinAt (basinStopped s b) b).resetting = true := by
  rw [basinStopped, basinAt_putBasin]

theorem hbmAt_basinStopped : (hbmAt (basinStopped s b) b).resetting = true := by
  rw [basinStopped, hbmAt_putBasin, hbmAt_putHbm, resetStack]

theorem coreAt_basinStopped (k : Nat) : coreAt (basinStopped s b) k = coreAt s k := rfl

theorem basinStopped_objs (c : Nat) : (basinAt (basinStopped s b) c).objs = (basinAt s c).objs := by
  rw [basinStopped]
  obtain ⟨rfl, hx⟩ | hx := basinAt_putBasin_cases (putHbm s b (resetStack (hbmAt s b))) b
    { basinAt (putHbm s b (resetStack (hbmAt s b))) b with resetting := true } c
  · rw [hx, basinAt_putHbm]
  · rw [hx, basinAt_putHbm]

theorem holdBasin_stopping : Stopping s (holdBasin s b) := by
  unfold holdBasin
  generalize coresOfBasin b = ks
  exact forEach_stopping coreHeld_stopping s

theorem holdBasin_held : ∀ k ∈ coresOfBasin b, (coreAt (holdBasin s b) k).held = true := by
  unfold holdBasin
  generalize coresOfBasin b = ks
  exact forEach_all (f := coreHeld) (Q := fun k s => (coreAt s k).held = true) (fun s k _ => by rw [coreHeld, coreAt_putCore])
    (fun s k j _ hk => (coreHeld_stopping s j).held k hk) s

theorem holdBasin_uncored : uncored (holdBasin s b) = uncored s := by
  unfold holdBasin
  generalize coresOfBasin b = ks
  exact forEach_keeps (f := coreHeld) uncored (fun _ _ _ => rfl) s

theorem coreAt_holdBasin_ne {k : Nat} (h : k ∉ coresOfBasin b) : coreAt (holdBasin s b) k = coreAt s k := by
  unfold holdBasin
  generalize coresOfBasin b = ks at h
  refine forEach_keeps (f := coreHeld) (fun s => coreAt s k) (fun s j hj => ?_) s
  exact coreAt_putCore_ne s _ (ne_of_mem_of_not_mem hj h).symm

theorem enterReset_stopping : Stopping s (enterReset s b) := by
  rw [enterReset_eq]
  exact (holdBasin_stopping s b).trans (basinStopped_stopping _ b)

theorem enterReset_inReset : InReset b (enterReset s b) := by
  rw [enterReset_eq]
  have hheld := holdBasin_held s b
  generalize holdBasin s b = u at hheld
  exact ⟨basinAt_basinStopped u b, hbmAt_basinStopped u b, fun k hk => (basinStopped_stopping u b).held k (hheld k hk)⟩

end

/-- A state but for what the stop of basins changes. -/
def unstopped (s : State) : State := { s with cores := [], basins := [], hbms := [] }

theorem unstopped_of_uncored {s t : State} (h : uncored t = uncored s) : unstopped t = unstopped s :=
  (congrArg (fun u : State => { u with basins := [], hbms := [] }) h :)

theorem basinStopped_unstopped (s : State) (b : Nat) : unstopped (basinStopped s b) = unstopped s := rfl

theorem enterReset_unstopped (s : State) (b : Nat) : unstopped (enterReset s b) = unstopped s := by
  rw [enterReset_eq, basinStopped_unstopped]
  exact unstopped_of_uncored (holdBasin_uncored s b)

theorem coreAt_enterReset_ne (s : State) {b k : Nat} (h : k ∉ coresOfBasin b) : coreAt (enterReset s b) k = coreAt s k := by
  rw [enterReset_eq, coreAt_basinStopped, coreAt_holdBasin_ne s b h]

theorem basins_of_uncored {s t : State} (h : uncored t = uncored s) : t.basins = s.basins := (congrArg State.basins h :)

theorem enterReset_objs (s : State) (b c : Nat) : (basinAt (enterReset s b) c).objs = (basinAt s c).objs := by
  rw [enterReset_eq, basinStopped_objs, basinAt, basins_of_uncored (holdBasin_uncored s b), basinAt]

/-! ### Step 1 (R90, R250, R251, R421, R433) -/

/-- A trigger changes the resets, and stops the basins that join a set that is already stopped. -/
theorem triggerReset_cases (s : State) (n : Nat) (set : List Nat) (trig slot : Nat) (drain : Bool) :
    ∃ (x : Rst) (bs : List Nat), triggerReset s n set trig slot drain = forEach bs enterReset { s with rst := x } := by
  unfold triggerReset
  dsimp only
  cases s.rst.cur with
  | none => exact ⟨_, [], rfl⟩
  | some r =>
    by_cases hjoin : r.ctx = n ∧ r.stage ≠ .ready
    · by_cases hcollect : r.stage = .collect
      · simp only [if_pos hjoin, if_pos hcollect]
        exact ⟨_, _, rfl⟩
      · simp only [if_pos hjoin, if_neg hcollect]
        exact ⟨_, [], rfl⟩
    · simp only [if_neg hjoin]
      exact ⟨_, [], rfl⟩

theorem triggerReset_stopping (s : State) (n : Nat) (set : List Nat) (trig slot : Nat) (drain : Bool) :
    Stopping s (triggerReset s n set trig slot drain) := by
  obtain ⟨x, bs, heq⟩ := triggerReset_cases s n set trig slot drain
  rw [heq]
  have hrst : Stopping s { s with rst := x } := .of_units rfl rfl rfl
  exact hrst.trans (forEach_stopping enterReset_stopping _)

/-- The takes that wait at a basin's engine discarded (R250). -/
def takesDiscarded (s : State) (b : Nat) : State :=
  putBasin s b { basinAt s b with objs := (basinAt s b).objs.map (fun o => (o.1, { o.2 with waiting := [] })) }

theorem dropTakes_stopping (s : State) (n : Nat) (set : List Nat) : Stopping s (dropTakes s n set) := by
  unfold dropTakes
  dsimp only
  refine (forEach_stopping (f := takesDiscarded) (fun s b => putBasin_stopping id) s).trans (forEach_stopping (fun s w => ?_) _)
  split
  · exact .refl s
  · split
    · exact .refl s
    next k _ _ =>
      have hslot : Stopping s (putCore s k (stopSlot (coreAt s k) w.2 evSyncLost)) := putCore_stopping id
      have hevent (u : State) : Stopping u (postEvent u n evSyncLost (2 ^ basinOf k) w.1 w.2 noFld noFld k 0 0 0) :=
        .of_units rfl rfl rfl
      exact (hslot.trans (hevent _)).trans (triggerReset_stopping _ _ _ _ _ _)

/-- With no take waiting, the engines of the set alone are touched. -/
theorem dropTakes_idle {s : State} (n : Nat) {set : List Nat} (h : ∀ b ∈ set, ∀ o ∈ (basinAt s b).objs, o.2.waiting = []) :
    dropTakes s n set = forEach set takesDiscarded s := by
  have hnone : set.flatMap (fun b => (basinAt s b).objs.flatMap (fun o => o.2.waiting)) = [] :=
    List.flatMap_eq_nil_iff.2 fun b hb => List.flatMap_eq_nil_iff.2 fun o ho => h b hb o ho
  unfold dropTakes
  rw [hnone]
  rfl

/-- A reset in hand that has begun to collect. -/
def collecting (s : State) (r : Reset) : State :=
  { s with rst := { s.rst with cur := some { r with stage := .collect, start := s.sup.ticks } } }

/-- The open steps of a context with a layout void (R90). -/
def stepsVoided (s : State) (n : Nat) : State :=
  if (ctxAt s n).layout.isNone then s
  else putCtx s n { ctxAt s n with voids := sortNat ((ctxAt s n).voids ++ openSteps (ctxAt s n)) }

/-- The set of a reset stopped, its takes not yet discarded. -/
def setStopped (s : State) (r : Reset) : State := stepsVoided (forEach r.set enterReset (collecting s r)) r.ctx

theorem stopSet_eq (s : State) (r : Reset) : stopSet s r = dropTakes (setStopped (workGivenUp s r.ctx) r) r.ctx r.set := rfl

theorem stepsVoided_unctxed (s : State) (n : Nat) : { stepsVoided s n with ctxs := [] } = { s with ctxs := [] } := by
  unfold stepsVoided
  split <;> rfl

section
variable (s : State) (r : Reset)

theorem collecting_stopping : Stopping s (collecting s r) := .of_units rfl rfl rfl

theorem stepsVoided_stopping (n : Nat) : Stopping s (stepsVoided s n) := by
  have h := stepsVoided_unctxed s n
  exact .of_units (congrArg State.cores h :) (congrArg State.basins h :) (congrArg State.hbms h :)

theorem setStopped_stopping : Stopping s (setStopped s r) :=
  ((collecting_stopping s r).trans (forEach_stopping enterReset_stopping _)).trans (stepsVoided_stopping _ r.ctx)

theorem setStopped_inReset : ∀ b ∈ r.set, InReset b (setStopped s r) := by
  have hall : ∀ b ∈ r.set, InReset b (forEach r.set enterReset (collecting s r)) :=
    forEach_all (Q := InReset) (fun s b _ => enterReset_inReset s b) (fun s b c _ hb => (enterReset_stopping s c).inReset hb) _
  exact fun b hb => (stepsVoided_stopping _ r.ctx).inReset (hall b hb)

end

/-- Every basin of the set is in reset, and no array has changed. -/
theorem stopSet_stops (s : State) (r : Reset) :
    ∀ b ∈ r.set, InReset b (stopSet s r) ∧ (hbmAt (stopSet s r) b).mem = (hbmAt s b).mem := by
  intro b hb
  have hdrop := dropTakes_stopping (setStopped (workGivenUp s r.ctx) r) r.ctx r.set
  rw [stopSet_eq]
  refine ⟨hdrop.inReset (setStopped_inReset _ r b hb), ?_⟩
  rw [hdrop.mem b, (setStopped_stopping _ r).mem b, hbmAt, workGivenUp_hbms, hbmAt]

/-! ### Where nothing was in hand for the context (R418, R420) -/

/-- A state but for what the stop of a set changes. -/
def offSet (s : State) : State := { unstopped s with ctxs := [] }

theorem offSet_of_unctxed {s t : State} (h : { t with ctxs := [] } = { s with ctxs := [] }) : offSet t = offSet s :=
  (congrArg unstopped h :)

theorem offSet_of_unstopped {s t : State} (h : unstopped t = unstopped s) : offSet t = offSet s := by
  rw [offSet, h, offSet]

theorem setStopped_offSet (s : State) (r : Reset) : offSet (setStopped s r) = offSet (collecting s r) := by
  have hbasins : unstopped (forEach r.set enterReset (collecting s r)) = unstopped (collecting s r) :=
    forEach_keeps unstopped (fun s b _ => enterReset_unstopped s b) _
  exact (offSet_of_unctxed (stepsVoided_unctxed _ r.ctx)).trans (offSet_of_unstopped hbasins)

theorem basins_of_unctxed {s t : State} (h : { t with ctxs := [] } = { s with ctxs := [] }) : t.basins = s.basins :=
  (congrArg State.basins h :)

theorem cores_of_unctxed {s t : State} (h : { t with ctxs := [] } = { s with ctxs := [] }) : t.cores = s.cores :=
  (congrArg State.cores h :)

theorem setStopped_objs (s : State) (r : Reset) (b : Nat) : (basinAt (setStopped s r) b).objs = (basinAt s b).objs := by
  have hset : (basinAt (forEach r.set enterReset (collecting s r)) b).objs = (basinAt (collecting s r) b).objs :=
    forEach_keeps (fun s => (basinAt s b).objs) (fun s c _ => enterReset_objs s c b) _
  rw [basinAt, setStopped, basins_of_unctxed (stepsVoided_unctxed _ r.ctx)]
  exact hset

theorem coreAt_setStopped_ne (s : State) {r : Reset} {k : Nat} (h : ∀ b ∈ r.set, k ∉ coresOfBasin b) :
    coreAt (setStopped s r) k = coreAt s k := by
  have hset : coreAt (forEach r.set enterReset (collecting s r)) k = coreAt (collecting s r) k :=
    forEach_keeps (fun s => coreAt s k) (fun s b hb => coreAt_enterReset_ne s (h b hb)) _
  rw [coreAt, setStopped, cores_of_unctxed (stepsVoided_unctxed _ r.ctx)]
  exact hset

/-- With nothing in hand and no take waiting, the set is stopped and nothing else happens. -/
theorem stopSet_idle {s : State} {r : Reset} (hpaths : s.heal.paths = []) (hchecks : s.heal.checks = [])
    (hmoves : s.mesh.moves = []) (hdrains : s.mesh.drains = [])
    (htakes : ∀ b ∈ r.set, ∀ o ∈ (basinAt s b).objs, o.2.waiting = []) :
    stopSet s r = forEach r.set takesDiscarded (setStopped s r) := by
  rw [stopSet_eq, workGivenUp_idle r.ctx hpaths hchecks hmoves hdrains]
  exact dropTakes_idle r.ctx fun b hb o ho => htakes b hb o (setStopped_objs s r b ▸ ho)

theorem takesDiscarded_offSet (s : State) (set : List Nat) : offSet (forEach set takesDiscarded s) = offSet s :=
  forEach_keeps (f := takesDiscarded) offSet (fun _ _ _ => rfl) s

theorem takesDiscarded_cores (s : State) (set : List Nat) : (forEach set takesDiscarded s).cores = s.cores :=
  forEach_keeps (f := takesDiscarded) State.cores (fun _ _ _ => rfl) s

theorem kept_of_offSet {s t : State} (h : offSet t = offSet s) : t.rst = s.rst ∧ t.routers = s.routers ∧ t.fab = s.fab :=
  ⟨(congrArg State.rst h :), (congrArg State.routers h :), (congrArg State.fab h :)⟩

theorem stopped_quietly (s : State) (r : Reset) :
    let t := forEach r.set takesDiscarded (setStopped s r)
    t.rst.cur = some { r with stage := .collect, start := s.sup.ticks } ∧
      (∀ k, (∀ b ∈ r.set, k ∉ coresOfBasin b) → coreAt t k = coreAt s k) ∧ t.routers = s.routers ∧ t.fab = s.fab := by
  intro t
  obtain ⟨hrst, hrouters, hfab⟩ := kept_of_offSet ((takesDiscarded_offSet (setStopped s r) r.set).trans (setStopped_offSet s r))
  refine ⟨by rw [hrst, collecting], fun k hk => ?_, hrouters, hfab⟩
  rw [coreAt, takesDiscarded_cores]
  exact coreAt_setStopped_ne s hk

/-! ### The commands -/

theorem exec_partialDrainComplete_done {s : State} {r : Reset} (hcur : s.rst.cur = some r) (hstage : r.stage = .partialDrain)
    (hdone : (coresIn s r.set).all (fun k => ranTo (coreAt s k) (r.cut + 1) || faultStopped (coreAt s k)) = true ∨
      noProgress s r.ctx = true) :
    exec .partialDrainComplete s = .next { s with rst := { s.rst with cur := some { r with stage := .waiting } } } := by
  rw [exec_partialDrainComplete, execPartialDrainComplete, hcur]
  exact congrArg _ (if_pos ⟨hstage, hdone⟩)

theorem exec_partialDrainComplete_waits {s : State} {r : Reset} (hcur : s.rst.cur = some r)
    (hnot : ¬ (r.stage = .partialDrain ∧
      ((coresIn s r.set).all (fun k => ranTo (coreAt s k) (r.cut + 1) || faultStopped (coreAt s k)) = true ∨
        noProgress s r.ctx = true))) :
    exec .partialDrainComplete s = .next s := by
  rw [exec_partialDrainComplete, execPartialDrainComplete, hcur]
  exact congrArg _ (if_neg hnot)

theorem exec_basinReset_waiting {s : State} {r : Reset} (hcur : s.rst.cur = some r) (hstage : r.stage = .waiting) :
    exec .basinReset s = .next (stopSet s r) := by
  rw [exec_basinReset, execBasinReset, hcur]
  exact congrArg _ (if_pos hstage)

theorem exec_basinReset_other {s : State} {r : Reset} (hcur : s.rst.cur = some r) (hstage : r.stage ≠ .waiting) :
    exec .basinReset s = .next s := by
  rw [exec_basinReset, execBasinReset, hcur]
  exact congrArg _ (if_neg hstage)

/-- The first part of O52: the end of a partial drain, and step 1. -/
theorem resetStops : Claims.ResetStops := by
  intro s r hcur
  refine ⟨fun hstage => ⟨exec_partialDrainComplete_done hcur hstage, fun hnot =>
      exec_partialDrainComplete_waits hcur fun h => hnot h.2⟩,
    fun hstage => exec_partialDrainComplete_waits hcur fun h => hstage h.1, fun hstage => ?_, exec_basinReset_other hcur⟩
  refine ⟨stopSet s r, exec_basinReset_waiting hcur hstage, fun b hb => ?_, fun hpaths hchecks hmoves hdrains htakes => ?_⟩
  · obtain ⟨⟨hbasin, hstack, hcores⟩, hmem⟩ := stopSet_stops s r b hb
    exact ⟨hbasin, hstack, hmem, hcores⟩
  · rw [stopSet_idle hpaths hchecks hmoves hdrains htakes]
    exact stopped_quietly s r

end Sys2Proof.Machine

/-! PROOFS. The collection of a basin reset: its set cleared, a stack that does not retrain (O52, R421 and R433). -/

namespace Sys2Proof.Machine

theorem exec_dumpCollectComplete (ok : Bool) (s : State) :
    exec (.dumpCollectComplete ok) s = execDumpCollectComplete ok s := rfl

/-! ### Cores cleared in their basin (R156, R418) -/

/-- A core as a clear leaves it: nothing runs on it and it holds nothing. -/
structure Blank (c : Core) : Prop where
  ctr : c.ctr = []
  held : c.held = false
  station : c.station = none
  inEp : c.inEp = []
  tiles : c.tiles = []
  mem : c.mem = []

theorem blank_default : Blank {} := ⟨rfl, rfl, rfl, rfl, rfl, rfl⟩

theorem resetCoreSite_blank (c : Core) : Blank (resetCoreSite c) := by
  cases h : c.st <;> simp only [resetCoreSite, h] <;> exact ⟨rfl, rfl, rfl, rfl, rfl, rfl⟩

theorem resetCoreSite_slot (c : Core) : (resetCoreSite c).slot = c.slot := by
  cases h : c.st <;> simp only [resetCoreSite, h]

theorem injAt_blank {c : Core} (h : Blank c) (k : Nat) (p : Pkt) : Blank (injAt c k p) := by
  obtain ⟨hctr, hheld, hstation, hinEp, htiles, hmem⟩ := h
  exact ⟨hctr, hheld, hstation, hinEp, htiles, hmem⟩

/-- What the clear of a basin keeps of the cores: their slots, those that are blank already, and those of other basins. -/
structure SiteCleared (b : Nat) (s t : State) : Prop where
  slot : ∀ k, (coreAt t k).slot = (coreAt s k).slot
  blank : ∀ k, Blank (coreAt s k) → Blank (coreAt t k)
  outside : ∀ k, basinOf k ≠ b → coreAt t k = coreAt s k

theorem SiteCleared.of_cores {b : Nat} {s t : State} (h : t.cores = s.cores) : SiteCleared b s t := by
  have hcore (k : Nat) : coreAt t k = coreAt s k := by rw [coreAt, h, coreAt]
  exact ⟨fun k => by rw [hcore], fun k hk => by rw [hcore]; exact hk, fun k _ => hcore k⟩

theorem SiteCleared.refl (b : Nat) (s : State) : SiteCleared b s s := .of_cores rfl

theorem SiteCleared.trans {b : Nat} {s t u : State} (h : SiteCleared b s t) (g : SiteCleared b t u) : SiteCleared b s u :=
  ⟨fun k => (g.slot k).trans (h.slot k), fun k hk => g.blank k (h.blank k hk),
    fun k hk => (g.outside k hk).trans (h.outside k hk)⟩

theorem forEach_siteCleared {α : Type} {b : Nat} {l : List α} {f : State → α → State}
    (h : ∀ s, ∀ a ∈ l, SiteCleared b s (f s a)) (s : State) : SiteCleared b s (forEach l f s) :=
  forEach_holds (P := SiteCleared b s) (fun t a ha ht => ht.trans (h t a ha)) (.refl b s)

theorem putCore_siteCleared {s : State} {b j : Nat} {c : Core} (hj : basinOf j = b) (hslot : c.slot = (coreAt s j).slot)
    (hblank : Blank (coreAt s j) → Blank c) : SiteCleared b s (putCore s j c) where
  slot k := by
    by_cases hk : k = j
    · rw [hk, coreAt_putCore, hslot]
    · rw [coreAt_putCore_ne s c hk]
  blank k h := by
    by_cases hk : k = j
    · subst hk
      rw [coreAt_putCore]
      exact hblank h
    · rw [coreAt_putCore_ne s c hk]
      exact h
  outside k h := coreAt_putCore_ne s c fun hk => h (hk ▸ hj)

/-- A core cleared at step 4. -/
def resetSite (s : State) (k : Nat) : State := putCore s k (resetCoreSite (coreAt s k))

/-- The listed cores of a basin cleared. -/
def resetListed (s : State) (b : Nat) : State := forEach (listedIn s b) resetSite s

theorem mem_listedIn {s : State} {b k : Nat} : k ∈ listedIn s b ↔ (∃ c, (k, c) ∈ s.cores) ∧ basinOf k = b := by
  simp only [listedIn, List.mem_map, List.mem_filter, beq_iff_eq, Prod.exists, exists_and_right, exists_eq_right]

theorem resetSite_siteCleared (s : State) {b k : Nat} (h : basinOf k = b) : SiteCleared b s (resetSite s k) :=
  putCore_siteCleared h (resetCoreSite_slot _) fun _ => resetCoreSite_blank _

theorem resetListed_siteCleared (s : State) (b : Nat) : SiteCleared b s (resetListed s b) :=
  forEach_siteCleared (fun s _ hk => resetSite_siteCleared s (mem_listedIn.1 hk).2) s

/-- An unlisted core is blank as it is, so every core of the basin is. -/
theorem resetListed_blank (s : State) {b k : Nat} (h : basinOf k = b) : Blank (coreAt (resetListed s b) k) := by
  by_cases hk : k ∈ listedIn s b
  · refine forEach_all (f := resetSite) (Q := fun k s => Blank (coreAt s k)) (fun s j _ => ?_) (fun s k j hj hblank => ?_) s k hk
    · rw [resetSite, coreAt_putCore]
      exact resetCoreSite_blank _
    · exact (resetSite_siteCleared s rfl).blank k hblank
  · refine (resetListed_siteCleared s b).blank k ?_
    have hnone : coreAt s k = {} := tabGet_of_unlisted _ fun e he hek =>
      hk (mem_listedIn.2 ⟨⟨e.2, hek ▸ he⟩, h⟩)
    rw [hnone]
    exact blank_default

theorem basinOf_hbmRouter (b a : Nat) : basinOf (hbmRouter b a) = b := by
  have hdiag : pcOf a % 12 < 12 := Nat.mod_lt _ (by decide)
  unfold hbmRouter
  generalize pcOf a % 12 = j at hdiag
  have hx : coreX (coreNo (b % 4 * 24 + j) (b / 4 * 24 + j)) = b % 4 * 24 + j := by
    unfold coreX coreNo
    omega
  have hy : coreY (coreNo (b % 4 * 24 + j) (b / 4 * 24 + j)) = b / 4 * 24 + j := by
    unfold coreY coreNo
    omega
  rw [basinOf, hx, hy]
  omega

theorem hbmAnswer_siteCleared (s : State) (b : Nat) (p : Pkt) (bytes : List (Byte × Bool)) (poison : Bool) (code : Nat) :
    SiteCleared b s (hbmAnswer s b p bytes poison code) :=
  putCore_siteCleared (basinOf_hbmRouter b p.addr) rfl fun h => injAt_blank h _ _

/-! ### One basin of the set cleared (R250, R269, R421, R430) -/

/-- The packets of the sync mesh for a basin's engine dropped. -/
def syncDropped (s : State) (b : Nat) : State := forEach (s.mesh.sync.filter (fun p => p.home == b)) dropSync s

/-- The sync objects of a basin at their definitions, none without a layout. -/
def objsOf (l : Option Layout) (b : Nat) : Tab SyncObj := l.elim [] (defObjs · b)

theorem objsDefined_eq (n : Nat) (s : State) (b : Nat) :
    objsDefined n s b = putBasin s b { basinAt s b with objs := objsOf (ctxAt s n).layout b } := by
  unfold objsDefined
  cases (ctxAt s n).layout <;> rfl

/-- A basin's cores and its sync engine cleared. -/
def siteReset (n : Nat) (s : State) (b : Nat) : State := syncDropped (objsDefined n (resetListed s b) b) b

/-- A basin whose arming is used up and whose test is over. -/
def rearmed (x : Basin) : Basin :=
  { x with wedge := false, underTest := none, armed := none, testOrder := x.testOrder ++ x.underTest.toList }

theorem clearSet_eq (n : Nat) (s : State) (b : Nat) : clearSet n s b =
    putBasin (loseRequests (siteReset n s b) b) b (rearmed (basinAt (loseRequests (siteReset n s b) b) b)) := rfl

/-- A stack in service again, its contents kept; a withdrawn one keeps its requests. -/
def stackRetrained (h : Hbm) : Hbm :=
  if h.withdrawn then { h with resetting := false, queue := [], wbq := [] }
  else { h with resetting := false, selfRef := false, inQ := [], queue := [], wbq := [] }

/-- A request answered as lost. -/
def requestLost (b : Nat) (s : State) (p : Pkt) : State := hbmAnswer s b p (poisonZeros p.len) true evHbmResetLost

/-- The requests that a stack answers as lost when it has retrained. -/
def lostRequests (h : Hbm) : List Pkt := if h.withdrawn then [] else h.inQ

theorem loseRequests_eq (s : State) (b : Nat) : loseRequests s b =
    forEach (lostRequests (hbmAt s b)) (requestLost b) (putHbm s b (stackRetrained (hbmAt s b))) := by
  unfold loseRequests lostRequests stackRetrained
  by_cases h : (hbmAt s b).withdrawn = true
  · simp only [if_pos h]
    rfl
  · simp only [if_neg h]
    rfl

theorem stackRetrained_resetting (h : Hbm) : (stackRetrained h).resetting = false := by
  unfold stackRetrained
  split <;> rfl

theorem stackRetrained_mem (h : Hbm) : (stackRetrained h).mem = h.mem := by
  unfold stackRetrained
  split <;> rfl

theorem loseRequests_uncored (s : State) (b : Nat) :
    uncored (loseRequests s b) = uncored (putHbm s b (stackRetrained (hbmAt s b))) := by
  rw [loseRequests_eq]
  exact forEach_keeps (f := requestLost b) uncored (fun _ _ _ => rfl) _

theorem loseRequests_siteCleared (s : State) (b : Nat) : SiteCleared b s (loseRequests s b) := by
  rw [loseRequests_eq]
  have hstack : SiteCleared b s (putHbm s b (stackRetrained (hbmAt s b))) := .of_cores rfl
  exact hstack.trans (forEach_siteCleared (f := requestLost b) (fun s p _ => hbmAnswer_siteCleared s b p _ _ _) _)

/-- A state but for the sync mesh and the routers it counts at. -/
def unsynced (s : State) : State := { s with routers := [], mesh := { s.mesh with sync := [] } }

theorem syncDropped_unsynced (s : State) (b : Nat) : unsynced (syncDropped s b) = unsynced s :=
  forEach_keeps (f := dropSync) unsynced (fun _ _ _ => rfl) s

theorem resetListed_uncored (s : State) (b : Nat) : uncored (resetListed s b) = uncored s :=
  forEach_keeps (f := resetSite) uncored (fun _ _ _ => rfl) s

theorem cores_of_unsynced {s t : State} (h : unsynced t = unsynced s) : t.cores = s.cores := (congrArg State.cores h :)
theorem basins_of_unsynced {s t : State} (h : unsynced t = unsynced s) : t.basins = s.basins := (congrArg State.basins h :)
theorem hbms_of_unsynced {s t : State} (h : unsynced t = unsynced s) : t.hbms = s.hbms := (congrArg State.hbms h :)
theorem hbms_of_uncored {s t : State} (h : uncored t = uncored s) : t.hbms = s.hbms := (congrArg State.hbms h :)
theorem ctxs_of_uncored {s t : State} (h : uncored t = uncored s) : t.ctxs = s.ctxs := (congrArg State.ctxs h :)

/-- A state but for what a collection changes: the cores, the basins, the stacks, the routers and the sync mesh. -/
def uncollected (s : State) : State := { unsynced s with cores := [], basins := [], hbms := [] }

theorem uncollected_of_uncored {s t : State} (h : uncored t = uncored s) : uncollected t = uncollected s :=
  (congrArg (fun u : State => { unsynced u with basins := [], hbms := [] }) h :)

theorem uncollected_of_unsynced {s t : State} (h : unsynced t = unsynced s) : uncollected t = uncollected s := by
  rw [uncollected, h, uncollected]

section
variable (n : Nat) (s : State) (b : Nat)

theorem siteReset_siteCleared : SiteCleared b (resetListed s b) (siteReset n s b) := by
  have hobjs : SiteCleared b (resetListed s b) (objsDefined n (resetListed s b) b) := .of_cores rfl
  exact hobjs.trans (.of_cores (cores_of_unsynced (syncDropped_unsynced _ b)))

theorem siteReset_hbms : (siteReset n s b).hbms = s.hbms := by
  rw [siteReset, hbms_of_unsynced (syncDropped_unsynced _ b), objsDefined, putBasin_hbms]
  exact hbms_of_uncored (resetListed_uncored s b)

theorem basinAt_siteReset (c : Nat) : basinAt (siteReset n s b) c =
    if c = b then { basinAt s b with objs := objsOf (ctxAt s n).layout b } else basinAt s c := by
  have hlisted (c : Nat) : basinAt (resetListed s b) c = basinAt s c := by
    rw [basinAt, basins_of_uncored (resetListed_uncored s b), basinAt]
  have hctx : ctxAt (resetListed s b) n = ctxAt s n := by rw [ctxAt, ctxs_of_uncored (resetListed_uncored s b), ctxAt]
  rw [siteReset, basinAt, basins_of_unsynced (syncDropped_unsynced _ b), objsDefined_eq, hctx, hlisted]
  split
  next hc => rw [hc]; exact basinAt_putBasin _ b _
  next hc => exact (basinAt_putBasin_ne _ _ hc).trans (hlisted c)

theorem siteReset_uncollected : uncollected (siteReset n s b) = uncollected s := by
  have hobjs : uncollected (objsDefined n (resetListed s b) b) = uncollected (resetListed s b) := rfl
  rw [siteReset, uncollected_of_unsynced (syncDropped_unsynced _ b), hobjs, uncollected_of_uncored (resetListed_uncored s b)]

theorem clearSet_siteCleared : SiteCleared b s (clearSet n s b) := by
  rw [clearSet_eq]
  have hsite := (resetListed_siteCleared s b).trans (siteReset_siteCleared n s b)
  exact (hsite.trans (loseRequests_siteCleared _ b)).trans (.of_cores rfl)

theorem clearSet_blank : ∀ k, basinOf k = b → Blank (coreAt (clearSet n s b) k) := by
  intro k hk
  have hstack := (siteReset_siteCleared n s b).trans (loseRequests_siteCleared _ b)
  rw [clearSet_eq, coreAt_putBasin]
  exact hstack.blank k (resetListed_blank s hk)

theorem basinAt_clearSet : basinAt (clearSet n s b) b = rearmed { basinAt s b with objs := objsOf (ctxAt s n).layout b } := by
  rw [clearSet_eq, basinAt_putBasin, basinAt, basins_of_uncored (loseRequests_uncored _ b)]
  exact congrArg rearmed ((basinAt_siteReset n s b b).trans (if_pos rfl))

theorem basinAt_clearSet_ne {c : Nat} (h : c ≠ b) : basinAt (clearSet n s b) c = basinAt s c := by
  rw [clearSet_eq, basinAt_putBasin_ne _ _ h, basinAt, basins_of_uncored (loseRequests_uncored _ b)]
  exact (basinAt_siteReset n s b c).trans (if_neg h)

theorem hbmAt_clearSet (c : Nat) : hbmAt (clearSet n s b) c = if c = b then stackRetrained (hbmAt s b) else hbmAt s c := by
  have hsite (c : Nat) : hbmAt (siteReset n s b) c = hbmAt s c := by rw [hbmAt, siteReset_hbms, hbmAt]
  rw [clearSet_eq, hbmAt_putBasin, hbmAt, hbms_of_uncored (loseRequests_uncored _ b), hsite]
  split
  next hc => rw [hc]; exact hbmAt_putHbm _ b _
  next hc => exact (hbmAt_putHbm_ne _ _ hc).trans (hsite c)

theorem clearSet_uncollected : uncollected (clearSet n s b) = uncollected s := by
  have hbasin (u : State) (x : Basin) : uncollected (putBasin u b x) = uncollected u := rfl
  have hstack (u : State) (x : Hbm) : uncollected (putHbm u b x) = uncollected u := rfl
  rw [clearSet_eq, hbasin, uncollected_of_uncored (loseRequests_uncored _ b), hstack, siteReset_uncollected]

end

/-- With no sync packet for the basin's engine, the mesh and its routers are untouched. -/
theorem clearSet_unmeshed (n : Nat) {s : State} {b : Nat} (h : ∀ p ∈ s.mesh.sync, p.home ≠ b) :
    (clearSet n s b).mesh = s.mesh ∧ (clearSet n s b).routers = s.routers := by
  have hlisted := resetListed_uncored s b
  have hmesh : (objsDefined n (resetListed s b) b).mesh = s.mesh := (congrArg State.mesh hlisted :)
  have hrouters : (objsDefined n (resetListed s b) b).routers = s.routers := (congrArg State.routers hlisted :)
  have hnone : (objsDefined n (resetListed s b) b).mesh.sync.filter (fun p => p.home == b) = [] := by
    rw [hmesh]
    exact List.filter_eq_nil_iff.2 fun p hp => by simpa using h p hp
  have hsite : siteReset n s b = objsDefined n (resetListed s b) b := by
    rw [siteReset, syncDropped, hnone, forEach_nil]
  have hstack := loseRequests_uncored (siteReset n s b) b
  have hstackMesh : (clearSet n s b).mesh = (siteReset n s b).mesh := (congrArg State.mesh hstack :)
  have hstackRouters : (clearSet n s b).routers = (siteReset n s b).routers := (congrArg State.routers hstack :)
  rw [hstackMesh, hstackRouters, hsite]
  exact ⟨hmesh, hrouters⟩

/-! ### The whole set cleared -/

/-- A basin after its clear, its stack in service and its cores blank. -/
structure BasinCleared (n b : Nat) (s : State) : Prop where
  wedge : (basinAt s b).wedge = false
  armed : (basinAt s b).armed = none
  underTest : (basinAt s b).underTest = none
  objs : (basinAt s b).objs = objsOf (ctxAt s n).layout b
  stack : (hbmAt s b).resetting = false
  cores : ∀ k, basinOf k = b → Blank (coreAt s k)

theorem ctxAt_clearSet (n : Nat) (s : State) (b m : Nat) : ctxAt (clearSet n s b) m = ctxAt s m :=
  (congrArg (ctxAt · m) (clearSet_uncollected n s b) :)

theorem clearSet_cleared (n : Nat) (s : State) (b : Nat) : BasinCleared n b (clearSet n s b) := by
  have hbasin := basinAt_clearSet n s b
  refine ⟨?_, ?_, ?_, ?_, ?_, clearSet_blank n s b⟩
  · rw [hbasin, rearmed]
  · rw [hbasin, rearmed]
  · rw [hbasin, rearmed]
  · rw [hbasin, rearmed, ctxAt_clearSet]
  · rw [hbmAt_clearSet, if_pos rfl, stackRetrained_resetting]

theorem BasinCleared.clearSet {n b : Nat} {s : State} (h : BasinCleared n b s) (c : Nat) : BasinCleared n b (clearSet n s c) := by
  by_cases hbc : b = c
  · rw [hbc]
    exact clearSet_cleared n s c
  · have hbasin := basinAt_clearSet_ne n s c hbc
    have hstack : hbmAt (Machine.clearSet n s c) b = hbmAt s b := by rw [hbmAt_clearSet, if_neg hbc]
    obtain ⟨hwedge, harmed, htest, hobjs, hstackIn, hcores⟩ := h
    refine ⟨hbasin ▸ hwedge, hbasin ▸ harmed, hbasin ▸ htest, ?_, hstack ▸ hstackIn, fun k hk => ?_⟩
    · rw [hbasin, hobjs, ctxAt_clearSet]
    · exact (clearSet_siteCleared n s c).blank k (hcores k hk)

/-- The basins of a set cleared. -/
def setCleared (n : Nat) (set : List Nat) (s : State) : State := forEach set (clearSet n) s

section
variable (n : Nat) (set : List Nat) (s : State)

theorem setCleared_cleared : ∀ b ∈ set, BasinCleared n b (setCleared n set s) :=
  forEach_all (Q := BasinCleared n) (fun s b _ => clearSet_cleared n s b) (fun _ _ c _ h => h.clearSet c) s

theorem setCleared_slot (k : Nat) : (coreAt (setCleared n set s) k).slot = (coreAt s k).slot :=
  forEach_keeps (fun s => (coreAt s k).slot) (fun s b _ => (clearSet_siteCleared n s b).slot k) s

theorem coreAt_setCleared_ne {k : Nat} (h : basinOf k ∉ set) : coreAt (setCleared n set s) k = coreAt s k :=
  forEach_keeps (fun s => coreAt s k)
    (fun s b hb => (clearSet_siteCleared n s b).outside k fun hk => h (hk ▸ hb)) s

theorem setCleared_gen (c : Nat) : (basinAt (setCleared n set s) c).gen = (basinAt s c).gen := by
  refine forEach_keeps (fun s => (basinAt s c).gen) (fun s b _ => ?_) s
  by_cases hc : c = b
  · rw [hc, basinAt_clearSet, rearmed]
  · rw [basinAt_clearSet_ne n s b hc]

theorem setCleared_mem (c : Nat) : (hbmAt (setCleared n set s) c).mem = (hbmAt s c).mem := by
  refine forEach_keeps (fun s => (hbmAt s c).mem) (fun s b _ => ?_) s
  rw [hbmAt_clearSet]
  split
  next hc => rw [hc, stackRetrained_mem]
  next => rfl

theorem setCleared_uncollected : uncollected (setCleared n set s) = uncollected s :=
  forEach_keeps uncollected (fun s b _ => clearSet_uncollected n s b) s

theorem setCleared_routers (h : ∀ p ∈ s.mesh.sync, p.home ∉ set) : (setCleared n set s).routers = s.routers := by
  have hboth : (setCleared n set s).mesh = s.mesh ∧ (setCleared n set s).routers = s.routers := by
    refine forEach_holds (P := fun t => t.mesh = s.mesh ∧ t.routers = s.routers) (fun t b hb ht => ?_) ⟨rfl, rfl⟩
    have hb' := clearSet_unmeshed n (s := t) (b := b) fun p hp heq => h p (ht.1 ▸ hp) (heq ▸ hb)
    exact ⟨hb'.1.trans ht.1, hb'.2.trans ht.2⟩
  exact hboth.2

end

/-! ### A stack that does not retrain (R271, R433) -/

/-- Whether a basin's stack is in reset, and whether it is withdrawn. -/
def stackService (b : Nat) (s : State) : Bool × Bool := ((hbmAt s b).resetting, (hbmAt s b).withdrawn)

theorem putHbm_stackService {s : State} {c : Nat} {x : Hbm} (hreset : x.resetting = (hbmAt s c).resetting)
    (hwith : x.withdrawn = (hbmAt s c).withdrawn) (b : Nat) : stackService b (putHbm s c x) = stackService b s := by
  unfold stackService
  by_cases hb : b = c
  · rw [hb, hbmAt_putHbm, hreset, hwith]
  · rw [hbmAt_putHbm_ne s x hb]

theorem hbmWrite_stackService (s : State) (c a : Nat) (l : List Byte) (b : Nat) :
    stackService b (hbmWrite s c a l) = stackService b s := by
  unfold hbmWrite
  extract_lets h
  exact putHbm_stackService (s := s) (c := c) (by rfl) (by rfl) b

theorem writePage_stackService (s : State) (n page : Nat) (p : Option Page) (b : Nat) :
    stackService b (writePage s n page p) = stackService b s := hbmWrite_stackService _ _ _ _ b

theorem loseSessions_stackService (s : State) (n c : Nat) (ids : List Nat) (b : Nat) :
    stackService b (loseSessions s n c ids) = stackService b s := by
  unfold loseSessions
  split
  · rfl
  · exact forEach_keeps (stackService b) (f := fun s i => postMsg s n _) (fun _ _ _ => rfl) _

theorem withdrawPages_stackService (s : State) (n c b : Nat) : stackService b (withdrawPages s n c) = stackService b s := by
  refine (loseSessions_stackService _ n c _ b).trans (forEach_keeps (stackService b) (fun s e _ => ?_) s)
  split
  · exact writePage_stackService s n _ _ b
  · rfl

/-- A stack as its withdrawal leaves it. -/
def withdrawnHbm (h : Hbm) : Hbm :=
  { h with withdrawn := true, inService := false, selfRef := false, inQ := h.queue ++ h.inQ, queue := [], wbq := [], holds := [],
           restores := [] }

theorem withdrawStack_done {s : State} {c : Nat} (h : (hbmAt s c).withdrawn = true) : withdrawStack s c = s := by
  rw [withdrawStack, if_pos h]

theorem withdrawStack_stackService {s : State} {c : Nat} (h : ¬ (hbmAt s c).withdrawn = true) (b : Nat) :
    stackService b (withdrawStack s c) = stackService b (putHbm s c (withdrawnHbm (hbmAt s c))) := by
  unfold withdrawStack
  rw [if_neg h]
  dsimp only
  split
  · rfl
  · exact withdrawPages_stackService _ _ c b

theorem withdrawStack_withdrawn (s : State) (c : Nat) : (hbmAt (withdrawStack s c) c).withdrawn = true := by
  by_cases h : (hbmAt s c).withdrawn = true
  · rw [withdrawStack_done h, h]
  · have hafter := congrArg Prod.snd (withdrawStack_stackService h c)
    rwa [stackService, stackService, hbmAt_putHbm] at hafter

theorem withdrawStack_resetting (s : State) (c b : Nat) :
    (hbmAt (withdrawStack s c) b).resetting = (hbmAt s b).resetting := by
  by_cases h : (hbmAt s c).withdrawn = true
  · rw [withdrawStack_done h]
  · have hafter := congrArg Prod.fst (withdrawStack_stackService h b)
    by_cases hb : b = c
    · rw [hb] at hafter ⊢
      rwa [stackService, stackService, hbmAt_putHbm] at hafter
    · rwa [stackService, stackService, hbmAt_putHbm_ne s _ hb] at hafter

/-! ### The command -/

/-- The dumps of a set staged (R424, R426). -/
def dumpsStaged (s : State) (r : Reset) : State :=
  { s with rst := { s.rst with dumps := s.rst.dumps ++ r.set.map (collectDump s r) }, free := s.free + 16 * 9217 }

/-- A set cleared after its dumps are staged, with the stack withdrawn that does not retrain. -/
def setRetrained (s : State) (r : Reset) (ok : Bool) : State :=
  let s2 := setCleared r.ctx r.set (dumpsStaged s r)
  if ok then s2 else withdrawStack s2 (r.set.headD 0)

/-- A reset whose set has been collected. -/
def collected (s : State) (r : Reset) (ok : Bool) : State :=
  { setRetrained s r ok with rst := { (setRetrained s r ok).rst with cur := some { r with stage := .ready, hbmFail := !ok } } }

theorem exec_dumpCollectComplete_collect {s : State} {r : Reset} {ok : Bool} (hcur : s.rst.cur = some r)
    (hstage : r.stage = .collect) : exec (.dumpCollectComplete ok) s = .next (collected s r ok) := by
  rw [exec_dumpCollectComplete, execDumpCollectComplete, hcur]
  exact congrArg _ (if_neg fun h => h hstage)

theorem exec_dumpCollectComplete_other {s : State} {r : Reset} {ok : Bool} (hcur : s.rst.cur = some r)
    (hstage : r.stage ≠ .collect) : exec (.dumpCollectComplete ok) s = .next s := by
  rw [exec_dumpCollectComplete, execDumpCollectComplete, hcur]
  exact congrArg _ (if_pos hstage)

section
variable (s : State) (r : Reset) (ok : Bool)

/-- A withdrawal leaves all but the stacks and the messages as the clear made it. -/
theorem setRetrained_unstacked : unstacked (setRetrained s r ok) = unstacked (setCleared r.ctx r.set (dumpsStaged s r)) := by
  unfold setRetrained
  cases ok
  · exact withdrawStack_unstacked _ _
  · rfl

theorem setRetrained_resetting (b : Nat) :
    (hbmAt (setRetrained s r ok) b).resetting = (hbmAt (setCleared r.ctx r.set (dumpsStaged s r)) b).resetting := by
  unfold setRetrained
  cases ok
  · exact withdrawStack_resetting _ _ b
  · rfl

end

theorem kept_of_unstacked {s t : State} (h : unstacked t = unstacked s) :
    t.cores = s.cores ∧ t.basins = s.basins ∧ t.routers = s.routers ∧ t.rst = s.rst ∧ t.fab = s.fab ∧ t.flash = s.flash :=
  ⟨(congrArg State.cores h :), (congrArg State.basins h :), (congrArg State.routers h :), (congrArg State.rst h :),
    (congrArg State.fab h :), (congrArg State.flash h :)⟩

theorem kept_of_uncollected {s t : State} (h : uncollected t = uncollected s) :
    t.rst = s.rst ∧ t.fab = s.fab ∧ t.flash = s.flash ∧ t.ctxs = s.ctxs :=
  ⟨(congrArg State.rst h :), (congrArg State.fab h :), (congrArg State.flash h :), (congrArg State.ctxs h :)⟩

/-- The second part of O52: collection. -/
theorem resetClears : Claims.ResetClears := by
  intro s r ok hcur
  refine ⟨fun hstage => ?_, exec_dumpCollectComplete_other hcur⟩
  obtain ⟨hcores, hbasins, hrouters, hrst, hfab, hflash⟩ := kept_of_unstacked (setRetrained_unstacked s r ok)
  obtain ⟨hrst', hfab', hflash', hctxs⟩ := kept_of_uncollected (setCleared_uncollected r.ctx r.set (dumpsStaged s r))
  have hcore (k : Nat) : coreAt (collected s r ok) k = coreAt (setCleared r.ctx r.set (dumpsStaged s r)) k := by
    rw [coreAt, collected, hcores, coreAt]
  have hbasin (b : Nat) : basinAt (collected s r ok) b = basinAt (setCleared r.ctx r.set (dumpsStaged s r)) b := by
    rw [basinAt, collected, hbasins, basinAt]
  have hctx : ctxAt (setCleared r.ctx r.set (dumpsStaged s r)) r.ctx = ctxAt s r.ctx := by
    rw [ctxAt, hctxs]
    rfl
  refine ⟨collected s r ok, exec_dumpCollectComplete_collect hcur hstage, rfl, ?_, ?_, ?_, fun hsync => ?_, fun b hb => ?_,
    fun k hk => ?_, fun hok => ?_⟩
  · exact (congrArg Rst.dumps (hrst.trans hrst') :)
  · exact hfab.trans hfab'
  · exact hflash.trans hflash'
  · exact hrouters.trans (setCleared_routers r.ctx r.set (dumpsStaged s r) hsync)
  · obtain ⟨hwedge, harmed, htest, hobjs, hstack, hblank⟩ := setCleared_cleared r.ctx r.set (dumpsStaged s r) b hb
    refine ⟨fun hok => ?_, (setRetrained_resetting s r ok b).trans hstack, hbasin b ▸ hwedge, hbasin b ▸ harmed,
      hbasin b ▸ htest, ?_, ?_, fun k _ hk => ?_⟩
    · subst hok
      exact setCleared_mem r.ctx r.set (dumpsStaged s r) b
    · rw [hbasin]
      exact setCleared_gen r.ctx r.set (dumpsStaged s r) b
    · rw [hbasin, hobjs, hctx]
      cases (ctxAt s r.ctx).layout <;> rfl
    · obtain ⟨hctr, hheld, hstation, hinEp, htiles, hmem⟩ := hblank k hk
      rw [hcore]
      exact ⟨setCleared_slot r.ctx r.set (dumpsStaged s r) k, hctr, hheld, hstation, hinEp, htiles,
        fun a => by rw [hmem, memGet]⟩
  · rw [hcore]
    exact coreAt_setCleared_ne r.ctx r.set (dumpsStaged s r) hk
  · subst hok
    exact withdrawStack_withdrawn _ _

/-- Settles O52: the stop of a set, its collection, and the restart of its layout. -/
theorem basinResets : Obligations.BasinResets := ⟨resetStops, resetClears, layoutsRestart⟩

end Sys2Proof.Machine

/-! PROOFS. The sync mesh and its engines: packets taken, discarded, stamped and translated; tokens (O18). -/

namespace Sys2Proof.Machine

theorem exec_engineArrive (b : Nat) (s : State) : exec (.engineArrive b) s = execEngineArrive b s := rfl
theorem exec_enginePost (b : Nat) (s : State) : exec (.enginePost b) s = execEnginePost b s := rfl
theorem exec_engineTake (b : Nat) (s : State) : exec (.engineTake b) s = execEngineTake b s := rfl

/-! ### What a command of the sync mesh does (R226, R227, R245) -/

/-- Where every packet has a TYPE of R245, none is discarded for it. -/
theorem badSync_none {s : State} (h : ∀ q ∈ s.mesh.sync, q.type ≤ 4) :
    forEach (s.mesh.sync.filter (fun p => decide (4 < p.type))) badSync s = s := by
  rw [List.filter_eq_nil_iff.mpr fun q hq => by simpa using h q hq, forEach_nil]

theorem onSync_takes {s : State} {sel : State → Option SyncPkt} {p : SyncPkt} (f : State → SyncPkt → State)
    (h : SyncTakes s (sel s) p) : onSync s sel f = f s p := by
  obtain ⟨htypes, hsel, hgap⟩ := h
  simp [onSync, badSync_none htypes, hsel, hgap]

theorem onSync_gap {s : State} {sel : State → Option SyncPkt} {p : SyncPkt} {k d : Nat} (f : State → SyncPkt → State)
    (htypes : ∀ q ∈ s.mesh.sync, q.type ≤ 4) (hsel : sel s = some p) (hgap : syncGap s p = some (k, d)) :
    onSync s sel f = gapSync s p k d := by
  simp [onSync, badSync_none htypes, hsel, hgap]

/-! ### Objects and counters of an engine -/

theorem find?_tabSet_self {α : Type} (t : Tab α) (k : Nat) (v : α) : (tabSet t k v).find? (fun e => e.1 == k) = some (k, v) := by
  induction t with
  | nil => simp [tabSet]
  | cons e t ih =>
    obtain ⟨j, w⟩ := e
    unfold tabSet
    split
    · simp
    · split
      · simp
      next hne => simp [Ne.symm hne, ih]

section
variable (s : State) (b : Nat)

@[simp] theorem objAt_putObj (o : Nat) (x : SyncObj) : objAt (putObj s b o x) b o = some x := by
  simp [objAt, putObj, find?_tabSet_self]

theorem objAt_of_objs {s t : State} {b : Nat} (o : Nat) (h : (basinAt t b).objs = (basinAt s b).objs) : objAt t b o = objAt s b o := by
  rw [objAt, objAt, h]

@[simp] theorem objAt_bumpSync (i n o : Nat) : objAt (bumpSync s b i n) b o = objAt s b o :=
  objAt_of_objs o (by simp [bumpSync])

@[simp] theorem objAt_dropSync (p : SyncPkt) (o : Nat) : objAt (dropSync s p) b o = objAt s b o := rfl

end

/-! ### Answers sent by an engine (R17, R18, R250) -/

/-- What the answers of a basin's engine rest on is unchanged: the stamp of its node and its mirror of the placement. -/
structure SameSite (b : Nat) (s t : State) : Prop where
  stamp : stampOf t (engineAt b) = stampOf s (engineAt b)
  place : (basinAt t b).place = (basinAt s b).place

/-- The engine of basin `b` has sent the packets `l`, and its objects are as they were. -/
structure Sent (b : Nat) (s t : State) (l : List SyncPkt) : Prop where
  sync : t.mesh.sync = s.mesh.sync ++ l
  site : SameSite b s t
  objs : (basinAt t b).objs = (basinAt s b).objs

theorem SameSite.placed {b slot k : Nat} {s t : State} (h : SameSite b s t) (hp : PlacedFor s b slot k) : PlacedFor t b slot k := by
  rwa [PlacedFor, h.stamp, h.place]

theorem SameSite.trans {b : Nat} {s t u : State} (h : SameSite b s t) (g : SameSite b t u) : SameSite b s u :=
  ⟨g.stamp.trans h.stamp, g.place.trans h.place⟩

/-- A placed slot is found where all three copies say. -/
theorem readPlace_placed {s : State} {b slot k : Nat} (h : PlacedFor s b slot k) :
    readPlace s b (stampOf s (engineAt b)) slot = (.core k, s) := by
  obtain ⟨hk, hentry⟩ := h
  have hlt : k < 9216 := hk
  have hbit : bitAt (k + 16384) 14 = true := by
    simp [bitAt]
    omega
  have hlow : (k + 16384) % 16384 = k := by omega
  simp [readPlace, hentry, vote3, agree3, hbit, hlow, Nat.not_le.mpr hk]

/-- An answer to a placed slot as its engine sends it. -/
def stampedAnswer (s : State) (b k : Nat) (p : SyncPkt) : SyncPkt :=
  { p with epoch := stampOf s (engineAt b), src := engineAt b, dst := k }

theorem sendAnswer_placed {s : State} {b k : Nat} {p : SyncPkt} (h : PlacedFor s b p.slot k) :
    sendAnswer s b p = sendSync s (stampedAnswer s b k p) := by
  simp [sendAnswer, readPlace_placed h, stampedAnswer]

theorem sendAnswer_sent {s : State} {b k : Nat} {p : SyncPkt} (i : Nat) (h : PlacedFor s b p.slot k) :
    Sent b s (bumpSync (sendAnswer s b p) b i 1) [stampedAnswer s b k p] := by
  rw [sendAnswer_placed h]
  refine ⟨rfl, ⟨rfl, ?_⟩, ?_⟩ <;> simp only [bumpSync, basinAt_putBasin] <;> rfl

theorem forEach_sent {α : Type} {b : Nat} {f : State → α → State} {pk : α → SyncPkt} {l : List α} {s : State}
    (h : ∀ t, SameSite b s t → ∀ a ∈ l, Sent b t (f t a) [pk a]) : Sent b s (forEach l f s) (l.map pk) := by
  induction l generalizing s with
  | nil => exact ⟨(List.append_nil _).symm, ⟨rfl, rfl⟩, rfl⟩
  | cons a l ih =>
    have hfirst := h s ⟨rfl, rfl⟩ a (.head _)
    have hrest := ih fun t ht c hc => h t (hfirst.site.trans ht) c (.tail _ hc)
    exact ⟨by simp [hrest.sync, hfirst.sync], hfirst.site.trans hrest.site, hrest.objs.trans hfirst.objs⟩

/-! ### Tokens (R249) -/

/-- A POST taken into its token object, its GRANTs still to be sent. -/
def posted (s : State) (b : Nat) (p : SyncPkt) (x : SyncObj) : State :=
  let n := min (x.count + p.val) x.waiting.length
  putObj (bumpSync (dropSync s p) b 2 1) b p.obj { x with count := x.count + p.val - n, waiting := x.waiting.drop n }

section
variable {s : State} {b : Nat} {p : SyncPkt} {x : SyncObj} (hb : b < 16) (hobj : objAt s b p.obj = some x)
  (htoken : x.isToken = true)
include hb hobj htoken

theorem enginePost_adds (htakes : SyncTakes s (syncFor s b 1) p) (hcount : x.count + p.val < 2 ^ 32) :
    exec (.enginePost b) s = .next (forEach (x.waiting.take (min (x.count + p.val) x.waiting.length))
      (fun s w => sendGrant s b p.obj w) (posted s b p x)) := by
  have hfits : ¬ 0xFFFFFFFF < x.count + p.val := by omega
  rw [exec_enginePost, execEnginePost, runUnit_next _ _ hb, onSync_takes _ htakes]
  simp [hobj, htoken, hfits, posted]

theorem enginePost_overflows (htakes : SyncTakes s (syncFor s b 1) p) (hcount : 2 ^ 32 ≤ x.count + p.val) :
    exec (.enginePost b) s = .next (syncFault (bumpSync (dropSync s p) b 2 1) b evSyncTokenOverflow true p) := by
  have hover : 0xFFFFFFFF < x.count + p.val := by omega
  rw [exec_enginePost, execEnginePost, runUnit_next _ _ hb, onSync_takes _ htakes]
  simp [hobj, htoken, hover]

theorem engineTake_granted (htakes : SyncTakes s (syncFor s b 2) p) (hcount : x.count ≠ 0) : exec (.engineTake b) s =
    .next (sendGrant (putObj (dropSync s p) b p.obj { x with count := x.count - 1 }) b p.obj (p.slot, p.tslot)) := by
  rw [exec_engineTake, execEngineTake, runUnit_next _ _ hb, onSync_takes _ htakes]
  simp [hobj, htoken, hcount]

theorem engineTake_waits (htakes : SyncTakes s (syncFor s b 2) p) (hcount : x.count = 0)
    (hroom : sumOf ((basinAt s b).objs.map (fun e => e.2.waiting.length)) < 512) : exec (.engineTake b) s =
    .next (bumpSync (putObj (dropSync s p) b p.obj { x with waiting := x.waiting ++ [(p.slot, p.tslot)] }) b 4 1) := by
  rw [exec_engineTake, execEngineTake, runUnit_next _ _ hb, onSync_takes _ htakes]
  simp [hobj, htoken, hcount, Nat.not_le.mpr hroom]

theorem engineTake_full (htakes : SyncTakes s (syncFor s b 2) p) (hcount : x.count = 0)
    (hfull : 512 ≤ sumOf ((basinAt s b).objs.map (fun e => e.2.waiting.length))) : exec (.engineTake b) s = .next s := by
  rw [exec_engineTake, execEngineTake, runUnit_next _ _ hb, onSync_takes _ htakes]
  simp [hobj, htoken, hcount, hfull]

end

theorem posted_site (s : State) (b : Nat) (p : SyncPkt) (x : SyncObj) : SameSite b s (posted s b p x) := by
  refine ⟨rfl, ?_⟩
  simp only [posted, putObj, bumpSync, basinAt_putBasin]
  rfl

/-- The GRANTs to slots that are placed, in order. -/
theorem grants_sent {s : State} {b : Nat} {l : List (Nat × Nat)} {g : Nat → Nat} (o : Nat)
    (h : ∀ y ∈ l, PlacedFor s b y.1 (g y.1)) :
    Sent b s (forEach l (fun s w => sendGrant s b o w) s) (l.map fun y =>
      { type := 4, epoch := stampOf s (engineAt b), obj := o, home := b, slot := y.1, tslot := y.2, val := 1,
        src := engineAt b, dst := g y.1 }) :=
  forEach_sent fun t ht y hy => by
    rw [← ht.stamp]
    exact sendAnswer_sent 3 (ht.placed (h y hy))

/-- Settles O18: POSTs and TAKEs of a token object at its engine. -/
theorem tokenPool : Obligations.TokenPool := by
  intro s b p x g hb hobj htoken s1 s2 n
  refine ⟨fun htakes hcount hplaced => ?_, enginePost_overflows hb hobj htoken, engineTake_granted hb hobj htoken,
    engineTake_waits hb hobj htoken, engineTake_full hb hobj htoken⟩
  have hsite := posted_site s b p x
  have hsent := grants_sent p.obj fun y hy => hsite.placed (hplaced y (List.mem_of_mem_take (i := n) hy))
  refine ⟨_, enginePost_adds hb hobj htoken htakes hcount, ?_, ?_⟩
  · rw [objAt_of_objs p.obj hsent.objs]
    exact objAt_putObj _ b p.obj _
  · rw [hsent.sync, hsite.stamp]
    rfl

end Sys2Proof.Machine

/-! PROOFS. The SYNC operations of station code (O17). -/

namespace Sys2Proof.Machine

/-! ### The sync table and the slot (R247, R248) -/

/-- Entering an object in the sync table leaves what the core recomputes. -/
theorem syncEntry_replay {c d : Core} {key : Nat} {e : SyncEnt} (h : syncEntry c key = some (e, d)) : d.replay = c.replay := by
  unfold syncEntry at h
  split at h
  · cases h; rfl
  · split at h <;> cases h; rfl

/-- A slot past a SYNC operation. -/
def slotPastSync (c : Core) (i : Nat) : Slot := { slotAt c i with st := .running, pc := (slotAt c i).pc + 1, adj := [] }

/-- A slot past a SYNC operation, held until the release of the phase it last arrived in. -/
def slotHeld (c : Core) (i : Nat) (e : SyncEnt) : Slot :=
  { slotPastSync c i with st := .sync, syncObj := e.obj, syncPhase := tabGet e.next i 0, takeWait := false }

/-- The entry after slot `i` has arrived. -/
def arrived (e : SyncEnt) (i : Nat) : SyncEnt := { e with next := tabSet e.next i ((tabGet e.next i 0 + 1) % 65536) }

theorem goOn_one (c : Core) (i : Nat) : goOn c i 1 = putSlot c i (slotPastSync c i) := rfl

theorem syncHold_released {e : SyncEnt} {i : Nat} (c : Core) (h : tabGet e.last i 0 = tabGet e.next i 0) :
    syncHold (goOn c i 1) i e = putSlot c i (slotPastSync c i) := by
  simp [syncHold, syncReleased, h, goOn_one]

theorem syncHold_held {e : SyncEnt} {i : Nat} (c : Core) (h : tabGet e.last i 0 ≠ tabGet e.next i 0) :
    syncHold (goOn c i 1) i e = putSlot c i (slotHeld c i e) := by
  simp [syncHold, syncReleased, h, goOn_one, slotHeld]

/-- TAKE holds its slot for the GRANT. -/
theorem takeHold_goOn (c : Core) (i obj : Nat) :
    putSlot (goOn c i 1) i { slotAt (goOn c i 1) i with st := .sync, syncObj := obj, takeWait := true } =
      putSlot c i { slotPastSync c i with st := .sync, syncObj := obj, takeWait := true } := by
  simp [goOn_one]

/-! ### A SYNC operation at its slot's code offset (R230, R245, R388) -/

/-- A sync packet that a core offers to the mesh, where it recomputes nothing (R245, R388). -/
theorem applyEvs_sync (s : State) (k : Nat) {c : Core} (p : SyncPkt) (h : c.replay = none) :
    applyEvs k (putCore s k c) [.sync p] = sendSync (putCore s k c) p := by
  simp [applyEv, hears, effectOf, h]

/-- Task slot `i` of core `k` stands at a SYNC operation outside any recomputation: `e` is its object's entry in the core `d`, in
whose table it is (R187, R247). -/
structure SyncAt (s : State) (k i : Nat) (w : BitVec 128) (e : SyncEnt) (d : Core) : Prop where
  issues : IssuesAt s k i w
  op : opOp w = 0x0B
  replay : (coreAt s k).replay = none
  entry : ∃ b, imgBasin s k (bits (opB w) 11 8) = some b ∧ syncEntry (coreAt s k) (syncKey b (bits (opB w) 7 0)) = some (e, d)

section
variable {s : State} {k i a : Nat} {w : BitVec 128} {e : SyncEnt} {d c : Core}
  {f : State → Core → BitVec 128 → SyncEnt → Core × List Ev}

/-- A SYNC operation performs its action on its object's entry. -/
theorem syncOp_next {l : List Ev} (h : SyncAt s k i w e d) (hA : opA w = a) (ha : a ≤ 4) (hf : f s d w e = (c, l)) :
    syncOp a k i f s = .next (applyEvs k (putCore s k c) l) := by
  obtain ⟨b, hhome, hentry⟩ := h.entry
  exact stationOp_next h.issues h.op (by decide) (by simp [hA, Nat.not_lt.mpr ha, h.replay, hhome, hentry, hf])

/-- A SYNC operation that sends a packet. -/
theorem syncOp_sends {p : SyncPkt} (h : SyncAt s k i w e d) (hA : opA w = a) (ha : a ≤ 4) (hf : f s d w e = (c, [.sync p]))
    (hc : c.replay = d.replay) : syncOp a k i f s = .next (sendSync (putCore s k c) p) := by
  obtain ⟨b, -, hentry⟩ := h.entry
  have hreplay : c.replay = none := by rw [hc, syncEntry_replay hentry, h.replay]
  rw [syncOp_next h hA ha hf, applyEvs_sync s k p hreplay]

/-- In a recomputation a SYNC operation completes at once. -/
theorem syncOp_replayed (h : IssuesAt s k i w) (hop : opOp w = 0x0B) (hreplay : (coreAt s k).replay.isSome = true)
    (hA : opA w = a) (ha : a ≤ 4) :
    syncOp a k i f s = .next (putCore s k (putSlot (coreAt s k) i (slotPastSync (coreAt s k) i))) :=
  stationOp_next h (l := []) hop (by decide) (by simp [hA, Nat.not_lt.mpr ha, hreplay, goOn_one])

end

section
variable {s : State} {k i : Nat} {w : BitVec 128} {e : SyncEnt} {d : Core} (h : SyncAt s k i w e d)
include h

theorem arrive_next (hA : opA w = 0) : exec (.arrive k i) s =
    .next (sendSync (putCore s k (putSlot (putSync d (arrived e i)) i (slotPastSync d i)))
      (syncPkt s d k i 0 e.obj (tabGet e.next i 0))) :=
  syncOp_sends h hA (by decide) rfl rfl

theorem syncWait_released (hA : opA w = 1) (hlast : tabGet e.last i 0 = tabGet e.next i 0) :
    exec (.syncWait k i) s = .next (putCore s k (putSlot d i (slotPastSync d i))) :=
  syncOp_next h (l := []) hA (by decide) (congrArg (·, []) (syncHold_released d hlast))

theorem syncWait_held (hA : opA w = 1) (hlast : tabGet e.last i 0 ≠ tabGet e.next i 0) :
    exec (.syncWait k i) s = .next (putCore s k (putSlot d i (slotHeld d i e))) :=
  syncOp_next h (l := []) hA (by decide) (congrArg (·, []) (syncHold_held d hlast))

theorem arriveWait_held (hA : opA w = 2) (hlast : tabGet e.last i 0 ≠ tabGet (arrived e i).next i 0) :
    exec (.arriveWait k i) s =
    .next (sendSync (putCore s k (putSlot (putSync d (arrived e i)) i (slotHeld d i (arrived e i))))
      (syncPkt s d k i 0 e.obj (tabGet e.next i 0))) :=
  syncOp_sends h hA (by decide) (congrArg (·, _) (syncHold_held (e := arrived e i) (putSync d (arrived e i)) hlast)) rfl

theorem arriveWait_released (hA : opA w = 2) (hlast : tabGet e.last i 0 = tabGet (arrived e i).next i 0) :
    exec (.arriveWait k i) s =
    .next (sendSync (putCore s k (putSlot (putSync d (arrived e i)) i (slotPastSync d i)))
      (syncPkt s d k i 0 e.obj (tabGet e.next i 0))) :=
  syncOp_sends h hA (by decide) (congrArg (·, _) (syncHold_released (e := arrived e i) (putSync d (arrived e i)) hlast)) rfl

theorem post_next (hA : opA w = 3) : exec (.post k i) s =
    .next (sendSync (putCore s k (putSlot d i (slotPastSync d i))) (syncPkt s d k i 1 e.obj (opC w % 65536))) :=
  syncOp_sends h hA (by decide) rfl rfl

theorem take_next (hA : opA w = 4) : exec (.take k i) s =
    .next (sendSync (putCore s k (putSlot d i { slotPastSync d i with st := .sync, syncObj := e.obj, takeWait := true }))
      (syncPkt s d k i 2 e.obj 1)) :=
  syncOp_sends h hA (by decide) (congrArg (·, _) (takeHold_goOn d i e.obj)) rfl

end

/-- The claim on the SYNC operations. -/
theorem syncOperations : Claims.SyncOperations := by
  intro s k i b w e d h hop hreplay hhome hentry t p sent e1
  have hat : SyncAt s k i w e d := ⟨h, hop, hreplay, b, hhome, hentry⟩
  exact ⟨arrive_next hat, syncWait_released hat, syncWait_held hat, arriveWait_held hat, arriveWait_released hat,
    post_next hat, take_next hat⟩

/-- The claim on the SYNC operations of a recomputation. -/
theorem syncReplayed : Claims.SyncReplayed := by
  intro s k i w h hop hreplay c t
  refine ⟨?_, ?_, ?_, ?_, ?_⟩ <;> exact fun hA => syncOp_replayed h hop hreplay hA (by decide)

end Sys2Proof.Machine

/-! PROOFS. Barriers at their engine, answers at their core, and sync packets that are discarded (O17). -/

namespace Sys2Proof.Machine

theorem exec_release (k : Nat) (s : State) : exec (.release k) s = execRelease k s := rfl
theorem exec_grant (k : Nat) (s : State) : exec (.grant k) s = execGrant k s := rfl

/-! ### Barriers (R248, R250) -/

/-- Where the current phase is not complete, no phase completes. -/
theorem completePhases_open {s : State} {b o : Nat} {x : SyncObj} (own n : Nat) (hobj : objAt s b o = some x)
    (hopen : x.cur.length < x.participants) : completePhases s b o own n = s := by
  cases n with
  | zero => rfl
  | succ n => simp [completePhases, hobj, Nat.not_le.mpr hopen]

/-- A phase of a barrier of this module that is complete, and the next one not: it alone is released. -/
theorem completePhases_once {s : State} {b o : Nat} {x : SyncObj} (own n : Nat) (hobj : objAt s b o = some x)
    (hfull : x.cur.length = x.participants) (hsome : x.participants ≠ 0) (hlocal : x.replica = false)
    (hnext : x.nxt.length < x.participants) :
    completePhases s b o own (n + 1) = putObj (releaseAll s b o x own) b o (nextPhase x) := by
  rw [completePhases, hobj]
  have hready : x.participants ≤ x.cur.length ∧ x.participants ≠ 0 ∧ ownsPhase s b x = true :=
    ⟨hfull.ge, hsome, by simp [ownsPhase, hlocal]⟩
  exact (if_pos hready).trans (completePhases_open own n (objAt_putObj _ b o _) hnext)

/-- The RELEASEs of a barrier of this module whose arrivals are all of it, in the order of the arrivals. -/
theorem releases_sent {s : State} {b own : Nat} {x : SyncObj} {g : Nat → Nat} (o : Nat) (hlocal : x.replica = false)
    (h : ∀ y ∈ x.cur, y.1 = own ∧ PlacedFor s b y.2.1 (g y.2.1)) :
    Sent b s (releaseAll s b o x own) (x.cur.map fun y =>
      { type := 3, epoch := stampOf s (engineAt b), obj := o, home := b, slot := y.2.1, tslot := y.2.2, val := x.phase,
        src := engineAt b, dst := g y.2.1 }) := by
  have hown : x.cur.filter (fun a => a.1 == own) = x.cur := List.filter_eq_self.mpr fun y hy => by simp [(h y hy).1]
  simp only [releaseAll, hlocal, hown, Bool.not_false, if_true]
  refine forEach_sent fun t ht y hy => ?_
  rw [← ht.stamp]
  exact sendAnswer_sent 1 (ht.placed (h y hy).2)

/-- A barrier whose current phase has counted one more arrival. -/
def counted (s : State) (x : SyncObj) (a : Nat × Nat × Nat) : SyncObj := { x with cur := x.cur ++ [a], lastTick := s.sup.ticks }

section
variable {s : State} {b : Nat} {p : SyncPkt} {x : SyncObj} (hobj : objAt s b p.obj = some x) (hbarrier : x.isToken = false)
  (hphase : p.val = x.phase)
include hobj hbarrier hphase

/-- An arrival that is counted already changes nothing. -/
theorem arriveObj_again {src : Nat} (h : x.cur.contains (src, p.slot, p.tslot) = true) : arriveObj s b p src = s := by
  simp [arriveObj, hobj, hbarrier, hphase, -List.contains_eq_mem, h]

/-- An arrival of the current phase at a barrier of this module is counted, and the phase completes where it was the last. -/
theorem arriveObj_counts {src : Nat} (hlocal : x.replica = false) (h : x.cur.contains (src, p.slot, p.tslot) = false) :
    arriveObj s b p src = completePhases (putObj s b p.obj (counted s x (src, p.slot, p.tslot))) b p.obj
      (epOf (ctxAt s (ownerOf s b))) 2 := by
  have hlate : lateArrival s b x src false = s := by simp [lateArrival, hlocal]
  simp [arriveObj, hobj, hbarrier, hphase, -List.contains_eq_mem, h, hlate, counted]

end

/-- At a barrier of this module an arrival goes no further than its engine. -/
theorem localArrive_local {s : State} {b : Nat} {p : SyncPkt} {x : SyncObj} (hobj : objAt s b p.obj = some x)
    (hlocal : x.replica = false) : localArrive s b p = arriveObj s b p (epOf (ctxAt s (ownerOf s b))) := by
  simp [localArrive, hobj, hlocal]

theorem engineArrive_local {s : State} {b : Nat} {p : SyncPkt} {x : SyncObj} (hb : b < 16)
    (htakes : SyncTakes s (syncFor s b 0) p) (hobj : objAt s b p.obj = some x) (hlocal : x.replica = false) :
    exec (.engineArrive b) s = .next (bumpSync (arriveObj (dropSync s p) b p (epOf (ctxAt s (ownerOf s b)))) b 0 1) := by
  have hlocally : localArrive (dropSync s p) b p = _ := localArrive_local hobj hlocal
  rw [exec_engineArrive, execEngineArrive, runUnit_next _ _ hb, onSync_takes _ htakes, hlocally]
  rfl

/-- The claim on barriers. -/
theorem barrierArrival : Claims.BarrierArrival := by
  intro s b p x g hb htakes hobj hbarrier hlocal hphase _ own a s1 s2
  have hobj1 : objAt s1 b p.obj = some x := hobj
  have hobj2 : objAt s2 b p.obj = some (counted s x a) := objAt_putObj _ _ _ _
  have hcounts (h : x.cur.contains a = false) : arriveObj s1 b p own = completePhases s2 b p.obj own 2 :=
    arriveObj_counts hobj1 hbarrier hphase hlocal h
  rw [engineArrive_local hb htakes hobj hlocal]
  refine ⟨fun h => ?_, fun h hmore => ?_, fun h hlast hnext hplaced => ?_⟩
  · rw [arriveObj_again hobj1 hbarrier hphase h]
  · have hopen : (counted s x a).cur.length < (counted s x a).participants := by simpa [counted] using hmore
    rw [hcounts h, completePhases_open own 2 hobj2 hopen]
  · have hfull : (counted s x a).cur.length = (counted s x a).participants := by simpa [counted] using hlast
    have hsome : (counted s x a).participants ≠ 0 := by simp only [counted]; omega
    have hsite : SameSite b s s2 := ⟨rfl, by simp only [s2, putObj, basinAt_putBasin]; rfl⟩
    have hsent := releases_sent (x := counted s x a) (own := own) p.obj hlocal
      fun y hy => ⟨(hplaced y hy).1, hsite.placed (hplaced y hy).2⟩
    rw [hcounts h, completePhases_once own 1 hobj2 hfull hsome hlocal hnext]
    refine ⟨_, rfl, ?_, ?_⟩
    · rw [objAt_bumpSync, objAt_putObj]
      rfl
    · exact hsent.sync.trans (by rw [hsite.stamp]; rfl)

/-! ### Answers at their core (R248 to R251) -/

section
variable {s : State} {k : Nat} {p : SyncPkt} (hk : k < nCores) (hfree : (coreAt s k).holding = false)
include hk hfree

theorem release_next (htakes : SyncTakes s (answerFor s k 3) p) :
    exec (.release k) s = .next (takeAnswerSync s k p releaseSlot) := by
  have hsel : SyncTakes s (if (coreAt s k).holding then none else answerFor s k 3) p := by simpa [hfree] using htakes
  rw [exec_release, execRelease, runUnit_next _ _ hk, onSync_takes _ hsel]

theorem grant_next (htakes : SyncTakes s (answerFor s k 4) p) :
    exec (.grant k) s = .next (takeAnswerSync s k p grantSlot) := by
  have hsel : SyncTakes s (if (coreAt s k).holding then none else answerFor s k 4) p := by simpa [hfree] using htakes
  rw [exec_grant, execGrant, runUnit_next _ _ hk, onSync_takes _ hsel]

end

theorem takeAnswerSync_held {s : State} {k : Nat} (p : SyncPkt) (f : Core → SyncPkt → Core) (h : (coreAt s k).held = true) :
    takeAnswerSync s k p f = dropSync s p := by
  simp [takeAnswerSync, h]

theorem takeAnswerSync_taken {s : State} {k : Nat} {p : SyncPkt} (f : Core → SyncPkt → Core) (h : (coreAt s k).held = false)
    (hslot : (coreAt s k).slot = some p.slot) : takeAnswerSync s k p f = putCore (dropSync s p) k (f (coreAt s k) p) := by
  simp [takeAnswerSync, h, hslot]

/-- The slot that waits for a release goes on. -/
theorem releaseSlot_frees {c : Core} {p : SyncPkt} (hst : (slotAt c p.tslot).st = .sync)
    (hobj : (slotAt c p.tslot).syncObj = syncKey p.home p.obj) (htake : (slotAt c p.tslot).takeWait = false)
    (hphase : (slotAt c p.tslot).syncPhase = (p.val + 1) % 65536) :
    (releaseSlot c p).slots = tabSet c.slots p.tslot { slotAt c p.tslot with st := .running } := by
  have hwaits := And.intro hst (And.intro htake (And.intro hobj hphase))
  exact congrArg Core.slots (if_pos hwaits)

/-- The slot that waits for a grant goes on. -/
theorem grantSlot_frees {c : Core} {p : SyncPkt} (hst : (slotAt c p.tslot).st = .sync)
    (hobj : (slotAt c p.tslot).syncObj = syncKey p.home p.obj) (htake : (slotAt c p.tslot).takeWait = true) :
    grantSlot c p = putSlot c p.tslot { slotAt c p.tslot with st := .running, takeWait := false } :=
  if_pos ⟨hst, htake, hobj⟩

/-- The claim on RELEASEs and GRANTs. -/
theorem syncAnswers : Claims.SyncAnswers := by
  intro s k p hk c t hfree hst hobj
  refine ⟨fun htakes hheld => ?_, fun htakes hheld => ?_, fun htakes hheld hslot htake hphase => ?_,
    fun htakes hheld hslot htake => ?_⟩
  · rw [release_next hk hfree htakes, takeAnswerSync_held p _ hheld]
  · rw [grant_next hk hfree htakes, takeAnswerSync_held p _ hheld]
  · have hslots := releaseSlot_frees hst hobj htake hphase
    refine ⟨releaseSlot c p, ?_, ?_, fun j hj => ?_⟩
    · rw [release_next hk hfree htakes, takeAnswerSync_taken _ hheld hslot]
    · rw [slotAt, hslots, tabGet_tabSet_self]
    · rw [slotAt, hslots, tabGet_tabSet_ne _ _ _ hj, slotAt]
  · rw [grant_next hk hfree htakes, takeAnswerSync_taken _ hheld hslot, grantSlot_frees hst hobj htake]

/-! ### Sync packets that are discarded (R220, R226, R227, R245) -/

theorem mesh_of_unstopped {s t : State} (h : unstopped t = unstopped s) : t.mesh = s.mesh := (congrArg State.mesh h :)

theorem triggerReset_mesh (s : State) (n : Nat) (set : List Nat) (trig slot : Nat) (drain : Bool) :
    (triggerReset s n set trig slot drain).mesh = s.mesh := by
  obtain ⟨x, bs, heq⟩ := triggerReset_cases s n set trig slot drain
  rw [heq]
  exact forEach_keeps (f := enterReset) State.mesh (fun s b _ => mesh_of_unstopped (enterReset_unstopped s b)) _

theorem gapLoss_mesh (s : State) (d count : Nat) (sets : Nat → List Nat) : (gapLoss s d count sets).mesh = s.mesh := by
  refine forEach_keeps State.mesh (fun s n _ => ?_) s
  split
  · rfl
  · exact triggerReset_mesh _ _ _ _ _ _

theorem gapSync_sync (s : State) (p : SyncPkt) (k d : Nat) : (gapSync s p k d).mesh.sync = s.mesh.sync.erase p := by
  unfold gapSync
  extract_lets s1 s2
  rw [gapLoss_mesh]
  rfl

theorem suspectCore_first {s : State} {k : Nat} (reason : Nat) (h : (coreAt s k).suspect = none) :
    suspectCore s k reason = putCore s k { coreAt s k with suspect := some reason } := by
  rw [suspectCore, h]

/-- A packet with a reserved TYPE discarded, counted and raised. -/
def badSyncRaised (s : State) (p : SyncPkt) : State :=
  basinEvent (bumpRouter (leaveSync s p.src p) p.src 64 1) (basinOf p.src) evMeshHdrInvalid 0 0 0

theorem badSync_eq (s : State) (p : SyncPkt) : badSync s p = suspectCore (badSyncRaised s p) p.src 1 := rfl

theorem badSyncRaised_router (s : State) (p : SyncPkt) : routerAt (badSyncRaised s p) p.src =
    { routerAt (leaveSync s p.src p) p.src with ctr := bump (routerAt (leaveSync s p.src p) p.src).ctr 64 1 } :=
  routerAt_putRouter (leaveSync s p.src p) p.src _

theorem leaveSync_ctr (s : State) (p : SyncPkt) (k : Nat) : (routerAt (leaveSync s k p) k).ctr = (routerAt s k).ctr :=
  (congrArg Router.ctr (routerAt_putRouter s k _) :)

/-- What becomes of a packet with a reserved TYPE. -/
theorem badSync_discards {s : State} {p : SyncPkt} (h : (coreAt s p.src).suspect = none) :
    (badSync s p).mesh.sync = s.mesh.sync.erase p ∧ (coreAt (badSync s p) p.src).suspect = some 1 ∧
    tabGet (routerAt (badSync s p) p.src).ctr 64 0 = (tabGet (routerAt s p.src).ctr 64 0 + 1) % 2 ^ 64 := by
  have hclear : (coreAt (badSyncRaised s p) p.src).suspect = none := h
  rw [badSync_eq, suspectCore_first 1 hclear, coreAt_putCore, routerAt_putCore]
  refine ⟨rfl, rfl, ?_⟩
  rw [badSyncRaised_router, bump, tabGet_tabSet_self, leaveSync_ctr]

/-- The claim on discarded sync packets. -/
theorem syncDiscarded : Claims.SyncDiscarded := by
  intro s b k d p hb
  refine ⟨fun honly htype _ hsuspect => ?_, fun htypes hgap => ⟨fun hsel => ?_, fun hsel => ?_, fun hsel => ?_, gapSync_sync s p k d⟩⟩
  · obtain ⟨hsync, hcore, hctr⟩ := badSync_discards hsuspect
    have hempty : (badSync s p).mesh.sync = [] := by rw [hsync, honly, List.erase_cons_head]
    refine ⟨badSync s p, ?_, hempty, hcore, hctr⟩
    rw [exec_engineArrive, execEngineArrive, runUnit_next _ _ hb]
    simp [onSync, honly, htype, syncFor, hempty]
  · rw [exec_engineArrive, execEngineArrive, runUnit_next _ _ hb, onSync_gap _ htypes hsel hgap]
  · rw [exec_enginePost, execEnginePost, runUnit_next _ _ hb, onSync_gap _ htypes hsel hgap]
  · rw [exec_engineTake, execEngineTake, runUnit_next _ _ hb, onSync_gap _ htypes hsel hgap]

/-- Settles O17: the SYNC operations, outside a recomputation and in one, barriers, answers, and packets that are discarded. -/
theorem syncObjects : Obligations.SyncObjects :=
  ⟨syncOperations, syncReplayed, barrierArrival, syncAnswers, syncDiscarded⟩

end Sys2Proof.Machine

/-! PROOFS. Barriers of replica scope: a RELEASE can touch the cores (O37). -/

namespace Sys2Proof.Machine

open Tests

/-- Part 1 with its own arrival of slot 7 at the replica barrier, and the three copies of that slot's placement all different. -/
def damagedPlacement : State :=
  { replica 1 [] with
      basins := [(0, { ctx := some 2, place := [(7, (1, 2, 3))],
                       objs := [(9, { barrier [(7, 7, 1)] with replica := true, phase := 4 })] })],
      cores := [(5, running [])] }

/-- The RELEASE meets every premise of the statement. -/
theorem damagedPlacement_takes :
    Arrives damagedPlacement 3 (wire (syncPkt9 8)) (syncPkt9 8) ∧ FabNext damagedPlacement 3 (syncPkt9 8) 2 5 ∧
    rxSync damagedPlacement 2 (syncPkt9 8) = some (0, { syncOfWord (leNat ((syncPkt9 8).payload.take 8)) with home := 0 }) ∧
    isHome (ctxAt damagedPlacement 2) = false := by
  decide +kernel

/-- Its translation finds no majority of the slot's placement: PLACE_VOTE_FAIL makes the slot's core suspect (R18, R378). -/
theorem damagedPlacement_release :
    next (fun t => (coreAt t 5).suspect == some 1) (exec (.fabRelease 3 (wire (syncPkt9 8))) damagedPlacement) = true := by
  decide +kernel

/-- Refutes O37: the RELEASE of a phase does not always leave the cores as they are. Where a waiting slot of this part has no
majority in its placement entry, the engine's PLACE_VOTE_FAIL makes the slot's core suspect. -/
theorem not_fabricBarriers : ¬ Obligations.FabricBarriers := by
  unfold Obligations.FabricBarriers
  intro h
  obtain ⟨harrives, hnext, hsync, hhome⟩ := damagedPlacement_takes
  obtain ⟨-, -, hrelease⟩ := h damagedPlacement 3 2 5 0 _ _ _ { barrier [(7, 7, 1)] with replica := true, phase := 4 }
    harrives (by decide) hnext hsync (by decide +kernel) rfl rfl
  obtain ⟨t, hexec, -, hcores⟩ := hrelease rfl hhome (by decide +kernel)
  have hsuspect := damagedPlacement_release
  have hleft : (coreAt t 5).suspect = none := by rw [coreAt, hcores]; rfl
  simp [hexec, next, hleft] at hsuspect

end Sys2Proof.Machine

/-! PROOFS. Contexts applied, torn down and cleared (O41). -/

namespace Sys2Proof.Machine

theorem exec_enable (n : Nat) (v : Bool) (s : State) : exec (.enable n v) s = execEnable n v s := rfl
theorem exec_apply (n : Nat) (s : State) : exec (.apply n) s = execApply n s := rfl
theorem exec_basinClearComplete (b : Nat) (s : State) : exec (.basinClearComplete b) s = execBasinClearComplete b s := rfl
theorem exec_teardown (n : Nat) (s : State) : exec (.teardown n) s = execTeardown n s := rfl
theorem exec_functionLevelReset (n : Nat) (s : State) :
    exec (.functionLevelReset n) s = execFunctionLevelReset n s := rfl
theorem exec_contextOutstandingZero (n : Nat) (s : State) :
    exec (.contextOutstandingZero n) s = execContextOutstandingZero n s := rfl
theorem exec_ctxQuarantine (n : Nat) (s : State) : exec (.ctxQuarantine n) s = execCtxQuarantine n s := rfl
theorem exec_contextClearComplete (n : Nat) (s : State) :
    exec (.contextClearComplete n) s = execContextClearComplete n s := rfl

/-! ### What the ports, the cores and the flags leave of contexts, basins and stacks -/

section
variable {s t : State} (h : unsent t = unsent s)
include h

theorem ctxs_of_unsent : t.ctxs = s.ctxs := (congrArg State.ctxs h :)
theorem cores_of_unsent : t.cores = s.cores := (congrArg State.cores h :)
theorem basins_of_unsent : t.basins = s.basins := (congrArg State.basins h :)
theorem hbms_of_unsent : t.hbms = s.hbms := (congrArg State.hbms h :)
theorem trust_of_unsent : t.trust = s.trust := (congrArg State.trust h :)

end

theorem mem_grantOf {s : State} {n b : Nat} : b ∈ grantOf s n ↔ b < 16 ∧ (basinAt s b).ctx = some n := by
  simp [grantOf]

theorem mem_bitList {w m b : Nat} : b ∈ bitList w m ↔ b < w ∧ bitAt m b = true := by
  simp [bitList]

theorem dropEntries_unsent (s : State) (n : Nat) : unsent (dropEntries s n) = unsent s := by
  unfold dropEntries
  generalize List.range 24 = l
  refine (forEach_keeps unsent (fun t p _ => ?_) _).trans ?_ <;> rfl

theorem putCtx_unsent {s t : State} (h : unsent t = unsent s) (n : Nat) (y : Ctx) : unsent (putCtx t n y) = unsent (putCtx s n y) :=
  congrArg (fun u : State => putCtx u n y) h

section
variable {x y : Ctx} (h : unflagged x = unflagged y)
include h

theorem act_of_unflagged : x.act = y.act := (congrArg Ctx.act h :)
theorem gen_of_unflagged : x.gen = y.gen := (congrArg Ctx.gen h :)
theorem st_of_unflagged : x.st = y.st := (congrArg Ctx.st h :)
theorem quarantined_of_unflagged : x.quarantined = y.quarantined := (congrArg Ctx.quarantined h :)

end

/-! ### The context of an APPLY (R322, R323, R437) -/

/-- A context but for its submission rings. -/
def unringed (x : Ctx) : Ctx := { x with sq := [], ringStop := 0 }

theorem applySq_unringed (x : Ctx) (i : Nat) : unringed (applySq x i) = unringed x := by
  unfold applySq
  split <;> rfl

theorem applySqs_unringed (l : List Nat) (x : Ctx) : unringed (l.foldl applySq x) = unringed x := by
  induction l generalizing x with
  | nil => rfl
  | cons i l ih => exact (ih _).trans (applySq_unringed x i)

theorem applyFields_act (x : Ctx) : (applyFields x).act = x.stg := rfl
theorem applyFields_gen (x : Ctx) : (applyFields x).gen = x.gen := (congrArg Ctx.gen (applySqs_unringed (List.range 8) x) :)
theorem applyFields_st (x : Ctx) : (applyFields x).st = x.st := (congrArg Ctx.st (applySqs_unringed (List.range 8) x) :)

/-- A context without its membership record: what a new endpoint ID or domain leaves of it (R450). -/
def recordless (x : Ctx) : Ctx := { x with fabEpoch := 0, record := none }

/-- The state once a changed endpoint ID or domain has dropped the entries of a context (R450). -/
def rehomed (s : State) (n : Nat) : State :=
  if bits (ctxAt s n).stg.fabId 35 0 = bits (ctxAt s n).act.fabId 35 0 then s
  else putCtx (dropEntries s n) n (recordless (ctxAt (dropEntries s n) n))

/-- A context after an APPLY: `x` as it was before, `y` with what it had staged in force, `old` the basins that it had. -/
def enteredCtx (x y : Ctx) (old : List Nat) : Ctx :=
  let y1 := if x.st = .free ∧ bitList 16 x.stg.grant ≠ [] then { y with st := .active, msgSeq := 0 } else y
  if old ≠ bitList 16 x.stg.grant ∧ x.layout.isNone then { y1 with image := none, wpkg := none } else y1

/-- The context that an APPLY leaves. -/
def appliedCtx (s : State) (n : Nat) : Ctx := enteredCtx (ctxAt s n) (applyFields (ctxAt (rehomed s n) n)) (grantOf s n)

/-- A basin granted to a context. -/
def basinGranted (n : Nat) (s : State) (b : Nat) : State := putBasin s b { basinAt s b with ctx := some n }

/-- A basin without a context, and being cleared. -/
def basinTaken (s : State) (b : Nat) : State :=
  putBasin s b { basinAt s b with ctx := none, clearing := true, armed := none }

/-- A basin taken away: HELD and being cleared. -/
def basinReleased (s : State) (b : Nat) : State := basinTaken (holdBasin s b) b

/-- The basins that an APPLY takes away, and those it adds. -/
def basinsLost (s : State) (n : Nat) : List Nat :=
  (grantOf s n).filter (fun b => !(bitList 16 (ctxAt s n).stg.grant).contains b)
def basinsWon (s : State) (n : Nat) : List Nat :=
  (bitList 16 (ctxAt s n).stg.grant).filter (fun b => !(grantOf s n).contains b)

/-- A state once the basins of an APPLY have changed hands. -/
def regranted (s : State) (n : Nat) (lost won : List Nat) : State :=
  forEach won (basinGranted n) (forEach lost basinReleased s)

theorem applyNow_eq (s : State) (n : Nat) : applyNow s n =
    evalReplaceAll (regranted (putCtx (rehomed s n) n (appliedCtx s n)) n (basinsLost s n) (basinsWon s n)) := rfl

/-- The new endpoint ID touches the ports, and of the contexts the record of its own. -/
theorem rehomed_unsent (s : State) (n : Nat) (y : Ctx) :
    unsent (putCtx (rehomed s n) n y) = unsent (putCtx s n y) := by
  unfold rehomed
  split
  · rfl
  · rw [putCtx_putCtx]
    exact putCtx_unsent (dropEntries_unsent s n) n y

section
variable {x y : Ctx} (h : recordless x = recordless y)
include h

theorem stg_of_recordless : x.stg = y.stg := (congrArg Ctx.stg h :)
theorem gen_of_recordless : x.gen = y.gen := (congrArg Ctx.gen h :)
theorem st_of_recordless : x.st = y.st := (congrArg Ctx.st h :)

end

theorem recordless_recordless (x : Ctx) : recordless (recordless x) = recordless x := rfl

theorem ctxAt_rehomed (s : State) (n : Nat) : recordless (ctxAt (rehomed s n) n) = recordless (ctxAt s n) := by
  unfold rehomed
  split
  · rfl
  · rw [ctxAt_putCtx, recordless_recordless, ctxAt, ctxs_of_unsent (dropEntries_unsent s n), ctxAt]

section
variable (x y : Ctx) (old : List Nat)

theorem enteredCtx_act : (enteredCtx x y old).act = y.act := by
  unfold enteredCtx
  dsimp only
  split <;> split <;> rfl

theorem enteredCtx_gen : (enteredCtx x y old).gen = y.gen := by
  unfold enteredCtx
  dsimp only
  split <;> split <;> rfl

theorem enteredCtx_st : (enteredCtx x y old).st =
    if x.st = .free ∧ bitList 16 x.stg.grant ≠ [] then .active else y.st := by
  unfold enteredCtx
  dsimp only
  split <;> split <;> rfl

end

theorem appliedCtx_act (s : State) (n : Nat) : (appliedCtx s n).act = (ctxAt s n).stg := by
  rw [appliedCtx, enteredCtx_act, applyFields_act, stg_of_recordless (ctxAt_rehomed s n)]

theorem appliedCtx_gen (s : State) (n : Nat) : (appliedCtx s n).gen = (ctxAt s n).gen := by
  rw [appliedCtx, enteredCtx_gen, applyFields_gen, gen_of_recordless (ctxAt_rehomed s n)]

theorem appliedCtx_st (s : State) (n : Nat) : (appliedCtx s n).st =
    if (ctxAt s n).st = .free ∧ bitList 16 (ctxAt s n).stg.grant ≠ [] then .active else (ctxAt s n).st := by
  rw [appliedCtx, enteredCtx_st, applyFields_st, st_of_recordless (ctxAt_rehomed s n)]

/-! ### The basins of an APPLY (R322) -/

/-- A basin that an APPLY has taken away. -/
structure Released (b : Nat) (s : State) : Prop where
  ctx : (basinAt s b).ctx = none
  clearing : (basinAt s b).clearing = true
  held : ∀ k ∈ coresOfBasin b, (coreAt s k).held = true

theorem basinAt_basinGranted_ne (n : Nat) (s : State) {a b : Nat} (h : b ≠ a) : basinAt (basinGranted n s a) b = basinAt s b :=
  basinAt_putBasin_ne s _ h

theorem basinAt_basinReleased_ne (s : State) {a b : Nat} (h : b ≠ a) : basinAt (basinReleased s a) b = basinAt s b := by
  rw [basinReleased, basinTaken, basinAt_putBasin_ne _ _ h, basinAt, basins_of_uncored (holdBasin_uncored s a), basinAt]

theorem basinTaken_released {s : State} {b : Nat} (h : ∀ k ∈ coresOfBasin b, (coreAt s k).held = true) :
    Released b (basinTaken s b) :=
  ⟨by rw [basinTaken, basinAt_putBasin], by rw [basinTaken, basinAt_putBasin], h⟩

theorem basinReleased_released (s : State) (b : Nat) : Released b (basinReleased s b) :=
  basinTaken_released (holdBasin_held s b)

theorem basinReleased_held {s : State} {k : Nat} (a : Nat) (h : (coreAt s k).held = true) :
    (coreAt (basinReleased s a) k).held = true := by
  rw [basinReleased, basinTaken, coreAt_putBasin]
  exact (holdBasin_stopping s a).held k h

theorem Released.kept_release {s : State} {a b : Nat} (h : Released b s) : Released b (basinReleased s a) := by
  by_cases hab : b = a
  · subst hab
    exact basinReleased_released s b
  · obtain ⟨hctx, hclearing, hheld⟩ := h
    have hbasin := basinAt_basinReleased_ne s hab
    exact ⟨by rw [hbasin, hctx], by rw [hbasin, hclearing], fun k hk => basinReleased_held a (hheld k hk)⟩

theorem Released.kept_grant {s : State} {n a b : Nat} (h : Released b s) (hab : b ≠ a) : Released b (basinGranted n s a) := by
  obtain ⟨hctx, hclearing, hheld⟩ := h
  have hbasin := basinAt_basinGranted_ne n s hab
  exact ⟨by rw [hbasin, hctx], by rw [hbasin, hclearing], hheld⟩

section
variable (s : State) (n b : Nat) (lost won : List Nat)

theorem basinAt_releases_ne (h : b ∉ lost) : basinAt (forEach lost basinReleased s) b = basinAt s b :=
  forEach_keeps (fun t => basinAt t b) (fun t _ ha => basinAt_basinReleased_ne t (ne_of_mem_of_not_mem ha h).symm) s

theorem basinAt_regranted_ne (hlost : b ∉ lost) (hwon : b ∉ won) : basinAt (regranted s n lost won) b = basinAt s b :=
  (forEach_keeps (fun t => basinAt t b)
    (fun t _ ha => basinAt_basinGranted_ne n t (ne_of_mem_of_not_mem ha hwon).symm) _).trans (basinAt_releases_ne s b lost hlost)

theorem regranted_won (h : b ∈ won) : (basinAt (regranted s n lost won) b).ctx = some n := by
  refine forEach_all (Q := fun b t => (basinAt t b).ctx = some n) (fun t a _ => ?_) (fun t a c _ ha => ?_) _ b h
  · rw [basinGranted, basinAt_putBasin]
  · by_cases hac : a = c
    · rw [hac, basinGranted, basinAt_putBasin]
    · rw [basinAt_basinGranted_ne n t hac, ha]

theorem regranted_lost (hlost : b ∈ lost) (hwon : b ∉ won) : Released b (regranted s n lost won) := by
  have hreleased : Released b (forEach lost basinReleased s) :=
    forEach_all (Q := Released) (fun t a _ => basinReleased_released t a) (fun _ _ _ _ h => h.kept_release) s b hlost
  exact forEach_holds (fun t a ha h => h.kept_grant (ne_of_mem_of_not_mem ha hwon).symm) hreleased

theorem basinReleased_ctxs (s : State) (b : Nat) : (basinReleased s b).ctxs = s.ctxs := by
  rw [basinReleased, basinTaken, putBasin_ctxs, holdBasin_ctxs]

theorem basinReleased_hbms (s : State) (b : Nat) : (basinReleased s b).hbms = s.hbms := by
  rw [basinReleased, basinTaken, putBasin_hbms, hbms_of_uncored (holdBasin_uncored s b)]

theorem regranted_ctxs : (regranted s n lost won).ctxs = s.ctxs :=
  (forEach_keeps (f := basinGranted n) State.ctxs (fun _ _ _ => rfl) _).trans
    (forEach_keeps State.ctxs (fun t a _ => basinReleased_ctxs t a) s)

theorem regranted_hbms : (regranted s n lost won).hbms = s.hbms :=
  (forEach_keeps (f := basinGranted n) State.hbms (fun _ _ _ => rfl) _).trans
    (forEach_keeps State.hbms (fun t a _ => basinReleased_hbms t a) s)

end

/-! ### APPLY -/

section
variable (s : State) (n : Nat)

theorem ctxAt_applyNow : unflagged (ctxAt (applyNow s n) n) = unflagged (appliedCtx s n) := by
  rw [applyNow_eq, evalReplaceAll_unflagged, ctxAt, regranted_ctxs, ← ctxAt, ctxAt_putCtx]

theorem applyNow_act : (ctxAt (applyNow s n) n).act = (ctxAt s n).stg :=
  (act_of_unflagged (ctxAt_applyNow s n)).trans (appliedCtx_act s n)

theorem applyNow_gen : (ctxAt (applyNow s n) n).gen = (ctxAt s n).gen :=
  (gen_of_unflagged (ctxAt_applyNow s n)).trans (appliedCtx_gen s n)

theorem applyNow_st : (ctxAt (applyNow s n) n).st =
    if (ctxAt s n).st = .free ∧ bitList 16 (ctxAt s n).stg.grant ≠ [] then .active else (ctxAt s n).st :=
  (st_of_unflagged (ctxAt_applyNow s n)).trans (appliedCtx_st s n)

theorem applyNow_hbms : (applyNow s n).hbms = s.hbms := by
  rw [applyNow_eq, hbms_of_unrecorded (evalReplaceAll_unrecorded _), regranted_hbms, hbms_of_unsent (rehomed_unsent s n _),
    putCtx_hbms]

theorem basinAt_applyNow (b : Nat) : basinAt (applyNow s n) b =
    basinAt (regranted (putCtx (rehomed s n) n (appliedCtx s n)) n (basinsLost s n) (basinsWon s n)) b := by
  rw [applyNow_eq, basinAt, evalReplaceAll_basins, basinAt]

theorem coreAt_applyNow (k : Nat) : coreAt (applyNow s n) k =
    coreAt (regranted (putCtx (rehomed s n) n (appliedCtx s n)) n (basinsLost s n) (basinsWon s n)) k := by
  rw [applyNow_eq, coreAt, evalReplaceAll_cores, coreAt]

variable {s n} {b : Nat}

/-- A basin that is staged is the context's: it has been before, or it is granted. -/
theorem applyNow_granted (hb : b < 16) (hnew : bitAt (ctxAt s n).stg.grant b = true) : (basinAt (applyNow s n) b).ctx = some n := by
  have hstaged : b ∈ bitList 16 (ctxAt s n).stg.grant := mem_bitList.2 ⟨hb, hnew⟩
  have hkept : b ∉ basinsLost s n := by simp [basinsLost, hstaged]
  rw [basinAt_applyNow]
  by_cases hold : b ∈ grantOf s n
  · rw [basinAt_regranted_ne _ _ _ _ _ hkept (by simp [basinsWon, hold]), basinAt, basins_of_unsent (rehomed_unsent s n _)]
    exact (mem_grantOf.1 hold).2
  · exact regranted_won _ _ _ _ _ (by simp [basinsWon, hold, hstaged])

theorem applyNow_released (hb : b < 16) (hnew : bitAt (ctxAt s n).stg.grant b = false) (hold : (basinAt s b).ctx = some n) :
    Released b (applyNow s n) := by
  have hunstaged : b ∉ bitList 16 (ctxAt s n).stg.grant := fun h => by simp [(mem_bitList.1 h).2] at hnew
  have hlost : b ∈ basinsLost s n := by simp [basinsLost, hunstaged, mem_grantOf.2 ⟨hb, hold⟩]
  obtain ⟨hctx, hclearing, hheld⟩ := regranted_lost (putCtx (rehomed s n) n (appliedCtx s n)) n b (basinsLost s n)
    (basinsWon s n) hlost (by simp [basinsWon, hunstaged])
  exact ⟨by rw [basinAt_applyNow, hctx], by rw [basinAt_applyNow, hclearing], fun k hk => by rw [coreAt_applyNow, hheld k hk]⟩

theorem applyNow_others (hnew : bitAt (ctxAt s n).stg.grant b = false) (hother : (basinAt s b).ctx ≠ some n) :
    basinAt (applyNow s n) b = basinAt s b := by
  have hunstaged : b ∉ bitList 16 (ctxAt s n).stg.grant := fun h => by simp [(mem_bitList.1 h).2] at hnew
  have hunowned : b ∉ grantOf s n := fun h => hother (mem_grantOf.1 h).2
  rw [basinAt_applyNow, basinAt_regranted_ne _ _ _ _ _ (by simp [basinsLost, hunowned]) (by simp [basinsWon, hunstaged]), basinAt,
    basins_of_unsent (rehomed_unsent s n _)]
  rfl

end

/-! ### A basin's clear completes (R156, R322) -/

/-- A core after the clear of its basin. -/
structure Freed (c : Core) : Prop where
  slot : c.slot = none
  held : c.held = false
  mem : c.mem = []

theorem freedCore_freed (c : Core) : Freed (freedCore c) := by
  unfold freedCore
  cases c.st <;> exact ⟨rfl, rfl, rfl⟩

theorem Freed.kept {s : State} {k : Nat} (h : Freed (coreAt s k)) (j : Nat) :
    Freed (coreAt (putCore s j (freedCore (coreAt s j))) k) := by
  by_cases hk : k = j
  · rw [hk, coreAt_putCore]
    exact freedCore_freed _
  · rwa [coreAt_putCore_ne _ _ hk]

theorem clearBasin_freed (s : State) {b k : Nat} (h : basinOf k = b) : Freed (coreAt (clearBasin s b) k) := by
  rw [clearBasin_eq, coreAt_putBasin, coreAt_putHbm]
  by_cases hk : k ∈ listedIn s b
  · refine forEach_all (Q := fun k t => Freed (coreAt t k)) (fun t j _ => ?_) (fun t k j _ hfreed => hfreed.kept j) s k hk
    rw [coreAt_putCore]
    exact freedCore_freed _
  · have hnone : coreAt s k = {} := tabGet_of_unlisted _ fun e he hek => hk (mem_listedIn.2 ⟨⟨e.2, hek ▸ he⟩, h⟩)
    refine forEach_holds (P := fun t => Freed (coreAt t k)) (fun t j _ hfreed => hfreed.kept j) ?_
    rw [hnone]
    exact ⟨rfl, rfl, rfl⟩

theorem clearBasin_poisonCw (s : State) (b : Nat) : (hbmAt (clearBasin s b) b).poisonCw = [] := by
  rw [clearBasin_eq, hbmAt_putBasin, hbmAt_putHbm, clearedHbm]

/-- The claim on ENABLE, APPLY and the clears that an APPLY begins. -/
theorem contextsApplied : Claims.ContextsApplied := by
  intro s n b v hn hb x
  refine ⟨?_, fun hbad => ?_, fun hok hlayout => ?_, fun hclearing => ?_, fun hidle => ?_⟩
  · rw [exec_enable, execEnable, runUnit_next _ _ hn]
  · rw [exec_apply, execApply, runUnit_next _ _ hn, if_neg (by simp [hbad])]
  · refine ⟨applyNow s n, ?_, applyNow_act s n, applyNow_gen s n, fun hfree => ?_, fun hactive => ?_, applyNow_granted hb,
      fun hnew hold => ?_, applyNow_others, applyNow_hbms s n⟩
    · rw [exec_apply, execApply, runUnit_next _ _ hn, if_pos hok]
    · rw [applyNow_st]
      by_cases hgrant : bitList 16 (ctxAt s n).stg.grant = [] <;> simp [x, hgrant, show (ctxAt s n).st = .free from hfree]
    · rw [applyNow_st, show (ctxAt s n).st = .active from hactive]
      rfl
    · obtain ⟨hctx, hclearing, hheld⟩ := applyNow_released hb hnew hold
      exact ⟨hctx, hclearing, hheld⟩
  · obtain ⟨hdone, hctx, hmem, -⟩ := clearBasin_blank s b
    refine ⟨clearBasin s b, ?_, hdone, hctx, fun a => by rw [hmem]; rfl, clearBasin_poisonCw s b, fun k _ hk => ?_⟩
    · rw [exec_basinClearComplete, execBasinClearComplete, runUnit_next _ _ hb, if_pos hclearing]
    · obtain ⟨hslot, hheld, hmem⟩ := clearBasin_freed s hk
      exact ⟨hslot, hheld, fun a => by rw [hmem]; rfl⟩
  · rw [exec_basinClearComplete, execBasinClearComplete, runUnit_next _ _ hb, if_neg (by simp [hidle])]

/-! ### Teardown (R298, R349, R350) -/

/-- The entries whose peers a closing context owes a CTX_CLOSE. -/
def keyedEnts (s : State) (n : Nat) : List Nat := (entsOf s n).filter (fun i => (entAt s i).keyed)

/-- An ACTIVE context after step 1 of its teardown. -/
def stoppingCtx (s : State) (n : Nat) : Ctx := { ctxAt s n with
  st := .stopping, gen := ((ctxAt s n).gen + 1) % 256, cmds := [], comps := [], store := [], lostRun := 0, staged := [], due := [],
  boundary := none, mbs := [], lateComps := [], loadPending := none,
  sessions := (ctxAt s n).sessions.map (fun t => { t with closing := none }), closesOwed := keyedEnts s n }

/-- What a teardown leaves but for its messages to peers. -/
theorem teardownCtx_unsent {s : State} {n : Nat} (h : (ctxAt s n).st = .active) :
    unsent (teardownCtx s n) = unsent (heldCtx s n (stoppingCtx s n)) := by
  unfold teardownCtx
  simp only [h]
  exact (tellParts_unsent _ n).trans (forEach_keeps unsent (fun t i _ => tellPeer_unsent t n i 3 _) _)

theorem heldCtx_held (s : State) (n : Nat) (y : Ctx) :
    ∀ b ∈ grantOf s n, ∀ k ∈ coresOfBasin b, (coreAt (heldCtx s n y) k).held = true :=
  forEach_all (Q := fun b t => ∀ k ∈ coresOfBasin b, (coreAt t k).held = true) (fun t b _ => holdBasin_held t b)
    (fun t _ b _ h k hk => (holdBasin_stopping t b).held k (h k hk)) _

/-- The claim on teardowns. -/
theorem teardown : Claims.Teardown := by
  intro s n hn x torn
  have hstops (h : x.st = .active) : torn (teardownCtx s n) := by
    have hframe := teardownCtx_unsent h
    have hctx : ctxAt (teardownCtx s n) n = stoppingCtx s n := by
      rw [ctxAt, ctxs_of_unsent hframe, heldCtx_ctxs, ← ctxAt, ctxAt_putCtx]
    have hcore (k : Nat) : coreAt (teardownCtx s n) k = coreAt (heldCtx s n (stoppingCtx s n)) k := by
      rw [coreAt, cores_of_unsent hframe, coreAt]
    have hbasins : (teardownCtx s n).basins = s.basins :=
      (basins_of_unsent hframe).trans (congrArg State.basins (heldCtx_untorn s n _) :)
    simp only [torn, hctx]
    exact ⟨rfl, rfl, rfl, rfl, rfl, rfl, rfl, fun b hb k hk => by rw [hcore]; exact heldCtx_held s n _ b hb k hk,
      fun b => by rw [basinAt, hbasins, basinAt]⟩
  refine ⟨fun h => ⟨teardownCtx s n, ?_, hstops h⟩, fun h => ?_, fun h hvf => ⟨teardownCtx s n, ?_, hstops h⟩, fun h => ?_⟩
  · rw [exec_teardown, execTeardown, runUnit_next _ _ hn]
  · rw [exec_teardown, execTeardown, runUnit_next _ _ hn, teardownCtx_of_inactive h]
  · rw [exec_functionLevelReset, execFunctionLevelReset, runUnit_next _ _ hn, if_neg hvf]
  · have hidle : forEach (List.range 16) teardownCtx s = s :=
      forEach_eq_self fun m hm => teardownCtx_of_inactive (h m (List.mem_range.1 hm))
    rw [exec_functionLevelReset, execFunctionLevelReset, runUnit_next _ _ (by decide), if_pos rfl, hidle]

/-! ### The end of a teardown (R298, R321, R350) -/

theorem finishLc_none {s : State} (h : s.trust.transition = none) : finishLc s = s := by simp [finishLc, h]

/-- A context that becomes FREE where no transition waits for it. -/
theorem freeCtx_eq {s : State} {n : Nat} (h : s.trust.transition = none) :
    freeCtx s n = putCtx (dropEntries s n) n { gen := (ctxAt s n).gen } :=
  finishLc_none (by rw [putCtx_trust, trust_of_unsent (dropEntries_unsent s n), h])

theorem freeCtx_basins {s : State} {n : Nat} (h : s.trust.transition = none) : (freeCtx s n).basins = s.basins := by
  rw [freeCtx_eq h, putCtx_basins, basins_of_unsent (dropEntries_unsent s n)]

theorem freeCtx_hbms {s : State} {n : Nat} (h : s.trust.transition = none) : (freeCtx s n).hbms = s.hbms := by
  rw [freeCtx_eq h, putCtx_hbms, hbms_of_unsent (dropEntries_unsent s n)]

theorem putUnits_unstopped (s : State) (b : Nat) (h : Hbm) (x : Basin) : unstopped (putBasin (putHbm s b h) b x) = unstopped s := rfl

theorem freeListed_unstopped (s : State) (b : Nat) : unstopped (freeListed s b) = unstopped s :=
  forEach_keeps (f := fun s k => putCore s k (freedCore (coreAt s k))) unstopped (fun _ _ _ => rfl) s

theorem clearBasin_unstopped (s : State) (b : Nat) : unstopped (clearBasin s b) = unstopped s := by
  rw [clearBasin_eq, putUnits_unstopped, freeListed_unstopped]

theorem ctxs_of_unstopped {s t : State} (h : unstopped t = unstopped s) : t.ctxs = s.ctxs := (congrArg State.ctxs h :)
theorem trust_of_unstopped {s t : State} (h : unstopped t = unstopped s) : t.trust = s.trust := (congrArg State.trust h :)
theorem trust_of_unrecorded {s t : State} (h : unrecorded t = unrecorded s) : t.trust = s.trust := (congrArg State.trust h :)

/-- The basins of a context cleared. -/
def grantCleared (s : State) (n : Nat) : State := forEach (grantOf s n) clearBasin (clearPlaces s (grantOf s n))

/-- A context's page without its layout, its staging and what its sessions held (R350 step 5). -/
def emptiedPage (x : Ctx) : Ctx :=
  { x with layout := none, image := none, wpkg := none, sessions := [], pages := [], scale := [], scaleNext := [] }

theorem clearPlaces_unstopped (s : State) (bs : List Nat) : unstopped (clearPlaces s bs) = unstopped s := by
  unfold clearPlaces
  generalize List.range 16 = l
  exact (forEach_keeps (f := fun s b => putBasin s b { basinAt s b with
    place := (basinAt s b).place.filter (fun e => !bs.contains (e.1 % 16384 / 1024)) }) unstopped (fun _ _ _ => rfl) s :)

section
variable (s : State) (n : Nat)

theorem grantCleared_unstopped : unstopped (grantCleared s n) = unstopped s :=
  (forEach_keeps unstopped (fun t b _ => clearBasin_unstopped t b) _).trans (clearPlaces_unstopped s _)

theorem grantCleared_ctxs : (grantCleared s n).ctxs = s.ctxs := ctxs_of_unstopped (grantCleared_unstopped s n)

theorem grantCleared_blank : ∀ b ∈ grantOf s n, BasinBlank b (grantCleared s n) :=
  forEach_all (Q := BasinBlank) (fun t b _ => clearBasin_blank t b) (fun t a b _ h => clearBasin_keeps_blank t a b h) _

/-- The context owns no basin any more. -/
theorem grantCleared_ungranted : grantOf (grantCleared s n) n = [] := by
  refine List.filter_eq_nil_iff.2 fun b hb => ?_
  by_cases hown : b ∈ grantOf s n
  · obtain ⟨-, hctx, -⟩ := grantCleared_blank s n b hown
    simp [hctx]
  · have hkept : basinAt (grantCleared s n) b = basinAt (clearPlaces s (grantOf s n)) b :=
      forEach_keeps (fun t => basinAt t b) (fun t a ha => basinAt_clearBasin_ne t (ne_of_mem_of_not_mem ha hown).symm) _
    have hother : (basinAt s b).ctx ≠ some n := fun h => hown (mem_grantOf.2 ⟨List.mem_range.1 hb, h⟩)
    rw [hkept, (clearPlaces_setUp s (grantOf s n)).owner b]
    simpa using hother

theorem clearCtx_eq :
    clearCtx s n = evalReplaceAll (putCtx (grantCleared s n) n (emptiedPage (ctxAt (grantCleared s n) n))) := rfl

theorem clearCtx_unrecorded : unrecorded (clearCtx s n) = unrecorded (grantCleared s n) := by
  rw [clearCtx_eq, evalReplaceAll_unrecorded]
  rfl

theorem clearCtx_hbm : ∀ b ∈ grantOf s n, ∀ a, memGet (hbmAt (clearCtx s n) b).mem a = 0 := by
  intro b hb a
  obtain ⟨-, -, hmem, -⟩ := grantCleared_blank s n b hb
  rw [hbmAt, hbms_of_unrecorded (clearCtx_unrecorded s n), ← hbmAt, hmem]
  rfl

theorem clearCtx_ungranted : grantOf (clearCtx s n) n = [] := by
  rw [(Grounded.of_unrecorded (clearCtx_unrecorded s n)).grantOf_eq, grantCleared_ungranted]

theorem clearCtx_trust : (clearCtx s n).trust = s.trust :=
  (trust_of_unrecorded (clearCtx_unrecorded s n)).trans (trust_of_unstopped (grantCleared_unstopped s n))

/-- What the clear keeps of the page of its context. -/
theorem ctxAt_clearCtx : unflagged (ctxAt (clearCtx s n) n) = unflagged (emptiedPage (ctxAt s n)) := by
  have hctx : ctxAt (grantCleared s n) n = ctxAt s n := by rw [ctxAt, grantCleared_ctxs, ctxAt]
  rw [clearCtx_eq, evalReplaceAll_unflagged, ctxAt_putCtx, hctx]

theorem clearCtx_gen : (ctxAt (clearCtx s n) n).gen = (ctxAt s n).gen := (gen_of_unflagged (ctxAt_clearCtx s n)).trans rfl

theorem clearCtx_quarantined : (ctxAt (clearCtx s n) n).quarantined = (ctxAt s n).quarantined :=
  (quarantined_of_unflagged (ctxAt_clearCtx s n)).trans rfl

end

/-- The claim on the end of a teardown. -/
theorem contextsCleared : Claims.ContextsCleared := by
  intro s n hn x
  have hzero (hanswered : allAnswered s n = true) (t : State)
      (h : (match x.st with
        | .stopping => putCtx s n { x with st := .clearing }
        | .clearing => putCtx s n { x with quarantined := false }
        | .quarantine => freeCtx s n
        | .free => s
        | .active => s) = t) : exec (.contextOutstandingZero n) s = .next t := by
    rw [exec_contextOutstandingZero, execContextOutstandingZero, runUnit_next _ _ hn]
    simp only [hanswered, Bool.not_true, Bool.false_eq_true, if_false]
    exact congrArg _ h
  have hclear (hst : x.st = .clearing) : exec (.contextClearComplete n) s =
      .next (if (ctxAt (clearCtx s n) n).quarantined
        then putCtx (clearCtx s n) n { ctxAt (clearCtx s n) n with st := .quarantine } else freeCtx (clearCtx s n) n) := by
    rw [exec_contextClearComplete, execContextClearComplete, runUnit_next _ _ hn, show (ctxAt s n).st = .clearing from hst]
  refine ⟨fun hst hall => ?_, fun hst hall => ?_, fun hsome => ?_, fun hst hsome => ?_, fun h => ?_, fun hst hq htr => ?_,
    fun hst hq => ?_, fun hst hall htr => ?_⟩
  · exact hzero hall _ (by rw [hst])
  · exact hzero hall _ (by rw [hst])
  · rw [exec_contextOutstandingZero, execContextOutstandingZero, runUnit_next _ _ hn]
    simp [hsome]
  · rw [exec_ctxQuarantine, execCtxQuarantine, runUnit_next _ _ hn, if_pos ⟨hst, hsome⟩]
  · rw [exec_ctxQuarantine, execCtxQuarantine, runUnit_next _ _ hn, if_neg (by rintro ⟨hst, hsome⟩; simp [x, hst, hsome] at h)]
  · have htr' : (clearCtx s n).trust.transition = none := by rw [clearCtx_trust, htr]
    have hlifted : (ctxAt (clearCtx s n) n).quarantined = false := (clearCtx_quarantined s n).trans hq
    refine ⟨freeCtx (clearCtx s n) n, ?_, ?_, ?_, fun b hb a => ?_⟩
    · rw [hclear hst, if_neg (by simp [hlifted])]
    · rw [freeCtx_eq htr', ctxAt_putCtx, clearCtx_gen]
    · rw [← clearCtx_ungranted s n]
      exact List.filter_congr fun b _ => by rw [basinAt, freeCtx_basins htr', basinAt]
    · rw [hbmAt, freeCtx_hbms htr', ← hbmAt]
      exact clearCtx_hbm s n b hb a
  · have hstays : (ctxAt (clearCtx s n) n).quarantined = true := (clearCtx_quarantined s n).trans hq
    refine ⟨putCtx (clearCtx s n) n { ctxAt (clearCtx s n) n with st := .quarantine }, ?_, ?_, fun b hb a => ?_⟩
    · rw [hclear hst, if_pos hstays]
    · rw [ctxAt_putCtx]
    · rw [hbmAt_putCtx]
      exact clearCtx_hbm s n b hb a
  · exact ⟨freeCtx s n, hzero hall _ (by rw [hst]), by rw [freeCtx_eq htr, ctxAt_putCtx]⟩

/-- Settles O41: contexts applied, torn down and cleared. -/
theorem contexts : Obligations.Contexts := ⟨contextsApplied, teardown, contextsCleared⟩

end Sys2Proof.Machine

/-! PROOFS. Keys of a pair: the answer to an SPDM message can find its lane without credit (O34). -/

namespace Sys2Proof.Machine

open Tests

theorem exec_mgmtSpdm (p : Nat) (w : WirePkt) (fin chainOk : Bool) (peer : PeerFacts) (s : State) :
    exec (.mgmtSpdm p w fin chainOk peer) s = execMgmtSpdm p w fin chainOk peer s := rfl

/-! ### A lane without credit (R276) -/

/-- Port `p` has no credit on the MGMT lane, and the module has sent nothing since `out`. -/
def MgmtStarved (p : Nat) (out : List Output) (s : State) : Prop :=
  tabGet (portAt s p).link.credit 2 0 = 0 ∧ s.out = out

section
variable {p : Nat} {out : List Output} {s : State} (h : MgmtStarved p out s)
include h

theorem MgmtStarved.putPort {x : Port} (hlink : x.link = (portAt s p).link) : MgmtStarved p out (putPort s p x) := by
  obtain ⟨hcredit, hout⟩ := h
  exact ⟨by rw [portAt_putPort, hlink, hcredit], hout⟩

theorem MgmtStarved.putTx (x : TxStream) : MgmtStarved p out (putTx s p x) := h.putPort rfl

theorem MgmtStarved.noRoom (lines : Nat) : linkRoom s p 2 lines = false := by
  simp [linkRoom, laneOf, h.1]

/-- What waits on the MGMT stream stays there. -/
theorem MgmtStarved.pumpTx (n i k : Nat) : MgmtStarved p out (pumpTx p n i 2 k s) := by
  cases k with
  | zero => exact h
  | succ k =>
    unfold Machine.pumpTx
    dsimp only
    split
    · rw [if_neg (by simp [h.noRoom])]
      exact h.putPort rfl
    · exact h

theorem MgmtStarved.queueTx (n i : Nat) {f : FabPkt} (hf : classOf f.type = 2) : MgmtStarved p out (queueTx s p n i f []) := by
  unfold Machine.queueTx
  simp only [hf, OfNat.ofNat_ne_zero, if_false]
  exact (h.putTx _).pumpTx n i _

/-- A management message stays in its stream. -/
theorem MgmtStarved.sendMgmt (n i code : Nat) (msg : List Byte) : MgmtStarved p out (sendMgmt s p n i code msg) :=
  forEach_holds (P := MgmtStarved p out) (fun _ _ _ ht => ht.queueTx n i rfl) h

end

/-! ### A message of one fragment (R291) -/

/-- A fragment acknowledged. -/
def fragAcked (s : State) (p : Nat) (f : FabPkt) : State :=
  ackDone (bumpPort (bumpPort s p 1 1) p 3 f.payload.length) p f.srcId f.dstId 2 f.seq false

/-- A message complete with its first fragment: its stream expects the next one from the start. -/
def fragJoined (s : State) (p : Nat) (f : FabPkt) : State :=
  putRx (fragAcked s p f) p { rxAt (fragAcked s p f) p f.srcId f.dstId 2 with frag := 0, buf := [] }

theorem takeFrag_whole {s : State} {p : Nat} {f : FabPkt} (n i : Nat) (act : State → Nat → Nat → List Byte → State)
    (hfirst : leNat (f.payload.take 2) = 0) (honly : leNat ((f.payload.drop 2).take 2) = 1)
    (hlen : leNat ((f.payload.drop 4).take 4) ≤ 504) (hfrag : (rxAt (fragAcked s p f) p f.srcId f.dstId 2).frag = 0) :
    takeFrag s p n i f act =
      act (fragJoined s p f) n i (((f.payload.drop 8).take 504).take (leNat ((f.payload.drop 4).take 4))) := by
  have hone : max 1 (ceilDiv (leNat ((f.payload.drop 4).take 4)) 504) = 1 := by
    unfold ceilDiv
    omega
  have hwhole : ¬ (leNat (f.payload.take 2) ≠ (rxAt (fragAcked s p f) p f.srcId f.dstId 2).frag ∨
      leNat ((f.payload.drop 2).take 2) ≠ max 1 (ceilDiv (leNat ((f.payload.drop 4).take 4)) 504)) := by
    rw [hfirst, hfrag, honly, hone]
    simp
  refine (if_neg hwhole).trans ?_
  rw [hfirst, honly, if_pos rfl, if_pos rfl, List.nil_append]
  rfl

/-- A management packet that the receive checks pass goes on to the action of its message. -/
theorem rxMgmt_goes {s s1 : State} {p code n i : Nat} {w : WirePkt} {f : FabPkt} (act : State → Nat → Nat → List Byte → State)
    (harrives : Arrives s p w f) (htype : f.type = 9) (hcode : f.code = code) (hgo : rxCheck (linkRx s p f.lines) p f = .go s1 n i) :
    rxMgmt p code w act s = .next (takeFrag s1 p n i f act) := by
  obtain ⟨hp, hup, hread⟩ := harrives
  rw [rxMgmt, rxLink, runUnit_next _ _ hp, hread]
  simp [hup, htype, hcode, hgo]

/-- A message of an SPDM session under way is answered on the MGMT stream of its pair. -/
theorem mgmtSpdm_answers {s s1 : State} {p n i : Nat} {w : WirePkt} {f : FabPkt} (chainOk : Bool) (peer : PeerFacts)
    (harrives : Arrives s p w f) (htype : f.type = 9) (hcode : f.code = 1) (hgo : rxCheck (linkRx s p f.lines) p f = .go s1 n i)
    (hfirst : leNat (f.payload.take 2) = 0) (honly : leNat ((f.payload.drop 2).take 2) = 1)
    (hlen : leNat ((f.payload.drop 4).take 4) ≤ 504) (hfrag : (rxAt (fragAcked s1 p f) p f.srcId f.dstId 2).frag = 0)
    (hvalid : (entAt (fragJoined s1 p f) i).valid = true) :
    exec (.mgmtSpdm p w false chainOk peer) s =
      .next (sendMgmt (fragJoined s1 p f) p n i 1 ((Config.answerWords 0x202 i).flatMap (leBytes 8))) := by
  rw [exec_mgmtSpdm, execMgmtSpdm, rxMgmt_goes _ harrives htype hcode hgo, takeFrag_whole n i _ hfirst honly hlen hfrag]
  simp [hvalid]

/-! ### The answer that waits -/

/-- The SPDM message of a pair that is not keyed. -/
def spdmHello : FabPkt := { mgmt 1 [1, 2] with clear := true, tag := 0 }

/-- A packet of the MGMT lane that takes all of the lane's credit. It is no ACK or NACK: the statement's premises do not say that
only those wait at a port for the link. -/
def lanePkt : FabPkt := { blankFab with type := 9, code := 2, lines := 98 }

/-- The pair of `pairing`, with that packet at port 3. -/
def crowdedLink : State :=
  { pairing with fab := { pairing.fab with ports := [(3, { upPort with ctlQ := [(2, 5, lanePkt)] })] } }

/-- The state that the receive checks leave. -/
def rxLeaves : Rx → State
  | .done s => s
  | .go s _ _ => s

/-- The receive checks pass a packet on to context 2 and its entry 5. -/
def rxGoes25 : Rx → Bool
  | .done _ => false
  | .go _ n i => n == 2 && i == 5

theorem eq_go_of_rxGoes25 {r : Rx} (h : rxGoes25 r = true) : r = .go (rxLeaves r) 2 5 := by
  cases r with
  | done s => cases h
  | go s n i =>
    obtain ⟨rfl, rfl⟩ : n = 2 ∧ i = 5 := by simpa [rxGoes25] using h
    rfl

/-- The message received and acknowledged: what waited for the link has gone out before the ACK. -/
def helloTaken : State := fragJoined (rxLeaves (rxCheck (linkRx crowdedLink 3 8) 3 spdmHello)) 3 spdmHello

/-- An output that would be the answer. -/
def isAnswer : Output → Bool
  | .fabric _ g => g.type == 9 && g.code == 1
  | _ => false

/-- The message meets every premise of the statement. -/
theorem crowdedLink_premises :
    Arrives crowdedLink 3 (wire spdmHello) spdmHello ∧ hdrOk spdmHello = true ∧ ctxOfEp crowdedLink spdmHello.dstId = some 2 ∧
    (ctxAt crowdedLink 2).quarantined = false ∧ entFor crowdedLink 2 spdmHello.srcId = some 5 ∧
    (entAt crowdedLink 5).valid = true ∧ (entAt crowdedLink 5).keyed = false ∧ spdmHello.clear = true ∧
    spdmHello.seq = (rxAt crowdedLink 3 spdmHello.srcId spdmHello.dstId 2).expected ∧
    (rxAt crowdedLink 3 spdmHello.srcId spdmHello.dstId 2).wait = [] := by
  decide +kernel

theorem spdmHello_whole :
    leNat (spdmHello.payload.take 2) = 0 ∧ leNat ((spdmHello.payload.drop 2).take 2) = 1 ∧
    leNat ((spdmHello.payload.drop 4).take 4) ≤ 504 ∧ (rxAt crowdedLink 3 spdmHello.srcId spdmHello.dstId 2).frag = 0 ∧
    spdmHello.type = 9 ∧ spdmHello.code = 1 := by
  decide +kernel

theorem crowdedLink_stream :
    (txAt crowdedLink 3 2 5 2).unacked = [] ∧ (txAt crowdedLink 3 2 5 2).sent = 0 ∧ (txAt crowdedLink 3 2 5 2).hold = 0 ∧
    1 ≤ (txAt crowdedLink 3 2 5 2).window ∧ linkRoom crowdedLink 3 2 8 = true := by
  decide +kernel

/-- The receive checks pass the message, and it is the first fragment of its stream. -/
theorem crowdedLink_goes : rxGoes25 (rxCheck (linkRx crowdedLink 3 8) 3 spdmHello) = true ∧
    (rxAt (fragAcked (rxLeaves (rxCheck (linkRx crowdedLink 3 8) 3 spdmHello)) 3 spdmHello) 3 spdmHello.srcId
      spdmHello.dstId 2).frag = 0 ∧ (entAt helloTaken 5).valid = true := by
  decide +kernel

theorem helloTaken_starved : MgmtStarved 3 helloTaken.out helloTaken := ⟨by decide +kernel, rfl⟩

theorem helloTaken_out : ∀ o ∈ helloTaken.out, isAnswer o = false := by decide +kernel

/-- The message is taken, and its answer is given to the MGMT stream. -/
theorem crowdedLink_hello : exec (.mgmtSpdm 3 (wire spdmHello) false true peerGood) crowdedLink =
    .next (sendMgmt helloTaken 3 2 5 1 ((Config.answerWords 0x202 5).flatMap (leBytes 8))) := by
  obtain ⟨harrives, -⟩ := crowdedLink_premises
  obtain ⟨hfirst, honly, hlen, -, htype, hcode⟩ := spdmHello_whole
  obtain ⟨hgo, hfrag, hvalid⟩ := crowdedLink_goes
  exact mgmtSpdm_answers true peerGood harrives htype hcode (eq_go_of_rxGoes25 hgo) hfirst honly hlen hfrag hvalid

/-- Refutes O34: what waits at a port for the link goes out before the ACK of an SPDM message, and can take the credit that the
answer needs (FabricKeys, the message of a session under way): the answer is queued and not sent. -/
theorem not_fabricPorts : ¬ Obligations.FabricPorts := by
  unfold Obligations.FabricPorts
  rintro ⟨-, hkeys, -⟩
  obtain ⟨-, hanswer, -⟩ := hkeys crowdedLink 3 2 5 (wire spdmHello) spdmHello true peerGood (by decide)
  obtain ⟨hunacked, hsent, hhold, hwindow, hroom⟩ := crowdedLink_stream
  obtain ⟨t, l, hexec, -, hout, g, hg, htype, hcode, -⟩ :=
    hanswer crowdedLink_premises spdmHello_whole hunacked hsent hhold hwindow hroom
  have ht : t.out = helloTaken.out := by
    rw [← Host.Outcome.next.inj (crowdedLink_hello.symm.trans hexec)]
    exact (helloTaken_starved.sendMgmt 2 5 1 _).2
  have hnone := helloTaken_out (.fabric 3 g) (by rw [← ht, hout]; exact List.mem_append_right _ hg)
  simp [isAnswer, htype, hcode] at hnone

end Sys2Proof.Machine

/-! PROOFS. Receive checks of the fabric (O36). -/

namespace Sys2Proof.Machine

theorem rxAt_of_rx {s t : State} {p : Nat} (h : (portAt t p).rx = (portAt s p).rx) (src dst cls : Nat) :
    rxAt t p src dst cls = rxAt s p src dst cls := by
  rw [rxAt, h, rxAt]

/-! ### A packet taken from the link (R276) -/

theorem portAt_linkRx (s : State) (p lines : Nat) :
    portAt (linkRx s p lines) p = { portAt s p with link := (portAt (linkRx s p lines) p).link } := by
  rw [linkRx, portAt_putPort]

theorem tabGet_creditAdded (more : Nat → Nat) (l : List Nat) (c : Tab Nat) (j : Nat) :
    tabGet c j 0 ≤ tabGet (l.foldl (fun c i => tabSet c i (tabGet c i 0 + more i)) c) j 0 := by
  induction l generalizing c with
  | nil => exact le_rfl
  | cons i l ih =>
    refine le_trans ?_ (ih _)
    by_cases hj : j = i
    · rw [hj, tabGet_tabSet_self]
      omega
    · rw [tabGet_tabSet_ne _ _ _ hj]

/-- What comes over a link leaves it the credit that it had. -/
theorem linkRoom_linkRx {s : State} {p cls k : Nat} (lines : Nat) (h : linkRoom s p cls k = true) :
    linkRoom (linkRx s p lines) p cls k = true := by
  simp only [linkRoom, Bool.and_eq_true, decide_eq_true_eq] at h ⊢
  obtain ⟨hup, hcredit⟩ := h
  rw [linkRx, portAt_putPort]
  exact ⟨hup, hcredit.trans (tabGet_creditAdded _ _ _ _)⟩

theorem answersNow_linkRx {s : State} {p n : Nat} (lines : Nat) (h : AnswersNow s p n) : AnswersNow (linkRx s p lines) p n := by
  obtain ⟨hfence, hqueue, hroom⟩ := h
  exact ⟨hfence, by rw [portAt_linkRx, hqueue], linkRoom_linkRx lines hroom⟩

theorem answersNow_bumpPort {s : State} {p n : Nat} (i k : Nat) (h : AnswersNow s p n) : AnswersNow (bumpPort s p i k) p n := by
  obtain ⟨hfence, hqueue, hroom⟩ := h
  refine ⟨hfence, ?_, ?_⟩
  · rw [Machine.bumpPort, portAt_putPort, hqueue]
  · rw [linkRoom, Machine.bumpPort, portAt_putPort]
    exact hroom

theorem answersNow_putRx {s : State} {p n : Nat} (r : RxStream) (h : AnswersNow s p n) : AnswersNow (putRx s p r) p n := by
  obtain ⟨hfence, hqueue, hroom⟩ := h
  refine ⟨hfence, ?_, ?_⟩
  · rw [Machine.putRx, portAt_putPort, hqueue]
  · rw [linkRoom, Machine.putRx, portAt_putPort]
    exact hroom

/-! ### What sending leaves (R276, R286, R290, R303) -/

theorem portAt_bumpPort (s : State) (p i k : Nat) :
    portAt (bumpPort s p i k) p = { portAt s p with ctr := bump (portAt s p).ctr i k } := portAt_putPort s p _

theorem bumpPort_ctr_ne (s : State) (p i k : Nat) {j : Nat} (h : j ≠ i) :
    tabGet (portAt (bumpPort s p i k) p).ctr j 0 = tabGet (portAt s p).ctr j 0 := by
  rw [portAt_bumpPort]
  exact tabGet_tabSet_ne _ _ _ h

/-- A counter of a port counts one more. -/
theorem bumpPort_ctr (s : State) (p i : Nat) :
    tabGet (portAt (bumpPort s p i 1) p).ctr i 0 = (tabGet (portAt s p).ctr i 0 + 1) % 2 ^ 64 := by
  rw [portAt_bumpPort]
  exact tabGet_tabSet_self _ _ _ _

/-- What sending at port `p` leaves: everything but ports, keys and outputs; what was sent before; the port's receiving streams,
and its counters but those of packets, bytes, repeats (0, 2, 7) and of lanes without credit (from 23 on). -/
structure Transmits (p : Nat) (s t : State) : Prop where
  frame : unsent t = unsent s
  sends : ∃ l, t.out = s.out ++ l
  rx : (portAt t p).rx = (portAt s p).rx
  ctr : ∀ j, j < 23 → j ≠ 0 → j ≠ 2 → j ≠ 7 → tabGet (portAt t p).ctr j 0 = tabGet (portAt s p).ctr j 0

theorem Transmits.refl (p : Nat) (s : State) : Transmits p s s := ⟨rfl, ⟨[], (List.append_nil _).symm⟩, rfl, fun _ _ _ _ _ => rfl⟩

theorem Transmits.trans {p : Nat} {s t u : State} (h : Transmits p s t) (g : Transmits p t u) : Transmits p s u := by
  obtain ⟨l, hl⟩ := h.sends
  obtain ⟨m, hm⟩ := g.sends
  exact ⟨g.frame.trans h.frame, ⟨l ++ m, by rw [hm, hl, List.append_assoc]⟩, g.rx.trans h.rx,
    fun j hj h0 h2 h7 => (g.ctr j hj h0 h2 h7).trans (h.ctr j hj h0 h2 h7)⟩

theorem forEach_transmits {α : Type} {p : Nat} {l : List α} {f : State → α → State} (h : ∀ s, ∀ a ∈ l, Transmits p s (f s a))
    (s : State) : Transmits p s (forEach l f s) :=
  forEach_holds (P := Transmits p s) (fun t a ha ht => ht.trans (h t a ha)) (.refl p s)

/-- A port whose receiving streams and counters stay. -/
theorem putPort_transmits {s : State} {p : Nat} {x : Port} (hrx : x.rx = (portAt s p).rx) (hctr : x.ctr = (portAt s p).ctr) :
    Transmits p s (putPort s p x) where
  frame := rfl
  sends := ⟨[], (List.append_nil _).symm⟩
  rx := by rw [portAt_putPort, hrx]
  ctr j _ _ _ _ := by rw [portAt_putPort, hctr]

theorem bumpPort_transmits (s : State) (p k : Nat) {i : Nat} (h : i = 0 ∨ i = 2 ∨ i = 7 ∨ 23 ≤ i) :
    Transmits p s (bumpPort s p i k) where
  frame := rfl
  sends := ⟨[], (List.append_nil _).symm⟩
  rx := by rw [portAt_bumpPort]
  ctr j _ _ _ _ := bumpPort_ctr_ne s p i k (by omega)

theorem putPair_transmits (p : Nat) (s : State) (k : PairKey) : Transmits p s (putPair s k) :=
  ⟨rfl, ⟨[], (List.append_nil _).symm⟩, rfl, fun _ _ _ _ _ => rfl⟩

theorem emit_transmits (p : Nat) (s : State) (o : Output) : Transmits p s (emit s o) :=
  ⟨rfl, ⟨[o], rfl⟩, rfl, fun _ _ _ _ _ => rfl⟩

/-- The state in which a packet is given to the link: its keys have counted it. -/
def keysUsed (s : State) (p i : Nat) (f : FabPkt) : State :=
  let cls := classOf f.type
  let k := keyAt s p i
  let q := pairKey s i
  let clear := !(entAt s i).keyed
  putPair (if clear then s else putKey s p { k with nctr := tabSet k.nctr cls (tabGet k.nctr cls 0 + 1) })
    { q with count := if clear then q.count else q.count + 1, ctrlTx := if cls = 3 then q.ctrlTx + 1 else q.ctrlTx }

/-- A packet sent: the link has taken it, the port has counted it, and it is an output. What it says is as it was given. -/
theorem sendFab_emits (s : State) (p n i : Nat) (f : FabPkt) : ∃ (g : FabPkt) (l : Link),
    sendFab s p n i f = emit (bumpPort (bumpPort
      (putPort (keysUsed s p i f) p { portAt (keysUsed s p i f) p with link := l }) p 0 1) p 2 f.payload.length) (.fabric p g) ∧
    g.type = f.type ∧ g.code = f.code ∧ g.addr = f.addr :=
  ⟨_, _, rfl, rfl, rfl, rfl⟩

theorem keysUsed_transmits (s : State) (p i : Nat) (f : FabPkt) : Transmits p s (keysUsed s p i f) := by
  unfold keysUsed
  dsimp only
  refine Transmits.trans ?_ (putPair_transmits p _ _)
  split
  · exact .refl p s
  · exact putPort_transmits rfl rfl

theorem sendFab_transmits (s : State) (p n i : Nat) (f : FabPkt) : Transmits p s (sendFab s p n i f) := by
  obtain ⟨g, l, heq, -⟩ := sendFab_emits s p n i f
  rw [heq]
  have hlink : Transmits p s (putPort (keysUsed s p i f) p { portAt (keysUsed s p i f) p with link := l }) :=
    (keysUsed_transmits s p i f).trans (putPort_transmits rfl rfl)
  exact ((hlink.trans (bumpPort_transmits _ p 1 (by omega))).trans (bumpPort_transmits _ p _ (by omega))).trans
    (emit_transmits p _ _)

theorem pumpTx_transmits (p n i cls k : Nat) (s : State) : Transmits p s (pumpTx p n i cls k s) := by
  induction k generalizing s with
  | zero => exact .refl p s
  | succ k ih =>
    unfold pumpTx
    dsimp only
    split
    · split
      · refine Transmits.trans ?_ (ih _)
        refine Transmits.trans ?_ (sendFab_transmits _ p n i _)
        refine Transmits.trans ?_ (putPort_transmits rfl rfl)
        split
        · exact bumpPort_transmits s p 1 (by omega)
        · exact .refl p s
      · exact bumpPort_transmits s p 1 (by omega)
    · exact .refl p s

theorem queueTx_transmits (s : State) (p n i : Nat) (f : FabPkt) (reqs : List Pkt) : Transmits p s (queueTx s p n i f reqs) := by
  unfold queueTx
  dsimp only
  refine Transmits.trans ?_ (pumpTx_transmits p n i _ _ _)
  refine Transmits.trans ?_ (putPort_transmits rfl rfl)
  split
  · exact putPort_transmits rfl rfl
  · exact .refl p s

theorem sendMgmt_transmits (s : State) (p n i code : Nat) (msg : List Byte) : Transmits p s (sendMgmt s p n i code msg) :=
  forEach_transmits (fun s _ _ => queueTx_transmits s p n i _ []) s

theorem sendRecord_transmits (s : State) (p n i : Nat) : Transmits p s (sendRecord s p n i) := by
  unfold sendRecord
  split
  · exact .refl p s
  · exact sendMgmt_transmits s p n i 2 _

/-! ### An ACK or NACK that goes out at once (R287, R292, R296) -/

/-- The ACK or NACK is sent, and it says what it was given to say. -/
theorem sendCtl_now {s : State} {p n i : Nat} (type cls reason seq : Nat) (poison : Bool) (echo : Nat) (h : AnswersNow s p n)
    (hvalid : (entAt s i).valid = true) : ∃ g : FabPkt,
      Transmits p s (sendCtl s p n i type cls reason seq poison echo) ∧
      (sendCtl s p n i type cls reason seq poison echo).out = s.out ++ [.fabric p g] ∧
      g.type = type ∧ g.code = cls + 4 * reason ∧ g.addr = seq := by
  obtain ⟨hfence, hqueue, hroom⟩ := h
  generalize hf : ({ blankFab with type := type, code := cls + 4 * reason, addr := seq, poison := poison, echo := echo } : FabPkt) = f
  have hsent : sendCtl s p n i type cls reason seq poison echo =
      sendFab (putPort s p { portAt s p with ctlQ := [] }) p n i f := by
    have hstill (q : List (Nat × Nat × FabPkt)) : linkRoom (putPort s p { portAt s p with ctlQ := q }) p 3 0 = true := by
      rw [linkRoom, portAt_putPort]
      exact hroom
    rw [sendCtl, hfence, hvalid]
    simp only [hf, hqueue, List.nil_append, List.length_nil, Bool.false_or, Bool.not_true, Bool.false_eq_true, if_false]
    simp only [pumpCtl, portAt_putPort, ctxAt_putPort, hfence, hstill, putPort_putPort, Bool.false_eq_true, if_false, if_true]
  have hcleared : Transmits p s (putPort s p { portAt s p with ctlQ := [] }) := putPort_transmits rfl rfl
  obtain ⟨g, l, heq, htype, hcode, haddr⟩ := sendFab_emits (putPort s p { portAt s p with ctlQ := [] }) p n i f
  rw [hsent]
  refine ⟨g, hcleared.trans (sendFab_transmits _ p n i f), ?_, ?_, ?_, ?_⟩
  · rw [heq]
    have hkeys : (keysUsed (putPort s p { portAt s p with ctlQ := [] }) p i f).out = s.out := by
      unfold keysUsed
      dsimp only
      split <;> rfl
    exact congrArg (· ++ [Output.fabric p g]) hkeys
  · rw [htype, ← hf]
  · rw [hcode, ← hf]
  · rw [haddr, ← hf]

/-! ### The rows of the receive checks (R292) -/

/-- A packet with a good header for a context that is not quarantined: rows 1 and 2 pass it. -/
structure Addressed (s : State) (f : FabPkt) (n : Nat) : Prop where
  header : hdrOk f = true
  ctx : ctxOfEp s f.dstId = some n
  open_ : (ctxAt s n).quarantined = false

/-- A packet that rows 1 to 4 pass: its source has an entry that is keyed, and it is sealed under the pair's keys. -/
structure Sealed (s : State) (f : FabPkt) (n i : Nat) : Prop extends Addressed s f n where
  entry : entFor s n f.srcId = some i
  keyed : (entAt s i).keyed = true
  sealed : f.clear = false
  auth : f.authOk = true
  phase : f.kph = (pairKey s i).rxPhase ∨ (pairKey s i).oldHeld = true

/-- A packet that rows 1 to 5 pass. -/
structure Fresh (s : State) (f : FabPkt) (n i : Nat) : Prop extends Sealed s f n i where
  order : classOf f.type = 3 → (pairKey s i).ctrlRx ≤ f.seq

section
variable {s : State} {f : FabPkt} {n i : Nat}

theorem Addressed.linkRx (p lines : Nat) (h : Addressed s f n) : Addressed (linkRx s p lines) f n := by
  obtain ⟨hheader, hctx, hopen⟩ := h
  exact ⟨hheader, hctx, hopen⟩

theorem Sealed.linkRx (p lines : Nat) (h : Sealed s f n i) : Sealed (linkRx s p lines) f n i := by
  obtain ⟨haddressed, hentry, hkeyed, hsealed, hauth, hphase⟩ := h
  exact ⟨haddressed.linkRx p lines, hentry, hkeyed, hsealed, hauth, hphase⟩

theorem Fresh.linkRx (p lines : Nat) (h : Fresh s f n i) : Fresh (linkRx s p lines) f n i := by
  obtain ⟨hsealed, horder⟩ := h
  exact ⟨hsealed.linkRx p lines, horder⟩

/-- Rows 1 to 8 pass what rows 1 to 5 pass. -/
theorem fresh_of_fabPasses (h : FabPasses s f n i) (hcls : classOf f.type ≠ 3) : Fresh s f n i := by
  obtain ⟨hheader, hctx, hopen, hentry, -, hkeyed, -, hclear, hauth, hphase, -⟩ := h
  exact ⟨⟨⟨hheader, hctx, hopen⟩, hentry, hkeyed, hclear, hauth, hphase⟩, fun h => absurd h hcls⟩

end

/-- Rows 7 and 8, and the order of the stream. -/
def genRows (s : State) (p n i : Nat) (f : FabPkt) : Rx :=
  if f.srcGen != (entAt s i).peerGen then .done (bumpPort s p 18 1)
  else if !dstGenOk (ctxAt s n) f then .done (sendCtl (bumpPort s p 18 1) p n i 6 (classOf f.type) 4 f.seq false 0)
  else seqRow s p n i f

section
variable {s : State} {p : Nat} {f : FabPkt} {n i : Nat}

theorem rxCheck_badHeader (h : hdrOk f = false) : rxCheck s p f = .done (bumpPort s p 11 1) := by simp [rxCheck, h]

theorem rxCheck_noContext (hheader : hdrOk f = true) (h : ctxOfEp s f.dstId = none) :
    rxCheck s p f = .done (bumpPort s p 12 1) := by
  simp [rxCheck, hheader, h]

theorem rxCheck_quarantined (hheader : hdrOk f = true) (hctx : ctxOfEp s f.dstId = some n)
    (h : (ctxAt s n).quarantined = true) : rxCheck s p f = .done (bumpPort s p 12 1) := by
  simp [rxCheck, hheader, hctx, h]

theorem rxCheck_unsealed (ha : Addressed s f n) (hentry : entFor s n f.srcId = some i) (hkeyed : (entAt s i).keyed = true)
    (h : f.clear = true ∨ f.authOk = false ∨ (f.kph ≠ (pairKey s i).rxPhase ∧ (pairKey s i).oldHeld = false)) :
    rxCheck s p f = .done (bumpPort s p 14 1) := by
  obtain ⟨hheader, hctx, hopen⟩ := ha
  have hbad : (f.clear || !f.authOk || (f.kph != (pairKey s i).rxPhase && !(pairKey s i).oldHeld)) = true := by
    simpa [or_assoc] using h
  simp [rxCheck, hheader, hctx, hopen, hentry, clearMgmt, hkeyed, hbad]

theorem rxCheck_old (hs : Sealed s f n i) (hcls : classOf f.type = 3) (h : f.seq < (pairKey s i).ctrlRx) :
    rxCheck s p f = .done (bumpPort s p 15 1) := by
  obtain ⟨⟨hheader, hctx, hopen⟩, hentry, hkeyed, hclear, hauth, hphase⟩ := hs
  have hgood : (f.kph != (pairKey s i).rxPhase && !(pairKey s i).oldHeld) = false := by
    obtain hphase | hphase := hphase <;> simp [hphase]
  simp [rxCheck, hheader, hctx, hopen, hentry, hkeyed, hclear, hauth, hgood, hcls, h]

section
variable (hmgmt : f.type ≠ 9)
include hmgmt

theorem rxCheck_unkeyed (ha : Addressed s f n) (h : (entAt s ((entFor s n f.srcId).getD 4096)).keyed = false) :
    rxCheck s p f = .done (bumpPort s p 13 1) := by
  obtain ⟨hheader, hctx, hopen⟩ := ha
  simp [rxCheck, hheader, hctx, hopen, clearMgmt, hmgmt, h]

/-- Row 6 decides. -/
theorem rxCheck_epoch {t : State} (hf : Fresh s f n i) (hnack : epochNack f = false) (h : epochRow s p n i f = some t) :
    rxCheck s p f = .done t := by
  obtain ⟨⟨⟨hheader, hctx, hopen⟩, hentry, hkeyed, hclear, hauth, hphase⟩, horder⟩ := hf
  have hgood : (f.kph != (pairKey s i).rxPhase && !(pairKey s i).oldHeld) = false := by
    obtain hphase | hphase := hphase <;> simp [hphase]
  have hnew : ¬ (classOf f.type = 3 ∧ f.seq < (pairKey s i).ctrlRx) := fun ⟨hcls, hold⟩ => absurd (horder hcls) (by omega)
  simp [rxCheck, hheader, hctx, hopen, hentry, hkeyed, hclear, hauth, hgood, hnew, hmgmt, hnack, h]

/-- Row 6 passes the packet, or does not concern it. -/
theorem rxCheck_generations (hf : Fresh s f n i) (h : epochNack f = true ∨ epochRow s p n i f = none) :
    rxCheck s p f = genRows s p n i f := by
  obtain ⟨⟨⟨hheader, hctx, hopen⟩, hentry, hkeyed, hclear, hauth, hphase⟩, horder⟩ := hf
  have hgood : (f.kph != (pairKey s i).rxPhase && !(pairKey s i).oldHeld) = false := by
    obtain hphase | hphase := hphase <;> simp [hphase]
  have hnew : ¬ (classOf f.type = 3 ∧ f.seq < (pairKey s i).ctrlRx) := fun ⟨hcls, hold⟩ => absurd (horder hcls) (by omega)
  have hepoch : (if epochNack f then none else epochRow s p n i f) = none := by
    obtain h | h := h <;> simp [h]
  simp [rxCheck, hheader, hctx, hopen, hentry, hkeyed, hclear, hauth, hgood, hnew, hmgmt, hepoch, genRows]

end

/-! ### Row 6 (R295) -/

theorem epochRow_stranger (hepoch : f.epoch = (ctxAt s n).fabEpoch) (h : (entAt s i).member = false) :
    epochRow s p n i f = some (bumpPort s p 16 1) := by
  simp [epochRow, hepoch, h]

theorem epochRow_member (hepoch : f.epoch = (ctxAt s n).fabEpoch) (h : (entAt s i).member = true) :
    epochRow s p n i f = none := by
  simp [epochRow, hepoch, h]

theorem epochRow_ahead (hpos : 1 ≤ (f.epoch + 65536 - (ctxAt s n).fabEpoch) % 65536)
    (hlt : (f.epoch + 65536 - (ctxAt s n).fabEpoch) % 65536 < 32768) :
    epochRow s p n i f = some (sendCtl (bumpPort s p 17 1) p n i 6 (classOf f.type) 3 f.seq false 0) := by
  simp [epochRow, Nat.one_le_iff_ne_zero.1 hpos, hlt]

theorem epochRow_behind (hold : 32768 ≤ (f.epoch + 65536 - (ctxAt s n).fabEpoch) % 65536) (h : (entAt s i).member = true) :
    epochRow s p n i f =
      some (sendRecord (sendCtl (bumpPort s p 17 1) p n i 6 (classOf f.type) 2 f.seq false 0) p n i) := by
  simp [epochRow, show (f.epoch + 65536 - (ctxAt s n).fabEpoch) % 65536 ≠ 0 by omega, Nat.not_lt.2 hold, h]

end

/-! ### The commands that take a packet -/

/-- The commands that take a packet of any type but MGMT, with the TYPE that they take. -/
def checkedCommands (p : Nat) (w : WirePkt) : List (Nat × Instr) :=
  [(1, .fabWrite p w), (2, .fabRead p w), (3, .fabSumInto p w), (4, .readData p w), (5, .ack p w), (6, .nack p w),
    (7, .fabArrive p w), (8, .fabRelease p w)]

theorem exec_fabWrite (p : Nat) (w : WirePkt) (s : State) : exec (.fabWrite p w) s = execFabWrite p w s := rfl
theorem exec_fabRead (p : Nat) (w : WirePkt) (s : State) : exec (.fabRead p w) s = execFabRead p w s := rfl
theorem exec_fabSumInto (p : Nat) (w : WirePkt) (s : State) : exec (.fabSumInto p w) s = execFabSumInto p w s := rfl
theorem exec_readData (p : Nat) (w : WirePkt) (s : State) : exec (.readData p w) s = execReadData p w s := rfl
theorem exec_ack (p : Nat) (w : WirePkt) (s : State) : exec (.ack p w) s = execAck p w s := rfl
theorem exec_nack (p : Nat) (w : WirePkt) (s : State) : exec (.nack p w) s = execNack p w s := rfl
theorem exec_fabArrive (p : Nat) (w : WirePkt) (s : State) : exec (.fabArrive p w) s = execFabArrive p w s := rfl
theorem exec_fabRelease (p : Nat) (w : WirePkt) (s : State) : exec (.fabRelease p w) s = execFabRelease p w s := rfl

theorem checkedCommands_receive (p : Nat) (w : WirePkt) :
    ∀ c ∈ checkedCommands p w, ∃ act, ∀ s, exec c.2 s = rxPkt p c.1 w act s := by
  simp only [checkedCommands, List.forall_mem_cons]
  exact ⟨⟨_, exec_fabWrite p w⟩, ⟨_, exec_fabRead p w⟩, ⟨_, exec_fabSumInto p w⟩, ⟨_, exec_readData p w⟩, ⟨_, exec_ack p w⟩,
    ⟨_, exec_nack p w⟩, ⟨_, exec_fabArrive p w⟩, ⟨_, exec_fabRelease p w⟩, List.forall_mem_nil _⟩

theorem checkedCommands_type (p : Nat) (w : WirePkt) : ∀ c ∈ checkedCommands p w, c.1 ≠ 0 ∧ c.1 < 9 := by
  simp [checkedCommands]

section
variable {s t : State} {p : Nat} {w : WirePkt} {c : Nat × Instr} (hp : p < 24) (hc : c ∈ checkedCommands p w)
include hp hc

/-- Nothing comes over a link that is not up. -/
theorem checked_down (hup : (portAt s p).up = false) : exec c.2 s = .next s := by
  obtain ⟨act, hexec⟩ := checkedCommands_receive p w c hc
  rw [hexec, rxPkt, rxLink, runUnit_next _ _ hp]
  simp [hup]

variable {f : FabPkt} (hread : readHead w = f)
include hread

/-- A packet of a reserved TYPE or CODE fails row 1. -/
theorem checked_reserved (hup : (portAt s p).up = true)
    (h : f.type = 0 ∨ 9 < f.type ∨ (f.type = 9 ∧ (f.code = 0 ∨ 7 < f.code))) :
    exec c.2 s = .next (bumpPort (linkRx s p f.lines) p 11 1) := by
  obtain ⟨act, hexec⟩ := checkedCommands_receive p w c hc
  obtain ⟨hpos, hlt⟩ := checkedCommands_type p w c hc
  rw [hexec, rxPkt, rxLink, runUnit_next _ _ hp, hread]
  simp [hup, show f.type ≠ c.1 by omega, h]

/-- A packet that the receive checks are done with goes no further. -/
theorem checked_done (hup : (portAt s p).up = true) (htype : f.type = c.1)
    (h : rxCheck (linkRx s p f.lines) p f = .done t) : exec c.2 s = .next t := by
  obtain ⟨act, hexec⟩ := checkedCommands_receive p w c hc
  rw [hexec, rxPkt, rxLink, runUnit_next _ _ hp, hread]
  simp [hup, htype, h]

end

/-! ### Rows 7 and 8 -/

section
variable {s : State} {p : Nat} {f : FabPkt} {n i : Nat}

theorem genRows_source (h : f.srcGen ≠ (entAt s i).peerGen) : genRows s p n i f = .done (bumpPort s p 18 1) :=
  if_pos (by simpa using h)

theorem genRows_target (hsrc : f.srcGen = (entAt s i).peerGen) (h : dstGenOk (ctxAt s n) f = false) :
    genRows s p n i f = .done (sendCtl (bumpPort s p 18 1) p n i 6 (classOf f.type) 4 f.seq false 0) := by
  simp [genRows, hsrc, h]

theorem genRows_order (hsrc : f.srcGen = (entAt s i).peerGen) (h : dstGenOk (ctxAt s n) f = true) :
    genRows s p n i f = seqRow s p n i f := by
  simp [genRows, hsrc, h]

/-- Rows 1 to 8 pass a packet, and the order of its stream decides. -/
theorem rxCheck_order (hmgmt : f.type ≠ 9) (hcls : classOf f.type ≠ 3) (h : FabPasses s f n i) :
    rxCheck s p f = seqRow s p n i f := by
  obtain ⟨-, -, -, -, -, -, hmember, -, -, -, hepoch, hsrc, hdst⟩ := id h
  rw [rxCheck_generations hmgmt (fresh_of_fabPasses h hcls) (.inr (epochRow_member hepoch hmember)), genRows_order hsrc hdst]

end

/-! ### Row 9 (R287) -/

section
variable {s : State} {p : Nat} {f : FabPkt} (n i : Nat) (hcls : classOf f.type ≠ 3)
include hcls

theorem seqRow_gap (h : (rxAt s p f.srcId f.dstId (classOf f.type)).expected < f.seq) : seqRow s p n i f =
    .done (sendCtl (bumpPort s p 9 1) p n i 6 (classOf f.type) 1 (rxAt s p f.srcId f.dstId (classOf f.type)).expected false 0) := by
  simp [seqRow, hcls, h, Nat.not_lt.2 h.le]

/-- A duplicate of a stream that owes no acknowledgement is acknowledged again. -/
theorem seqRow_again (h : f.seq < (rxAt s p f.srcId f.dstId (classOf f.type)).expected)
    (hwait : (rxAt s p f.srcId f.dstId (classOf f.type)).wait = []) : seqRow s p n i f =
    .done (sendCtl (bumpPort (putRx s p { rxAt s p f.srcId f.dstId (classOf f.type) with echo := 0 }) p 8 1) p n i 5
      (classOf f.type) 0 ((rxAt s p f.srcId f.dstId (classOf f.type)).expected - 1) false
      (rxAt s p f.srcId f.dstId (classOf f.type)).echo) := by
  unfold seqRow
  dsimp only
  rw [if_neg hcls, if_pos h, hwait]
  obtain ⟨k, hk⟩ := Nat.exists_eq_add_one_of_ne_zero (Nat.ne_of_gt (Nat.zero_lt_of_lt h))
  simp [hk]

end

/-! ### A packet counted and answered -/

/-- What a packet taken from the link leaves: the outputs, the cores and the port's counters. -/
structure Took (p : Nat) (s u : State) : Prop where
  out : u.out = s.out
  cores : u.cores = s.cores
  ctr : (portAt u p).ctr = (portAt s p).ctr

theorem linkRx_took (s : State) (p lines : Nat) : Took p s (linkRx s p lines) :=
  ⟨rfl, rfl, by rw [portAt_linkRx]⟩

theorem Took.putRx {p : Nat} {s u : State} (h : Took p s u) (r : RxStream) : Took p s (putRx u p r) := by
  obtain ⟨hout, hcores, hctr⟩ := h
  exact ⟨hout, hcores, by rw [Machine.putRx, portAt_putPort, hctr]⟩

/-- Counters of a port that sending leaves. -/
def CountsRow (j : Nat) : Prop := j < 23 ∧ j ≠ 0 ∧ j ≠ 2 ∧ j ≠ 7

/-- A packet counted in a counter of its port and answered at once. -/
theorem answered_now {s u : State} {p n i j : Nat} (type cls reason seq : Nat) (poison : Bool) (echo : Nat) (htook : Took p s u)
    (hnow : AnswersNow u p n) (hvalid : (entAt u i).valid = true) (hj : CountsRow j) :
    ∃ t a, sendCtl (bumpPort u p j 1) p n i type cls reason seq poison echo = t ∧ Transmits p (bumpPort u p j 1) t ∧
      t.out = s.out ++ [.fabric p a] ∧ a.type = type ∧ a.code = cls + 4 * reason ∧ a.addr = seq ∧
      tabGet (portAt t p).ctr j 0 = (tabGet (portAt s p).ctr j 0 + 1) % 2 ^ 64 ∧ t.cores = s.cores := by
  obtain ⟨hout, hcores, hctr⟩ := htook
  obtain ⟨hj23, hj0, hj2, hj7⟩ := hj
  obtain ⟨a, hsends, ha, htype, hcode, haddr⟩ := sendCtl_now type cls reason seq poison echo (answersNow_bumpPort j 1 hnow) hvalid
  refine ⟨_, a, rfl, hsends, ?_, htype, hcode, haddr, ?_, ?_⟩
  · exact ha.trans (congrArg (· ++ [Output.fabric p a]) hout)
  · rw [hsends.ctr j hj23 hj0 hj2 hj7, bumpPort_ctr, hctr]
  · exact (cores_of_unsent hsends.frame).trans hcores

/-! ### The statement -/

/-- The claim on the receive checks. -/
theorem receiveChecks : Claims.ReceiveChecks := by
  intro s p n i w f c hp hread hc cls x e k counted row1 row2 row3 row5 older newer row6 row7 answers r
  have hmem : c ∈ checkedCommands p w := hc
  have htook := linkRx_took s p f.lines
  have hdone {t : State} (h1 : row1) (h : rxCheck (linkRx s p f.lines) p f = .done t) : exec c.2 s = .next t :=
    checked_done hp hmem hread h1.1 h1.2 h
  have hmgmt (h1 : row1) : f.type ≠ 9 := h1.2 ▸ (checkedCommands_type p w c hmem).2.ne
  have haddressed (h3 : row3) : Addressed (linkRx s p f.lines) f n := by
    obtain ⟨⟨-, hheader⟩, hctx, hopen, -⟩ := h3
    exact ⟨hheader, hctx, hopen⟩
  have hentry (h3 : row3) : entFor (linkRx s p f.lines) n f.srcId = some i := by
    obtain ⟨-, -, -, hentry⟩ := h3
    exact hentry
  have hfresh (h5 : row5) : Fresh (linkRx s p f.lines) f n i := by
    obtain ⟨h3, hkeyed, hclear, hauth, hphase, horder⟩ := h5
    exact ⟨⟨haddressed h3, hentry h3, hkeyed, hclear, hauth, hphase⟩, horder⟩
  have hrow1 (h5 : row5) : row1 := h5.1.1.1
  have hgens (h7 : row7) : rxCheck (linkRx s p f.lines) p f = genRows (linkRx s p f.lines) p n i f := by
    obtain ⟨h5, hepoch, hmember⟩ := h7
    have hrow : epochRow (linkRx s p f.lines) p n i f = none := epochRow_member hepoch hmember
    exact rxCheck_generations (hmgmt (hrow1 h5)) (hfresh h5) (.inr hrow)
  have horder (h1 : row1) (hpass : FabPasses s f n i) (hcls : cls ≠ 3) :
      rxCheck (linkRx s p f.lines) p f = seqRow (linkRx s p f.lines) p n i f := rxCheck_order (hmgmt h1) hcls hpass
  have hrx : rxAt (linkRx s p f.lines) p f.srcId f.dstId cls = r := rxAt_of_rx (by rw [portAt_linkRx]) _ _ _
  refine ⟨checked_down hp hmem, fun hup h => checked_reserved hp hmem hread hup h, fun h1 h => hdone h1 (rxCheck_badHeader h),
    fun h2 h => hdone h2.1 (rxCheck_noContext h2.2 h), fun h2 hctx hq => hdone h2.1 (rxCheck_quarantined h2.2 hctx hq),
    fun h2 hctx hopen hent h => ?_, fun h3 h => ?_, fun h3 hkeyed h => ?_, fun h3 hkeyed hclear hauth hphase hcls h => ?_,
    fun h6 hepoch h => ?_, fun h6 h ha => ?_, fun h6 h hm ha => ?_, fun h7 h => ?_, fun h7 hsrc h ha => ?_,
    fun h1 hpass hcls h ha => ?_, fun h1 hpass hcls h hwait ha => ?_⟩
  case refine_1 =>
    have hnone : entFor (linkRx s p f.lines) n f.srcId = none := hent
    exact hdone h2.1 (rxCheck_unkeyed (hmgmt h2.1) ⟨h2.2, hctx, hopen⟩ (by rw [hnone]; exact h))
  case refine_2 => exact hdone h3.1.1 (rxCheck_unkeyed (hmgmt h3.1.1) (haddressed h3) (by rw [hentry h3]; exact h))
  case refine_3 => exact hdone h3.1.1 (rxCheck_unsealed (haddressed h3) (hentry h3) hkeyed h)
  case refine_4 =>
    exact hdone h3.1.1 (rxCheck_old ⟨haddressed h3, hentry h3, hkeyed, hclear, hauth, hphase⟩ hcls h)
  case refine_5 =>
    have hrow : epochRow (linkRx s p f.lines) p n i f = _ := epochRow_stranger hepoch h
    exact hdone (hrow1 h6.1) (rxCheck_epoch (hmgmt (hrow1 h6.1)) (hfresh h6.1) h6.2 hrow)
  case refine_6 =>
    obtain ⟨t, a, ht, -, hout, htype, hcode, haddr, hctr, hcores⟩ :=
      answered_now 6 cls 3 f.seq false 0 htook (answersNow_linkRx f.lines ha.2) ha.1 (j := 17) (by simp [CountsRow])
    have hrow : epochRow (linkRx s p f.lines) p n i f = some t := ht ▸ epochRow_ahead h.1 h.2
    exact ⟨t, a, hdone (hrow1 h6.1) (rxCheck_epoch (hmgmt (hrow1 h6.1)) (hfresh h6.1) h6.2 hrow), hout, htype, hcode, haddr, hctr,
      hcores⟩
  case refine_7 =>
    obtain ⟨t, a, ht, -, hout, htype, hcode, -, hctr, hcores⟩ :=
      answered_now 6 cls 2 f.seq false 0 htook (answersNow_linkRx f.lines ha.2) ha.1 (j := 17) (by simp [CountsRow])
    have hrow : epochRow (linkRx s p f.lines) p n i f = some (sendRecord t p n i) := ht ▸ epochRow_behind h hm
    have hrecord := sendRecord_transmits t p n i
    obtain ⟨l, hl⟩ := hrecord.sends
    refine ⟨_, a, l, hdone (hrow1 h6.1) (rxCheck_epoch (hmgmt (hrow1 h6.1)) (hfresh h6.1) h6.2 hrow), ?_, htype, hcode, ?_,
      (cores_of_unsent hrecord.frame).trans hcores⟩
    · rw [hl, hout, List.append_assoc, List.singleton_append]
    · rw [hrecord.ctr 17 (by decide) (by decide) (by decide) (by decide), hctr]
  case refine_8 => exact hdone (hrow1 h7.1) ((hgens h7).trans (genRows_source h))
  case refine_9 =>
    obtain ⟨t, a, ht, -, hout, htype, hcode, -, -, hcores⟩ :=
      answered_now 6 cls 4 f.seq false 0 htook (answersNow_linkRx f.lines ha.2) ha.1 (j := 18) (by simp [CountsRow])
    have hrow : genRows (linkRx s p f.lines) p n i f = .done t := ht ▸ genRows_target hsrc h
    exact ⟨t, a, hdone (hrow1 h7.1) ((hgens h7).trans hrow), hout, htype, hcode, hcores⟩
  case refine_10 =>
    obtain ⟨-, -, -, -, hvalid, -⟩ := id hpass
    obtain ⟨t, a, ht, hsent, hout, htype, hcode, haddr, hctr, hcores⟩ :=
      answered_now 6 cls 1 r.expected false 0 htook (answersNow_linkRx f.lines ha) hvalid (j := 9) (by simp [CountsRow])
    have hrow : seqRow (linkRx s p f.lines) p n i f = .done t := by
      rw [seqRow_gap n i hcls (by rw [hrx]; exact h), hrx, ht]
    have hkept : rxAt t p f.srcId f.dstId cls = r := by
      rw [← hrx]
      exact rxAt_of_rx (hsent.rx.trans (by rw [portAt_bumpPort])) _ _ _
    exact ⟨t, a, hdone h1 ((horder h1 hpass hcls).trans hrow), hout, htype, hcode, haddr, hctr, hkept, hcores⟩
  case refine_11 =>
    obtain ⟨-, -, -, -, hvalid, -⟩ := id hpass
    obtain ⟨t, a, ht, -, hout, htype, hcode, haddr, hctr, hcores⟩ :=
      answered_now 5 cls 0 (r.expected - 1) false r.echo (htook.putRx { r with echo := 0 })
        (answersNow_putRx _ (answersNow_linkRx f.lines ha)) hvalid (j := 8) (by simp [CountsRow])
    have hrow : seqRow (linkRx s p f.lines) p n i f = .done t := by
      rw [seqRow_again n i hcls (by rw [hrx]; exact h) (by rw [hrx]; exact hwait), hrx, ht]
    exact ⟨t, a, hdone h1 ((horder h1 hpass hcls).trans hrow), hout, htype, hcode, haddr, hctr, hcores⟩

/-- Settles O36: the rows of R292 in their order, each with its counter and its answer. -/
theorem fabricReceive : Obligations.FabricReceive := receiveChecks

end Sys2Proof.Machine

/-! PROOFS. Station records as they close, and their export (O59). -/

namespace Sys2Proof.Machine

theorem exec_congestionMap (unread : List Nat) (s : State) : exec (.congestionMap unread) s = execCongestionMap unread s := rfl

theorem exec_powerThermal (ma w j : Nat) (s : State) : exec (.powerThermal ma w j) s = execPowerThermal ma w j s := rfl

theorem exec_groupCounters (s : State) : exec .groupCounters s = execGroupCounters s := rfl

theorem exec_telemRead (ty n : Nat) (s : State) : exec (.telemRead ty n) s = execTelemRead ty n s := rfl

theorem exec_telemSubscribe (m e : Nat) (s : State) : exec (.telemSubscribe m e) s = execTelemSubscribe m e s := rfl

theorem exec_lateRequest (n : Nat) (s : State) : exec (.lateRequest n) s = execLateRequest n s := rfl

/-! ### A record that closes (R493) -/

theorem recBytes_length (ty seq ticks : Nat) (body : List Byte) :
    (recBytes ty seq ticks body).length = 16 + min 8176 body.length := by
  simp [recBytes, leBytes_length]
  omega

section
variable (s : State) (ty n : Nat) (body : List Byte) (push : Bool)

/-- The record that closes is the latest of its TYPE and context. -/
theorem findRec_closeRec : findRec (closeRec s ty n body push) ty n =
    some { type := ty, ctx := n, bytes := recBytes ty (tabGet s.telem.seq ty 0) s.sup.ticks body } := by
  have hgone : (s.telem.latest.filter (fun e => !(e.type == ty && e.ctx == n))).find?
      (fun e => e.type == ty && e.ctx == n) = none := by
    refine List.find?_eq_none.2 fun e he => ?_
    simpa only [Bool.not_eq_true, Bool.not_eq_true'] using (List.mem_filter.1 he).2
  rw [findRec, closeRec, List.find?_append, hgone]
  simp

theorem seq_closeRec : tabGet (closeRec s ty n body push).telem.seq ty 0 = (tabGet s.telem.seq ty 0 + 1) % 2 ^ 32 :=
  tabGet_tabSet_self _ _ _ _

/-- A record that stands is replaced at most, never lost. -/
theorem findRec_closeRec_isSome {ty' n' : Nat} (h : (findRec s ty' n').isSome) :
    (findRec (closeRec s ty n body push) ty' n').isSome := by
  by_cases hsame : ty' = ty ∧ n' = n
  · obtain ⟨rfl, rfl⟩ := hsame
    simp [findRec_closeRec]
  · obtain ⟨r, hr, hkey⟩ := List.find?_isSome.1 h
    refine List.find?_isSome.2 ⟨r, List.mem_append_left _ (List.mem_filter.2 ⟨hr, ?_⟩), hkey⟩
    obtain ⟨rfl, rfl⟩ : r.type = ty' ∧ r.ctx = n' := by simpa using hkey
    simpa [imp_iff_not_or] using hsame

end

/-- A record of no context, with the state whose SEQ and ticks it bears: its bytes, its length, and the next SEQ. -/
theorem closeRec_closed {s u : State} (ty : Nat) (body : List Byte) (push : Bool) (hseq : u.telem.seq = s.telem.seq)
    (hsup : u.sup = s.sup) :
    (∃ r : TRec, findRec (closeRec u ty 0 body push) ty 0 = some r ∧ r.bytes.length = 16 + min 8176 body.length ∧
      r.bytes = recBytes ty (tabGet s.telem.seq ty 0) s.sup.ticks body) ∧
    tabGet (closeRec u ty 0 body push).telem.seq ty 0 = (tabGet s.telem.seq ty 0 + 1) % 2 ^ 32 := by
  rw [← hseq, ← hsup]
  exact ⟨⟨_, findRec_closeRec u ty 0 body push, recBytes_length _ _ _ _, rfl⟩, seq_closeRec u ty 0 body push⟩

/-- A state but for the telemetry records. -/
def untelemetered (s : State) : State := { s with telem := {} }

theorem closeRec_untelemetered (s : State) (ty n : Nat) (body : List Byte) (push : Bool) :
    untelemetered (closeRec s ty n body push) = untelemetered s := rfl

theorem ctxs_of_untelemetered {s t : State} (h : untelemetered t = untelemetered s) : t.ctxs = s.ctxs :=
  (congrArg State.ctxs h :)

theorem cores_of_untelemetered {s t : State} (h : untelemetered t = untelemetered s) : t.cores = s.cores :=
  (congrArg State.cores h :)

section
variable {s t : State} (h : uncored (untelemetered t) = uncored (untelemetered s))
include h

theorem routers_of_telemetry : t.routers = s.routers := (congrArg State.routers h :)

theorem hbms_of_telemetry : t.hbms = s.hbms := (congrArg State.hbms h :)

/-- What telemetry that reads the cores leaves: the units and registers outside them. -/
theorem quiet_of_telemetry : t.ctxs = s.ctxs ∧ t.basins = s.basins ∧ t.mesh = s.mesh ∧ t.fab = s.fab ∧ t.heal = s.heal ∧
    t.rst = s.rst ∧ t.flash = s.flash ∧ t.trust = s.trust ∧ t.glb = s.glb ∧ t.tst = s.tst :=
  ⟨(congrArg State.ctxs h :), (congrArg State.basins h :), (congrArg State.mesh h :), (congrArg State.fab h :),
    (congrArg State.heal h :), (congrArg State.rst h :), (congrArg State.flash h :), (congrArg State.trust h :),
    (congrArg State.glb h :), (congrArg State.tst h :)⟩

end

/-! ### The congestion map (R494) -/

theorem length_flatMap_range {α : Type} (m c : Nat) {f : Nat → List α} (h : ∀ i, (f i).length = c) :
    ((List.range m).flatMap f).length = m * c := by
  simp [List.length_flatMap, h]

theorem portEntry_length (s : State) (unread : List Nat) (p : Nat) : (portEntry s unread p).length = 16 := by
  simp [portEntry, leBytes_length]

theorem hostEntry_length (s : State) (unread : List Nat) : (hostEntry s unread).length = 16 := by
  simp [hostEntry, leBytes_length]

theorem mapBody_length (s : State) (unread : List Nat) : (mapBody s unread).length = 6288 := by
  rw [mapBody]
  simp only [List.length_append, hostEntry_length, length_flatMap_range _ _ (portEntry_length s unread),
    length_flatMap_range _ _ (fun _ => leBytes_length _ _)]

theorem sweptMap_seq (s : State) (unread : List Nat) : (sweptMap s unread).telem.seq = s.telem.seq := by
  simp only [sweptMap]

/-- A router after a sweep: its peak cleared where it answered. -/
def sweptRouter (s : State) (unread : List Nat) (e : Nat × Router) : Router :=
  if notRead s unread e.1 then e.2 else { e.2 with peak := 0 }

theorem routerAt_sweptMap (s : State) (unread : List Nat) (k : Nat) :
    routerAt (sweptMap s unread) k = sweptRouter s unread (k, routerAt s k) := by
  have hmap : (sweptMap s unread).routers = s.routers.map (fun e => (e.1, sweptRouter s unread e)) := by
    refine List.map_congr_left fun e _ => ?_
    unfold sweptRouter
    split <;> rfl
  have hunlisted : sweptRouter s unread (k, {}) = {} := by
    unfold sweptRouter
    split <;> rfl
  have hread := tabGet_map (sweptRouter s unread) s.routers k {}
  rw [hunlisted] at hread
  rw [routerAt, hmap, hread, routerAt]

theorem sweptRouter_fields (s : State) (unread : List Nat) (k : Nat) (r : Router) :
    (sweptRouter s unread (k, r)).ctr = r.ctr ∧ (sweptRouter s unread (k, r)).shadow = r.shadow ∧
      (sweptRouter s unread (k, r)).peak = if notRead s unread k then r.peak else 0 := by
  unfold sweptRouter
  split <;> exact ⟨rfl, rfl, rfl⟩

theorem congestionMap_swept {s : State} (unread : List Nat) (hready : s.sup.phase = .ready) (hms : mapMs s ≠ 0) :
    exec (.congestionMap unread) s = .next (closeRec (sweptMap s unread) 1 0 (mapBody s unread) true) := by
  simp [exec_congestionMap, execCongestionMap, hready, hms]

/-! ### Power and thermal records (R495) -/

theorem powerBody_length (s : State) : (powerBody s).length = 192 := by
  have hdies := length_flatMap_range 64 1 (fun d => leBytes_length 1 (wrapInt 8 (dieAt s d).maxTemp))
  have hstacks := length_flatMap_range 16 1 (fun b =>
    leBytes_length 1 (if (hbmAt s b).withdrawn then 0x80 else wrapInt 8 (hbmAt s b).maxTemp))
  have hmargins := length_flatMap_range 4 8 (fun i => leBytes_length 8 (marginWord s i))
  simp only [powerBody, List.length_append, leBytes_length, hdies, hstacks, hmargins]

/-- A stack at the begin of an interval. -/
def freshStack (e : Nat × Hbm) : Hbm := { e.2 with maxTemp := e.2.temp, passedThr := decide (95 < e.2.temp) }

theorem hbmAt_freshPower (s : State) (b : Nat) : hbmAt (freshPower s) b = freshStack (b, hbmAt s b) := by
  have hunlisted : freshStack (b, {}) = {} := by simp [freshStack]
  have hread := tabGet_map freshStack s.hbms b {}
  rw [hunlisted] at hread
  exact hread

/-- The state with the power that an interval's close has read. -/
def powerRead (s : State) (ma w j : Nat) : State :=
  { s with pwr := { s.pwr with ma100 := ma % 65536, watts := w % 65536, energy := (s.pwr.energy + j) % 2 ^ 64 } }

theorem powerThermal_closed {s : State} (ma w j : Nat) (hready : s.sup.phase = .ready) (hms : powerMs s ≠ 0) :
    exec (.powerThermal ma w j) s =
      .next (freshPower (closeRec (powerRead s ma w j) 2 0 (powerBody (powerRead s ma w j)) true)) := by
  simp [exec_powerThermal, execPowerThermal, hready, hms, powerRead]

/-! ### Group records (R496) -/

/-- A state in which context `n`, ACTIVE with a layout that has groups, has its record. -/
def GroupRecorded (n : Nat) (s : State) : Prop :=
  ∀ l, (ctxAt s n).st = .active → (ctxAt s n).layout = some l → l.groups ≠ [] → (findRec s 3 n).isSome

theorem insertGroup_ne_nil (w : Nat) (l : List Nat) : insertGroup w l ≠ [] := by
  unfold insertGroup
  split
  · simp
  · split <;> simp

theorem groupChunks_cons {gs : List Nat} (h : gs ≠ []) : ∃ ws, groupChunks gs.length gs = gs.take 113 :: ws := by
  obtain ⟨g, gs, rfl⟩ := List.exists_cons_of_ne_nil h
  exact ⟨_, rfl⟩

/-- What every change of a record keeps, the records of a context keep. -/
theorem closeGroups_keeps {P : State → Prop} (h : ∀ s ty n body push, P s → P (closeRec s ty n body push)) {s : State} (n : Nat)
    (hs : P s) : P (closeGroups s n) := by
  unfold closeGroups
  dsimp only
  split
  · exact forEach_holds (fun t ws _ ht => h _ _ _ _ _ ht) hs
  · exact hs

theorem closeGroups_untelemetered (s : State) (n : Nat) : untelemetered (closeGroups s n) = untelemetered s :=
  closeGroups_keeps (P := fun t => untelemetered t = untelemetered s) (fun _ _ _ _ _ ht => ht) n rfl

theorem ctxAt_closeGroups (s : State) (m n : Nat) : ctxAt (closeGroups s m) n = ctxAt s n := by
  rw [ctxAt, ctxs_of_untelemetered (closeGroups_untelemetered s m), ctxAt]

theorem closeGroups_recorded (s : State) (n : Nat) : GroupRecorded n (closeGroups s n) := by
  intro l hst hl hgroups
  rw [ctxAt_closeGroups] at hst hl
  have hsorted : l.groups.foldr insertGroup [] ≠ [] := by
    obtain ⟨g, gs, hg⟩ := List.exists_cons_of_ne_nil hgroups
    rw [hg]
    exact insertGroup_ne_nil _ _
  obtain ⟨ws, hchunks⟩ := groupChunks_cons hsorted
  unfold closeGroups
  dsimp only
  rw [hst, hl]
  dsimp only
  rw [hchunks, forEach_cons]
  exact forEach_holds (P := fun t => (findRec t 3 n).isSome) (fun t _ _ ht => findRec_closeRec_isSome t _ _ _ _ ht)
    (by simp [findRec_closeRec])

theorem GroupRecorded.closeGroups {s : State} {n : Nat} (h : GroupRecorded n s) (m : Nat) :
    GroupRecorded n (closeGroups s m) := by
  intro l hst hl hgroups
  rw [ctxAt_closeGroups] at hst hl
  exact closeGroups_keeps (P := fun t => (findRec t 3 n).isSome)
    (fun t _ _ _ _ ht => findRec_closeRec_isSome t _ _ _ _ ht) m (h l hst hl hgroups)

/-- The records of every context closed. -/
def groupsClosed (s : State) : State := forEach (List.range 16) closeGroups s

theorem groupsClosed_recorded (s : State) : ∀ n ∈ List.range 16, GroupRecorded n (groupsClosed s) :=
  forEach_all (fun s n _ => closeGroups_recorded s n) (fun _ _ m _ h => h.closeGroups m) s

theorem groupsClosed_untelemetered (s : State) : untelemetered (groupsClosed s) = untelemetered s :=
  forEach_keeps untelemetered (fun s n _ => closeGroups_untelemetered s n) s

theorem groupCounters_closed {s : State} (hready : s.sup.phase = .ready) (hs : groupS s ≠ 0) :
    exec .groupCounters s = .next (keepGroups (groupsClosed s)) := by
  simp [exec_groupCounters, execGroupCounters, hready, hs, groupsClosed]

/-- A core whose interval begins anew. -/
def freshCore (e : Nat × Core) : Core := { e.2 with ran := [] }

theorem coreAt_keepGroups (s : State) (k : Nat) : coreAt (keepGroups s) k = freshCore (k, coreAt s k) :=
  tabGet_map freshCore s.cores k {}

theorem keepGroups_frame (s : State) : uncored (untelemetered (keepGroups s)) = uncored (untelemetered s) := by
  simp only [keepGroups, uncored, untelemetered]

theorem findRec_keepGroups (s : State) (ty n : Nat) : findRec (keepGroups s) ty n = findRec s ty n := by
  simp only [keepGroups, findRec]

/-! ### The counters kept between group records (R491) -/

theorem mem_of_tabHas {α : Type} {t : Tab α} {k : Nat} (d : α) (h : tabHas t k = true) : (k, tabGet t k d) ∈ t := by
  induction t with
  | nil => simp [tabHas] at h
  | cons e t ih =>
    obtain ⟨j, v⟩ := e
    by_cases hj : j = k
    · simp [tabGet, hj]
    · have hrest : tabHas t k = true := by simpa [tabHas, hj] using h
      simp [tabGet, hj, ih hrest]

/-- Entries written one after another: one whose number no other entry of the list has reads as it was written. -/
theorem tabGet_foldl_tabSet {α β : Type} {key : β → Nat} (val : β → α) {l : List β} {a : β} (ha : a ∈ l)
    (huniq : ∀ b ∈ l, key b = key a → b = a) (t : Tab α) (d : α) :
    tabGet (l.foldl (fun t b => tabSet t (key b) (val b)) t) (key a) d = val a := by
  induction l using List.reverseRecOn with
  | nil => cases ha
  | append_singleton l b ih =>
    rw [List.foldl_append, List.foldl_cons, List.foldl_nil]
    by_cases hb : key b = key a
    · rw [huniq b (by simp) hb, tabGet_tabSet_self]
    · rw [tabGet_tabSet_ne _ _ _ (Ne.symm hb)]
      refine ih ?_ fun c hc => huniq c (by simp [hc])
      obtain h | h := List.mem_append.1 ha
      · exact h
      · cases List.mem_singleton.1 h
        exact absurd rfl hb

/-- The sums of the listed cores, each core with the number of the sum. -/
def coreSums (cores : Tab Core) : List ((Nat × Core) × Nat) := cores.flatMap (fun e => (List.range 8).map (fun j => (e, j)))

theorem prev_keepGroups (s : State) : (keepGroups s).telem.prev =
    (coreSums s.cores).foldl (fun t p => tabSet t (coreKey p.1.1 p.2) (nth (groupCtrs p.1.2) p.2 0)) s.telem.prev := by
  simp only [coreSums, List.foldl_flatMap, List.foldl_map]
  rfl

theorem mem_coreSums {cores : Tab Core} {p : (Nat × Core) × Nat} : p ∈ coreSums cores ↔ p.1 ∈ cores ∧ p.2 < 8 := by
  obtain ⟨e, j⟩ := p
  simp [coreSums]

theorem keepGroups_prev {s : State} {k v : Nat} (hnodup : (s.cores.map (·.1)).Nodup) (hk : tabHas s.cores k = true)
    (hv : v < 8) : tabGet (keepGroups s).telem.prev (coreKey k v) 0 = nth (groupCtrs (coreAt s k)) v 0 := by
  have hmem := mem_of_tabHas ({} : Core) hk
  rw [prev_keepGroups]
  refine tabGet_foldl_tabSet (key := fun p : (Nat × Core) × Nat => coreKey p.1.1 p.2)
    (fun p => nth (groupCtrs p.1.2) p.2 0) (a := ((k, coreAt s k), v)) (mem_coreSums.2 ⟨hmem, hv⟩) ?_ _ _
  rintro ⟨e, j⟩ hp hkey
  obtain ⟨he, hj⟩ := mem_coreSums.1 hp
  obtain ⟨hcore, rfl⟩ : e.1 = k ∧ j = v := by
    simp only [coreKey] at hkey hj
    omega
  have hsame : e = (k, coreAt s k) := List.inj_on_of_nodup_map hnodup he hmem hcore
  rw [hsame]

/-! ### The claim on records -/

/-- The claim on records: the map, power and temperatures, and the groups. -/
theorem recordsClosed : Claims.RecordsClosed := by
  intro s unread ma w j hready quiet closed
  refine ⟨fun hms => ?_, fun hms => ?_, fun hms => ?_, fun hs => ?_⟩
  case refine_1 =>
    have hclosed := closeRec_closed (s := s) (u := sweptMap s unread) 1 (mapBody s unread) true
      (sweptMap_seq s unread) rfl
    rw [mapBody_length] at hclosed
    refine ⟨_, congestionMap_swept unread hready hms, ⟨rfl, rfl, rfl, rfl, rfl, rfl, rfl, rfl, rfl, rfl⟩, rfl, rfl, hclosed,
      fun k => ?_⟩
    have hrouter : routerAt (closeRec (sweptMap s unread) 1 0 (mapBody s unread) true) k = _ := routerAt_sweptMap s unread k
    rw [hrouter]
    exact sweptRouter_fields s unread k _
  case refine_2 => simp [exec_congestionMap, execCongestionMap, hms]
  case refine_3 =>
    have hclosed := closeRec_closed (s := s) (u := powerRead s ma w j) 2 (powerBody (powerRead s ma w j)) true rfl rfl
    rw [powerBody_length] at hclosed
    refine ⟨_, powerThermal_closed ma w j hready hms, ⟨rfl, rfl, rfl, rfl, rfl, rfl, rfl, rfl, rfl, rfl⟩, rfl, ⟨_, hclosed⟩,
      rfl, rfl, rfl, rfl, fun b => ?_⟩
    rw [hbmAt_freshPower]
    rfl
  case refine_4 =>
    have hrecords := groupsClosed_untelemetered s
    have hframe : uncored (untelemetered (keepGroups (groupsClosed s))) = uncored (untelemetered s) :=
      (keepGroups_frame _).trans (congrArg uncored hrecords)
    have hcores : (groupsClosed s).cores = s.cores := cores_of_untelemetered hrecords
    have hcore (k : Nat) : coreAt (groupsClosed s) k = coreAt s k := by rw [coreAt, hcores, coreAt]
    have hctx (n : Nat) : ctxAt (groupsClosed s) n = ctxAt s n := by rw [ctxAt, ctxs_of_untelemetered hrecords, ctxAt]
    refine ⟨_, groupCounters_closed hready hs, quiet_of_telemetry hframe, routers_of_telemetry hframe, hbms_of_telemetry hframe,
      fun k => ?_, fun k v hnodup hk hv => ?_, fun n l hn hst hl hgroups => ?_⟩
    · rw [coreAt_keepGroups, hcore]
      exact ⟨rfl, rfl, rfl, rfl⟩
    · rw [← hcore]
      exact keepGroups_prev (by rw [hcores]; exact hnodup) (by rw [hcores]; exact hk) hv
    · have hrecorded := groupsClosed_recorded s n (List.mem_range.2 hn) l (by rw [hctx]; exact hst) (by rw [hctx]; exact hl)
        hgroups
      rw [findRec_keepGroups]
      exact Option.isSome_iff_exists.1 hrecorded

/-! ### Export (R499) -/

section
variable {s : State} (hready : s.sup.phase = .ready)
include hready

theorem telemRead_format {ty n : Nat} (h : ty = 0 ∨ 5 < ty ∨ (typeNamesCtx ty = true ∧ 16 ≤ n)) :
    exec (.telemRead ty n) s = .next (emit s (.mctp 0x10 1 [])) := by
  simp [exec_telemRead, execTelemRead, hready, h]

theorem telemRead_none {ty n : Nat} (h : ¬ (ty = 0 ∨ 5 < ty ∨ (typeNamesCtx ty = true ∧ 16 ≤ n)))
    (hrec : findRec s ty (if typeNamesCtx ty then n else 0) = none) :
    exec (.telemRead ty n) s = .next (emit s (.mctp 0x10 5 [])) := by
  simp [exec_telemRead, execTelemRead, hready, h, hrec]

theorem telemRead_some {ty n : Nat} {r : TRec} (h : ¬ (ty = 0 ∨ 5 < ty ∨ (typeNamesCtx ty = true ∧ 16 ≤ n)))
    (hrec : findRec s ty (if typeNamesCtx ty then n else 0) = some r) :
    exec (.telemRead ty n) s = .next (emit s (.mctpBytes 0x10 0 0 r.bytes)) := by
  simp [exec_telemRead, execTelemRead, hready, h, hrec]

theorem lateRequest_sent {n : Nat} (hn : n < 16) (hst : (ctxAt s n).st = .active) :
    exec (.lateRequest n) s = .next (sendLate s n false) := by
  simp [exec_lateRequest, execLateRequest, hready, hst, Nat.not_le.2 hn]

end

/-- The message record of a late-arrival report (R316). -/
def lateMsg (x : Ctx) (owed : Bool) : MsgRec := { bytesRec 6 0 0 0 (lateBytes x) with seq := b2n owed }

/-- The late-arrival record closed, its message posted. -/
def lateClosed (s : State) (n : Nat) (owed : Bool) : State :=
  closeRec (postMsg s n (lateMsg (ctxAt s n) owed)) 5 0 (lateBytes (ctxAt s n)) false

theorem findRec_lateClosed (s : State) (n : Nat) (owed : Bool) : findRec (lateClosed s n owed) 5 0 =
    some { type := 5, ctx := 0, bytes := recBytes 5 (tabGet s.telem.seq 5 0) s.sup.ticks (lateBytes (ctxAt s n)) } :=
  findRec_closeRec _ 5 0 _ false

theorem sendLate_eq (s : State) (n : Nat) (owed : Bool) : sendLate s n owed = emit (lateClosed s n owed)
    (.mctpBytes 0x12 0 s.telem.subEid (recBytes 5 (tabGet s.telem.seq 5 0) s.sup.ticks (lateBytes (ctxAt s n)))) := by
  have hlatest : latestRec (lateClosed s n owed) 5 0 =
      recBytes 5 (tabGet s.telem.seq 5 0) s.sup.ticks (lateBytes (ctxAt s n)) := by
    rw [latestRec, findRec_lateClosed]
    rfl
  rw [← hlatest]
  rfl

theorem ctxAt_sendLate (s : State) (n : Nat) (owed : Bool) (m : Nat) :
    ctxAt (sendLate s n owed) m = ctxAt (postMsg s n (lateMsg (ctxAt s n) owed)) m := rfl

/-- A record that its context's store has the room for is kept. -/
theorem postRec_stored {x : Ctx} {r : MsgRec} (hopen : x.st.closing = false) (hroom : storeUnits x.store + r.units ≤ 8192) :
    (postRec x r).store = x.store ++ [{ r with step := x.stepNum }] := by
  simp [postRec, hopen, Nat.not_lt.2 hroom]

/-- The claim on export: reads, the subscriber, the push that times out, and late-arrival reports on request. -/
theorem telemetryExport : Claims.TelemetryExport := by
  intro s ty n m e hready bad at_
  refine ⟨telemRead_format hready, telemRead_none hready, fun _ => telemRead_some hready, ?_, rfl, fun hn => ?_, fun hn hst => ?_,
    fun hn hst hroom => ?_⟩
  · simp [exec_telemSubscribe, execTelemSubscribe, hready]
  · simp [exec_lateRequest, execLateRequest, hready, hn]
  · simp [exec_lateRequest, execLateRequest, hready, hst, Nat.not_le.2 hn]
  · have hfits : storeUnits (ctxAt s n).store + (lateMsg (ctxAt s n) false).units ≤ 8192 := by
      have hunits : (lateMsg (ctxAt s n) false).units = 1 + ceilDiv (lateBytes (ctxAt s n)).length 32 := rfl
      omega
    refine ⟨_, _, { lateMsg (ctxAt s n) false with step := (ctxAt s n).stepNum }, lateRequest_sent hready hn hst,
      findRec_lateClosed s n false, rfl, ?_, ?_, rfl, rfl, rfl⟩
    · rw [sendLate_eq]
      rfl
    · rw [ctxAt_sendLate, postMsg, ctxAt_putCtx]
      exact postRec_stored (by rw [hst]; rfl) hfits

/-- Settles O59: the records that close, and their export. -/
theorem recordsAndTelemetry : Obligations.RecordsAndTelemetry := ⟨recordsClosed, telemetryExport⟩

end Sys2Proof.Machine

/-! PROOFS. STEP_SYNC, and where a step begins (O38). -/

namespace Sys2Proof.Machine

theorem exec_stepSync (n : Nat) (s : State) : exec (.stepSync n) s = execStepSync n s := rfl

/-! ### Pulses (R309) -/

/-- A context's latch set where one more condition holds. -/
def latched (x : Ctx) (sets : Bool) : Ctx := { x with latch := x.latch || sets }

/-- A pulse of the input sets the latch of a context. -/
def pulseSets (s : State) (n : Nat) : Bool := admits s n && decide (stepSrc (ctxAt s n) = 0)

/-- The pulse at one context. -/
def pulsed (s : State) (n : Nat) : State :=
  if admits s n ∧ stepSrc (ctxAt s n) = 0 then putCtx s n { ctxAt s n with latch := true } else s

theorem exec_stepSyncPulse (s : State) : exec .stepSyncPulse s = .next (forEach (List.range 16) pulsed s) := rfl

theorem pulsed_frame (s : State) (n : Nat) :
    (pulsed s n).cores = s.cores ∧ (pulsed s n).basins = s.basins ∧ (pulsed s n).rst = s.rst := by
  unfold pulsed
  split <;> exact ⟨rfl, rfl, rfl⟩

theorem ctxAt_pulsed (s : State) (n : Nat) : ctxAt (pulsed s n) n = latched (ctxAt s n) (pulseSets s n) := by
  unfold pulsed
  split
  next h => simp [latched, pulseSets, h]
  next h =>
    have hoff : pulseSets s n = false := by simpa [pulseSets] using h
    simp [latched, hoff]

theorem ctxAt_pulsed_ne (s : State) {m n : Nat} (h : n ≠ m) : ctxAt (pulsed s m) n = ctxAt s n := by
  unfold pulsed
  split
  · exact ctxAt_putCtx_ne s _ h
  · rfl

/-- The resets in hand and the context's own record decide whether its layout admits microbatches. -/
theorem admits_congr {s t : State} {n : Nat} (hrst : t.rst = s.rst) (hctx : ctxAt t n = ctxAt s n) : admits t n = admits s n := by
  simp only [admits, resetPending, hrst, hctx]

theorem pulseSets_pulsed_ne (s : State) {m n : Nat} (h : n ≠ m) : pulseSets (pulsed s m) n = pulseSets s n := by
  obtain ⟨-, -, hrst⟩ := pulsed_frame s m
  rw [pulseSets, admits_congr hrst (ctxAt_pulsed_ne s h), ctxAt_pulsed_ne s h, pulseSets]

/-- One pulse reaches each context of a list once. -/
theorem ctxAt_forEach_pulsed {l : List Nat} (hl : l.Nodup) (s : State) {n : Nat} (hn : n ∈ l) :
    ctxAt (forEach l pulsed s) n = latched (ctxAt s n) (pulseSets s n) := by
  induction l generalizing s with
  | nil => cases hn
  | cons m l ih =>
    obtain ⟨hm, hl⟩ := List.nodup_cons.1 hl
    rw [forEach_cons]
    obtain rfl | hn := List.mem_cons.1 hn
    · have hrest : ctxAt (forEach l pulsed (pulsed s n)) n = ctxAt (pulsed s n) n :=
        forEach_keeps (ctxAt · n) (fun t j hj => ctxAt_pulsed_ne t (ne_of_mem_of_not_mem hj hm).symm) _
      rw [hrest, ctxAt_pulsed]
    · have hne := ne_of_mem_of_not_mem hn hm
      rw [ih hl _ hn, ctxAt_pulsed_ne s hne, pulseSets_pulsed_ne s hne]

/-- The state in which the host command has set the latch where it may. -/
def hostLatched (s : State) (n : Nat) : State :=
  if stepSrc (ctxAt s n) = 1 ∧ admits s n = true then putCtx s n { ctxAt s n with latch := true } else s

theorem ctxAt_hostLatched (s : State) (n : Nat) :
    ctxAt (hostLatched s n) n = latched (ctxAt s n) (admits s n && decide (stepSrc (ctxAt s n) = 1)) := by
  unfold hostLatched
  split
  next h => simp [latched, h]
  next h =>
    have hoff : (admits s n && decide (stepSrc (ctxAt s n) = 1)) = false := by simpa [and_comm, imp_iff_not_or, or_comm] using h
    simp [latched, hoff]

theorem stepSync_ends {s : State} {n : Nat} {h : HCmd} (ht : TakesCmd s n 9 h) :
    exec (.stepSync n) s = .next (endCmd (hostLatched s n) n h 0 0 0) := by
  rw [exec_stepSync, execStepSync, hostCmd_next ht]
  rfl

/-- The claim on pulses: the input, and the host command. -/
theorem stepPulses : Claims.StepPulses := by
  intro s
  refine ⟨⟨_, exec_stepSyncPulse s, ?_, ?_, fun n hn => ?_⟩, fun n h ht => ⟨_, stepSync_ends ht, ?_, ?_⟩⟩
  case refine_1 =>
    refine forEach_keeps State.cores (fun t m _ => ?_) s
    obtain ⟨hcores, -, -⟩ := pulsed_frame t m
    exact hcores
  case refine_2 =>
    refine forEach_keeps State.basins (fun t m _ => ?_) s
    obtain ⟨-, hbasins, -⟩ := pulsed_frame t m
    exact hbasins
  case refine_3 => exact ctxAt_forEach_pulsed List.nodup_range s (List.mem_range.2 hn)
  all_goals
    obtain ⟨-, hst, -⟩ := ht
    have hlatched := ctxAt_hostLatched s n
    have hactive : (ctxAt (hostLatched s n) n).st = .active := by rw [hlatched]; exact hst
  case refine_4 =>
    have hends := endCmd_answered h hactive 0 0 0
    rw [Answered, hlatched] at hends
    exact hends
  case refine_5 =>
    rw [ctxAt_endCmd h hactive, startCmd, ctxAt_putCtx, hlatched]
    rfl

/-! ### What a context says of its steps -/

/-- The fields of a context that say where its step stands (R304, R310). -/
structure StepView where
  stepNum : Nat
  inStep : Nat
  nextMb : Nat
  mbNum : Nat
  latch : Bool
  boundary : Option (Nat × Nat)
  advanced : Nat
  heldCnt : Nat
  ignored : Nat
  miss : Nat

/-- What a context says of its steps. -/
def stepView (x : Ctx) : StepView :=
  ⟨x.stepNum, x.inStep, x.nextMb, x.mbNum, x.latch, x.boundary, x.advanced, x.heldCnt, x.ignored, x.miss⟩

/-- Where the step of a context stands in a state. -/
def stepAt (n : Nat) (s : State) : StepView := stepView (ctxAt s n)

theorem stepAt_putCtx (s : State) (n : Nat) (x : Ctx) : stepAt n (putCtx s n x) = stepView x := by rw [stepAt, ctxAt_putCtx]

theorem stepAt_of_ctxs {s t : State} (n : Nat) (h : t.ctxs = s.ctxs) : stepAt n t = stepAt n s := by
  rw [stepAt, stepAt, ctxAt, ctxAt, h]

theorem stepView_of_unposted {x y : Ctx} (h : unposted x = unposted y) : stepView x = stepView y :=
  (congrArg stepView h :)

theorem stepAt_postMsg (s : State) (n m : Nat) (r : MsgRec) : stepAt n (postMsg s m r) = stepAt n s :=
  stepView_of_unposted (postMsg_unposted s n m r)

theorem stepView_postComp (x : Ctx) (k : Comp) : stepView (postComp x k) = stepView x := by
  unfold postComp
  split <;> rfl

/-! ### The reports of a boundary (R93, R312, R316, R497) -/

theorem stepAt_satReport (s : State) (n k : Nat) : stepAt n (satReport s n k) = stepAt n s := by
  unfold satReport
  dsimp only
  split
  · rfl
  · exact stepAt_postMsg s n n _

theorem stepAt_satReports (s : State) (n m : Nat) (l : Layout) : stepAt n (satReports s n m l) = stepAt n s := by
  unfold satReports
  exact (stepAt_putCtx _ n _).trans (forEach_keeps (stepAt n) (fun t k _ => stepAt_satReport t n k) s)

theorem stepAt_sendLate (s : State) (n : Nat) (owed : Bool) : stepAt n (sendLate s n owed) = stepAt n s :=
  stepAt_postMsg s n n _

theorem stepAt_watchReport (s : State) (n m : Nat) : stepAt n (watchReport s n m) = stepAt n s := rfl

/-- Action 6: the step is the one opened, no microbatch of it is admitted yet, and no boundary is pending. -/
theorem stepAt_stepStep (s : State) (n m cause t0 : Nat) (l : Layout) : stepAt n (stepStep s n m cause t0 l) =
    { stepAt n s with stepNum := m, inStep := 0, boundary := none } := by
  have hreport (c : Prop) [Decidable c] {t u : State} (h : stepAt n t = stepAt n u) :
      stepAt n (if c then t else u) = stepAt n u := by
    split
    · exact h
    · rfl
  unfold stepStep
  dsimp only
  rw [hreport _ (stepAt_watchReport _ n m), hreport _ (stepAt_sendLate _ n false), hreport _ (stepAt_postMsg _ n n _),
    stepAt_satReports, stepAt_putCtx]
  rfl

/-! ### Admission (R304, R336) -/

theorem wakeCtx_ctxs (s : State) (n : Nat) : (wakeCtx s n).ctxs = s.ctxs := 
  forEach_keeps State.ctxs (f := fun s k => putCore s k (wakeSlots s k (coreAt s k))) (fun _ _ _ => rfl) s

/-- A microbatch admitted: it is numbered, and counts in its step. -/
def admittedView (v : StepView) : StepView :=
  { v with nextMb := v.nextMb + 1, mbNum := (v.mbNum + 1) % 2 ^ 64, inStep := v.inStep + 1 }

theorem stepAt_admitMb (s : State) (n : Nat) (l : Layout) : stepAt n (admitMb s n l) = admittedView (stepAt n s) := by
  unfold admitMb
  rw [stepAt_of_ctxs n (wakeCtx_ctxs _ n), stepAt_putCtx]
  split
  · rfl
  · exact stepView_postComp _ _

/-! ### A boundary that carries out nothing but its step (R306) -/

theorem boundaryWaits_putCtx {s : State} {n : Nat} {x : Ctx} (m : Nat) (hclosed : x.closed = (ctxAt s n).closed)
    (hnext : x.nextMb = (ctxAt s n).nextMb) : boundaryWaits (putCtx s n x) n m = boundaryWaits s n m := by
  simp only [boundaryWaits, stationDry, ctxAt_putCtx, hclosed, hnext]
  rfl

/-- The scale state made ready for the next step (R87). -/
def scaleTurned (x : Ctx) : Ctx := { x with scaleOld := x.scale, scale := x.scaleNext }

section
variable {s : State} {n : Nat} {x : Ctx} {l : Layout} (hdue : x.due = []) (hmb : x.nextMb ≠ 0) (hchanges : changesOf s n = [])
  (hgaps : s.mesh.gaps0 = s.mesh.gaps1)

include hdue hmb in
theorem scaleStep_bare (m : Nat) : scaleStep (putCtx s n x) n m l = putCtx s n (scaleTurned x) := by
  simp [scaleStep, hdue, dueReloads, hmb, scaleTurned]

include hdue in
theorem bindStep_bare (m : Nat) : bindStep (putCtx s n x) n m l = putCtx s n x := by
  simp [bindStep, hdue, bindComps]

include hdue in
theorem portStep_bare (m : Nat) : portStep (putCtx s n x) n m = putCtx s n x := by
  simp [portStep, hdue]

include hchanges hgaps in
theorem placeStep_bare : placeStep (putCtx s n x) n l = putCtx s n x := by
  have hsame : changesOf (putCtx s n x) n = [] := hchanges
  simp [placeStep, hsame, hgaps]

include hdue hmb hchanges hgaps in
theorem openBoundary_bare (cause t0 : Nat) (hgood : l.slots ≤ goodOf s n) : openBoundary (putCtx s n x) n cause t0 l =
    (stepStep (putCtx s n (scaleTurned x)) n (x.stepNum + 1) cause t0 l, true) := by
  have hgood' : ¬ goodOf (putCtx s n x) n < l.slots := Nat.not_lt.2 hgood
  have hdue' : (scaleTurned x).due = [] := hdue
  have hmb' : (scaleTurned x).nextMb ≠ 0 := hmb
  simp [openBoundary, hgood', hdue, hdue', hmb', scaleStep_bare hdue hmb, bindStep_bare hdue', portStep_bare hdue',
    placeStep_bare hchanges hgaps, nextStep, hmb]

include hdue hmb hchanges hgaps in
/-- A boundary with nothing to carry out opens its step, and the microbatch follows. -/
theorem stepAt_runBoundary (cause t0 : Nat) (hgood : l.slots ≤ goodOf s n) (hclosed : x.closed = (ctxAt s n).closed)
    (hnext : x.nextMb = (ctxAt s n).nextMb) (hready : boundaryWaits s n (nextStep x) = false) :
    stepAt n (runBoundary (putCtx s n x) n cause t0 l) =
      admittedView { stepView x with stepNum := x.stepNum + 1, inStep := 0, boundary := none } := by
  have hgoes : boundaryWaits (putCtx s n x) n (nextStep (ctxAt (putCtx s n x) n)) = false := by
    rw [ctxAt_putCtx, boundaryWaits_putCtx _ hclosed hnext, hready]
  unfold runBoundary
  rw [hgoes, if_neg Bool.false_ne_true, openBoundary_bare hdue hmb hchanges hgaps cause t0 hgood]
  dsimp only
  rw [if_pos rfl, stepAt_admitMb, stepAt_stepStep, stepAt_putCtx]
  rfl

end

/-! ### The decision before an admission (R308, R310) -/

/-- The context after the decision: the latch read, and the four counters as they then stand. -/
def decided (x : Ctx) (advanced heldCnt ignored miss : Nat) : Ctx :=
  { x with latch := false, advanced := advanced, heldCnt := heldCnt, ignored := ignored, miss := miss }

/-- The context with the boundary that the decision calls for, and what it is to carry out (R306). -/
def boundaryFell (x : Ctx) (cause ticks : Nat) : Ctx :=
  { x with boundary := some (cause, ticks), due := dueCloses x ++ x.staged, staged := [] }

/-- A counter of 64 bits one further. -/
def oneMore (k : Nat) : Nat := (k + 1) % 2 ^ 64

/-- A pulse ends the step early. -/
abbrev EndsEarly (x : Ctx) (l : Layout) : Prop :=
  x.latch = true ∧ max 1 (l.stepMb - 8) ≤ x.inStep ∧ x.inStep < l.stepMb ∧ bitAt x.stepCfg 0 = true

/-- A step held beyond its position meets a pulse. -/
abbrev MeetsPulse (x : Ctx) (l : Layout) : Prop := x.latch = true ∧ l.stepMb ≤ x.inStep ∧ bitAt x.stepCfg 1 = true

/-- The programmed position, without HOLD. -/
abbrev AtPosition (x : Ctx) (l : Layout) : Prop := x.inStep = l.stepMb ∧ bitAt x.stepCfg 1 = false

/-- A pulse stands that makes no decision. -/
abbrev IgnoresPulse (x : Ctx) (l : Layout) : Prop := x.latch = true ∧ ¬ EndsEarly x l ∧ ¬ MeetsPulse x l

/-- The step ends for want of a pulse. -/
abbrev MissesPulse (x : Ctx) (l : Layout) : Prop :=
  ¬ EndsEarly x l ∧ ¬ MeetsPulse x l ∧ ¬ AtPosition x l ∧ x.inStep = l.stepMb + 8

/-- The next microbatch opens a step. -/
abbrev OpensStep (x : Ctx) (l : Layout) : Prop :=
  EndsEarly x l ∨ MeetsPulse x l ∨ (¬ EndsEarly x l ∧ ¬ MeetsPulse x l ∧ (AtPosition x l ∨ x.inStep = l.stepMb + 8))

theorem endsEarly_iff (x : Ctx) (l : Layout) : (x.latch && decide (max 1 (l.stepMb - 8) ≤ x.inStep) &&
    decide (x.inStep < l.stepMb) && bitAt x.stepCfg 0) = true ↔ EndsEarly x l := by
  simp only [Bool.and_eq_true, decide_eq_true_eq, and_assoc]

theorem meetsPulse_iff (x : Ctx) (l : Layout) :
    (x.latch && decide (l.stepMb ≤ x.inStep) && bitAt x.stepCfg 1) = true ↔ MeetsPulse x l := by
  simp only [Bool.and_eq_true, decide_eq_true_eq, and_assoc]

theorem not_meetsPulse_of_endsEarly {x : Ctx} {l : Layout} (h : EndsEarly x l) : ¬ MeetsPulse x l := by
  obtain ⟨-, -, hlt, -⟩ := h
  exact fun ⟨_, hle, _⟩ => absurd hlt (Nat.not_lt.2 hle)

section
variable {x : Ctx} {l : Layout} (hforced : x.forced = false)
include hforced

theorem decide310_early (h : EndsEarly x l) :
    decide310 x l = (some 1, decided x (oneMore x.advanced) x.heldCnt x.ignored x.miss) := by
  unfold decide310
  dsimp only
  rw [if_neg (by simp [hforced]), if_pos ((endsEarly_iff x l).2 h)]
  rfl

theorem decide310_held (h : MeetsPulse x l) :
    decide310 x l = (some 2, decided x x.advanced (oneMore x.heldCnt) x.ignored x.miss) := by
  have hearly : ¬ EndsEarly x l := fun h' => not_meetsPulse_of_endsEarly h' h
  unfold decide310
  dsimp only
  rw [if_neg (by simp [hforced]), if_neg (mt (endsEarly_iff x l).1 hearly), if_pos ((meetsPulse_iff x l).2 h)]
  rfl

/-- No pulse makes the decision: the position does, and a pulse that stands is ignored. -/
theorem decide310_unpulsed (hearly : ¬ EndsEarly x l) (hheld : ¬ MeetsPulse x l) :
    let ignored := if IgnoresPulse x l then oneMore x.ignored else x.ignored
    decide310 x l =
      if AtPosition x l then (some 0, decided x x.advanced x.heldCnt ignored x.miss)
      else if x.inStep = l.stepMb + 8 then (some 3, decided x x.advanced x.heldCnt ignored (oneMore x.miss))
      else (none, decided x x.advanced x.heldCnt ignored x.miss) := by
  intro ignored
  unfold decide310
  dsimp only
  rw [if_neg (by simp [hforced]), if_neg (mt (endsEarly_iff x l).1 hearly), if_neg (mt (meetsPulse_iff x l).1 hheld)]
  by_cases hlatch : x.latch = true
  · have hcount : ignored = oneMore x.ignored := if_pos ⟨hlatch, hearly, hheld⟩
    rw [if_pos hlatch, hcount]
    rfl
  · have hcount : ignored = x.ignored := if_neg fun h => hlatch h.1
    rw [if_neg hlatch, hcount]
    rfl

/-- The decision opens a step where one of the four rules says so, and one counter counts what happened. -/
theorem decide310_counts : ∃ o : Option Nat, decide310 x l = (o, decided x
    (if EndsEarly x l then oneMore x.advanced else x.advanced) (if MeetsPulse x l then oneMore x.heldCnt else x.heldCnt)
    (if IgnoresPulse x l then oneMore x.ignored else x.ignored) (if MissesPulse x l then oneMore x.miss else x.miss)) ∧
    (o.isSome = true ↔ OpensStep x l) := by
  by_cases hearly : EndsEarly x l
  case pos =>
    have hheld : ¬ MeetsPulse x l := not_meetsPulse_of_endsEarly hearly
    refine ⟨some 1, ?_, iff_of_true rfl (.inl hearly)⟩
    rw [decide310_early hforced hearly, if_pos hearly, if_neg hheld, if_neg (fun ⟨_, hnot, _⟩ => hnot hearly),
      if_neg (fun ⟨hnot, _⟩ => hnot hearly)]
  by_cases hheld : MeetsPulse x l
  case pos =>
    refine ⟨some 2, ?_, iff_of_true rfl (.inr (.inl hheld))⟩
    rw [decide310_held hforced hheld, if_neg hearly, if_pos hheld, if_neg (fun ⟨_, _, hnot⟩ => hnot hheld),
      if_neg (fun ⟨_, hnot, _⟩ => hnot hheld)]
  rw [decide310_unpulsed hforced hearly hheld, if_neg hearly, if_neg hheld]
  by_cases hat : AtPosition x l
  case pos =>
    refine ⟨some 0, ?_, iff_of_true rfl (.inr (.inr ⟨hearly, hheld, .inl hat⟩))⟩
    have hmade : ¬ MissesPulse x l := fun ⟨_, _, hnot, _⟩ => hnot hat
    rw [if_pos hat, if_neg hmade]
  by_cases hmiss : x.inStep = l.stepMb + 8
  case pos =>
    refine ⟨some 3, ?_, iff_of_true rfl (.inr (.inr ⟨hearly, hheld, .inr hmiss⟩))⟩
    have hmissed : MissesPulse x l := ⟨hearly, hheld, hat, hmiss⟩
    rw [if_neg hat, if_pos hmiss, if_pos hmissed]
  refine ⟨none, ?_, iff_of_false Bool.false_ne_true ?_⟩
  · have hgoes : ¬ MissesPulse x l := fun ⟨_, _, _, hlast⟩ => hmiss hlast
    rw [if_neg hat, if_neg hmiss, if_neg hgoes]
  · rintro (h | h | ⟨-, -, h | h⟩)
    exacts [hearly h, hheld h, hat h, hmiss h]

end

/-! ### The admission that follows the decision -/

section
variable {s : State} {n : Nat} {l : Layout} (up : Bool) {o : Option Nat} {a h i m : Nat} (hn : n < 16)
  (hl : (ctxAt s n).layout = some l) (hmay : mayAdmit s n l = true) (hdue : mbDue s n up = true)
  (hnone : (ctxAt s n).boundary = none) (hmb : (ctxAt s n).nextMb ≠ 0) (hstaged : (ctxAt s n).staged = [])
  (hcloses : dueCloses (ctxAt s n) = []) (hchanges : changesOf s n = []) (hgaps : s.mesh.gaps0 = s.mesh.gaps1)
  (hgood : l.slots ≤ goodOf s n) (hready : boundaryWaits s n (nextStep (ctxAt s n)) = false)
include hn hl hmay hdue hnone hmb hstaged hcloses hchanges hgaps hgood hready

/-- Where the step stands after an admission: a decision for a boundary opens the next step with the microbatch. -/
theorem microbatchAdmit_decided (hdec : decide310 (ctxAt s n) l = (o, decided (ctxAt s n) a h i m)) :
    ∃ t : State, exec (.microbatchAdmit n up) s = .next t ∧ stepAt n t =
      { stepNum := if o.isSome then (ctxAt s n).stepNum + 1 else (ctxAt s n).stepNum,
        inStep := if o.isSome then 1 else (ctxAt s n).inStep + 1,
        nextMb := (ctxAt s n).nextMb + 1, mbNum := ((ctxAt s n).mbNum + 1) % 2 ^ 64, latch := false, boundary := none,
        advanced := a, heldCnt := h, ignored := i, miss := m } := by
  have hexec : exec (.microbatchAdmit n up) s = .next (admitNow s n l) := by
    rw [exec_microbatchAdmit, execMicrobatchAdmit, runUnit_next _ _ hn, hl]
    simp [hmay, hdue]
  refine ⟨_, hexec, ?_⟩
  unfold admitNow
  dsimp only
  rw [hnone, hdec]
  cases o with
  | none =>
    dsimp only
    rw [stepAt_admitMb, stepAt_putCtx]
    simp [admittedView, stepView, decided, hnone]
  | some cause =>
    have hnothing : dueCloses (decided (ctxAt s n) a h i m) ++ (decided (ctxAt s n) a h i m).staged = [] := by
      rw [List.append_eq_nil_iff]
      exact ⟨hcloses, hstaged⟩
    exact stepAt_runBoundary (x := boundaryFell (decided (ctxAt s n) a h i m) cause s.sup.ticks) hnothing hmb hchanges hgaps
      cause s.sup.ticks hgood rfl rfl hready

end

/-- The claim on where a step begins. -/
theorem stepPositions : Claims.StepPositions := by
  intro s n up l hn x hl hmay hdue hnone hforced hmb hstaged hcloses hchanges hgaps hgood hready c p adv hold early held ignored
    late opens
  obtain ⟨o, hdec, hopens⟩ := decide310_counts hforced (l := l)
  obtain ⟨t, hexec, hview⟩ :=
    microbatchAdmit_decided up hn hl hmay hdue hnone hmb hstaged hcloses hchanges hgaps hgood hready hdec
  have hstep := congrArg StepView.stepNum hview
  have hin := congrArg StepView.inStep hview
  refine ⟨t, hexec, congrArg StepView.nextMb hview, congrArg StepView.latch hview, congrArg StepView.mbNum hview,
    congrArg StepView.boundary hview, fun h => ?_, fun h => ?_, congrArg StepView.advanced hview,
    congrArg StepView.heldCnt hview, congrArg StepView.ignored hview, congrArg StepView.miss hview⟩
  · have hsome : o.isSome = true := hopens.2 h
    exact ⟨hstep.trans (if_pos hsome), hin.trans (if_pos hsome)⟩
  · have hnot : ¬ o.isSome = true := fun hsome => h (hopens.1 hsome)
    exact ⟨hstep.trans (if_neg hnot), hin.trans (if_neg hnot)⟩

/-- Settles O38: the pulses of STEP_SYNC, and where a step begins. -/
theorem stepBoundaries : Obligations.StepBoundaries := ⟨stepPulses, stepPositions⟩

end Sys2Proof.Machine

/-! PROOFS. The step and its queue, a reference tick, what reset leaves, and the invariant of the board (O1 to O5, O7). -/

namespace Sys2Proof.Machine

/-! ### The step (log 2) -/

theorem step_nil {s : State} (h : s.pending = []) : step s = .next (idleTick s) := by
  unfold step
  rw [h]

theorem step_cons {s : State} {c : Instr} {rest : List Instr} (h : s.pending = c :: rest) :
    step s = exec c { s with pending := rest } := by
  unfold step
  rw [h]

/-- Settles O1. -/
theorem stepRunsFront : Obligations.StepRunsFront := fun _ _ _ h => step_cons h

/-! ### A reference tick (R458, R492, R499) -/

theorem countTick_stopped {s : State} (h : s.sup.ticking = false) : countTick s = s := by
  simp [countTick, h]

theorem countTick_running {s : State} (h : s.sup.ticking = true) :
    countTick s = { s with
      sup := { s.sup with ticks := (s.sup.ticks + 1) % 2 ^ 64 },
      clk := if s.clk.refOk then s.clk else { s.clk with oscTicks := (s.clk.oscTicks + 1) % 2 ^ 32 } } := by
  simp [countTick, h]

/-- The tick counters are the whole change. -/
theorem countTick_frame (s : State) : countTick s = { s with sup := (countTick s).sup, clk := (countTick s).clk } := by
  cases h : s.sup.ticking with
  | false => rw [countTick_stopped h]
  | true => rw [countTick_running h]

theorem sendPush_nil {s : State} (h : s.telem.push = []) : sendPush s = s := by
  unfold sendPush
  rw [h]

theorem sendPush_cons {s : State} {r : TRec} {l : List TRec} (h : s.telem.push = r :: l) :
    sendPush s = emit { s with telem := { s.telem with push := l } } (.mctpBytes 0x11 0 s.telem.subEid r.bytes) := by
  unfold sendPush
  rw [h]

/-- A push that leaves the telemetry queue is the whole change. -/
theorem sendPush_frame (s : State) : sendPush s = { s with telem := (sendPush s).telem, out := (sendPush s).out } := by
  cases h : s.telem.push with
  | nil => rw [sendPush_nil h]
  | cons r l => rw [sendPush_cons h]; rfl

@[simp] theorem countTick_telem (s : State) : (countTick s).telem = s.telem := by rw [countTick_frame]
@[simp] theorem countTick_out (s : State) : (countTick s).out = s.out := by rw [countTick_frame]
@[simp] theorem sendPush_sup (s : State) : (sendPush s).sup = s.sup := by rw [sendPush_frame]
@[simp] theorem sendPush_clk (s : State) : (sendPush s).clk = s.clk := by rw [sendPush_frame]

@[simp] theorem idleTick_sup (s : State) : (idleTick s).sup = (countTick s).sup := sendPush_sup _
@[simp] theorem idleTick_clk (s : State) : (idleTick s).clk = (countTick s).clk := sendPush_clk _

theorem idleTick_frame (s : State) : idleTick s =
    { s with sup := (idleTick s).sup, clk := (idleTick s).clk, telem := (idleTick s).telem, out := (idleTick s).out } := by
  have hsend := sendPush_frame (countTick s)
  rw [idleTick_sup, idleTick_clk]
  unfold idleTick
  generalize sendPush (countTick s) = t at hsend ⊢
  rw [countTick_frame s] at hsend
  exact hsend

/-- Settles O2: the tick counters, then the push. -/
theorem emptyQueueTicks : Obligations.EmptyQueueTicks := by
  intro s hs
  refine ⟨idleTick s, step_nil hs, fun h => ?_, fun h href => ?_, fun h => ?_, fun h => ?_, fun h => ?_, fun r l h => ?_,
    idleTick_frame s⟩
  · rw [idleTick_sup, countTick_running h]
  · rw [idleTick_clk, countTick_running h]
    simp [href]
  · rw [idleTick_sup, countTick_stopped h]
  · rw [idleTick_clk]
    cases hrun : s.sup.ticking with
    | false => rw [countTick_stopped hrun]
    | true =>
      have hok : s.clk.refOk = true := h.resolve_left (by simp [hrun])
      rw [countTick_running hrun]
      simp [hok]
  · have hpush : (countTick s).telem.push = [] := by rw [countTick_telem, h]
    rw [idleTick, sendPush_nil hpush]
    exact ⟨countTick_telem s, countTick_out s⟩
  · have hpush : (countTick s).telem.push = r :: l := by rw [countTick_telem, h]
    rw [idleTick, sendPush_cons hpush]
    simp

/-! ### Reset (R440 and the register tables) -/

/-- Settles O7: no unit is listed after reset, so that each stands at the reset values of its tables. -/
theorem resetLeaves : Obligations.ResetLeaves :=
  ⟨rfl, rfl, rfl, fun _ => ⟨rfl, rfl, rfl, rfl, rfl, rfl, rfl⟩, fun _ => rfl, rfl, rfl, rfl, rfl, fun _ => rfl, rfl, rfl, rfl,
    rfl, fun _ _ => rfl, fun _ _ => rfl, fun _ _ => rfl, fun _ => rfl, fun _ _ => rfl, fun _ _ => rfl,
    ⟨by simp [State.reset], by simp [State.reset]⟩⟩

/-- Settles O5. -/
theorem boardInvariantAtReset : Obligations.BoardInvariantAtReset where
  ready := by decide
  fault := by decide
  aon := by decide
  main := by decide
  perst := by decide
  pins := by decide

/-! ### Commands that leave the board as it is, the fuses apart (R354 to R358) -/

/-- The hull but for the fuses. -/
def boardOf (s : State) : Hull := { hull s with fuse := {} }

theorem boardOf_of_hull {s t : State} (h : hull t = hull s) : boardOf t = boardOf s := by
  unfold boardOf
  rw [h]

/-- The invariant speaks of the board alone. -/
theorem boardInv_of_board {s t : State} (h : boardOf t = boardOf s) (hs : BoardInv s) : BoardInv t := by
  simp only [boardOf, hull, Hull.mk.injEq, true_and] at h
  obtain ⟨-, hphase, hready, hperst, haon, hmain, hfault, hjtag⟩ := h
  obtain ⟨ready, fault, aon, main, perst, pins⟩ := hs
  constructor <;> rw [hphase]
  · rwa [hready]
  · rwa [hfault]
  · rwa [haon]
  · rwa [hmain]
  · rwa [hperst]
  · rwa [hjtag, hperst]

/-- The outcome, if it is a next state, leaves the board as it is. -/
def SameBoard (s : State) (o : Host.Outcome State Fault Refusal) : Prop := ∀ t, o = .next t → boardOf t = boardOf s

theorem sameBoard_of_keeps {s : State} {o : Host.Outcome State Fault Refusal} (h : Keeps s o) : SameBoard s o :=
  fun t ht => boardOf_of_hull (h t ht)

theorem sameBoard_next {s t : State} (h : boardOf t = boardOf s) : SameBoard s (.next t) := by
  intro u hu
  cases hu
  exact h

theorem sameBoard_runUnit {k m : Nat} {f : State → State} {s : State} (h : boardOf (f s) = boardOf s) :
    SameBoard s (runUnit k m f s) := by
  intro t ht
  obtain ⟨-, rfl⟩ := runUnit_cases ht
  exact h

theorem sameBoard_tokenCmd (tr : Transport) (i o : Nat) (tok : Token) (a b : State → Bool) (f : State → State) (s : State)
    (h : ∀ u, boardOf (f u) = boardOf u) : SameBoard s (tokenCmd tr i o tok a b f s) := by
  have huse : boardOf (useNonce s tok) = boardOf s := boardOf_of_hull (useNonce_hull s tok)
  apply sameBoard_next
  split
  · rfl
  split
  · exact boardOf_of_hull (answerError_hull s tr 1)
  split
  · exact boardOf_of_hull (vendor_hull s tr o 5 [])
  dsimp only
  split
  · rw [h, huse]
  · exact (boardOf_of_hull (vendor_hull _ _ _ _ _)).trans huse

/-- A transition carried out changes fuses, keys and flash. -/
theorem finishLc_board (s : State) : boardOf (finishLc s) = boardOf s := by
  unfold finishLc
  split
  · rfl
  · split
    · rfl
    · have herase := eraseOwner_hull s
      dsimp only
      generalize eraseOwner s = u at herase ⊢
      exact (boardOf_of_hull herase : boardOf u = boardOf s)

theorem startLc_board (s : State) (tr : Transport) (w : LcWait) : boardOf (startLc s tr w) = boardOf s :=
  (finishLc_board _).trans (boardOf_of_hull (forEach_hull _ _ _ teardownCtx_hull))

theorem freeCtx_board (s : State) (n : Nat) : boardOf (freeCtx s n) = boardOf s :=
  (finishLc_board _).trans (boardOf_of_hull (by simp))

theorem execRegisterOwner_board (tr : Transport) (id : Nat) (tok : Token) (d fm : Nat) (s : State) :
    SameBoard s (execRegisterOwner tr id tok d fm s) := by
  apply sameBoard_tokenCmd
  exact fun _ => rfl

theorem execReprovision_board (tr : Transport) (id : Nat) (tok : Token) (s : State) :
    SameBoard s (execReprovision tr id tok s) := by
  apply sameBoard_tokenCmd
  exact fun _ => rfl

theorem execReturnLc_board (tr : Transport) (id : Nat) (tok : Token) (s : State) :
    SameBoard s (execReturnLc tr id tok s) := by
  apply sameBoard_tokenCmd
  exact fun u => startLc_board u tr .ret

theorem execLcRetire_board (tr : Transport) (id : Nat) (tok : Token) (s : State) :
    SameBoard s (execLcRetire tr id tok s) := by
  apply sameBoard_tokenCmd
  exact fun u => startLc_board u tr .retire

theorem execProvisioning_board (cert : Nat) (s : State) : SameBoard s (execProvisioning cert s) := by
  apply sameBoard_next
  split <;> rfl

theorem execContextOutstandingZero_board (n : Nat) (s : State) : SameBoard s (execContextOutstandingZero n s) := by
  apply sameBoard_runUnit
  dsimp only
  split
  · rfl
  · cases (ctxAt s n).st with
    | free | active => rfl
    | stopping | clearing => exact boardOf_of_hull (putCtx_hull _ _ _)
    | quarantine => exact freeCtx_board s n

theorem execContextClearComplete_board (n : Nat) (s : State) : SameBoard s (execContextClearComplete n s) := by
  apply sameBoard_runUnit
  cases (ctxAt s n).st with
  | free | active | stopping | quarantine => rfl
  | clearing =>
    dsimp only
    split
    · exact boardOf_of_hull (by simp)
    · exact (freeCtx_board _ n).trans (boardOf_of_hull (clearCtx_hull s n))

/-- The commands that act on the rails, on PERST_N, on the phase of start-up or on the JTAG port. -/
def movesBoard : Instr → Bool
  | .inputPowerRise _ => true
  | .inputRange _ => true
  | .powerFailShutdown => true
  | .faultShutdown _ => true
  | .moduleReset => true
  | .startUp _ => true
  | .pushComplete _ => true
  | .jtagInstruction _ => true
  | _ => false

/-- Every other command leaves the board as it is. -/
theorem exec_board (c : Instr) (s : State) (h : movesBoard c = false) : SameBoard s (exec c s) := by
  cases hm : movesHull c with
  | false => exact sameBoard_of_keeps (exec_keeps c s hm)
  | true =>
    cases c with
    | registerOwner tr id tok d fm => exact execRegisterOwner_board tr id tok d fm s
    | reprovision tr id tok => exact execReprovision_board tr id tok s
    | returnLc tr id tok => exact execReturnLc_board tr id tok s
    | lcRetire tr id tok => exact execLcRetire_board tr id tok s
    | provisioning cert => exact execProvisioning_board cert s
    | contextOutstandingZero n => exact execContextOutstandingZero_board n s
    | contextClearComplete n => exact execContextClearComplete_board n s
    | inputPowerRise | inputRange | powerFailShutdown | faultShutdown | moduleReset | startUp | pushComplete
    | jtagInstruction => cases h
    | _ => cases hm

/-! ### Commands that act on the board (R373 to R376, R454 to R457, R462, R463, R482) -/

/-- The outcome, if it is a next state, leaves the queue as it is, and keeps the invariant of the board. -/
def Sound (s : State) (o : Host.Outcome State Fault Refusal) : Prop :=
  ∀ t, o = .next t → t.pending = s.pending ∧ (BoardInv s → BoardInv t)

theorem sound_of_board {s : State} {o : Host.Outcome State Fault Refusal} (h : SameBoard s o) : Sound s o :=
  fun t ht => ⟨congrArg Hull.pending (h t ht), boardInv_of_board (h t ht)⟩

theorem sound_next {s t : State} (hq : t.pending = s.pending) (hi : BoardInv s → BoardInv t) : Sound s (.next t) := by
  intro u hu
  cases hu
  exact ⟨hq, hi⟩

theorem sound_same (s : State) : Sound s (.next s) := sound_next rfl id

/-- A next state with the hull of `s`. -/
theorem sound_of_hull {s t : State} (h : hull t = hull s) : Sound s (.next t) :=
  sound_of_board (sameBoard_next (boardOf_of_hull h))

/-- Without power nothing drives pins. -/
theorem undriven_unpowered {s : State} (h : BoardInv s) (hp : s.sup.phase = .unpowered) : s.jtag.pinsDriven = false := by
  by_contra hd
  exact (h.pins (by simpa using hd)).2.2 hp

theorem notReady_of_phase {s : State} (h : BoardInv s) (hp : s.sup.phase ≠ .ready) : s.glb.ready = false := by
  by_contra hr
  exact hp (h.ready.1 (by simpa using hr))

theorem noFault_of_phase {s : State} (h : BoardInv s) (hp : s.sup.phase ≠ .fault) : s.pwr.faultLatched = false := by
  by_contra hf
  exact hp (h.fault.1 (by simpa using hf))

theorem execInputPowerRise_sound (mv10 : Nat) (s : State) : Sound s (execInputPowerRise mv10 s) := by
  unfold execInputPowerRise
  split
  · exact sound_same s
  case isFalse hrise =>
    have hp : s.sup.phase = .unpowered := by
      by_contra hp
      exact hrise (.inl hp)
    refine sound_next rfl fun h => ?_
    have hready := notReady_of_phase h (by simp [hp])
    have hfault := noFault_of_phase h (by simp [hp])
    have hpins := undriven_unpowered h hp
    constructor <;> simp_all

theorem execInputRange_sound (mv10 : Nat) (s : State) : Sound s (execInputRange mv10 s) := by
  unfold execInputRange
  cases hp : s.sup.phase with
  | unpowered => exact sound_same s
  | held | recovery => exact sound_of_hull rfl
  | ready =>
    dsimp only
    split
    · exact sound_of_hull rfl
    · exact sound_of_hull (ctxEvent_hull _ _ _ _ _ _ _)
  | fault =>
    dsimp only
    split
    · refine sound_next rfl fun h => ?_
      have hready := notReady_of_phase h (by simp [hp])
      constructor <;> simp_all
    · exact sound_of_hull rfl

theorem execPowerFailShutdown_sound (s : State) : Sound s (execPowerFailShutdown s) := by
  unfold execPowerFailShutdown
  have hoff : Sound s (.next { haltModule s .unpowered false with
      pwr := { perstN := s.pwr.perstN, inRange := false, aonRail := false, mainRails := false }, jtag := {} }) := by
    refine sound_next (halt_pending s .unpowered false) fun _ => ?_
    constructor <;> simp [halt_phase, halt_ready]
  cases s.sup.phase with
  | unpowered | fault => exact sound_same s
  | held | recovery | ready => exact hoff

/-- Every unit stopped and a fault latched, from a phase with power. -/
theorem faultStop_sound {s : State} (hp : s.sup.phase ≠ .unpowered) : Sound s (.next { haltModule s .fault false with
    pwr := { (haltModule s .fault false).pwr with mainRails := false, faultLatched := true } }) := by
  refine sound_next (halt_pending s .fault false) fun h => ?_
  have haon := h.aon.2 hp
  have hpins := h.pins
  constructor <;> simp [halt_phase, halt_ready, halt_jtag, halt_perst, halt_aon, haon]
  exact fun hd => ⟨(hpins hd).1, (hpins hd).2.1⟩

theorem execFaultShutdown_sound (cause : ShutCause) (s : State) : Sound s (execFaultShutdown cause s) := by
  unfold execFaultShutdown
  cases hp : s.sup.phase with
  | unpowered | fault => exact sound_same s
  | held | recovery | ready => cases cause <;> exact faultStop_sound (by simp [hp])

/-- Every unit stopped with PERST_N low, from a phase with its rails on. -/
theorem resetStop_sound {s : State} (hp : s.sup.phase ≠ .unpowered) (hf : s.sup.phase ≠ .fault) :
    Sound s (.next { haltModule s .held true with pwr := { (haltModule s .held true).pwr with perstN := false } }) := by
  refine sound_next (halt_pending s .held true) fun h => ?_
  have haon := h.aon.2 hp
  have hmain := h.main.2 ⟨hp, hf⟩
  have hfault := noFault_of_phase h hf
  have hpins := h.pins
  constructor <;> simp [halt_phase, halt_ready, halt_jtag, halt_aon, halt_main, halt_fault, haon, hmain, hfault]
  exact fun hd => (hpins hd).1

theorem execModuleReset_sound (s : State) : Sound s (execModuleReset s) := by
  unfold execModuleReset
  have hlow (hp : s.sup.phase = .unpowered ∨ s.sup.phase = .fault) :
      Sound s (.next { s with pwr := { s.pwr with perstN := false } }) := by
    refine sound_next rfl fun h => ?_
    obtain ⟨ready, fault, aon, main, -, pins⟩ := h
    refine ⟨ready, fault, aon, main, fun hup => ?_, fun hd => ⟨(pins hd).1, rfl, (pins hd).2.2⟩⟩
    rcases hp with hp | hp <;> simp [hp] at hup
  cases hp : s.sup.phase with
  | unpowered => exact hlow (.inl hp)
  | fault => exact hlow (.inr hp)
  | held | recovery | ready => exact resetStop_sound (by simp [hp]) (by simp [hp])

/-- With PERST_N high nothing drives pins (R482). -/
theorem perstHigh_undriven {s : State} (h : BoardInv s) : (perstHigh s).jtag.pinsDriven = false := by
  have hpins := h.pins
  cases hd : JtagIr.drives s.jtag.actsAs with
  | true => simp [perstHigh, hd]
  | false =>
    have hoff : s.jtag.pinsDriven = false := by
      by_contra hon
      have := (hpins (by simpa using hon)).1
      simp [hd] at this
    simp [perstHigh, hd, hoff]

/-- Start-up that reaches recovery or READY: the rails are on, PERST_N is high. -/
theorem boardInv_risen {s t : State} (h : BoardInv s) (hs : s.sup.phase ≠ .unpowered ∧ s.sup.phase ≠ .fault)
    (ht : t.sup.phase = .recovery ∨ t.sup.phase = .ready) (hready : t.glb.ready = true ↔ t.sup.phase = .ready)
    (hfault : t.pwr.faultLatched = s.pwr.faultLatched) (haon : t.pwr.aonRail = s.pwr.aonRail)
    (hmain : t.pwr.mainRails = s.pwr.mainRails) (hperst : t.pwr.perstN = true) (hpins : t.jtag.pinsDriven = false) :
    BoardInv t := by
  have hf := noFault_of_phase h hs.2
  have ha := h.aon.2 hs.1
  have hm := h.main.2 hs
  refine ⟨hready, ?_, ?_, ?_, fun _ => hperst, fun hd => by simp [hpins] at hd⟩
  · rcases ht with ht | ht <;> simp [ht, hfault, hf]
  · rcases ht with ht | ht <;> simp [ht, haon, ha]
  · rcases ht with ht | ht <;> simp [ht, hmain, hm]

/-- The fields of the board after a verified image has started. -/
theorem runImage_board (s : State) (i : FwImage) (k : Nat) (b : BootIn) :
    (runImage s i k b).pending = s.pending ∧ (runImage s i k b).sup.phase = .ready ∧ (runImage s i k b).glb.ready = true ∧
    (runImage s i k b).pwr.perstN = s.pwr.perstN ∧ (runImage s i k b).pwr.aonRail = s.pwr.aonRail ∧
    (runImage s i k b).pwr.mainRails = s.pwr.mainRails ∧ (runImage s i k b).pwr.faultLatched = s.pwr.faultLatched ∧
    (runImage s i k b).jtag = s.jtag := by
  have h := runImage_facts s i k b
  simp only [hull, Hull.mk.injEq] at h
  obtain ⟨hq, -, hphase, hready, hperst, haon, hmain, hfault, hjtag⟩ := h
  exact ⟨hq, hphase, hready, hperst, haon, hmain, hfault, hjtag⟩

theorem boardInv_runImage {s u : State} (h : BoardInv s) (hs : s.sup.phase ≠ .unpowered ∧ s.sup.phase ≠ .fault)
    (hfault : u.pwr.faultLatched = s.pwr.faultLatched) (haon : u.pwr.aonRail = s.pwr.aonRail)
    (hmain : u.pwr.mainRails = s.pwr.mainRails) (hperst : u.pwr.perstN = true) (hpins : u.jtag.pinsDriven = false)
    (i : FwImage) (k : Nat) (b : BootIn) : BoardInv (runImage u i k b) := by
  obtain ⟨-, hphase, hready, hp, ha, hm, hf, hj⟩ := runImage_board u i k b
  exact boardInv_risen h hs (.inr hphase) (by simp [hready, hphase]) (hf.trans hfault) (ha.trans haon) (hm.trans hmain)
    (hp.trans hperst) (by rw [hj, hpins])

/-- A verified image that starts in recovery. -/
theorem boardInv_recovered {s : State} (h : BoardInv s) (hp : s.sup.phase = .recovery) (i : FwImage) (k : Nat) (b : BootIn) :
    BoardInv (runImage s i k b) := by
  have hperst := h.perst (.inr hp)
  have hpins : s.jtag.pinsDriven = false := by
    by_contra hd
    obtain ⟨-, hlow, -⟩ := h.pins (by simpa using hd)
    simp [hperst] at hlow
  exact boardInv_runImage h (by simp [hp]) rfl rfl rfl hperst hpins i k b

theorem execStartUp_sound (boot : BootIn) (s : State) : Sound s (execStartUp boot s) := by
  unfold execStartUp
  have hhigh (hp : s.sup.phase = .unpowered ∨ s.sup.phase = .fault) : Sound s (.next (perstHigh s)) := by
    refine sound_next rfl fun h => ?_
    have hpins := perstHigh_undriven h
    obtain ⟨ready, fault, aon, main, -, -⟩ := h
    exact ⟨ready, fault, aon, main, fun _ => rfl, fun hd => by simp [hpins] at hd⟩
  cases hp : s.sup.phase with
  | unpowered => exact hhigh (.inl hp)
  | fault => exact hhigh (.inr hp)
  | recovery | ready => exact sound_same s
  | held =>
    have hs : s.sup.phase ≠ .unpowered ∧ s.sup.phase ≠ .fault := by simp [hp]
    dsimp only
    split
    · refine sound_next (runImage_board _ _ _ _).1 fun h => ?_
      have hpins := perstHigh_undriven h
      refine boardInv_runImage h hs ?_ ?_ ?_ ?_ ?_ _ _ _
      · rfl
      · rfl
      · rfl
      · rfl
      · exact hpins
    · refine sound_next rfl fun h => ?_
      have hready := notReady_of_phase h (by simp [hp])
      exact boardInv_risen h hs (.inl rfl) (by simp [releaseReset, perstHigh, hready]) rfl rfl rfl rfl (perstHigh_undriven h)

theorem execPushComplete_sound (boot : BootIn) (s : State) : Sound s (execPushComplete boot s) := by
  unfold execPushComplete
  split
  · exact sound_same s
  next p _ =>
    dsimp only
    split
    · exact sound_of_hull rfl
    next i _ =>
      split
      · exact sound_of_hull rfl
      split
      · exact sound_of_hull rfl
      split
      case isTrue hrec =>
        have hpushed (u : State) (hu : boardOf u = boardOf s) (k : Nat) : Sound s (.next (runImage u i k boot)) :=
          sound_next ((runImage_board u i k boot).1.trans (congrArg Hull.pending hu)) fun h =>
            boardInv_recovered (boardInv_of_board hu h) ((congrArg Hull.phase hu).trans hrec) i k boot
        refine hpushed _ ?_ _
        split <;> rfl
      case isFalse => exact sound_of_board (sameBoard_next (by split <;> rfl))

theorem execJtagInstruction_sound (ir : JtagIr) (s : State) : Sound s (execJtagInstruction ir s) := by
  unfold execJtagInstruction
  split
  · exact sound_same s
  case isFalse hp =>
    have hinv (h : BoardInv s) (o : List Output) : BoardInv { s with out := o, jtag := {
        ir := ir, actsAs := if !jtagOpen s ir || (JtagIr.drives ir && s.pwr.perstN) then .bypass else ir,
        pinsDriven := JtagIr.drives ir && !(!jtagOpen s ir || (JtagIr.drives ir && s.pwr.perstN)) } } := by
      obtain ⟨ready, fault, aon, main, perst, -⟩ := h
      refine ⟨ready, fault, aon, main, perst, fun hd => ?_⟩
      simp only [Bool.and_eq_true, Bool.not_eq_true', Bool.or_eq_false_iff] at hd
      obtain ⟨hdrives, hopen, hlow⟩ := hd
      simp_all
    dsimp only
    split
    · exact sound_next rfl fun h => hinv h _
    · exact sound_next rfl fun h => hinv h _

/-- A command leaves the queue as it is and keeps the invariant of the board. -/
theorem exec_sound (c : Instr) (s : State) : Sound s (exec c s) := by
  cases h : movesBoard c with
  | false => exact sound_of_board (exec_board c s h)
  | true =>
    cases c with
    | inputPowerRise mv10 => exact execInputPowerRise_sound mv10 s
    | inputRange mv10 => exact execInputRange_sound mv10 s
    | powerFailShutdown => exact execPowerFailShutdown_sound s
    | faultShutdown cause => exact execFaultShutdown_sound cause s
    | moduleReset => exact execModuleReset_sound s
    | startUp boot => exact execStartUp_sound boot s
    | pushComplete boot => exact execPushComplete_sound boot s
    | jtagInstruction ir => exact execJtagInstruction_sound ir s
    | _ => cases h

/-! ### Every step -/

/-- Settles O3: no command touches the queue, and a step has taken its front. -/
theorem queueInOrder : Obligations.QueueInOrder := by
  refine ⟨fun c s t h => (exec_sound c s t h).1, fun s t h => ?_⟩
  cases hq : s.pending with
  | nil =>
    rw [step_nil hq] at h
    cases h
    rw [idleTick_frame]
    exact hq
  | cons c rest =>
    rw [step_cons hq] at h
    exact (exec_sound c _ t h).1

/-- Settles O4: the idle tick keeps the hull, and every command keeps the invariant. -/
theorem boardInvariantKept : Obligations.BoardInvariantKept := by
  intro s t hs h
  cases hq : s.pending with
  | nil =>
    rw [step_nil hq] at h
    cases h
    exact boardInv_of_board (boardOf_of_hull (idleTick_hull s)) hs
  | cons c rest =>
    rw [step_cons hq] at h
    refine (exec_sound c _ t h).2 ?_
    obtain ⟨ready, fault, aon, main, perst, pins⟩ := hs
    exact ⟨ready, fault, aon, main, perst, pins⟩

end Sys2Proof.Machine

/-! PROOFS. The rings of a context: those that an APPLY resets (O42), doorbells, fetching, and the records written (O43). -/

namespace Sys2Proof.Machine

/-! ### A bit taken out of a mask (R7) -/

theorem div_sub_two_pow (n i : Nat) : (n - 2 ^ i) / 2 ^ i = n / 2 ^ i - 1 := by
  simpa using Nat.sub_mul_div n (2 ^ i) 1

section
variable {n i : Nat} (h : bitAt n i = true)
include h

theorem bitAt_sub_same : bitAt (n - 2 ^ i) i = false := by
  have hodd : n / 2 ^ i % 2 = 1 := by simpa [bitAt] using h
  simp only [bitAt, div_sub_two_pow, beq_eq_false_iff_ne]
  omega

theorem bitAt_sub_above {j : Nat} (hj : i < j) : bitAt (n - 2 ^ i) j = bitAt n j := by
  have hodd : n / 2 ^ i % 2 = 1 := by simpa [bitAt] using h
  obtain ⟨k, rfl⟩ : ∃ k, j = i + 1 + k := ⟨j - (i + 1), by omega⟩
  have hhalf : (n - 2 ^ i) / 2 ^ (i + 1) = n / 2 ^ (i + 1) := by
    rw [pow_succ, ← Nat.div_div_eq_div_mul, ← Nat.div_div_eq_div_mul, div_sub_two_pow]
    generalize n / 2 ^ i = q at hodd ⊢
    omega
  rw [bitAt, bitAt, pow_add, ← Nat.div_div_eq_div_mul, ← Nat.div_div_eq_div_mul, hhalf]

theorem bitAt_sub_below {j : Nat} (hj : j < i) : bitAt (n - 2 ^ i) j = bitAt n j := by
  have hodd : n / 2 ^ i % 2 = 1 := by simpa [bitAt] using h
  obtain ⟨k, rfl⟩ : ∃ k, i = j + (k + 1) := ⟨i - (j + 1), by omega⟩
  have hle : 2 ^ (k + 1) ≤ n / 2 ^ j := by
    by_contra hlt
    rw [pow_add, ← Nat.div_div_eq_div_mul, Nat.div_eq_of_lt (by omega)] at hodd
    omega
  have hsub : (n - 2 ^ (j + (k + 1))) / 2 ^ j = n / 2 ^ j - 2 ^ (k + 1) := by rw [pow_add, Nat.sub_mul_div]
  have heven : 2 ^ (k + 1) = 2 * 2 ^ k := pow_succ' 2 k
  rw [bitAt, bitAt, hsub]
  congr 1
  omega

end

theorem bitAt_sub_ne {n i j : Nat} (h : bitAt n i = true) (hj : j ≠ i) : bitAt (n - 2 ^ i) j = bitAt n j :=
  (Nat.lt_or_gt_of_ne hj).elim (bitAt_sub_below h) (bitAt_sub_above h)

/-! ### Submission rings of an APPLY (R323) -/

/-- Whether an APPLY changes submission ring `i`. -/
abbrev sqChanged (x : Ctx) (i : Nat) : Prop :=
  tabGet x.stg.sqBase i 0 ≠ tabGet x.act.sqBase i 0 ∨ tabGet x.stg.sqCfg i 0 ≠ tabGet x.act.sqCfg i 0

/-- A submission ring with its stop bit. -/
def ringView (x : Ctx) (i : Nat) : Ring × Bool := (sqAt x i, bitAt x.ringStop i)

theorem applySq_same {x : Ctx} {i : Nat} (h : ¬ sqChanged x i) : applySq x i = x := if_neg h

theorem ringView_applySq {x : Ctx} {i : Nat} (h : sqChanged x i) : ringView (applySq x i) i = ({}, false) := by
  rw [applySq, if_pos h, ringView, Prod.mk.injEq]
  refine ⟨by simp [sqAt, putSq], ?_⟩
  dsimp only
  split
  case isTrue hstop => exact bitAt_sub_same hstop
  case isFalse hstop => simpa using hstop

theorem ringView_applySq_ne (x : Ctx) {i j : Nat} (h : j ≠ i) : ringView (applySq x i) j = ringView x j := by
  by_cases hc : sqChanged x i
  · rw [applySq, if_pos hc, ringView, ringView, Prod.mk.injEq]
    refine ⟨tabGet_tabSet_ne _ _ _ h, ?_⟩
    dsimp only
    split
    case isTrue hstop => exact bitAt_sub_ne hstop h
    case isFalse => rfl
  · rw [applySq_same hc]

theorem sqChanged_applySq (x : Ctx) (i j : Nat) : sqChanged (applySq x i) j ↔ sqChanged x j := by
  unfold applySq
  split <;> rfl

theorem ringView_applySqs_same (l : List Nat) {x : Ctx} {j : Nat} (h : ¬ sqChanged x j) :
    ringView (l.foldl applySq x) j = ringView x j := by
  induction l generalizing x with
  | nil => rfl
  | cons i l ih =>
    rw [List.foldl_cons, ih (mt (sqChanged_applySq x i j).1 h)]
    by_cases hij : j = i
    · rw [← hij, applySq_same h]
    · exact ringView_applySq_ne x hij

theorem ringView_applySqs_changed {l : List Nat} {x : Ctx} {j : Nat} (h : sqChanged x j) (hj : j ∈ l) :
    ringView (l.foldl applySq x) j = ({}, false) := by
  have hkept (l : List Nat) (y : Ctx) (hy : ringView y j = ({}, false)) : ringView (l.foldl applySq y) j = ({}, false) := by
    induction l generalizing y with
    | nil => exact hy
    | cons i l ih =>
      refine ih _ ?_
      by_cases hij : j = i
      · subst hij
        by_cases hc : sqChanged y j
        · exact ringView_applySq hc
        · rw [applySq_same hc, hy]
      · rw [ringView_applySq_ne y hij, hy]
  induction l generalizing x with
  | nil => cases hj
  | cons i l ih =>
    rw [List.foldl_cons]
    by_cases hij : j = i
    · subst hij
      exact hkept l _ (ringView_applySq h)
    · exact ih ((sqChanged_applySq x i j).2 h) ((List.mem_cons.1 hj).resolve_left hij)

/-- What the basins and the staging that an APPLY changes leave of a context: its rings, its commands and its records. -/
def ringsOf (x : Ctx) : Tab Ring × Nat × OutRing × OutRing × List HCmd × List Comp :=
  (x.sq, x.ringStop, x.cq, x.msg, x.cmds, x.comps)

theorem ringsOf_unflagged (x : Ctx) : ringsOf (unflagged x) = ringsOf x := rfl

theorem enteredCtx_rings (x y : Ctx) (old : List Nat) : ringsOf (enteredCtx x y old) = ringsOf y := by
  unfold enteredCtx
  dsimp only
  split <;> split <;> rfl

/-- The rings after an APPLY are those of the staged fields put in force. -/
theorem applyNow_rings (s : State) (n : Nat) :
    ringsOf (ctxAt (applyNow s n) n) = ringsOf (applyFields (ctxAt (rehomed s n) n)) := by
  rw [← ringsOf_unflagged, ctxAt_applyNow, ringsOf_unflagged, appliedCtx, enteredCtx_rings]

theorem applyFields_sq (x : Ctx) : (applyFields x).sq = ((List.range 8).foldl applySq x).sq := by
  rw [applyFields]
theorem applyFields_ringStop (x : Ctx) : (applyFields x).ringStop = ((List.range 8).foldl applySq x).ringStop := by
  rw [applyFields]
theorem applyFields_cmds (x : Ctx) : (applyFields x).cmds = x.cmds :=
  (congrArg Ctx.cmds (applySqs_unringed (List.range 8) x) :)
theorem applyFields_comps (x : Ctx) : (applyFields x).comps = x.comps :=
  (congrArg Ctx.comps (applySqs_unringed (List.range 8) x) :)
theorem applyFields_cq (x : Ctx) :
    (applyFields x).cq = if x.stg.cqBase ≠ x.act.cqBase ∨ x.stg.cqCfg ≠ x.act.cqCfg then {} else x.cq := rfl
theorem applyFields_msg (x : Ctx) :
    (applyFields x).msg = if x.stg.msgBase ≠ x.act.msgBase ∨ x.stg.msgCfg ≠ x.act.msgCfg then {} else x.msg := rfl

/-- Settles O42: a changed endpoint ID leaves the rings, and each ring is reset where its fields differ. -/
theorem ringsReset : Obligations.RingsReset := by
  intro s n i hn hi hok x changed cqChanged msgChanged
  have hexec : exec (.apply n) s = .next (applyNow s n) := by
    rw [exec_apply, execApply, runUnit_next _ _ hn, if_pos hok]
  have hrings := applyNow_rings s n
  have hrec := ctxAt_rehomed s n
  generalize ctxAt (rehomed s n) n = y at hrings hrec
  have hstg : y.stg = x.stg := (congrArg Ctx.stg hrec :)
  have hact : y.act = x.act := (congrArg Ctx.act hrec :)
  have hold : ringView y i = ringView x i := (congrArg (fun z => ringView z i) hrec :)
  have hchanged : sqChanged y i ↔ changed := by rw [sqChanged, hstg, hact]
  simp only [ringsOf, Prod.mk.injEq, applyFields_sq, applyFields_ringStop, applyFields_cq, applyFields_msg, applyFields_cmds, applyFields_comps, hstg, hact] at hrings
  obtain ⟨hsq, hstop, hcq, hmsg, hcmds, hcomps⟩ := hrings
  have hview : ringView (ctxAt (applyNow s n) n) i = ringView ((List.range 8).foldl applySq y) i := by
    rw [ringView, ringView, sqAt, sqAt, hsq, hstop]
  refine ⟨_, hexec, fun h => ?_, fun h => ?_, fun h => ?_, fun h => ?_, fun h => ?_, fun h => ?_, ?_, ?_⟩
  · have hreset := hview.trans (ringView_applySqs_changed (hchanged.2 h) (List.mem_range.2 hi))
    simp only [ringView, Prod.mk.injEq] at hreset
    obtain ⟨hring, hbit⟩ := hreset
    exact ⟨by rw [hring], by rw [hring], hbit⟩
  · have hsame := (hview.trans (ringView_applySqs_same _ (mt hchanged.1 h))).trans hold
    simpa only [ringView, Prod.mk.injEq] using hsame
  · have hcq0 : (ctxAt (applyNow s n) n).cq = {} := hcq.trans (if_pos h)
    simp [hcq0]
  · exact (hcq.trans (if_neg h)).trans (congrArg Ctx.cq hrec :)
  · have hmsg0 : (ctxAt (applyNow s n) n).msg = {} := hmsg.trans (if_pos h)
    simp [hmsg0]
  · exact (hmsg.trans (if_neg h)).trans (congrArg Ctx.msg hrec :)
  · exact hcmds.trans (congrArg Ctx.cmds hrec :)
  · exact hcomps.trans (congrArg Ctx.comps hrec :)

/-! ### Doorbells (R326) -/

theorem exec_sqDoorbell (n i v : Nat) (s : State) : exec (.sqDoorbell n i v) s = execSqDoorbell n i v s := rfl
theorem exec_cqHead (n v : Nat) (s : State) : exec (.cqHead n v) s = execCqHead n v s := rfl
theorem exec_msgHead (n v : Nat) (s : State) : exec (.msgHead n v) s = execMsgHead n v s := rfl

/-- The claim on doorbells. -/
theorem doorbells : Claims.Doorbells := by
  intro s n i v hn x
  rw [exec_sqDoorbell, exec_cqHead, exec_msgHead, execSqDoorbell, execCqHead, execMsgHead, runUnit_next _ _ hn,
    runUnit_next _ _ hn, runUnit_next _ _ hn]
  refine ⟨fun hi hsize => ?_, fun hoff => ?_, fun hsize => ?_, fun hsize => ?_, fun hsize => ?_, fun hsize => ?_⟩
  · exact congrArg _ (if_pos ⟨hi, hsize⟩)
  · refine congrArg _ (if_neg ?_)
    rintro ⟨hi, hsize⟩
    exact hoff.elim (Nat.not_le_of_lt hi) hsize
  · exact ⟨{ x.cq with head := v % 65536, count := heldBack x.cq (ringSize x.act.cqCfg) (v % 65536) },
      congrArg _ (if_neg hsize), rfl, rfl, rfl, Nat.mod_lt _ (Nat.pos_of_ne_zero hsize)⟩
  · exact congrArg _ (if_pos hsize)
  · exact congrArg _ (if_neg hsize)
  · exact congrArg _ (if_pos hsize)

/-! ### Fetching (R320, R322, R327, R331) -/

theorem exec_descriptorFetch (n : Nat) (d : BitVec 512) (s : State) :
    exec (.descriptorFetch n d) s = execDescriptorFetch n d s := rfl
theorem exec_hostDmaFault (n : Nat) (fetch : Bool) (idx : Nat) (s : State) :
    exec (.hostDmaFault n fetch idx) s = execHostDmaFault n fetch idx s := rfl

/-- Nothing is fetched for a context that is not served or not enabled. -/
theorem fetchRing_unserved {s : State} {n : Nat}
    (h : ringsUp s = false ∨ (ctxAt s n).st ≠ .active ∨ (ctxAt s n).enable = false) : fetchRing s n = none := by
  refine if_neg ?_
  rintro ⟨hup, hst, hen⟩
  rcases h with h | h | h
  · simp [h] at hup
  · exact h hst
  · simp [h] at hen

theorem active_of_fetchRing {s : State} {n i : Nat} (h : fetchRing s n = some i) : (ctxAt s n).st = .active := by
  by_contra hst
  rw [fetchRing_unserved (.inr (.inl hst))] at h
  cases h

/-- The command that a fetch from ring `i` makes of a descriptor. -/
def fetchedCmd (x : Ctx) (i : Nat) (d : BitVec 512) : HCmd :=
  { ring := i, idx := (sqAt x i).head, desc := d, started := decide (0x0F < fld d 7 0), seqNo := x.cmdSeq }

/-- A context after a descriptor has been fetched from ring `i`. -/
def fetchedCtx (x : Ctx) (i : Nat) (d : BitVec 512) : Ctx :=
  { putSq x i { sqAt x i with head := ((sqAt x i).head + 1) % ringSize (sqCfgOf x i) } with
    lastRing := i, cmds := x.cmds ++ [fetchedCmd x i d], cmdSeq := x.cmdSeq + 1 }

theorem postComp_active {x : Ctx} (k : Comp) (h : x.st = .active) : postComp x k = { x with comps := x.comps ++ [k] } := by
  simp [postComp, h, CtxSt.closing]

/-- The completion of a fetched command whose OPC is reserved (R331). -/
def reservedComp (h : HCmd) : Comp := comp (cmdTag h) h.ring 2 0 0 (cmdNoIrq h)

theorem descriptorFetch_next {s : State} {n i : Nat} (d : BitVec 512) (hn : n < 16) (h : fetchRing s n = some i) :
    exec (.descriptorFetch n d) s = .next (putCtx s n { fetchedCtx (ctxAt s n) i d with
      comps := (ctxAt s n).comps ++ if 0x0F < fld d 7 0 then [reservedComp (fetchedCmd (ctxAt s n) i d)] else [] }) := by
  have hst : (fetchedCtx (ctxAt s n) i d).st = .active := active_of_fetchRing h
  have hexec : exec (.descriptorFetch n d) s = .next (putCtx s n (if decide (0x0F < fld d 7 0) = true then
      postComp (fetchedCtx (ctxAt s n) i d) (reservedComp (fetchedCmd (ctxAt s n) i d)) else fetchedCtx (ctxAt s n) i d)) := by
    rw [exec_descriptorFetch, execDescriptorFetch, runUnit_next _ _ hn, h]
    rfl
  rw [hexec, postComp_active _ hst]
  by_cases hbad : 0x0F < fld d 7 0
  · rw [if_pos (by simpa using hbad), if_pos hbad]
    rfl
  · rw [if_neg (by simpa using hbad), if_neg hbad, List.append_nil]
    rfl

/-- An event that finds room enters the store of an ACTIVE context. -/
theorem ctxEvent_stored {s : State} {n : Nat} (hst : (ctxAt s n).st = .active) (hroom : storeUnits (ctxAt s n).store + 2 ≤ 8192)
    (code basins a0 a1 a2 : Nat) : (ctxAt (ctxEvent s n code basins a0 a1 a2) n).store = (ctxAt s n).store ++
      [{ eventRec (takeFree s).1 code basins 0xFFFF noFld noFld noFld noFld a0 a1 a2 with step := (ctxAt s n).stepNum }] := by
  rw [ctxEvent, postEvent, postMsg, ctxAt_putCtx, postRec_stored (by simp [hst, CtxSt.closing]) hroom]
  rfl

theorem ctxEvent_store {s : State} {n : Nat} (hst : (ctxAt s n).st = .active) (hroom : storeUnits (ctxAt s n).store + 2 ≤ 8192)
    (code basins a0 a1 a2 : Nat) : ∃ r : MsgRec, (ctxAt (ctxEvent s n code basins a0 a1 a2) n).store = (ctxAt s n).store ++ [r] ∧
      r.code = code := ⟨_, ctxEvent_stored hst hroom code basins a0 a1 a2, rfl⟩

/-- A fetch that fails, from a ring of another context than 0. -/
theorem fetchFault_stops {s : State} {n i : Nat} (hn : n < 16) (h : fetchRing s n = some i) (hn0 : n ≠ 0)
    (hst : (ctxAt s 0).st = .active) (hroom : storeUnits (ctxAt s 0).store + 2 ≤ 8192) :
    ∃ t : State, ∃ r, exec (.hostDmaFault n true i) s = .next t ∧ (ctxAt t n).ringStop = (ctxAt s n).ringStop ||| 2 ^ i ∧
      (ctxAt t 0).store = (ctxAt s 0).store ++ [r] ∧ r.code = evHostDmaFault := by
  let u := putCtx s n { ctxAt s n with ringStop := (ctxAt s n).ringStop ||| 2 ^ i }
  have hzero : ctxAt u 0 = ctxAt s 0 := ctxAt_putCtx_ne s _ hn0.symm
  obtain ⟨r, hstore, hcode⟩ := ctxEvent_store (s := u) (n := 0) (by rw [hzero, hst]) (by rw [hzero]; exact hroom)
    evHostDmaFault 0 0 0 0
  refine ⟨_, r, ?_, ?_, by rw [hstore, hzero], hcode⟩
  · rw [exec_hostDmaFault, execHostDmaFault, runUnit_next _ _ hn, if_pos rfl, if_pos h]
  · rw [ctxEvent, postEvent, postMsg, ctxAt_putCtx_ne _ _ hn0, ctxAt_takeFree, ctxAt_putCtx]

/-- The only fetched command, not yet started, may start. -/
theorem startable_only {x : Ctx} {h : HCmd} (hcmds : x.cmds = [h]) (hstarted : h.started = false) : startable x h = true := by
  have hbefore : before x h = [] := by simp [before, hcmds]
  simp [startable, hstarted, hbefore]

/-- The claim on fetching. -/
theorem fetching : Claims.Fetching := by
  intro s n i d hn x
  refine ⟨fun h => ?_, fun h => ?_, fun h hn0 hst hroom => fetchFault_stops hn h hn0 hst hroom,
    fun h hcmds hstarted hreads hparked hst => ?_⟩
  · refine ⟨_, fetchedCmd x i d, descriptorFetch_next d hn h, ?_⟩
    simp only [ctxAt_putCtx]
    refine ⟨rfl, rfl, rfl, ?_, rfl, fun j hj => tabGet_tabSet_ne _ _ _ hj, fun hopc => ?_, fun hopc => ?_, rfl⟩
    · simp [fetchedCtx, sqAt, putSq, x]
    · simp [Nat.not_lt.2 hopc, x]
    · simp [Answered, hopc, reservedComp, fetchedCmd, x]
  · rw [exec_descriptorFetch, execDescriptorFetch, runUnit_next _ _ hn, fetchRing_unserved h]
  · refine ⟨_, ?_, (failCmd_ended h hst 3).1⟩
    rw [exec_hostDmaFault, execHostDmaFault, runUnit_next _ _ hn]
    have hget : (ctxAt s n).cmds[0]? = some h := (congrArg (·[0]?) hcmds).trans rfl
    dsimp only
    rw [if_neg (by simp), hget]
    exact congrArg _ (if_pos ⟨hreads, startable_only hcmds hstarted, hparked⟩)

/-! ### Completion records and interrupts (R328 to R330) -/

theorem exec_completionWrite (n : Nat) (s : State) : exec (.completionWrite n) s = execCompletionWrite n s := rfl
theorem exec_interrupt (n : Nat) (msg up : Bool) (s : State) : exec (.interrupt n msg up) s = execInterrupt n msg up s := rfl
theorem exec_messageRecordPlace (n : Nat) (s : State) : exec (.messageRecordPlace n) s = execMessageRecordPlace n s := rfl

/-- A ring's phase flips where its index wraps. -/
theorem advanceRing_phase (r : OutRing) {size k : Nat} (h : r.wr + k ≤ size) :
    (advanceRing r size k).phase = if r.wr + k = size then !r.phase else r.phase := by
  rcases Nat.lt_or_eq_of_le h with hlt | heq
  · simp [advanceRing, hlt, hlt.ne]
  · simp [advanceRing, heq]

/-- The claim on the completion ring and its vectors. -/
theorem completionsWritten : Claims.CompletionsWritten := by
  rintro s n k rest ⟨hn, hup, hst⟩ x size
  refine ⟨fun hcomps hroom => ?_, fun hcomps hfull => ?_, fun hsize hdue => ?_, fun up hdue => ?_, fun hsize hdue => ?_⟩
  · have hexec : exec (.completionWrite n) s = .next (emit (putCtx s n { x with
        comps := rest, cmds := forgetCmd x.cmds k,
        cq := { advanceRing x.cq size 1 with count := x.cq.count + 1, unann := x.cq.unann + b2n (!k.noIrq) } })
        (.compRec n x.cq.wr x.cq.phase (sqAt x k.ring).head k)) := by
      rw [exec_completionWrite, execCompletionWrite, runUnit_next _ _ hn]
      dsimp only
      rw [hcomps]
      exact congrArg _ (if_pos ⟨hup, hst, hroom⟩)
    refine ⟨_, hexec, ?_⟩
    simp only [ctxAt_emit, ctxAt_putCtx]
    refine ⟨trivial, rfl, rfl, trivial, fun h => ?_, fun h => ?_, trivial, trivial⟩
    · exact (advanceRing_phase x.cq h.le).trans (if_neg h.ne)
    · exact (advanceRing_phase x.cq h.le).trans (if_pos h)
  · rw [exec_completionWrite, execCompletionWrite, runUnit_next _ _ hn]
    dsimp only
    rw [hcomps]
    refine congrArg _ (if_neg ?_)
    rintro ⟨-, -, hroom⟩
    exact Nat.not_lt.2 hfull hroom
  · rw [exec_interrupt, execInterrupt, runUnit_next _ _ hn]
    exact congrArg _ (if_pos ⟨hup, hst, hsize, hdue⟩)
  · rw [exec_interrupt, execInterrupt, runUnit_next _ _ hn]
    refine congrArg _ (if_neg ?_)
    rintro ⟨-, -, -, h⟩
    exact absurd (hdue.symm.trans h) (by simp)
  · rw [exec_interrupt, execInterrupt, runUnit_next _ _ hn]
    exact congrArg _ (if_pos ⟨hup, hst, hsize, hdue⟩)

/-! ### Message records (R342, R343) -/

section
variable {s : State} {n size : Nat} {m : MsgRec} {rest : List MsgRec} (hserved : Served s n)
  (hring : ringSize (ctxAt s n).act.msgCfg = size) (hsize : size ≠ 0) (hstore : (ctxAt s n).store = m :: rest)
  (hlost : (ctxAt s n).lostRun = 0)
include hserved hring hsize hstore hlost

/-- The oldest record is the one to place. -/
theorem messageRecordPlace_next : exec (.messageRecordPlace n) s = .next (match placeRec s n m size with
    | none => s
    | some t => putCtx t n (placedRec (ctxAt t n))) := by
  obtain ⟨hn, hup, hst⟩ := hserved
  have hnext : nextRec (ctxAt s n) = some m := by simp [nextRec, hstore, hlost]
  rw [exec_messageRecordPlace, execMessageRecordPlace, runUnit_next _ _ hn]
  simp only [hring, hnext]
  exact congrArg Host.Outcome.next (if_pos ⟨hup, hst, hsize⟩)

theorem messageRecordPlace_waits (h : placeRec s n m size = none) : exec (.messageRecordPlace n) s = .next s := by
  rw [messageRecordPlace_next hserved hring hsize hstore hlost, h]

theorem messageRecordPlace_places {t : State} (h : placeRec s n m size = some t) :
    exec (.messageRecordPlace n) s = .next (putCtx t n (placedRec (ctxAt t n))) := by
  rw [messageRecordPlace_next hserved hring hsize hstore hlost, h]

end

/-- A record written whole from ring position `r`. -/
def recordWritten (s : State) (n : Nat) (m : MsgRec) (size seq : Nat) (r : OutRing) : State :=
  emit (putCtx s n { ctxAt s n with msg := { advanceRing r size m.units with unann := r.unann + 1 }, msgSeq := (seq + 1) % 2 ^ 32 })
    (.msgRec n r.wr r.phase false { m with seq := seq, body := cutBody m.body m.units })

/-- The SKIP to the end of the ring. -/
def skipWritten (s : State) (n size : Nat) : State :=
  emit (takeFree s).2 (.msgRec n (ctxAt s n).msg.wr (ctxAt s n).msg.phase false
    (skipRec (takeFree s).1 (ctxAt s n) (size - (ctxAt s n).msg.wr)))

section
variable {s : State} {n size : Nat} {m : MsgRec} (hunits : m.units ≤ min 128 (size / 2))
include hunits

theorem placeRec_before (hfit : m.units ≤ size - (ctxAt s n).msg.wr) : placeRec s n m size =
    if msgFree (ctxAt s n).msg size < m.units then none
    else some (recordWritten s n m size (ctxAt s n).msgSeq (ctxAt s n).msg) := by
  unfold placeRec
  simp only [Nat.min_eq_left hunits, hfit, if_true, Nat.lt_irrefl, decide_false]
  rfl

theorem placeRec_after (hfit : ¬ m.units ≤ size - (ctxAt s n).msg.wr) : placeRec s n m size =
    if msgFree (ctxAt s n).msg size < size - (ctxAt s n).msg.wr + m.units then none
    else some (recordWritten (skipWritten s n size) n m size (ctxAt s n).msgSeq
      { (ctxAt s n).msg with wr := 0, phase := !(ctxAt s n).msg.phase }) := by
  unfold placeRec
  simp only [Nat.min_eq_left hunits, hfit, if_false, Nat.lt_irrefl, decide_false]
  rfl

end

/-- A placed record leaves the store, where no LATE_REPORT waits for one. -/
theorem placedRec_next {x : Ctx} {m : MsgRec} {rest : List MsgRec} (hstore : x.store = m :: rest) (hlost : x.lostRun = 0)
    (hlate : x.lateComps = []) : placedRec x = { x with store := rest } := by
  simp [placedRec, hstore, hlost, hlate]

/-- The claim on message records. -/
theorem recordsPlaced : Claims.RecordsPlaced := by
  intro s n size m rest hserved x free hring hsize hstore hlost hlate hunits hwr out
  have hplaced (u : State) (hu : ctxAt u n = x) (r : OutRing) :
      placedRec (ctxAt (recordWritten u n m size x.msgSeq r) n) = { x with
        msg := { advanceRing r size m.units with unann := r.unann + 1 }, msgSeq := (x.msgSeq + 1) % 2 ^ 32, store := rest } := by
    rw [recordWritten, ctxAt_emit, ctxAt_putCtx, hu]
    exact placedRec_next hstore hlost hlate
  have hbefore (hfit : x.msg.wr + m.units ≤ size) : m.units ≤ size - x.msg.wr := by omega
  have hafter (hover : size < x.msg.wr + m.units) : ¬ m.units ≤ size - x.msg.wr := by omega
  refine ⟨fun hfit hroom => ?_, fun hover hroom => ?_, fun hfit hfull => ?_, fun hover hfull => ?_⟩
  · have hplace : placeRec s n m size = some (recordWritten s n m size x.msgSeq x.msg) :=
      (placeRec_before hunits (hbefore hfit)).trans (if_neg (Nat.not_lt.2 hroom))
    refine ⟨_, messageRecordPlace_places hserved hring hsize hstore hlost hplace, rfl, ?_⟩
    rw [ctxAt_putCtx, hplaced s rfl]
    exact ⟨rfl, rfl, rfl, advanceRing_phase x.msg hfit⟩
  · have hplace : placeRec s n m size = some (recordWritten (skipWritten s n size) n m size x.msgSeq
        { x.msg with wr := 0, phase := !x.msg.phase }) :=
      (placeRec_after hunits (hafter hover)).trans (if_neg (Nat.not_lt.2 hroom))
    refine ⟨_, skipRec (takeFree s).1 x (size - x.msg.wr),
      messageRecordPlace_places hserved hring hsize hstore hlost hplace, ?_, rfl, rfl, ?_⟩
    · simp [recordWritten, skipWritten, out, x]
    · rw [ctxAt_putCtx, hplaced (skipWritten s n size) rfl]
      have hsmall : m.units < size := by omega
      exact ⟨rfl, by simpa [advanceRing] using Nat.mod_eq_of_lt hsmall⟩
  · exact messageRecordPlace_waits hserved hring hsize hstore hlost
      ((placeRec_before hunits (hbefore hfit)).trans (if_pos hfull))
  · exact messageRecordPlace_waits hserved hring hsize hstore hlost
      ((placeRec_after hunits (hafter hover)).trans (if_pos hfull))

/-- Settles O43: doorbells, fetching, completion records and message records. -/
theorem hostRings : Obligations.HostRings := ⟨doorbells, fetching, completionsWritten, recordsPlaced⟩

end Sys2Proof.Machine

/-! PROOFS. SPDM, sessions, nonces and certificates (O46), and images and their pushes (O48). -/

namespace Sys2Proof.Machine

/-! ### What the responder says (R354, R359, R375) -/

section
variable {s : State}

theorem answer_up (h : spdmUp s = true) (tr : Transport) (code : Nat) (ws : List Nat) :
    answer s tr code ws = emit s (.spdm tr code ws) := if_pos h

theorem answer_down (h : spdmUp s = false) (tr : Transport) (code : Nat) (ws : List Nat) : answer s tr code ws = s :=
  if_neg (by simp [h])

theorem answerError_up (h : spdmUp s = true) (tr : Transport) (code : Nat) :
    answerError s tr code = emit s (.spdm tr 0x7F [code]) := answer_up h tr 0x7F [code]

theorem answerError_down (h : spdmUp s = false) (tr : Transport) (code : Nat) : answerError s tr code = s :=
  answer_down h tr 0x7F [code]

end

/-- A command that only answers: its response, with the keys and the fuses as they were. -/
def Says (c : Instr) (s : State) (tr : Transport) (code : Nat) (ws : List Nat) : Prop :=
  ∃ t : State, exec c s = .next t ∧ t.out = s.out ++ [.spdm tr code ws] ∧ t.fuse = s.fuse ∧ t.trust = s.trust

theorem says_emit {c : Instr} {s u : State} {tr : Transport} {code : Nat} {ws : List Nat}
    (h : exec c s = .next (emit u (.spdm tr code ws))) (hout : u.out = s.out) (hfuse : u.fuse = s.fuse)
    (htrust : u.trust = s.trust) : Says c s tr code ws :=
  ⟨_, h, by rw [emit_out, hout], hfuse, htrust⟩

section
variable {s : State} (h : spdmUp s = true) (tr : Transport)
include h

theorem getVersion_says : Says (.getVersion tr) s tr 0x04 [0x13] :=
  says_emit (congrArg Host.Outcome.next (answer_up h tr _ _)) rfl rfl rfl

theorem getCapabilities_says : Says (.getCapabilities tr) s tr 0x61 (14 :: Config.answerWords 0x61 0) :=
  says_emit (congrArg Host.Outcome.next (answer_up h tr _ _)) rfl rfl rfl

theorem negotiateAlgorithms_says : Says (.negotiateAlgorithms tr true) s tr 0x63 (Config.answerWords 0x63 0) :=
  says_emit (congrArg Host.Outcome.next (answer_up h tr _ _)) rfl rfl rfl

theorem negotiateAlgorithms_refused : Says (.negotiateAlgorithms tr false) s tr 0x7F [1] :=
  says_emit (congrArg Host.Outcome.next (answerError_up h tr _)) rfl rfl rfl

theorem getDigests_says : Says (.getDigests tr) s tr 0x01 (1 :: Config.answerWords 0x01 s.trust.measD) :=
  says_emit (congrArg Host.Outcome.next (answer_up h tr _ _)) rfl rfl rfl

theorem getCertificate_says : Says (.getCertificate tr 0) s tr 0x02 (chainWords s ++ Config.answerWords 0x02 s.trust.measD) :=
  says_emit (congrArg Host.Outcome.next (answer_up h tr _ _)) rfl rfl rfl

theorem getCertificate_refused {slot : Nat} (hslot : slot ≠ 0) : Says (.getCertificate tr slot) s tr 0x7F [1] :=
  says_emit (congrArg Host.Outcome.next ((if_neg hslot).trans (answerError_up h tr 1))) rfl rfl rfl

theorem challenge_says (nonce : Nat) : Says (.challenge tr 0 nonce) s tr 0x03
    (nonce :: (takeFree s).1.toNat :: Config.answerWords 0x03 s.trust.measD) := by
  refine says_emit (u := (takeFree s).2) (congrArg Host.Outcome.next ?_) rfl rfl rfl
  rw [if_neg (by simp [h]), if_pos rfl]
  exact answer_up (s := (takeFree s).2) h tr _ _

theorem challenge_refused {slot : Nat} (hslot : slot ≠ 0) (nonce : Nat) : Says (.challenge tr slot nonce) s tr 0x7F [1] := by
  refine says_emit (congrArg Host.Outcome.next ?_) rfl rfl rfl
  rw [if_neg (by simp [h]), if_neg hslot]
  exact answerError_up h tr 1

theorem getMeasurements_count_says : Says (.getMeasurements tr 0) s tr 0x60 [(takeFree s).1.toNat, 38] := by
  refine says_emit (u := (takeFree s).2) (congrArg Host.Outcome.next ?_) rfl rfl rfl
  rw [if_neg (by simp [h])]
  exact answer_up (s := (takeFree s).2) h tr _ _

theorem getMeasurements_block_says {i : Nat} (hi : 1 ≤ i) (hlast : i < 0xFF) :
    Says (.getMeasurements tr i) s tr 0x60 ((takeFree s).1.toNat :: measBlock s i) := by
  refine says_emit (u := (takeFree s).2) (congrArg Host.Outcome.next ?_) rfl rfl rfl
  have hblock (a b : List Nat) : (if i = 0 then a else if i = 0xFF then b else measBlock s i) = measBlock s i :=
    (if_neg (by omega)).trans (if_neg (by omega))
  rw [if_neg (by simp [h])]
  dsimp only
  rw [hblock]
  exact answer_up (s := (takeFree s).2) h tr _ _

end

/-- The responder keeps silent. -/
theorem spdm_silent {s : State} (h : spdmUp s = false) (tr : Transport) (slot nonce i : Nat) (offered : Bool) :
    ∀ c ∈ [Instr.getVersion tr, .getCapabilities tr, .negotiateAlgorithms tr offered, .getDigests tr,
      .getCertificate tr slot, .challenge tr slot nonce, .getMeasurements tr i], exec c s = .next s := by
  have hdown {c : Instr} {code : Nat} {ws : List Nat} (hc : exec c s = .next (answer s tr code ws)) : exec c s = .next s :=
    hc.trans (congrArg _ (answer_down h tr code ws))
  intro c hc
  simp only [List.mem_cons, List.not_mem_nil, or_false] at hc
  rcases hc with rfl | rfl | rfl | rfl | rfl | rfl | rfl
  · exact hdown rfl
  · exact hdown rfl
  · cases offered <;> exact hdown rfl
  · exact hdown rfl
  · by_cases hslot : slot = 0
    · exact hdown (congrArg _ (if_pos hslot))
    · exact hdown (congrArg _ (if_neg hslot))
  · exact congrArg _ (if_pos (by simp [h]))
  · exact congrArg _ (if_pos (by simp [h]))

/-- The claim on SPDM requests outside sessions. -/
theorem spdmAnswers : Claims.SpdmAnswers := by
  intro s tr slot nonce i offered speaks
  have hspeaks {c : Instr} {code : Nat} {ws : List Nat} {p : List Nat → Prop} (hc : Says c s tr code ws) (hp : p ws) :
      speaks c code p := by
    obtain ⟨t, hexec, hout, hfuse, htrust⟩ := hc
    exact ⟨t, ws, hexec, hout, hp, hfuse, htrust⟩
  refine ⟨fun hdown => spdm_silent hdown tr slot nonce i offered, fun h => ?_⟩
  exact ⟨hspeaks (getVersion_says h tr) rfl, hspeaks (getCapabilities_says h tr) rfl,
    hspeaks (negotiateAlgorithms_says h tr) trivial, hspeaks (negotiateAlgorithms_refused h tr) rfl,
    hspeaks (getDigests_says h tr) rfl, hspeaks (getCertificate_says h tr) ⟨_, rfl⟩,
    fun hslot => hspeaks (getCertificate_refused h tr hslot) rfl, hspeaks (challenge_says h tr nonce) rfl,
    fun hslot => hspeaks (challenge_refused h tr hslot nonce) rfl, hspeaks (getMeasurements_count_says h tr) rfl,
    fun hi hlast => hspeaks (getMeasurements_block_says h tr hi hlast) rfl⟩

/-! ### Secured sessions (R359) -/

/-- A session of the transport that waits for its FINISH. -/
theorem any_pending (s : State) (tr : Transport) (id : Nat) : (sessionsOn s tr).any (fun x => x.id == id && !x.established) =
    s.trust.sessions.any (fun x => (x.tr == tr && x.id == id) && !x.established) := by
  simp only [sessionsOn, List.any_filter, Bool.and_assoc]

/-- A command of the session protocol: its response, and the sessions that it leaves. -/
def Gives (c : Instr) (s : State) (tr : Transport) (code : Nat) (l : List Session) : Prop :=
  ∃ (t : State) (ws : List Nat), exec c s = .next t ∧ t.out = s.out ++ [.spdm tr code ws] ∧ t.trust.sessions = l ∧
    t.fuse = s.fuse ∧ t.trust.kT = s.trust.kT

/-- A response with the sessions as they were, or with others. -/
theorem gives_answer {c : Instr} {s u : State} {tr : Transport} {code : Nat} {ws : List Nat} {l : List Session}
    (h : exec c s = .next (answer u tr code ws)) (hup : spdmUp u = true) (hl : u.trust.sessions = l)
    (hout : u.out = s.out) (hfuse : u.fuse = s.fuse) (hk : u.trust.kT = s.trust.kT) : Gives c s tr code l :=
  ⟨_, ws, h.trans (congrArg _ (answer_up hup tr code ws)), by rw [emit_out, hout], hl, hfuse, hk⟩

theorem gives_error {c : Instr} {s : State} {tr : Transport} {code : Nat} (h : exec c s = .next (answerError s tr code))
    (hup : spdmUp s = true) : Gives c s tr 0x7F s.trust.sessions := gives_answer h hup rfl rfl rfl rfl

section
variable {s : State} (h : spdmUp s = true) (tr : Transport) (id : Nat)
include h

theorem keyExchange_gives (hfew : (sessionsOn s tr).length < 4) : Gives (.keyExchange tr) s tr 0x64
    (s.trust.sessions ++ [{ tr := tr, id := s.trust.nextSession, established := false, phase := 0 }]) :=
  gives_answer (congrArg Host.Outcome.next ((if_neg (by simp [h])).trans (if_neg (Nat.not_le.2 hfew)))) h rfl rfl rfl rfl

theorem keyExchange_refused (hmany : 4 ≤ (sessionsOn s tr).length) : Gives (.keyExchange tr) s tr 0x7F s.trust.sessions :=
  gives_error (congrArg Host.Outcome.next ((if_neg (by simp [h])).trans (if_pos hmany))) h

theorem finish_unknown (hnone : s.trust.sessions.any (fun x => (x.tr == tr && x.id == id) && !x.established) = false) (ok : Bool) :
    Gives (.finish tr id ok) s tr 0x7F s.trust.sessions := by
  refine gives_error (congrArg Host.Outcome.next ((if_neg (by simp [h])).trans (if_pos ?_))) h
  rw [any_pending, hnone]
  rfl

section
variable (hpending : s.trust.sessions.any (fun x => (x.tr == tr && x.id == id) && !x.established) = true)
include hpending

theorem finish_gives : Gives (.finish tr id true) s tr 0x65 (s.trust.sessions.map (fun x =>
    if (x.tr == tr && x.id == id) = true then { x with established := true } else x)) := by
  have hknown : ¬ (!(sessionsOn s tr).any (fun x => x.id == id && !x.established)) = true := by
    rw [any_pending, hpending]
    simp
  refine gives_answer (congrArg Host.Outcome.next ((if_neg (by simp [h])).trans ((if_neg hknown).trans (if_pos rfl)))) h ?_
    rfl rfl rfl
  simp only [Bool.and_eq_true, beq_iff_eq]

theorem finish_ends : Gives (.finish tr id false) s tr 0x7F (s.trust.sessions.filter (fun x => !(x.tr == tr && x.id == id))) := by
  have hknown : ¬ (!(sessionsOn s tr).any (fun x => x.id == id && !x.established)) = true := by
    rw [any_pending, hpending]
    simp
  exact gives_answer (congrArg Host.Outcome.next ((if_neg (by simp [h])).trans ((if_neg hknown).trans (if_neg (by simp))))) h rfl
    rfl rfl rfl

end

section
variable (hin : inSession s tr id = true)
include hin

theorem keyUpdate_gives : Gives (.keyUpdate tr id) s tr 0x69 (s.trust.sessions.map (fun x =>
    if (x.tr == tr && x.id == id) = true then { x with phase := x.phase + 1 } else x)) := by
  refine gives_answer (congrArg Host.Outcome.next (if_neg (by simp [hin]))) h ?_ rfl rfl rfl
  simp only [Bool.and_eq_true, beq_iff_eq]

theorem heartbeat_gives : Gives (.heartbeat tr id) s tr 0x68 s.trust.sessions :=
  gives_answer (congrArg Host.Outcome.next (if_pos hin)) h rfl rfl rfl rfl

theorem endSession_gives : Gives (.endSession tr id) s tr 0x6C
    (s.trust.sessions.filter (fun x => !(x.tr == tr && x.id == id))) :=
  gives_answer (congrArg Host.Outcome.next (if_neg (by simp [hin]))) h rfl rfl rfl rfl

end

section
variable (hout : inSession s tr id = false)
include hout

theorem keyUpdate_refused : Gives (.keyUpdate tr id) s tr 0x7F s.trust.sessions :=
  gives_error (congrArg Host.Outcome.next (if_pos (by simp [hout]))) h

theorem heartbeat_refused : Gives (.heartbeat tr id) s tr 0x7F s.trust.sessions :=
  gives_error (congrArg Host.Outcome.next (if_neg (by simp [hout]))) h

theorem endSession_refused : Gives (.endSession tr id) s tr 0x7F s.trust.sessions :=
  gives_error (congrArg Host.Outcome.next (if_pos (by simp [hout]))) h

end

end

/-- The claim on secured sessions. -/
theorem spdmSessions : Claims.SpdmSessions := fun _ tr id h =>
  ⟨keyExchange_gives h tr, keyExchange_refused h tr,
    fun hpending => ⟨finish_gives h tr id hpending, finish_ends h tr id hpending⟩,
    fun hnone => finish_unknown h tr id hnone true,
    fun hin => ⟨keyUpdate_gives h tr id hin, heartbeat_gives h tr id hin, endSession_gives h tr id hin⟩,
    fun hout => ⟨keyUpdate_refused h tr id hout, heartbeat_refused h tr id hout, endSession_refused h tr id hout⟩⟩

/-! ### Nonces and certificates (R357, R361, R377) -/

theorem exec_getNonce (tr : Transport) (id : Nat) (s : State) : exec (.getNonce tr id) s = execGetNonce tr id s := rfl
theorem exec_getTransportCert (tr : Transport) (id : Nat) (s : State) :
    exec (.getTransportCert tr id) s = execGetTransportCert tr id s := rfl

/-- The claim on nonces and certificates. -/
theorem noncesAndCertificates : Claims.NoncesAndCertificates := by
  intro s tr id hup hin hlc
  rw [exec_getNonce, exec_getTransportCert, execGetNonce, execGetTransportCert, vendorCmd_taken _ _ hup hin hlc,
    vendorCmd_taken _ _ hup hin hlc]
  refine ⟨⟨_, (takeFree s).1.toNat % 2 ^ 256, rfl, rfl, Nat.mod_lt _ (by norm_num), rfl, rfl⟩, fun k hk => ?_, fun hk => ?_⟩
  · refine ⟨vendor s tr 2 0 (s.fuse.serial :: k :: Config.answerWords 0x302 k), Config.answerWords 0x302 k, ?_, rfl, rfl⟩
    rw [hk]
  · rw [hk]
    rfl

/-- Settles O46: SPDM requests, secured sessions, nonces and certificates. -/
theorem trustMessages : Obligations.TrustMessages := ⟨spdmAnswers, spdmSessions, noncesAndCertificates⟩

/-! ### Images (R373) -/

/-- The claim on image checks: the ladder of R373 stops at the first check that fails. -/
theorem imageChecks : Claims.ImageChecks := by
  intro f flash i c1 c2 c3 c4 c5 c6 c7 c8 v
  have hv : v = if c1 then 1 else if c2 then 2 else if c3 then 3 else if c4 then 4 else if c5 then 5 else if c6 then 6
      else if c7 then 7 else if c8 then 8 else 0 := by
    simp only [v, verifyImage, c1, c2, c3, c4, c5, c6, c7, c8, List.contains_iff_mem]
  rw [hv]
  split_ifs <;> simp [*]

/-! ### Pushes (R375, R377) -/

/-- The claim on GO, with and without PERSIST. -/
theorem pushBegins : Claims.PushBegins := by
  intro s img ok
  have hgo : exec (.go img) s = .next (if secUp s then startPush s false img true else s) := rfl
  have hpersist : exec (.goPersist img ok) s = .next (if secUp s then startPush s true img ok else s) := rfl
  refine ⟨fun hdown => ?_, fun hup => ⟨fun hbusy => ?_, fun hidle hlen c hc => ?_, fun hidle hlen => ?_⟩⟩
  · simp [hgo, hpersist, hdown]
  · simp [hgo, hpersist, hup, startPush, hbusy]
  · simp only [List.mem_cons, List.not_mem_nil, or_false] at hc
    rcases hc with rfl | rfl
    · simp [hgo, hup, startPush, hidle, hlen]
    · simp [hpersist, hup, startPush, hidle, hlen]
  · simp [hgo, hpersist, hup, startPush, hidle, hlen]

/-- Settles O48: image checks, and pushes that begin. -/
theorem images : Obligations.Images := ⟨imageChecks, pushBegins⟩

end Sys2Proof.Machine

/-! PROOFS. The host link, JTAG and the settings records (O58); dumps and their arming (O53). -/

namespace Sys2Proof.Machine

/-! ### The host link and JTAG (R317, R354, R481, R482) -/

/-- The test access port after an instruction. -/
def jtagAfter (s : State) (ir : JtagIr) : Jtag :=
  let off := !jtagOpen s ir || (JtagIr.drives ir && s.pwr.perstN)
  { ir := ir, actsAs := if off then .bypass else ir, pinsDriven := JtagIr.drives ir && !off }

/-- A powered module takes every JTAG instruction. -/
theorem jtagInstruction_next {s : State} (hp : s.sup.phase ≠ .unpowered) (ir : JtagIr) :
    exec (.jtagInstruction ir) s =
      .next { s with jtag := jtagAfter s ir, out := s.out ++ if ir = .idcode then [.tdo idcodeWord] else [] } := by
  have hexec : exec (.jtagInstruction ir) s = .next (if ir = .idcode then
      emit { s with jtag := jtagAfter s ir } (.tdo idcodeWord) else { s with jtag := jtagAfter s ir }) :=
    congrArg Host.Outcome.next (if_neg hp)
  rw [hexec]
  split
  · rfl
  · rw [List.append_nil]

/-- The claim on the host link, the endpoint ID and JTAG. -/
theorem linksAndJtag : Claims.LinksAndJtag := by
  intro s w r e flit ir hready
  refine ⟨congrArg _ (if_pos (.inl hready)), congrArg _ (if_pos hready),
    ⟨_, jtagInstruction_next (by simp [hready]) ir, rfl, rfl, fun hoff => ?_, fun hopen hlow => ?_, fun hid => ?_, fun hid => ?_⟩,
    fun x hopen => ?_⟩
  · rcases hoff with hclosed | ⟨hdrives, hhigh⟩
    · simp [jtagAfter, hclosed]
    · simp [jtagAfter, hdrives, hhigh]
  · rcases hlow with hdrives | hperst
    · simp [jtagAfter, hopen, hdrives]
    · simp [jtagAfter, hopen, hperst]
  · simp [hid]
  · simp [hid]
  · simp only [jtagOpen, Bool.or_eq_true, Bool.and_eq_true, beq_iff_eq] at hopen
    exact hopen.imp_right And.right

/-! ### Settings records (R471, R473, R476) -/

section
variable {s : State} (hready : s.sup.phase = .ready) (magic version count : Nat) (es : List (Nat × Nat))
include hready

/-- A write is refused with the status of the first check that it fails. -/
theorem settingsWrite_refused {st : Nat} (h : settingsStatus s magic version count es = st) (hst : st ≠ 0) :
    exec (.settingsWrite magic version count es) s = .next (emit s (.mctp 2 st [])) := by
  subst h
  exact congrArg Host.Outcome.next ((if_neg (by simp [hready])).trans (if_pos hst))

/-- The record of an accepted write. -/
def settingsRec (s : State) (es : List (Nat × Nat)) : SRec :=
  { seq := (((settingsCopy s.flash).map (·.seq)).getD 0 + 1) % 2 ^ 32,
    entries := es.map (fun e => (e.1 % 65536, e.2 % 2 ^ 64)) }

theorem settingsWrite_taken (h : settingsStatus s magic version count es = 0) :
    exec (.settingsWrite magic version count es) s = .next (emit { s with
      flash := { s.flash with settingsA := some (settingsRec s es), settingsB := some (settingsRec s es) },
      mgmt := { s.mgmt with lastWrite := some s.sup.ticks, writes := s.mgmt.writes + 1 } } (.mctp 2 0 [])) :=
  congrArg Host.Outcome.next ((if_neg (by simp [hready])).trans (if_neg (by simp [h])))

end

/-- Entries within their fields are kept as they are. -/
theorem settingsRec_entries (s : State) {es : List (Nat × Nat)} (h : ∀ e ∈ es, e.1 < 65536 ∧ e.2 < 2 ^ 64) :
    (settingsRec s es).entries = es := by
  refine (List.map_congr_left fun e he => ?_).trans (List.map_id es)
  obtain ⟨h1, h2⟩ := h e he
  rw [Nat.mod_eq_of_lt h1, Nat.mod_eq_of_lt h2]
  rfl

/-- The SEQ of an accepted write lies above those of both copies. -/
theorem settingsRec_seq {s : State} {a b : SRec} (ha : s.flash.settingsA = some a) (hb : s.flash.settingsB = some b)
    (hmax : max a.seq b.seq < 2 ^ 32 - 1) (es : List (Nat × Nat)) : (settingsRec s es).seq = max a.seq b.seq + 1 := by
  have hcopy : ((settingsCopy s.flash).map (·.seq)).getD 0 = max a.seq b.seq := by
    rw [settingsCopy, ha, hb]
    dsimp only
    split <;> simp <;> omega
  rw [settingsRec, hcopy]
  exact Nat.mod_eq_of_lt (by omega)

/-- The claim on settings records. -/
theorem settingsRecords : Claims.SettingsRecords := by
  intro s magic version count es hready w good busy fast
  have hgood : (magic ≠ 0x5445534E ∨ version ≠ 1 ∨ 64 < count ∨ count ≠ es.length) ↔ ¬ good := by
    simp only [good, ne_eq, not_and_or, not_le]
  have hfast : (64 ≤ s.mgmt.writes ∨ s.mgmt.lastWrite.any (fun t => decide (s.sup.ticks - t < 250000000)) = true) ↔ fast := by
    simp only [fast, Option.any_eq_true, decide_eq_true_eq]
  have hstatus : settingsStatus s magic version count es = if ¬ good then 1 else if lcState s.fuse = 4 then 4
      else if busy then 3 else if fast then 2 else 0 := by
    simp only [settingsStatus, hgood, hfast, busy]
  refine ⟨congrArg _ (if_pos hready), fun hbad => ?_, fun hok hlc => ?_, fun hok hlc hbusy => ?_, fun hok hlc hidle hf => ?_,
    fun hok hlc hidle hslow hes => ?_⟩
  · exact settingsWrite_refused hready _ _ _ _ (by rw [hstatus, if_pos hbad]) (by decide)
  · exact settingsWrite_refused hready _ _ _ _ (by rw [hstatus, if_neg (not_not.2 hok), if_pos hlc]) (by decide)
  · exact settingsWrite_refused hready _ _ _ _
      (by rw [hstatus, if_neg (not_not.2 hok), if_neg hlc, if_pos hbusy]) (by decide)
  · exact settingsWrite_refused hready _ _ _ _
      (by rw [hstatus, if_neg (not_not.2 hok), if_neg hlc, if_neg hidle, if_pos hf]) (by decide)
  · have htaken : settingsStatus s magic version count es = 0 := by
      rw [hstatus, if_neg (not_not.2 hok), if_neg hlc, if_neg hidle, if_neg hslow]
    exact ⟨_, settingsRec s es, settingsWrite_taken hready _ _ _ _ htaken, rfl, settingsRec_entries s hes,
      fun a b ha hb hmax => settingsRec_seq ha hb hmax es, rfl, rfl, rfl, rfl, rfl, rfl, rfl, rfl, rfl⟩

/-- Settles O58: the host link, the endpoint ID and JTAG, and the settings records. -/
theorem linksAndSettings : Obligations.LinksAndSettings := ⟨linksAndJtag, settingsRecords⟩

/-! ### Records of a dump (R426, R427, R429, R433) -/

theorem exec_dumpRecordDeliver (n : Nat) (s : State) : exec (.dumpRecordDeliver n) s = execDumpRecordDeliver n s := rfl
theorem exec_debugDump (n : Nat) (a : DumpAuth) (s : State) : exec (.debugDump n a) s = execDebugDump n a s := rfl
theorem exec_armLapse (b : Nat) (s : State) : exec (.armLapse b) s = execArmLapse b s := rfl

section
variable {s : State} {d : Dump}

/-- A dump whose staging is there and holds records: its SUMMARY first. -/
theorem nextDumpRec_summary {h k : Nat} {b : List Byte} {rest : List (Nat × List Byte)} (hhome : d.home = some h)
    (hthere : (hbmAt s h).withdrawn = false) (hrecs : d.records = (k, b) :: rest) (hfirst : d.index = 0) :
    nextDumpRec s d = (dumpRec d 0 d.summary false false, some { d with index := 1 }) := by
  simp [nextDumpRec, hhome, hthere, hrecs, hfirst]

/-- Then its records in order, the last with LAST. -/
theorem nextDumpRec_record {h k : Nat} {b : List Byte} {rest : List (Nat × List Byte)} (hhome : d.home = some h)
    (hthere : (hbmAt s h).withdrawn = false) (hrecs : d.records = (k, b) :: rest) (hlater : d.index ≠ 0) :
    nextDumpRec s d = (dumpRec d k b rest.isEmpty false,
      if rest.isEmpty then none else some { d with index := d.index + 1, records := rest }) := by
  simp [nextDumpRec, hhome, hthere, hrecs, hlater]

/-- Without staging the SUMMARY is the whole dump. -/
theorem nextDumpRec_unstaged (hhome : d.home = none) : nextDumpRec s d = (dumpRec d 0 d.summary true true, none) := by
  simp [nextDumpRec, hhome]

end

/-- The state once the next record of dump `d` has left its staging. -/
def dumpTaken (s : State) (d : Dump) : State :=
  { s with rst := { s.rst with dumps := s.rst.dumps.flatMap (fun e => if e = d then (nextDumpRec s d).2.toList else [e]) } }

section
variable {s : State} {n : Nat} (hn : n < 16)
include hn

theorem dumpRecordDeliver_none (h : nextDump s n = none) : exec (.dumpRecordDeliver n) s = .next s := by
  rw [exec_dumpRecordDeliver, execDumpRecordDeliver, runUnit_next _ _ hn, h]

section
variable {d : Dump} (h : nextDump s n = some d)
include h

theorem dumpRecordDeliver_full (hfull : ¬ storeUnits (ctxAt s n).store + (nextDumpRec s d).1.units ≤ 8192) :
    exec (.dumpRecordDeliver n) s = .next s := by
  rw [exec_dumpRecordDeliver, execDumpRecordDeliver, runUnit_next _ _ hn, h]
  exact congrArg _ (if_pos (Nat.lt_of_not_le hfull))

theorem dumpRecordDeliver_next (hfits : storeUnits (ctxAt s n).store + (nextDumpRec s d).1.units ≤ 8192) :
    exec (.dumpRecordDeliver n) s = .next (postMsg (dumpTaken s d) n (nextDumpRec s d).1) := by
  rw [exec_dumpRecordDeliver, execDumpRecordDeliver, runUnit_next _ _ hn, h]
  exact congrArg _ (if_neg (Nat.not_lt.2 hfits))

end

end

/-! ### Arming (R361, R362, R370, R430) -/

/-- A basin armed now. -/
def basinArmed (s : State) (b : Nat) : State := putBasin s b { basinAt s b with armed := some s.sup.ticks }

theorem armed_basins {l : List Nat} (s : State) : ∀ b ∈ l, (basinAt (forEach l basinArmed s) b).armed = some s.sup.ticks := by
  have hticks (t : State) (a : Nat) : (basinArmed t a).sup = t.sup := rfl
  intro b hb
  have hall := forEach_all (l := l) (f := basinArmed) (Q := fun b t => (basinAt t b).armed = some t.sup.ticks)
    (fun t a _ => by rw [hticks, basinArmed, basinAt_putBasin]) (fun t a c _ ha => by
      rw [hticks]
      by_cases hac : a = c
      · rw [hac, basinArmed, basinAt_putBasin]
      · rw [basinArmed, basinAt_putBasin_ne _ _ hac, ha]) s b hb
  rw [hall, forEach_keeps State.sup (fun t a _ => hticks t a) s]

theorem unarmed_basins {l : List Nat} (s : State) {b : Nat} (hb : b ∉ l) : basinAt (forEach l basinArmed s) b = basinAt s b :=
  forEach_keeps (fun t => basinAt t b) (fun t _ ha => basinAt_putBasin_ne t _ (ne_of_mem_of_not_mem ha hb).symm) s

/-- A token that passes names the nonce in force, which it consumes. -/
theorem useNonce_passed {s : State} {t : Token} {op : Nat} {a b : Bool} (h : tokenStatus s t op a b = 0) :
    (useNonce s t).trust.nonce = none := by
  have hnonce : s.trust.nonce = some t.nonce := by
    by_contra hne
    rw [tokenStatus, if_pos hne] at h
    split at h
    · cases h
    · split at h <;> cases h
  rw [useNonce, if_pos hnonce]

theorem useNonce_frame (s : State) (t : Token) : useNonce s t = { s with trust := (useNonce s t).trust } := by
  unfold useNonce
  split <;> rfl

/-- The basins that a DEBUG_DUMP arms. -/
def armedBy (h : HCmd) (a : DumpAuth) : List Nat :=
  if cmdField h 20 2 = 0 then bitList 16 (a.mask % 65536) else bitList 16 (cmdField h 20 2)

/-- What DEBUG_DUMP asks of its token, its mask and its descriptor. -/
def dumpAllowed (s : State) (n : Nat) (h : HCmd) (a : DumpAuth) : Bool :=
  cmdField h 16 4 != 0 && tokenStatus s a.tok 0x20 (lcState s.fuse == 2) (byOwner s a.tok) == 0 && a.ctx == n && a.byte3 == 0 &&
    (bitList 16 (a.mask % 65536)).all (fun b => (basinAt s b).ctx == some n) &&
    (bitList 16 (cmdField h 20 2)).all (fun b => bitAt (a.mask % 65536) b)

theorem debugDump_next {s : State} {n : Nat} {h : HCmd} (ht : TakesCmd s n 0xE h) (a : DumpAuth) :
    exec (.debugDump n a) s = .next (if dumpAllowed s n h a = true then
      endCmd (forEach (armedBy h a) basinArmed (useNonce s a.tok)) n h 0 0 0 else failCmd (useNonce s a.tok) n h 0x14) := by
  rw [exec_debugDump, execDebugDump, hostCmd_next ht]
  rfl

theorem endCmd_basins (s : State) (n : Nat) (h : HCmd) (status r0 r1 : Nat) : (endCmd s n h status r0 r1).basins = s.basins := rfl
theorem endCmd_trust (s : State) (n : Nat) (h : HCmd) (status r0 r1 : Nat) : (endCmd s n h status r0 r1).trust = s.trust := rfl
theorem failCmd_basins (s : State) (n : Nat) (h : HCmd) (status : Nat) : (failCmd s n h status).basins = s.basins := rfl

theorem useNonce_ctxs (s : State) (t : Token) : (useNonce s t).ctxs = s.ctxs := by rw [useNonce_frame]
theorem useNonce_basins (s : State) (t : Token) : (useNonce s t).basins = s.basins := by rw [useNonce_frame]
theorem useNonce_sup (s : State) (t : Token) : (useNonce s t).sup = s.sup := by rw [useNonce_frame]

section
variable {s : State} {n : Nat} {h : HCmd} (ht : TakesCmd s n 0xE h) (a : DumpAuth)
include ht

/-- An accepted token arms the named basins and no other. -/
theorem debugDump_arms (hok : dumpAllowed s n h a = true)
    (htok : tokenStatus s a.tok 0x20 (lcState s.fuse == 2) (byOwner s a.tok) = 0) :
    ∃ t : State, exec (.debugDump n a) s = .next t ∧ Answered s t n h 0 0 0 ∧ t.trust.nonce = none ∧
      (∀ b ∈ armedBy h a, (basinAt t b).armed = some s.sup.ticks) ∧ (∀ b, b ∉ armedBy h a → basinAt t b = basinAt s b) := by
  have hexec := (debugDump_next ht a).trans (congrArg _ (if_pos hok))
  obtain ⟨-, hst, -⟩ := ht
  have hctxs : (forEach (armedBy h a) basinArmed (useNonce s a.tok)).ctxs = s.ctxs :=
    (forEach_keeps (f := basinArmed) State.ctxs (fun _ _ _ => rfl) _).trans (useNonce_ctxs s a.tok)
  have htrust : (forEach (armedBy h a) basinArmed (useNonce s a.tok)).trust = (useNonce s a.tok).trust :=
    forEach_keeps (f := basinArmed) State.trust (fun _ _ _ => rfl) _
  have harmed := armed_basins (l := armedBy h a) (useNonce s a.tok)
  have hothers (b : Nat) := unarmed_basins (l := armedBy h a) (useNonce s a.tok) (b := b)
  rw [useNonce_sup] at harmed
  refine ⟨_, hexec, ?_, ?_, fun b hb => ?_, fun b hb => ?_⟩
  · have hctx : ctxAt (forEach (armedBy h a) basinArmed (useNonce s a.tok)) n = ctxAt s n := by rw [ctxAt, hctxs, ctxAt]
    have hanswered := endCmd_answered (s := forEach (armedBy h a) basinArmed (useNonce s a.tok)) (n := n) h
      (by rw [hctx, hst]) 0 0 0
    rwa [Answered, hctx] at hanswered
  · rw [endCmd_trust, htrust, useNonce_passed htok]
  · rw [basinAt, endCmd_basins]
    exact harmed b hb
  · rw [basinAt, endCmd_basins]
    exact (hothers b hb).trans (by rw [basinAt, useNonce_basins, basinAt])

theorem debugDump_refused (htok : tokenStatus s a.tok 0x20 (lcState s.fuse == 2) (byOwner s a.tok) ≠ 0) :
    ∃ t : State, exec (.debugDump n a) s = .next t ∧ Ended s t n h 0x14 ∧ t.basins = s.basins := by
  have hno : ¬ dumpAllowed s n h a = true := by simp [dumpAllowed, htok]
  have hexec := (debugDump_next ht a).trans (congrArg _ (if_neg hno))
  obtain ⟨-, hst, -⟩ := ht
  have hctx : ctxAt (useNonce s a.tok) n = ctxAt s n := by rw [ctxAt, useNonce_ctxs, ctxAt]
  refine ⟨_, hexec, ?_, ?_⟩
  · have hended := (failCmd_ended (s := useNonce s a.tok) (n := n) h (by rw [hctx, hst]) 0x14).1
    rwa [Ended, hctx] at hended
  · rw [failCmd_basins, useNonce_basins]

end

section
variable {s : State} {b since : Nat} (hb : b < 16) (harmed : (basinAt s b).armed = some since)
include hb harmed

theorem armLapse_lapses (h : 15000000000 ≤ s.sup.ticks - since) :
    exec (.armLapse b) s = .next (putBasin s b { basinAt s b with armed := none }) := by
  rw [exec_armLapse, execArmLapse, runUnit_next _ _ hb]
  exact congrArg _ (if_pos (by simp [isArmed, harmed, h]))

theorem armLapse_stays (h : s.sup.ticks - since < 15000000000) : exec (.armLapse b) s = .next s := by
  rw [exec_armLapse, execArmLapse, runUnit_next _ _ hb]
  exact congrArg _ (if_neg (by simp [isArmed, harmed, h]))

end

/-- Settles O53: records delivered, arming, and its lapse. -/
theorem dumpsDelivered : Obligations.DumpsDelivered := by
  intro s n hn
  refine ⟨dumpRecordDeliver_none hn, fun d hd => ⟨dumpRecordDeliver_full hn hd, fun hfits hst => ?_,
    fun h k b rest hhome hthere hrecs => ⟨nextDumpRec_summary hhome hthere hrecs, nextDumpRec_record hhome hthere hrecs⟩,
    nextDumpRec_unstaged⟩, fun h a ht => ⟨fun hfield htok hctx hbyte hown hpart => ?_, debugDump_refused ht a⟩,
    fun since hsince => ⟨armLapse_lapses hn hsince, armLapse_stays hn hsince⟩⟩
  · refine ⟨_, dumpRecordDeliver_next hn hd hfits, ?_, rfl⟩
    rw [postMsg, ctxAt_putCtx]
    have hopen : (ctxAt (dumpTaken s d) n).st.closing = false := (congrArg CtxSt.closing hst).trans rfl
    exact postRec_stored hopen hfits
  · refine debugDump_arms ht a ?_ htok
    simp only [dumpAllowed, Bool.and_eq_true, bne_iff_ne, beq_iff_eq, List.all_eq_true]
    exact ⟨⟨⟨⟨⟨hfield, htok⟩, hctx⟩, hbyte⟩, hown⟩, hpart⟩

end Sys2Proof.Machine

/-! PROOFS. The alert registers, the congestion thresholds and the watchdog intervals, and the snaps of the counters (O55). -/

namespace Sys2Proof.Machine

/-! ### Registers whose writes have an effect of their own (R181, R437, R443, R447) -/

/-- A bit of a W1C field stays where it was set and no 1 is written to it. -/
theorem bitAt_w1c (old v : Nat) {w i : Nat} (hi : i < w) : bitAt (w1c old v w) i = (bitAt old i && !bitAt v i) := by
  have hbit (n : Nat) : bitAt n i = n.testBit i := by
    rw [bitAt, Nat.testBit_eq_decide_div_mod_eq]
    rfl
  have hget : (w1c old v w).testBit i = (BitVec.ofNat w old &&& ~~~BitVec.ofNat w v).getLsbD i := rfl
  rw [hbit, hbit, hbit, hget]
  rw [BitVec.getLsbD_and, BitVec.getLsbD_not, BitVec.getLsbD_ofNat, BitVec.getLsbD_ofNat]
  simp only [hi, decide_true, Bool.true_and]

section
variable {s : State} (hready : s.sup.phase = .ready)
include hready

theorem exec_glbAlertWrite_enable (v : W64) :
    exec (.glbAlertWrite true v) s = .next { s with glb := { s.glb with alertEn := v.toNat % 32 } } := by
  rw [show exec (.glbAlertWrite true v) s = execGlbAlertWrite true v s from rfl, execGlbAlertWrite,
    if_pos (regsUp_of_ready hready 0)]
  rfl

theorem exec_glbAlertWrite_clear (v : W64) :
    exec (.glbAlertWrite false v) s = .next { s with glb := { s.glb with alert := w1c s.glb.alert v.toNat 5 } } := by
  rw [show exec (.glbAlertWrite false v) s = execGlbAlertWrite false v s from rfl, execGlbAlertWrite,
    if_pos (regsUp_of_ready hready 0)]
  rfl

theorem exec_meshApply_undisturbed (hvote : s.glb.disturbed = []) :
    exec .meshApply s = .next { s with mesh :=
      (if 1 ≤ bits s.mesh.thrStaged 6 0 ∧ bits s.mesh.thrStaged 6 0 ≤ bits s.mesh.thrStaged 14 8 ∧
          bits s.mesh.thrStaged 14 8 ≤ bits s.mesh.thrStaged 22 16 ∧ bits s.mesh.thrStaged 22 16 ≤ 100
        then { s.mesh with thr := s.mesh.thrStaged } else { s.mesh with applyErr := true }) } := by
  rw [show exec .meshApply s = execMeshApply s from rfl, execMeshApply, if_pos (regsUp_of_ready hready _), applyMesh,
    voteReg_of_undisturbed hvote]
  simp only [← Bool.decide_and, decide_eq_true_eq, and_assoc]

theorem exec_chanWdogWrite_ready {b : Nat} (v : W64) (hb : b < 16) :
    exec (.chanWdogWrite b v) s = .next (putBasin s b { basinAt s b with wdog := v.toNat % 2 ^ 32, wdogFrom := s.sup.ticks }) := by
  rw [show exec (.chanWdogWrite b v) s = execChanWdogWrite b v s from rfl, execChanWdogWrite, runUnit_next _ _ hb,
    if_pos (regsUp_of_ready hready _), writeWdog]

end

theorem alertsAndThresholds : Claims.AlertsAndThresholds := by
  intro s b v hready hb
  refine ⟨exec_glbAlertWrite_enable hready v, ⟨_, exec_glbAlertWrite_clear hready v, rfl, fun i hi => bitAt_w1c _ _ hi⟩,
    fun hvote => ⟨fun hok => ?_, fun hbad => ?_⟩, exec_chanWdogWrite_ready hready v hb⟩
  · rw [exec_meshApply_undisturbed hready hvote, if_pos hok]
  · rw [exec_meshApply_undisturbed hready hvote, if_neg hbad]

/-! ### Snaps (R70, R125, R159, R184, R252, R274, R303, R413, R444, R445) -/

/-- The entries of a table that a test of their numbers keeps. -/
theorem tabGet_filter {α : Type} (t : Tab α) (p : Nat → Bool) (i : Nat) (d : α) :
    tabGet (t.filter (fun e => p e.1)) i d = if p i then tabGet t i d else d := by
  induction t with
  | nil => simp [tabGet]
  | cons e t ih =>
    obtain ⟨j, v⟩ := e
    by_cases hj : j = i
    · subst hj
      cases hp : p j <;> simp [hp, tabGet, ih]
    · cases hp : p j <;> simp [hp, tabGet, ih, hj]

/-- A snap takes the entries of its range from the counters and leaves the others of the shadow. -/
theorem tabGet_snapRange (ctr shadow : Tab Nat) {lo hi : Nat} (hle : lo ≤ hi) (i : Nat) :
    tabGet (snapRange ctr shadow lo hi) i 0 = if lo ≤ i ∧ i < hi then tabGet ctr i 0 else tabGet shadow i 0 := by
  have outside {t : Tab Nat} {p : Nat → Bool} (hp : p i = false) : ∀ e ∈ t.filter (fun e => p e.1), e.1 ≠ i := by
    rintro e he rfl
    exact absurd (List.mem_filter.1 he).2 (by simp [hp])
  have below := outside (t := shadow) (p := fun j => decide (j < lo))
  have within := outside (t := ctr) (p := fun j => decide (lo ≤ j) && decide (j < hi))
  have above := outside (t := shadow) (p := fun j => decide (hi ≤ j))
  rw [snapRange]
  rcases Nat.lt_or_ge i lo with hlo | hlo
  · rw [tabGet_append_of_not_right _ (above (decide_eq_false (by omega))),
      tabGet_append_of_not_right _ (within (by simp [hlo])), tabGet_filter shadow (fun j => decide (j < lo))]
    simp [hlo, Nat.not_le.mpr hlo]
  · rw [List.append_assoc, tabGet_append_of_not_left _ (below (decide_eq_false (by omega)))]
    rcases Nat.lt_or_ge i hi with hhi | hhi
    · rw [tabGet_append_of_not_right _ (above (decide_eq_false (by omega))),
        tabGet_filter ctr (fun j => decide (lo ≤ j) && decide (j < hi))]
      simp [hlo, hhi]
    · rw [tabGet_append_of_not_left _ (within (by simp [hhi])), tabGet_filter shadow (fun j => decide (hi ≤ j))]
      simp [hhi, Nat.not_lt.mpr hhi]

section
variable {s : State} {k : Nat} (hcore : (coreAt s k).st ≠ .shipDefect) (hgap : isGap s (dieOf k) = false)
include hcore hgap

theorem siteSnap_present (lo hi : Nat) :
    siteSnap s k lo hi = putCore s k { coreAt s k with shadowCtr := snapRange (coreAt s k).ctr (coreAt s k).shadowCtr lo hi } := by
  simp [siteSnap, hcore, hgap]

theorem siteSnapChannels_present :
    siteSnapChannels s k = putCore s k { coreAt s k with
      shadowCtr := snapRange (coreAt s k).ctr (coreAt s k).shadowCtr 75 77, chShadow := (coreAt s k).chCtr } := by
  simp [siteSnapChannels, hcore, hgap]

end

/-- The ports are the fabric's only state that a snap touches. -/
theorem snapPorts_frame {s : State} : snapPorts s = { s with fab := { s.fab with ports := (snapPorts s).fab.ports } } := by
  rw [snapPorts]
  split
  · exact forEach_holds (P := fun t => t = { s with fab := { s.fab with ports := t.fab.ports } })
      (fun t p _ ht => by rw [ht]; rfl) rfl
  · rfl

theorem snapPorts_fab {s : State} : snapPorts s = { s with fab := (snapPorts s).fab } := by
  have hframe := snapPorts_frame (s := s)
  generalize snapPorts s = t at hframe
  rw [hframe]

/-- Every port's shadow becomes its counters, and the rest of the port stays. -/
theorem portAt_snapPorts {s : State} (hready : s.sup.phase = .ready) {p : Nat} (hp : p < 24) :
    portAt (snapPorts s) p = { portAt s p with shadow := (portAt s p).ctr } := by
  rw [snapPorts, if_pos (regsUp_of_ready hready _)]
  generalize hf : (fun (s : State) (p : Nat) => putPort s p { portAt s p with shadow := (portAt s p).ctr }) = f
  have hrest : { portAt (forEach (List.range 24) f s) p with shadow := [] } = { portAt s p with shadow := [] } := by
    refine forEach_keeps (fun t => { portAt t p with shadow := [] }) (fun t q _ => ?_) s
    subst hf
    by_cases hq : p = q
    · subst hq
      simp
    · simp [portAt_putPort_ne _ _ hq]
  have hshadow := forEach_all (Q := fun q t => (portAt t q).shadow = (portAt t q).ctr) (l := List.range 24) (f := f)
    (fun t q _ => by subst hf; simp)
    (fun t q r _ hq => by
      subst hf
      by_cases hr : q = r
      · subst hr
        simp
      · simpa [portAt_putPort_ne _ _ hr] using hq) s p (List.mem_range.2 hp)
  have hctr : (portAt (forEach (List.range 24) f s) p).ctr = (portAt s p).ctr := by
    simpa using congrArg (fun x : Port => x.ctr) hrest
  calc portAt (forEach (List.range 24) f s) p
      = { ({ portAt (forEach (List.range 24) f s) p with shadow := [] } : Port) with shadow := (portAt s p).ctr } := by
        rw [← hctr, ← hshadow]
    _ = _ := by rw [hrest]

theorem countersSnapped : Claims.CountersSnapped := by
  intro s b hready hb k snapped
  have inRange (hk : k < nCores) (f : Nat → State) : withSite s f = f k := withSite_inRange hready hk f
  have taken (lo hi : Nat) (sh : Tab Nat) (hle : lo ≤ hi) : snapped lo hi (putCore s k { coreAt s k with
      shadowCtr := snapRange (coreAt s k).ctr (coreAt s k).shadowCtr lo hi, chShadow := sh }) := by
    refine ⟨congrArg _ (coreAt_putCore ..).symm, ?_, fun i => ?_⟩
    · rw [coreAt_putCore]
    · rw [coreAt_putCore]
      exact tabGet_snapRange _ _ hle i
  have reg (lo hi : Nat) (hle : lo ≤ hi) (hk : k < nCores) (hcore : (coreAt s k).st ≠ .shipDefect)
      (hgap : isGap s (dieOf k) = false) :
      snapped lo hi (snapCore s lo hi) ∧ (coreAt (snapCore s lo hi) k).chShadow = (coreAt s k).chShadow := by
    rw [snapCore, inRange hk, siteSnap_present hcore hgap]
    exact ⟨taken lo hi _ hle, by rw [coreAt_putCore]⟩
  refine ⟨fun hk hcore hgap => ⟨⟨_, rfl, reg 0 15 (by decide) hk hcore hgap⟩, ⟨_, rfl, reg 15 31 (by decide) hk hcore hgap⟩,
    ⟨_, rfl, reg 31 75 (by decide) hk hcore hgap⟩, ⟨_, rfl, ?_⟩⟩, fun hk hgap => ?_, fun hout c hc => ?_, ?_,
    ⟨_, rfl, snapPorts_fab, congrArg (fun t : State => t.fab) snapPorts_frame,
      fun p hp => portAt_snapPorts hready hp⟩, ?_⟩
  · rw [snapChannels, inRange hk, siteSnapChannels_present hcore hgap]
    exact ⟨taken 75 77 _ (by decide), by rw [coreAt_putCore]⟩
  · rw [show exec .meshSnap s = .next (snapRouter s) from rfl, snapRouter, inRange hk, siteSnapRouter, if_neg (by simp [hgap])]
  · fin_cases hc <;> exact congrArg _ (withSite_outOfRange hready hout _)
  · rw [show exec (.hbmSnap b) s = runUnit b 16 (fun s => snapHbm s b) s from rfl, runUnit_next _ _ hb, snapHbm,
      if_pos (regsUp_of_ready hready _)]
  · rw [show exec .tstSnap s = .next (snapTst s) from rfl, snapTst, if_pos (regsUp_of_ready hready _)]

/-- Settles O55: the alert registers, the thresholds and the watchdog, and the snaps of the counters. -/
theorem alertsAndCounters : Obligations.AlertsAndCounters := ⟨alertsAndThresholds, countersSnapped⟩

end Sys2Proof.Machine

/-! PROOFS. Power entry and shutdowns, rails of die stacks, throttling, the reference clock, and clocks on demand (O56). -/

namespace Sys2Proof.Machine

/-! ### A module that stops (R440, R456, R457) -/

/-- Nothing but flash and fuses outlives a shutdown. -/
structure Cold (s t : State) : Prop where
  cleared : t.ctxs = [] ∧ t.trust = {} ∧ t.glb = {} ∧ t.mesh = {} ∧ t.fab = {} ∧ t.heal = {} ∧ t.rst = {} ∧ t.telem = {}
  fuse : t.fuse = s.fuse
  pending : t.pending = s.pending
  flash : s.trust.push = none → t.flash = s.flash
  cores : t.cores = []
  mem : ∀ b a, memGet (hbmAt t b).mem a = 0

/-- A stack as a shutdown that loses its contents leaves it. -/
def lostHbm (h : Hbm) : Hbm := { ({} : Hbm) with temp := h.temp, halfRate := h.halfRate, usedSpares := h.usedSpares }

theorem haltModule_cold (s : State) (p : Phase) : Cold s (haltModule s p false) where
  cleared := ⟨rfl, rfl, rfl, rfl, rfl, rfl, rfl, rfl⟩
  fuse := (congrArg State.fuse (stopPush_unpushed s) :)
  pending := (congrArg State.pending (stopPush_unpushed s) :)
  flash := haltModule_flash p false
  cores := rfl
  mem b a := by
    have hlost : hbmAt (haltModule s p false) b = lostHbm (hbmAt (stopPush s) b) :=
      tabGet_map (fun e => lostHbm e.2) (stopPush s).hbms b {}
    rw [hlost]
    rfl

theorem haltModule_aonRail (s : State) (p : Phase) (keep : Bool) : (haltModule s p keep).pwr.aonRail = s.pwr.aonRail :=
  (congrArg (fun t : State => t.pwr.aonRail) (stopPush_unpushed s) :)

/-- The state that a power-fail shutdown leaves. -/
def powerFailed (s : State) : State :=
  { haltModule s .unpowered false with
    pwr := { perstN := s.pwr.perstN, inRange := false, aonRail := false, mainRails := false }, jtag := {} }

/-- The state that a fault shutdown leaves. -/
def faultShut (s : State) : State :=
  { haltModule s .fault false with
    pwr := { (haltModule s .fault false).pwr with mainRails := false, faultLatched := true } }

theorem powerFailed_cold (s : State) : Cold s (powerFailed s) :=
  let h := haltModule_cold s .unpowered
  ⟨h.cleared, h.fuse, h.pending, h.flash, h.cores, h.mem⟩

theorem faultShut_cold (s : State) : Cold s (faultShut s) :=
  let h := haltModule_cold s .fault
  ⟨h.cleared, h.fuse, h.pending, h.flash, h.cores, h.mem⟩

theorem exec_powerFailShutdown_up {s : State} (h : s.sup.phase = .ready ∨ s.sup.phase = .held ∨ s.sup.phase = .recovery) :
    exec .powerFailShutdown s = .next (powerFailed s) := by
  rw [show exec .powerFailShutdown s = execPowerFailShutdown s from rfl, execPowerFailShutdown]
  obtain h | h | h := h <;> rw [h] <;> rfl

theorem exec_faultShutdown_up {s : State} (h : s.sup.phase = .ready ∨ s.sup.phase = .held ∨ s.sup.phase = .recovery)
    (c : ShutCause) : exec (.faultShutdown c) s = .next (faultShut s) := by
  rw [show exec (.faultShutdown c) s = execFaultShutdown c s from rfl]
  unfold execFaultShutdown
  obtain h | h | h := h <;> rw [h] <;> cases c <;> rfl

theorem exec_shutdown_down {s : State} (h : s.sup.phase = .unpowered ∨ s.sup.phase = .fault) :
    exec .powerFailShutdown s = .next s ∧ ∀ c, exec (.faultShutdown c) s = .next s := by
  refine ⟨?_, fun c => ?_⟩
  · rw [show exec .powerFailShutdown s = execPowerFailShutdown s from rfl, execPowerFailShutdown]
    obtain h | h := h <;> rw [h]
  · rw [show exec (.faultShutdown c) s = execFaultShutdown c s from rfl]
    unfold execFaultShutdown
    obtain h | h := h <;> rw [h]

/-! ### The input (R454, R456, R457, R475) -/

/-- A state after a reading of the input. -/
def inputRead (s : State) (v : Nat) : State :=
  { s with pwr := { s.pwr with mv10 := v % 65536, inRange := inputInRange v,
                               lostInInterval := s.pwr.lostInInterval || !inputInRange v } }

theorem exec_inputRange_ready {s : State} (h : s.sup.phase = .ready) (v : Nat) :
    exec (.inputRange v) s = .next (if inputInRange v = s.pwr.inRange then inputRead s v
      else ctxEvent (inputRead s v) 0 evInputRange 0 (b2n (!inputInRange v)) v 0) := by
  rw [show exec (.inputRange v) s = execInputRange v s from rfl, execInputRange, h]
  rfl

theorem exec_inputRange_removed {s : State} (h : s.sup.phase = .fault) : ∃ t : State,
    exec (.inputRange 0) s = .next t ∧ t.sup.phase = .unpowered ∧ t.pwr.faultLatched = false := by
  rw [show exec (.inputRange 0) s = execInputRange 0 s from rfl, execInputRange, h]
  exact ⟨_, rfl, rfl, rfl⟩

/-- A reading under which the module runs: the range is updated, and a change of it is raised as an event. -/
theorem inputRange_ready {s : State} (hready : s.sup.phase = .ready) (hst : (ctxAt s 0).st = .active)
    (hroom : storeUnits (ctxAt s 0).store + 2 ≤ 8192) (v : Nat) :
    ∃ t : State, exec (.inputRange v) s = .next t ∧ t.pwr.inRange = inputInRange v ∧ t.pwr.mv10 = v % 65536 ∧
      t.cores = s.cores ∧ t.basins = s.basins ∧ (inputInRange v = s.pwr.inRange → t.ctxs = s.ctxs) ∧
      (inputInRange v ≠ s.pwr.inRange → ∃ r : MsgRec, (ctxAt t 0).store = (ctxAt s 0).store ++ [r] ∧ r.type = 1 ∧
        r.code = evInputRange ∧ ∃ x1 x2 x3 x4 : Nat, r.body = .event 0xFFFF x1 x2 x3 x4 (b2n (!inputInRange v)) v 0) := by
  rw [exec_inputRange_ready hready]
  by_cases hsame : inputInRange v = s.pwr.inRange
  · rw [if_pos hsame]
    exact ⟨_, rfl, rfl, rfl, rfl, rfl, fun _ => rfl, fun h => absurd hsame h⟩
  · rw [if_neg hsame]
    exact ⟨_, rfl, rfl, rfl, rfl, rfl, fun h => absurd h hsame,
      fun _ => ⟨_, ctxEvent_stored (s := inputRead s v) hst hroom .., rfl, rfl, _, _, _, _, rfl⟩⟩

theorem exec_inputPowerRise (v : Nat) (s : State) : exec (.inputPowerRise v) s = execInputPowerRise v s := rfl

theorem powerEntry : Claims.PowerEntry := by
  intro s v cold lost
  have hcold {t : State} (h : Cold s t) : cold t ∧ lost t := by
    obtain ⟨h1, h2, h3, h4, h5, h6, h7, h8⟩ := h.cleared
    exact ⟨⟨h1, h2, h3, h4, h5, h6, h7, h8, h.fuse, h.pending, h.flash⟩, h.cores, h.mem⟩
  refine ⟨fun hoff hv => ⟨_, congrArg Host.Outcome.next (if_neg (by simp [hoff]; omega)), rfl, rfl, rfl, rfl, ?_, rfl, rfl, rfl⟩,
    fun hno => congrArg Host.Outcome.next (if_pos hno), fun hready hst hroom => inputRange_ready hready hst hroom v,
    exec_inputRange_removed, fun hup => ⟨⟨_, exec_powerFailShutdown_up hup, rfl, (hcold (powerFailed_cold s)).1,
      (hcold (powerFailed_cold s)).2, rfl, rfl⟩, fun c => ⟨_, exec_faultShutdown_up hup c, rfl,
      (hcold (faultShut_cold s)).1, (hcold (faultShut_cold s)).2, rfl, haltModule_aonRail s .fault false, rfl⟩⟩,
    exec_shutdown_down⟩
  simp [inputInRange]

/-! ### A rail of a die stack (R13, R223, R226, R455) -/

/-- What outlasts the loss of die stacks: their rails, the stacks of HBM withdrawn, and the records asked of the ledger. -/
structure Outlasts (s t : State) : Prop where
  rail : ∀ d, (dieAt t d).railOn = (dieAt s d).railOn
  withdrawn : ∀ b, (hbmAt s b).withdrawn = true → (hbmAt t b).withdrawn = true
  ledger : ∀ j ∈ s.heal.ledgerQ, j ∈ t.heal.ledgerQ

theorem Outlasts.of_eq {s t : State} (hdies : t.dies = s.dies) (hhbms : t.hbms = s.hbms) (hheal : t.heal = s.heal) :
    Outlasts s t :=
  ⟨fun d => by simp [dieAt, hdies], fun b h => by simpa [hbmAt, hhbms] using h, fun j h => hheal ▸ h⟩

theorem Outlasts.refl (s : State) : Outlasts s s := .of_eq rfl rfl rfl

theorem Outlasts.trans {s t u : State} (h : Outlasts s t) (g : Outlasts t u) : Outlasts s u :=
  ⟨fun d => (g.rail d).trans (h.rail d), fun b hb => g.withdrawn b (h.withdrawn b hb), fun j hj => g.ledger j (h.ledger j hj)⟩

theorem forEach_outlasts {α : Type} {l : List α} {f : State → α → State} (h : ∀ s a, Outlasts s (f s a)) (s : State) :
    Outlasts s (forEach l f s) :=
  forEach_holds (P := Outlasts s) (fun t a _ ht => ht.trans (h t a)) (.refl s)

theorem putHbm_outlasts (s : State) (b : Nat) (x : Hbm) (h : x.withdrawn = (hbmAt s b).withdrawn) :
    Outlasts s (putHbm s b x) := by
  refine ⟨fun d => rfl, fun c hc => ?_, fun j hj => hj⟩
  by_cases hcb : c = b
  · rw [hcb, hbmAt_putHbm, h, ← hcb, hc]
  · rw [hbmAt_putHbm_ne _ _ hcb, hc]

/-- A stack that enters reset is not put back into service. -/
theorem stackHeld_outlasts (s : State) (b : Nat) (inQ : List Pkt) (selfRef : Bool) (ctr : Tab Nat) : Outlasts s (putHbm s b
    { hbmAt s b with resetting := true, inQ := inQ, queue := [], wbq := [], selfRef := selfRef, ctr := ctr }) :=
  putHbm_outlasts s b _ rfl

theorem putBasin_outlasts (s : State) (b : Nat) (x : Basin) : Outlasts s (putBasin s b x) := .of_eq rfl rfl rfl

theorem enterReset_outlasts (s : State) (b : Nat) : Outlasts s (enterReset s b) := by
  have hheld (l : List Nat) : Outlasts s (forEach l (fun s k => putCore s k { coreAt s k with held := true }) s) := by
    refine forEach_outlasts (fun t k => ?_) s
    exact .of_eq rfl rfl rfl
  exact (hheld (coresOfBasin b)).trans ((stackHeld_outlasts _ b _ _ _).trans (putBasin_outlasts _ b _))

theorem triggerReset_outlasts (s : State) (n : Nat) (set : List Nat) (trig slot : Nat) (drain : Bool) :
    Outlasts s (triggerReset s n set trig slot drain) := by
  unfold triggerReset
  dsimp only
  split
  · exact .of_eq rfl rfl rfl
  · split
    · split
      · refine Outlasts.trans ?_ (forEach_outlasts enterReset_outlasts _)
        exact .of_eq rfl rfl rfl
      · exact .of_eq rfl rfl rfl
    · exact .of_eq rfl rfl rfl

theorem gapLoss_outlasts (s : State) (d count : Nat) (sets : Nat → List Nat) : Outlasts s (gapLoss s d count sets) := by
  refine forEach_outlasts (fun t n => ?_) s
  split
  · exact .refl t
  · refine Outlasts.trans ?_ (triggerReset_outlasts _ n _ _ _ false)
    exact .of_eq rfl rfl rfl

theorem withdrawStack_outlasts (s : State) (c : Nat) : Outlasts s (withdrawStack s c) where
  rail d := by
    have hdies : (withdrawStack s c).dies = s.dies := (congrArg State.dies (withdrawStack_unstacked s c) :)
    simp [dieAt, hdies]
  withdrawn b hb := by
    by_cases hcb : b = c
    · rw [hcb]
      exact withdrawStack_withdrawn s c
    · by_cases h : (hbmAt s c).withdrawn = true
      · rwa [withdrawStack_done h]
      · have hafter := congrArg Prod.snd (withdrawStack_stackService h b)
        rw [stackService, stackService, hbmAt_putHbm_ne s _ hcb] at hafter
        exact hafter.trans hb
  ledger j hj := by
    have hheal : (withdrawStack s c).heal = s.heal := (congrArg State.heal (withdrawStack_unstacked s c) :)
    rwa [hheal]

/-- The retirement of a die asks for its record. -/
theorem retireDie_heal (s : State) (d reason : Nat) (cmd : Option (Nat × Nat × Nat × Bool × Nat)) :
    (retireDie s d reason cmd).heal = { s.heal with ledgerQ := s.heal.ledgerQ ++
      [{ type := 2, reason := reason, target := d, detail := 0, cmd := cmd }] } := by
  have hfence := congrArg State.heal (fenceDie_unfenced (putDie s d { dieAt s d with retired := true }) d)
  unfold retireDie
  generalize fenceDie (putDie s d { dieAt s d with retired := true }) d = t at hfence
  have hheal : t.heal = s.heal := hfence
  rw [evalReplaceAll_heal, ← hheal]
  rfl

theorem retireDie_outlasts (s : State) (d reason : Nat) (cmd : Option (Nat × Nat × Nat × Bool × Nat)) :
    Outlasts s (retireDie s d reason cmd) where
  rail e := by
    by_cases he : e = d
    · subst he
      simp [dieAt]
    · simp [dieAt, tabGet_tabSet_ne _ _ _ he]
  withdrawn b hb := by
    have hhbms : (retireDie s d reason cmd).hbms = s.hbms := hbms_of_unretired (retireDie_unretired s d reason cmd)
    simpa [hbmAt, hhbms] using hb
  ledger j hj := by
    have hledger := congrArg Heal.ledgerQ (retireDie_heal s d reason cmd)
    rw [hledger]
    exact List.mem_append_left _ hj

/-- A die stack taken out with what its routers hold, and the new col tables staged. -/
def gapStaged (s : State) (d reason : Nat) : State :=
  let lost := s.mesh.net.filter (fun p => dieOf p.at_ == d)
  let u := forEach lost (fun s p => discardAt s p.at_ p) (putDie s d { dieAt s d with gapReason := reason, baseOk := false })
  { u with mesh := { u.mesh with
      gaps0 := if u.mesh.epoch then sortNat (u.mesh.gaps0 ++ [d]) else u.mesh.gaps0,
      gaps1 := if u.mesh.epoch then u.mesh.gaps1 else sortNat (u.mesh.gaps1 ++ [d]),
      gapDrops := bump u.mesh.gapDrops d lost.length } }

/-- The stack and the sync engine of a memory die go with it. -/
def stackGone (s : State) (d : Nat) : State :=
  if memDie (basinOfDie d) = d then
    withdrawStack (putBasin s (basinOfDie d) { basinAt s (basinOfDie d) with objs := [] }) (basinOfDie d)
  else s

theorem stackGone_outlasts (s : State) (d : Nat) : Outlasts s (stackGone s d) := by
  unfold stackGone
  split
  · refine Outlasts.trans ?_ (withdrawStack_outlasts _ _)
    exact .of_eq rfl rfl rfl
  · exact .refl s

theorem gapOne_of_served {s : State} {d : Nat} (reason : Nat) (h : isGap s d = false) : gapOne s d reason =
    gapLoss (stackGone (retireDie (gapStaged s d reason) d reason none) d) d
      (min (s.mesh.net.filter (fun p => dieOf p.at_ == d)).length (2 ^ 64 - 1)) (fun n =>
        if inRectangle s n (basinOfDie d) then grantOf s n else sortNat ((grantOf s n).filter (fun x =>
          ((s.mesh.net.filter (fun p => dieOf p.at_ == d)).flatMap
            (fun p => [basinOf p.srcCore, basinOf p.dstCore])).contains x))) := by
  rw [gapOne, if_neg (by simp [h])]
  rfl

/-- A die stack in service that becomes a gap: its record is asked for, and a memory die takes its stack with it. -/
theorem gapOne_marks {s : State} {d : Nat} (reason : Nat) (h : isGap s d = false) : Outlasts s (gapOne s d reason) ∧
    (memDie (basinOfDie d) = d → (hbmAt (gapOne s d reason) (basinOfDie d)).withdrawn = true) ∧
    ∃ j ∈ (gapOne s d reason).heal.ledgerQ, j.type = 2 ∧ j.reason = reason ∧ j.target = d := by
  rw [gapOne_of_served reason h]
  have hgapped : Outlasts s (putDie s d { dieAt s d with gapReason := reason, baseOk := false }) := by
    refine ⟨fun e => ?_, fun b hb => hb, fun j hj => hj⟩
    by_cases he : e = d
    · subst he
      simp
    · simp [dieAt_putDie_ne _ _ he]
  have hstaged : Outlasts s (gapStaged s d reason) := by
    have hdrops (l : List Pkt) (t : State) : Outlasts t (forEach l (fun s p => discardAt s p.at_ p) t) := by
      refine forEach_outlasts (fun t p => ?_) t
      exact .of_eq rfl rfl rfl
    refine (hgapped.trans (hdrops (s.mesh.net.filter (fun p => dieOf p.at_ == d)) _)).trans ?_
    exact .of_eq rfl rfl rfl
  have hretired := hstaged.trans (retireDie_outlasts (gapStaged s d reason) d reason none)
  have hstack := stackGone_outlasts (retireDie (gapStaged s d reason) d reason none) d
  refine ⟨(hretired.trans hstack).trans (gapLoss_outlasts _ _ _ _), fun hmem => (gapLoss_outlasts _ _ _ _).withdrawn _ ?_,
    ⟨2, reason, d, 0, none⟩, (gapLoss_outlasts _ _ _ _).ledger _ (hstack.ledger _ ?_), rfl, rfl, rfl⟩
  · rw [stackGone, if_pos hmem]
    exact withdrawStack_withdrawn _ _
  · rw [retireDie_heal]
    simp

theorem gapOne_outlasts (s : State) (d reason : Nat) : Outlasts s (gapOne s d reason) := by
  cases h : isGap s d with
  | true =>
    rw [gapOne_of_gap reason h]
    exact .refl s
  | false =>
    obtain ⟨hlast, -, -⟩ := gapOne_marks reason h
    exact hlast

/-- What the withdrawal of a stack that a gap may bring leaves of the gaps. -/
theorem isGap_withdrawStack (s : State) (b d : Nat) : dieAt (withdrawStack s b) d = dieAt s d := by
  have hdies : (withdrawStack s b).dies = s.dies := (congrArg State.dies (withdrawStack_unstacked s b) :)
  simp [dieAt, hdies]

/-- The rail of a stack in service fails. -/
theorem stackRail_taken {s : State} {d : Nat} (hd : d < 64) (hready : s.sup.phase = .ready) (hgap : isGap s d = false)
    (hbm : Bool) (cut : List Nat) :
    ∃ t : State, exec (.stackRailFault d ⟨hbm, cut⟩) s = .next t ∧ (∀ e ∈ cut, e < 64 → isGap t e = true) ∧
      (dieAt t d).railOn = false ∧ (dieAt t d).retired = true ∧ (dieAt t d).gapReason = 6 ∧
      (∀ k ∈ coresOfDie d, (coreAt t k).st.good = false) ∧
      (memDie (basinOfDie d) = d → (hbmAt t (basinOfDie d)).withdrawn = true) ∧
      ∃ j ∈ t.heal.ledgerQ, j.type = 2 ∧ j.reason = 6 ∧ j.target = d := by
  let u := putDie s d { dieAt s d with railOn := false }
  let g := makeGap u d 6 cut
  have hugap : isGap u d = false := by simpa [isGap, u] using hgap
  obtain ⟨hreason, hretired, -, hcut, hout, -⟩ := makeGap_taken cut hugap (.inr rfl)
  obtain ⟨hfirst, hmem, j, hj, hrec⟩ := gapOne_marks 6 hugap
  have hrest : Outlasts (gapOne u d 6) g := forEach_outlasts (fun t e => gapOne_outlasts t e 5) _
  have hrail : (dieAt g d).railOn = false := by
    rw [(hfirst.trans hrest).rail d]
    simp [u]
  have hexec : exec (.stackRailFault d ⟨hbm, cut⟩) s =
      .next (if hbm = true ∧ memDie (basinOfDie d) = d then withdrawStack g (basinOfDie d) else g) := by
    rw [show exec (.stackRailFault d ⟨hbm, cut⟩) s = execStackRailFault d ⟨hbm, cut⟩ s from rfl, execStackRailFault,
      runUnit_next _ _ hd]
    dsimp only
    rw [hready]
  refine ⟨_, hexec, ?_⟩
  split
  · have hlast := withdrawStack_outlasts g (basinOfDie d)
    have hcores : (withdrawStack g (basinOfDie d)).cores = g.cores := cores_of_unstacked (withdrawStack_unstacked g _)
    simp only [isGap, isGap_withdrawStack]
    exact ⟨hcut, hrail, hretired, hreason, fun k hk => by simpa [coreAt, hcores] using hout k hk,
      fun _ => withdrawStack_withdrawn g _, j, hlast.ledger j (hrest.ledger j hj), hrec⟩
  · exact ⟨hcut, hrail, hretired, hreason, hout, fun h => hrest.withdrawn _ (hmem h), j, hrest.ledger j hj, hrec⟩

theorem stackRails : Claims.StackRails := by
  intro s d hbm cut hd
  have hexec : exec (.stackRailFault d ⟨hbm, cut⟩) s = execStackRailFault d ⟨hbm, cut⟩ s := rfl
  refine ⟨fun hready hgap => stackRail_taken hd hready hgap hbm cut, fun hup => ?_, fun hdown => ?_⟩
  · rw [hexec, execStackRailFault, runUnit_next _ _ hd]
    obtain h | h := hup <;> rw [h]
  · rw [hexec, execStackRailFault, runUnit_next _ _ hd]
    obtain h | h := hdown <;> rw [h]

/-! ### Temperatures and the reference (R457, R458, R487) -/

/-- The units that throttling and the reference leave alone. -/
def quietView (s : State) : Tab Core × Tab Router × Mesh × Fab × Heal × Tab Basin × Glb :=
  (s.cores, s.routers, s.mesh, s.fab, s.heal, s.basins, s.glb)

/-- A die's throttle state set: the event beside it leaves every unit alone. -/
theorem setThrottle_frame (s : State) (d : Nat) (x : Die) : quietView (setThrottle s d x) = quietView s ∧
    (setThrottle s d x).hbms = s.hbms ∧
    (setThrottle s d x).dies = tabSet s.dies d { x with throttledInInt := x.throttledInInt || isThrottled x } := by
  unfold setThrottle
  dsimp only
  split <;> exact ⟨rfl, rfl, rfl⟩

theorem dieAt_setThrottle (s : State) (d : Nat) (x : Die) :
    dieAt (setThrottle s d x) d = { x with throttledInInt := x.throttledInInt || isThrottled x } := by
  obtain ⟨-, -, hdies⟩ := setThrottle_frame s d x
  rw [dieAt, hdies, tabGet_tabSet_self]

theorem dieAt_setThrottle_ne (s : State) {d e : Nat} (x : Die) (h : e ≠ d) : dieAt (setThrottle s d x) e = dieAt s e := by
  obtain ⟨-, -, hdies⟩ := setThrottle_frame s d x
  rw [dieAt, hdies, tabGet_tabSet_ne _ _ _ h, dieAt]

theorem exec_refClockLost_on {s : State} (h : s.clk.refOk = true) (hp : s.sup.phase ≠ .unpowered) :
    exec .refClockLost s = .next
      (let u := { s with clk := { s.clk with refOk := false }, pwr := { s.pwr with lostInInterval := true } }
       if s.sup.phase = .ready then ctxEvent u 0 evRefClockLost 0 0 0 0 else u) :=
  congrArg _ (if_neg (by simp [h, hp]))

theorem exec_refClockRestored_off {s : State} (h : s.clk.refOk = false) (hp : s.sup.phase ≠ .unpowered) :
    exec .refClockRestored s = .next
      (let u := { s with clk := { s.clk with refOk := true } }
       if s.sup.phase = .ready then ctxEvent u 0 evRefClockRestored 0 0 0 0 else u) :=
  congrArg _ (if_neg (by simp [h, hp]))

theorem throttleAndReference : Claims.ThrottleAndReference := by
  intro s d b sensor temp hp hd hb quiet ts
  have quiet_of {t : State} (h : quietView t = quietView s) : quiet t := by
    simpa only [quietView, Prod.mk.injEq] using h
  refine ⟨fun hsensor => ?_, fun hsensor => if_pos hsensor, ?_, fun hon => ?_, fun hoff => ⟨?_, ?_⟩⟩
  · let y := { dieAt s d with temps := ts, maxTemp := max (dieAt s d).maxTemp temp,
                              throttled := ts.any (fun e => decide (100 < e.2)) }
    obtain ⟨hquiet, hhbms, -⟩ := setThrottle_frame s d y
    refine ⟨setThrottle s d y, ?_, quiet_of hquiet, hhbms, ?_, ?_, ?_, fun e he => dieAt_setThrottle_ne s y he⟩
    · rw [show exec (.thermalThrottle d sensor temp) s = execThermalThrottle d sensor temp s from rfl, execThermalThrottle,
        if_neg (by omega), runUnit_next _ _ hd, if_neg hp]
    all_goals rw [dieAt_setThrottle]
  · let u := putHbm s b { hbmAt s b with temp := temp, maxTemp := max (hbmAt s b).maxTemp temp, halfRate := decide (95 < temp),
                                         passedThr := (hbmAt s b).passedThr || decide (95 < temp) }
    let y := { dieAt u (memDie b) with hbmThrottled := decide (95 < temp) }
    obtain ⟨hquiet, hhbms, -⟩ := setThrottle_frame u (memDie b) y
    have hhbm : hbmAt (setThrottle u (memDie b) y) b = hbmAt u b := by rw [hbmAt, hhbms, hbmAt]
    refine ⟨setThrottle u (memDie b) y, ?_, quiet_of hquiet, ?_, ?_, ?_, ?_, fun e he => dieAt_setThrottle_ne u y he⟩
    · rw [show exec (.hbmThermalThrottle b temp) s = execHbmThermalThrottle b temp s from rfl, execHbmThermalThrottle,
        runUnit_next _ _ hb, if_neg hp]
    · rw [hhbm, hbmAt_putHbm]
    · rw [hhbm, hbmAt_putHbm]
    · rw [hhbm, hbmAt_putHbm]
    · rw [dieAt_setThrottle]
  · refine ⟨_, exec_refClockLost_on hon hp, ?_⟩
    dsimp only
    split <;> exact ⟨quiet_of rfl, rfl, rfl⟩
  · exact congrArg _ (if_pos (.inl hoff))
  · refine ⟨_, exec_refClockRestored_off hoff hp, ?_⟩
    dsimp only
    split <;> exact ⟨quiet_of rfl, rfl, rfl⟩

/-! ### Clocks on demand (R244, R451, R459) -/

/-- FAST_CLOCK_START in a running module, for a clock of a die in range. -/
theorem fastClockStart_corePll {s : State} {d : Nat} (hready : s.sup.phase = .ready) (hd : d < 64) :
    exec (.fastClockStart d .corePll) s = .next (if (dieAt s d).pll || !meshDemand s then s
      else countStart (putDie s d { dieAt s d with pll := true }) 1) :=
  (runUnit_next _ _ hd).trans (congrArg Host.Outcome.next (if_neg (by simp [hready])))

theorem fastClockStart_coreBranch {s : State} {d : Nat} (hready : s.sup.phase = .ready) (hd : d < 64) (k : Nat) :
    exec (.fastClockStart d (.coreBranch k)) s = .next
      (if (dieAt s d).coreBranch.contains k || !coreDemand s k || dieOf k != d then s
       else countStart (putDie s d { dieAt s d with coreBranch := sortNat (k :: (dieAt s d).coreBranch) }) 1) :=
  (runUnit_next _ _ hd).trans (congrArg Host.Outcome.next (if_neg (by simp [hready])))

theorem fastClockStart_ctlPll {s : State} {d : Nat} (hready : s.sup.phase = .ready) (hd : d < 64) :
    exec (.fastClockStart d .ctlPll) s = .next (if (dieAt s d).ctlPll then s
      else countStart (putDie s d { dieAt s d with ctlPll := true }) 1) :=
  (runUnit_next _ _ hd).trans (congrArg Host.Outcome.next (if_neg (by simp [hready])))

theorem exec_fastClockStop (d : Nat) (sel : ClockSel) (s : State) :
    exec (.fastClockStop d sel) s = execFastClockStop d sel s := rfl

/-- FAST_CLOCK_STOP, for a clock of a die in range. -/
theorem fastClockStop_corePll (s : State) {d : Nat} (hd : d < 64) :
    exec (.fastClockStop d .corePll) s = .next (if meshDemand s then s else putDie s d { dieAt s d with pll := false }) := by
  rw [exec_fastClockStop, execFastClockStop]
  exact runUnit_next _ s hd

theorem fastClockStop_coreBranch (s : State) {d : Nat} (hd : d < 64) (k : Nat) :
    exec (.fastClockStop d (.coreBranch k)) s = .next (if coreDemand s k then s
      else putDie s d { dieAt s d with coreBranch := (dieAt s d).coreBranch.filter (fun j => j != k) }) := by
  rw [exec_fastClockStop, execFastClockStop]
  exact runUnit_next _ s hd

theorem fastClockStop_ctlPll (s : State) {d : Nat} (hd : d < 64) :
    exec (.fastClockStop d .ctlPll) s = .next (putDie s d { dieAt s d with ctlPll := false }) := by
  rw [exec_fastClockStop, execFastClockStop]
  exact runUnit_next _ s hd

theorem fastClocks : Claims.FastClocks := by
  intro s d k hready hd hk x started
  have starts {b : Prop} [Decidable b] {t u : State} (h : ¬ b) :
      (.next (if b then t else u) : Host.Outcome State Fault Refusal) = .next u := congrArg _ (if_neg h)
  refine ⟨fun hoff hneed => ⟨_, (fastClockStart_corePll hready hd).trans (starts ?_), rfl⟩, fun hon => ?_,
    fun hneed hoff => ⟨_, (fastClockStart_coreBranch hready hd k).trans (starts ?_), rfl⟩,
    fun hoff => ⟨_, (fastClockStart_ctlPll hready hd).trans (starts ?_), rfl⟩, fun hidle => ?_,
    fun hneed => ?_, fun hidle => ?_, fun hneed => ?_, fastClockStop_ctlPll s hd⟩
  · have hoff' : (dieAt s d).pll = false := hoff
    simp [hoff', hneed]
  · have hon' : (dieAt s d).pll = true := hon
    rw [fastClockStart_corePll hready hd, if_pos (by simp [hon'])]
  · have hoff' : (dieAt s d).coreBranch.contains k = false := hoff
    rw [hoff', hneed, hk]
    simp
  · have hoff' : (dieAt s d).ctlPll = false := hoff
    simp [hoff']
  · rw [fastClockStop_corePll s hd, if_neg (by simp [hidle])]
  · rw [fastClockStop_corePll s hd, if_pos hneed]
  · rw [fastClockStop_coreBranch s hd, if_neg (by simp [hidle])]
  · rw [fastClockStop_coreBranch s hd, if_pos hneed]

/-- Settles O56: the input and the shutdowns, the rails of die stacks, throttling and the reference, clocks on demand. -/
theorem powerAndClocks : Obligations.PowerAndClocks := ⟨powerEntry, stackRails, throttleAndReference, fastClocks⟩

end Sys2Proof.Machine

/-! PROOFS. What a stack's controller does by itself, the withdrawal of a stack, and the restoring of its lines and pages (O33). -/

namespace Sys2Proof.Machine

theorem exec_hbmScrub (b pc : Nat) (read : ScrubRead) (forced : Bool) (s : State) :
    exec (.hbmScrub b pc read forced) s = execHbmScrub b pc read forced s := rfl

theorem exec_rowRepair (b row bank : Nat) (found : RowFound) (s : State) :
    exec (.rowRepair b row bank found) s = execRowRepair b row bank found s := rfl

theorem exec_refresh (b pc : Nat) (s : State) : exec (.refresh b pc) s = execRefresh b pc s := rfl

theorem exec_recalibration (b ch : Nat) (forced ok : Bool) (s : State) :
    exec (.recalibration b ch forced ok) s = execRecalibration b ch forced ok s := rfl

theorem exec_selfRefreshEntry (b : Nat) (s : State) : exec (.selfRefreshEntry b) s = execSelfRefreshEntry b s := rfl

theorem exec_selfRefreshExit (b : Nat) (s : State) : exec (.selfRefreshExit b) s = execSelfRefreshExit b s := rfl

theorem exec_hbmWriteBack (b : Nat) (s : State) : exec (.hbmWriteBack b) s = execHbmWriteBack b s := rfl

theorem exec_stackWithdraw (b : Nat) (cause : WithdrawCause) (s : State) :
    exec (.stackWithdraw b cause) s = execStackWithdraw b cause s := rfl

theorem exec_lineRestoreTimeout (b : Nat) (s : State) : exec (.lineRestoreTimeout b) s = execLineRestoreTimeout b s := rfl

theorem exec_sessionRebuild (n : Nat) (s : State) : exec (.sessionRebuild n) s = execSessionRebuild n s := rfl

/-! ### Scrub reads (R263, R264, R274) -/

theorem pcOf_lt (a : Nat) : pcOf a < 32 := by
  have hlt (n : Nat) : n % 32 < 2 ^ 5 := Nat.mod_lt n (by decide)
  exact Nat.xor_lt_two_pow (Nat.xor_lt_two_pow (hlt _) (hlt _)) (hlt _)

/-- A line whose codewords are sound changes only the counters of poison-pattern codewords (R261, R274). -/
theorem hbmOutcomes_scrubbed (s : State) (b a n : Nat) (h : Hbm) : ∃ c : Tab Nat,
    hbmOutcomes (putHbm s b h) b a n soundLine = putHbm s b { h with ctr := c } ∧
    ∀ i, 195 ≤ i → tabGet c i 0 = tabGet h.ctr i 0 := by
  unfold hbmOutcomes
  dsimp only [soundLine]
  rw [List.zip_nil_right, forEach_nil]
  simp only [Bool.false_eq_true, if_false]
  split
  · exact ⟨h.ctr, rfl, fun _ _ => rfl⟩
  · refine ⟨_, by rw [bumpHbm, hbmAt_putHbm, putHbm_putHbm], fun i hi => ?_⟩
    have hpc := pcOf_lt a
    exact tabGet_bump_ne _ _ (by omega)

theorem noteRows_frame (log : List Nat) (h : Hbm) :
    log.foldl (fun h r => noteRowNo h r false) h = { h with notes := (log.foldl (fun h r => noteRowNo h r false) h).notes } := by
  induction log generalizing h with
  | nil => rfl
  | cons r log ih =>
    rw [List.foldl_cons, ih]
    rfl

/-- The end of a pass touches the notes of rows and the position of the pass only. -/
theorem endPass_frame (h : Hbm) (log : List Nat) : endPass h log =
    { h with notes := (endPass h log).notes, scrubPos := (endPass h log).scrubPos, scrubPass := (endPass h log).scrubPass } := by
  unfold endPass
  split
  · rw [noteRows_frame]
  · rfl

/-- A pass does not end while one of its pseudo-channels has lines left. -/
theorem endPass_unfinished {h : Hbm} {pc : Nat} (hpc : pc < 32) (hleft : tabGet h.scrubPos pc 0 < pcLines) (log : List Nat) :
    endPass h log = h := by
  refine if_neg fun hall => ?_
  have hdone := of_decide_eq_true (List.all_eq_true.1 hall pc (List.mem_range.2 hpc))
  omega

/-- A scrub read of a stack in service, in a cycle without a request of its pseudo-channel. -/
theorem hbmScrub_reads {s : State} {b pc : Nat} (hb : b < 16) (hpc : pc < 32) (hwith : (hbmAt s b).withdrawn = false)
    (hself : (hbmAt s b).selfRef = false) (hreset : (hbmAt s b).resetting = false)
    (hleft : tabGet (hbmAt s b).scrubPos pc 0 < pcLines)
    (hbusy : (busyPcs ((hbmAt s b).queue ++ (hbmAt s b).inQ)).contains pc = false) (log : List Nat) :
    ∃ c : Tab Nat, exec (.hbmScrub b pc ⟨soundLine, log⟩ false) s = .next (putHbm s b (endPass { hbmAt s b with
      scrubPos := tabSet (hbmAt s b).scrubPos pc (tabGet (hbmAt s b).scrubPos pc 0 + 1), ctr := c } log)) ∧
    tabGet c 197 0 = (tabGet (hbmAt s b).ctr 197 0 + 1) % 2 ^ 64 := by
  obtain ⟨c, hout, hctr⟩ := hbmOutcomes_scrubbed s b (pcLine pc (tabGet (hbmAt s b).scrubPos pc 0)) 64 { hbmAt s b with
    scrubPos := tabSet (hbmAt s b).scrubPos pc (tabGet (hbmAt s b).scrubPos pc 0 + 1), ctr := bump (hbmAt s b).ctr 197 1 }
  refine ⟨c, ?_, (hctr 197 (by decide)).trans (tabGet_bump _ _ _)⟩
  have hreads : ((hbmAt s b).withdrawn || (hbmAt s b).selfRef || (hbmAt s b).resetting ||
      decide (pcLines ≤ tabGet (hbmAt s b).scrubPos pc 0) ||
      (!false && (busyPcs ((hbmAt s b).queue ++ (hbmAt s b).inQ)).contains pc)) = false := by
    rw [hwith, hself, hreset, hbusy, decide_eq_false (Nat.not_le.2 hleft)]
    rfl
  rw [exec_hbmScrub, execHbmScrub, if_neg (Nat.not_le.2 hpc), runUnit_next _ _ hb]
  dsimp only
  rw [if_neg (by rw [hreads]; exact Bool.false_ne_true), if_neg Bool.false_ne_true, hout, hbmAt_putHbm, putHbm_putHbm]

theorem hbmScrub_skips {s : State} {b pc : Nat} (hb : b < 16) (hpc : pc < 32) (h : (hbmAt s b).selfRef = true ∨
    (hbmAt s b).resetting = true ∨ (busyPcs ((hbmAt s b).queue ++ (hbmAt s b).inQ)).contains pc = true) (read : ScrubRead) :
    exec (.hbmScrub b pc read false) s = .next s := by
  rw [exec_hbmScrub, execHbmScrub, if_neg (Nat.not_le.2 hpc), runUnit_next _ _ hb]
  refine congrArg Host.Outcome.next (if_pos ?_)
  obtain h | h | h := h <;> simp only [h] <;> simp

/-! ### Repairs, refreshes, recalibration and self-refresh (R265 to R268) -/

theorem rowRepair_due {s : State} {b row : Nat} {recurs : Bool} (hb : b < 16) (h : repairDue (hbmAt s b) row recurs = true)
    (bank : Nat) (lost : List Nat) : exec (.rowRepair b row bank ⟨recurs, true, lost⟩) s =
      .next (putHbm s b { hbmAt s b with
        notes := tabDel (hbmAt s b).notes row, ctr := bump (hbmAt s b).ctr 199 1,
        poisonCw := sortNat ((hbmAt s b).poisonCw ++ lost.filter (fun a => a % 16 == 0 && Config.rowOf a == row)) }) := by
  rw [exec_rowRepair, execRowRepair, runUnit_next _ _ hb]
  dsimp only
  rw [if_neg (by simp [h]), if_pos rfl]

theorem rowRepair_notDue {s : State} {b row : Nat} {recurs : Bool} (hb : b < 16) (h : repairDue (hbmAt s b) row recurs = false)
    (bank : Nat) (lost : List Nat) :
    exec (.rowRepair b row bank ⟨recurs, true, lost⟩) s = .next (putHbm s b (clearUe (hbmAt s b) row)) := by
  rw [exec_rowRepair, execRowRepair, runUnit_next _ _ hb]
  dsimp only
  rw [if_pos (by simp [h])]

/-- A recalibration of a stack in service. -/
theorem recalibration_served {s : State} {b ch : Nat} (hb : b < 16) (hch : ch < 16) (h : (hbmAt s b).withdrawn = false)
    (ok : Bool) : exec (.recalibration b ch false ok) s = .next
      (if ok then putHbm s b
         { hbmAt s b with ctr := bump (hbmAt s b).ctr 200 1, recalTries := tabDel (hbmAt s b).recalTries ch }
       else if tabGet (hbmAt s b).recalTries ch 0 = 0 then
         putHbm s b { hbmAt s b with ctr := bump (hbmAt s b).ctr 200 1, recalTries := tabSet (hbmAt s b).recalTries ch 1 }
       else withdrawStack (basinEvent (putHbm s b { hbmAt s b with ctr := bump (hbmAt s b).ctr 200 1 }) b evHbmPhyFault 0 0 0) b) := by
  rw [exec_recalibration, execRecalibration, if_neg (Nat.not_le.2 hch), runUnit_next _ _ hb]
  dsimp only
  rw [if_neg (by simp [h]), if_neg Bool.false_ne_true]

theorem hbmUpkeep : Claims.HbmUpkeep := by
  intro s b pc ch row bank recurs lost log hb hpc hch h i sound
  refine ⟨?_, fun hwith hself hreset hleft hbusy => ?_, fun hskip => hbmScrub_skips hb hpc hskip _,
    fun hdue => rowRepair_due hb hdue bank lost, fun hdue => rowRepair_notDue hb hdue bank lost, ?_, fun hwith => ?_,
    fun hwith hself hcfg hqueue hinQ => ?_, ?_⟩
  · rw [exec_hbmWriteBack, execHbmWriteBack, runUnit_next _ _ hb]
  · obtain ⟨c, hexec, hctr⟩ := hbmScrub_reads hb hpc hwith hself hreset hleft hbusy log
    have hframe := endPass_frame { hbmAt s b with
      scrubPos := tabSet (hbmAt s b).scrubPos pc (tabGet (hbmAt s b).scrubPos pc 0 + 1), ctr := c } log
    refine ⟨_, hexec, by rw [hframe], by rw [hframe], by rw [hframe], fun hmore => ?_, by rw [hframe]; exact hctr⟩
    rw [endPass_unfinished hpc (by rw [tabGet_tabSet_self]; exact hmore)]
    exact ⟨tabGet_tabSet_self _ _ _ _, rfl⟩
  · rw [exec_refresh, execRefresh, if_neg (Nat.not_le.2 hpc), runUnit_next _ _ hb]
  · rw [recalibration_served hb hch hwith, if_pos rfl]
  · rw [exec_selfRefreshEntry, execSelfRefreshEntry, runUnit_next _ _ hb]
    exact congrArg Host.Outcome.next (if_neg (by simp [show (hbmAt s b).withdrawn = false from hwith,
      show (hbmAt s b).selfRef = false from hself, show (hbmAt s b).srCfg ≠ 0 from hcfg,
      show (hbmAt s b).queue = [] from hqueue, show (hbmAt s b).inQ = [] from hinQ]))
  · rw [exec_selfRefreshExit, execSelfRefreshExit, runUnit_next _ _ hb]

/-! ### A stack withdrawn (R256, R267, R270, R271, R273) -/

/-- The withdrawal of a stack in service whose basin no context owns. -/
theorem withdrawStack_free {s : State} {b : Nat} (hwith : (hbmAt s b).withdrawn = false) (hfree : (basinAt s b).ctx = none) :
    withdrawStack s b = raiseAlert (basinEvent (putHbm s b (withdrawnHbm (hbmAt s b))) b evHbmWithdrawn 0 0 0) 1 := by
  unfold withdrawStack
  rw [if_neg (by simp [hwith])]
  dsimp only
  rw [hfree]
  rfl

theorem hbmWithdrawn : Claims.HbmWithdrawn := by
  intro s b ch hb hch hwith hfree h out
  have taken {u : State} (hhbm : (hbmAt u b).queue = h.queue ∧ (hbmAt u b).inQ = h.inQ ∧ (hbmAt u b).withdrawn = false)
      (hbasin : (basinAt u b).ctx = none) (halert : u.glb.alert = s.glb.alert) (hcores : u.cores = s.cores) :
      out (withdrawStack u b) ∧ (withdrawStack u b).dies = u.dies := by
    obtain ⟨hqueue, hinQ, hserved⟩ := hhbm
    have hafter : hbmAt (withdrawStack u b) b = withdrawnHbm (hbmAt u b) := by
      rw [withdrawStack_free hserved hbasin]
      exact hbmAt_putHbm u b _
    refine ⟨⟨by rw [hafter]; rfl, by rw [hafter]; rfl, ?_, by rw [hafter]; rfl, fun p => ?_, ?_, ?_⟩, ?_⟩
    · rw [hafter, ← hqueue, ← hinQ]
      rfl
    · rw [hbmRefusal_eq, if_pos (by rw [hafter]; rfl)]
    · rw [withdrawStack_free hserved hbasin, ← halert]
      rfl
    · rw [withdrawStack_free hserved hbasin, ← hcores]
      rfl
    · rw [withdrawStack_free hserved hbasin]
      rfl
  have withdraw (cause : WithdrawCause) := (exec_stackWithdraw b cause s).trans (runUnit_next _ s hb)
  refine ⟨⟨_, withdraw .training, (taken ⟨rfl, rfl, hwith⟩ hfree rfl rfl).1⟩, ⟨_, withdraw .baseDie, ?_⟩, fun htries => ?_⟩
  · obtain ⟨hout, hdies⟩ := taken (u := putDie s (memDie b) { dieAt s (memDie b) with baseOk := false }) ⟨rfl, rfl, hwith⟩ hfree
      rfl rfl
    exact ⟨hout, by rw [dieAt, hdies]; exact congrArg Die.baseOk (dieAt_putDie s (memDie b) _)⟩
  · refine ⟨_, recalibration_served hb hch hwith false, ?_⟩
    rw [if_neg Bool.false_ne_true, if_neg htries]
    have hphy : hbmAt (basinEvent (putHbm s b { h with ctr := bump h.ctr 200 1 }) b evHbmPhyFault 0 0 0) b =
        { h with ctr := bump h.ctr 200 1 } := hbmAt_putHbm s b _
    refine (taken (u := basinEvent (putHbm s b { h with ctr := bump h.ctr 200 1 }) b evHbmPhyFault 0 0 0) ⟨?_, ?_, ?_⟩ hfree
      rfl rfl).1
    · exact (congrArg Hbm.queue hphy :)
    · exact (congrArg Hbm.inQ hphy :)
    · exact (congrArg Hbm.withdrawn hphy).trans hwith

/-! ### Lines and pages restored (R404, R405, R407, R411) -/

/-- The reload of a copy asked for: the stacks stay as they are. -/
theorem askReload_frame (s : State) (n b : Nat) (h : Shard) : (askReload s n b h).hbms = s.hbms ∧
    (askReload s n b h).heal.reloads = s.heal.reloads ++ [(n, b, h.id)] := by
  unfold askReload
  dsimp only
  split <;> exact ⟨rfl, rfl⟩

theorem lineRestoreTimeout_holds {s : State} {b n id line : Nat} {rest : List (Nat × Nat × Nat)} {w : Wpkg} {sh : Shard}
    (hb : b < 16) (hrest : (hbmAt s b).restores = (n, id, line) :: rest) (hw : (ctxAt s n).wpkg = some w)
    (hsh : w.shards.find? (fun h => h.id == id) = some sh) (hold : onHold s b n id = false) :
    exec (.lineRestoreTimeout b) s = .next
      (askReload (holdShard (putHbm s b { hbmAt s b with restores := rest }) n b sh) n b sh) := by
  have hold' : onHold (putHbm s b { hbmAt s b with restores := rest }) b n id = false := by
    rw [onHold, hbmAt_putHbm]
    exact hold
  rw [exec_lineRestoreTimeout, execLineRestoreTimeout, runUnit_next _ _ hb]
  simp only [hrest, hw, hsh]
  exact congrArg Host.Outcome.next (if_neg (by simp [hold']))

/-- Bytes copied from another stack. -/
theorem hbmAt_hbmCopy (s : State) {b d : Nat} (hne : b ≠ d) (a o n : Nat) :
    (hbmAt (hbmCopy s b a d o n) d).mem = memWrite (hbmAt s d).mem o (memRead (hbmAt s b).mem a n) := by
  unfold hbmCopy
  dsimp only
  rw [hbmAt_putHbm]
  unfold hbmWrite
  dsimp only
  rw [hbmAt_putHbm]
  unfold hbmFetch
  dsimp only
  rw [hbmAt_putHbm_ne _ _ hne.symm]
  rfl

theorem hbmCopy_ctxs (s : State) (b a d o n : Nat) : (hbmCopy s b a d o n).ctxs = s.ctxs := rfl

/-- A page's new mirror lies in another stack. -/
theorem mirrorBasin_ne {s : State} {n b : Nat} {g : Page} (h : mirrorBasin s n g = some b) : b ≠ g.basin := by
  unfold mirrorBasin at h
  refine List.foldlRecOn (motive := fun best => ∀ d, best = some d → d ≠ g.basin) _ _ (by simp) (fun best hbest c hc d hd => ?_) b h
  have hcne : c ≠ g.basin := by
    have hkept := (List.mem_filter.1 hc).2
    simp only [Bool.and_eq_true, bne_iff_ne] at hkept
    exact hkept.1.1
  have hd' : best = some d ∨ some c = some d := by
    split at hd
    · exact .inl hd
    · split at hd
      · exact .inr hd
      · split at hd
        · exact .inr hd
        · exact .inl hd
  obtain hd | hd := hd'
  · exact hbest d hd
  · exact Option.some.inj hd ▸ hcne

section
variable {s : State} {n b pg o : Nat} {g : Page} {free : List Nat} {t : Sess}

/-- A page with a new mirror in reach is copied, and its entry staged. -/
theorem rebuildPage_copied (id : Nat) (hmirror : mirrorBasin s n g = some b) (hfree : freePages (ctxAt s n) b = o :: free) :
    rebuildPage s n id pg g =
      putCtx (hbmCopy s g.basin (g.off * 65536) b (o * 65536) 65536) n
        { ctxAt s n with staged := (ctxAt s n).staged ++ [.rebuilt id pg b o] } := by
  unfold rebuildPage
  rw [hmirror]
  dsimp only
  rw [hfree]
  rfl

/-- The one page of an idle session copied to its new mirror. -/
theorem sessionRebuild_copies (hn : n < 16) (hsess : (ctxAt s n).sessions = [t]) (hreb : t.rebuilding = true) (hlost : t.lost = false)
    (hidle : sessionIdle (ctxAt s n) t.id = true) (hpages : (ctxAt s n).pages = [(pg, g)]) (hlo : t.firstPage ≤ pg)
    (hhi : pg < t.firstPage + t.npages) (hmir : g.mirror = none) (hstaged : pageStaged (ctxAt s n) pg = false)
    (hmirror : mirrorBasin s n g = some b) (hfree : freePages (ctxAt s n) b = o :: free) :
    exec (.sessionRebuild n) s = .next (rebuildPage s n t.id pg g) := by
  have hfind : (ctxAt s n).sessions.find? (fun t => t.rebuilding && !t.lost && sessionIdle (ctxAt s n) t.id) = some t := by
    rw [hsess]
    simp [hreb, hlost, hidle]
  have hps : (ctxAt s n).pages.filter (fun e => decide (t.firstPage ≤ e.1) && decide (e.1 < t.firstPage + t.npages) &&
      e.2.mirror.isNone && !pageStaged (ctxAt s n) e.1) = [(pg, g)] := by
    rw [hpages]
    simp [hlo, hhi, hmir, hstaged]
  have hafter : pageStaged (ctxAt (rebuildPage s n t.id pg g) n) pg = true := by
    rw [rebuildPage_copied t.id hmirror hfree, ctxAt_putCtx]
    simp [pageStaged]
  rw [exec_sessionRebuild, execSessionRebuild, runUnit_next _ _ hn]
  dsimp only
  rw [hfind]
  dsimp only
  rw [hps, forEach_cons, forEach_nil]
  exact congrArg Host.Outcome.next (if_pos (by simpa using hafter))

end

theorem linesAndPagesRestored : Claims.LinesAndPagesRestored := by
  intro s b n id line rest w sh t pg o g free hb hn
  refine ⟨fun hrest hw hsh hold hid => ?_, fun hsess hreb hlost hidle hpages hlo hhi hmir hstaged hmirror hfree => ?_⟩
  · let u := putHbm s b { hbmAt s b with restores := rest }
    have hhold : holdShard u n b sh = putHbm s b { hbmAt s b with restores := rest, holds := (hbmAt s b).holds ++
        [{ ctx := n, shard := id, lo := sh.hbmOff * 65536, len := sh.length }] } := by
      have hu : onHold u b n sh.id = false := by
        rw [onHold, hbmAt_putHbm, hid]
        exact hold
      rw [holdShard, if_neg (by simp [hu]), hbmAt_putHbm, putHbm_putHbm, hid]
    obtain ⟨hhbms, hreloads⟩ := askReload_frame (holdShard u n b sh) n b sh
    have hafter : hbmAt (askReload (holdShard u n b sh) n b sh) b = hbmAt (holdShard u n b sh) b := by rw [hbmAt, hhbms, hbmAt]
    refine ⟨_, lineRestoreTimeout_holds hb hrest hw hsh hold, ?_, ?_, ?_, ?_⟩
    · rw [hafter, hhold, hbmAt_putHbm]
    · rw [hafter, hhold, hbmAt_putHbm]
    · rw [hreloads, hhold, hid]
      rfl
    · rw [hafter, hhold, hbmAt_putHbm]
  · refine ⟨_, sessionRebuild_copies hn hsess hreb hlost hidle hpages hlo hhi hmir hstaged hmirror hfree, ?_⟩
    rw [rebuildPage_copied t.id hmirror hfree, ctxAt_putCtx, hbmAt_putCtx]
    refine ⟨rfl, rfl, fun i hi => ?_⟩
    rw [hbmAt_hbmCopy s (mirrorBasin_ne hmirror).symm, memGet_memWrite, memRead_length, if_pos (by omega), memRead,
      nth_range_map _ _ (by omega), Nat.add_sub_cancel_left]

/-- Settles O33: the upkeep of a stack, its withdrawal, and the restoring of lines and pages. -/
theorem hbmService : Obligations.HbmService := ⟨hbmUpkeep, hbmWithdrawn, linesAndPagesRestored⟩

end Sys2Proof.Machine

/-! PROOFS. Commands of the host rings: those that end at once or wait for a boundary, staging, requests and sessions (O44). -/

namespace Sys2Proof.Machine

theorem exec_hostNop (n : Nat) (s : State) : exec (.hostNop n) s = execHostNop n s := rfl

theorem exec_reloadScale (n : Nat) (s : State) : exec (.reloadScale n) s = execReloadScale n s := rfl

theorem exec_bindPeer (n : Nat) (s : State) : exec (.bindPeer n) s = execBindPeer n s := rfl

theorem exec_setPorts (n : Nat) (s : State) : exec (.setPorts n) s = execSetPorts n s := rfl

theorem exec_fabRecord (n : Nat) (r : SignedRec) (s : State) : exec (.fabRecord n r) s = execFabRecord n r s := rfl

theorem exec_lateReport (n : Nat) (s : State) : exec (.lateReport n) s = execLateReport n s := rfl

theorem exec_stageImage (n : Nat) (env : Envelope) (s : State) : exec (.stageImage n env) s = execStageImage n env s := rfl

theorem exec_stageWpkg (n : Nat) (p : WpkgPiece) (s : State) : exec (.stageWpkg n p) s = execStageWpkg n p s := rfl

theorem exec_infer (n : Nat) (inp : InferIn) (s : State) : exec (.infer n inp) s = execInfer n inp s := rfl

theorem exec_sessionOpen (n : Nat) (blob : KeyBlob) (s : State) : exec (.sessionOpen n blob) s = execSessionOpen n blob s := rfl

theorem exec_sessionClose (n : Nat) (s : State) : exec (.sessionClose n) s = execSessionClose n s := rfl

/-- A command taken from its ring does what its handler does. -/
theorem hostCmd_does {s : State} {n opc : Nat} {h : HCmd} (ht : TakesCmd s n opc h) {c : Host.Outcome State Fault Refusal}
    {f : State → HCmd → State} (hc : c = hostCmd n opc f s) {t : State} (hf : f s h = t) : c = .next t := by
  rw [hc, hostCmd_next ht, hf]

/-! ### A command that fails, one that waits (R328, R331, R332) -/

section
variable {s : State} {n : Nat} (h : HCmd) (hst : (ctxAt s n).st = .active)
include hst

/-- A command that fails leaves its context as its start does, with one completion record more. -/
theorem ctxAt_failCmd (status : Nat) : ∃ k : Comp, ctxAt (failCmd s n h status) n =
      { ctxAt (startCmd s n h) n with comps := (ctxAt s n).comps ++ [k] } ∧
    k.tag = cmdTag h ∧ k.ring = h.ring ∧ k.status = status ∧ k.noIrq = cmdNoIrq h := by
  obtain ⟨k, hctx, hk⟩ := failWith_active (cmdTag h) h.ring status (cmdNoIrq h) ((startCmd_st s n h).trans hst)
  exact ⟨k, by rw [failCmd, hctx, startCmd_comps], hk⟩

/-- What a failing command keeps of its context, besides its end. -/
theorem failCmd_keeps (status : Nat) : Ended s (failCmd s n h status) n h status ∧
    (ctxAt (failCmd s n h status) n).image = (ctxAt s n).image ∧ (ctxAt (failCmd s n h status) n).wpkg = (ctxAt s n).wpkg ∧
    (ctxAt (failCmd s n h status) n).mbs = (ctxAt s n).mbs ∧
    (ctxAt (failCmd s n h status) n).sessions = (ctxAt s n).sessions ∧
    (ctxAt (failCmd s n h status) n).staged = (ctxAt s n).staged ∧ (failCmd s n h status).hbms = s.hbms := by
  obtain ⟨k, hctx, hk⟩ := ctxAt_failCmd h hst status
  refine ⟨⟨k, by rw [hctx], hk⟩, ?_⟩
  rw [hctx, startCmd, ctxAt_putCtx]
  exact ⟨rfl, rfl, rfl, rfl, rfl, rfl⟩

/-- A command that ends with a status has ended. -/
theorem endCmd_ended (status r0 r1 : Nat) : Ended s (endCmd s n h status r0 r1) n h status :=
  ⟨_, endCmd_answered h hst status r0 r1, rfl, rfl, rfl, rfl⟩

theorem endCmd_keeps (status r0 r1 : Nat) : Answered s (endCmd s n h status r0 r1) n h status r0 r1 ∧
    (ctxAt (endCmd s n h status r0 r1) n).fabEpoch = (ctxAt s n).fabEpoch ∧
    (ctxAt (endCmd s n h status r0 r1) n).record = (ctxAt s n).record ∧
    (ctxAt (endCmd s n h status r0 r1) n).image = (ctxAt s n).image ∧
    (ctxAt (endCmd s n h status r0 r1) n).wpkg = (ctxAt s n).wpkg ∧
    (ctxAt (endCmd s n h status r0 r1) n).mbs = (ctxAt s n).mbs := by
  refine ⟨endCmd_answered h hst status r0 r1, ?_⟩
  rw [ctxAt_endCmd h hst, startCmd, ctxAt_putCtx]
  exact ⟨rfl, rfl, rfl, rfl, rfl⟩

end

theorem hbmAt_endCmd (s : State) (n : Nat) (h : HCmd) (status r0 r1 b : Nat) :
    hbmAt (endCmd s n h status r0 r1) b = hbmAt s b := rfl

/-- A command that waits for a boundary: it is staged, and nothing that its effect changes has changed. -/
theorem ctxAt_stageCmd (s : State) (n : Nat) (h : HCmd) (a : Staged) : ctxAt (stageCmd s n h a) n =
    { ctxAt (startCmd s n h) n with staged := (ctxAt s n).staged ++ [a] } := by
  rw [stageCmd, ctxAt_putCtx, startCmd, ctxAt_putCtx]

theorem stageCmd_waits (s : State) (n : Nat) (h : HCmd) (a : Staged) :
    (ctxAt (stageCmd s n h a) n).staged = (ctxAt s n).staged ++ [a] ∧ (ctxAt (stageCmd s n h a) n).comps = (ctxAt s n).comps ∧
    (ctxAt (stageCmd s n h a) n).peers = (ctxAt s n).peers ∧ (ctxAt (stageCmd s n h a) n).portSet = (ctxAt s n).portSet ∧
    (ctxAt (stageCmd s n h a) n).scale = (ctxAt s n).scale ∧
    (ctxAt (stageCmd s n h a) n).sessions = (ctxAt s n).sessions := by
  rw [ctxAt_stageCmd, startCmd, ctxAt_putCtx]
  exact ⟨rfl, rfl, rfl, rfl, rfl, rfl⟩

/-! ### Membership records (R293, R294) -/

/-- A change that acts for one unit of a list alone. -/
theorem forEach_once {α : Type} {l : List α} {f : State → α → State} {s : State} {a : α} (hl : l.Nodup) (ha : a ∈ l)
    (before : ∀ b ∈ l, b ≠ a → f s b = s) (after : ∀ b ∈ l, b ≠ a → f (f s a) b = f s a) : forEach l f s = f s a := by
  induction l with
  | nil => simp at ha
  | cons c l ih =>
    rw [forEach_cons]
    obtain ⟨hc, hnodup⟩ := List.nodup_cons.1 hl
    by_cases hca : c = a
    · subst hca
      exact forEach_eq_self fun b hb => after b (.tail _ hb) fun h => hc (h ▸ hb)
    · rw [before c (.head _) hca]
      exact ih hnodup ((List.mem_cons.1 ha).resolve_left (Ne.symm hca)) (fun b hb => before b (.tail _ hb))
        fun b hb => after b (.tail _ hb)

theorem resendHeld_unsent (s : State) (n : Nat) : unsent (resendHeld s n) = unsent s := by
  refine forEach_keeps unsent (fun s p _ => ?_) s
  refine forEach_keeps unsent (fun s t _ => ?_) s
  exact (pumpTx_unsent _ _ _ _ _ _).trans (putTx_unsent _ _ _)

theorem ctxAt_resendHeld (s : State) (n m : Nat) : ctxAt (resendHeld s n) m = ctxAt s m := by
  rw [ctxAt, ctxs_of_unsent (resendHeld_unsent s n), ctxAt]

/-- The record of a domain that has the endpoint for its only member, adopted by a context without entries. -/
theorem adoptRecord_alone {s : State} {n : Nat} {r : MembRecord} (hfenced : (ctxAt s n).fenced = false)
    (hmember : r.members.any (fun m => m.id == epOf (ctxAt s n)) = true) (hone : r.members.length = 1)
    (hents : entsOf s n = []) :
    adoptRecord s n r = resendHeld (putCtx s n { ctxAt s n with fabEpoch := r.epoch, record := some r, fenced := false }) n := by
  obtain ⟨m, hm⟩ := List.length_eq_one_iff.1 hone
  have hid : m.id = epOf (ctxAt s n) := by simpa [hm] using hmember
  have hself (t : State) (ht : epOf (ctxAt t n) = epOf (ctxAt s n)) : adoptMember n r (t, true) m = (t, true) :=
    if_pos (hid.trans ht.symm)
  unfold adoptRecord
  dsimp only
  rw [if_neg (by simp [hmember]), hm, List.foldl_cons, List.foldl_nil, hself _ (by rw [ctxAt_putCtx]; rfl)]
  have hents' : entsOf (putCtx s n { ctxAt s n with fabEpoch := r.epoch, record := some r, fenced := false }) n = [] := hents
  rw [hents', List.filter_nil, forEach_nil, if_pos rfl, if_neg (by simp [hfenced])]

/-- A record judged for a domain that only one context is in. -/
theorem judgeRecord_alone {s : State} {n : Nat} {r : MembRecord} {sigOk : Bool} (hn : n < 16) (hok : recordOk s r sigOk = true)
    (hnew : newer r.epoch (ctxAt s n).fabEpoch = true) (hdomain : bits (ctxAt s n).act.fabId 35 20 = r.domain)
    (hep : epOf (ctxAt s n) ≠ 0) (halone : ∀ m, m < 16 → m ≠ n → epOf (ctxAt s m) = 0)
    (hfenced : (ctxAt s n).fenced = false) (hmember : r.members.any (fun m => m.id == epOf (ctxAt s n)) = true)
    (hone : r.members.length = 1) (hents : entsOf s n = []) :
    ctxAt (judgeRecord s 0 r sigOk) n = { ctxAt s n with fabEpoch := r.epoch, record := some r, fenced := false } := by
  unfold judgeRecord
  rw [if_neg (by simp [hok])]
  have hadopt := adoptRecord_alone hfenced hmember hone hents
  rw [forEach_once List.nodup_range (List.mem_range.2 hn) (fun m hm hne => ?_) (fun m hm hne => ?_)]
  · dsimp only
    rw [if_pos ⟨hep, hdomain, hnew⟩, hadopt, ctxAt_resendHeld, ctxAt_putCtx]
  · exact if_neg fun hc => hc.1 (halone m (List.mem_range.1 hm) hne)
  · refine if_neg fun hc => hc.1 ?_
    dsimp only
    rw [if_pos ⟨hep, hdomain, hnew⟩, hadopt, ctxAt_resendHeld, ctxAt_putCtx_ne _ _ hne]
    exact halone m (List.mem_range.1 hm) hne

/-- A record newer for no context changes nothing. -/
theorem judgeRecord_stale {s : State} {r : MembRecord} {sigOk : Bool} (hok : recordOk s r sigOk = true)
    (h : ∀ m, m < 16 → newer r.epoch (ctxAt s m).fabEpoch = false) : judgeRecord s 0 r sigOk = s := by
  unfold judgeRecord
  rw [if_neg (by simp [hok])]
  exact forEach_eq_self fun m hm => if_neg fun hc => by simp [h m (List.mem_range.1 hm)] at hc

/-! ### The commands that end at once or wait (R293, R294, R306, R307, R316, R331 to R333) -/

section
variable {s : State} {n : Nat} {h : HCmd}

theorem fabRecord_taken (ht : TakesCmd s n 0xC h) (hlen : cmdField h 16 4 ≠ 0) (bytes : List Byte) (sigOk : Bool) :
    exec (.fabRecord n ⟨bytes, sigOk⟩) s = .next (endCmd (judgeRecord s 0 (recordOf bytes) sigOk) n h
      (if !recordOk s (recordOf bytes) sigOk then 0x11
       else if bits (ctxAt s n).act.fabId 35 20 == (recordOf bytes).domain && newer (recordOf bytes).epoch (ctxAt s n).fabEpoch
       then 0 else 0x12) (ctxAt (judgeRecord s 0 (recordOf bytes) sigOk) n).fabEpoch 0) :=
  hostCmd_does ht (exec_fabRecord n _ s) (if_neg hlen)

theorem fabRecord_empty (ht : TakesCmd s n 0xC h) (hlen : cmdField h 16 4 = 0) (bytes : List Byte) (sigOk : Bool) :
    exec (.fabRecord n ⟨bytes, sigOk⟩) s = .next (endCmd s n h 0x11 (ctxAt s n).fabEpoch 0) :=
  hostCmd_does ht (exec_fabRecord n _ s) (if_pos hlen)

/-- The end of a record that leaves the context's epoch as it is. -/
theorem fabRecord_kept (ht : TakesCmd s n 0xC h) (hlen : cmdField h 16 4 ≠ 0) {bytes : List Byte} {sigOk : Bool} {status : Nat}
    (hctx : ctxAt (judgeRecord s 0 (recordOf bytes) sigOk) n = ctxAt s n)
    (hstatus : (if !recordOk s (recordOf bytes) sigOk then 0x11
      else if bits (ctxAt s n).act.fabId 35 20 == (recordOf bytes).domain && newer (recordOf bytes).epoch (ctxAt s n).fabEpoch
      then 0 else 0x12) = status) :
    ∃ t : State, exec (.fabRecord n ⟨bytes, sigOk⟩) s = .next t ∧ Ended s t n h status ∧
      (ctxAt t n).fabEpoch = (ctxAt s n).fabEpoch := by
  refine ⟨_, fabRecord_taken ht hlen bytes sigOk, ?_⟩
  rw [hstatus]
  generalize judgeRecord s 0 (recordOf bytes) sigOk = t at hctx
  have hst : (ctxAt t n).st = .active := by rw [hctx]; exact ht.2.1
  obtain ⟨k, hcomps, hk⟩ := endCmd_ended h hst status (ctxAt t n).fabEpoch 0
  obtain ⟨-, hepoch, -⟩ := endCmd_keeps h hst status (ctxAt t n).fabEpoch 0
  exact ⟨⟨k, by rw [hcomps, hctx], hk⟩, by rw [hepoch, hctx]⟩

/-- A newer record adopted. -/
theorem fabRecord_adopted (ht : TakesCmd s n 0xC h) (hlen : cmdField h 16 4 ≠ 0) {bytes : List Byte} {sigOk : Bool}
    (hok : recordOk s (recordOf bytes) sigOk = true) (hnew : newer (recordOf bytes).epoch (ctxAt s n).fabEpoch = true)
    (hdomain : bits (ctxAt s n).act.fabId 35 20 = (recordOf bytes).domain) {x : Ctx}
    (hctx : ctxAt (judgeRecord s 0 (recordOf bytes) sigOk) n = x) (hx : x = { ctxAt s n with
      fabEpoch := (recordOf bytes).epoch, record := some (recordOf bytes), fenced := false }) :
    ∃ t : State, exec (.fabRecord n ⟨bytes, sigOk⟩) s = .next t ∧ Ended s t n h 0 ∧
      (ctxAt t n).fabEpoch = (recordOf bytes).epoch ∧ (ctxAt t n).record = some (recordOf bytes) := by
  refine ⟨_, fabRecord_taken ht hlen bytes sigOk, ?_⟩
  rw [if_neg (by simp [hok]), if_pos (by simp [hdomain, hnew])]
  generalize judgeRecord s 0 (recordOf bytes) sigOk = t at hctx
  have hst : (ctxAt t n).st = .active := by rw [hctx, hx]; exact ht.2.1
  obtain ⟨k, hcomps, hk⟩ := endCmd_ended h hst 0 (ctxAt t n).fabEpoch 0
  obtain ⟨-, hepoch, hrecord, -⟩ := endCmd_keeps h hst 0 (ctxAt t n).fabEpoch 0
  exact ⟨⟨k, by rw [hcomps, hctx, hx], hk⟩, by rw [hepoch, hctx, hx], by rw [hrecord, hctx, hx]⟩

/-- A report written to the message store; its command waits for the record. -/
theorem lateReport_written (ht : TakesCmd s n 0xD h)
    (hroom : storeUnits (ctxAt s n).store + (bytesRec 6 0 0 0 (lateBytes (ctxAt s n))).units ≤ 8192) :
    ∃ t : State, ∃ e, exec (.lateReport n) s = .next t ∧ (ctxAt t n).store = (ctxAt s n).store ++ [e] ∧ e.type = 6 ∧
      e.body = (bytesRec 6 0 0 0 (lateBytes (ctxAt s n))).body ∧ (ctxAt t n).comps = (ctxAt s n).comps ∧
      (ctxAt t n).lateComps = (ctxAt s n).lateComps ++ [comp (cmdTag h) h.ring 0 (ctxAt s n).stepNum 0 (cmdNoIrq h)] := by
  let u := startCmd s n h
  let rec_ : MsgRec := { bytesRec 6 0 0 0 (lateBytes (ctxAt u n)) with seq := b2n true }
  have hbytes : lateBytes (ctxAt u n) = lateBytes (ctxAt s n) := by
    simp only [u, startCmd, ctxAt_putCtx]
    rfl
  have hsent : ctxAt (sendLate u n true) n = postRec (ctxAt u n) rec_ := ctxAt_putCtx _ n _
  have hunposted := postRec_unposted (ctxAt u n) rec_
  have hopen : (ctxAt u n).st.closing = false := by
    rw [startCmd_st, ht.2.1]
    rfl
  have hstore : (postRec (ctxAt u n) rec_).store = (ctxAt u n).store ++ [{ rec_ with step := (ctxAt u n).stepNum }] := by
    refine postRec_stored hopen ?_
    simp only [rec_, hbytes]
    simpa [u, startCmd] using hroom
  refine ⟨_, { rec_ with step := (ctxAt u n).stepNum },
    hostCmd_does ht (exec_lateReport n s) (if_neg (Nat.not_lt.2 hroom)), ?_, rfl, ?_, ?_, ?_⟩
  · rw [ctxAt_putCtx, hsent, hstore]
    simp [u, startCmd]
  · simp only [rec_, hbytes]
  · rw [ctxAt_putCtx, hsent]
    refine (congrArg Ctx.comps hunposted :).trans ?_
    simp [u, startCmd, unposted]
  · rw [ctxAt_putCtx, hsent]
    have hlate : (postRec (ctxAt u n) rec_).lateComps = (ctxAt u n).lateComps := (congrArg Ctx.lateComps hunposted :)
    rw [hlate]
    simp [u, startCmd]

end

/-- The claim on the commands that end at once or wait for a boundary. -/
theorem plainHostCommands : Claims.PlainHostCommands := by
  intro s n opc h bytes sigOk ht x r waits
  have hst : (ctxAt s n).st = .active := ht.2.1
  have staged (a : Staged) : waits (stageCmd s n h a) a := by
    obtain ⟨h1, h2, h3, h4, h5, -⟩ := stageCmd_waits s n h a
    exact ⟨h1, h2, h3, h4, h5⟩
  refine ⟨?_, ?_, ?_, ?_, ?_, ?_, ?_, ?_, ?_, ?_⟩
  · rintro rfl
    exact ⟨_, hostCmd_does ht (exec_hostNop n s) rfl, endCmd_answered h hst 0 0 0⟩
  · rintro rfl hlayout
    have hnone : (ctxAt s n).layout = none := hlayout
    exact ⟨_, hostCmd_does ht (exec_reloadScale n s) (if_pos (by simp [hnone])), (failCmd_ended h hst 4).1⟩
  · rintro rfl hlayout
    have hsome : (ctxAt s n).layout ≠ none := hlayout
    exact ⟨_, hostCmd_does ht (exec_reloadScale n s) (if_neg (by simp [hsome])), staged _⟩
  · rintro rfl
    exact ⟨_, hostCmd_does ht (exec_bindPeer n s) rfl, staged _⟩
  · rintro rfl
    exact ⟨_, hostCmd_does ht (exec_setPorts n s) rfl, staged _⟩
  · rintro rfl hlen
    exact ⟨_, fabRecord_empty ht hlen bytes sigOk, endCmd_ended h hst _ _ _, (endCmd_keeps h hst _ _ _).2.1⟩
  · rintro rfl hlen hbad
    refine fabRecord_kept ht hlen ?_ (if_pos (by simp [show recordOk s (recordOf bytes) sigOk = false from hbad]))
    have hcount : judgeRecord s 0 (recordOf bytes) sigOk = bumpPort s 0 21 1 :=
      if_pos (by simp [show recordOk s (recordOf bytes) sigOk = false from hbad])
    rw [hcount]
    rfl
  · rintro rfl hlen hok hstale
    have hok' : recordOk s (recordOf bytes) sigOk = true := hok
    refine fabRecord_kept ht hlen (by rw [judgeRecord_stale hok' hstale]) ?_
    rw [if_neg (by simp [hok']), if_neg]
    simp [show newer (recordOf bytes).epoch (ctxAt s n).fabEpoch = false from hstale n ht.1]
  · rintro rfl hlen hok hnew hdomain hep halone hfenced hmember hone hents
    exact fabRecord_adopted ht hlen hok hnew hdomain
      (judgeRecord_alone ht.1 hok hnew hdomain hep halone hfenced hmember hone hents) rfl
  · rintro rfl hroom
    exact lateReport_written ht hroom

/-! ### Staging (R331, R333, R364, R366) -/

/-- What a command is said to leave when its parts fail alike. -/
def PartsFailed (s t : State) (n : Nat) (h : HCmd) (parts : List Nat) (status : Nat) : Prop :=
  (parts = [] → Ended s t n h status) ∧
  (parts ≠ [] → ∃ k, (ctxAt t n).comps = (ctxAt s n).comps ++ [k] ∧ k.tag = cmdTag h ∧ k.status = 1 ∧ k.partMap = maskOf parts ∧
    k.r0 % 65536 = status)

/-- The completion record of a command with failed parts. -/
def partsComp (v : BitVec 512) (h : HCmd) (bad : List (Nat × Nat)) : Comp :=
  { comp (cmdTag h) h.ring 1 (bits v.toNat 63 16 * 65536 + partStatus bad) (bits v.toNat 127 64) (cmdNoIrq h) with
    partMap := maskOf (bad.map (·.1)) }

section
variable {s : State} {n : Nat} {h : HCmd}

/-- Every part fails alike, and nothing of what was to be staged is kept. -/
theorem failParts_failed (hst : (ctxAt s n).st = .active) (parts : List Nat) {status : Nat} (hlt : status < 65536) :
    PartsFailed s (failParts s n h parts status) n h parts status ∧
    (ctxAt (failParts s n h parts status) n).image = (ctxAt s n).image ∧
    (ctxAt (failParts s n h parts status) n).wpkg = (ctxAt s n).wpkg ∧ (failParts s n h parts status).hbms = s.hbms := by
  cases parts with
  | nil =>
    obtain ⟨hended, himage, hwpkg, -, -, -, hhbms⟩ := failCmd_keeps h hst status
    exact ⟨⟨fun _ => hended, fun hne => absurd rfl hne⟩, himage, hwpkg, hhbms⟩
  | cons b parts =>
    let u := (takeFree (startCmd s n h)).2
    let k := partsComp (takeFree (startCmd s n h)).1 h ((b :: parts).map (fun b => (b, status)))
    have hfail : failParts s n h (b :: parts) status = complete u n k := rfl
    have hctx : ctxAt (complete u n k) n = { ctxAt (startCmd s n h) n with comps := (ctxAt s n).comps ++ [k] } := by
      have hust : (ctxAt u n).st = .active := (startCmd_st s n h).trans hst
      rw [ctxAt_complete_active k hust, ← startCmd_comps s n h]
      rfl
    have hmap : k.partMap = maskOf (b :: parts) := by
      change maskOf (((b :: parts).map (fun b => (b, status))).map (·.1)) = _
      rw [List.map_map]
      exact congrArg maskOf (List.map_id _)
    have hr0 (w : Nat) : (w * 65536 + status) % 65536 = status := by omega
    rw [hfail, PartsFailed, hctx, startCmd, ctxAt_putCtx]
    exact ⟨⟨fun hnil => by simp at hnil, fun _ => ⟨k, rfl, rfl, rfl, hmap, hr0 _⟩⟩, rfl, rfl, rfl⟩

/-- A piece of a package in the midst of its only shard. -/
def pieceTaken (s : State) (n : Nat) (parts : List Nat) (p : WpkgPiece) (len : Nat) (g : Shard) : State :=
  putShard (forEach (parts.filter (fun b => bitAt g.basins b)) (fun s b => hbmWrite s b (g.hbmOff * 65536) p.plain) s) n
    { g with arrived := len, good := maskOf ((bitList 16 g.good).filter (fun b => !parts.contains b)) }

theorem takeShard_begins {parts : List Nat} {p : WpkgPiece} {len : Nat} {g : Shard} (hlen : len ≠ 0) (hshort : len < g.length)
    (hplain : p.plain.length = len) (hmissing : g.missing = 0) (z : Piece) :
    takeShard n parts p g.pkgOff (g.pkgOff + len) z g = { z with s := pieceTaken z.s n parts p len g } := by
  have hupto : min (g.pkgOff + len - g.pkgOff) (g.length + 16) = len := by omega
  have hbytes : (p.plain.drop (g.pkgOff - g.pkgOff)).take (min len g.length - (g.pkgOff - g.pkgOff)) = p.plain := by
    rw [Nat.sub_self, List.drop_zero, List.take_of_length_le (by omega)]
  have hnone : (bitList 16 g.missing).map (fun b => (b, 0x13)) = [] := by
    rw [hmissing]
    decide
  unfold takeShard
  rw [if_neg (by omega)]
  dsimp only
  rw [hupto, hbytes, hnone, List.append_nil, if_neg (by omega), Nat.sub_self, Nat.add_zero, pieceTaken]

/-- A stack after a piece: the bytes of the shard where the piece names its basin. -/
theorem pieceTaken_mem (parts : List Nat) (p : WpkgPiece) (len : Nat) (g : Shard) {b : Nat} (hpart : b ∈ parts)
    (hbasin : bitAt g.basins b = true) (a : Nat) : memGet (hbmAt (pieceTaken s n parts p len g) b).mem a =
      if g.hbmOff * 65536 ≤ a ∧ a < g.hbmOff * 65536 + p.plain.length then nth p.plain (a - g.hbmOff * 65536) 0
      else memGet (hbmAt s b).mem a := by
  have hput : hbmAt (pieceTaken s n parts p len g) b = hbmAt (forEach (parts.filter (fun b => bitAt g.basins b))
    (fun s b => hbmWrite s b (g.hbmOff * 65536) p.plain) s) b := rfl
  have hwrite (t : State) (c : Nat) (a : Nat) : memGet (hbmAt (hbmWrite t c (g.hbmOff * 65536) p.plain) b).mem a =
      if b = c ∧ g.hbmOff * 65536 ≤ a ∧ a < g.hbmOff * 65536 + p.plain.length then nth p.plain (a - g.hbmOff * 65536) 0
      else memGet (hbmAt t b).mem a := by
    rw [hbmWrite]
    by_cases hbc : b = c
    · subst hbc
      rw [hbmAt_putHbm, memGet_memWrite]
      simp
    · rw [hbmAt_putHbm_ne _ _ hbc, if_neg fun h => hbc h.1]
  rw [hput]
  by_cases ha : g.hbmOff * 65536 ≤ a ∧ a < g.hbmOff * 65536 + p.plain.length
  · rw [if_pos ha]
    refine forEach_all (Q := fun c t => b = c → memGet (hbmAt t b).mem a = nth p.plain (a - g.hbmOff * 65536) 0)
      (fun t c _ hbc => ?_) (fun t c d _ hq hbc => ?_) s b (List.mem_filter.2 ⟨hpart, hbasin⟩) rfl
    · rw [hwrite, if_pos ⟨hbc, ha⟩]
    · rw [hwrite]
      split
      · rfl
      · exact hq hbc
  · rw [if_neg ha]
    refine forEach_keeps (fun t => memGet (hbmAt t b).mem a) (fun t c _ => ?_) s
    rw [hwrite, if_neg fun h => ha h.2]

/-- No other stack changes. -/
theorem pieceTaken_hbm_other (parts : List Nat) (p : WpkgPiece) (len : Nat) (g : Shard) {b : Nat}
    (hbasin : bitAt g.basins b = false) : hbmAt (pieceTaken s n parts p len g) b = hbmAt s b := by
  have hput : hbmAt (pieceTaken s n parts p len g) b = hbmAt (forEach (parts.filter (fun b => bitAt g.basins b))
    (fun s b => hbmWrite s b (g.hbmOff * 65536) p.plain) s) b := rfl
  rw [hput]
  refine forEach_keeps (fun t => hbmAt t b) (fun t c hc => ?_) s
  have hne : b ≠ c := by
    rintro rfl
    simp [hbasin] at hc
  exact hbmAt_putHbm_ne _ _ hne

theorem pieceTaken_ctx (parts : List Nat) (p : WpkgPiece) (len : Nat) (g : Shard) :
    (ctxAt (pieceTaken s n parts p len g) n).st = (ctxAt s n).st ∧
    (ctxAt (pieceTaken s n parts p len g) n).comps = (ctxAt s n).comps := by
  have hctx : ctxAt (forEach (parts.filter (fun b => bitAt g.basins b))
      (fun s b => hbmWrite s b (g.hbmOff * 65536) p.plain) s) n = ctxAt s n :=
    forEach_keeps (f := fun s b => hbmWrite s b (g.hbmOff * 65536) p.plain) (fun t => ctxAt t n) (fun _ _ _ => rfl) s
  rw [pieceTaken, putShard, ctxAt_putCtx, hctx]
  exact ⟨rfl, rfl⟩

/-- A later piece of a package, which lies within its one shard. -/
theorem stageWpkg_piece {p : WpkgPiece} {w : Wpkg} {g : Shard} (hlen : cmdField h 24 4 ≠ 0) (hoff : cmdField h 16 8 ≠ 0)
    (hw : (ctxAt s n).wpkg = some w) (hshards : w.shards = [g]) (hmissing : g.missing = 0) (hat : g.pkgOff = cmdField h 16 8)
    (hshort : cmdField h 24 4 < g.length) (hplain : p.plain.length = cmdField h 24 4) :
    stageWpkgNow s n p h =
      endCmd (pieceTaken s n (partsOf s n (cmdField h 28 2)) p (cmdField h 24 4) g) n h 0 0 0 := by
  unfold stageWpkgNow
  dsimp only
  rw [if_neg hlen, if_neg hoff]
  dsimp only
  rw [hw]
  dsimp only
  have hgap : gapBefore w (cmdField h 16 8) = false := by simp [gapBefore, hshards, hat]
  rw [if_neg (by simp [hgap]), hshards, List.foldl_cons, List.foldl_nil, ← hat, takeShard_begins hlen hshort hplain hmissing]
  rfl

/-- A first piece whose envelope does not verify. -/
theorem stageWpkg_refused {p : WpkgPiece} (hlen : cmdField h 24 4 ≠ 0) (hoff : cmdField h 16 8 = 0)
    (hbad : ∀ e, p.env = some e → envOk s e 2 = false) :
    stageWpkgNow s n p h = failParts s n h (partsOf s n (cmdField h 28 2)) 0x16 := by
  have hhead : takePkgHead s n (cmdField h 24 4) p.env = none := by
    cases henv : p.env with
    | none => rfl
    | some e => exact if_neg fun hc => by simp [hbad e henv] at hc
  unfold stageWpkgNow
  dsimp only
  rw [if_neg hlen, if_pos hoff, hhead]

end

/-- The claim on images and weight packages. -/
theorem imagesStaged : Claims.ImagesStaged := by
  intro s n h env p x len parts failed
  refine ⟨fun ht hlen => ?_, fun ht hlen hsize => ?_, fun ht hsize hbad => ?_, fun ht hsize hok hnone => ?_,
    fun ht hlen => ?_, fun ht hlen hoff hbad => ?_, fun w g ht hlen hoff hw hshards hmissing hat hshort hplain => ?_⟩
  · have hst : (ctxAt s n).st = .active := ht.2.1
    refine ⟨_, hostCmd_does ht (exec_stageImage n env s) (if_pos hlen), ?_⟩
    obtain ⟨hans, -, -, himage, -⟩ := endCmd_keeps h hst 0 0 0
    exact ⟨hans, himage⟩
  · have hst : (ctxAt s n).st = .active := ht.2.1
    obtain ⟨hfailed, himage, -⟩ := failParts_failed (h := h) hst parts (status := 0x18) (by decide)
    exact ⟨_, hostCmd_does ht (exec_stageImage n env s) ((if_neg hlen).trans (if_pos hsize)), hfailed, himage⟩
  · have hst : (ctxAt s n).st = .active := ht.2.1
    obtain ⟨hfailed, himage, -⟩ := failParts_failed (h := h) hst parts (status := 0x15) (by decide)
    exact ⟨_, hostCmd_does ht (exec_stageImage n env s) ((if_neg (by omega)).trans
      ((if_neg (not_not.2 hsize)).trans (if_pos (by simp [hbad])))), hfailed, himage⟩
  · have hst : (ctxAt s n).st = .active := ht.2.1
    have himage : (ctxAt s n).image = none := hnone
    let u := putCtx s n { ctxAt s n with image := some { image := fitBytes env.bodyLen env.body, parts := 0 ||| maskOf parts } }
    have hust : (ctxAt u n).st = .active := by rw [ctxAt_putCtx]; exact hst
    have hexec : exec (.stageImage n env) s = .next (endCmd u n h 0 len 0) := by
      refine hostCmd_does ht (exec_stageImage n env s) ((if_neg (by omega)).trans
        ((if_neg (not_not.2 hsize)).trans ((if_neg (by simp [hok])).trans ?_)))
      dsimp only
      rw [himage]
    obtain ⟨hans, -, -, hkept, -⟩ := endCmd_keeps h hust 0 len 0
    refine ⟨_, hexec, ?_, ?_⟩
    · rw [Answered, hans, ctxAt_putCtx]
    · rw [hkept, ctxAt_putCtx, Nat.zero_or]
  · have hst : (ctxAt s n).st = .active := ht.2.1
    obtain ⟨hans, -, -, -, hwpkg, -⟩ := endCmd_keeps h hst 0 0 0
    exact ⟨_, hostCmd_does ht (exec_stageWpkg n p s) (if_pos hlen), hans, hwpkg, rfl⟩
  · have hst : (ctxAt s n).st = .active := ht.2.1
    obtain ⟨hfailed, -, hwpkg, hhbms⟩ := failParts_failed (h := h) hst (partsOf s n (cmdField h 28 2)) (status := 0x16) (by decide)
    exact ⟨_, hostCmd_does ht (exec_stageWpkg n p s) (stageWpkg_refused hlen hoff hbad), hfailed, hwpkg, hhbms⟩
  · have hst : (ctxAt s n).st = .active := ht.2.1
    refine ⟨_, hostCmd_does ht (exec_stageWpkg n p s) (stageWpkg_piece hlen hoff hw hshards hmissing hat hshort hplain), ?_,
      fun b hb hbasin a => ?_, fun b hbasin => ?_⟩
    · obtain ⟨hust, hcomps⟩ := pieceTaken_ctx (s := s) (n := n) (partsOf s n (cmdField h 28 2)) p (cmdField h 24 4) g
      have hans := endCmd_answered h (hust.trans hst) 0 0 0
      rw [Answered, hans, hcomps]
    · rw [hbmAt_endCmd, ← hplain]
      exact pieceTaken_mem (n := n) _ p p.plain.length g hb hbasin a
    · rw [hbmAt_endCmd]
      exact pieceTaken_hbm_other (n := n) _ p (cmdField h 24 4) g hbasin

/-! ### Sessions (R307, R337, R339, R341, R367) -/

/-- The claim on sessions. -/
theorem sessions : Claims.Sessions := by
  intro s n h blob x id opens
  have hopens : opens ↔ ¬ (cmdField h 32 4 ≠ 384 ∨ lcState s.fuse ≠ 2 ∨
      (!(blob.unwraps && blob.sessionId == cmdSession h && blob.zeros && blob.serial == s.fuse.serial)) = true) := by
    simp [opens, id, and_assoc]
  refine ⟨fun ht hno => ?_, fun ht hyes htaken => ?_, fun ht hyes hfree => ?_, fun ht hnone => ?_, fun e ht hfind hclosing => ?_,
    fun e ht hsess hid hopen => ?_⟩
  · obtain ⟨hended, -, -, -, -, hstaged, -⟩ := failCmd_keeps h ht.2.1 0xC
    exact ⟨_, hostCmd_does ht (exec_sessionOpen n blob s) (if_pos (not_not.1 (mt hopens.2 hno))), hended, hstaged⟩
  · obtain ⟨hended, -, -, -, -, hstaged, -⟩ := failCmd_keeps h ht.2.1 8
    exact ⟨_, hostCmd_does ht (exec_sessionOpen n blob s) ((if_neg (hopens.1 hyes)).trans (if_pos htaken)), hended, hstaged⟩
  · obtain ⟨hstaged, hcomps, -, -, -, hsess⟩ := stageCmd_waits s n h
      (.openSess (cmdTag h) h.ring id (cmdField h 12 4) (bitAt (cmdField h 16 1) 0) (cmdNoIrq h))
    have hfree' : ¬ sessTaken (ctxAt s n) (cmdSession h) = true := by simpa [x, id] using hfree
    exact ⟨_, hostCmd_does ht (exec_sessionOpen n blob s) ((if_neg (hopens.1 hyes)).trans (if_neg hfree')), hstaged, hsess, hcomps⟩
  · refine ⟨failCmd s n h 8, hostCmd_does ht (exec_sessionClose n s) ?_, (failCmd_keeps h ht.2.1 8).1⟩
    have hnone' : (ctxAt s n).sessions.find? (fun t => t.id == cmdSession h) = none := hnone
    dsimp only
    rw [hnone']
  · refine ⟨failCmd s n h 9, hostCmd_does ht (exec_sessionClose n s) ?_, (failCmd_keeps h ht.2.1 9).1⟩
    have hfind' : (ctxAt s n).sessions.find? (fun t => t.id == cmdSession h) = some e := hfind
    dsimp only
    rw [hfind']
    exact if_pos (Option.isSome_iff_ne_none.2 hclosing)
  · have hsess' : (ctxAt s n).sessions = [e] := hsess
    have hfind : (ctxAt s n).sessions.find? (fun t => t.id == cmdSession h) = some e := by
      rw [hsess']
      simp [show e.id = cmdSession h from hid]
    have hexec : exec (.sessionClose n) s = .next (putCtx (startCmd s n h) n { ctxAt (startCmd s n h) n with
        sessions := (ctxAt (startCmd s n h) n).sessions.map (fun u =>
          if u.id = e.id then { u with closing := some (cmdTag h, h.ring, cmdNoIrq h) } else u) }) := by
      refine hostCmd_does ht (exec_sessionClose n s) ?_
      dsimp only
      rw [hfind]
      exact if_neg (by simp [hopen])
    refine ⟨_, hexec, ?_⟩
    rw [ctxAt_putCtx, startCmd, ctxAt_putCtx]
    refine ⟨?_, rfl, rfl, rfl⟩
    dsimp only
    rw [hsess', List.map_cons, if_pos rfl, List.map_nil]

/-! ### Requests (R332 to R337, R341, R369, R412) -/

/-- The microbatch that a number names bears it. -/
theorem mbAt_num (x : Ctx) (k : Nat) : (mbAt x k).num = k := by
  unfold mbAt
  cases hfind : x.mbs.find? (fun m => m.num == k) with
  | none => rfl
  | some m => simpa using List.find?_some hfind

/-- The first microbatch of its number is the one put. -/
theorem find?_putMb (l : List Mb) (m : Mb) : (putMb l m).find? (fun g => g.num == m.num) = some m := by
  induction l with
  | nil => simp [putMb]
  | cons g l ih =>
    unfold putMb
    split
    · simp
    · split
      · simp
      · rename_i hne
        rw [List.find?_cons_of_neg (by simpa using fun h => hne h.symm), ih]

section
variable {s : State} {n : Nat} {h : HCmd} {inp : InferIn}

/-- The microbatch of a request that is placed. -/
def mbPlaced (m : Mb) (tokens : Nat) (r : Req) : Mb :=
  { m with reqs := m.reqs ++ [r],
           closed := m.closed || r.flush || decide (tokens ≤ (takenPos { m with reqs := m.reqs ++ [r] }).length) }

theorem ctxAt_placeReq (s : State) (n : Nat) (h : HCmd) (m : Mb) (tokens : Nat) (r : Req) :
    ctxAt (placeReq s n h m tokens r) n = { ctxAt (startCmd s n h) n with
      mbs := putMb (ctxAt s n).mbs (mbPlaced m tokens r),
      sessions := (ctxAt s n).sessions.map (fun t =>
        if t.id = r.session then { t with claimEnd := r.sessPos + r.tokens } else t) } := by
  rw [placeReq, ctxAt_putCtx, startCmd, ctxAt_putCtx]
  rfl

/-- The checks of a request in their order (R332). -/
theorem inferNow_eq {l : Layout} {e : Sess} (hfenced : (ctxAt s n).fenced = false) (hlayout : (ctxAt s n).layout = some l)
    (hsess : (ctxAt s n).sessions.find? (fun t => t.id == cmdSession h) = some e) :
    inferNow s n inp h =
      if l.stopped then failCmd s n h 0x19
      else if l.held then failCmd s n h 5
      else if e.lost then failCmd s n h 0xD
      else if e.closing.isSome then failCmd s n h 9
      else if l.mbTokens < cmdField h 12 2 then failCmd s n h 0xF
      else if cmdField h 12 2 = 0 then endCmd s n h 0 (2 ^ 64 - 1) 0
      else if cmdField h 42 4 < e.claimEnd ∨ inp.tagOk = false then failCmd s n h 7
      else inferPlace s n h inp e l.mbTokens := by
  unfold inferNow
  dsimp only
  rw [if_neg (by simp [hfenced]), hlayout, hsess]

/-- A session that is not open. -/
theorem inferNow_noSession {l : Layout} (hfenced : (ctxAt s n).fenced = false) (hlayout : (ctxAt s n).layout = some l)
    (hsess : (ctxAt s n).sessions.find? (fun t => t.id == cmdSession h) = none) :
    inferNow s n inp h = failCmd s n h (if l.stopped then 0x19 else if l.held then 5 else 8) := by
  unfold inferNow
  dsimp only
  rw [if_neg (by simp [hfenced]), hlayout, hsess]

/-- A pinned request whose place is taken or admitted. -/
theorem inferPlace_missed (t : Sess) {tokens : Nat} (hpin : bitAt (cmdField h 14 1) 0 = true)
    (hmiss : cmdField h 32 8 < (ctxAt s n).nextMb ∨
      posFree (mbAt (ctxAt s n) (cmdField h 32 8)) tokens (cmdField h 40 2) (cmdField h 12 2) = false) :
    inferPlace s n h inp t tokens = failCmd s n h 0xE := by
  unfold inferPlace
  dsimp only
  rw [if_pos hpin, mbAt_num, if_neg]
  rintro ⟨hlate, hfree⟩
  obtain hmiss | hmiss := hmiss
  · omega
  · simp [hmiss] at hfree

/-- A pinned request whose place is free. -/
theorem inferPlace_pinned (t : Sess) {tokens : Nat} (hpin : bitAt (cmdField h 14 1) 0 = true)
    (hlate : (ctxAt s n).nextMb ≤ cmdField h 32 8)
    (hfree : posFree (mbAt (ctxAt s n) (cmdField h 32 8)) tokens (cmdField h 40 2) (cmdField h 12 2) = true) :
    inferPlace s n h inp t tokens =
      placeReq s n h (mbAt (ctxAt s n) (cmdField h 32 8)) tokens (reqOf (ctxAt s n) h inp t (cmdField h 40 2)) := by
  unfold inferPlace
  dsimp only
  rw [if_pos hpin, mbAt_num, if_pos ⟨hlate, hfree⟩]

/-- The open microbatch where none has been placed. -/
def openMb (x : Ctx) : Mb :=
  { num := x.nextMb, step := 0, reqs := [], admitted := false, complete := false, aborted := false, closed := false }

/-- A request where none has been placed takes the first positions. -/
theorem inferPlace_first (t : Sess) {tokens : Nat} (hpin : bitAt (cmdField h 14 1) 0 = false) (hmbs : (ctxAt s n).mbs = [])
    (hpos : 0 < cmdField h 12 2) (hroom : cmdField h 12 2 ≤ tokens) :
    inferPlace s n h inp t tokens = placeReq s n h (openMb (ctxAt s n)) tokens (reqOf (ctxAt s n) h inp t 0) := by
  have hopen : mbAt (ctxAt s n) (ctxAt s n).nextMb = openMb (ctxAt s n) := by
    rw [mbAt, hmbs]
    rfl
  have hfirst : (List.range tokens).find? (fun p => posFree (openMb (ctxAt s n)) tokens p (cmdField h 12 2)) = some 0 := by
    obtain ⟨k, hk⟩ : ∃ k, tokens = k + 1 := ⟨tokens - 1, by omega⟩
    rw [hk, List.range_succ_eq_map]
    refine List.find?_cons_of_pos ?_
    simp only [posFree, openMb, List.all_nil, Bool.and_true, decide_eq_true_eq]
    omega
  unfold inferPlace
  dsimp only
  rw [if_neg (by simp [hpin]), hopen]
  have hclosed : (openMb (ctxAt s n)).closed = false := rfl
  rw [hclosed, if_neg Bool.false_ne_true, hfirst]

end

/-- The claim on requests. -/
theorem requests : Claims.Requests := by
  intro s n h inp ht x cnt ends
  have hst : (ctxAt s n).st = .active := ht.2.1
  have infer {t : State} (hnow : inferNow s n inp h = t) : exec (.infer n inp) s = .next t :=
    hostCmd_does ht (exec_infer n inp s) hnow
  have fails {status : Nat} (hnow : inferNow s n inp h = failCmd s n h status) : ends status := by
    obtain ⟨hended, -, -, hmbs, hsess, -⟩ := failCmd_keeps h hst status
    exact ⟨_, infer hnow, hended, hmbs, hsess⟩
  have early (l : Layout) (hfenced : x.fenced = false) (hlayout : x.layout = some l) {status : Nat}
      (hnone : (if l.stopped then 0x19 else if l.held then 5 else 8) = status)
      (hsome : ∀ e, x.sessions.find? (fun t => t.id == cmdSession h) = some e → inferNow s n inp h = failCmd s n h status) :
      ends status := by
    cases hfind : x.sessions.find? (fun t => t.id == cmdSession h) with
    | none => exact fails ((inferNow_noSession hfenced hlayout hfind).trans (congrArg _ hnone))
    | some e => exact fails (hsome e hfind)
  refine ⟨fun hfenced => fails (if_pos hfenced), fun hfenced hlayout => fails ?_, fun l hfenced hlayout hstopped => ?_,
    fun l hfenced hlayout hstopped hheld => ?_, fun l hfenced hlayout hstopped hheld => ⟨fun hnone => fails ?_, fun e hfind => ?_⟩⟩
  · have hlayout' : (ctxAt s n).layout = none := hlayout
    unfold inferNow
    dsimp only
    rw [if_neg (by simp [show (ctxAt s n).fenced = false from hfenced]), hlayout']
  · refine early l hfenced hlayout (if_pos hstopped) fun e hfind => ?_
    rw [inferNow_eq hfenced hlayout hfind, if_pos hstopped]
  · refine early l hfenced hlayout ((if_neg (by simp [hstopped])).trans (if_pos hheld)) fun e hfind => ?_
    rw [inferNow_eq hfenced hlayout hfind, if_neg (by simp [hstopped]), if_pos hheld]
  · rw [inferNow_noSession hfenced hlayout hnone, hstopped, hheld]
    rfl
  have checks := inferNow_eq (inp := inp) hfenced hlayout hfind
  rw [hstopped, hheld, if_neg Bool.false_ne_true, if_neg Bool.false_ne_true] at checks
  refine ⟨fun hlost => fails ?_, fun hlost hclosing => fails ?_, fun hlost hclosing hlong => fails ?_,
    fun hlost hclosing hzero => ⟨_, infer ?_, endCmd_answered h hst 0 _ 0, (endCmd_keeps h hst 0 (2 ^ 64 - 1) 0).2.2.2.2.2⟩,
    fun hlost hclosing hpos hroom => ?_⟩
  · rw [checks, if_pos hlost]
  · rw [checks, if_neg (by simp [hlost]), if_pos (Option.isSome_iff_ne_none.2 hclosing)]
  · rw [checks, if_neg (by simp [hlost]), if_neg (by simp [hclosing]), if_pos hlong]
  · have hzero' : cmdField h 12 2 = 0 := hzero
    rw [checks, if_neg (by simp [hlost]), if_neg (by simp [hclosing]), if_neg (by omega), if_pos hzero]
  have hpos' : 0 < cmdField h 12 2 := hpos
  have hroom' : cmdField h 12 2 ≤ l.mbTokens := hroom
  rw [if_neg (by simp [hlost]), if_neg (by simp [hclosing]), if_neg (by omega), if_neg (by omega)] at checks
  refine ⟨fun hbad => fails ?_, fun hclaim htag => ?_⟩
  · rw [checks, if_pos hbad]
  rw [if_neg (by rw [htag]; simpa using hclaim)] at checks
  refine ⟨fun hpin hmiss => fails ?_, fun hpin hlate hfree => ⟨_, reqOf x h inp e (cmdField h 40 2),
      infer (checks.trans (inferPlace_pinned e hpin hlate hfree)), ?_⟩,
    fun hpin hmbs => ⟨_, mbPlaced (openMb x) l.mbTokens (reqOf x h inp e 0), reqOf x h inp e 0,
      infer (checks.trans (inferPlace_first e hpin hmbs hpos hroom)), ?_⟩⟩
  · rw [checks, inferPlace_missed e hpin hmiss]
  · rw [ctxAt_placeReq, startCmd, ctxAt_putCtx]
    refine ⟨rfl, ?_, rfl, rfl, rfl, rfl⟩
    have hnum : (mbPlaced (mbAt x (cmdField h 32 8)) l.mbTokens (reqOf x h inp e (cmdField h 40 2))).num = cmdField h 32 8 :=
      mbAt_num x _
    have hput := find?_putMb x.mbs (mbPlaced (mbAt x (cmdField h 32 8)) l.mbTokens (reqOf x h inp e (cmdField h 40 2)))
    rw [hnum] at hput
    have hget {y : Ctx} (hy : y.mbs = putMb x.mbs (mbPlaced (mbAt x (cmdField h 32 8)) l.mbTokens
        (reqOf x h inp e (cmdField h 40 2)))) : mbAt y (cmdField h 32 8) =
          mbPlaced (mbAt x (cmdField h 32 8)) l.mbTokens (reqOf x h inp e (cmdField h 40 2)) := by
      rw [mbAt, hy, hput, Option.getD_some]
    rw [hget rfl]
    rfl
  · have hmbs' : (ctxAt s n).mbs = [] := hmbs
    rw [ctxAt_placeReq, startCmd, ctxAt_putCtx, hmbs']
    refine ⟨rfl, rfl, rfl, rfl, rfl, rfl, rfl, ?_, fun hsess => ?_⟩
    · have htaken : (takenPos { openMb (ctxAt s n) with reqs := [reqOf (ctxAt s n) h inp e 0] }).length = cmdField h 12 2 := by
        simp [takenPos, reqOf]
      have hclosed : (mbPlaced (openMb (ctxAt s n)) l.mbTokens (reqOf (ctxAt s n) h inp e 0)).closed =
          (bitAt (cmdField h 14 1) 1 || decide (l.mbTokens ≤ cmdField h 12 2)) := by
        rw [← htaken]
        rfl
      rw [hclosed, Bool.or_eq_true, decide_eq_true_eq]
      exact or_congr_right ⟨fun hfull => Nat.le_antisymm hroom' hfull, fun hfull => Nat.le_of_eq hfull.symm⟩
    · have hsess' : (ctxAt s n).sessions = [e] := hsess
      have hfound : e.id = cmdSession h := by simpa using List.find?_some hfind
      have hid : e.id = (reqOf (ctxAt s n) h inp e 0).session := hfound
      dsimp only
      rw [hsess', List.map_cons, if_pos hid, List.map_nil]
      rfl

/-- Settles O44: the commands that end at once or wait, staging, requests, and sessions. -/
theorem hostCommands : Obligations.HostCommands := ⟨plainHostCommands, imagesStaged, requests, sessions⟩

end Sys2Proof.Machine

/-! PROOFS. Streamers: descriptors that start, line requests, and the beats that they deliver (O24). -/

namespace Sys2Proof.Machine

/-- A command of a live core without effects beyond it. -/
theorem runLive_does {s : State} {k : Nat} (hk : k < nCores) (hlive : (coreAt s k).held = false)
    {c : Host.Outcome State Fault Refusal} {f : State → Core → Core × List Ev} (hc : c = runLive k f s) {d : Core}
    (hf : f s (coreAt s k) = (d, [])) : c = .next (putCore s k d) := by
  rw [hc, runLive_next f s hk hlive, hf, applyEvs_nil]

/-! ### The descriptor in generation (R150) -/

theorem find?_made {ahead rest : List SdEnt} {e : SdEnt} (hahead : ∀ a ∈ ahead, a.made = true) (he : e.made = false) :
    (ahead ++ e :: rest).find? (fun e => !e.made) = some e := by
  rw [List.find?_append, List.find?_eq_none.2 (by simpa using hahead), List.find?_cons_of_pos (by simp [he])]
  rfl

theorem putGen_made (f : SdEnt → SdEnt) {ahead rest : List SdEnt} {e : SdEnt} (hahead : ∀ a ∈ ahead, a.made = true)
    (he : e.made = false) : putGen f (ahead ++ e :: rest) = ahead ++ f e :: rest := by
  induction ahead with
  | nil => exact if_neg (by simp [he])
  | cons a ahead ih =>
    have ha : a.made = true := hahead a (.head _)
    exact (if_pos ha).trans (congrArg _ (ih fun b hb => hahead b (.tail _ hb)))

section
variable {c : Core} {u : Nat} {e : SdEnt} {ahead rest : List SdEnt}
  (hq : (strmAt c u).q = ahead ++ e :: rest) (hahead : ∀ a ∈ ahead, a.made = true) (hmade : e.made = false)
include hq hahead hmade

theorem genEnt_made : genEnt (strmAt c u) = some e := by rw [genEnt, hq, find?_made hahead hmade]

/-- The next descriptor to begin. -/
theorem sdHead_made (hbegun : e.begun = false) : sdHead c u (sdOpc e.d) = some e := by
  rw [sdHead, genEnt_made hq hahead hmade]
  simp [hbegun]

/-- A LOAD or STORE that moves bytes begins. -/
theorem sdStart_begins (s : State) (hbegun : e.begun = false) (hbytes : sdEmpty e.d = false) : sdStart s c u (sdOpc e.d) =
    (putStrm c u { strmAt c u with q := ahead ++ { e with begun := true } :: rest }, []) := by
  unfold sdStart
  rw [sdHead_made hq hahead hmade hbegun]
  dsimp only
  rw [if_neg (by simp [hbytes]), hq, putGen_made _ hahead hmade]

/-- One that moves nothing has no requests to make. -/
theorem sdStart_empty (s : State) (hbegun : e.begun = false) (hbytes : sdEmpty e.d = true) : sdStart s c u (sdOpc e.d) =
    (settle s (putStrm c u (genMade (strmAt c u) id)) u, []) := by
  unfold sdStart
  rw [sdHead_made hq hahead hmade hbegun]
  exact if_pos hbytes

end

/-! ### Descriptors that end (R138, R151) -/

/-- What the end of a descriptor leaves of its core: the port FIFOs, the packets offered, the bytes. -/
theorem settle_view {α : Type} (g : Core → α) (hstrm : ∀ c u x, g (putStrm c u x) = g c)
    (hpop : ∀ s c u e, g (sdPop s c u e) = g c) (s : State) (c : Core) (u : Nat) : g (settle s c u) = g c := by
  have hends (n : Nat) : ∀ c, g (sdEnds s u n c) = g c := by
    induction n with
    | zero => exact fun _ => rfl
    | succ n ih =>
      intro c
      unfold sdEnds
      dsimp only
      split
      · rfl
      · split
        · rw [ih, hpop]
        · rfl
  unfold settle
  dsimp only
  split
  · split
    · exact hstrm ..
    · rfl
  · exact hends _ c

theorem fifoOf_sdPop (s : State) (c : Core) (u : Nat) (e : SdEnt) (p : Nat) : fifoOf (sdPop s c u e) p = fifoOf c p := by
  unfold sdPop
  dsimp only
  split <;> rfl

theorem fifoOf_settle (s : State) (c : Core) (u p : Nat) : fifoOf (settle s c u) p = fifoOf c p :=
  settle_view (fun c => fifoOf c p) (fun _ _ _ => rfl) (fun s c u e => fifoOf_sdPop s c u e p) s c u

/-- A descriptor with requests left to make is not at its end. -/
theorem headDone_unmade {x : Strm} {e : SdEnt} (h : e.made = false) : headDone x e = false := by simp [headDone, h]

/-- The head of a queue ends once it has nothing left, and the next one has requests to make: it counts for its slot. -/
theorem settle_ends (s : State) {c : Core} {u : Nat} {e : SdEnt} {rest : List SdEnt} (hu : u ≤ 2)
    (hq : (strmAt c u).q = e :: rest) (hdone : headDone (strmAt c u) e = true) (hnext : ∀ r ∈ rest, r.made = false) :
    settle s c u = sdPop s c u e := by
  have hafter (n : Nat) : sdEnds s u n (sdPop s c u e) = sdPop s c u e := by
    have hq' : (strmAt (sdPop s c u e) u).q = rest := by
      unfold sdPop
      dsimp only
      split
      · rw [strmAt_putStrm, hq, List.drop_one, List.tail_cons]
      · exact (congrArg Strm.q (strmAt_putStrm _ u _)).trans (by rw [hq, List.drop_one, List.tail_cons])
    cases n with
    | zero => rfl
    | succ n =>
      unfold sdEnds
      dsimp only
      rw [hq']
      cases rest with
      | nil => rfl
      | cons r rest => exact if_neg (by simp [headDone_unmade (hnext r (.head _))])
  rw [settle, if_neg (by omega), hq, List.length_cons, sdEnds, hq]
  dsimp only
  rw [if_pos hdone, hafter]

/-- A descriptor that moves nothing, with nothing ahead of it, completes. -/
theorem genMade_completes (s : State) {c : Core} {u : Nat} {e : SdEnt} {rest : List SdEnt} (hu : u ≤ 2)
    (hq : (strmAt c u).q = e :: rest) (hmade : e.made = false) (hreqs : (strmAt c u).reqs = []) (hbuf : (strmAt c u).buf = [])
    (hbroken : e.broken = false) (hcut : e.cut = false) (hnext : ∀ r ∈ rest, r.made = false) :
    let d := settle s (putStrm c u (genMade (strmAt c u) id)) u
    (strmAt d u).q = rest ∧ doneAt (slotAt d e.slot) (2 + u) = doneAt (slotAt c e.slot) (2 + u) + 1 ∧ d.mem = c.mem := by
  intro d
  let x : Strm := { strmAt c u with q := { e with begun := true, made := true } :: rest, chunk := 0, pos := 0 }
  have hx : genMade (strmAt c u) id = x := by
    rw [genMade, hq]
    exact congrArg (fun q => { strmAt c u with q := q, chunk := 0, pos := 0 })
      (putGen_made (ahead := []) _ (by simp) hmade)
  have hd : d = sdPop s (putStrm c u x) u { e with begun := true, made := true } := by
    simp only [d, hx]
    refine settle_ends s hu (by rw [strmAt_putStrm]) ?_ hnext
    rw [strmAt_putStrm]
    simp [headDone, x, hcut, hreqs, hbuf]
  rw [hd, sdPop]
  dsimp only
  rw [if_neg (by simp [hbroken])]
  refine ⟨(congrArg Strm.q (strmAt_putStrm _ u _)).trans ?_, ?_, rfl⟩
  · rw [strmAt_putStrm]
    rfl
  · exact doneAt_bumpDone (putStrm c u x) e.slot (2 + u)

/-- The claim on descriptors that start. -/
theorem streamerStarts : Claims.StreamerStarts := by
  intro s k u e ahead rest hk hu c x started done idle hlive hq hahead hmade hbegun
  have hq' : (strmAt (coreAt s k) u).q = ahead ++ e :: rest := hq
  have ends (hidle : idle) : done (settle s (putStrm (coreAt s k) u (genMade (strmAt (coreAt s k) u) id)) u) := by
    obtain ⟨rfl, hreqs, hbuf, hbroken, hcut, hnext⟩ := hidle
    exact genMade_completes s hu hq' hmade hreqs hbuf hbroken hcut hnext
  refine ⟨fun hopc hidle => ⟨_, runLive_does hk hlive (exec_sdNop k u s) ?_, ends hidle⟩, fun hopc hbytes => ?_,
    fun hopc hbytes hidle => ⟨_, runLive_does hk hlive (exec_load k u s) ?_, ends hidle⟩, fun hu2 hopc hbytes => ?_,
    fun hu2 hopc hbytes hidle => ?_⟩
  · have hhead := sdHead_made hq' hahead hmade hbegun
    rw [hopc] at hhead
    rw [hhead]
  · have hstart := sdStart_begins hq' hahead hmade s hbegun hbytes
    rw [hopc] at hstart
    exact runLive_does hk hlive (exec_load k u s) hstart
  · have hstart := sdStart_empty hq' hahead hmade s hbegun hbytes
    rw [hopc] at hstart
    exact hstart
  · subst hu2
    have hstart := sdStart_begins hq' hahead hmade s hbegun hbytes
    rw [hopc] at hstart
    exact runLive_does hk hlive (exec_store k s) hstart
  · subst hu2
    have hstart := sdStart_empty hq' hahead hmade s hbegun hbytes
    rw [hopc] at hstart
    exact ⟨_, runLive_does hk hlive (exec_store k s) hstart, ends hidle⟩

/-! ### Line requests (R137 to R139, R146, R150, R220) -/

/-- The request that a streamer makes next of a linear LOAD. -/
def lineReq (c : Core) (u : Nat) (e : SdEnt) : LineReq :=
  let x := strmAt c u
  let o := (chunkOff e.d x.chunk).toNat + x.pos
  let n := min (64 - o % 64) (sdChunk e.d - x.pos)
  { id := x.nextId, space := sdSpace e.d,
    addr := if sdSpace e.d = 0 then winBase (windowOf c e.slot) + o else sdAddr e.d / 2 ^ 36 * 2 ^ 36 + o,
    len := n, write := false, wdata := [], data := none, refused := 0, lastOfChunk := decide (sdChunk e.d ≤ x.pos + n),
    ser := genSer x, xp := false }

/-- Progress past a piece leaves the requests of the streamer, the packets, the bytes and the slots. -/
theorem stepPiece_frame (c : Core) (u : Nat) (e : SdEnt) (len : Nat) (last : Bool) :
    (strmAt (stepPiece c u e len last) u).reqs = (strmAt c u).reqs ∧ (stepPiece c u e len last).inj = c.inj ∧
    (stepPiece c u e len last).mem = c.mem ∧ (stepPiece c u e len last).slots = c.slots ∧
    (strmAt (stepPiece c u e len last) u).ser = (strmAt c u).ser ∧ (strmAt (stepPiece c u e len last) u).buf = (strmAt c u).buf ∧
    ((strmAt (stepPiece c u e len last) u).q = (strmAt c u).q ∨
      (strmAt (stepPiece c u e len last) u).q = putGen (fun e => { e with begun := true, made := true }) (strmAt c u).q) := by
  unfold stepPiece
  dsimp only
  split
  · rw [strmAt_putStrm]
    exact ⟨rfl, rfl, rfl, rfl, rfl, rfl, .inl rfl⟩
  · split
    · rw [strmAt_putStrm]
      exact ⟨rfl, rfl, rfl, rfl, rfl, rfl, .inr rfl⟩
    · rw [strmAt_putStrm]
      exact ⟨rfl, rfl, rfl, rfl, rfl, rfl, .inl rfl⟩

/-- A streamer with one request more. -/
def withReq (x : Strm) (q : LineReq) : Strm := { x with reqs := x.reqs ++ [q], nextId := (x.nextId + 1) % 1024 }

/-- A core whose streamer has sent its next request. -/
def lineSent (s : State) (k : Nat) (c : Core) (u : Nat) (e : SdEnt) : Core :=
  sendLine s k c u e.slot false (sdSpace e.d) (lineReq c u e).addr (lineReq c u e).len (lineReq c u e).lastOfChunk [] false
    (wholeOf e (strmAt c u).chunk)

section
variable (s : State) (k : Nat) (c : Core) {u : Nat} (e : SdEnt)

/-- A request for the core's own scratchpad stays in the core. -/
theorem lineSent_own (hu : u ≤ 2) (h : sdSpace e.d = 0) :
    lineSent s k c u e = putStrm c u (withReq (strmAt c u) (lineReq c u e)) := by
  unfold lineSent sendLine
  dsimp only
  rw [if_pos h, if_neg (by omega : ¬ 3 ≤ u)]
  rfl

/-- A request for HBM offers its packet to the mesh. -/
theorem lineSent_mesh (hu : u ≤ 2) (h : sdSpace e.d = 2) : ∃ p, lineSent s k c u e =
      { putStrm c u (withReq (strmAt c u) (lineReq c u e)) with inj := c.inj ++ [p] } ∧
    p.kind = 0 ∧ p.dtype = 2 ∧ p.dst = bits (lineReq c u e).addr 39 36 ∧ p.addr = bits (lineReq c u e).addr 35 0 ∧
    p.len = (lineReq c u e).len ∧ p.srcCore = k := by
  unfold lineSent sendLine
  dsimp only
  rw [if_neg (by omega : ¬ sdSpace e.d = 0), if_neg (by omega : ¬ 3 ≤ u)]
  refine ⟨_, rfl, rfl, ?_, ?_, ?_, rfl, rfl⟩ <;> simp [linePkt, h]

theorem strmAt_lineSent (hu : u ≤ 2) (h : sdSpace e.d = 0 ∨ sdSpace e.d = 2) :
    strmAt (lineSent s k c u e) u = withReq (strmAt c u) (lineReq c u e) := by
  obtain h | h := h
  · rw [lineSent_own s k c e hu h, strmAt_putStrm]
  · obtain ⟨p, hp, -⟩ := lineSent_mesh s k c e hu h
    rw [hp]
    exact strmAt_putStrm c u _

/-- The line of a linear LOAD that nothing turns away. -/
theorem sdLine_sent (hload : sdOpc e.d = 1) (hlinear : sdMode e.d = 0) (hspace : sdSpace e.d = 0 ∨ sdSpace e.d = 2)
    (hreplay : c.replay = none)
    (hbanks : sdSpace e.d = 0 → banksOn c (lineReq c u e).addr (lineReq c u e).len = true)
    (hrange : sdSpace e.d = 2 → (chunkOff e.d (strmAt c u).chunk).toNat + (strmAt c u).pos + (lineReq c u e).len ≤ 2 ^ 36) :
    sdLine s k c u e (nextPiece e.d (strmAt c u).chunk (strmAt c u).pos) [] =
      (stepPiece (lineSent s k c u e) u e (lineReq c u e).len (lineReq c u e).lastOfChunk, []) := by
  have hpiece : nextPiece e.d (strmAt c u).chunk (strmAt c u).pos =
      ((chunkOff e.d (strmAt c u).chunk).toNat + (strmAt c u).pos, (lineReq c u e).len, (lineReq c u e).lastOfChunk) :=
    if_pos hlinear
  have haddr : (if sdSpace e.d = 0 then localAddr c e.slot ((chunkOff e.d (strmAt c u).chunk).toNat + (strmAt c u).pos)
      else sdAddr e.d / 2 ^ offBits e.d * 2 ^ offBits e.d + ((chunkOff e.d (strmAt c u).chunk).toNat + (strmAt c u).pos)) =
      (lineReq c u e).addr := by
    obtain h | h := hspace
    · simp [lineReq, h, localAddr]
    · simp [lineReq, h, offBits]
  rw [hpiece]
  unfold sdLine
  dsimp only
  rw [haddr, if_neg (by simp [hreplay]), if_neg fun h => by simp [hbanks h.1] at h]
  rw [if_neg]
  · rw [hload, hlinear]
    rfl
  · rintro ⟨hne, hout⟩
    have h2 : sdSpace e.d = 2 := hspace.resolve_left hne
    have hbits : offBits e.d = 36 := by simp [offBits, h2]
    rw [hbits] at hout
    have := hrange h2
    omega

end

/-- Without a check in hand a chunk is not logged. -/
theorem logFor_unchecked {c : Core} (h : c.check = none) (f : Nat) (g : CheckLog → CheckLog) : logFor c f g = c := by
  rw [logFor, h]

section
variable {s : State} {k u : Nat} {c : Core} {e : SdEnt}

/-- A streamer makes its next request where nothing holds it back. -/
theorem strmRequest_sent (hload : sdOpc e.d = 1) (hlinear : sdMode e.d = 0) (hspace : sdSpace e.d = 0 ∨ sdSpace e.d = 2)
    (hreplay : c.replay = none) (hcheck : c.check = none)
    (hchunk : (strmAt c u).pos = 0 → chunkFault c e (strmAt c u).chunk = none) (hdepth : linesOut (strmAt c u) < sdDepth e.d)
    (hroom : beatsOut (strmAt c u) (sdPort e.d) + (fifoOf c (sdPort e.d)).length ≤ 16)
    (hbanks : sdSpace e.d = 0 → banksOn c (lineReq c u e).addr (lineReq c u e).len = true)
    (hrange : sdSpace e.d = 2 → (chunkOff e.d (strmAt c u).chunk).toNat + (strmAt c u).pos + (lineReq c u e).len ≤ 2 ^ 36) :
    strmRequest s k c u e = (stepPiece (lineSent s k c u e) u e (lineReq c u e).len (lineReq c u e).lastOfChunk, []) := by
  have hfault : (if (strmAt c u).pos = 0 then chunkFault c e (strmAt c u).chunk else none) = none := by
    split
    · exact hchunk ‹_›
    · rfl
  have hlog : (if (strmAt c u).pos = 0 then logChunk c u e (strmAt c u).chunk else c) = c := by
    rw [logChunk, logFor_unchecked hcheck, ite_self]
  unfold strmRequest
  dsimp only
  rw [hfault]
  dsimp only
  rw [if_neg (by omega), if_pos hload, if_pos hlinear, hlog, if_neg (by simpa using hroom),
    sdLine_sent s k c e hload hlinear hspace hreplay hbanks hrange]

/-- A request that is outstanding keeps its own descriptor, and it keeps no other descriptor from what it was. -/
theorem headDone_withReq {x : Strm} {q : LineReq} (hdata : q.data = none) (h : SdEnt)
    (hopen : q.ser = x.ser ∨ headDone x h = false) : headDone (withReq x q) h = false := by
  by_cases hser : q.ser = x.ser
  · have hmem : q ∈ (withReq x q).reqs.filter (fun r => r.ser == (withReq x q).ser) := by
      simp [withReq, hser]
    have hall : ((withReq x q).reqs.filter (fun r => r.ser == (withReq x q).ser)).all (fun r => r.data.isSome) = false := by
      rw [List.all_eq_false]
      exact ⟨q, hmem, by simp [hdata]⟩
    have hempty : ((withReq x q).reqs.filter (fun r => r.ser == (withReq x q).ser)).isEmpty = false :=
      List.isEmpty_eq_false_iff_exists_mem.2 ⟨q, hmem⟩
    unfold headDone
    dsimp only
    rw [hall, hempty]
    simp
  · have hown : (withReq x q).reqs.filter (fun r => r.ser == (withReq x q).ser) = x.reqs.filter (fun r => r.ser == x.ser) := by
      simp [withReq, hser]
    have hsame : headDone (withReq x q) h = headDone x h := by
      unfold headDone
      rw [hown]
      rfl
    rw [hsame]
    exact hopen.resolve_left hser

/-- Its requests, its bytes and its serial number decide whether the head of a streamer has ended. -/
theorem headDone_congr {x y : Strm} (hreqs : x.reqs = y.reqs) (hbuf : x.buf = y.buf) (hser : x.ser = y.ser) (h : SdEnt) :
    headDone x h = headDone y h := by
  unfold headDone
  rw [hreqs, hbuf, hser]

/-- The head of a queue whose next request has been made: it has not ended. -/
theorem settle_requested (s : State) {c r : Core} {u : Nat} {e : SdEnt} (hu : u ≤ 2) (hgen : genEnt (strmAt c u) = some e)
    (hopen : ∀ h l, (strmAt c u).q = h :: l → headDone (strmAt c u) h = false) {q : LineReq} (hdata : q.data = none)
    (hser : q.ser = genSer (strmAt c u)) (hreqs : (strmAt r u).reqs = (withReq (strmAt c u) q).reqs)
    (hbuf : (strmAt r u).buf = (strmAt c u).buf) (hserial : (strmAt r u).ser = (strmAt c u).ser)
    (hq : (strmAt r u).q = (strmAt c u).q ∨
      (strmAt r u).q = putGen (fun e => { e with begun := true, made := true }) (strmAt c u).q) : settle s r u = r := by
  have hdone (h : SdEnt) : headDone (strmAt r u) h = headDone (withReq (strmAt c u) q) h := headDone_congr hreqs hbuf hserial h
  rw [settle, if_neg (by omega)]
  cases hqr : (strmAt r u).q with
  | nil => rfl
  | cons h l =>
    rw [List.length_cons, sdEnds, hqr]
    dsimp only
    refine if_neg ?_
    rw [hdone]
    cases hqc : (strmAt c u).q with
    | nil => simp [genEnt, hqc] at hgen
    | cons g m =>
      have hg : headDone (strmAt c u) g = false := hopen g m hqc
      by_cases hgm : g.made = true
      · have hhead : h = g := by
          obtain hq | hq := hq
          · rw [hqr, hqc] at hq
            exact (List.cons.inj hq).1
          · rw [hqr, hqc, putGen, if_pos hgm] at hq
            exact (List.cons.inj hq).1
        rw [hhead, headDone_withReq hdata g (.inr hg)]
        exact Bool.false_ne_true
      · have hfirst : q.ser = (strmAt c u).ser := by
          rw [hser, genSer, hqc]
          simp [hgm]
        rw [headDone_withReq hdata h (.inl hfirst)]
        exact Bool.false_ne_true

end

/-- The claim on line requests. -/
theorem streamerRequests : Claims.StreamerRequests := by
  intro s k u e hk hu c x d o n a q hlive hreplay hcheck hgen hbegun hopen hload hlinear hspace hchunk hdepth hroom hbanks hrange
  have hsent := strmRequest_sent (s := s) (k := k) (u := u) (c := coreAt s k) hload hlinear hspace hreplay hcheck hchunk hdepth
    hroom hbanks hrange
  have hreq := strmAt_lineSent s k (coreAt s k) (u := u) e (by omega) hspace
  obtain ⟨hreqs, hinj, hmem, hslots, hser, hbuf, hq⟩ := stepPiece_frame (lineSent s k (coreAt s k) u e) u e
    (lineReq (coreAt s k) u e).len (lineReq (coreAt s k) u e).lastOfChunk
  rw [hreq] at hreqs hser hbuf hq
  have hsettle := settle_requested s (c := coreAt s k) (u := u) (by omega) hgen hopen (q := lineReq (coreAt s k) u e) rfl rfl
    hreqs hbuf hser hq
  refine ⟨stepPiece (lineSent s k (coreAt s k) u e) u e (lineReq (coreAt s k) u e).len (lineReq (coreAt s k) u e).lastOfChunk,
    runLive_does hk hlive (exec_streamerRequest k u s) ?_, hreqs, fun h0 => ?_, fun h2 => ?_, ?_, ?_⟩
  · have hgen' : genEnt (strmAt (coreAt s k) u) = some e := hgen
    dsimp only
    rw [if_neg (by omega), hgen']
    dsimp only
    rw [if_neg (by simp [hbegun]), hsent, hsettle]
  · rw [hinj, lineSent_own s k (coreAt s k) e (by omega) h0]
    rfl
  · obtain ⟨p, hp, hfields⟩ := lineSent_mesh s k (coreAt s k) (u := u) e (by omega) h2
    exact ⟨p, by rw [hinj, hp], hfields⟩
  · rw [hmem]
    obtain h | h := hspace
    · rw [lineSent_own s k (coreAt s k) e (by omega) h]
      rfl
    · obtain ⟨p, hp, -⟩ := lineSent_mesh s k (coreAt s k) (u := u) e (by omega) h
      rw [hp]
      rfl
  · rw [hslots]
    obtain h | h := hspace
    · rw [lineSent_own s k (coreAt s k) e (by omega) h]
      rfl
    · obtain ⟨p, hp, -⟩ := lineSent_mesh s k (coreAt s k) (u := u) e (by omega) h
      rw [hp]
      rfl

/-! ### Beats (R38, R95, R147, R158, R388) -/

theorem fifoOf_pushFifo (c : Core) {p q : Nat} (b : Beat) (hp : p ≤ 3) (hq : q ≤ 3) :
    fifoOf (pushFifo c p b) q = if q = p then fifoOf c q ++ [b] else fifoOf c q := by
  interval_cases p <;> interval_cases q <;> rfl

theorem pushFifo_mem (c : Core) (p : Nat) (b : Beat) : (pushFifo c p b).mem = c.mem := by
  unfold pushFifo
  split <;> rfl

theorem fifoOf_bumpStrm (c : Core) (u j p : Nat) : fifoOf (bumpStrm c u j) p = fifoOf c p := by
  unfold bumpStrm
  split <;> rfl

/-- A beat that enters the check log changes nothing else of the core. -/
theorem logArrive_frame (c : Core) (u : Nat) (b : Beat) : logArrive c u b = { c with check := (logArrive c u b).check } := by
  have hbeat (f p : Nat) : logBeat c f p b = { c with check := (logBeat c f p b).check } := by
    unfold logBeat
    split
    · rfl
    · exact logFor_frame c f _
  unfold logArrive
  dsimp only
  split
  · exact hbeat _ _
  · split
    · rfl
    · split
      · exact hbeat _ _
      · rfl

theorem fifoOf_logArrive (c : Core) (u : Nat) (b : Beat) (p : Nat) : fifoOf (logArrive c u b) p = fifoOf c p := by
  rw [logArrive_frame]
  rfl

theorem logArrive_mem (c : Core) (u : Nat) (b : Beat) : (logArrive c u b).mem = c.mem := by rw [logArrive_frame]

/-- Descriptors that end leave no bytes behind. -/
theorem buf_settle (s : State) {c : Core} {u : Nat} (h : (strmAt c u).buf = []) : (strmAt (settle s c u) u).buf = [] := by
  have hpop (c : Core) (e : SdEnt) : (strmAt (sdPop s c u e) u).buf = [] := by
    unfold sdPop
    dsimp only
    split
    · rw [strmAt_putStrm]
    · exact congrArg Strm.buf (strmAt_putStrm _ u _)
  have hends (n : Nat) : ∀ c : Core, (strmAt c u).buf = [] → (strmAt (sdEnds s u n c) u).buf = [] := by
    induction n with
    | zero => exact fun _ h => h
    | succ n ih =>
      intro c h
      unfold sdEnds
      dsimp only
      split
      · exact h
      · split
        · exact ih _ (hpop ..)
        · exact h
  unfold settle
  dsimp only
  split
  · split
    · rw [strmAt_putStrm]
      exact h
    · exact h
  · exact hends _ c h

section
variable {s : State} {k p u : Nat} {c : Core} {e : SdEnt} {rest : List SdEnt}
  (hu : u ≤ 1) (hq : (strmAt c u).q = e :: rest) (hbegun : e.begun = true) (hport : sdPort e.d = p)
  (hfull : (strmAt c u).buf.length = sdFill e.d) (hbytes : 0 < (strmAt c u).buf.length)
include hu hq

theorem feeds_head (hbegun : e.begun = true) (hport : sdPort e.d = p) : feeds c u p u = true := by
  unfold feeds
  dsimp only
  rw [if_pos (by omega), hq]
  simp [hbegun, hport]

include hfull hbytes

/-- The bytes at hand that fill a beat. -/
theorem nextBeat_full : nextBeat c u =
    some (beatOf u (strmAt c u).buf, { strmAt c u with buf := [] }) := by
  have hhead : headSd (strmAt c u) = e.d := by rw [headSd, hq]
  have hpull (n : Nat) : pullLines e.d (sdFill e.d) n (strmAt c u) = strmAt c u := by
    cases n with
    | zero => rfl
    | succ n => exact if_pos hfull.ge
  have hload : decide (3 ≤ u) = false := decide_eq_false (by omega)
  unfold nextBeat
  dsimp only
  rw [hload, hhead]
  simp only [Bool.false_eq_true, if_false]
  rw [hpull, if_neg (by omega), if_pos hfull.ge, ← hfull, List.take_length, List.drop_length]

include hbegun hport

theorem beatArrive_enters (hp : p ≤ 3) (hroom : (fifoOf c p).length < 16) : beatArrive s k c p u =
    (settle s (putStrm (logArrive (bumpStrm (pushFifo c p (beatOf u (strmAt c u).buf)) u 0) u (beatOf u (strmAt c u).buf)) u
      { strmAt c u with
        buf := [], tainted := (strmAt c u).tainted || (beatOf u (strmAt c u).buf).poison }) u, []) := by
  have hsrc : unitOfSrc p u = u := if_pos (by omega)
  unfold beatArrive
  dsimp only
  rw [hsrc, feeds_head hu hq hbegun hport, nextBeat_full hu hq hfull hbytes]
  dsimp only
  rw [if_neg (by simp), if_neg (by omega), if_neg (by omega)]

theorem beatArrive_waits (hp : p ≤ 3) (hroom : 16 ≤ (fifoOf c p).length) :
    beatArrive s k c p u = (bumpStrm c u 1, []) := by
  have hsrc : unitOfSrc p u = u := if_pos (by omega)
  unfold beatArrive
  dsimp only
  rw [hsrc, feeds_head hu hq hbegun hport, nextBeat_full hu hq hfull hbytes]
  dsimp only
  rw [if_neg (by simp), if_neg (by omega), if_pos hroom]

end

/-- The claim on beats. -/
theorem operandBeats : Claims.OperandBeats := by
  intro s k p u hk hp hu c x hlive
  refine ⟨fun e rest hreplay hq hbegun hport hfull hbytes => ⟨fun hroom => ?_, fun hroom => ?_⟩,
    fun src b log rest hreplay hsrc hbeat hroom => ?_⟩
  · let b := beatOf u (strmAt (coreAt s k) u).buf
    let c1 := logArrive (bumpStrm (pushFifo (coreAt s k) p b) u 0) u b
    let y : Strm := { strmAt (coreAt s k) u with buf := [], tainted := (strmAt (coreAt s k) u).tainted || b.poison }
    have hfifo {q : Nat} (hq3 : q ≤ 3) : fifoOf (settle s (putStrm c1 u y) u) q =
        if q = p then fifoOf (coreAt s k) q ++ [b] else fifoOf (coreAt s k) q := by
      rw [fifoOf_settle]
      change fifoOf c1 q = _
      rw [fifoOf_logArrive, fifoOf_bumpStrm, fifoOf_pushFifo _ _ hp hq3]
    have hreplay' : (coreAt s k).replay = none := hreplay
    refine ⟨settle s (putStrm c1 u y) u, runLive_does hk hlive (exec_operandBeatArrive k p u s) ?_,
      (hfifo hp).trans (if_pos rfl), fun q hq3 hne => (hfifo hq3).trans (if_neg hne), buf_settle s ?_, ?_⟩
    · rw [hreplay']
      exact beatArrive_enters hu hq hbegun hport hfull hbytes hp hroom
    · rw [strmAt_putStrm]
    · rw [settle_mem]
      exact (logArrive_mem _ u b).trans ((bumpStrm_mem _ u 0).trans (pushFifo_mem _ p b))
  · have hreplay' : (coreAt s k).replay = none := hreplay
    refine runLive_does hk hlive (exec_operandBeatArrive k p u s) ?_
    rw [hreplay']
    exact beatArrive_waits hu hq hbegun hport hfull hbytes hp hroom
  · have hreplay' : (coreAt s k).replay = some log := hreplay
    refine runLive_does hk hlive (exec_operandBeatArrive k p src s) ?_
    rw [hreplay']
    dsimp only
    unfold replayArrive
    dsimp only
    rw [if_neg (by omega), hbeat]
    dsimp only
    rw [if_neg (by omega), if_neg (Nat.not_le.2 hroom), if_pos hsrc]

/-- Settles O24: descriptors that start, line requests, and beats. -/
theorem streamers : Obligations.Streamers := ⟨streamerStarts, streamerRequests, operandBeats⟩

end Sys2Proof.Machine

/-! PROOFS. Messages and credits of a channel (O26). -/

namespace Sys2Proof.Machine

/-! ### Injection (R165, R168, R175, R177, R388) -/

/-- A slot that goes on changes nothing else of its core. -/
theorem wakeSender_frame (c : Core) (i : Nat) : wakeSender c i = { c with slots := (wakeSender c i).slots } := by
  unfold wakeSender
  dsimp only
  split <;> rfl

/-- The packet of a message for its first target. -/
def messagePkt (s : State) (k e : Nat) (c : Core) (x : Send) (tg : Nat × Nat) : Pkt :=
  { msgPkt s k c (outAt c e) x tg with mc := if outKind (outAt c e) = 2 then (outAt c e).targets else [], unit := some (7 + e) }

/-- A message leaves as one packet, whatever the number of its targets (R175). -/
theorem sendPkts_message {s : State} {k e : Nat} {c : Core} {x : Send} {tg : Nat × Nat} {tgs : List (Nat × Nat)}
    (hx : x.kind ≤ 1) (htgs : (outAt c e).targets = tg :: tgs) :
    (sendPkts s k c (outAt c e) x).map (fun p => { p with unit := some (7 + e) }) = [messagePkt s k e c x tg] := by
  have hone : (outAt c e).targets.take 1 = [tg] := by rw [htgs]; rfl
  unfold sendPkts
  rw [if_neg (by omega), hone]
  rfl

/-- An endpoint past its oldest send: one credit less at every target, the next sequence number. -/
def pastSend (o : OutEp) (rest : List Send) : OutEp :=
  { o with sendQ := rest, credit := o.credit.map (· - 1), seq := (o.seq + 1) % 65536 }

/-- A core past the oldest send of endpoint `e`, which put the packets `ps` on offer. -/
def sentCore (s : State) (c : Core) (e : Nat) (x : Send) (rest : List Send) (ps : List Pkt) : Core :=
  let c1 := putOut (bumpOut c e 0 1) e (pastSend (outAt c e) rest)
  let c2 := logFor c1 x.firing (fun l => { l with msgs := l.msgs ++ [(e, sendBytes x)] })
  wakeSender { c2 with inj := c2.inj ++ ps, lastProgress := s.sup.ticks } x.slot

theorem sentCore_spec (s : State) (c : Core) (e : Nat) (x : Send) (rest : List Send) (ps : List Pkt) :
    outAt (sentCore s c e x rest ps) e = pastSend (outAt c e) rest ∧ (sentCore s c e x rest ps).inj = c.inj ++ ps ∧
      (sentCore s c e x rest ps).mem = c.mem := by
  unfold sentCore
  dsimp only
  rw [wakeSender_frame, logFor_frame]
  exact ⟨outAt_putOut _ e _, rfl, rfl⟩

section
variable {s : State} {k e : Nat} {x : Send} {rest : List Send} (hk : k < nCores) (hlive : (coreAt s k).held = false)
  (hq : (outAt (coreAt s k) e).sendQ = x :: rest)
include hk hlive hq

/-- A send held by a drain is counted and stays (R207). -/
theorem messageInject_held (hreplay : (coreAt s k).replay = none)
    (hhold : drainHold s k (coreAt s k) (outAt (coreAt s k) e) x = true) : exec (.messageInject k e) s =
    .next (putCore s k { coreAt s k with drainHeld := ((coreAt s k).drainHeld + 1) % 2 ^ 64 }) := by
  refine runLive_does hk hlive (exec_messageInject k e s) ?_
  dsimp only
  rw [hq]
  exact if_pos ⟨by rw [hreplay]; rfl, hhold⟩

/-- Without credit a send stays and the stall is counted (R168). -/
theorem messageInject_stalled (hhold : drainHold s k (coreAt s k) (outAt (coreAt s k) e) x = false)
    (hroom : sendRoom (coreAt s k) e = 0) :
    exec (.messageInject k e) s = .next (putCore s k (bumpOut (coreAt s k) e 1 1)) := by
  refine runLive_does hk hlive (exec_messageInject k e s) ?_
  dsimp only
  rw [hq]
  exact (if_neg (by simp [hhold])).trans (if_pos hroom)

/-- With credit, or in a recomputation, the send leaves its endpoint. -/
theorem messageInject_sent (hgo : ¬ ((coreAt s k).replay.isNone = true ∧
      drainHold s k (coreAt s k) (outAt (coreAt s k) e) x = true)) (hroom : sendRoom (coreAt s k) e ≠ 0) :
    exec (.messageInject k e) s = .next (putCore s k (sentCore s (coreAt s k) e x rest
      (if (coreAt s k).replay.isSome then []
        else (sendPkts s k (coreAt s k) (outAt (coreAt s k) e) x).map (fun p => { p with unit := some (7 + e) })))) := by
  refine runLive_does hk hlive (exec_messageInject k e s) ?_
  dsimp only
  rw [hq]
  exact (if_neg hgo).trans (if_neg hroom)

end

theorem messageInjection : Sys2Proof.Claims.MessageInjection := by
  intro s k e x rest tg tgs hk c o hlive hq hx hkind htgs
  refine ⟨fun hreplay hhold hcredit => ?_, fun hreplay hhold hcredit => ?_, fun hreplay hhold => ?_, fun hreplay => ?_⟩
  · have hroom : sendRoom (coreAt s k) e = minCredit o := if_neg (by simp [c, hreplay])
    obtain ⟨hout, hinj, hmem⟩ := sentCore_spec s c e x rest [messagePkt s k e c x tg]
    refine ⟨_, messagePkt s k e c x tg, ?_, hout, hinj, rfl, rfl, rfl, rfl, rfl, if_neg hkind, rfl, rfl, hmem⟩
    rw [messageInject_sent hk hlive hq (by simp [c, o, hhold]) (by omega), if_neg (by simp [c, hreplay]),
      sendPkts_message hx htgs]
  · have hroom : sendRoom (coreAt s k) e = minCredit o := if_neg (by simp [c, hreplay])
    exact messageInject_stalled hk hlive hq hhold (by omega)
  · exact messageInject_held hk hlive hq hreplay hhold
  · obtain ⟨hout, hinj, hmem⟩ := sentCore_spec s c e x rest []
    have hroom : sendRoom (coreAt s k) e = 65536 := if_pos hreplay
    have hgo : ¬ (c.replay.isNone = true ∧ drainHold s k c o x = true) := by
      rw [← Option.not_isSome, hreplay]
      simp
    refine ⟨sentCore s c e x rest [], ?_, congrArg OutEp.sendQ hout, by simpa using hinj, hmem⟩
    rw [messageInject_sent hk hlive hq hgo (by omega), if_pos hreplay]

/-! ### Arrival and spill (R171, R172, R178) -/

theorem find?_message {p : Pkt} (hp : p.kind = 4 ∨ p.kind = 5) : [p].find? (fun p => p.kind == 4 || p.kind == 5) = some p :=
  List.find?_cons_of_pos (by simpa using hp)

/-- A message below QDEPTH whose entry is free takes it (R171). -/
theorem placeMsg_fixed {c : Core} {e : Nat} {m : ChMsg} (hoff : (m.seq + 65536 - (inAt c e).h) % 65536 < inQdepth (inAt c e))
    (hfree : tabHas (inAt c e).fixed (m.seq % inQdepth (inAt c e)) = false) : placeMsg c e m =
    (putIn c e { inAt c e with fixed := tabSet (inAt c e).fixed (m.seq % inQdepth (inAt c e)) m }, []) := by
  have hcap : ¬ (inCap (inAt c e) ≤ (m.seq + 65536 - (inAt c e).h) % 65536) := by unfold inCap; omega
  unfold placeMsg
  dsimp only
  rw [if_pos hoff, if_neg (by simp [hcap, hfree]), if_pos hoff]

theorem messageArrival : Sys2Proof.Claims.MessageArrival := by
  intro s k p hk c i m hlive hholding harr hp
  have hfind : c.arr.find? (fun p => p.kind == 4 || p.kind == 5) = some p := by rw [harr, find?_message hp]
  have herase : c.arr.erase p = [] := by rw [harr, List.erase_cons_head]
  refine ⟨fun hgen hoff hfree => ?_, fun hgen => ?_⟩
  · refine ⟨putIn { c with arr := [] } p.dstEp { i with fixed := tabSet i.fixed (p.chSeq % inQdepth i) m }, ?_, rfl, rfl,
      inAt_putIn _ _ _⟩
    refine runLive_does hk hlive (exec_messageArrive k false s) ?_
    dsimp only
    rw [if_neg (Bool.eq_false_iff.1 hholding), hfind]
    dsimp only
    rw [herase, Bool.or_false]
    have hplace : placeMsg { c with arr := [] } p.dstEp m = _ := placeMsg_fixed hoff hfree
    refine (if_neg (not_not.2 hgen)).trans ?_
    rw [show ({ token := p.kind == 5, data := msgWord p, gen := p.gen, seq := p.chSeq, poison := p.poison, cmark := p.cmark } : ChMsg)
      = m from rfl, hplace]
    rfl
  · refine ⟨bumpIn { c with arr := [] } p.dstEp 5 1, ?_, rfl, tabGet_bump _ _ _⟩
    rw [exec_messageArrive]
    refine runLive_eq hk hlive ?_
    dsimp only
    rw [if_neg (Bool.eq_false_iff.1 hholding), hfind]
    dsimp only
    rw [herase]
    exact if_pos hgen

theorem spillCopies : Sys2Proof.Claims.SpillCopies := by
  intro s k e pos m hk c i a hlive hfirst
  refine ⟨fun hoff hclean => ?_, fun hoff => ?_⟩
  · have hread := eccRead_ok (ecc := []) (inOwner i) noFld (by simp) hclean
    have hbytes : (clean (memRead c.mem a 16)).map (·.1) = memRead c.mem a 16 := by
      rw [clean, List.map_map]
      exact List.map_id _
    have hpoison : (clean (memRead c.mem a 16)).any (·.2) = false := by simp [clean]
    refine ⟨putIn (bumpCore (spRead c a 16).2 70 1) e _, ?_, rfl, ?_, inAt_putIn _ _ _⟩
    · refine runLive_does hk hlive (exec_spillCopy k e [] s) ?_
      dsimp only
      rw [hfirst]
      dsimp only
      rw [if_neg (Nat.not_le.2 hoff), hread]
      dsimp only
      rw [hbytes, hpoison, Bool.or_false]
    · rw [putIn_ctr, bumpCore_ctr, tabGet_bump, spRead_core, bumpCore_ctr, tabGet_bump_ne _ _ (by decide)]
  · refine runLive_does hk hlive (exec_spillCopy k e [] s) ?_
    dsimp only
    rw [hfirst]
    exact if_pos hoff

/-! ### Delivery into a vector half (R40, R173, R199) -/

/-- A beat in the check log of a firing changes nothing else of the core. -/
theorem logBeat_frame (c : Core) (f p : Nat) (b : Beat) : logBeat c f p b = { c with check := (logBeat c f p b).check } := by
  unfold logBeat
  split
  · rfl
  · exact logFor_frame c f _

/-- The beat of a token: its eight bytes in a beat of 64 (R40). -/
def tokenBeat (e : Nat) (m : ChMsg) : Beat := { data := fitBytes 64 (leBytes 8 m.data), poison := m.poison, src := 2 + e }

theorem beatOf_token (e : Nat) (m : ChMsg) :
    beatOf (2 + e) ((leBytes 8 m.data).map (fun b => (b, m.poison))) = tokenBeat e m := by
  have hdata : ((leBytes 8 m.data).map (fun b => (b, m.poison))).map (·.1) = leBytes 8 m.data := by
    rw [List.map_map]
    exact List.map_id _
  have hpoison : ((leBytes 8 m.data).map (fun b => (b, m.poison))).any (·.2) = m.poison := by
    simp [leBytes]
  rw [beatOf, hdata, hpoison, tokenBeat]

/-- The core once a vector half has taken a token. -/
def tokenTaken (s : State) (c : Core) (e firing : Nat) (m : ChMsg) : Core :=
  logBeat (pushFifo (takeHead s c e firing m) (inPort (inAt c e)) (tokenBeat e m)) firing (inPort (inAt c e)) (tokenBeat e m)

theorem takeMsg_token {s : State} {c : Core} {e slot firing : Nat} {m : ChMsg}
    (hp : inPort (inAt c e) = 2 ∨ inPort (inAt c e) = 3) (htok : m.token = true) :
    takeMsg s c e slot firing m = (tokenTaken s c e firing m, []) := by
  unfold takeMsg
  dsimp only
  rw [if_pos htok, if_pos hp, beatOf_token, tokenTaken]

theorem inAt_pushFifo (c : Core) (p : Nat) (b : Beat) (e : Nat) : inAt (pushFifo c p b) e = inAt c e := by
  unfold pushFifo
  split <;> rfl

theorem pushFifo_slots (c : Core) (p : Nat) (b : Beat) : (pushFifo c p b).slots = c.slots := by
  unfold pushFifo
  split <;> rfl

theorem inAt_takeHead (s : State) (c : Core) (e firing : Nat) (m : ChMsg) : inAt (takeHead s c e firing m) e =
    { inAt c e with
      fixed := tabDel (inAt c e).fixed (m.seq % inQdepth (inAt c e))
      h := ((inAt c e).h + 1) % 65536
      taken := (inAt c e).taken ++ [(m.seq, m.cmark)]
      takenNow := tabSet (inAt c e).takenNow firing (tabGet (inAt c e).takenNow firing 0 + 1) } := inAt_putIn _ _ _

theorem inAt_tokenTaken (s : State) (c : Core) (e firing : Nat) (m : ChMsg) :
    inAt (tokenTaken s c e firing m) e = inAt (takeHead s c e firing m) e := by
  rw [tokenTaken, logBeat_frame]
  exact inAt_pushFifo _ _ _ _

theorem fifoOf_tokenTaken (s : State) {c : Core} {e : Nat} (firing : Nat) (m : ChMsg) (hp : inPort (inAt c e) ≤ 3) :
    fifoOf (tokenTaken s c e firing m) (inPort (inAt c e)) = fifoOf c (inPort (inAt c e)) ++ [tokenBeat e m] := by
  rw [tokenTaken, logBeat_frame]
  exact (fifoOf_pushFifo _ _ hp hp).trans (if_pos rfl)

theorem tokenTaken_mem (s : State) (c : Core) (e firing : Nat) (m : ChMsg) : (tokenTaken s c e firing m).mem = c.mem := by
  rw [tokenTaken, logBeat_frame]
  exact pushFifo_mem (takeHead s c e firing m) (inPort (inAt c e)) (tokenBeat e m)

theorem tokenTaken_slots (s : State) (c : Core) (e firing : Nat) (m : ChMsg) : (tokenTaken s c e firing m).slots = c.slots := by
  rw [tokenTaken, logBeat_frame]
  exact pushFifo_slots (takeHead s c e firing m) (inPort (inAt c e)) (tokenBeat e m)

theorem messageTaken : Sys2Proof.Claims.MessageTaken := by
  intro s k e slot firing m key hk c i p hlive hmatch hp htaker hdepth hfind hidle htok hroom
  have hunit : unitOfSrc p (2 + e) = 5 := by
    unfold unitOfSrc
    rw [if_neg (by omega), if_neg (by omega), if_pos (by omega)]
  refine ⟨tokenTaken s c e firing m, ?_, fifoOf_tokenTaken s firing m (show p ≤ 3 by omega), ?_, ?_, ?_, ?_, ?_⟩
  · refine runLive_does hk hlive (exec_messageTake k e [] s) ?_
    dsimp only
    rw [hmatch]
    dsimp only
    rw [if_neg (show ¬ p = 4 by omega), htaker]
    dsimp only
    rw [if_neg hdepth, hfind]
    dsimp only
    rw [hunit, if_neg (Bool.eq_false_iff.1 hidle), if_neg fun h => absurd h.2.2 (Nat.not_le.2 hroom)]
    have htake := takeMsg_token (s := s) (slot := slot) (firing := firing) hp htok
    have hclean : { m with poison := m.poison || List.contains [] Ecc.ue } = m := by simp
    rw [hclean, htake]
    rfl
  · rw [inAt_tokenTaken, inAt_takeHead]
  · rw [inAt_tokenTaken, inAt_takeHead]
  · rw [inAt_tokenTaken, inAt_takeHead]
    exact tabGet_tabSet_self _ _ _ _
  · exact tokenTaken_mem s c e firing m
  · exact tokenTaken_slots s c e firing m

/-! ### Frees and credits (R168 to R170, R220, R239) -/

theorem length_setNth {α : Type} (l : List α) (i : Nat) (v : α) : (setNth l i v).length = l.length := by
  fun_induction setNth l i v <;> simp_all

theorem nth_setNth_self {α : Type} {l : List α} {i : Nat} (v d : α) (h : i < l.length) : nth (setNth l i v) i d = v := by
  fun_induction setNth l i v with
  | case1 => exact absurd h (Nat.not_lt_zero _)
  | case2 => rfl
  | case3 a t i v ih => exact ih (Nat.lt_of_succ_lt_succ h)

theorem nth_setNth_ne {α : Type} (l : List α) {i j : Nat} (v d : α) (h : j ≠ i) : nth (setNth l i v) j d = nth l j d := by
  fun_induction setNth l i v generalizing j with
  | case1 => rfl
  | case2 a t v =>
    obtain ⟨j, rfl⟩ := Nat.exists_eq_succ_of_ne_zero h
    rfl
  | case3 a t i v ih =>
    cases j with
    | zero => rfl
    | succ j => exact ih fun hj => h (by rw [hj])

theorem foldl_min_le (l : List Nat) (a : Nat) : l.foldl min a ≤ a ∧ ∀ y ∈ l, l.foldl min a ≤ y := by
  induction l generalizing a with
  | nil => simp
  | cons b l ih =>
    obtain ⟨hstart, hall⟩ := ih (min a b)
    refine ⟨hstart.trans (min_le_left a b), fun y hy => ?_⟩
    obtain rfl | hy := List.mem_cons.1 hy
    · exact hstart.trans (min_le_right a y)
    · exact hall y hy

theorem foldl_min_mem (l : List Nat) (a : Nat) : l.foldl min a ∈ a :: l := by
  induction l generalizing a with
  | nil => simp
  | cons b l ih =>
    have h : l.foldl min (min a b) ∈ min a b :: l := ih (min a b)
    obtain hmin | hmin := min_choice a b <;> rw [hmin] at h <;> simp only [List.foldl_cons, hmin, List.mem_cons] at h ⊢ <;> tauto

/-- The least of the counts returned (R170). -/
def leastOf : List Nat → Nat
  | [] => 0
  | a :: l => l.foldl min a

theorem leastOf_spec {l : List Nat} (h : l ≠ []) : (∀ y ∈ l, leastOf l ≤ y) ∧ leastOf l ∈ l := by
  cases l with
  | nil => exact absurd rfl h
  | cons a l =>
    obtain ⟨hstart, hall⟩ := foldl_min_le l a
    exact ⟨fun y hy => (List.mem_cons.1 hy).elim (fun h => h ▸ hstart) (hall y), foldl_min_mem l a⟩

/-- An endpoint that a credit of `n` for its target `t` reaches. -/
def credited (o : OutEp) (t n cmark : Nat) : OutEp :=
  { o with credit := setNth o.credit t (nth o.credit t 0 + n), returned := setNth o.returned t (nth o.returned t 0 + n),
           winMark := max o.winMark cmark, retired := leastOf (setNth o.returned t (nth o.returned t 0 + n)) }

theorem noteEcho_arr (c : Core) (u m : Nat) : (noteEcho c u m).arr = c.arr := by
  unfold noteEcho
  split <;> rfl

/-- The credit that has come reaches its endpoint. -/
theorem creditArrive_eq {s : State} {k : Nat} {p : Pkt} (hk : k < nCores) (hlive : (coreAt s k).held = false)
    (hholding : (coreAt s k).holding = false) (harr : (coreAt s k).arr = [p]) (hp : p.kind = 6) :
    exec (.creditArrive k) s = .next (putCore s k
      (putOut (noteEcho { coreAt s k with arr := [] } (7 + bits p.chSeq 4 0) p.cmark) (bits p.chSeq 4 0)
        (credited (outAt (coreAt s k) (bits p.chSeq 4 0)) (bits p.chSeq 9 5) (bits p.chSeq 14 10 + 1) p.cmark))) := by
  have hfind : (coreAt s k).arr.find? (fun p => p.kind == 6) = some p := by
    rw [harr]
    exact List.find?_cons_of_pos (by simp [hp])
  have herase : (coreAt s k).arr.erase p = [] := by rw [harr, List.erase_cons_head]
  refine runLive_does hk hlive (exec_creditArrive k s) ?_
  dsimp only
  rw [if_neg (Bool.eq_false_iff.1 hholding), hfind]
  dsimp only
  rw [herase]
  rfl

theorem creditReturn : Sys2Proof.Claims.CreditReturn := by
  intro s k e hk c i n hlive
  refine ⟨fun hfree hcontribs => ?_, fun b hpend hdue hcontribs => ?_, fun hpend hfew => ?_,
    ?_⟩
  · refine runLive_does hk hlive (exec_entryFree k e s) ?_
    dsimp only
    rw [if_neg (by simp [c, hfree])]
    exact if_pos (by simp [c, i, hcontribs])
  · refine ⟨{ putIn c e { i with pend := i.pend - n, pendFrom := s.sup.ticks, marks := i.marks.drop n } with
                inj := c.inj ++ [creditPkt s k i.feeder.1 i.feeder.2.1 i.feeder.2.2 n (maxOf (i.marks.take n) 0)] },
      creditPkt s k i.feeder.1 i.feeder.2.1 i.feeder.2.2 n (maxOf (i.marks.take n) 0), ?_, rfl, rfl, rfl, rfl, rfl, rfl,
      inAt_putIn _ _ _⟩
    refine runLive_does hk hlive (exec_creditSend k e b s) ?_
    have hgo : (i.pend = 0 || (i.pend < 8 && !b)) = false := by
      obtain h | h := hdue
      · simp [hpend, h]
      · simp [hpend, h]
    have hone : i.contribs.isEmpty = true := by rw [hcontribs]; rfl
    dsimp only
    rw [if_neg (by simpa using hgo), if_pos hone]
    rfl
  · refine runLive_does hk hlive (exec_creditSend k e false s) ?_
    exact if_pos (by simpa using Or.inr hfew)
  · intro p hholding harr hp f t m o hcredit hreturned
    have hout (d : Core) : outAt (putOut d f (credited o t m p.cmark)) f = credited o t m p.cmark := outAt_putOut d f _
    refine ⟨_, creditArrive_eq hk hlive hholding harr hp, noteEcho_arr _ _ _, ?_⟩
    rw [hout]
    have hne : setNth o.returned t (nth o.returned t 0 + m) ≠ [] :=
      List.ne_nil_of_length_pos (by rw [length_setNth]; omega)
    exact ⟨nth_setNth_self _ 0 hcredit, nth_setNth_self _ 0 hreturned, fun j hj => nth_setNth_ne _ _ 0 hj, leastOf_spec hne⟩

/-- Settles O26: each message and credit command by the branch of its core that the premises take. -/
theorem channelMessages : Obligations.ChannelMessages :=
  ⟨messageInjection, messageArrival, spillCopies, messageTaken, creditReturn⟩

end Sys2Proof.Machine

/-! PROOFS. Packets enter the mesh, hop and leave it (O29). -/

namespace Sys2Proof.Machine

theorem exec_packetInject (k : Nat) (s : State) : exec (.packetInject k) s = execPacketInject k s := rfl
theorem exec_packetEject (id : Nat) (s : State) : exec (.packetEject id) s = execPacketEject id s := rfl
theorem exec_colEntry (id : Nat) (s : State) : exec (.colEntry id) s = execColEntry id s := rfl

/-! ### Counters of a router (R231, R252) -/

theorem ctr_bumpRouter (s : State) (k i n : Nat) :
    tabGet (routerAt (bumpRouter s k i n) k).ctr i 0 = (tabGet (routerAt s k).ctr i 0 + n) % 2 ^ 64 := by
  rw [bumpRouter, routerAt_putRouter, tabGet_bump]

theorem ctr_bumpRouter_ne (s : State) (k n : Nat) {i j : Nat} (h : j ≠ i) :
    tabGet (routerAt (bumpRouter s k i n) k).ctr j 0 = tabGet (routerAt s k).ctr j 0 := by
  rw [bumpRouter, routerAt_putRouter, tabGet_bump_ne _ _ h]

/-- Counting a packet in leaves the counters below 73. -/
theorem ctr_countInj_ne (s : State) (k b : Nat) (e : Bool) {j : Nat} (h : j < 73) :
    tabGet (routerAt (countInj s k e b) k).ctr j 0 = tabGet (routerAt s k).ctr j 0 := by
  rw [countInj, ctr_bumpRouter_ne _ _ _ (by omega), ctr_bumpRouter_ne _ _ _ (by omega)]

/-- Counting a packet out leaves the counters below 75. -/
theorem ctr_countEj_ne (s : State) (k b : Nat) (e : Bool) {j : Nat} (h : j < 75) :
    tabGet (routerAt (countEj s k e b) k).ctr j 0 = tabGet (routerAt s k).ctr j 0 := by
  rw [countEj, ctr_bumpRouter_ne _ _ _ (by omega), ctr_bumpRouter_ne _ _ _ (by omega)]

theorem ctr_countInj (s : State) (k b : Nat) (e : Bool) : tabGet (routerAt (countInj s k e b) k).ctr (73 + b2n e) 0 =
    (tabGet (routerAt s k).ctr (73 + b2n e) 0 + 1) % 2 ^ 64 := by
  have he : b2n e ≤ 1 := by cases e <;> decide
  rw [countInj, ctr_bumpRouter_ne _ _ _ (by omega), ctr_bumpRouter]

theorem ctr_discardAt_ne (s : State) (k : Nat) (p : Pkt) {j : Nat} (h : j < 75) :
    tabGet (routerAt (discardAt s k p) k).ctr j 0 = tabGet (routerAt s k).ctr j 0 :=
  ctr_countEj_ne _ _ _ _ h

/-! ### Injection (R22, R222, R231, R281) -/

/-- The core of an interface once its packet `p` has been let pass. -/
def offered (c : Core) (p : Pkt) : Core := { winAdd c p with inj := putRest p [] c.inj }

theorem winAdd_arr (c : Core) (p : Pkt) : (winAdd c p).arr = c.arr := by
  unfold winAdd putUse
  split
  · rfl
  · split <;> rfl

/-- What holds where the packet `q` of core `k` has entered for router `dest`: `c` is the core left behind. -/
structure Entered (s : State) (k dest : Nat) (q : Pkt) (c : Core) (t : State) : Prop where
  net : t.mesh.net = s.mesh.net ++
    [{ q with id := s.mesh.nextId, epoch := stampOf s k, srcCore := k, dstCore := dest, at_ := k, inp := 4, waited := 0 }]
  nextId : t.mesh.nextId = s.mesh.nextId + 1
  core : coreAt t k = c
  counted : tabGet (routerAt t k).ctr (73 + b2n (stampOf s k)) 0 =
    (tabGet (routerAt s k).ctr (73 + b2n (stampOf s k)) 0 + 1) % 2 ^ 64

theorem enterNet_entered {s u : State} {k : Nat} {c : Core} (dest : Nat) (q : Pkt) (hmesh : u.mesh = s.mesh)
    (hrouters : u.routers = s.routers) (hcore : coreAt u k = c) : Entered s k dest q c (enterNet u k dest q) := by
  have hstamp : stampOf u k = stampOf s k := by rw [stampOf, stampOf, hmesh]
  have hrouter : routerAt u k = routerAt s k := by rw [routerAt, routerAt, hrouters]
  refine ⟨?_, ?_, hcore, ?_⟩
  · rw [← hmesh, ← hstamp]
    rfl
  · rw [← hmesh]
    rfl
  · rw [← hrouter, ← hstamp]
    exact ctr_countInj _ k (basinOf dest) (stampOf u k)

/-- Reading the mirror touches neither the mesh nor a core nor a router. -/
theorem readPlace_frame (s : State) (b : Nat) (bank : Bool) (slot : Nat) : (readPlace s b bank slot).2.mesh = s.mesh ∧
    (readPlace s b bank slot).2.cores = s.cores ∧ (readPlace s b bank slot).2.routers = s.routers := by
  unfold readPlace
  dsimp only
  split
  · exact ⟨rfl, rfl, rfl⟩
  · repeat' split
    all_goals exact ⟨rfl, rfl, rfl⟩

section
variable {s : State} {k : Nat} {p : Pkt} (hk : k < nCores) (hfind : (coreAt s k).inj.find? (winRoom (coreAt s k)) = some p)
  (hvc : p.vc ≠ 5)
include hk hfind hvc

/-- A packet that is not a multicast, before the gap and the buffer are looked at. -/
theorem packetInject_eq : exec (.packetInject k) s = .next
    (if isGap s (dieOf k) ∨ bufferFlits k p.vc < bufUse s k 4 p.vc + flitsOf p then s
      else injectPkt (putCore s k (offered (coreAt s k) p)) k p) := by
  have hgroup : nextGroup s k p = (p, []) := if_neg hvc
  rw [exec_packetInject, execPacketInject, runUnit_next _ s hk]
  dsimp only
  rw [hfind]
  dsimp only
  rw [hgroup]
  rfl

theorem packetInject_waits (h : isGap s (dieOf k) = true ∨ bufferFlits k p.vc < bufUse s k 4 p.vc + flitsOf p) :
    exec (.packetInject k) s = .next s :=
  (packetInject_eq hk hfind hvc).trans (congrArg _ (if_pos h))

theorem packetInject_passes (hgap : isGap s (dieOf k) = false) (hroom : bufUse s k 4 p.vc + flitsOf p ≤ bufferFlits k p.vc) :
    exec (.packetInject k) s = .next (injectPkt (putCore s k (offered (coreAt s k) p)) k p) :=
  (packetInject_eq hk hfind hvc).trans
    (congrArg _ (if_neg (not_or_intro (Bool.eq_false_iff.1 hgap) (Nat.not_lt.2 hroom))))

end

/-! The destination router, by the destination type (R222). -/

theorem injectPkt_slot {s : State} {k j : Nat} {p : Pkt} (htype : p.dtype = 0)
    (hplace : (readPlace s (basinOf k) (stampOf s k) p.dst).1 = .core j) :
    injectPkt s k p = enterNet (readPlace s (basinOf k) (stampOf s k) p.dst).2 k j p := by
  unfold injectPkt
  simp only [htype, hplace]

theorem injectPkt_core {s : State} {k : Nat} {p : Pkt} (htype : p.dtype = 1) : injectPkt s k p = enterNet s k p.dst p := by
  unfold injectPkt
  simp only [htype]

theorem injectPkt_stack {s : State} {k : Nat} {p : Pkt} (htype : p.dtype = 2) :
    injectPkt s k p = enterNet s k (hbmRouter p.dst p.addr) p := by
  unfold injectPkt
  simp only [htype]

theorem injectPkt_interface {s : State} {k : Nat} {p : Pkt} (htype : p.dtype = 3) (hdst : p.dst ≠ 31) :
    injectPkt s k p = enterNet s k (attachOf p.dst) p := by
  unfold injectPkt
  simp only [htype, if_neg hdst]

theorem injectPkt_global {s : State} {k q : Nat} {p : Pkt} (htype : p.dtype = 3) (hdst : p.dst = 31)
    (hport : globalPort s p = some q) : injectPkt s k p = enterNet s k (attachCore q) { p with dst := q } := by
  unfold injectPkt
  simp only [htype, if_pos hdst, hport]

theorem injectPkt_noPort {s : State} {k : Nat} {p : Pkt} (htype : p.dtype = 3) (hdst : p.dst = 31)
    (hport : globalPort s p = none) : injectPkt s k p = refuseHere s k p evFabNoPort := by
  unfold injectPkt
  simp only [htype, if_pos hdst, hport]

theorem injectPkt_unmapped {s : State} {k : Nat} {p : Pkt} (htype : p.dtype = 0)
    (hplace : readPlace s (basinOf k) (stampOf s k) p.dst = (.unmapped, s)) : injectPkt s k p = unmappedAt s k p.dst := by
  unfold injectPkt
  simp only [htype, hplace]

/-- A packet that enters at its own core, once its interface has let it pass. -/
theorem offered_enters (s : State) (k dest : Nat) (c : Core) (q : Pkt) :
    Entered s k dest q c (enterNet (putCore s k c) k dest q) :=
  enterNet_entered dest q rfl rfl (coreAt_putCore s k c)

theorem offered_placed (s : State) (k j slot : Nat) (e : Bool) (c : Core) (p : Pkt) :
    Entered s k j p c (enterNet (readPlace (putCore s k c) (basinOf k) e slot).2 k j p) := by
  obtain ⟨hmesh, hcores, hrouters⟩ := readPlace_frame (putCore s k c) (basinOf k) e slot
  exact enterNet_entered j p hmesh hrouters (by rw [coreAt, hcores]; exact coreAt_putCore s k c)

theorem packetInjected : Sys2Proof.Claims.PacketInjected := by
  intro s k p hk c e d enters hfind hvc
  refine ⟨packetInject_waits hk hfind hvc, fun hgap hroom => ?_⟩
  have hpass : exec (.packetInject k) s = .next (injectPkt (putCore s k d) k p) := packetInject_passes hk hfind hvc hgap hroom
  have enters_of {t : State} {dest : Nat} {q : Pkt} (h : Entered s k dest q d t) : enters t dest q :=
    ⟨h.net, h.nextId, h.core, h.counted⟩
  have harr : d.arr = c.arr := winAdd_arr c p
  generalize d = d at *
  refine ⟨fun j htype hplace => ?_, fun htype => ?_, fun htype => ?_, fun htype hdst => ?_, fun q htype hdst hport => ?_,
    fun htype hdst hport => ?_⟩
  · exact ⟨_, hpass.trans (congrArg _ (injectPkt_slot htype hplace)), enters_of (offered_placed s k j p.dst e d p)⟩
  · exact ⟨_, hpass.trans (congrArg _ (injectPkt_core htype)), enters_of (offered_enters _ _ _ _ _)⟩
  · exact ⟨_, hpass.trans (congrArg _ (injectPkt_stack htype)), enters_of (offered_enters _ _ _ _ _)⟩
  · exact ⟨_, hpass.trans (congrArg _ (injectPkt_interface htype hdst)), enters_of (offered_enters _ _ _ _ _)⟩
  · exact ⟨_, hpass.trans (congrArg _ (injectPkt_global htype hdst hport)), enters_of (offered_enters _ _ _ _ _)⟩
  · refine ⟨_, hpass.trans (congrArg _ (injectPkt_noPort htype hdst hport)), rfl, ?_⟩
    rw [refuseHere, coreAt_putCore, coreAt_putCore]
    exact congrArg (· ++ _) harr

/-- The slot of an empty entry is not placed (R18, R23). -/
theorem readPlace_empty {s : State} {b slot : Nat} {e : Bool}
    (h : tabGet (basinAt s b).place (placeKey e slot) (0, 0, 0) = (0, 0, 0)) : readPlace s b e slot = (.unmapped, s) := by
  rw [readPlace, h]
  rfl

/-- A packet that no router takes leaves the mesh as it was and is counted. -/
theorem unmappedAt_counts (s : State) (k slot : Nat) : (unmappedAt s k slot).mesh = s.mesh ∧
    tabGet (routerAt (unmappedAt s k slot) k).ctr 63 0 = (tabGet (routerAt s k).ctr 63 0 + 1) % 2 ^ 64 := by
  have hevent (u : State) (n code basins core : Nat) :
      routerAt (postEvent u n code basins slot noFld noFld noFld core 0 0 0) k = routerAt u k := rfl
  have hmesh (u : State) (n code basins core : Nat) :
      (postEvent u n code basins slot noFld noFld noFld core 0 0 0).mesh = u.mesh := rfl
  have hdropped (u : State) : (dropIngress u k).mesh = u.mesh := rfl
  refine ⟨by rw [unmappedAt, hmesh, hdropped]; rfl, ?_⟩
  rw [unmappedAt, hevent, dropIngress, ctr_countEj_ne _ _ _ _ (by decide), ctr_countInj_ne _ _ _ _ (by decide), ctr_bumpRouter]

theorem slotUnmapped : Sys2Proof.Claims.SlotUnmapped := by
  intro s k p hk c t hfind hvc hgap hroom htype hplace
  obtain ⟨hmesh, hcounts⟩ := unmappedAt_counts (putCore s k (offered c p)) k p.dst
  have hread : readPlace (putCore s k (offered c p)) (basinOf k) (stampOf (putCore s k (offered c p)) k) p.dst =
    (.unmapped, putCore s k (offered c p)) := readPlace_empty hplace
  exact ⟨(packetInject_passes hk hfind hvc hgap hroom).trans (congrArg _ (injectPkt_unmapped htype hread)), hmesh, hcounts⟩

/-! ### Hops (R224, R225, R239, R241) -/

theorem dirOf_dirNo (d : Dir) : dirOf (dirNo d) = d := by cases d <;> rfl

/-- The better of the best output yet and the next one (R224). -/
def betterOut (f : Nat → Nat) (best : Option Nat) (o : Nat) : Option Nat :=
  match best with
  | none => some o
  | some b => if f b < f o then some o else best

/-- An output is the first of the best of a list. -/
def FirstBest (f : Nat → Nat) (l : List Nat) (b : Nat) : Prop := b ∈ l ∧ ∀ x ∈ l, f x ≤ f b ∧ (x < b → f x < f b)

/-- Walking a rising list finds the first of its best. -/
theorem foldl_betterOut (f : Nat → Nat) {l m : List Nat} {b : Nat} (hbest : FirstBest f m b) (hrise : (m ++ l).Pairwise (· < ·)) :
    ∃ a, l.foldl (betterOut f) (some b) = some a ∧ FirstBest f (m ++ l) a := by
  induction l generalizing m b with
  | nil => exact ⟨b, rfl, by simpa using hbest⟩
  | cons o l ih =>
    obtain ⟨hmem, hall⟩ := hbest
    have hbelow : ∀ x ∈ m, x < o := fun x hx => (List.pairwise_append.1 hrise).2.2 x hx o (.head _)
    rw [List.append_cons] at hrise ⊢
    by_cases hlt : f b < f o
    · have hstep : betterOut f (some b) o = some o := if_pos hlt
      rw [List.foldl_cons, hstep]
      refine ih ⟨by simp, fun x hx => ?_⟩ hrise
      obtain hx | rfl := by simpa using hx
      · have hxb := (hall x hx).1
        omega
      · omega
    · have hstep : betterOut f (some b) o = some b := if_neg hlt
      rw [List.foldl_cons, hstep]
      refine ih ⟨by simp [hmem], fun x hx => ?_⟩ hrise
      obtain hx | rfl := by simpa using hx
      · exact hall x hx
      · have hbx := hbelow b hmem
        omega

theorem minimalOuts_rising (s : State) (p : Pkt) : (minimalOuts s p).Pairwise (· < ·) :=
  List.Pairwise.filter _ (by decide)

/-- The output of an adaptive packet: the first of the minimal ones with the most room (R224). -/
theorem adaptiveOut_best {s : State} {p : Pkt} {o : Nat} (h : adaptiveOut s p = some o) :
    FirstBest (fun x => outFree s p.at_ x p.vc) (minimalOuts s p) o := by
  have hfold : (minimalOuts s p).foldl (betterOut fun x => outFree s p.at_ x p.vc) none = some o := h
  have hrise := minimalOuts_rising s p
  cases hl : minimalOuts s p with
  | nil => rw [hl] at hfold; exact absurd hfold (by simp)
  | cons b l =>
    rw [hl] at hfold hrise
    obtain ⟨a, ha, hbest⟩ := foldl_betterOut (fun x => outFree s p.at_ x p.vc) (m := [b]) (b := b)
      ⟨.head _, fun x hx => by obtain rfl := List.mem_singleton.1 hx; exact ⟨le_rfl, fun h => absurd h (lt_irrefl x)⟩⟩ hrise
    have hao : a = o := Option.some.inj (ha.symm.trans hfold)
    exact hao ▸ hbest

theorem mem_minimalOuts {s : State} {p : Pkt} {d : Dir} {j : Nat} (h : dirNo d ∈ minimalOuts s p) (hj : neighbour p.at_ d = some j) :
    hopDist j p.dstCore < hopDist p.at_ p.dstCore := by
  have hok := (List.mem_filter.1 h).2
  rw [dirOf_dirNo, hj] at hok
  exact of_decide_eq_true (Bool.and_eq_true_iff.1 hok).1

section
variable {s : State} {p : Pkt} {d : Dir} (hp : s.mesh.net.find? (fun q => q.id == p.id) = some p) (hhdr : hdrBad p = false)
  (hforward : p.mc.length ≤ 1 → forwardTo s p.at_ p.dstCore = none) (hkind : p.kind ≠ 7)
include hp hhdr hforward hkind

/-- A packet that merges with nothing and is not forwarded hops. -/
theorem packetHop_hops : exec (.packetHop p.id d) s = .next (hopPkt s p d) := by
  have hmerge : tryMerge s p = (s, p) := if_pos hkind
  rw [packetHop_merges d hp hhdr hforward, hmerge]

end

theorem hopPkt_taken {s : State} {p : Pkt} {d : Dir} {j : Nat} (hj : neighbour p.at_ d = some j)
    (hwants : wantsOut s p = some (dirNo d)) : hopPkt s p d =
    if p.vc ≠ 0 ∧ p.vc ≠ 2 ∧ dieOf j ≠ dieOf p.at_ ∧ isGap s (dieOf j) then gapDrop s p (dieOf j)
    else if outFree s p.at_ (dirNo d) p.vc < flitsOf p then stallPkt s p (dirNo d)
    else movePkt s p j (dirNo d) := by
  rw [hopPkt, hj]
  exact if_neg (not_not.2 hwants)

/-- A packet that moves takes its new place in the mesh; cores and stacks are as they were. -/
theorem movePkt_moved (s : State) (p : Pkt) (j o : Nat) :
    (movePkt s p j o).mesh.net = s.mesh.net.map (fun q =>
      if q.id = p.id then { p with at_ := j, inp := opposite o, waited := 0, cmark := max p.cmark (markLevel s p.at_ o p.vc) }
      else q) ∧ (movePkt s p j o).cores = s.cores ∧ (movePkt s p j o).hbms = s.hbms := by
  have hpeak (u : State) (k o vc : Nat) : (notePeak u k o vc).mesh = u.mesh ∧ (notePeak u k o vc).cores = u.cores ∧
      (notePeak u k o vc).hbms = u.hbms := by
    unfold notePeak
    dsimp only
    split <;> exact ⟨rfl, rfl, rfl⟩
  obtain ⟨hmesh, hcores, hhbms⟩ := hpeak
    (bumpRouter (putPkt s { p with at_ := j, inp := opposite o, waited := 0, cmark := max p.cmark (markLevel s p.at_ o p.vc) })
      p.at_ (6 * o + p.vc) (flitsOf p)) p.at_ o p.vc
  unfold movePkt
  dsimp only
  split <;> exact ⟨congrArg Mesh.net hmesh, hcores, hhbms⟩

theorem packetHops : Sys2Proof.Claims.PacketHops := by
  intro s p d j hp hhdr hforward hkind hvc hj o
  have hexec : exec (.packetHop p.id d) s = .next (hopPkt s p d) := packetHop_hops hp hhdr hforward hkind
  have hcol : ¬ (p.vc ≠ 0 ∧ p.vc ≠ 2 ∧ dieOf j ≠ dieOf p.at_ ∧ isGap s (dieOf j) = true) := fun ⟨h0, h2, _⟩ => hvc.elim h0 h2
  refine ⟨fun hwants hroom => ?_, fun hwants hroom => ?_, fun hwants => ?_⟩
  · have hadaptive : adaptiveOut s p = some o := by rw [← hwants, wantsOut, if_pos hvc]
    obtain ⟨hmem, hbest⟩ := adaptiveOut_best hadaptive
    obtain ⟨hnet, hcores, hhbms⟩ := movePkt_moved s p j o
    refine ⟨movePkt s p j o, ?_, hnet, mem_minimalOuts hmem hj, hbest, hcores, hhbms⟩
    rw [hexec, hopPkt_taken hj hwants, if_neg hcol]
    exact congrArg Host.Outcome.next (if_neg (Nat.not_lt.2 hroom))
  · rw [hexec, hopPkt_taken hj hwants, if_neg hcol]
    exact congrArg Host.Outcome.next (if_pos hroom)
  · rw [hexec, hopPkt_other hwants]

/-! ### The col, and bad headers (R220, R225 to R227) -/

theorem colEntry_eq {s : State} {p : Pkt} (hp : s.mesh.net.find? (fun q => q.id == p.id) = some p) : exec (.colEntry p.id) s =
    .next (if mayEnterCol s p then bumpRouter (putPkt s { p with vc := p.vc + 1, waited := 0 }) p.at_ 60 1 else s) := by
  rw [exec_colEntry, execColEntry, hp]

/-- What becomes of a packet with a reserved value in its header. -/
theorem badHeader_discards {s : State} {p : Pkt} (h : (coreAt s p.srcCore).suspect = none) :
    (∀ q ∈ (badHeader s p).mesh.net, q.id ≠ p.id) ∧ (coreAt (badHeader s p) p.srcCore).suspect = some 1 ∧
      tabGet (routerAt (badHeader s p) p.at_).ctr 64 0 = (tabGet (routerAt s p.at_).ctr 64 0 + 1) % 2 ^ 64 := by
  have hcore (u : State) (b code a0 a1 a2 k : Nat) : coreAt (basinEvent u b code a0 a1 a2) k = coreAt u k := rfl
  have hcores : coreAt (bumpRouter (discardAt s p.at_ p) p.at_ 64 1) p.srcCore = coreAt s p.srcCore := rfl
  unfold badHeader
  dsimp only
  rw [suspectCore_first 1 (by rw [hcore, hcores]; exact h)]
  refine ⟨fun q hq => ?_, ?_, ?_⟩
  · exact bne_iff_ne.1 (List.mem_filter.1 hq).2
  · rw [coreAt_putCore]
  · have hctr := ctr_bumpRouter (discardAt s p.at_ p) p.at_ 64 1
    rw [ctr_discardAt_ne s p.at_ p (by decide)] at hctr
    exact hctr

theorem colAndBadHeaders : Sys2Proof.Claims.ColAndBadHeaders := by
  intro s p hp entered bad
  refine ⟨fun hvc hat hnone => ?_, fun o hvc hat hwait hfull hcol hroom => ?_, fun hsome hwait => ?_,
    fun d j hhdr hforward hkind h0 h2 hj hwants hdie hgap => ?_, fun d hhdr hclear => ?_, fun hat hhdr hclear => ?_⟩
  · have hmay : mayEnterCol s p = true := by simp [mayEnterCol, hvc, hat, hnone]
    exact (colEntry_eq hp).trans (congrArg Host.Outcome.next (if_pos hmay))
  · have hall : (minimalOuts s p).all (fun o => decide (outFree s p.at_ o p.vc < flitsOf p)) = true :=
      List.all_eq_true.2 fun x hx => decide_eq_true (hfull x hx)
    have hmay : mayEnterCol s p = true := by simp [mayEnterCol, hvc, hat, hwait, hall, hcol, hroom]
    exact (colEntry_eq hp).trans (congrArg Host.Outcome.next (if_pos hmay))
  · have hmay : ¬ mayEnterCol s p = true := by simp [mayEnterCol, hsome, hwait]
    exact (colEntry_eq hp).trans (congrArg Host.Outcome.next (if_neg hmay))
  · rw [packetHop_hops hp hhdr hforward hkind, hopPkt_taken hj hwants]
    exact congrArg Host.Outcome.next (if_pos ⟨h0, h2, hdie, hgap⟩)
  · refine ⟨badHeader s p, ?_, badHeader_discards hclear⟩
    rw [exec_packetHop, execPacketHop, hp]
    exact congrArg Host.Outcome.next (if_pos hhdr)
  · refine ⟨badHeader s p, ?_, badHeader_discards hclear⟩
    rw [exec_packetEject, execPacketEject, hp]
    exact congrArg Host.Outcome.next ((if_neg (not_not.2 hat)).trans (if_pos hhdr))

/-! ### Ejection (R22, R222, R231, R234) -/

/-- The state once the packet `p` has left its router. -/
def ejected (s : State) (p : Pkt) : State := bumpRouter (discardAt s p.at_ p) p.at_ (24 + p.vc) (flitsOf p)

section
variable {s : State} {p : Pkt} (hp : s.mesh.net.find? (fun q => q.id == p.id) = some p) (hat : p.at_ = p.dstCore)
  (hhdr : hdrBad p = false)
include hp hat hhdr

/-- A packet at its destination that is no multicast, not forwarded, and for no port's engine by its request unit. -/
theorem packetEject_leaves (hvc : p.vc ≠ 5) (hforward : p.dtype ≤ 1 → forwardTo s p.at_ p.dstCore = none)
    (hunit : p.reqUnit < 16) : exec (.packetEject p.id) s = .next
    (if p.dtype = 2 then
        putHbm (ejected s p) p.dst { hbmAt (ejected s p) p.dst with inQ := (hbmAt (ejected s p) p.dst).inQ ++ [p] }
      else if p.dtype = 3 then
        (if p.dst < 24 then
          putPort (ejected s p) p.dst { portAt (ejected s p) p.dst with inQ := (portAt (ejected s p) p.dst).inQ ++ [p] }
          else ejected s p)
      else deliverCore (ejected s p) p.at_ p) := by
  have hnone : (if p.dtype ≤ 1 ∧ p.reqUnit < 16 then forwardTo s p.at_ p.dstCore else none) = none := by
    split
    · next h => exact hforward h.1
    · rfl
  rw [exec_packetEject, execPacketEject, hp]
  dsimp only
  rw [if_neg (not_not.2 hat), if_neg (Bool.eq_false_iff.1 hhdr), if_neg hvc, hnone]
  dsimp only
  rw [if_neg (c := 16 ≤ p.reqUnit ∧ (p.kind = 2 ∨ p.kind = 3)) (by omega)]
  rfl

/-- A multicast packet at a target. -/
theorem packetEject_copies (hvc : p.vc = 5) : exec (.packetEject p.id) s = .next (leaveCopy s p) := by
  rw [exec_packetEject, execPacketEject, hp]
  dsimp only
  rw [if_neg (not_not.2 hat), if_neg (Bool.eq_false_iff.1 hhdr), if_pos hvc]

end

section
variable {s : State} {k : Nat} {p : Pkt} (hlive : (coreAt s k).held = false)
include hlive

/-- Requests for the slot that a core runs wait at its service port (R141). -/
theorem deliverCore_request (hslot : (coreAt s k).slot = some p.dst) (hkind : p.kind = 0) :
    deliverCore s k p = putCore s k { coreAt s k with svc := (coreAt s k).svc ++ [p] } := by
  unfold deliverCore
  dsimp only
  rw [if_neg (Bool.eq_false_iff.1 hlive), if_neg (by simp [hslot])]
  simp only [hkind]

/-- Messages, contributions and credits for it have arrived (R171). -/
theorem deliverCore_message (hslot : (coreAt s k).slot = some p.dst) (h4 : 4 ≤ p.kind) (h7 : p.kind ≤ 7) :
    deliverCore s k p = putCore s k { coreAt s k with arr := (coreAt s k).arr ++ [p] } := by
  unfold deliverCore
  dsimp only
  rw [if_neg (Bool.eq_false_iff.1 hlive), if_neg (by simp [hslot])]
  obtain h | h | h | h : p.kind = 4 ∨ p.kind = 5 ∨ p.kind = 6 ∨ p.kind = 7 := by omega
  all_goals simp only [h]

theorem deliverCore_other (htype : p.dtype = 0) (hslot : (coreAt s k).slot ≠ some p.dst) :
    deliverCore s k p = misdeliver s k := by
  unfold deliverCore
  dsimp only
  rw [if_neg (Bool.eq_false_iff.1 hlive), if_pos ⟨htype, hslot⟩]

end

/-- A packet for another slot makes its core suspect and reaches none of its units (R22). -/
theorem misdeliver_core {s : State} {k : Nat} (h : (coreAt s k).suspect = none) : coreAt (misdeliver s k) k =
    { coreAt s k with misdeliver := ((coreAt s k).misdeliver + 1) % 2 ^ 64, suspect := some 1 } := by
  have hcore (n code basins slot tslot ep tag core a0 a1 a2 : Nat) (c : Core) :
      coreAt (postEvent (putCore s k c) n code basins slot tslot ep tag core a0 a1 a2) k = c := coreAt_putCore s k c
  unfold misdeliver
  dsimp only
  rw [suspectCore_first 1 (by rw [hcore]; exact h), coreAt_putCore, hcore]

theorem misdeliver_mesh (s : State) (k : Nat) : (misdeliver s k).mesh = s.mesh := by
  unfold misdeliver suspectCore
  dsimp only
  split <;> rfl

theorem packetEjected : Sys2Proof.Claims.PacketEjected := by
  intro s p hp hat hvc hhdr hforward hunit k c left
  have hexec := packetEject_leaves hp hat hhdr hvc hforward hunit
  have hcore : coreAt (ejected s p) k = c := rfl
  have hstack : hbmAt (ejected s p) p.dst = hbmAt s p.dst := rfl
  have hport : portAt (ejected s p) p.dst = portAt s p.dst := rfl
  have hcores : (ejected s p).cores = s.cores := rfl
  have hnet : left (ejected s p) := rfl
  rw [hstack, hport] at hexec
  generalize ejected s p = u at *
  have hdeliver (htype : p.dtype = 0) : exec (.packetEject p.id) s = .next (deliverCore u k p) := by
    exact hexec.trans (congrArg Host.Outcome.next ((if_neg (by omega)).trans (if_neg (by omega))))
  refine ⟨fun htype hlive hslot hkind => ?_, fun htype hlive hslot h4 h7 => ?_, fun htype hlive hslot hclear => ?_,
    fun htype => ?_, fun htype hdst => ?_⟩
  · rw [← hcore] at hlive hslot
    have ht := (hdeliver htype).trans (congrArg _ (deliverCore_request hlive hslot hkind))
    rw [hcore] at ht
    exact ⟨_, ht, hnet, coreAt_putCore _ _ _⟩
  · rw [← hcore] at hlive hslot
    have ht := (hdeliver htype).trans (congrArg _ (deliverCore_message hlive hslot h4 h7))
    rw [hcore] at ht
    exact ⟨_, ht, hnet, coreAt_putCore _ _ _⟩
  · have hmis := misdeliver_core (s := u) (k := k) (by rw [hcore]; exact hclear)
    rw [hcore] at hmis
    rw [← hcore] at hlive hslot
    refine ⟨misdeliver u k, (hdeliver htype).trans (congrArg _ (deliverCore_other hlive htype hslot)),
      (congrArg Mesh.net (misdeliver_mesh u k)).trans hnet, ?_⟩
    rw [hmis]
    exact ⟨rfl, rfl, rfl, rfl⟩
  · exact ⟨_, hexec.trans (congrArg Host.Outcome.next (if_pos htype)), hnet, hbmAt_putHbm _ _ _, hcores⟩
  · refine ⟨_, hexec.trans (congrArg Host.Outcome.next ((if_neg (by omega)).trans ((if_pos htype).trans (if_pos hdst)))), hnet,
      portAt_putPort _ _ _, hcores⟩

/-! ### Copies of a multicast (R231, R234) -/

theorem lineRest_last {s : State} {p : Pkt} {a : Nat × Nat} (h : p.mc = [a]) : lineRest s p = none := by
  rw [lineRest, h]
  rfl

theorem lineRest_next {s : State} {p : Pkt} {a b : Nat × Nat} {l : List (Nat × Nat)} {j : Nat} (h : p.mc = a :: b :: l)
    (hj : placedAt s (basinOf p.srcCore) p.epoch b.1 = some j) :
    lineRest s p = some { p with mc := b :: l, dst := b.1, dstEp := b.2, line := true, dstCore := j } := by
  have hdrop : (p.mc.drop 1).dropWhile (fun t => (placedAt s (basinOf p.srcCore) p.epoch t.1).isNone) = b :: l := by
    rw [h]
    exact List.dropWhile_cons_of_neg (by rw [hj]; simp)
  rw [lineRest, hdrop]
  dsimp only
  rw [hj]
  rfl

/-- What the mesh holds once a packet has left a copy: what is left of it, or nothing. -/
def afterCopy (s : State) (p : Pkt) : State :=
  match lineRest s p with
  | none => bumpRouter (discardAt (bumpRouter s p.at_ 62 1) p.at_ p) p.at_ (24 + p.vc) (flitsOf p)
  | some q => putPkt (bumpRouter s p.at_ 62 1) q

theorem leaveCopy_eq {s : State} {p : Pkt} (h : forwardTo s p.at_ p.dstCore = none) :
    leaveCopy s p = deliverCore (afterCopy s p) p.at_ { p with mc := [] } := by
  rw [leaveCopy, h]
  rfl

/-- A copy delivered beside what is left of its packet. -/
theorem leaveCopy_delivers {s u : State} {p : Pkt} (hforward : forwardTo s p.at_ p.dstCore = none)
    (hu : afterCopy s p = u) (hcore : coreAt u p.at_ = coreAt s p.at_)
    (hlive : (coreAt s p.at_).held = false) (hslot : (coreAt s p.at_).slot = some p.dst) (hkind : p.kind = 4 ∨ p.kind = 5) :
    leaveCopy s p = putCore u p.at_
      { coreAt s p.at_ with arr := (coreAt s p.at_).arr ++ [{ p with mc := [] }] } := by
  have hmessage := deliverCore_message (s := u) (k := p.at_) (p := { p with mc := [] }) (by rw [hcore]; exact hlive)
    (by rw [hcore]; exact hslot) (show 4 ≤ p.kind by omega) (show p.kind ≤ 7 by omega)
  rw [leaveCopy_eq hforward, hu, hmessage, hcore]

theorem multicastCopies : Sys2Proof.Claims.MulticastCopies := by
  intro s p a b l j hp hat hvc hhdr hforward htype hkind k c copied hlive hslot
  have hexec := packetEject_copies hp hat hhdr hvc
  have hcounted : tabGet (routerAt (bumpRouter s k 62 1) k).ctr 62 0 = (tabGet (routerAt s k).ctr 62 0 + 1) % 2 ^ 64 :=
    ctr_bumpRouter s k 62 1
  refine ⟨fun hmc => ?_, fun hmc hplace => ?_⟩
  · have hleave := leaveCopy_delivers (u := bumpRouter (discardAt (bumpRouter s k 62 1) k p) k (24 + p.vc) (flitsOf p))
      hforward (by rw [afterCopy, lineRest_last hmc]) rfl hlive hslot hkind
    refine ⟨_, hexec.trans (congrArg Host.Outcome.next hleave), ⟨coreAt_putCore _ _ _, ?_⟩, rfl⟩
    rw [← hcounted, ← ctr_discardAt_ne (bumpRouter s k 62 1) k p (by decide : 62 < 75)]
    exact ctr_bumpRouter_ne _ k _ (by omega)
  · have hleave := leaveCopy_delivers (u := putPkt (bumpRouter s k 62 1)
        { p with mc := b :: l, dst := b.1, dstEp := b.2, line := true, dstCore := j })
      hforward (by rw [afterCopy, lineRest_next hmc hplace]) rfl hlive hslot hkind
    exact ⟨_, hexec.trans (congrArg Host.Outcome.next hleave), ⟨coreAt_putCore _ _ _, hcounted⟩, rfl⟩

/-- Settles O29: each packet command by the branch of its router that the premises take. -/
theorem meshPackets : Obligations.MeshPackets :=
  ⟨packetInjected, slotUnmapped, packetHops, colAndBadHeaders, packetEjected, multicastCopies⟩

end Sys2Proof.Machine

/-! PROOFS. Station code and engine commands complete (O60). -/

namespace Sys2Proof.Machine

/-! ### A command that ends with a core -/

/-- A command that leaves core `k` as `d` completes with what holds of `d`. -/
theorem completes {i : Instr} {s : State} {k : Nat} {d : Core} (P : Core → Prop) (h : exec i s = .next (putCore s k d))
    (hd : P d) : ∃ u, exec i s = .next u ∧ P (coreAt u k) :=
  ⟨_, h, by rw [coreAt_putCore]; exact hd⟩

/-- A command that leaves slot `j` of core `k` as `t` completes with what holds of `t`. -/
theorem slot_completes {i : Instr} {s : State} {k j : Nat} {d : Core} {t : Slot} (P : Slot → Prop)
    (h : exec i s = .next (putCore s k (putSlot d j t))) (ht : P t) : ∃ u, exec i s = .next u ∧ P (slotAt (coreAt u k) j) :=
  completes (fun d => P (slotAt d j)) h (by rw [slotAt_putSlot]; exact ht)

/-! ### Operations of station code (R195 to R197, R204, R247 to R249) -/

section
variable {s : State} {k i : Nat} {w : BitVec 128} (h : IssuesAt s k i w)
include h

/-- The operations on a slot's registers. -/
theorem registerOps_complete :
    let t := slotAt (coreAt s k) i
    let past (u : State) (n : Nat) : Prop := (slotAt (coreAt u k) i).pc = t.pc + n
    let reg (u : State) : W64 := idxAt (slotAt (coreAt u k) i) (opA w)
    (opOp w = 0x00 → ∃ u, exec (.codeNop k i) s = .next u ∧ past u 1) ∧
    (opOp w = 0x07 → opA w ≤ 3 → ∃ u, exec (.seti k i) s = .next u ∧ past u 1 ∧ reg u = BitVec.ofNat 64 (opD w)) ∧
    (opOp w = 0x08 → opA w ≤ 3 → opC w = 0 → ∃ u, exec (.addi k i) s = .next u ∧ past u 1 ∧
      reg u = BitVec.ofNat 64 ((idxAt t (opA w)).toNat + opD w)) ∧
    (opOp w = 0x0A → opA w ≤ 3 → opD w ≤ (idxAt t (opA w) + 1).toNat → opC w < codeLen (coreAt s k) →
      codeMarked (coreAt s k) (opC w) = true → ∃ u, exec (.loop k i) s = .next u ∧ past u 1 ∧ reg u = idxAt t (opA w) + 1) ∧
    (opOp w = 0x06 → opA w ≤ 4 → opC w ≤ waitCount (coreAt s k) i (opA w) (opB w) →
      ∃ u, exec (.wait k i) s = .next u ∧ past u 1) := by
  intro t past reg
  obtain ⟨hnop, hseti, haddi, hloop, -, -, hwait⟩ := stationRegisterOps s k i w h
  refine ⟨fun hop => slot_completes (fun x => x.pc = t.pc + 1) (hnop hop) rfl, fun hop ha => ?_, fun hop ha hc => ?_,
    fun hop ha hd hc hmark => ?_, fun hop ha hc => ?_⟩
  · exact slot_completes (fun x => x.pc = t.pc + 1 ∧ idxAt x (opA w) = BitVec.ofNat 64 (opD w)) (hseti hop ha)
      ⟨rfl, tabGet_tabSet_self _ _ _ _⟩
  · have hadd := haddi hop ha
    rw [if_pos hc] at hadd
    exact slot_completes (fun x => x.pc = t.pc + 1 ∧ idxAt x (opA w) = BitVec.ofNat 64 ((idxAt t (opA w)).toNat + opD w)) hadd
      ⟨rfl, tabGet_tabSet_self _ _ _ _⟩
  · exact slot_completes (fun x => x.pc = t.pc + 1 ∧ idxAt x (opA w) = idxAt t (opA w) + 1) (hloop hop ha hd hc hmark)
      ⟨rfl, tabGet_tabSet_self _ _ _ _⟩
  · have hgo := hwait hop (.inl ha)
    rw [if_pos (.inl hc)] at hgo
    exact slot_completes (fun x => x.pc = t.pc + 1) hgo rfl

/-- END. -/
theorem endOp_completes (hop : opOp w = 0x0D) (hproof : proofRun s (dieOf k) = false) :
    ∃ u, exec (.endOp k i false) s = .next u ∧
      (slotAt (coreAt u k) i).firing = (slotAt (coreAt s k) i).firing + 1 := by
  obtain ⟨hexec, hmay, hnot, -⟩ := stationEnd s k i w h hop hproof
  refine completes (fun d => (slotAt d i).firing = (slotAt (coreAt s k) i).firing + 1) hexec ?_
  cases hfire : mayFire s k (coreAt s k) ((slotAt (coreAt s k) i).firing + 1) with
  | true => exact (hmay hfire).2.1
  | false => exact (hnot hfire).2.1

/-- Sends of a slot on an endpoint that it owns. -/
theorem sends_complete (ha : opA w < 32)
    (hkind : outKind (outAt (coreAt s k) (opA w)) = 1 ∨ outKind (outAt (coreAt s k) (opA w)) = 2)
    (howner : outOwner (outAt (coreAt s k) (opA w)) = i) :
    let c := coreAt s k
    let past (u : State) (n : Nat) : Prop := (slotAt (coreAt u k) i).pc = (slotAt c i).pc + n
    let waits (u : State) : Nat := (outAt (coreAt u k) (opA w)).sendQ.length
    let m := payload c i 1
    (opOp w = 0x05 → ∃ u, exec (.sendt k i) s = .next u ∧ past u 1 ∧ waits u = (outAt c (opA w)).sendQ.length + 1) ∧
    (∀ b, opOp w = 0x04 → (bits m 41 40 = 1 ∨ bits m 41 40 = 2) → bits m 47 42 = 0 → bits m 127 88 = 0 →
      imgBasin s k (bits m 39 36) = some b →
      ∃ u, exec (.sendd k i) s = .next u ∧ past u 2 ∧ waits u = (outAt c (opA w)).sendQ.length + 1) := by
  intro c past waits m
  obtain ⟨hsendt, hsendd⟩ := stationSends s k i w h ha hkind howner
  have hwaits (x : OutEp) (t : Slot) : outAt (putSlot (putOut c (opA w) x) i t) (opA w) = x := outAt_putOut c (opA w) x
  refine ⟨fun hop => ?_, fun b hop hspace hz hz' hb => ?_⟩
  · refine completes (fun d => (slotAt d i).pc = (slotAt c i).pc + 1 ∧
      (outAt d (opA w)).sendQ.length = (outAt c (opA w)).sendQ.length + 1) (hsendt hop) ⟨by rw [slotAt_putSlot], ?_⟩
    rw [hwaits, List.length_append]
    rfl
  · refine completes (fun d => (slotAt d i).pc = (slotAt c i).pc + 2 ∧
      (outAt d (opA w)).sendQ.length = (outAt c (opA w)).sendQ.length + 1) (hsendd b hop hspace hz hz' hb)
      ⟨by rw [slotAt_putSlot], ?_⟩
    rw [hwaits, List.length_append]
    rfl

end

/-- A SYNC operation that leaves slot `i` of core `k` as `t` and the packets `l` behind those in the sync mesh. -/
theorem sync_completes {ins : Instr} {s u : State} {k i n : Nat} {d : Core} {t : Slot} {l : List SyncPkt}
    (h : exec ins s = .next u) (hcore : coreAt u k = putSlot d i t) (hsync : u.mesh.sync = s.mesh.sync ++ l)
    (hpc : t.pc = n) : ∃ u, exec ins s = .next u ∧
      ((slotAt (coreAt u k) i).pc = n ∧ u.mesh.sync.length = s.mesh.sync.length + l.length) :=
  ⟨u, h, by rw [hcore, slotAt_putSlot, hpc], by rw [hsync, List.length_append]⟩

/-- The SYNC operations on an object of the slot's layout. -/
theorem syncOps_complete {s : State} {k i h : Nat} {w : BitVec 128} {e : SyncEnt} {d : Core} (hissue : IssuesAt s k i w)
    (hop : opOp w = 0x0B) (hlive : (coreAt s k).replay = none) (hbasin : imgBasin s k (bits (opB w) 11 8) = some h)
    (hent : syncEntry (coreAt s k) (syncKey h (bits (opB w) 7 0)) = some (e, d)) :
    let on (u : State) (n : Nat) : Prop :=
      (slotAt (coreAt u k) i).pc = (slotAt d i).pc + 1 ∧ u.mesh.sync.length = s.mesh.sync.length + n
    (opA w = 0 → ∃ u, exec (.arrive k i) s = .next u ∧ on u 1) ∧ (opA w = 1 → ∃ u, exec (.syncWait k i) s = .next u ∧ on u 0) ∧
    (opA w = 2 → ∃ u, exec (.arriveWait k i) s = .next u ∧ on u 1) ∧ (opA w = 3 → ∃ u, exec (.post k i) s = .next u ∧ on u 1) ∧
    (opA w = 4 → ∃ u, exec (.take k i) s = .next u ∧ on u 1) := by
  intro on
  obtain ⟨harrive, hgo, hhold, hboth, hbothGo, hpost, htake⟩ := syncOperations s k i h w e d hissue hop hlive hbasin hent
  have hnothing : s.mesh.sync = s.mesh.sync ++ [] := (List.append_nil _).symm
  refine ⟨fun ha => ?_, fun ha => ?_, fun ha => ?_, fun ha => ?_, fun ha => ?_⟩
  · exact sync_completes (harrive ha) (coreAt_putCore s k _) rfl rfl
  · by_cases hlast : tabGet e.last i 0 = tabGet e.next i 0
    · exact sync_completes (hgo ha hlast) (coreAt_putCore s k _) hnothing rfl
    · exact sync_completes (hhold ha hlast) (coreAt_putCore s k _) hnothing rfl
  · by_cases hlast : tabGet e.last i 0 = tabGet (tabSet e.next i ((tabGet e.next i 0 + 1) % 65536)) i 0
    · exact sync_completes (hbothGo ha hlast) (coreAt_putCore s k _) rfl rfl
    · exact sync_completes (hboth ha hlast) (coreAt_putCore s k _) rfl rfl
  · exact sync_completes (hpost ha) (coreAt_putCore s k _) rfl rfl
  · exact sync_completes (htake ha) (coreAt_putCore s k _) rfl rfl

theorem codeCompletes : Sys2Proof.Claims.CodeCompletes := by
  intro s k i w c t past reg
  obtain ⟨hmxc, -, hvcc, hsdc, -⟩ := stationIssue s k i
  refine ⟨fun h => ?_, fun hturn hroom => ?_, fun hturn hroom => ?_, fun e => ?_, fun hk hstation hfires hbegun hended hidle hlive hrates => ?_⟩
  · obtain ⟨hnop, hseti, haddi, hloop, hwait⟩ := registerOps_complete h
    refine ⟨hnop, hseti, haddi, hloop, hwait, fun n v hop hsrc hpay hfits => ?_, fun ecc hop hwin hbanks => ?_,
      endOp_completes h, sends_complete h, fun b e d hop hlive hbasin hent => syncOps_complete h hop hlive hbasin hent⟩
    · exact slot_completes (fun x => x.pc = t.pc + 1 ∧ x.adj = t.adj ++ [(opB w % 1024, opB w / 1024 + 1, v * opC w)])
        (stationAdjust s k i n v w h hop hsrc hpay hfits).1 ⟨rfl, rfl⟩
    · obtain ⟨u, hexec, hpc, -⟩ := stationDropReport s k i w ecc h hop hwin hbanks
      exact ⟨u, hexec, hpc⟩
  · exact completes (fun d => (slotAt d i).pc = t.pc + 3 ∧ d.mxq.length = c.mxq.length + 1) (hmxc hturn hroom)
      ⟨congrArg Slot.pc (slotAt_putSlot c i _), List.length_append⟩
  · exact completes (fun d => (slotAt d i).pc = t.pc + 7 ∧ d.vcq.length = c.vcq.length + 1) (hvcc hturn hroom)
      ⟨congrArg Slot.pc (slotAt_putSlot c i _), List.length_append⟩
  · intro d q hk hturn hvalid hroom htrans
    refine completes (fun x => (slotAt x i).pc = t.pc + 5 ∧ q x = q c + 1) (hsdc hk hturn hvalid hroom e htrans)
      ⟨congrArg Slot.pc (slotAt_putSlot c i _), ?_⟩
    exact (congrArg (fun x : Strm => x.q.length) (strmAt_putStrm _ (sdUnit d) _)).trans List.length_append
  · obtain ⟨hdone, -⟩ := firingCompletes s k hk hstation hfires hbegun hended hidle
    obtain ⟨r, hexec, hfiring, -⟩ := hdone hlive hrates
    exact completes (fun d => d.firing = c.firing + 1) hexec hfiring

/-! ### Commands of the engines (R42 to R60, R99 to R101) -/

/-- An observation changes no core (R92). -/
theorem coreAt_applyEvs_obs (k j : Nat) (s : State) (l : Option Layout) (step tensor : Nat) (ns : List Narrowed) :
    coreAt (applyEvs k s [obsEv l step tensor ns]) j = coreAt s j := by
  have hobs (amax : Option Int) (sn se iv an : Nat) : coreAt (applyEv k s (.obs step tensor amax sn se iv an)) j = coreAt s j := by
    unfold applyEv
    split <;> rfl
  exact hobs _ _ _ _ _

section
variable {s : State} {k : Nat} (hk : k < nCores) (hlive : (coreAt s k).held = false)
include hk hlive

theorem matrix_completes {r : MxRun} (hrun : (coreAt s k).mxRun = some r) (hfault : mxFault (coreAt s k) r.ent = none) :
    (mxOpc r.ent.cmd = 0 → ∃ u, exec (.mxNop k) s = .next u ∧ (coreAt u k).mxRun = none ∧
      (coreAt u k).tiles = (coreAt s k).tiles) ∧
    (mxOpc r.ent.cmd = 3 → ∃ u, exec (.mxClear k) s = .next u ∧ (coreAt u k).mxRun = none ∧
      (tileAt (coreAt u k) (mxTile r.ent.cmd)).acc = []) ∧
    (mxOpc r.ent.cmd = 2 → ∃ u, exec (.mxDrain k) s = .next u ∧ (coreAt u k).mxRun = none ∧
      (coreAt u k).drains.length = (coreAt s k).drains.length + 1) := by
  obtain ⟨hnop, hclear, hdrain⟩ := matrixPlainCommands s k r hk hlive hrun hfault
  refine ⟨fun hop => ?_, fun hop => ?_, fun hop => ?_⟩
  · obtain ⟨d, hexec, hdone, htiles, -⟩ := hnop hop
    exact completes (fun d => d.mxRun = none ∧ d.tiles = (coreAt s k).tiles) hexec ⟨hdone, htiles⟩
  · obtain ⟨d, hexec, hdone, htile, -⟩ := hclear hop
    exact completes (fun d => d.mxRun = none ∧ (tileAt d (mxTile r.ent.cmd)).acc = []) hexec ⟨hdone, by rw [htile]⟩
  · obtain ⟨d, hexec, hdone, -, hdrains, -⟩ := hdrain hop
    exact completes (fun d => d.mxRun = none ∧ d.drains.length = (coreAt s k).drains.length + 1) hexec
      ⟨hdone, by rw [hdrains, List.length_append]; rfl⟩

theorem drains_complete {d : Drain} {rest : List Drain} (hdrains : (coreAt s k).drains = d :: rest) :
    (d.running = false → drainEmpty d.ent.cmd = false →
      ∃ u, exec (.mxDrainStart k) s = .next u ∧ (coreAt u k).drains = { d with running := true } :: rest) ∧
    (∀ f, d.running = true → mxDrainTo d.ent.cmd = 0 → (coreAt s k).drainQ.length < 8 →
      fmtOfDrain (mxDrainFmt d.ent.cmd) = some f → d.row + 1 < mxM d.ent.cmd → f.isInt = false →
      ∃ u, exec (.mxDrainRow k false) s = .next u ∧ (coreAt u k).drainQ.length = (coreAt s k).drainQ.length + 1) := by
  obtain ⟨hstart, -, -, -, -, hrow⟩ := matrixDrainUnit s k d rest hk hlive hdrains
  refine ⟨fun hrun hrows => ?_, fun f hrun hto hroom hfmt hmore hint => ?_⟩
  · exact completes (fun c => c.drains = { d with running := true } :: rest) (hstart hrun hrows) rfl
  · refine ⟨_, hrow f hrun hto hroom hfmt hmore hint, ?_⟩
    rw [coreAt_applyEvs_obs, coreAt_putCore, List.length_append]
    rfl

theorem vector_completes {e : VcEnt} {rest : List VcEnt} (hidle : (coreAt s k).vcRun = none)
    (hq : (coreAt s k).vcq = e :: rest) :
    let c := coreAt s k
    (vcOpc e.cmd = 0 → ∃ u, exec (.vcNop k) s = .next u ∧ (coreAt u k).vcq = rest) ∧
    (vcOpc e.cmd = 4 → ∃ u, exec (.sets k) s = .next u ∧ (coreAt u k).vcq = rest) ∧
    (vcOpc e.cmd = 1 → chainValid e.cmd = true → staticForm e.cmd = false → vcN e.cmd ≠ 0 → misport c 2 (vcNames e.cmd 2) = none →
      misport c 3 (vcNames e.cmd 3) = none →
      ∃ u, exec (.chain k) s = .next u ∧ (coreAt u k).vcq = rest ∧ (coreAt u k).vcRun.map (·.ent) = some e) ∧
    (vcOpc e.cmd = 2 → vcXSrc e.cmd ≤ 2 → 4 ≤ countFrom (vcSrcX e.cmd) c.vx →
      (takeFrom (vcSrcX e.cmd) 4 c.vx).1.any (·.poison) = false →
      ∃ u, exec (.loadc k) s = .next u ∧ (coreAt u k).vcq = rest) ∧
    (vcOpc e.cmd = 3 → vcXSrc e.cmd ≤ 2 → 49 ≤ countFrom (vcSrcX e.cmd) c.vx →
      (takeFrom (vcSrcX e.cmd) 49 c.vx).1.any (·.poison) = false → (lutAt c (vcTarget e.cmd)).owner = some e.slot →
      ∃ u, exec (.loadlut k) s = .next u ∧ (coreAt u k).vcq = rest) := by
  intro c
  obtain ⟨hnop, hsets, hchain, -⟩ := vectorHeadCommands s k e rest hk hlive hidle hq
  refine ⟨fun hop => ?_, fun hop => ?_, fun hop hvalid hform hn h2 h3 => ?_, fun hop hx hcount hclean => ?_,
    fun hop hx hcount hclean howner => ?_⟩
  · obtain ⟨d, hexec, hrest, -⟩ := hnop hop
    exact completes (fun d => d.vcq = rest) hexec hrest
  · obtain ⟨d, hexec, hrest, -⟩ := hsets hop
    exact completes (fun d => d.vcq = rest) hexec hrest
  · exact completes (fun d => d.vcq = rest ∧ d.vcRun.map (·.ent) = some e) (hchain hop hvalid hform ⟨h2, h3⟩ hn) ⟨rfl, rfl⟩
  · obtain ⟨hloadc, -⟩ := vectorLoads s k e rest hk hlive hidle hq hx
    obtain ⟨d, hexec, -, hrest, -⟩ := hloadc hop hcount hclean
    exact completes (fun d => d.vcq = rest) hexec hrest
  · obtain ⟨-, hloadlut, -⟩ := vectorLoads s k e rest hk hlive hidle hq hx
    obtain ⟨d, hexec, -, hrest, -⟩ := hloadlut hop hcount hclean howner
    exact completes (fun d => d.vcq = rest) hexec hrest

end

theorem enginesComplete : Sys2Proof.Claims.EnginesComplete := by
  intro s k hk hlive c
  refine ⟨fun e rest hidle hq hop hhazard hunder => ?_, fun r hrun hfault => matrix_completes hk hlive hrun hfault,
    fun r hrun hws hvalid hload htiles hbeats => ?_, fun r p hrun hop hmode hpair hvalid hdrain hcleared hpoison htold hload hrows
      hlast hcount hclean => ?_, fun d rest hdrains => (drains_complete hk hlive hdrains).1,
    fun d rest f hdrains => (drains_complete hk hlive hdrains).2 f, fun e rest hidle hq => vector_completes hk hlive hidle hq,
    fun r => ?_⟩
  · obtain ⟨-, hstart, -⟩ := matrixStart s k e rest hk hlive hidle
    obtain ⟨d, hexec, hrest, hrun, -⟩ := hstart hq hop hhazard hunder
    exact completes (fun d => d.mxq = rest ∧ d.mxRun.map (·.ent) = some e) hexec ⟨hrest, by rw [hrun]; rfl⟩
  · obtain ⟨d, hexec, hweights, -⟩ := matrixShadowSwap s k r hk hlive hrun hws hvalid hload htiles hbeats
    exact completes (fun d => d.weights = (fillShadow c).shadow.take (bTileBeats (mxPair r.ent.cmd))) hexec hweights
  · obtain ⟨d, hexec, hdone, -⟩ := matrixWeightStationary s k r p hk hlive hrun hop hmode hpair hvalid hdrain hcleared hpoison htold
      hload hrows hlast hcount hclean
    exact completes (fun d => d.mxRun = none) hexec hdone
  · intro cmd v hheld hrun hop hx hfmt hy hstages hopc hpred hsave hb hz hred hout hn hn' hvec hpoison hcount hclean
    obtain ⟨d, hexec, hdone, hleft, -⟩ := vectorOneStage s k r hk hlive hheld hrun hop hx hfmt hy hstages hopc hpred hsave hb hz hred
      hout hn hn' hvec hpoison hcount hclean
    exact completes (fun d => d.vcRun = none ∧ d.vx = (takeFrom (vcSrcX cmd) 4 c.vx).2) hexec ⟨hdone, hleft⟩

end Sys2Proof.Machine

/-! PROOFS. Streamers, channels, meshes and accesses complete (O60). -/

namespace Sys2Proof.Machine

theorem tabHas_tabSet {α : Type} (t : Tab α) (k : Nat) (v : α) : tabHas (tabSet t k v) k = true := by
  fun_induction tabSet t k v with
  | case1 => simp [tabHas]
  | case2 => simp [tabHas]
  | case3 => simp [tabHas]
  | case4 j w t k v hlt hne ih => exact Bool.or_eq_true_iff.2 (.inr ih)

/-! ### Streamers and channels (R130 to R176) -/

section
variable {s : State} {k u : Nat} (hk : k < nCores)
include hk

/-- The scratchpad's own commands, the service port and the clearing of a HELD core. -/
theorem scratchpad_completes :
    let c := coreAt s k
    (∃ t, exec (.ceWriteBack k) s = .next t ∧ (coreAt t k).wbq = c.wbq.drop 1) ∧
    (∀ a, nextScrub c (c.scrubPos % spSize) = some a → isW c a = false →
      ∃ t, exec (.patrolScrub k []) s = .next t ∧ (coreAt t k).scrubPos = (a + 64) % spSize) ∧
    (c.held = true → (basinAt s (basinOf k)).resetting = false → ∃ t, exec (.coreClear k) s = .next t ∧ (coreAt t k).held = false) ∧
    (∀ p, c.svc = [p] → svcHeld c p = false → svcRefused c p = false → banksOn c (svcAddr c p) p.len = true → p.kind = 0 →
      (spPeek c (svcAddr c p) p.len).any (·.2) = false → ∃ t, exec (.remoteAccess k []) s = .next t ∧ (coreAt t k).svc = []) := by
  intro c
  refine ⟨?_, fun a hscrub hclass => ?_, fun hheld hreset => ?_, fun p hsvc hfree hpass hbanks hkind hclean => ?_⟩
  · exact completes (fun d => d.wbq = c.wbq.drop 1) (scratchpadUpkeep s k 0 hk).1 rfl
  · obtain ⟨⟨d, hexec, hpos, -⟩, -⟩ := (scratchpadUpkeep s k a hk).2 hscrub hclass
    exact completes (fun d => d.scrubPos = (a + 64) % spSize) hexec hpos
  · obtain ⟨d, hexec, -, hclear, -⟩ := (coreCleared s k hk).1 hheld hreset
    exact completes (fun d => d.held = false) hexec hclear
  · obtain ⟨-, hread, -⟩ := remoteAccesses s k p hk hsvc hfree
    obtain ⟨d, hexec, hdone, -⟩ := hread hpass hbanks hkind hclean
    exact completes (fun d => d.svc = []) hexec hdone

variable (hlive : (coreAt s k).held = false)
include hlive

/-- Descriptors at the head of a streamer. -/
theorem descriptors_complete {e : SdEnt} {rest : List SdEnt} (hu : u ≤ 2) (hq : (strmAt (coreAt s k) u).q = e :: rest)
    (hmade : e.made = false) (hbegun : e.begun = false) :
    let x := strmAt (coreAt s k) u
    let begun (t : State) : Prop := (strmAt (coreAt t k) u).q = { e with begun := true } :: rest
    (sdOpc e.d = 1 → sdEmpty e.d = false → ∃ t, exec (.load k u) s = .next t ∧ begun t) ∧
    (u = 2 → sdOpc e.d = 2 → sdEmpty e.d = false → ∃ t, exec (.store k) s = .next t ∧ begun t) ∧
    (sdOpc e.d = 0 → x.reqs = [] → x.buf = [] → e.broken = false → e.cut = false → (∀ r ∈ rest, r.made = false) →
      ∃ t, exec (.sdNop k u) s = .next t ∧ (strmAt (coreAt t k) u).q = rest) := by
  intro x begun
  obtain ⟨hnop, hload, -, hstore, -⟩ := streamerStarts s k u e [] rest hk hu hlive hq (fun a ha => nomatch ha) hmade hbegun
  refine ⟨fun hop hbytes => ?_, fun hstrm hop hbytes => ?_, fun hop hreqs hbuf hbroken hcut hrest => ?_⟩
  · exact completes (fun d => (strmAt d u).q = { e with begun := true } :: rest) (hload hop hbytes)
      (congrArg Strm.q (strmAt_putStrm _ u _))
  · exact completes (fun d => (strmAt d u).q = { e with begun := true } :: rest) (hstore hstrm hop hbytes)
      (congrArg Strm.q (strmAt_putStrm _ u _))
  · obtain ⟨d, hexec, hq', -⟩ := hnop hop ⟨rfl, hreqs, hbuf, hbroken, hcut, hrest⟩
    exact completes (fun d => (strmAt d u).q = rest) hexec hq'

end

theorem streamersComplete : Sys2Proof.Claims.StreamersComplete := by
  intro s k u hk c x
  obtain ⟨hwb, hscrub, hclear, hsvc⟩ := scratchpad_completes (s := s) hk
  refine ⟨hwb, hscrub, hclear, hsvc, fun hlive => ⟨fun e rest hu hq hmade hbegun => descriptors_complete hk hlive hu hq hmade hbegun,
    ?_, ?_, ?_, ?_, ?_, ?_, ?_, ?_, ?_, ?_, ?_⟩⟩
  · intro e hu hreplay hcheck hgen hbegun hhead hop hmode hspace hfault hlines hbeats hbanks
    obtain ⟨d, hexec, hreqs, -⟩ := streamerRequests s k u e hk hu hlive hreplay hcheck hgen hbegun hhead hop hmode (.inl hspace) hfault
      hlines hbeats (fun _ => by rw [if_pos hspace]; exact hbanks) (fun h => by omega)
    exact completes (fun d => (strmAt d u).reqs.length = x.reqs.length + 1) hexec (by rw [hreqs, List.length_append]; rfl)
  · intro e rest r hu harr hq hcut hreqs hser hspace hdata hwrite hclean
    obtain ⟨hread, -⟩ := localLines s k u e rest r [] hk hlive (fun v hv => nomatch hv) harr hq hcut hreqs hser hspace hdata
    obtain ⟨d, hexec, -, hback⟩ := hread hu hwrite hclean
    exact completes (fun d => (strmAt d u).reqs = [{ r with data := some (clean (memRead c.mem r.addr r.len)) }]) hexec hback
  · intro e rest p hu hp hreplay hq hbegun hport hfill hbuf hroom
    obtain ⟨d, hexec, hfifo, -⟩ := ((operandBeats s k p u hk hp hu hlive).1 e rest hreplay hq hbegun hport hfill hbuf).1 hroom
    exact completes (fun d => (fifoOf d p).length = (fifoOf c p).length + 1) hexec (by rw [hfifo, List.length_append]; rfl)
  · intro e y rest tg tgs hq hy hkind htgs hreplay hhold hcredit
    obtain ⟨d, p, hexec, hout, hinj, -⟩ := (messageInjection s k e y rest tg tgs hk hlive hq hy hkind htgs).1 hreplay hhold hcredit
    exact completes (fun d => (outAt d e).sendQ = rest ∧ d.inj.length = c.inj.length + 1) hexec
      ⟨by rw [hout], by rw [hinj, List.length_append]; rfl⟩
  · intro p i hhold harr hp hgen hoff hfree
    obtain ⟨d, hexec, harr', -, hin⟩ := (messageArrival s k p hk hlive hhold harr hp).1 hgen hoff hfree
    exact completes (fun d => d.arr = [] ∧ tabHas (inAt d p.dstEp).fixed (p.chSeq % inQdepth i) = true) hexec
      ⟨harr', by rw [hin]; exact tabHas_tabSet _ _ _⟩
  · intro e pos m i hfirst hoff hclean
    obtain ⟨d, hexec, -, -, hin⟩ := (spillCopies s k e pos m hk hlive hfirst).1 hoff hclean
    exact completes (fun d => (inAt d e).spill = tabDel i.spill pos) hexec (by rw [hin])
  · intro e slot firing m key i hmatch hp htaker hdepth hfind hidle htok hroom
    obtain ⟨d, hexec, -, hh, -⟩ := messageTaken s k e slot firing m key hk hlive hmatch hp htaker hdepth hfind hidle htok hroom
    exact completes (fun d => (inAt d e).h = (i.h + 1) % 65536) hexec hh
  · intro e i hfree hcontribs
    exact completes (fun d => (inAt d e).pend = i.pend + 1) ((creditReturn s k e hk hlive).1 hfree hcontribs)
      (congrArg InEp.pend (inAt_putIn c e _))
  · intro e b i hpend hdue hcontribs
    obtain ⟨d, p, hexec, -, -, -, -, -, -, hin⟩ := (creditReturn s k e hk hlive).2.1 b hpend hdue hcontribs
    exact completes (fun d => (inAt d e).pend = i.pend - min i.pend 32) hexec (by rw [hin])
  · intro p o hhold harr hp hcredit hreturned
    obtain ⟨-, -, -, harrive⟩ := creditReturn s k 0 hk hlive
    obtain ⟨d, hexec, harr', hcount, -⟩ := harrive p hhold harr hp hcredit hreturned
    exact completes (fun d => d.arr = [] ∧ nth (outAt d (bits p.chSeq 4 0)).credit (bits p.chSeq 9 5) 0 =
      nth o.credit (bits p.chSeq 9 5) 0 + (bits p.chSeq 14 10 + 1)) hexec ⟨harr', hcount⟩
  · intro p w i hhold harr hkind hgroup hgen hoff hfree hrounds hanchor hvals hshare hpos hlen hfit hland
    obtain ⟨d, hexec, harr', hround, -⟩ := contributionAdded s k p w hk hlive hhold harr hkind hgroup hgen hoff hfree hrounds hanchor
      hvals hshare hpos hlen hfit hland
    exact completes (fun d => d.arr = [] ∧ d.rounds.map (·.got) = [p.ncontrib]) hexec ⟨harr', by rw [hround]; rfl⟩

/-! ### Meshes (R222 to R249) -/

theorem winOf_putUse (c : Core) (u f m : Nat) : winOf (putUse c u f m) u = winOf c u := by
  unfold winOf putUse
  split <;> simp

theorem winOf_putWin (c : Core) (u w off : Nat) : winOf (putWin c u w off) u = (w, off) := by
  unfold winOf putWin
  split <;> simp

/-- The commands of one packet in the bulk mesh. -/
theorem packet_completes {s : State} {p : Pkt} (hp : s.mesh.net.find? (fun q => q.id == p.id) = some p) :
    (∀ d j, hdrBad p = false → (p.mc.length ≤ 1 → forwardTo s p.at_ p.dstCore = none) → p.kind ≠ 7 → (p.vc = 0 ∨ p.vc = 2) →
      neighbour p.at_ d = some j → wantsOut s p = some (dirNo d) → flitsOf p ≤ outFree s p.at_ (dirNo d) p.vc →
      ∃ t, exec (.packetHop p.id d) s = .next t ∧ ∃ q ∈ t.mesh.net, q.id = p.id ∧ q.at_ = j) ∧
    ((p.vc = 0 ∨ p.vc = 2) → p.at_ ≠ p.dstCore → minimalOuts s p = [] →
      ∃ t, exec (.colEntry p.id) s = .next t ∧
        tabGet (routerAt t p.at_).ctr 60 0 = (tabGet (routerAt s p.at_).ctr 60 0 + 1) % 2 ^ 64) ∧
    (p.at_ = p.dstCore → p.vc ≠ 5 → hdrBad p = false → p.dtype = 2 → p.reqUnit < 16 →
      ∃ t, exec (.packetEject p.id) s = .next t ∧ t.mesh.net = s.mesh.net.filter (fun q => q.id != p.id)) := by
  refine ⟨fun d j hhdr hforward hkind hvc hj hwants hroom => ?_, fun hvc hat hnone => ?_, fun hat hvc hhdr htype hunit => ?_⟩
  · obtain ⟨t, hexec, hnet, -⟩ := (packetHops s p d j hp hhdr hforward hkind hvc hj).1 hwants hroom
    refine ⟨t, hexec, { p with at_ := j, inp := opposite (dirNo d), waited := 0,
                               cmark := max p.cmark (markLevel s p.at_ (dirNo d) p.vc) }, ?_, rfl, rfl⟩
    rw [hnet]
    exact List.mem_map.2 ⟨p, List.mem_of_find?_eq_some hp, if_pos rfl⟩
  · exact ⟨_, (colAndBadHeaders s p hp).1 hvc hat hnone, ctr_bumpRouter _ p.at_ 60 1⟩
  · obtain ⟨-, -, -, hstack, -⟩ := packetEjected s p hp hat hvc hhdr (fun h => by omega) hunit
    obtain ⟨t, hexec, hleft, -⟩ := hstack htype
    exact ⟨t, hexec, hleft⟩

/-- The engines of the sync objects take their packets. -/
theorem engines_complete {s : State} {b : Nat} {p : SyncPkt} {x : SyncObj} (hb : b < 16) (hobj : objAt s b p.obj = some x) :
    (SyncTakes s (syncFor s b 0) p → x.isToken = false → x.replica = false → p.val = x.phase →
      let a := (epOf (ctxAt s (ownerOf s b)), p.slot, p.tslot)
      x.cur.contains a = false → x.cur.length + 1 < x.participants →
      ∃ t, exec (.engineArrive b) s = .next t ∧ (objAt t b p.obj).map (·.cur) = some (x.cur ++ [a])) ∧
    (SyncTakes s (syncFor s b 1) p → x.isToken = true → x.waiting = [] → x.count + p.val < 2 ^ 32 →
      ∃ t, exec (.enginePost b) s = .next t ∧ (objAt t b p.obj).map (·.count) = some (x.count + p.val)) ∧
    (SyncTakes s (syncFor s b 2) p → x.isToken = true → x.count = 0 →
      sumOf ((basinAt s b).objs.map (fun e => e.2.waiting.length)) < 512 →
      ∃ t, exec (.engineTake b) s = .next t ∧
        (objAt t b p.obj).map (·.waiting) = some (x.waiting ++ [(p.slot, p.tslot)])) := by
  refine ⟨?_, fun htakes htok hwait hroom => ?_, fun htakes htok hcount hroom => ?_⟩
  · intro htakes htok hrep hval a hnew hmore
    have hobj1 : objAt (dropSync s p) b p.obj = some x := hobj
    have hobj2 : objAt (putObj (dropSync s p) b p.obj (counted s x a)) b p.obj = some (counted s x a) := objAt_putObj _ _ _ _
    have hopen : (counted s x a).cur.length < (counted s x a).participants := by simpa [counted] using hmore
    have hcounts : arriveObj (dropSync s p) b p (epOf (ctxAt s (ownerOf s b))) =
        putObj (dropSync s p) b p.obj (counted s x a) :=
      (arriveObj_counts hobj1 htok hval hrep hnew).trans (completePhases_open _ 2 hobj2 hopen)
    refine ⟨_, engineArrive_local hb htakes hobj hrep, ?_⟩
    rw [hcounts, objAt_bumpSync, hobj2]
    rfl
  · obtain ⟨hpost, -⟩ := tokenPool s b p x (fun _ => 0) hb hobj htok
    obtain ⟨t, hexec, hobj', -⟩ := hpost htakes hroom (by rw [hwait]; exact fun y hy => nomatch hy)
    refine ⟨t, hexec, ?_⟩
    rw [hobj', hwait]
    simp
  · obtain ⟨-, -, -, htake, -⟩ := tokenPool s b p x (fun _ => 0) hb hobj htok
    refine ⟨_, htake htakes hcount hroom, ?_⟩
    rw [objAt_bumpSync, objAt_putObj]
    rfl

/-- A core takes the answer that one of its slots waits for. -/
theorem answers_complete {s : State} {k : Nat} {p : SyncPkt} (hk : k < nCores) :
    let c := coreAt s k
    let t0 := slotAt c p.tslot
    c.holding = false → c.held = false → c.slot = some p.slot → t0.st = .sync → t0.syncObj = syncKey p.home p.obj →
    (SyncTakes s (answerFor s k 3) p → t0.takeWait = false → t0.syncPhase = (p.val + 1) % 65536 →
      ∃ t, exec (.release k) s = .next t ∧ (slotAt (coreAt t k) p.tslot).st = .running) ∧
    (SyncTakes s (answerFor s k 4) p → t0.takeWait = true →
      ∃ t, exec (.grant k) s = .next t ∧ (slotAt (coreAt t k) p.tslot).st = .running) := by
  intro c t0 hhold hlive hslot hst hobj
  obtain ⟨-, -, hrelease, hgrant⟩ := syncAnswers s k p hk hhold hst hobj
  refine ⟨fun htakes htok hphase => ?_, fun htakes htok => ?_⟩
  · obtain ⟨r, hexec, hgo, -⟩ := hrelease htakes hlive hslot htok hphase
    exact ⟨_, hexec, by rw [coreAt_putCore, hgo]⟩
  · exact ⟨_, hgrant htakes hlive hslot htok, by rw [coreAt_putCore, slotAt_putSlot]⟩

theorem meshesComplete : Sys2Proof.Claims.MeshesComplete := by
  intro s k hk c
  obtain ⟨hflip, hmarker, -, hsweep, -⟩ := flipsAndSweeps s
  refine ⟨fun hnone => ⟨_, (wedgeFound s []).1 hnone, rfl⟩, fun p hfind hvc hgap hroom htype => ?_, fun p hp => packet_completes hp,
    fun dir => ?_, fun d cut hd hgap => ⟨?_, fun dir hlink => ?_⟩, fun hflipping => ⟨_, hflip hflipping, rfl, rfl⟩,
    fun hold hflipping hrouters hnodes => ?_, fun d hdrains => ?_, ?_,
    ?_, fun h data m n hm hready hsrc hdst hbad hopen hop hlo hhi => ?_,
    fun b p x hb hobj => engines_complete hb hobj, fun p => answers_complete hk⟩
  · obtain ⟨t, hexec, hnet, -⟩ := ((packetInjected s k p hk hfind hvc).2 hgap hroom).2.1 htype
    exact ⟨t, hexec, by rw [hnet, List.length_append]; rfl⟩
  · obtain ⟨-, -, -, hreplay⟩ := windowsAndReplays s k 0 false (0, 0) dir hk (by decide)
    exact ⟨_, hreplay, ctr_bumpRouter s k (66 + dirNo dir) 1⟩
  · obtain ⟨⟨t, hexec, hreason, -⟩, -⟩ := hardGapTaken s d 5 cut hd hgap (.inl rfl)
    exact ⟨t, hexec, by rw [isGap, hreason]; rfl⟩
  · obtain ⟨-, hlinks⟩ := hardGapTaken s d 5 cut hd hgap (.inl rfl)
    obtain ⟨t, hexec, hreason, -⟩ := hlinks k dir hk hlink
    have hr := linkDie_reason k dir
    exact ⟨t, hexec, decide_eq_true (by omega)⟩
  · obtain ⟨t, hexec, hretired, -⟩ := hmarker hold hflipping hrouters hnodes
    exact ⟨t, hexec, hretired⟩
  · obtain ⟨t, hexec, hpass, -⟩ := hsweep d hdrains
    exact ⟨t, hexec, by rw [hpass]; rfl⟩
  · intro outbound j e u hj hecho hmark hoff
    obtain ⟨hhalve, -⟩ := windowsAndReplays s k j outbound e .east hk hj
    exact completes (fun d => (winOf d u).1 = max 1 ((winOf c u).1 / 2)) (hhalve hecho hmark hoff)
      (congrArg Prod.fst (winOf_putWin { c with echoes := c.echoes.erase e } u (max 1 ((winOf c u).1 / 2)) 4))
  · intro outbound j u hj hquiet
    obtain ⟨-, -, htick, -⟩ := windowsAndReplays s k j outbound (0, 0) .east hk hj
    rw [if_pos hquiet] at htick
    exact completes (fun d => (winOf d u).1 = min 64 ((winOf c u).1 + 1)) htick (by rw [winOf_putUse, winOf_putWin])
  · obtain ⟨-, -, hread, -⟩ := controlPackets s h data m n hm hready hsrc hdst
    obtain ⟨t, hexec, -, hout⟩ := hread hbad hopen hop hlo hhi
    exact ⟨t, hexec, by rw [hout, List.length_append]; rfl⟩

/-! ### Accesses (R293, R435, R444) -/

theorem accessesComplete : Sys2Proof.Claims.AccessesComplete := by
  intro s
  refine ⟨?_, fun v push hready hagree => ?_, fun o hready ho halign hsite hgap hagree => ?_⟩
  · intro n h bytes sigOk x r ht hlen hok hnew hdomain hep halone hfenced hmember hone hents
    obtain ⟨-, -, -, -, -, -, -, -, hadopt, -⟩ := plainHostCommands s n 0xC h bytes sigOk ht
    obtain ⟨t, hexec, hended, hepoch, -⟩ := hadopt rfl hlen hok hnew hdomain hep halone hfenced hmember hone hents
    exact ⟨t, hexec, hended, hepoch⟩
  · obtain ⟨-, -, hregs, -⟩ := registerWrites s 0x28 8 v push
    obtain ⟨-, henable, -⟩ := hregs hready hagree
    exact ⟨_, henable, rfl⟩
  · obtain ⟨-, hshown, -⟩ := windowAccesses s o hready ho halign
    obtain ⟨-, -, hread, -⟩ := hshown hsite
    exact ⟨_, hread hgap hagree, rfl⟩

/-- Settles O60: each completion by the stronger claim on its command. -/
theorem commandsComplete : Obligations.CommandsComplete :=
  ⟨codeCompletes, enginesComplete, streamersComplete, meshesComplete, accessesComplete⟩

end Sys2Proof.Machine

/-! PROOFS. A closing message whose answer finds no credit (O35). -/

namespace Sys2Proof.Machine

open Tests

theorem exec_ctxClose (p : Nat) (w : WirePkt) (s : State) : exec (.ctxClose p w) s = execCtxClose p w s := rfl

/-- CTX_CLOSE of endpoint 9. -/
def closing9 : FabPkt := mgmt 3 (leBytes 4 9)

/-- The keyed pair of `fab` with a packet at port 3 that waits before every ACK and takes all credit of the MGMT lane. -/
def crowdedPair : State := fabPort { upPort with ctlQ := [(2, 5, lanePkt)] }

/-- The message received and acknowledged: what waited for the link has gone out before the ACK. -/
def closingTaken : State := fragJoined (rxLeaves (rxCheck (linkRx crowdedPair 3 closing9.lines) 3 closing9)) 3 closing9

/-- An output that would be the answer. -/
def isCloseAck : Output → Bool
  | .fabric _ g => g.type == 9 && g.code == 4
  | _ => false

/-- The message meets every premise of the claim. -/
theorem crowdedPair_came :
    Arrives crowdedPair 3 (wire closing9) closing9 ∧ closing9.type = 9 ∧ FabNext crowdedPair 3 closing9 2 5 ∧
    leNat (closing9.payload.take 2) = 0 ∧ leNat ((closing9.payload.drop 2).take 2) = 1 ∧
    (rxAt crowdedPair 3 closing9.srcId closing9.dstId 2).frag = 0 ∧ leNat ((closing9.payload.drop 4).take 4) ≤ 504 := by
  decide +kernel

theorem crowdedPair_stream :
    (txAt crowdedPair 3 2 5 2).unacked = [] ∧ (txAt crowdedPair 3 2 5 2).sent = 0 ∧ (txAt crowdedPair 3 2 5 2).hold = 0 ∧
    1 ≤ (txAt crowdedPair 3 2 5 2).window ∧ linkRoom crowdedPair 3 2 8 = true := by
  decide +kernel

/-- The message names the peer of its entry. -/
theorem closing9_peer :
    bits (leNat (((closing9.payload.drop 8).take 504).take (leNat ((closing9.payload.drop 4).take 4)))) 19 0 =
      (entAt crowdedPair 5).peer ∧ (entAt closingTaken 5).peer = (entAt crowdedPair 5).peer := by
  decide +kernel

/-- The receive checks pass the message, and it is the first fragment of its stream. -/
theorem crowdedPair_goes : rxGoes25 (rxCheck (linkRx crowdedPair 3 closing9.lines) 3 closing9) = true ∧
    (rxAt (fragAcked (rxLeaves (rxCheck (linkRx crowdedPair 3 closing9.lines) 3 closing9)) 3 closing9) 3 closing9.srcId
      closing9.dstId 2).frag = 0 := by
  decide +kernel

theorem closingTaken_starved : MgmtStarved 3 closingTaken.out closingTaken := ⟨by decide +kernel, rfl⟩

theorem closingTaken_out : ∀ o ∈ closingTaken.out, isCloseAck o = false := by decide +kernel

/-- The answer to a closing message, and the entry that is no longer keyed. -/
def closeAnswered (s : State) (p n i : Nat) (msg : List Byte) : State :=
  putEnt (sendMgmt s p n i 4 (fitBytes 8 msg)) i { entAt (sendMgmt s p n i 4 (fitBytes 8 msg)) i with keyed := false }

theorem closeAnswered_out (s : State) (p n i : Nat) (msg : List Byte) :
    (closeAnswered s p n i msg).out = (sendMgmt s p n i 4 (fitBytes 8 msg)).out := rfl

/-- The message is taken, and its answer is given to the MGMT stream. -/
theorem crowdedPair_closes : exec (.ctxClose 3 (wire closing9)) crowdedPair = .next (closeAnswered closingTaken 3 2 5
    (((closing9.payload.drop 8).take 504).take (leNat ((closing9.payload.drop 4).take 4)))) := by
  obtain ⟨harrives, htype, -, hfirst, honly, -, hlen⟩ := crowdedPair_came
  obtain ⟨hgo, hfrag⟩ := crowdedPair_goes
  obtain ⟨hnamed, hpeer⟩ := closing9_peer
  rw [exec_ctxClose, execCtxClose, rxMgmt_goes (code := 3) _ harrives htype rfl (eq_go_of_rxGoes25 hgo),
    takeFrag_whole 2 5 _ hfirst honly hlen hfrag]
  exact congrArg Host.Outcome.next (if_neg (not_not.2 (hnamed.trans hpeer.symm)))

/-- Refutes O35: as in O34, what waits at a port for the link goes out before the ACK of a management message and can take the
credit that the answer needs (FabricMessages, CTX_CLOSE): the acknowledgement of the closing is queued and not sent. -/
theorem not_fabricExchange : ¬ Obligations.FabricExchange := by
  unfold Obligations.FabricExchange
  rintro ⟨-, -, -, hmessages⟩
  obtain ⟨hunacked, hsent, hhold, hwindow, hroom⟩ := crowdedPair_stream
  obtain ⟨hclose, -⟩ := hmessages crowdedPair 3 2 5 (wire closing9) closing9 (by decide) (by decide) hunacked hsent hhold hwindow hroom
  obtain ⟨t, hexec, -, g, hg, htype, hcode, -⟩ := hclose crowdedPair_came rfl closing9_peer.1
  have ht : t.out = closingTaken.out := by
    rw [← Host.Outcome.next.inj (crowdedPair_closes.symm.trans hexec), closeAnswered_out]
    exact (closingTaken_starved.sendMgmt 2 5 4 _).2
  have hnone := closingTaken_out (.fabric 3 g) (by rw [← ht]; exact List.mem_of_mem_drop hg)
  simp [isCloseAck, htype, hcode] at hnone

end Sys2Proof.Machine

/-! PROOFS. The result of a RETIRE whose record is written, over a core table that does not list its cores in rising order (O51). -/

namespace Sys2Proof.Machine

theorem exec_ledgerRecordWritten (s : State) : exec .ledgerRecordWritten s = execLedgerRecordWritten s := rfl

/-- The oldest record that waits, written in both copies with the next SEQ (R27, R30). -/
def recordKept (s : State) (j : LJob) (rest : List LJob) : State :=
  let r : LRec := { seq := nextSeq s.flash, type := j.type, reason := j.reason, target := j.target,
                    boot := s.sup.bootCount % 65536, detail := j.detail }
  { s with heal := { s.heal with ledgerQ := rest },
           flash := { putLedger s.flash (ledgerPair s.flash ++ [{ a := some r, b := some r }]) with seqNext := nextSeq s.flash + 1 } }

/-- A record written for which a RETIRE waits: its cores are RETIRED, then the command completes with the good cores that are
counted then (R24, R30, R331). -/
theorem ledgerRecordWritten_completes {s : State} {j : LJob} {rest : List LJob} {n tag ring st : Nat} {q : Bool}
    (hqueue : s.heal.ledgerQ = j :: rest) (hcmd : j.cmd = some (n, tag, ring, q, st)) :
    exec .ledgerRecordWritten s = .next (countRetire (complete (retireFenced (recordKept s j rest) j) n
      (comp tag ring st (goodOf (retireFenced (recordKept s j rest) j) n) 0 q)) j) := by
  rw [exec_ledgerRecordWritten, execLedgerRecordWritten, hqueue]
  simp only [hcmd]
  rfl

/-- The record of core 0, for which a RETIRE of context 0 waits. -/
def core0Record : LJob := { type := 1, reason := 7, target := 0, detail := 0, cmd := some (0, 0, 0, false, 0) }

/-- Basin 0 granted to context 0, with core 0 FENCED, in a core table that lists core 1 before core 0. -/
def core0Fenced : State :=
  { State.reset with cores := [(1, {}), (0, { st := .fenced })], basins := [(0, { ctx := some 0 })],
                     heal := { State.reset.heal with ledgerQ := [core0Record] } }

/-- Core 0 made RETIRED: its new entry goes in front of core 1, and the old one stays behind it. -/
theorem core0Fenced_retired :
    (retireFenced (recordKept core0Fenced core0Record []) core0Record).cores =
      [(0, { st := .retired }), (1, {}), (0, { st := .fenced })] := by
  decide +kernel

/-- Core 0 is out of service before and after, and is counted once before and twice after. -/
theorem core0Fenced_good : goodOf core0Fenced 0 = 575 ∧
    goodOf (retireFenced (recordKept core0Fenced core0Record []) core0Record) 0 = 574 := by
  decide +kernel

/-- The state in which the record of core 0 is written. -/
def core0Written : State :=
  countRetire (complete (retireFenced (recordKept core0Fenced core0Record []) core0Record) 0
    (comp 0 0 0 (goodOf (retireFenced (recordKept core0Fenced core0Record []) core0Record) 0) 0 false)) core0Record

theorem core0Written_results : (ctxAt core0Written 0).comps.map Comp.r0 = [574] := by decide +kernel

/-- Refutes O51: the statement holds the cores of every state to account, also of one whose core table is not in rising order
(Retirements, a record written). The FENCED core that becomes RETIRED is then listed twice, so that the RETIRE completes with
one good core less than were counted before the record. -/
theorem not_healingMoves : ¬ Obligations.HealingMoves := by
  unfold Obligations.HealingMoves
  rintro ⟨-, -, -, -, hretirements⟩
  obtain ⟨-, hwritten, -⟩ := hretirements core0Fenced 0 (Tests.retireCmd 0 0)
  obtain ⟨t, hexec, -, -, -, -, hcomps⟩ := hwritten core0Record [] rfl
  have ht : core0Written = t := Host.Outcome.next.inj ((ledgerRecordWritten_completes rfl rfl).symm.trans hexec)
  have hgood := congrArg (List.map Comp.r0) (hcomps 0 0 false 0 rfl rfl)
  rw [← ht, core0Written_results, core0Fenced_good.1] at hgood
  exact absurd hgood (by decide)

end Sys2Proof.Machine
